-- ==== Sys2Proof/Word.lean ====
section
/-! DEFINITION. The byte of the device's memories and the base name space. -/
namespace Sys2Proof

/-- One byte of a scratchpad, of HBM, of a message or of flash. -/
abbrev Byte := BitVec 8

end Sys2Proof
end

