-- ==== Sys2Proof/Syntax.lean ====
section
/-! DEFINITION. The commands of the block: one constructor per row of the table of operations and events, with the
operands that the event carries. -/
namespace Sys2Proof

/-- Where a dictionary request arrives and in whose name (R59, R63, R64): port 0 to 63 a link, 64 the management port,
65 internal; for link requests `src` is the sender's number. -/
structure Hdr where
  port : Nat
  session : Nat
  tag : Nat
  version : Nat
  src : Nat
deriving DecidableEq, Repr

/-- A dictionary request (R59): header, object, data bytes and, for segments, the offset. -/
structure Req where
  hdr : Hdr
  index : Nat
  sub : Nat
  data : List Nat
  offset : Nat
  length : Nat
deriving DecidableEq, Repr

/-- A flit as it arrives (R340); the payload lists the bytes in use, the rest being 0. -/
structure Flit where
  ftype : Nat
  vc : Nat
  last : Bool
  seq : Nat
  ack : Nat
  nak : Bool
  cvc : Nat
  credit : Nat
  len : Nat
  dest : Nat
  src : Nat
  part : Nat
  priv : Bool
  msgid : Nat
  crc : Nat
  payload : List Nat
deriving DecidableEq, Repr

/-- What the decoder says of the codeword that begins in a flit (R339): the symbols it corrected, or that it could not be
corrected; and with the first flit of a group the group's 80 framing bits (R337). A flit in which no codeword begins and that is
not the first of its group brings nothing here. -/
structure Fec where
  corrected : Nat
  uncorrectable : Bool
  frame : Nat
deriving DecidableEq, Repr

/-- A NEGOTIATE payload (R354). -/
structure Nego where
  verMin : Nat
  verMax : Nat
  generation : Nat
  role : Nat
  reason : Nat
  number : Nat
  assign : Nat
  chosen : Nat
  vcmask : Nat
  credVc0 : Nat
  credVc2 : Nat
  credVc3 : Nat
  credVc4 : Nat
  deviceId : Nat
deriving DecidableEq, Repr

/-- A TIMEMARK payload (R357) with the receive stamp; stamps in 1/256 tick, OFFSET in two's complement. -/
structure Mark where
  tx : Nat
  depth : Nat
  source : Bool
  echoValid : Bool
  offset : Int
  echo : Nat
  echoHold : Nat
  rx : Nat
  reservedZero : Bool
deriving DecidableEq, Repr

/-- A TIMEMARK as it arrives (R342, R357): its flit's header and the mark. -/
structure MarkFlit where
  f : Flit
  m : Mark
deriving DecidableEq, Repr

/-- A flit that arrives on a link. -/
structure OnLink where
  l : Nat
  f : Flit
deriving DecidableEq, Repr

/-- What the boot steps meet (R494): strap RCVR_N, PUF reconstruction, backup CRC, stacks failing training (bit s),
the lowest ageing trim each quadrant's monitors accept (R448), every sensor below 100 °C (R528). -/
structure BootEnv where
  rcvrLow : Bool
  pufOk : Bool
  backupCrcOk : Bool
  failStacks : Nat
  trims : List Nat
  cool : Bool
deriving DecidableEq, Repr

/-- What a read of protected storage finds: nothing, a corrected error, an uncorrectable one, a checksum mismatch (WM
granules), a parity retry that failed, or a report of the stack's on-die ECC, corrected or not (HBM) (R237 to R242, R277). -/
inductive Finding where
  | clean
  | corrected
  | uncorrectable
  | checksum
  | parity
  | onDieCorrected
  | onDieUncorrectable
deriving DecidableEq, Repr

/-- The instructions of the test port (R529). -/
inductive TapInstr where
  | bypass
  | idcode
  | samplePreload
  | extest
  | extestPulse
  | extestTrain
  | internalScan
  | memoryAccess
deriving DecidableEq, Repr

/-- The commands of the block: one per row of the table. `c` names a core, `u` an update engine, `r` a reduction
engine, `p` a partition, `ch` a reduction channel, `l` a link, `q` a quadrant, `d` a power domain. -/
inductive Instr where
  -- matrix engine
  | mxNop (c : Nat)
  | mxQuiesce (c : Nat)
  | mxPass (c : Nat)
  | mxGang (c : Nat)
  | mxExt (c : Nat)
  | passComplete (c : Nat)
  | interlockStop (c : Nat) (syndrome : Nat)
  -- vector engine
  | vxNop (c : Nat)
  | vxSetlen (c : Nat)
  | vxEp (c : Nat)
  | vxCvt (c : Nat)
  | vxExt (c : Nat)
  | vxComplete (c : Nat) (yields : Nat)
  -- move engine
  | mvNop (c : Nat)
  | mvFence (c : Nat)
  | mvCopy (c : Nat)
  | mvCopy2d (c : Nat)
  | mvTload (c : Nat)
  | mvSpload (c : Nat)
  | mvExt (c : Nat)
  | moveComplete (c : Nat) (badGranules : List Nat)
  | runAheadRead (c : Nat)
  -- gather engine
  | gtNop (c : Nat)
  | gtRows (c : Nat)
  | gtExt (c : Nat)
  | gatherComplete (c : Nat)
  -- update engines
  | upNop (u p : Nat)
  | upApply (u p : Nat)
  | upDerive (u p : Nat)
  | upExt (u p : Nat)
  | updateComplete (u p : Nat)
  -- reduction engines, votes and swatch exchange
  | rdNop (r p : Nat)
  | rdBucket (r p : Nat)
  | rdRepass (r p : Nat)
  | rdExt (r p : Nat)
  | contributionReady (ch : Nat)
  | contribDeadline (ch : Nat)
  | holdLimitExpire (ch : Nat)
  | lateContribution (ch : Nat)
  | scale (l : Nat)
  | rs (l : Nat)
  | ag (l : Nat)
  | list (l : Nat)
  | repassRs (l : Nat)
  | repassAg (l : Nat)
  | abort (l : Nat)
  | bucketComplete (ch : Nat)
  | vote (l : Nat)
  | voteClose (p : Nat)
  | decisionInDoubt (p : Nat)
  | swatch (l : Nat)
  | swatchExchange (p : Nat)
  -- lists and schedules; `k` names an engine by its code (1 MXE to 6 RDE), `n` its number, `p` the partition
  | listFetch (k n p : Nat)
  | commandSlotUnreadable (k n p : Nat)
  | commandLate (k n p : Nat)
  | scheduleStart (p : Nat)
  | attemptEnd (p : Nat)
  | segmentEnd (p : Nat)
  | scheduleResume (p : Nat)
  -- the dictionary
  | dictRead (q : Req)
  | dictWrite (q : Req)
  | readStaged (q : Req)
  | segmentRead (q : Req)
  | segmentWrite (q : Req)
  | segmentClose (q : Req)
  | negotiate (h : Hdr) (lo hi : Nat)
  | commitAsap (h : Hdr)
  | commitAtTick (h : Hdr)
  | commitDiscard (h : Hdr)
  | commitApply (session : Nat)
  | partitionReleased (p : Nat)
  | channelZeroised (k : Nat)
  | wayDrained (q w : Nat)
  | accAreaLocked (q : Nat)
  | forceDiscard (h : Hdr) (session : Nat)
  | sessionOpen (h : Hdr) (session : Nat)
  | sessionClose (h : Hdr) (session : Nat)
  | snapshotAsap (h : Hdr)
  | snapshotAtTick (h : Hdr)
  | snapshotTake
  | clear (h : Hdr)
  | clearApply
  | zeroise (h : Hdr) (c : Nat)
  | resolveCommit (h : Hdr) (p : Nat)
  | resolveAbandon (h : Hdr) (p value : Nat)
  | jobDamaged (h : Hdr) (p : Nat)
  | ftSet (h : Hdr) (value : Nat)
  | pwrWaitSet (h : Hdr) (c : Nat)
  | pwrWaitCancel (h : Hdr) (c : Nat)
  -- silent errors
  | coreClass (h : Hdr) (c value : Nat)
  | fenceReq (h : Hdr) (c : Nat)
  | scanReq (h : Hdr) (c : Nat)
  | scanStart (c : Nat)
  | scanComplete (c : Nat) (passed : Bool)
  | scanAbandon (c : Nat)
  | scanPeriodExpire
  | unitFault (h : Hdr) (unit : Nat)
  -- boot and security
  | svnCommit (h : Hdr)
  | dbgChallenge (h : Hdr)
  | dbgRequest (h : Hdr) (level : Nat)
  | dbgLock (h : Hdr)
  | dbgResponse (h : Hdr) (signature : Nat)
  | debugFullEnter
  | sanitise (h : Hdr) (value : Nat)
  | flashErase (h : Hdr)
  | flashProgram (h : Hdr)
  | flashRead (h : Hdr)
  | flashOpDone (ok : Bool)
  | blkReset (h : Hdr) (c value : Nat)
  | portReset (h : Hdr) (port : Nat)
  | lnkEnable (h : Hdr) (l : Nat) (on : Bool)
  | capW (h : Hdr) (watts : Nat)
  | ctrlMode (h : Hdr)
  -- management port
  | entdaa (address : Nat)
  | mctpControl (request : List Nat)
  | getVersion (version : Nat)
  | getCapabilities (version : Nat)
  | negotiateAlgorithms (version baseAsym baseHash measHash : Nat)
  | getDigests (version : Nat)
  | getCertificate (version slot offset length : Nat)
  | challenge (version slot nonce : Nat)
  | getMeasurements (version nonce block : Nat)
  -- links
  | flitSlot (l : Nat)
  | null (l : Nat) (f : Flit)
  | flitDataReceive (l : Nat) (f : Flit) (e : Fec)
  | framingRetrain (l : Nat)
  | ackDeadlineExpire (l : Nat)
  | linkFail (l : Nat) (reason : Nat)
  | messageReassemblyTimeout (l vc : Nat)
  | readReq (l : Nat)
  | readData (l : Nat)
  | write (l : Nat)
  | writeAck (l : Nat)
  | error (l : Nat)
  | remoteTimeout (msgid : Nat)
  | linkTrain (l : Nat)
  | trainingTimeout (l : Nat)
  | failedRetry (l : Nat)
  | offer (l : Nat) (n : Nego)
  | accept (l : Nat) (n : Nego)
  | refuse (l : Nat) (n : Nego)
  | offerSend (l : Nat)
  | routeReturn (l : Nat)
  | standbyReq (l : OnLink)
  | standbyAck (l : OnLink)
  | standbyNak (l : OnLink)
  | standbyStart (l : Nat)
  | laneWake (l : Nat)
  -- fabric time
  | timemark (l : Nat) (m : MarkFlit)
  | timemarkSend (l : Nat)
  | markTimeout
  | ftrefLoss
  | referenceLock
  | holdoverExpire
  | ftppsEdge (phase : Int)
  -- switches and placement
  | switchRequest (c : Nat)
  | switchDone (c : Nat)
  | swLinkLimitExpire (c : Nat)
  | beAdmission (p : Nat)
  | quantumExpire (p : Nat)
  | preemptForce (slot : Nat)
  | stainStop (slot : Nat)
  -- power and energy
  | meterUpdate
  | ledgerWindowEnd (measured : List Nat) (estimate : Nat) (shares : List Nat)
  | peakEvaluate (sum without : Nat)
  | segmentBegin (p : Nat)
  | opRampDone (q : Nat)
  | droopDetect (q : Nat)
  | droopRelease (q : Nat)
  | slackShort (q : Nat)
  | corePowerEntry (c : Nat)
  | domainPowerEntry (d : Nat)
  | powerEntryAbandon (d : Nat)
  | domainWake (d : Nat)
  | domainReturnDone (d : Nat) (found : List (Nat × Nat))
  | wakeN (e : BootEnv)
  -- storage upkeep
  | scrubRead (c space word : Nat) (found : Finding)
  | patrolScrub (k line : Nat) (found : Finding)
  | hbmRefresh (stack : Nat) (management : Bool)
  | hbmTempRead (stack temp : Nat)
  | trackerAdmit (q : Nat)
  -- reset, rails and pins
  | powerOnReset (vbkp : Bool) (e : BootEnv)
  | resetNAssert
  | resetNRelease (e : BootEnv)
  | coreRelease
  | patternCheckDone (ok : Bool)
  | recoveryFlashWrite (l : Nat)
  | recoveryFlashRead (l : Nat)
  | recoveryVerify (l : Nat) (e : BootEnv)
  | busHang (unit : Nat)
  | railFault (rail : Nat)
  | thermtrip
  | avsTimeout (q : Nat)
  | alertExpire
  | partitionCreated (p : Nat)
  | powerEntryComplete (d : Nat)
  | sanitiseComplete
  | accAreaUnlocked (q : Nat)
  | stageCacheScrub (q line : Nat) (found : Finding)
  | avsbusAnswer (q : Nat)
  | tapInstruction (i : TapInstr)
  | thermalObjectsUpdate (temps : List Nat)
deriving DecidableEq, Repr

end Sys2Proof
end

