-- ==== Sys2Proof/WellFormed.lean ====
section
/-! DEFINITION. Which terms are commands: every unit that a command names exists, every field fits its place in a message. -/
namespace Sys2Proof

/-- A header's fields fit the message (R59) and its port exists (R63, R64). -/
def Hdr.wf (h : Hdr) : Bool := h.port < 66 && h.session < 256 && h.tag < 65536 && h.version < 256 && h.src < 65536

/-- Data are bytes, at most 224 of them (R59). -/
def dataOk (d : List Nat) : Bool := d.length ≤ 224 && d.all (fun b => b < 256)

/-- A request fits its message (R59). -/
def Req.wf (q : Req) : Bool :=
  q.hdr.wf && q.index < 65536 && q.sub < 256 && dataOk q.data && q.offset < 2 ^ 32 && q.length < 65536

/-- A flit's fields fit their places (R340). -/
def Flit.wf (f : Flit) : Bool :=
  f.ftype < 16 && f.vc < 8 && f.seq < 4096 && f.ack < 4096 && f.cvc < 8 && f.credit < 256 && f.len < 256 && f.dest < 4096 &&
  f.src < 4096 && f.part < 16 && f.msgid < 2 ^ 15 && f.crc < 2 ^ 32 && f.payload.length ≤ 240 && f.payload.all (fun b => b < 256)

/-- A negotiation payload's fields fit their places (R354). -/
def Nego.wf (n : Nego) : Bool :=
  n.verMin < 65536 && n.verMax < 65536 && n.generation < 256 && n.role < 256 && n.reason < 256 && n.number < 65536 &&
  n.assign < 65536 && n.chosen < 65536 && n.vcmask < 256 && n.deviceId < 2 ^ 256

/-- An engine: of a core (its code 1 to 4), an update engine's or a reduction engine's context. -/
def engOk (k n p : Nat) : Bool :=
  (1 ≤ k && k ≤ 4 && n < 64) || (k == 5 && n < 20 && p < 16) || (k == 6 && n < 8 && p < 16)

/-- A bus unit is a stage cache or a die-to-die edge (R72, R499). -/
def busUnit (u : Nat) : Bool := (0x5000 ≤ u && u < 0x5004) || (0x6000 ≤ u && u < 0x6004)

/-- The command is well formed. -/
def Instr.wf (i : Instr) : Bool :=
  match i with
  | .mxNop c => c < 64
  | .mxQuiesce c => c < 64
  | .mxPass c => c < 64
  | .mxGang c => c < 64
  | .mxExt c => c < 64
  | .passComplete c => c < 64
  | .interlockStop c syndrome => c < 64 && 1 ≤ syndrome && syndrome ≤ 5
  | .vxNop c => c < 64
  | .vxSetlen c => c < 64
  | .vxEp c => c < 64
  | .vxCvt c => c < 64
  | .vxExt c => c < 64
  | .vxComplete c _ => c < 64
  | .mvNop c => c < 64
  | .mvFence c => c < 64
  | .mvCopy c => c < 64
  | .mvCopy2d c => c < 64
  | .mvTload c => c < 64
  | .mvSpload c => c < 64
  | .mvExt c => c < 64
  | .moveComplete c _ => c < 64
  | .runAheadRead c => c < 64
  | .gtNop c => c < 64
  | .gtRows c => c < 64
  | .gtExt c => c < 64
  | .gatherComplete c => c < 64
  | .upNop u p => u < 20 && p < 16
  | .upApply u p => u < 20 && p < 16
  | .upDerive u p => u < 20 && p < 16
  | .upExt u p => u < 20 && p < 16
  | .updateComplete u p => u < 20 && p < 16
  | .rdNop r p => r < 8 && p < 16
  | .rdBucket r p => r < 8 && p < 16
  | .rdRepass r p => r < 8 && p < 16
  | .rdExt r p => r < 8 && p < 16
  | .contributionReady ch => ch < 32
  | .contribDeadline ch => ch < 32
  | .holdLimitExpire ch => ch < 32
  | .lateContribution ch => ch < 32
  | .scale l => l < 64
  | .rs l => l < 64
  | .ag l => l < 64
  | .list l => l < 64
  | .repassRs l => l < 64
  | .repassAg l => l < 64
  | .abort l => l < 64
  | .bucketComplete ch => ch < 32
  | .vote l => l < 64
  | .voteClose p => p < 16
  | .decisionInDoubt p => p < 16
  | .swatch l => l < 64
  | .swatchExchange p => p < 16
  | .listFetch k n p => engOk k n p
  | .commandSlotUnreadable k n p => engOk k n p
  | .commandLate k n p => engOk k n p
  | .scheduleStart p => p < 16
  | .attemptEnd p => p < 16
  | .segmentEnd p => p < 16
  | .scheduleResume p => p < 16
  | .dictRead q => q.wf
  | .dictWrite q => q.wf
  | .readStaged q => q.wf
  | .segmentRead q => q.wf
  | .segmentWrite q => q.wf && !q.data.isEmpty
  | .segmentClose q => q.wf && q.data.isEmpty
  | .negotiate h lo hi => h.wf && lo < 65536 && hi < 65536
  | .commitAsap h => h.wf
  | .commitAtTick h => h.wf
  | .commitDiscard h => h.wf
  | .commitApply session => session < 64
  | .partitionReleased p => p < 16
  | .channelZeroised k => k < 320
  | .wayDrained q w => q < 4 && w < 16
  | .accAreaLocked q => q < 4
  | .forceDiscard h session => h.wf && session < 256
  | .sessionOpen h session => h.wf && session < 64
  | .sessionClose h session => h.wf && session < 64
  | .snapshotAsap h => h.wf
  | .snapshotAtTick h => h.wf
  | .snapshotTake => true
  | .clear h => h.wf
  | .clearApply => true
  | .zeroise h c => h.wf && c < 64
  | .resolveCommit h p => h.wf && p < 16
  | .resolveAbandon h p value => h.wf && p < 16 && value < 256
  | .jobDamaged h p => h.wf && p < 16
  | .ftSet h value => h.wf && value < 2 ^ 64
  | .pwrWaitSet h c => h.wf && c < 64
  | .pwrWaitCancel h c => h.wf && c < 64
  | .coreClass h c value => h.wf && c < 64 && value < 256
  | .fenceReq h c => h.wf && c < 256
  | .scanReq h c => h.wf && c < 256
  | .scanStart c => c < 64
  | .scanComplete c _ => c < 64
  | .scanAbandon c => c < 64
  | .scanPeriodExpire => true
  | .unitFault h unit => h.wf && unit < 65536
  | .svnCommit h => h.wf
  | .dbgChallenge h => h.wf
  | .dbgRequest h level => h.wf && level < 256
  | .dbgLock h => h.wf
  | .dbgResponse h signature => h.wf && signature < 2 ^ 512
  | .debugFullEnter => true
  | .sanitise h value => h.wf && value < 256
  | .flashErase h => h.wf
  | .flashProgram h => h.wf
  | .flashRead h => h.wf
  | .flashOpDone _ => true
  | .blkReset h c value => h.wf && c < 64 && value < 256
  | .portReset h port => h.wf && port < 8
  | .lnkEnable h l _ => h.wf && l < 64
  | .capW h watts => h.wf && watts < 65536
  | .ctrlMode h => h.wf
  | .entdaa address => address < 128
  | .mctpControl request => request.all (fun b => b < 256)
  | .getVersion _ => true
  | .getCapabilities _ => true
  | .negotiateAlgorithms _ _ _ _ => true
  | .getDigests _ => true
  | .getCertificate _ _ _ _ => true
  | .challenge _ _ nonce => nonce < 2 ^ 256
  | .getMeasurements _ nonce block => nonce < 2 ^ 256 && block < 256
  | .flitSlot l => l < 64
  | .null l f => l < 64 && f.wf
  | .flitDataReceive l f e => l < 64 && f.wf && e.frame < 2 ^ 80
  | .framingRetrain l => l < 64
  | .ackDeadlineExpire l => l < 64
  | .linkFail l reason => l < 64 && 1 ≤ reason && reason ≤ 4
  | .messageReassemblyTimeout l vc => l < 64 && vc < 8
  | .readReq l => l < 64
  | .readData l => l < 64
  | .write l => l < 64
  | .writeAck l => l < 64
  | .error l => l < 64
  | .remoteTimeout msgid => msgid < 2 ^ 15
  | .linkTrain l => l < 64
  | .trainingTimeout l => l < 64
  | .failedRetry l => l < 64
  | .offer l n => l < 64 && n.wf
  | .accept l n => l < 64 && n.wf
  | .refuse l n => l < 64 && n.wf
  | .offerSend l => l < 64
  | .routeReturn l => l < 64
  | .standbyReq l => l.l < 64 && l.f.wf
  | .standbyAck l => l.l < 64 && l.f.wf
  | .standbyNak l => l.l < 64 && l.f.wf
  | .standbyStart l => l < 64
  | .laneWake l => l < 64
  | .timemark l m => l < 64 && m.f.wf
  | .timemarkSend l => l < 64
  | .markTimeout => true
  | .ftrefLoss => true
  | .referenceLock => true
  | .holdoverExpire => true
  | .ftppsEdge _ => true
  | .switchRequest c => c < 64
  | .switchDone c => c < 64
  | .swLinkLimitExpire c => c < 64
  | .beAdmission p => p < 16
  | .quantumExpire p => p < 16
  | .preemptForce slot => slot < 16
  | .stainStop slot => slot < 16
  | .meterUpdate => true
  | .ledgerWindowEnd measured _ _ => measured.length ≤ 7
  | .peakEvaluate _ _ => true
  | .segmentBegin p => p < 16
  | .opRampDone q => q < 4
  | .droopDetect q => q < 4
  | .droopRelease q => q < 4
  | .slackShort q => q < 4
  | .corePowerEntry c => c < 64
  | .domainPowerEntry d => d < 77
  | .powerEntryAbandon d => d < 77
  | .domainWake d => d < 77
  | .domainReturnDone d _ => d < 77
  | .wakeN _ => true
  | .scrubRead c space _ _ => c < 64 && space < 4
  | .patrolScrub k line _ => k < 320 && line < 25165824
  | .hbmRefresh stack _ => stack < 20
  | .hbmTempRead stack temp => stack < 20 && temp < 65536
  | .trackerAdmit q => q < 4
  | .powerOnReset _ _ => true
  | .resetNAssert => true
  | .resetNRelease _ => true
  | .coreRelease => true
  | .patternCheckDone _ => true
  | .recoveryFlashWrite l => l < 8
  | .recoveryFlashRead l => l < 8
  | .recoveryVerify l _ => l < 8
  | .busHang unit => busUnit unit
  | .railFault rail => rail < 32
  | .thermtrip => true
  | .avsTimeout q => q < 4
  | .alertExpire => true
  | .partitionCreated p => p < 16
  | .powerEntryComplete d => d < 77
  | .sanitiseComplete => true
  | .accAreaUnlocked q => q < 4
  | .stageCacheScrub q _ _ => q < 4
  | .avsbusAnswer q => q < 4
  | .tapInstruction _ => true
  | .thermalObjectsUpdate temps => temps.length == 100 && temps.all (fun t => t < 65536)

end Sys2Proof
end

