-- ==== Sys2Proof/Decode.lean ====
section
/-! DEFINITION. The words of the table of commands. Its rows have no bits: commands are events, and no word spells one. -/
namespace Sys2Proof

/-- The command that a word spells: none, since no row of the table gives bits (log entry 9). -/
def decodeTableWord (_nbits _w : Nat) : Option Instr := none

end Sys2Proof
end

