-- ==== Sys2Proof/Config.lean ====
section
/-! DEFINITION. What the spec leaves open: free values without a body (nothing can be proved of what they are). -/
namespace Sys2Proof.Config

/-- Free values, one for each draw; the state's counter `free` picks the draw (log entry 2). -/
opaque freeNat : Nat → Nat

/-- The SM4 block cipher of GB/T 32907 and its inverse, key and block as numbers of 128 bits (R280, log entry 5). -/
opaque sm4 : Nat → Nat → Nat

/-- SM4 decryption. -/
opaque sm4Inv : Nat → Nat → Nat

/-- The count of activations at which a stack asks for refresh management of a bank (R276, log entry 105). -/
opaque rfmThreshold : Nat → Nat

/-- Ticks between two refresh commands of a stack at a temperature reading, in 0.125 °C, as JESD238A prescribes them (R276, log
entry 105). -/
opaque refreshTicks : Nat → Nat

/-- The tables of EXP, LOG, RSQRT, TANH and ERF (operation 0 to 4), which the spec does not give, as far as R213 and R214 leave them
open: the least input at which the function gives at least a value (log entry 7). -/
opaque threshold : Nat → Nat → Nat

/-- The part below a tick, in 1/256, of the stamp that a link takes at a tick as a mark leaves (R357, log entry 125): link, tick. -/
opaque markFrac : Nat → Nat → BitVec 8

/-- SM3 digest of a byte string (R502, R510), as a number of 256 bits (log entry 4). -/
opaque sm3 : List Nat → Nat

/-- The firmware, manufacturing and debug root public keys whose SM3 hashes the ROM holds (R508, log entry 4). -/
opaque romKey : Nat → Nat

/-- SM3 digest of the boot ROM (R510, log entry 4). -/
opaque romDigest : Nat

/-- SM2 verification (R502): public key, signed bytes, signature (log entry 4). -/
opaque sm2Verify : Nat → List Nat → Nat → Bool

/-- SM2 signature by the identity key over bytes (R509, log entry 4). -/
opaque sm2Sign : List Nat → Nat

end Sys2Proof.Config
end

