-- ==== Sys2Proof/Machine/Bits.lean ====
section
/-! DEFINITION. Bit fields, byte order and small integer helpers. Numbers of every width are held as `Nat`. -/
namespace Sys2Proof.Machine

/-- Bits [hi:lo] of a number (R12: bits count from 0 at the least significant). -/
def bits (w hi lo : Nat) : Nat := (w >>> lo) % 2 ^ (hi + 1 - lo)

/-- One bit as a truth value. -/
def bit (w i : Nat) : Bool := (w >>> i) % 2 == 1

/-- The number with bit `i` set, or cleared. -/
def withBit (w i : Nat) (b : Bool) : Nat :=
  if b then (if bit w i then w else w + 2 ^ i) else (if bit w i then w - 2 ^ i else w)

/-- A truth value as a number. -/
def ofBool (b : Bool) : Nat := if b then 1 else 0

/-- The little-endian number that bytes spell (R44). -/
def ofLE (bs : List Nat) : Nat :=
  match bs with
  | [] => 0
  | b :: r => b % 256 + 256 * ofLE r

/-- `n` bytes of a number, lowest first (R44). -/
def toLE (n v : Nat) : List Nat :=
  match n with
  | 0 => []
  | k + 1 => v % 256 :: toLE k (v / 256)

/-- The quotient rounded up. -/
def ceilDiv (a b : Nat) : Nat := (a + b - 1) / b

/-- Addition that stops at the largest number of `w` bits (counters saturate, R68). -/
def addSat (w a b : Nat) : Nat := min (a + b) (2 ^ w - 1)

/-- The signed value of `w` bits in two's complement. -/
def toSigned (w v : Nat) : Int := if v % 2 ^ w < 2 ^ (w - 1) then (v % 2 ^ w : Nat) else ((v % 2 ^ w : Nat) : Int) - (2 ^ w : Nat)

/-- The `w` bits of a signed value. -/
def ofSigned (w : Nat) (v : Int) : Nat := (v % ((2 ^ w : Nat) : Int)).toNat

/-- Set bits among the lowest `n` of a number. -/
def popcount (n w : Nat) : Nat :=
  match n with
  | 0 => 0
  | k + 1 => w % 2 + popcount k (w / 2)

/-- Positions of the set bits among the lowest `n`, in ascending order. -/
def setBits (n w : Nat) : List Nat := (List.range n).filter (fun i => bit w i)

/-- Exclusive or of two numbers of any width. -/
def xorN (a b : Nat) : Nat := a ^^^ b

/-- The first position at which a test holds. -/
def firstIdx {α : Type} (p : α → Bool) (l : List α) : Option Nat :=
  match l with
  | [] => none
  | x :: r => if p x then some 0 else (firstIdx p r).map (· + 1)

/-- The entry at position `i`, or `d`. -/
def nth {α : Type} (l : List α) (i : Nat) (d : α) : α := l.getD i d

/-- Floor of the square root by bits: `n` result bits are tried from the top. -/
def sqrtGo (n x r : Nat) : Nat :=
  match n with
  | 0 => r
  | k + 1 => let t := r + 2 ^ k; if t * t ≤ x then sqrtGo k x t else sqrtGo k x r

/-- Floor of the square root of a number below 2 to the 128. -/
def isqrt (x : Nat) : Nat := sqrtGo 64 x 0

/-- True where no key occurs twice in a list. -/
def distinct (l : List Nat) : Bool :=
  match l with
  | [] => true
  | x :: r => !r.contains x && distinct r

end Sys2Proof.Machine
end

