-- ==== Sys2Proof/Machine/Keys.lean ====
section
/-! DEFINITION. One name per object of the dictionary, with its key (index times 256 plus sub-index) and the value that its
Default column gives. A parameter `n` numbers the instance (core, partition, quadrant ...), `i` the sub-index from 0. -/
namespace Sys2Proof.Machine

/-- A dictionary object: its key and the value an object reads that nothing has set (R50). -/
structure Obj where
  key : Nat
  dflt : Nat
deriving DecidableEq, Repr

namespace K

/-- CORE_STATE (R35). -/
def CORE_STATE (n : Nat) : Obj := ⟨(0x3000 + n * 0x40) * 256 + 0x01, 0⟩
/-- CORE_OWNER (R35). -/
def CORE_OWNER (n : Nat) : Obj := ⟨(0x3000 + n * 0x40) * 256 + 0x02, 255⟩
/-- CORE_SLOT (R35). -/
def CORE_SLOT (n : Nat) : Obj := ⟨(0x3000 + n * 0x40) * 256 + 0x03, 255⟩
/-- LIST_BASE (R35). -/
def LIST_BASE (n : Nat) (i : Nat) : Obj := ⟨(0x3001 + n * 0x40) * 256 + (0x01 + i), 0⟩
/-- RING_BASE (R35). -/
def RING_BASE (n : Nat) (i : Nat) : Obj := ⟨(0x3002 + n * 0x40) * 256 + (0x01 + i), 0⟩
/-- RING_SIZE (R35). -/
def RING_SIZE (n : Nat) (i : Nat) : Obj := ⟨(0x3003 + n * 0x40) * 256 + (0x01 + i), 256⟩
/-- LIST_INDEX (R35). -/
def LIST_INDEX (n : Nat) (i : Nat) : Obj := ⟨(0x3004 + n * 0x40) * 256 + (0x01 + i), 0⟩
/-- ENGINE_RUN (R35). -/
def ENGINE_RUN (n : Nat) (i : Nat) : Obj := ⟨(0x3005 + n * 0x40) * 256 + (0x01 + i), 0⟩
/-- HQ_BIND (R35). -/
def HQ_BIND (n : Nat) (i : Nat) : Obj := ⟨(0x3006 + n * 0x40) * 256 + (0x01 + i), 255⟩
/-- HQ_LEVEL (R35). -/
def HQ_LEVEL (n : Nat) (i : Nat) : Obj := ⟨(0x3007 + n * 0x40) * 256 + (0x01 + i), 0⟩
/-- RING_POS (R35). -/
def RING_POS (n : Nat) (i : Nat) : Obj := ⟨(0x3008 + n * 0x40) * 256 + (0x01 + i), 0⟩
/-- COMMIT (R54). -/
def COMMIT : Obj := ⟨0x1F00 * 256 + 0x01, 0⟩
/-- COMMIT_TICK (R54). -/
def COMMIT_TICK : Obj := ⟨0x1F00 * 256 + 0x02, 0⟩
/-- COMMIT_STATE (R54). -/
def COMMIT_STATE : Obj := ⟨0x1F00 * 256 + 0x03, 0⟩
/-- STAGED_COUNT (R54). -/
def STAGED_COUNT : Obj := ⟨0x1F00 * 256 + 0x04, 0⟩
/-- FAIL_OBJECT (R54). -/
def FAIL_OBJECT : Obj := ⟨0x1F00 * 256 + 0x05, 0⟩
/-- FAIL_REASON (R54). -/
def FAIL_REASON : Obj := ⟨0x1F00 * 256 + 0x06, 0⟩
/-- APPLIED_TICK (R54). -/
def APPLIED_TICK : Obj := ⟨0x1F00 * 256 + 0x07, 0⟩
/-- COMMIT_SEQ (R54). -/
def COMMIT_SEQ : Obj := ⟨0x1F00 * 256 + 0x08, 0⟩
/-- FORCE_DISCARD (R54). -/
def FORCE_DISCARD : Obj := ⟨0x1F01 * 256 + 0x01, 0⟩
/-- SESSION_STATE (R65). -/
def SESSION_STATE (n : Nat) : Obj := ⟨(0x1200 + n) * 256 + 0x01, 0⟩
/-- SESSION_PRINCIPAL (R65). -/
def SESSION_PRINCIPAL (n : Nat) : Obj := ⟨(0x1200 + n) * 256 + 0x02, 1⟩
/-- SESSION_PARTITION (R65). -/
def SESSION_PARTITION (n : Nat) : Obj := ⟨(0x1200 + n) * 256 + 0x03, 255⟩
/-- SESSION_PORT (R65). -/
def SESSION_PORT (n : Nat) : Obj := ⟨(0x1200 + n) * 256 + 0x04, 64⟩
/-- SESSION_VERSION (R65). -/
def SESSION_VERSION (n : Nat) : Obj := ⟨(0x1200 + n) * 256 + 0x05, 0⟩
/-- SESSION_REQUESTS (R65). -/
def SESSION_REQUESTS (n : Nat) : Obj := ⟨(0x1200 + n) * 256 + 0x06, 0⟩
/-- VENDOR (R66). -/
def VENDOR : Obj := ⟨0x1000 * 256 + 0x01, 0x4e595241494c4550⟩
/-- FAMILY (R66). -/
def FAMILY : Obj := ⟨0x1000 * 256 + 0x02, 0x4e55444557⟩
/-- PART (R66). -/
def PART : Obj := ⟨0x1000 * 256 + 0x03, 0x4e455249474142⟩
/-- ORDER_CODE (R66). -/
def ORDER_CODE : Obj := ⟨0x1000 * 256 + 0x04, 0x412d343642572d4e4c50⟩
/-- GRADE_CORES (R66). -/
def GRADE_CORES : Obj := ⟨0x1000 * 256 + 0x05, 64⟩
/-- CORE_PRESENT (R66). -/
def CORE_PRESENT : Obj := ⟨0x1000 * 256 + 0x06, 0xFFFFFFFFFFFFFFFF⟩
/-- STEPPING (R66). -/
def STEPPING : Obj := ⟨0x1000 * 256 + 0x07, 0x0A00⟩
/-- FW_VERSION (R66). -/
def FW_VERSION : Obj := ⟨0x1000 * 256 + 0x08, 0⟩
/-- CONFIG_VERSION (R66). -/
def CONFIG_VERSION : Obj := ⟨0x1000 * 256 + 0x09, 0⟩
/-- DEVICE_ID (R66). -/
def DEVICE_ID : Obj := ⟨0x1000 * 256 + 0x0A, 1⟩
/-- DEVICE_NUMBER (R66). -/
def DEVICE_NUMBER : Obj := ⟨0x1000 * 256 + 0x0B, 65535⟩
/-- LIST_FORMATS (R66). -/
def LIST_FORMATS : Obj := ⟨0x1000 * 256 + 0x0C, 1⟩
/-- FENCE_MASK (R66). -/
def FENCE_MASK : Obj := ⟨0x1000 * 256 + 0x0D, 0⟩
/-- ENTERPRISE (R66). -/
def ENTERPRISE : Obj := ⟨0x1000 * 256 + 0x0E, 0⟩
/-- DICT_VER_MIN (R66). -/
def DICT_VER_MIN : Obj := ⟨0x1100 * 256 + 0x01, 1⟩
/-- DICT_VER_MAX (R66). -/
def DICT_VER_MAX : Obj := ⟨0x1100 * 256 + 0x02, 1⟩
/-- LINK_VER_MIN (R66). -/
def LINK_VER_MIN : Obj := ⟨0x1100 * 256 + 0x03, 1⟩
/-- LINK_VER_MAX (R66). -/
def LINK_VER_MAX : Obj := ⟨0x1100 * 256 + 0x04, 1⟩
/-- GENERATION (R66). -/
def GENERATION : Obj := ⟨0x1100 * 256 + 0x05, 2⟩
/-- STALL_CYCLES (R68). -/
def STALL_CYCLES (n : Nat) (i : Nat) : Obj := ⟨(0xA000 + n) * 256 + (0x01 + i), 0⟩
/-- BUSY_CYCLES (R68). -/
def BUSY_CYCLES (n : Nat) : Obj := ⟨(0xA000 + n) * 256 + 0x0A, 0⟩
/-- ISSUED (R68). -/
def ISSUED (n : Nat) : Obj := ⟨(0xA000 + n) * 256 + 0x0B, 0⟩
/-- NOT_OK (R68). -/
def NOT_OK (n : Nat) : Obj := ⟨(0xA000 + n) * 256 + 0x0C, 0⟩
/-- SNAPSHOT (R70). -/
def SNAPSHOT : Obj := ⟨0xA800 * 256 + 0x01, 0⟩
/-- SNAPSHOT_TICK (R70). -/
def SNAPSHOT_TICK : Obj := ⟨0xA800 * 256 + 0x02, 0⟩
/-- SNAPSHOT_TAKEN (R70). -/
def SNAPSHOT_TAKEN : Obj := ⟨0xA800 * 256 + 0x03, 0⟩
/-- CLEAR (R70). -/
def CLEAR : Obj := ⟨0xA800 * 256 + 0x04, 0⟩
/-- STAIN_PERMIT (R73). -/
def STAIN_PERMIT : Obj := ⟨0xE000 * 256 + 0x01, 0⟩
/-- STAIN_ARMED (R73). -/
def STAIN_ARMED : Obj := ⟨0xE000 * 256 + 0x02, 0⟩
/-- STAINED_PARTS (R73). -/
def STAINED_PARTS : Obj := ⟨0xE000 * 256 + 0x03, 0⟩
/-- KIND (R73). -/
def STAIN_KIND (n : Nat) : Obj := ⟨(0xE010 + n) * 256 + 0x01, 0⟩
/-- PARTITION (R73). -/
def STAIN_PARTITION (n : Nat) : Obj := ⟨(0xE010 + n) * 256 + 0x02, 255⟩
/-- UNIT (R73). -/
def STAIN_UNIT (n : Nat) : Obj := ⟨(0xE010 + n) * 256 + 0x03, 65535⟩
/-- AMOUNT (R73). -/
def STAIN_AMOUNT (n : Nat) : Obj := ⟨(0xE010 + n) * 256 + 0x04, 0⟩
/-- PERIOD (R73). -/
def STAIN_PERIOD (n : Nat) : Obj := ⟨(0xE010 + n) * 256 + 0x05, 0⟩
/-- START_TICK (R73). -/
def STAIN_START_TICK (n : Nat) : Obj := ⟨(0xE010 + n) * 256 + 0x06, 0⟩
/-- STOP_TICK (R73). -/
def STAIN_STOP_TICK (n : Nat) : Obj := ⟨(0xE010 + n) * 256 + 0x07, 0⟩
/-- ARM (R73). -/
def STAIN_ARM (n : Nat) : Obj := ⟨(0xE010 + n) * 256 + 0x08, 0⟩
/-- APPLIED (R73). -/
def STAIN_APPLIED (n : Nat) : Obj := ⟨(0xE010 + n) * 256 + 0x09, 0⟩
/-- FT_NOW (R78). -/
def FT_NOW : Obj := ⟨0x2000 * 256 + 0x01, 0⟩
/-- FT_ROLE (R78). -/
def FT_ROLE : Obj := ⟨0x2000 * 256 + 0x02, 0⟩
/-- FT_UPSTREAM (R78). -/
def FT_UPSTREAM : Obj := ⟨0x2000 * 256 + 0x03, 255⟩
/-- FT_DOWNSTREAM (R78). -/
def FT_DOWNSTREAM : Obj := ⟨0x2000 * 256 + 0x04, 0⟩
/-- FT_STATE (R78). -/
def FT_STATE : Obj := ⟨0x2000 * 256 + 0x05, 0⟩
/-- FT_OFFSET (R78). -/
def FT_OFFSET : Obj := ⟨0x2000 * 256 + 0x06, 0⟩
/-- FT_HOLDOVER_LIMIT (R78). -/
def FT_HOLDOVER_LIMIT : Obj := ⟨0x2000 * 256 + 0x07, 0x1c9c38⟩
/-- FT_SET (R78). -/
def FT_SET : Obj := ⟨0x2000 * 256 + 0x08, 0⟩
/-- FT_LOCK_TICK (R78). -/
def FT_LOCK_TICK : Obj := ⟨0x2000 * 256 + 0x09, 0⟩
/-- FT_PPS_ERROR (R78). -/
def FT_PPS_ERROR : Obj := ⟨0x2000 * 256 + 0x0A, 0⟩
/-- FT_DEPTH (R78). -/
def FT_DEPTH : Obj := ⟨0x2000 * 256 + 0x0B, 255⟩
/-- SCHED_STATE (R85). -/
def SCHED_STATE (n : Nat) : Obj := ⟨(0x2100 + n) * 256 + 0x01, 0⟩
/-- SCHED_BASE (R85). -/
def SCHED_BASE (n : Nat) : Obj := ⟨(0x2100 + n) * 256 + 0x02, 0⟩
/-- BASE_EPOCH (R85). -/
def BASE_EPOCH (n : Nat) : Obj := ⟨(0x2100 + n) * 256 + 0x03, 0⟩
/-- ARM (R85). -/
def ARM (n : Nat) : Obj := ⟨(0x2100 + n) * 256 + 0x04, 0⟩
/-- RESUME_TICK (R85). -/
def RESUME_TICK (n : Nat) : Obj := ⟨(0x2100 + n) * 256 + 0x05, 0⟩
/-- STOP_AFTER (R85). -/
def STOP_AFTER (n : Nat) : Obj := ⟨(0x2100 + n) * 256 + 0x06, 0⟩
/-- RETRY_LIMIT (R85). -/
def RETRY_LIMIT (n : Nat) : Obj := ⟨(0x2100 + n) * 256 + 0x07, 3⟩
/-- MODE (R85). -/
def MODE (n : Nat) : Obj := ⟨(0x2100 + n) * 256 + 0x08, 0⟩
/-- PACE_MHZ (R85). -/
def PACE_MHZ (n : Nat) : Obj := ⟨(0x2100 + n) * 256 + 0x09, 0⟩
/-- PERIOD (R85). -/
def PERIOD (n : Nat) : Obj := ⟨(0x2100 + n) * 256 + 0x0A, 0⟩
/-- ATTEMPT (R85). -/
def ATTEMPT (n : Nat) : Obj := ⟨(0x2100 + n) * 256 + 0x0B, 0⟩
/-- STEP (R85). -/
def STEP (n : Nat) : Obj := ⟨(0x2100 + n) * 256 + 0x0C, 0⟩
/-- HELD_TICKS (R85). -/
def HELD_TICKS (n : Nat) : Obj := ⟨(0x2100 + n) * 256 + 0x0D, 0⟩
/-- EPOCH_NOW (R85). -/
def EPOCH_NOW (n : Nat) : Obj := ⟨(0x2100 + n) * 256 + 0x0E, 0⟩
/-- LATE_COUNT (R85). -/
def LATE_COUNT (n : Nat) : Obj := ⟨(0x2100 + n) * 256 + 0x0F, 0⟩
/-- FAILED_RUN (R85). -/
def FAILED_RUN (n : Nat) : Obj := ⟨(0x2100 + n) * 256 + 0x10, 0⟩
/-- SLOT_CORE (R100). -/
def SLOT_CORE (n : Nat) (i : Nat) : Obj := ⟨(0x2200 + n) * 256 + (0x01 + i), 255⟩
/-- SLOT_MAP_SEQ (R100). -/
def SLOT_MAP_SEQ (n : Nat) : Obj := ⟨(0x2200 + n) * 256 + 0x41, 0⟩
/-- MXA_PASSES (R159). -/
def MXA_PASSES (n : Nat) : Obj := ⟨(0x3010 + n * 0x40) * 256 + 0x01, 0⟩
/-- MXA_CHAINED (R159). -/
def MXA_CHAINED (n : Nat) : Obj := ⟨(0x3010 + n * 0x40) * 256 + 0x02, 0⟩
/-- MXA_DRAINS (R159). -/
def MXA_DRAINS (n : Nat) : Obj := ⟨(0x3010 + n * 0x40) * 256 + 0x03, 0⟩
/-- MXA_RERUNS (R159). -/
def MXA_RERUNS (n : Nat) : Obj := ⟨(0x3010 + n * 0x40) * 256 + 0x04, 0⟩
/-- MXA_HELD_CYCLES (R159). -/
def MXA_HELD_CYCLES (n : Nat) : Obj := ⟨(0x3010 + n * 0x40) * 256 + 0x05, 0⟩
/-- MXA_INTERLOCKS (R159). -/
def MXA_INTERLOCKS (n : Nat) : Obj := ⟨(0x3010 + n * 0x40) * 256 + 0x06, 0⟩
/-- MXA_LAST_SYNDROME (R159). -/
def MXA_LAST_SYNDROME (n : Nat) : Obj := ⟨(0x3010 + n * 0x40) * 256 + 0x07, 0⟩
/-- MXA_STATE (R159). -/
def MXA_STATE (n : Nat) : Obj := ⟨(0x3011 + n * 0x40) * 256 + 0x01, 0⟩
/-- MXA_IN_FLIGHT (R159). -/
def MXA_IN_FLIGHT (n : Nat) : Obj := ⟨(0x3011 + n * 0x40) * 256 + 0x02, 0⟩
/-- SPL_LOADS (R200). -/
def SPL_LOADS (n : Nat) : Obj := ⟨(0x3012 + n * 0x40) * 256 + 0x01, 0⟩
/-- SPL_REFUSED (R200). -/
def SPL_REFUSED (n : Nat) : Obj := ⟨(0x3012 + n * 0x40) * 256 + 0x02, 0⟩
/-- SPL_LAST_SYNDROME (R200). -/
def SPL_LAST_SYNDROME (n : Nat) : Obj := ⟨(0x3012 + n * 0x40) * 256 + 0x03, 0⟩
/-- SPL_GROUPS (R200). -/
def SPL_GROUPS (n : Nat) : Obj := ⟨(0x3012 + n * 0x40) * 256 + 0x04, 0⟩
/-- VX_VLEN (R231). -/
def VX_VLEN (n : Nat) : Obj := ⟨(0x3013 + n * 0x40) * 256 + 0x01, 0⟩
/-- VX_STATE (R231). -/
def VX_STATE (n : Nat) : Obj := ⟨(0x3013 + n * 0x40) * 256 + 0x02, 0⟩
/-- VX_BEATS (R231). -/
def VX_BEATS (n : Nat) : Obj := ⟨(0x3013 + n * 0x40) * 256 + 0x03, 0⟩
/-- VX_UOPS (R231). -/
def VX_UOPS (n : Nat) : Obj := ⟨(0x3013 + n * 0x40) * 256 + 0x04, 0⟩
/-- VX_SPECIAL (R231). -/
def VX_SPECIAL (n : Nat) : Obj := ⟨(0x3013 + n * 0x40) * 256 + 0x05, 0⟩
/-- VX_ECC_NAN (R231). -/
def VX_ECC_NAN (n : Nat) : Obj := ⟨(0x3013 + n * 0x40) * 256 + 0x06, 0⟩
/-- VX_RESUMED (R231). -/
def VX_RESUMED (n : Nat) : Obj := ⟨(0x3013 + n * 0x40) * 256 + 0x07, 0⟩
/-- SP_CORRECTED (R247). -/
def SP_CORRECTED (n : Nat) : Obj := ⟨(0x3014 + n * 0x40) * 256 + 0x01, 0⟩
/-- SP_UNCORR (R247). -/
def SP_UNCORR (n : Nat) : Obj := ⟨(0x3014 + n * 0x40) * 256 + 0x02, 0⟩
/-- SP_POISONED (R247). -/
def SP_POISONED (n : Nat) : Obj := ⟨(0x3014 + n * 0x40) * 256 + 0x03, 0⟩
/-- WM_CRC_FAIL (R247). -/
def WM_CRC_FAIL (n : Nat) : Obj := ⟨(0x3014 + n * 0x40) * 256 + 0x04, 0⟩
/-- SCRUB_PASSES (R247). -/
def SCRUB_PASSES (n : Nat) : Obj := ⟨(0x3014 + n * 0x40) * 256 + 0x05, 0⟩
/-- ZEROISE_COUNT (R247). -/
def ZEROISE_COUNT (n : Nat) : Obj := ⟨(0x3014 + n * 0x40) * 256 + 0x06, 0⟩
/-- LAST_SYNDROME (R247). -/
def LAST_SYNDROME (n : Nat) : Obj := ⟨(0x3014 + n * 0x40) * 256 + 0x07, 0⟩
/-- RET_COUNT (R247). -/
def RET_COUNT (n : Nat) : Obj := ⟨(0x3015 + n * 0x40) * 256 + 0x00, 16⟩
/-- RET_ROW (R247). -/
def RET_ROW (n : Nat) (i : Nat) : Obj := ⟨(0x3015 + n * 0x40) * 256 + (0x01 + i), 65535⟩
/-- SCRUB_ENABLE (R247). -/
def SCRUB_ENABLE (n : Nat) : Obj := ⟨(0x3016 + n * 0x40) * 256 + 0x01, 1⟩
/-- SCRUB_INTERVAL (R247). -/
def SCRUB_INTERVAL (n : Nat) : Obj := ⟨(0x3016 + n * 0x40) * 256 + 0x02, 1024⟩
/-- ZEROISE (R247). -/
def ZEROISE (n : Nat) : Obj := ⟨(0x3016 + n * 0x40) * 256 + 0x03, 0⟩
/-- MV_BYTES (R271). -/
def MV_BYTES (n : Nat) : Obj := ⟨(0x3017 + n * 0x40) * 256 + 0x01, 0⟩
/-- MV_RUNS (R271). -/
def MV_RUNS (n : Nat) : Obj := ⟨(0x3017 + n * 0x40) * 256 + 0x02, 0⟩
/-- MV_SHORT_RUNS (R271). -/
def MV_SHORT_RUNS (n : Nat) : Obj := ⟨(0x3017 + n * 0x40) * 256 + 0x03, 0⟩
/-- MV_FENCES (R271). -/
def MV_FENCES (n : Nat) : Obj := ⟨(0x3017 + n * 0x40) * 256 + 0x04, 0⟩
/-- RA_BYTES (R271). -/
def RA_BYTES (n : Nat) : Obj := ⟨(0x3017 + n * 0x40) * 256 + 0x05, 0⟩
/-- RA_USED (R271). -/
def RA_USED (n : Nat) : Obj := ⟨(0x3017 + n * 0x40) * 256 + 0x06, 0⟩
/-- RA_DISCARDED (R271). -/
def RA_DISCARDED (n : Nat) : Obj := ⟨(0x3017 + n * 0x40) * 256 + 0x07, 0⟩
/-- RA_STOPS (R271). -/
def RA_STOPS (n : Nat) (i : Nat) : Obj := ⟨(0x3018 + n * 0x40) * 256 + (0x01 + i), 0⟩
/-- RA_ENABLE (R271). -/
def RA_ENABLE (n : Nat) : Obj := ⟨(0x3019 + n * 0x40) * 256 + 0x01, 1⟩
/-- RA_DEPTH (R271). -/
def RA_DEPTH (n : Nat) : Obj := ⟨(0x3019 + n * 0x40) * 256 + 0x02, 4⟩
/-- RA_WINDOW (R271). -/
def RA_WINDOW (n : Nat) : Obj := ⟨(0x3019 + n * 0x40) * 256 + 0x03, 128⟩
/-- GT_ROWS (R271). -/
def GT_ROWS (n : Nat) : Obj := ⟨(0x301A + n * 0x40) * 256 + 0x01, 0⟩
/-- GT_BYTES (R271). -/
def GT_BYTES (n : Nat) : Obj := ⟨(0x301A + n * 0x40) * 256 + 0x02, 0⟩
/-- GT_OUT_OF_RANGE (R271). -/
def GT_OUT_OF_RANGE (n : Nat) : Obj := ⟨(0x301A + n * 0x40) * 256 + 0x03, 0⟩
/-- GT_UNMAPPED (R271). -/
def GT_UNMAPPED (n : Nat) : Obj := ⟨(0x301A + n * 0x40) * 256 + 0x04, 0⟩
/-- HBM_STATE (R289). -/
def HBM_STATE (n : Nat) : Obj := ⟨(0x4000 + n) * 256 + 0x01, 0⟩
/-- HBM_TEMP (R289). -/
def HBM_TEMP (n : Nat) : Obj := ⟨(0x4000 + n) * 256 + 0x02, 0⟩
/-- HBM_ODECC (R289). -/
def HBM_ODECC (n : Nat) : Obj := ⟨(0x4000 + n) * 256 + 0x03, 0⟩
/-- HBM_CORRECTED (R289). -/
def HBM_CORRECTED (n : Nat) : Obj := ⟨(0x4000 + n) * 256 + 0x04, 0⟩
/-- HBM_UNCORR (R289). -/
def HBM_UNCORR (n : Nat) : Obj := ⟨(0x4000 + n) * 256 + 0x05, 0⟩
/-- HBM_RFM (R289). -/
def HBM_RFM (n : Nat) : Obj := ⟨(0x4000 + n) * 256 + 0x06, 0⟩
/-- HBM_LAST_SYNDROME (R289). -/
def HBM_LAST_SYNDROME (n : Nat) : Obj := ⟨(0x4000 + n) * 256 + 0x07, 0⟩
/-- CH_OWNER (R289). -/
def CH_OWNER (n : Nat) (i : Nat) : Obj := ⟨(0x4030 + n) * 256 + (0x01 + i), 255⟩
/-- SC_WAY_OWNER (R289). -/
def SC_WAY_OWNER (n : Nat) (i : Nat) : Obj := ⟨(0x4060 + n) * 256 + (0x01 + i), 255⟩
/-- SC_ACC_OWNER (R289). -/
def SC_ACC_OWNER (n : Nat) : Obj := ⟨(0x4060 + n) * 256 + 0x11, 255⟩
/-- SC_ACC_PAGES (R289). -/
def SC_ACC_PAGES (n : Nat) : Obj := ⟨(0x4060 + n) * 256 + 0x12, 0⟩
/-- SC_HITS (R289). -/
def SC_HITS (n : Nat) : Obj := ⟨(0x4060 + n) * 256 + 0x13, 0⟩
/-- SC_MISSES (R289). -/
def SC_MISSES (n : Nat) : Obj := ⟨(0x4060 + n) * 256 + 0x14, 0⟩
/-- SC_WRITEBACKS (R289). -/
def SC_WRITEBACKS (n : Nat) : Obj := ⟨(0x4060 + n) * 256 + 0x15, 0⟩
/-- SC_DRAINING (R289). -/
def SC_DRAINING (n : Nat) : Obj := ⟨(0x4060 + n) * 256 + 0x16, 0⟩
/-- TRK_QUOTA (R289). -/
def TRK_QUOTA (n : Nat) (i : Nat) : Obj := ⟨(0x4068 + n) * 256 + (0x01 + i), 4032⟩
/-- TRK_IN_USE (R289). -/
def TRK_IN_USE (n : Nat) : Obj := ⟨(0x4068 + n) * 256 + 0x11, 0⟩
/-- TRK_PEAK (R289). -/
def TRK_PEAK (n : Nat) : Obj := ⟨(0x4068 + n) * 256 + 0x12, 0⟩
/-- TRK_WAITS (R289). -/
def TRK_WAITS (n : Nat) : Obj := ⟨(0x4068 + n) * 256 + 0x13, 0⟩
/-- VOTE_TICK (R311). -/
def VOTE_TICK (n : Nat) : Obj := ⟨(0x2300 + n) * 256 + 0x01, 0⟩
/-- DECIDE_TICK (R311). -/
def DECIDE_TICK (n : Nat) : Obj := ⟨(0x2300 + n) * 256 + 0x02, 0⟩
/-- VOTE_CHANNEL (R311). -/
def VOTE_CHANNEL (n : Nat) : Obj := ⟨(0x2300 + n) * 256 + 0x03, 0⟩
/-- VOTE_HOLD_LIMIT (R311). -/
def VOTE_HOLD_LIMIT (n : Nat) : Obj := ⟨(0x2300 + n) * 256 + 0x04, 62500⟩
/-- SCREEN_BASE (R311). -/
def SCREEN_BASE (n : Nat) : Obj := ⟨(0x2300 + n) * 256 + 0x05, 0⟩
/-- SCREEN_COUNT (R311). -/
def SCREEN_COUNT (n : Nat) : Obj := ⟨(0x2300 + n) * 256 + 0x06, 0⟩
/-- STEP_REC (R311). -/
def STEP_REC (n : Nat) : Obj := ⟨(0x2300 + n) * 256 + 0x07, 0⟩
/-- JOB_SEED (R311). -/
def JOB_SEED (n : Nat) : Obj := ⟨(0x2300 + n) * 256 + 0x08, 0⟩
/-- LS_ENABLE (R311). -/
def LS_ENABLE (n : Nat) : Obj := ⟨(0x2300 + n) * 256 + 0x09, 1⟩
/-- LS_EXP (R311). -/
def LS_EXP (n : Nat) : Obj := ⟨(0x2300 + n) * 256 + 0x0A, 16⟩
/-- LS_MIN (R311). -/
def LS_MIN (n : Nat) : Obj := ⟨(0x2300 + n) * 256 + 0x0B, 0⟩
/-- LS_MAX (R311). -/
def LS_MAX (n : Nat) : Obj := ⟨(0x2300 + n) * 256 + 0x0C, 32⟩
/-- LS_GROWTH (R311). -/
def LS_GROWTH (n : Nat) : Obj := ⟨(0x2300 + n) * 256 + 0x0D, 2000⟩
/-- LS_CLEAN (R311). -/
def LS_CLEAN (n : Nat) : Obj := ⟨(0x2300 + n) * 256 + 0x0E, 0⟩
/-- NF_LIMIT (R311). -/
def NF_LIMIT (n : Nat) : Obj := ⟨(0x2300 + n) * 256 + 0x0F, 16⟩
/-- NF_RUN (R311). -/
def NF_RUN (n : Nat) : Obj := ⟨(0x2300 + n) * 256 + 0x10, 0⟩
/-- DECISION (R311). -/
def DECISION (n : Nat) : Obj := ⟨(0x2300 + n) * 256 + 0x11, 0⟩
/-- DECISION_CAUSE (R311). -/
def DECISION_CAUSE (n : Nat) : Obj := ⟨(0x2300 + n) * 256 + 0x12, 0⟩
/-- DECISION_ATTEMPT (R311). -/
def DECISION_ATTEMPT (n : Nat) : Obj := ⟨(0x2300 + n) * 256 + 0x13, 0⟩
/-- RESOLVE (R311). -/
def RESOLVE (n : Nat) : Obj := ⟨(0x2300 + n) * 256 + 0x14, 0⟩
/-- JOB_DAMAGED (R311). -/
def JOB_DAMAGED (n : Nat) : Obj := ⟨(0x2300 + n) * 256 + 0x15, 0⟩
/-- NF_COUNT (R311). -/
def NF_COUNT (n : Nat) : Obj := ⟨(0x2300 + n) * 256 + 0x16, 0⟩
/-- DECISION_NF (R311). -/
def DECISION_NF (n : Nat) : Obj := ⟨(0x2300 + n) * 256 + 0x17, 0⟩
/-- UP_STATE (R335). -/
def UP_STATE (n : Nat) : Obj := ⟨(0x4100 + n) * 256 + 0x01, 0⟩
/-- UP_ZEROISING (R335). -/
def UP_ZEROISING (n : Nat) : Obj := ⟨(0x4100 + n) * 256 + 0x02, 0⟩
/-- UP_ZEROISED (R335). -/
def UP_ZEROISED (n : Nat) : Obj := ⟨(0x4100 + n) * 256 + 0x03, 0⟩
/-- UP_ELEMENTS (R335). -/
def UP_ELEMENTS (n : Nat) : Obj := ⟨(0x4100 + n) * 256 + 0x04, 0⟩
/-- UP_NONFINITE (R335). -/
def UP_NONFINITE (n : Nat) : Obj := ⟨(0x4100 + n) * 256 + 0x05, 0⟩
/-- UP_LAST_PART (R335). -/
def UP_LAST_PART (n : Nat) : Obj := ⟨(0x4100 + n) * 256 + 0x06, 255⟩
/-- SW_VALUE (R335). -/
def SW_VALUE (n : Nat) (i : Nat) : Obj := ⟨(0x4140 + n) * 256 + (0x01 + i), 0⟩
/-- SW_STEP (R335). -/
def SW_STEP (n : Nat) : Obj := ⟨(0x4140 + n) * 256 + 0x11, 0⟩
/-- SW_PARTIAL (R335). -/
def SW_PARTIAL (n : Nat) : Obj := ⟨(0x4140 + n) * 256 + 0x12, 0⟩
/-- SW_BASE (R335). -/
def SW_BASE (n : Nat) : Obj := ⟨(0x4140 + n) * 256 + 0x13, 0⟩
/-- UP_RING_BASE (R335). -/
def UP_RING_BASE (n : Nat) : Obj := ⟨(0x4140 + n) * 256 + 0x14, 0⟩
/-- UP_RING_SIZE (R335). -/
def UP_RING_SIZE (n : Nat) : Obj := ⟨(0x4140 + n) * 256 + 0x15, 256⟩
/-- UP_RING_POS (R335). -/
def UP_RING_POS (n : Nat) : Obj := ⟨(0x4140 + n) * 256 + 0x16, 0⟩
/-- LNK_STATE (R370). -/
def LNK_STATE (n : Nat) : Obj := ⟨(0x5000 + n) * 256 + 0x01, 0⟩
/-- LNK_ENABLE (R370). -/
def LNK_ENABLE (n : Nat) : Obj := ⟨(0x5000 + n) * 256 + 0x02, 1⟩
/-- LNK_MODE (R370). -/
def LNK_MODE (n : Nat) : Obj := ⟨(0x5000 + n) * 256 + 0x03, 1⟩
/-- LNK_OWNER (R370). -/
def LNK_OWNER (n : Nat) : Obj := ⟨(0x5000 + n) * 256 + 0x04, 255⟩
/-- LNK_VERSION (R370). -/
def LNK_VERSION (n : Nat) : Obj := ⟨(0x5000 + n) * 256 + 0x05, 0⟩
/-- LNK_PEER (R370). -/
def LNK_PEER (n : Nat) : Obj := ⟨(0x5000 + n) * 256 + 0x06, 65535⟩
/-- LNK_PEER_GEN (R370). -/
def LNK_PEER_GEN (n : Nat) : Obj := ⟨(0x5000 + n) * 256 + 0x07, 0⟩
/-- LNK_EXTRA (R370). -/
def LNK_EXTRA (n : Nat) : Obj := ⟨(0x5000 + n) * 256 + 0x08, 0⟩
/-- LNK_ASYM (R370). -/
def LNK_ASYM (n : Nat) : Obj := ⟨(0x5000 + n) * 256 + 0x09, 0⟩
/-- LNK_DELAY (R370). -/
def LNK_DELAY (n : Nat) : Obj := ⟨(0x5000 + n) * 256 + 0x0A, 0⟩
/-- FLITS_TX (R370). -/
def FLITS_TX (n : Nat) : Obj := ⟨(0x5000 + n) * 256 + 0x0B, 0⟩
/-- FLITS_RX (R370). -/
def FLITS_RX (n : Nat) : Obj := ⟨(0x5000 + n) * 256 + 0x0C, 0⟩
/-- FEC_CORR_SYM (R370). -/
def FEC_CORR_SYM (n : Nat) : Obj := ⟨(0x5000 + n) * 256 + 0x0D, 0⟩
/-- FEC_UNCORR (R370). -/
def FEC_UNCORR (n : Nat) : Obj := ⟨(0x5000 + n) * 256 + 0x0E, 0⟩
/-- CRC_ERR (R370). -/
def CRC_ERR (n : Nat) : Obj := ⟨(0x5000 + n) * 256 + 0x0F, 0⟩
/-- REPLAYS (R370). -/
def REPLAYS (n : Nat) : Obj := ⟨(0x5000 + n) * 256 + 0x10, 0⟩
/-- FAILURES (R370). -/
def FAILURES (n : Nat) : Obj := ⟨(0x5000 + n) * 256 + 0x11, 0⟩
/-- RESERVED_DROPS (R370). -/
def RESERVED_DROPS (n : Nat) : Obj := ⟨(0x5000 + n) * 256 + 0x12, 0⟩
/-- NEG_RESTARTS (R370). -/
def NEG_RESTARTS (n : Nat) : Obj := ⟨(0x5000 + n) * 256 + 0x13, 0⟩
/-- REMOTE_TIMEOUT (R371). -/
def REMOTE_TIMEOUT : Obj := ⟨0x5040 * 256 + 0x02, 62500⟩
/-- REPLAY_LIMIT (R371). -/
def REPLAY_LIMIT : Obj := ⟨0x5040 * 256 + 0x03, 4⟩
/-- BRIDGE (R371). -/
def BRIDGE : Obj := ⟨0x5040 * 256 + 0x04, 0⟩
/-- HOST_NUMBER (R371). -/
def HOST_NUMBER : Obj := ⟨0x5040 * 256 + 0x06, 65535⟩
/-- CFG_NUMBER (R371). -/
def CFG_NUMBER : Obj := ⟨0x5040 * 256 + 0x07, 65535⟩
/-- NUM_ASSIGNED (R371). -/
def NUM_ASSIGNED : Obj := ⟨0x5040 * 256 + 0x08, 0⟩
/-- CH_PART (R403). -/
def CH_PART (n : Nat) : Obj := ⟨(0x5100 + n) * 256 + 0x01, 255⟩
/-- CH_RDE (R403). -/
def CH_RDE (n : Nat) : Obj := ⟨(0x5100 + n) * 256 + 0x02, 0⟩
/-- CH_RING_ID (R403). -/
def CH_RING_ID (n : Nat) : Obj := ⟨(0x5100 + n) * 256 + 0x03, 0⟩
/-- CH_SIZE (R403). -/
def CH_SIZE (n : Nat) : Obj := ⟨(0x5100 + n) * 256 + 0x04, 1⟩
/-- CH_POS (R403). -/
def CH_POS (n : Nat) : Obj := ⟨(0x5100 + n) * 256 + 0x05, 0⟩
/-- CH_SUCC (R403). -/
def CH_SUCC (n : Nat) : Obj := ⟨(0x5100 + n) * 256 + 0x06, 65535⟩
/-- CH_PRED (R403). -/
def CH_PRED (n : Nat) : Obj := ⟨(0x5100 + n) * 256 + 0x07, 65535⟩
/-- CH_HEADROOM (R403). -/
def CH_HEADROOM (n : Nat) : Obj := ⟨(0x5100 + n) * 256 + 0x08, 2⟩
/-- CH_REPASS_MAX (R403). -/
def CH_REPASS_MAX (n : Nat) : Obj := ⟨(0x5100 + n) * 256 + 0x09, 256⟩
/-- CH_HOLD_LIMIT (R403). -/
def CH_HOLD_LIMIT (n : Nat) : Obj := ⟨(0x5100 + n) * 256 + 0x0A, 62500⟩
/-- CH_MAX_BLOCKS (R403). -/
def CH_MAX_BLOCKS (n : Nat) : Obj := ⟨(0x5100 + n) * 256 + 0x0B, 65536⟩
/-- CH_RX_BASE (R403). -/
def CH_RX_BASE (n : Nat) : Obj := ⟨(0x5100 + n) * 256 + 0x0C, 0⟩
/-- CH_RX_BYTES (R403). -/
def CH_RX_BYTES (n : Nat) : Obj := ⟨(0x5100 + n) * 256 + 0x0D, 0⟩
/-- CH_STATE (R403). -/
def CH_STATE (n : Nat) : Obj := ⟨(0x5100 + n) * 256 + 0x0E, 0⟩
/-- CH_NEXT_SEQ (R403). -/
def CH_NEXT_SEQ (n : Nat) : Obj := ⟨(0x5100 + n) * 256 + 0x0F, 0⟩
/-- CH_OWED (R403). -/
def CH_OWED (n : Nat) : Obj := ⟨(0x5100 + n) * 256 + 0x10, 0⟩
/-- CH_BUCKETS (R403). -/
def CH_BUCKETS (n : Nat) : Obj := ⟨(0x5100 + n) * 256 + 0x11, 0⟩
/-- CH_EXCLUDED (R403). -/
def CH_EXCLUDED (n : Nat) : Obj := ⟨(0x5100 + n) * 256 + 0x12, 0⟩
/-- CH_HELD (R403). -/
def CH_HELD (n : Nat) : Obj := ⟨(0x5100 + n) * 256 + 0x13, 0⟩
/-- CH_REPASSED (R403). -/
def CH_REPASSED (n : Nat) : Obj := ⟨(0x5100 + n) * 256 + 0x14, 0⟩
/-- CH_NF_BLOCKS (R403). -/
def CH_NF_BLOCKS (n : Nat) : Obj := ⟨(0x5100 + n) * 256 + 0x15, 0⟩
/-- CH_DISCARDS (R403). -/
def CH_DISCARDS (n : Nat) : Obj := ⟨(0x5100 + n) * 256 + 0x16, 0⟩
/-- LEDGER_BASE (R404). -/
def LEDGER_BASE (n : Nat) : Obj := ⟨(0x5140 + n) * 256 + 0x01, 0⟩
/-- LEDGER_SLOTS (R404). -/
def LEDGER_SLOTS (n : Nat) : Obj := ⟨(0x5140 + n) * 256 + 0x02, 16⟩
/-- LEDGER_BUCKETS (R404). -/
def LEDGER_BUCKETS (n : Nat) : Obj := ⟨(0x5140 + n) * 256 + 0x03, 256⟩
/-- REPLAY_BASE (R404). -/
def REPLAY_BASE (n : Nat) : Obj := ⟨(0x5140 + n) * 256 + 0x04, 0⟩
/-- RD_RING_BASE (R404). -/
def RD_RING_BASE (n : Nat) : Obj := ⟨(0x5140 + n) * 256 + 0x05, 0⟩
/-- RD_RING_SIZE (R404). -/
def RD_RING_SIZE (n : Nat) : Obj := ⟨(0x5140 + n) * 256 + 0x06, 256⟩
/-- RD_RING_POS (R404). -/
def RD_RING_POS (n : Nat) : Obj := ⟨(0x5140 + n) * 256 + 0x07, 0⟩
/-- RD_STATE (R404). -/
def RD_STATE (n : Nat) : Obj := ⟨(0x5180 + n) * 256 + 0x01, 0⟩
/-- RD_MESSAGES (R404). -/
def RD_MESSAGES (n : Nat) : Obj := ⟨(0x5180 + n) * 256 + 0x02, 0⟩
/-- RD_CROSS (R404). -/
def RD_CROSS (n : Nat) : Obj := ⟨(0x5180 + n) * 256 + 0x03, 0⟩
/-- PART_STATE (R429). -/
def PART_STATE (n : Nat) : Obj := ⟨(0x6000 + n) * 256 + 0x01, 0⟩
/-- PART_CLASS (R429). -/
def PART_CLASS (n : Nat) : Obj := ⟨(0x6000 + n) * 256 + 0x02, 1⟩
/-- PART_SLOTS (R429). -/
def PART_SLOTS (n : Nat) : Obj := ⟨(0x6000 + n) * 256 + 0x03, 0⟩
/-- CORE_MASK (R429). -/
def CORE_MASK (n : Nat) : Obj := ⟨(0x6000 + n) * 256 + 0x04, 0⟩
/-- PART_CAPACITY (R429). -/
def PART_CAPACITY (n : Nat) : Obj := ⟨(0x6000 + n) * 256 + 0x05, 0⟩
/-- WIN_PAGES (R429). -/
def WIN_PAGES (n : Nat) : Obj := ⟨(0x6000 + n) * 256 + 0x06, 0⟩
/-- WIN_TABLE_CH (R429). -/
def WIN_TABLE_CH (n : Nat) : Obj := ⟨(0x6000 + n) * 256 + 0x07, 65535⟩
/-- SAVE_PAGE (R429). -/
def SAVE_PAGE (n : Nat) : Obj := ⟨(0x6000 + n) * 256 + 0x08, 0⟩
/-- SW_LINK_LIMIT (R429). -/
def SW_LINK_LIMIT (n : Nat) : Obj := ⟨(0x6000 + n) * 256 + 0x09, 125⟩
/-- FORERUNNER_COMPAT (R429). -/
def FORERUNNER_COMPAT (n : Nat) : Obj := ⟨(0x6000 + n) * 256 + 0x0A, 0⟩
/-- PART_RESIDENT (R429). -/
def PART_RESIDENT (n : Nat) : Obj := ⟨(0x6000 + n) * 256 + 0x0B, 0⟩
/-- PART_SWITCHES (R429). -/
def PART_SWITCHES (n : Nat) : Obj := ⟨(0x6000 + n) * 256 + 0x0C, 0⟩
/-- LAST_SWITCH (R429). -/
def LAST_SWITCH (n : Nat) : Obj := ⟨(0x6000 + n) * 256 + 0x0D, 0⟩
/-- MAX_SWITCH (R429). -/
def MAX_SWITCH (n : Nat) : Obj := ⟨(0x6000 + n) * 256 + 0x0E, 0⟩
/-- LAST_LINK_WAIT (R429). -/
def LAST_LINK_WAIT (n : Nat) : Obj := ⟨(0x6000 + n) * 256 + 0x0F, 0⟩
/-- ABANDONED (R429). -/
def ABANDONED (n : Nat) : Obj := ⟨(0x6000 + n) * 256 + 0x10, 0⟩
/-- MAP_FIRST (R430). -/
def MAP_FIRST (n : Nat) : Obj := ⟨(0x6020 + n) * 256 + 0x01, 0⟩
/-- MAP_COUNT (R430). -/
def MAP_COUNT (n : Nat) : Obj := ⟨(0x6020 + n) * 256 + 0x02, 0⟩
/-- MAP_ENTRY (R430). -/
def MAP_ENTRY (n : Nat) : Obj := ⟨(0x6020 + n) * 256 + 0x03, 0⟩
/-- MAP_MODE (R430). -/
def MAP_MODE (n : Nat) : Obj := ⟨(0x6020 + n) * 256 + 0x04, 0⟩
/-- PROBE_PAGE (R430). -/
def PROBE_PAGE (n : Nat) : Obj := ⟨(0x6020 + n) * 256 + 0x05, 0⟩
/-- PROBE_ENTRY (R430). -/
def PROBE_ENTRY (n : Nat) : Obj := ⟨(0x6020 + n) * 256 + 0x06, 0⟩
/-- METER_TICK (R431). -/
def METER_TICK (n : Nat) : Obj := ⟨(0x6100 + n) * 256 + 0x01, 0⟩
/-- CORE_TICKS (R431). -/
def CORE_TICKS (n : Nat) : Obj := ⟨(0x6100 + n) * 256 + 0x02, 0⟩
/-- ENERGY_MJ (R431). -/
def ENERGY_MJ (n : Nat) : Obj := ⟨(0x6100 + n) * 256 + 0x03, 0⟩
/-- HBM_RD_BYTES (R431). -/
def HBM_RD_BYTES (n : Nat) : Obj := ⟨(0x6100 + n) * 256 + 0x04, 0⟩
/-- HBM_WR_BYTES (R431). -/
def HBM_WR_BYTES (n : Nat) : Obj := ⟨(0x6100 + n) * 256 + 0x05, 0⟩
/-- LINK_TX_BYTES (R431). -/
def LINK_TX_BYTES (n : Nat) : Obj := ⟨(0x6100 + n) * 256 + 0x06, 0⟩
/-- BE_QUANTUM (R432). -/
def BE_QUANTUM : Obj := ⟨0x60F0 * 256 + 0x01, 312500⟩
/-- CORES_FREE (R432). -/
def CORES_FREE : Obj := ⟨0x60F0 * 256 + 0x02, 0⟩
/-- LC_SLOTS (R432). -/
def LC_SLOTS : Obj := ⟨0x60F0 * 256 + 0x03, 0⟩
/-- BE_WAITING (R432). -/
def BE_WAITING : Obj := ⟨0x60F0 * 256 + 0x04, 0⟩
/-- PWR_MODE (R461). -/
def PWR_MODE (n : Nat) : Obj := ⟨(0x301B + n * 0x40) * 256 + 0x01, 0⟩
/-- PWR_WAIT (R461). -/
def PWR_WAIT (n : Nat) : Obj := ⟨(0x301B + n * 0x40) * 256 + 0x02, 0⟩
/-- PWR_LAST (R461). -/
def PWR_LAST (n : Nat) : Obj := ⟨(0x301B + n * 0x40) * 256 + 0x03, 0⟩
/-- PWR_ABANDONED (R461). -/
def PWR_ABANDONED (n : Nat) : Obj := ⟨(0x301B + n * 0x40) * 256 + 0x04, 0⟩
/-- DOM_STATE (R462). -/
def DOM_STATE (n : Nat) : Obj := ⟨(0x7100 + n) * 256 + 0x01, 0⟩
/-- DOM_TARGET (R462). -/
def DOM_TARGET (n : Nat) : Obj := ⟨(0x7100 + n) * 256 + 0x02, 0⟩
/-- DOM_DEPTH (R462). -/
def DOM_DEPTH (n : Nat) : Obj := ⟨(0x7100 + n) * 256 + 0x03, 0⟩
/-- DOM_AUTO (R462). -/
def DOM_AUTO (n : Nat) : Obj := ⟨(0x7100 + n) * 256 + 0x04, 0⟩
/-- DOM_ENTRIES (R462). -/
def DOM_ENTRIES (n : Nat) : Obj := ⟨(0x7100 + n) * 256 + 0x05, 0⟩
/-- DOM_LAST_WAKE (R462). -/
def DOM_LAST_WAKE (n : Nat) : Obj := ⟨(0x7100 + n) * 256 + 0x06, 0⟩
/-- VOTE_HOST (R462). -/
def VOTE_HOST (n : Nat) : Obj := ⟨(0x7100 + n) * 256 + 0x10, 255⟩
/-- VOTE_FW (R462). -/
def VOTE_FW (n : Nat) : Obj := ⟨(0x7100 + n) * 256 + 0x11, 0⟩
/-- VOTE_PART (R462). -/
def VOTE_PART (n : Nat) (i : Nat) : Obj := ⟨(0x7100 + n) * 256 + (0x12 + i), 255⟩
/-- VOTE_PORT (R462). -/
def VOTE_PORT (n : Nat) (i : Nat) : Obj := ⟨(0x7100 + n) * 256 + (0x22 + i), 255⟩
/-- CAP_W (R463). -/
def CAP_W : Obj := ⟨0x7000 * 256 + 0x01, 2800⟩
/-- PEAK_W (R463). -/
def PEAK_W : Obj := ⟨0x7000 * 256 + 0x02, 3200⟩
/-- CAP_STATUS (R463). -/
def CAP_STATUS : Obj := ⟨0x7000 * 256 + 0x03, 0⟩
/-- CAP_FLOOR (R463). -/
def CAP_FLOOR : Obj := ⟨0x7000 * 256 + 0x04, 0⟩
/-- CTRL_MODE (R463). -/
def CTRL_MODE : Obj := ⟨0x7000 * 256 + 0x05, 0⟩
/-- GUARD_PCT (R463). -/
def GUARD_PCT : Obj := ⟨0x7000 * 256 + 0x06, 97⟩
/-- CAP_TICK (R463). -/
def CAP_TICK : Obj := ⟨0x7000 * 256 + 0x07, 0⟩
/-- POWER_1S (R463). -/
def POWER_1S : Obj := ⟨0x7000 * 256 + 0x08, 0⟩
/-- POWER_1MS (R463). -/
def POWER_1MS : Obj := ⟨0x7000 * 256 + 0x09, 0⟩
/-- GATE (R463). -/
def GATE : Obj := ⟨0x7000 * 256 + 0x0A, 0⟩
/-- GATE_EVENTS (R463). -/
def GATE_EVENTS : Obj := ⟨0x7000 * 256 + 0x0B, 0⟩
/-- DISAGREE_RUN (R463). -/
def DISAGREE_RUN : Obj := ⟨0x7000 * 256 + 0x0C, 0⟩
/-- OP_NOW (R464). -/
def OP_NOW (n : Nat) : Obj := ⟨(0x7010 + n) * 256 + 0x01, 0⟩
/-- FREQ_MHZ (R464). -/
def FREQ_MHZ (n : Nat) : Obj := ⟨(0x7010 + n) * 256 + 0x02, 470⟩
/-- FLOOR_MHZ (R464). -/
def FLOOR_MHZ (n : Nat) : Obj := ⟨(0x7010 + n) * 256 + 0x03, 470⟩
/-- OP_MAX (R464). -/
def OP_MAX (n : Nat) : Obj := ⟨(0x7010 + n) * 256 + 0x04, 7⟩
/-- V_SET_MV (R464). -/
def V_SET_MV (n : Nat) : Obj := ⟨(0x7010 + n) * 256 + 0x05, 620⟩
/-- V_FAC_MV (R464). -/
def V_FAC_MV (n : Nat) : Obj := ⟨(0x7010 + n) * 256 + 0x06, 0⟩
/-- TRIM_MV (R464). -/
def TRIM_MV (n : Nat) : Obj := ⟨(0x7010 + n) * 256 + 0x07, 0⟩
/-- DROOP_GUARD (R464). -/
def DROOP_GUARD (n : Nat) : Obj := ⟨(0x7010 + n) * 256 + 0x08, 0⟩
/-- DROOP_STEPS (R464). -/
def DROOP_STEPS (n : Nat) : Obj := ⟨(0x7010 + n) * 256 + 0x09, 0⟩
/-- OP_CHANGES (R464). -/
def OP_CHANGES (n : Nat) : Obj := ⟨(0x7010 + n) * 256 + 0x0A, 0⟩
/-- ENERGY_MJ (R465). -/
def LEDGER_ENERGY_MJ : Obj := ⟨0x7020 * 256 + 0x01, 0⟩
/-- OVERHEAD_MJ (R465). -/
def OVERHEAD_MJ : Obj := ⟨0x7020 * 256 + 0x02, 0⟩
/-- WIN_TICK (R465). -/
def WIN_TICK : Obj := ⟨0x7020 * 256 + 0x03, 0⟩
/-- WIN_MEAS_MJ (R465). -/
def WIN_MEAS_MJ : Obj := ⟨0x7020 * 256 + 0x04, 0⟩
/-- WIN_EST_MJ (R465). -/
def WIN_EST_MJ : Obj := ⟨0x7020 * 256 + 0x05, 0⟩
/-- RAIL_MJ (R465). -/
def RAIL_MJ (i : Nat) : Obj := ⟨0x7020 * 256 + (0x06 + i), 0⟩
/-- CAND_COUNT (R485). -/
def CAND_COUNT (n : Nat) : Obj := ⟨(0x301C + n * 0x40) * 256 + 0x01, 0⟩
/-- REPRO_COUNT (R485). -/
def REPRO_COUNT (n : Nat) : Obj := ⟨(0x301C + n * 0x40) * 256 + 0x02, 0⟩
/-- LAST_CLASS (R485). -/
def LAST_CLASS (n : Nat) : Obj := ⟨(0x301C + n * 0x40) * 256 + 0x03, 0⟩
/-- CORE_CLASS (R485). -/
def CORE_CLASS (n : Nat) : Obj := ⟨(0x301C + n * 0x40) * 256 + 0x04, 0⟩
/-- SCAN_STATE (R485). -/
def SCAN_STATE (n : Nat) : Obj := ⟨(0x301C + n * 0x40) * 256 + 0x05, 0⟩
/-- SCAN_LAST (R485). -/
def SCAN_LAST (n : Nat) : Obj := ⟨(0x301C + n * 0x40) * 256 + 0x06, 0⟩
/-- SCANS (R485). -/
def SCANS (n : Nat) : Obj := ⟨(0x301C + n * 0x40) * 256 + 0x07, 0⟩
/-- CAND_TICK (R485). -/
def CAND_TICK (n : Nat) : Obj := ⟨(0x301C + n * 0x40) * 256 + 0x08, 0⟩
/-- LOG_COUNT (R486). -/
def LOG_COUNT : Obj := ⟨0x8000 * 256 + 0x01, 0⟩
/-- LOG_DROPPED (R486). -/
def LOG_DROPPED : Obj := ⟨0x8000 * 256 + 0x02, 0⟩
/-- LOG_INDEX (R486). -/
def LOG_INDEX : Obj := ⟨0x8000 * 256 + 0x03, 0⟩
/-- LOG_RECORD (R486). -/
def LOG_RECORD : Obj := ⟨0x8000 * 256 + 0x04, 0⟩
/-- BKP_RECORD (R486). -/
def BKP_RECORD (i : Nat) : Obj := ⟨0x8001 * 256 + (0x01 + i), 0⟩
/-- FENCE_REQ (R486). -/
def FENCE_REQ : Obj := ⟨0x8020 * 256 + 0x01, 0⟩
/-- SCAN_REQ (R486). -/
def SCAN_REQ : Obj := ⟨0x8020 * 256 + 0x02, 0⟩
/-- SCAN_PERIOD (R486). -/
def SCAN_PERIOD : Obj := ⟨0x8020 * 256 + 0x03, 86400⟩
/-- DEVICE_HEALTH (R486). -/
def DEVICE_HEALTH : Obj := ⟨0x8020 * 256 + 0x04, 0⟩
/-- UNIT_FAULT (R486). -/
def UNIT_FAULT : Obj := ⟨0x8020 * 256 + 0x05, 0⟩
/-- SWX_ENABLE (R487). -/
def SWX_ENABLE (n : Nat) : Obj := ⟨(0x8100 + n) * 256 + 0x01, 0⟩
/-- SWX_N (R487). -/
def SWX_N (n : Nat) : Obj := ⟨(0x8100 + n) * 256 + 0x02, 4⟩
/-- SWX_TICK (R487). -/
def SWX_TICK (n : Nat) : Obj := ⟨(0x8100 + n) * 256 + 0x03, 0⟩
/-- SWX_CHANNEL (R487). -/
def SWX_CHANNEL (n : Nat) : Obj := ⟨(0x8100 + n) * 256 + 0x04, 0⟩
/-- SWX_REPLICAS (R487). -/
def SWX_REPLICAS (n : Nat) : Obj := ⟨(0x8100 + n) * 256 + 0x05, 2⟩
/-- SWX_INDEX (R487). -/
def SWX_INDEX (n : Nat) : Obj := ⟨(0x8100 + n) * 256 + 0x06, 0⟩
/-- SWX_STATE (R487). -/
def SWX_STATE (n : Nat) : Obj := ⟨(0x8100 + n) * 256 + 0x07, 0⟩
/-- SWX_LAST_STEP (R487). -/
def SWX_LAST_STEP (n : Nat) : Obj := ⟨(0x8100 + n) * 256 + 0x08, 0⟩
/-- SWX_DIFF_SW (R487). -/
def SWX_DIFF_SW (n : Nat) : Obj := ⟨(0x8100 + n) * 256 + 0x09, 0⟩
/-- SWX_DIFF_SLOT (R487). -/
def SWX_DIFF_SLOT (n : Nat) : Obj := ⟨(0x8100 + n) * 256 + 0x0A, 0⟩
/-- SWX_ODD (R487). -/
def SWX_ODD (n : Nat) : Obj := ⟨(0x8100 + n) * 256 + 0x0B, 0⟩
/-- PART_LOG_LAST (R487). -/
def PART_LOG_LAST (n : Nat) : Obj := ⟨(0x8100 + n) * 256 + 0x0C, 0⟩
/-- SLOT_DIGEST (R487). -/
def SLOT_DIGEST (n : Nat) (i : Nat) : Obj := ⟨(0x8180 + n) * 256 + (0x01 + i), 0⟩
/-- SLOT_CORES (R487). -/
def SLOT_CORES (n : Nat) (i : Nat) : Obj := ⟨(0x8180 + n) * 256 + (0x41 + i), 0⟩
/-- SLOT_DIGEST_ATT (R487). -/
def SLOT_DIGEST_ATT (n : Nat) (i : Nat) : Obj := ⟨(0x8180 + n) * 256 + (0x81 + i), 0⟩
/-- BOOT_STATE (R515). -/
def BOOT_STATE : Obj := ⟨0x9000 * 256 + 0x01, 0⟩
/-- RESET_CAUSE (R515). -/
def RESET_CAUSE : Obj := ⟨0x9000 * 256 + 0x02, 1⟩
/-- RESET_COUNT (R515). -/
def RESET_COUNT : Obj := ⟨0x9000 * 256 + 0x03, 0⟩
/-- BOOT_MS (R515). -/
def BOOT_MS : Obj := ⟨0x9000 * 256 + 0x04, 0⟩
/-- IMAGE_SVN (R515). -/
def IMAGE_SVN : Obj := ⟨0x9000 * 256 + 0x05, 0⟩
/-- SVN_MIN (R515). -/
def SVN_MIN : Obj := ⟨0x9000 * 256 + 0x06, 0⟩
/-- SVN_COMMIT (R515). -/
def SVN_COMMIT : Obj := ⟨0x9000 * 256 + 0x07, 0⟩
/-- CONFIG_STATUS (R515). -/
def CONFIG_STATUS : Obj := ⟨0x9000 * 256 + 0x08, 0⟩
/-- PATTERN_OK (R515). -/
def PATTERN_OK : Obj := ⟨0x9000 * 256 + 0x09, 0⟩
/-- DEBUG_LEVEL (R515). -/
def DEBUG_LEVEL : Obj := ⟨0x9000 * 256 + 0x0A, 0⟩
/-- DEBUGGED (R515). -/
def DEBUGGED : Obj := ⟨0x9000 * 256 + 0x0B, 0⟩
/-- DBG_CHALLENGE (R515). -/
def DBG_CHALLENGE : Obj := ⟨0x9000 * 256 + 0x0C, 0⟩
/-- DBG_REQUEST (R515). -/
def DBG_REQUEST : Obj := ⟨0x9000 * 256 + 0x0D, 0⟩
/-- DBG_RESPONSE (R515). -/
def DBG_RESPONSE : Obj := ⟨0x9000 * 256 + 0x0E, 0⟩
/-- SANITISE (R515). -/
def SANITISE : Obj := ⟨0x9000 * 256 + 0x0F, 0⟩
/-- HANG_COUNT (R515). -/
def HANG_COUNT : Obj := ⟨0x9000 * 256 + 0x10, 0⟩
/-- FLASH_ADDR (R515). -/
def FLASH_ADDR : Obj := ⟨0x9010 * 256 + 0x01, 0⟩
/-- FLASH_OP (R515). -/
def FLASH_OP : Obj := ⟨0x9010 * 256 + 0x03, 0⟩
/-- FLASH_STATUS (R515). -/
def FLASH_STATUS : Obj := ⟨0x9010 * 256 + 0x04, 0⟩
/-- BLK_RESET (R516). -/
def BLK_RESET (n : Nat) : Obj := ⟨(0x301D + n * 0x40) * 256 + 0x01, 0⟩
/-- BLK_IDLE (R516). -/
def BLK_IDLE (n : Nat) : Obj := ⟨(0x301D + n * 0x40) * 256 + 0x02, 15⟩
/-- PORT_RESET (R516). -/
def PORT_RESET (n : Nat) : Obj := ⟨(0x5060 + n) * 256 + 0x01, 0⟩
/-- PORT_IDLE (R516). -/
def PORT_IDLE (n : Nat) : Obj := ⟨(0x5060 + n) * 256 + 0x02, 1⟩
/-- OWNER_KEY (R517). -/
def OWNER_KEY : Obj := ⟨0x9020 * 256 + 0x01, 0⟩
/-- DEBUG_KEY (R517). -/
def DEBUG_KEY : Obj := ⟨0x9020 * 256 + 0x02, 0⟩
/-- TJ_QUAD (R533). -/
def TJ_QUAD (i : Nat) : Obj := ⟨0x7030 * 256 + (0x01 + i), 0⟩
/-- TJ_SVC (R533). -/
def TJ_SVC : Obj := ⟨0x7030 * 256 + 0x05, 0⟩
/-- TJ_PEAK (R533). -/
def TJ_PEAK : Obj := ⟨0x7030 * 256 + 0x06, 0⟩

end K

end Sys2Proof.Machine
end

