-- ==== Sys2Proof/Machine/Num.lean ====
section
/-! DEFINITION. Number formats and their exact arithmetic (R106 to R131). A finite value is a sign, a magnitude and a
power of two; every result is formed exactly and rounded once. -/
namespace Sys2Proof.Machine

/-- A value of FP32, BF16 or an MX element: NaN, an infinity, or (-1)^s m 2^e. -/
inductive Fv where
  | nan
  | inf (s : Bool)
  | num (s : Bool) (m : Nat) (e : Int)
deriving DecidableEq, Repr

/-- +0. -/
def Fv.zero : Fv := .num false 0 0

/-- An integer times a power of two: the exact sums of the array and of the adders. -/
structure Dy where
  m : Int
  e : Int
deriving DecidableEq, Repr

/-- Exact sum. -/
def Dy.add (a b : Dy) : Dy :=
  if a.e ≤ b.e then ⟨a.m + b.m * (2 ^ (b.e - a.e).toNat : Nat), a.e⟩
  else ⟨a.m * (2 ^ (a.e - b.e).toNat : Nat) + b.m, b.e⟩

/-- The signed magnitude of a finite value. -/
def signed (s : Bool) (m : Nat) : Int := if s then -(m : Int) else m

/-- Rounding modes (R122, R124). -/
inductive Rm where
  | rne
  | rtz
deriving DecidableEq, Repr

/-- A magnitude divided by 2^k and rounded to an integer, to nearest with ties to even or toward zero. -/
def roundShift (rm : Rm) (m k : Nat) : Nat :=
  let q := m >>> k
  let r := m % 2 ^ k
  match rm with
  | .rtz => q
  | .rne => if 2 * r > 2 ^ k || (2 * r == 2 ^ k && q % 2 == 1) then q + 1 else q

/-- m 2^e rounded to a multiple of 2^q, as the multiple. -/
def toGrid (rm : Rm) (m : Nat) (e q : Int) : Nat :=
  if q ≤ e then m <<< (e - q).toNat else roundShift rm m (q - e).toNat

/-- The bits, without sign, of a positive magnitude m 2^e in a format with `f` fraction bits and an 8-bit exponent
(R108): one rounding; overflow gives infinity to nearest and the largest finite value toward zero (R119, R124). -/
def packMag (rm : Rm) (f m : Nat) (e : Int) : Nat :=
  if m = 0 then 0 else
  let top := (Nat.log2 m : Int) + e
  let q := max (top - f) (-126 - f)
  let n := toGrid rm m e q
  let code := (((q + f + 127) - 1).toNat <<< f) + n
  if code ≥ 255 <<< f then (match rm with | .rne => 255 <<< f | .rtz => (255 <<< f) - 1) else code

/-- The canonical quiet NaN of a format with `f` fraction bits (R109). -/
def nanOf (f : Nat) : Nat := (255 <<< f) + 2 ^ (f - 1)

/-- A value rounded once into a format with `f` fraction bits (23 for FP32, 7 for BF16). -/
def pack (rm : Rm) (f : Nat) (v : Fv) : Nat :=
  let sb (s : Bool) : Nat := if s then 2 ^ (f + 8) else 0
  match v with
  | .nan => nanOf f
  | .inf s => sb s + (255 <<< f)
  | .num s m e => sb s + packMag rm f m e

/-- The value of bits in a format with `f` fraction bits (R108, R110). -/
def unpack (f w : Nat) : Fv :=
  let s := bit w (f + 8)
  let ex := bits w (f + 7) f
  let fr := w % 2 ^ f
  if ex = 255 then (if fr = 0 then .inf s else .nan)
  else if ex = 0 then .num s fr (-126 - (f : Int))
  else .num s (fr + 2 ^ f) ((ex : Int) - 127 - f)

/-- FP32 bits as a value, and the FP32 bits nearest to a value. -/
def f32 (w : Nat) : Fv := unpack 23 w
/-- The FP32 bits of a value, to nearest. -/
def toF32 (v : Fv) : Nat := pack .rne 23 v
/-- BF16 bits as a value. -/
def bf16 (w : Nat) : Fv := unpack 7 w
/-- The BF16 bits of a value, to nearest. -/
def toBf16 (v : Fv) : Nat := pack .rne 7 v

/-- Sign inverted. -/
def Fv.neg (v : Fv) : Fv :=
  match v with
  | .nan => .nan
  | .inf s => .inf (!s)
  | .num s m e => .num (!s) m e

/-- Exact sum; an exact zero is +0 unless both operands are -0 (R119, IEEE 754). -/
def Fv.add (a b : Fv) : Fv :=
  match a, b with
  | .nan, _ => .nan
  | _, .nan => .nan
  | .inf s, .inf t => if s = t then .inf s else .nan
  | .inf s, _ => .inf s
  | _, .inf t => .inf t
  | .num s m e, .num t n g =>
    let d := Dy.add ⟨signed s m, e⟩ ⟨signed t n, g⟩
    if d.m = 0 then .num (s && t) 0 0 else .num (decide (d.m < 0)) d.m.natAbs d.e

/-- Exact product; infinity times zero is NaN (R120, R122). -/
def Fv.mul (a b : Fv) : Fv :=
  match a, b with
  | .nan, _ => .nan
  | _, .nan => .nan
  | .inf s, .inf t => .inf (s != t)
  | .inf s, .num t n _ => if n = 0 then .nan else .inf (s != t)
  | .num s m _, .inf t => if m = 0 then .nan else .inf (s != t)
  | .num s m e, .num t n g => .num (s != t) (m * n) (e + g)

/-- A finite value is zero. -/
def Fv.isZero (a : Fv) : Bool := match a with | .num _ 0 _ => true | _ => false
/-- Not a number. -/
def Fv.isNan (a : Fv) : Bool := match a with | .nan => true | _ => false
/-- NaN or infinity. -/
def Fv.nonfinite (a : Fv) : Bool := match a with | .num _ _ _ => false | _ => true
/-- The sign, false for NaN. -/
def Fv.sign (a : Fv) : Bool := match a with | .nan => false | .inf s => s | .num s _ _ => s

/-- Numeric order of two values, neither of them NaN: a < b, with -0 equal to +0. -/
def Fv.lt (a b : Fv) : Bool :=
  match a, b with
  | .nan, _ => false
  | _, .nan => false
  | .inf s, .inf t => s && !t
  | .inf s, _ => s
  | _, .inf t => !t
  | .num s m e, .num t n g => decide ((Dy.add ⟨signed s m, e⟩ ⟨signed (!t) n, g⟩).m < 0)

/-- Numeric equality; false where either is NaN. -/
def Fv.eq (a b : Fv) : Bool := !a.isNan && !b.isNan && !a.lt b && !b.lt a

/-- IEEE minimum: NaN if either is NaN; -0 below +0 (R122). -/
def Fv.min (a b : Fv) : Fv :=
  if a.isNan || b.isNan then .nan else if a.lt b then a else if b.lt a then b else if a.sign then a else b
/-- IEEE maximum. -/
def Fv.max (a b : Fv) : Fv :=
  if a.isNan || b.isNan then .nan else if a.lt b then b else if b.lt a then a else if a.sign then b else a

/-- Quotient with enough bits for one correct rounding: 64 bits below the quotient's unit, the lowest one sticky. -/
def divMag (m n : Nat) : Nat :=
  let q := (m <<< 96) / n
  if (m <<< 96) % n = 0 then 2 * q else 2 * q + 1

/-- Division as R122 gives it, before its rounding. -/
def Fv.div (a b : Fv) : Fv :=
  match a, b with
  | .nan, _ => .nan
  | _, .nan => .nan
  | .inf _, .inf _ => .nan
  | .inf s, .num t _ _ => .inf (s != t)
  | .num s _ _, .inf t => .num (s != t) 0 0
  | .num s m e, .num t n g =>
    if n = 0 then (if m = 0 then .nan else .inf (s != t))
    else if m = 0 then .num (s != t) 0 0 else .num (s != t) (divMag m n) (e - g - 97)

/-- Square root as R122 gives it, before its rounding; the lowest bit is sticky. -/
def Fv.sqrt (a : Fv) : Fv :=
  match a with
  | .nan => .nan
  | .inf s => if s then .nan else .inf false
  | .num s m e =>
    if m = 0 then .num s 0 0 else if s then .nan else
    let odd := e % 2 = 1
    let x := if odd then m * 2 else m
    let g := if odd then e - 1 else e
    let r := isqrt (x <<< 60)
    .num false (if r * r = x <<< 60 then 2 * r else 2 * r + 1) (g / 2 - 31)

/-- FP32 addition with one rounding (R119, R122). -/
def f32Add (a b : Nat) : Nat := toF32 ((f32 a).add (f32 b))
/-- FP32 product with one rounding. -/
def f32Mul (a b : Nat) : Nat := toF32 ((f32 a).mul (f32 b))
/-- FP32 fused a b + c with one rounding. -/
def f32Fma (a b c : Nat) : Nat := toF32 (((f32 a).mul (f32 b)).add (f32 c))

/-- Element formats of R162: 0 E4M3, 1 E5M2, 2 E3M2, 3 E2M3, 4 E2M1, 5 INT8, 8 BF16, 9 FP32. -/
def isMx (fmt : Nat) : Bool := decide (fmt ≤ 5)

/-- Element bytes per 32 positions (R162). -/
def e32 (fmt : Nat) : Nat :=
  match fmt with
  | 2 => 24 | 3 => 24 | 4 => 16 | 8 => 64 | 9 => 128 | _ => 32

/-- Bits of one element. -/
def elemBits (fmt : Nat) : Nat := e32 fmt / 4

/-- Exponent bits, fraction bits and bias of an MX floating element (R112). -/
def mxLayout (fmt : Nat) : Nat × Nat × Nat :=
  match fmt with
  | 0 => (4, 3, 7)
  | 1 => (5, 2, 15)
  | 2 => (3, 2, 3)
  | 3 => (2, 3, 1)
  | _ => (2, 1, 1)

/-- EMAX of R112. -/
def mxEmax (fmt : Nat) : Int :=
  match fmt with
  | 0 => 8 | 1 => 15 | 2 => 4 | 3 => 2 | 4 => 2 | _ => 0

/-- The value of an element's code, before its block scale (R112). -/
def elemVal (fmt w : Nat) : Fv :=
  if fmt = 8 then bf16 w
  else if fmt = 9 then f32 w
  else if fmt = 5 then
    let v := toSigned 8 w
    .num (decide (v < 0)) v.natAbs (-6)
  else
    let (eb, fb, bias) := mxLayout fmt
    let s := bit w (eb + fb)
    let ex := bits w (eb + fb - 1) fb
    let fr := w % 2 ^ fb
    if fmt = 0 && ex == 15 && fr == 7 then .nan
    else if fmt = 1 && ex == 31 then (if fr = 0 then .inf s else .nan)
    else if ex = 0 then .num s fr (1 - (bias : Int) - fb)
    else .num s (fr + 2 ^ fb) ((ex : Int) - bias - fb)

/-- The value of a block scale byte (R113). -/
def scaleVal (x : Nat) : Fv := if x = 255 then .nan else .num false 1 ((x : Int) - 127)

/-- An MX element times its scale (R113, R124), exact. -/
def mxVal (fmt w x : Nat) : Fv := (elemVal fmt w).mul (scaleVal x)

/-- The largest normal magnitude's code (R112). -/
def mxMaxCode (fmt : Nat) : Nat :=
  match fmt with
  | 0 => 0x7E | 1 => 0x7B | 2 => 0x1F | 3 => 0x1F | 4 => 0x7 | _ => 127

/-- A magnitude x = m 2^e rounded to the element grid and clamped (R125): the code without sign. -/
def elemCode (rm : Rm) (fmt m : Nat) (e : Int) : Nat :=
  if m = 0 then 0
  else if fmt = 5 then min (toGrid rm m e (-6)) 127
  else
    let (_, fb, bias) := mxLayout fmt
    let top := (Nat.log2 m : Int) + e
    let q := max (top - fb) (1 - (bias : Int) - fb)
    let n := toGrid rm m e q
    min ((((q + fb + bias) - 1).toNat <<< fb) + n) (mxMaxCode fmt)

/-- The code of a finite value divided by 2^x in an element format (R125). -/
def quantElem (rm : Rm) (fmt : Nat) (x : Int) (v : Fv) : Nat :=
  match v with
  | .num s m e =>
    let c := elemCode rm fmt m (e - x)
    if fmt = 5 then (if s then (256 - c) % 256 else c)
    else if s then c + 2 ^ (elemBits fmt - 1) else c
  | _ => 0

/-- floor(log2 |v|) of a finite value that is not zero. -/
def Fv.log2 (v : Fv) : Option Int :=
  match v with
  | .num _ m e => if m = 0 then none else some ((Nat.log2 m : Int) + e)
  | _ => none

/-- The largest of the exponents of a block's values; none where all are zero. -/
def amaxLog (vs : List Fv) : Option Int :=
  vs.foldl (fun a v => match a, v.log2 with
    | none, y => y
    | some x, none => some x
    | some x, some y => some (max x y)) none

/-- Quantising a block (R125): the scale byte and the element codes. -/
def quantBlock (rm : Rm) (fmt : Nat) (vs : List Fv) : Nat × List Nat :=
  if vs.any Fv.nonfinite then (255, vs.map (fun _ => 0))
  else match amaxLog vs with
    | none => (0, vs.map (fun _ => 0))
    | some a =>
      let e := max (a - mxEmax fmt) (-127)
      ((e + 127).toNat, vs.map (quantElem rm fmt e))

/-- FP32 to a signed 32-bit integer: saturating, NaN to 0 (R124). -/
def fvToI32 (rm : Rm) (v : Fv) : Nat :=
  let clampI (x : Int) : Nat := ofSigned 32 (max (-(2147483648 : Int)) (min 2147483647 x))
  match v with
  | .nan => 0
  | .inf s => clampI (if s then -4294967296 else 4294967296)
  | .num s m e => clampI (signed s (toGrid rm m e 0))

/-- A signed integer as a value. -/
def intVal (i : Int) : Fv := .num (decide (i < 0)) i.natAbs 0

/-- Round to nearest even of an integer divided by 2^k. -/
def rneInt (x : Int) (k : Nat) : Int := signed (decide (x < 0)) (roundShift .rne x.natAbs k)

/-- Step 1 of a hop (R128, R129): the fixed-point contribution, the overflow flag and the non-finite flag. -/
def madderIn (e : Int) (g : Nat) : Int × Bool × Bool :=
  match f32 g with
  | .num s m x =>
    let a := signed s (toGrid .rne m (x + 31 - e) 0)
    if a.natAbs > 2147483647 then (if a < 0 then -2147483647 else 2147483647, true, false) else (a, false, false)
  | _ => (0, false, true)

/-- Steps 2 and 3 of a hop (R128): the outgoing element and the overflow flag. -/
def madderOut (a qin : Int) : Int × Bool :=
  let q := rneInt (a + qin * 65536) 16
  if q.natAbs > 32767 then (if q < 0 then -32767 else 32767, true) else (q, false)

/-- One hop (R128): outgoing element, overflow, non-finite. -/
def madderHop (e : Int) (g : Nat) (qin : Int) : Int × Bool × Bool :=
  let (a, o, n) := madderIn e g
  let (q, o') := madderOut a qin
  (q, o || o', n)

/-- A Madder-16 element's FP32 bits, exact (R127). -/
def madderVal (e : Int) (q : Int) : Nat := toF32 (.num (decide (q < 0)) q.natAbs (e - 15))

end Sys2Proof.Machine
end

