-- ==== Sys2Proof/Machine/Map.lean ====
section
/-! DEFINITION. Sparse data by key: a list of (key, value) pairs with keys strictly rising and no entry equal to the
default that an unlisted key reads as. -/
namespace Sys2Proof.Machine

/-- Sparse data by key. -/
abbrev Map (β : Type) := List (Nat × β)

/-- The value at key `k`; `d` where nothing is listed. -/
def Map.get {β : Type} (m : Map β) (d : β) (k : Nat) : β :=
  match m with
  | [] => d
  | (k', v) :: r => if k' = k then v else Map.get r d k

/-- The entry listed at `k`, if any. -/
def Map.look {β : Type} (m : Map β) (k : Nat) : Option β :=
  match m with
  | [] => none
  | (k', v) :: r => if k' = k then some v else Map.look r k

/-- Lists `v` at `k`, in its place in the rising order. -/
def Map.ins {β : Type} (m : Map β) (k : Nat) (v : β) : Map β :=
  match m with
  | [] => [(k, v)]
  | (k', v') :: r =>
    if k < k' then (k, v) :: (k', v') :: r
    else if k' = k then (k, v) :: r
    else (k', v') :: Map.ins r k v

/-- Unlists `k`. -/
def Map.del {β : Type} (m : Map β) (k : Nat) : Map β := m.filter (fun e => e.1 != k)

/-- Writes `v` at `k`; writing the default unlists `k`. -/
def Map.set {β : Type} [DecidableEq β] (m : Map β) (d : β) (k : Nat) (v : β) : Map β :=
  if v = d then Map.del m k else Map.ins m k v

/-- Unlists every key from `lo` up to, not including, `hi`. -/
def Map.delRange {β : Type} (m : Map β) (lo hi : Nat) : Map β :=
  m.filter (fun e => e.1 < lo || hi ≤ e.1)

/-- The keys rise strictly from a bound on. -/
def Map.rising {β : Type} (lo : Nat) (m : Map β) : Bool :=
  match m with
  | [] => true
  | (k, _) :: r => decide (lo ≤ k) && Map.rising (k + 1) r

/-- The canonical form: keys strictly rising, no entry equal to the default. -/
def Map.wf {β : Type} [DecidableEq β] (d : β) (m : Map β) : Bool :=
  Map.rising 0 m && m.all (fun e => decide (e.2 ≠ d))

end Sys2Proof.Machine
end

