-- ==== Sys2Proof/Machine/State.lean ====
section
/-! DEFINITION. The state of the block: every register, memory, queue, counter, mode and pin that the spec gives the
device, as plain data, and the queue of the commands that wait. -/
namespace Sys2Proof.Machine

/-- Why the machine stops. -/
inductive Fault where
  /-- A command names a unit that the package does not have (a core of 64 or more, a link of 64 or more ...). Raised by
  every meaning that names a unit; safe: no such stimulus exists. -/
  | noSuchUnit
deriving DecidableEq, Repr

/-- Why a command has no meaning here. -/
inductive Refusal where
  /-- Not modelled yet; raised by no meaning, only by an arm of the dispatch. -/
  | notModelled (mnemonic : String)
deriving DecidableEq, Repr

/-- A handle (R29), the core cycle from which it is visible in its queue (R31, R73), the cycle in which it was pushed and the
place of its pusher in the engine order (R31). -/
structure Handle where
  status : Nat
  space : Nat
  offset : Nat
  vis : Nat := 0
  cyc : Nat := 0
  rank : Nat := 0
deriving DecidableEq, Repr

/-- A completion ring that is no longer in force but still takes the records of commands issued under it (R534). -/
structure Ring where
  base : Nat
  size : Nat
  pos : Nat
deriving DecidableEq, Repr

/-- An issued command that has not completed. `grans` lists the granules (memory times 256 plus granule) that its writes
entered, `outs` the message numbers of remote references not yet answered, `cost` its bound in core cycles or ticks; it does not complete
before the tick `hold` (R73). -/
structure InFlight where
  index : Nat
  op : Nat
  tick : Nat
  sig : Nat
  status : Nat
  space : Nat
  offset : Nat
  gen : Nat
  late : Bool
  start : Nat
  cost : Nat
  grans : List Nat
  outs : List Nat
  attempt : Nat
  hold : Nat := 0
deriving DecidableEq, Repr

/-- A matrix problem as its three descriptors give it, bases in bytes (R163 to R165, R170). -/
structure Prob where
  j : Nat
  wFmt : Nat
  wSquare : Bool
  sparse : Nat
  wElem : Nat
  wScale : Nat
  wMeta : Nat
  wPitch : Nat
  sFmt : Nat
  sSquare : Bool
  sElem : Nat
  sScale : Nat
  sPitch : Nat
  k : Nat
  dest : Nat
  dPitch : Nat
  m : Nat
  n : Nat
deriving DecidableEq, Repr

/-- A pass in flight, or abandoned at a switch and waiting for its reissue (R134 to R156). Drain writes at offsets below
`done` have been made. -/
structure Pass where
  fl : InFlight
  gang : Nat
  rate : Nat
  acc : Bool
  tfeed : Bool
  tdrain : Bool
  drain : Bool
  mmax : Nat
  dur : Nat
  done : Nat
  probs : List Prob
deriving DecidableEq, Repr

/-- The run-ahead buffer's bytes for one command, by fabric address, the index of the command after it, the reason (1 to 4) that
stopped its reading, and where its reading has paused, the number of source bytes gone through (R261, R262). -/
structure RaEntry where
  index : Nat
  next : Nat
  bytes : Map Byte
  stop : Nat := 0
  left : Option Nat := none
deriving DecidableEq, Repr

/-- Where a fabric address leads (R36 to R39): HBM, an accumulation page (quadrant times 8 MiB plus offset; add view), a
scratchpad, or another device (the whole fabric address). -/
inductive Loc where
  | hbm (x : Nat)
  | acc (a : Nat) (add : Bool)
  | sp (c mem off : Nat)
  | far (a : Nat)
deriving DecidableEq, Repr

/-- A place of a command: its window address (0 for a scratchpad) and where it leads. -/
abbrev Place := Nat × Loc

/-- What a move does to the bytes it reads (R249 to R253): nothing; transpose (bits of an element, padded rows and columns,
bytes of a source row, scale rows and columns); check a sparse operand in phase 1 or 2, or in phase 0 before the resident bits of
its destination are cleared (SPARSE, FMT, rows, K_valid, NB). -/
inductive Xform where
  | copy
  | transpose (n rr cc row sr sc : Nat)
  | sparse (phase sp fmt m k nb : Nat)
deriving DecidableEq, Repr

/-- An issued move or gather whose reads are not all answered: its runs of places, what it does, the places it writes,
the constants it writes in their stead (gather), the remote bytes that came, and the unreadable scratchpad words that it has
filed (R239). -/
structure Plan where
  runs : List (List Place)
  xform : Xform
  writes : List Place
  fill : List (Option Byte)
  got : Map Byte
  src : Option Nat
  seen : List (Nat × Nat × Nat) := []
deriving DecidableEq, Repr

/-- A reference to another device that waits for its response (R347, R348): the engine (code, number, partition), the
command, what it asked and when, for a write the bytes, and whether it is the fetch of a list slot or the write of a completion
record (R37). -/
structure Remote where
  k : Nat
  n : Nat
  p : Nat
  index : Nat
  write : Bool
  addr : Nat
  len : Nat
  sent : Nat
  attempt : Nat
  data : List Nat
  list : Bool
deriving DecidableEq, Repr

/-- No reference. -/
def Remote.none : Remote :=
  { k := 0, n := 0, p := 0, index := 0, write := false, addr := 0, len := 0, sent := 0, attempt := 0, data := [], list := false }

/-- An engine's context: its list, its place in it, the handle it holds, whether the command at its head is late and was
held so by the peak-limit gate (R97, R155), the status with which its list was refused (R23), the stall cause that its last attempt to issue met beyond its operands (R42: 7 or
8, else 0), the cycle before which a stain holds it (R73), the
cycle in which its last issued command ended, the first cycle in which its next command may come to its issue, the cycles of
the present tick that are counted already (R42), its issued commands, and the slots of a list in another device that have come
(R37). -/
structure EngCtx where
  fetched : Bool
  refused : Bool
  count : Nat
  bound : Nat
  index : Nat
  popped : Option Handle
  late : Bool
  gated : Bool
  lateFiled : Bool
  why : Nat
  hold : Option Nat
  till : Nat
  nxt : Nat
  spent : Nat
  busy : List InFlight
  gen : Nat
  rings : Map Ring
  far : Map (List Nat)
  refusal : Nat := 0
deriving DecidableEq, Repr

/-- An engine that has no list. -/
def EngCtx.init : EngCtx :=
  { fetched := false, refused := false, count := 0, bound := 0, index := 0, popped := none, late := false,
    gated := false, lateFiled := false, why := 0, hold := none, till := 0, nxt := 0, spent := 0, busy := [], gen := 0, rings := [], far := [] }

/-- The vector command in flight (R220, R222, R225, R228): its opcode, the words of its head and descriptors, what it popped, its
program's words, its length, the next step (a beat, or a band of a conversion), the cycles spent before it last began, the partials
of its row reductions, the keys of the words that it could not read, and whether a pass was in flight meanwhile (R236). -/
structure VxJob where
  op : Nat
  words : List Nat
  waitQ : Nat
  handle : Option Handle
  prog : List Nat
  vlen : Nat
  next : Nat
  base : Nat
  part : List (Nat × List Nat)
  bad : List Nat
  overlap : Bool
deriving DecidableEq, Repr

/-- A core's scratchpads, queues and engines: the live state of the slot it holds (R132, R232, R418); `redo` lists the
references abandoned at a switch, to be issued again on resume (R420), `mxQuiet` the index of an issued MX_QUIESCE that
waits for the passes in flight (R175; 0 none). Scratchpad
contents, marks and granules are keyed by memory (0 WM, 1 AM, 2 PM, 3 VR). -/
structure Core where
  sp : Map Byte
  poison : Map Bool
  flaw : Map Finding
  once : Map Bool
  crcOff : Map Nat
  resident : Map Bool
  dirty : Map Bool
  hq : Map (List Handle)
  vlen : Nat
  eng : Map EngCtx
  vx : Option VxJob
  passes : List Pass
  reruns : List Pass
  ra : List RaEntry
  raStop : Nat
  plan : Map (Option Plan)
  src : Map Nat
  scrubLine : Map Nat
  scrubAt : Map Nat
  mxStop : Bool
  mxWait : Nat
  mxQuiet : Nat
  zeroTill : Nat
  redo : List Remote
deriving DecidableEq, Repr

/-- A core as zeroisation leaves it, with no list in its engines. -/
def Core.init : Core :=
  { sp := [], poison := [], flaw := [], once := [], crcOff := [], resident := [], dirty := [], hq := [], vlen := 0, eng := [], vx := none, passes := [],
    reruns := [], ra := [], raStop := 0, plan := [], src := [], scrubLine := [], scrubAt := [], mxStop := false, mxWait := 0, mxQuiet := 0, zeroTill := 0,
    redo := [] }

/-- A segment of the schedule (R84). -/
structure Seg where
  stop : Nat
  act : Nat
  boundary : Bool
deriving DecidableEq, Repr

/-- An entry of the shared table (R84): engine type, number, list address. -/
structure ShEnt where
  kind : Nat
  num : Nat
  base : Nat
deriving DecidableEq, Repr

/-- A vote record (R303). -/
structure VoteRec where
  attempt : Nat
  step : Nat
  device : Nat
  cause : Nat
  clean : Bool
  nf : Bool
deriving DecidableEq, Repr

/-- A swatch exchange record (R470). -/
structure SwxRec where
  step : Nat
  device : Nat
  replica : Nat
  damaged : Bool
  partials : Nat
  used : Nat
  swatch : List Nat
  digests : List Nat
deriving DecidableEq, Repr

/-- The loaded schedule of a partition and what its attempt has met so far (R84 to R91, R301 to R312). -/
structure Sched where
  slots : Nat
  slack : Nat
  mode : Nat
  pace : Nat
  period : Nat
  segs : List Seg
  lists : List (List Nat)
  shared : List ShEnt
  seg : Nat
  maxAct : Nat
  suspendReq : Bool
  suspTick : Nat
  endReq : Bool
  resumeAt : Option Nat
  atCommit : Bool
  causes : List Nat
  nf : Bool
  unlocked : Bool
  fenced : Bool
  recFail : Nat
  voted : Bool
  votes : List VoteRec
  decided : Bool
  failCommit : Nat
  fencedSlots : List Nat
  swx : List SwxRec
  swxSent : Bool
  lostEnd : Bool
  excused : List Nat
  doubted : Bool
  scale : Nat
deriving DecidableEq, Repr

/-- No schedule. -/
def Sched.init : Sched :=
  { slots := 0, slack := 0, mode := 0, pace := 0, period := 0, segs := [], lists := [], shared := [], seg := 0,
    maxAct := 0, suspendReq := false, suspTick := 0, endReq := false, resumeAt := none, atCommit := false,
    causes := [], nf := false, unlocked := false, fenced := false, recFail := 0, voted := false, votes := [],
    decided := false, failCommit := 0, fencedSlots := [], swx := [], swxSent := false, lostEnd := false, excused := [], doubted := false, scale := 16 }

/-- A slot's saved image (R418): its live state and its core objects, keyed by their offset in the core's block. -/
structure Image where
  core : Core
  objs : Map Nat
deriving DecidableEq, Repr

/-- The image of a fresh slot. -/
def Image.init : Image := { core := Core.init, objs := [] }

/-- A record that a partition's shared ring took: its tick, the ring's generation, the engine's number, where it stands and its
bytes (R534). -/
structure RingEntry where
  tick : Nat
  gen : Nat
  eng : Nat
  addr : Nat
  bytes : List Nat
deriving DecidableEq, Repr

/-- What the device holds for a partition beside its objects: its key pair and how many it has had (R280), window (R409), schedule, slot images,
engine contexts (R314, R373), swatch and digest accumulators, handles held for slots that are not resident (R416), a
creation in progress (R406) with the tick of its commit, and what a release still waits for (R427): channel k as k, way w of quadrant q as
1000 + 16q + w, an accumulation area as 2000 + q; the quantities metered since the last update (R428): core-ticks, energy
in microjoules, HBM bytes read and written, link bytes; the records that its two shared rings took in the present tick,
by kind of engine, in ring order (R534). -/
structure Part where
  keyGen : Nat
  keys : Nat × Nat
  window : Map Nat
  sched : Sched
  images : Map Image
  up : Map EngCtx
  rd : Map EngCtx
  heldHq : Map (List Handle)
  swatch : Map Nat
  digest : Map Nat
  admitted : Nat
  quantumUp : Bool
  creating : Bool
  born : Nat
  releasing : List Nat
  ledger : Map Nat
  meters : Map Nat
  ringNow : Map (List RingEntry)
deriving DecidableEq, Repr

/-- A partition that was never created. -/
def Part.init : Part :=
  { keyGen := 0, keys := (0, 0), window := [], sched := Sched.init, images := [], up := [], rd := [], heldHq := [], swatch := [],
    digest := [], admitted := 0, quantumUp := false, creating := false, born := 0, releasing := [], ledger := [], meters := [], ringNow := [] }

/-- An error record (R480). -/
structure ErrRec where
  seq : Nat
  cls : Nat
  part : Nat
  status : Nat
  opcode : Nat
  volt : Nat
  temp : Nat
  unit : Nat
  index : Nat
  syndrome : Nat
  aux : Nat
  tick : Nat
deriving DecidableEq, Repr

/-- A message of a link's virtual channels (R340, R343): its header fields and its payload bytes. -/
structure Msg where
  vc : Nat
  dest : Nat
  src : Nat
  part : Nat
  priv : Bool
  id : Nat
  payload : List Nat
deriving DecidableEq, Repr

/-- A value staged in a session (R51): a number, or the bytes of a DOMAIN. -/
structure Staged where
  key : Nat
  val : Nat
  dom : Option (List Nat)
deriving DecidableEq, Repr

/-- A dictionary response (R59). -/
structure Resp where
  tag : Nat
  session : Nat
  op : Nat
  index : Nat
  sub : Nat
  result : Nat
  reason : Nat
  version : Nat
  offset : Nat
  data : List Nat
deriving DecidableEq, Repr

/-- A session's staging set, segment buffer, kept tags and commit objects (R51, R54, R60, R62). -/
structure Session where
  staged : List Staged
  state : Nat
  mode : Nat
  commitAt : Nat
  commitTick : Nat
  failObject : Nat
  failReason : Nat
  appliedTick : Nat
  seq : Nat
  buf : Option (Nat × List Nat)
  tags : List (List Nat × Resp)
deriving DecidableEq, Repr

/-- A session that holds nothing. -/
def Session.init : Session :=
  { staged := [], state := 0, mode := 0, commitAt := 0, commitTick := 0, failObject := 0, failReason := 0,
    appliedTick := 0, seq := 0, buf := none, tags := [] }

/-- A stage-cache line (R281): its line number, whether it is dirty, which of its bytes are valid (bit i, byte i). -/
structure CLine where
  line : Nat
  dirty : Bool
  mask : Nat
deriving DecidableEq, Repr

/-- An empty way. -/
def CLine.none : CLine := { line := 0, dirty := false, mask := 0 }

/-- Tracker entries that a command in flight holds (R287): its engine as `waitCode` codes it, its index, its class (a partition,
or 16 for the reserved entries), the quadrant and how many. -/
structure TrkEnt where
  code : Nat
  index : Nat
  cls : Nat
  quad : Nat
  n : Nat
deriving DecidableEq, Repr

/-- A completion record whose ring entry lies in an accumulation area that is locking (R284): its engine's code, number and
partition, the command's index and opcode, the partition in whose name it is written (255 none), where and what. -/
structure RecWait where
  k : Nat
  n : Nat
  p : Nat
  index : Nat
  op : Nat
  part : Nat
  addr : Nat
  bytes : List Nat
deriving DecidableEq, Repr

/-- The HBM stacks and stage caches: the bytes that owners have written, in plaintext, by physical offset; the bytes that the
stacks hold where no owner has written (R280, R407); poisoned lines; the error that a read of a line in its stack meets (R277);
lines corrected once since the patrol scrub; the activation counts of the banks and the tick of each stack's last refresh (R276);
the bytes of the accumulation areas (quadrant times 8 MiB plus offset) and their poisoned lines; cache tags (quadrant,
set, way), the pseudo-LRU trees, the requests that wait for a transaction tracker by quadrant (R288, coded as
`waitCode`), the entries held, and the ways that drain (kind 0), lock (1) or unlock (2), each as 16 times its quadrant plus its
number (R283, R284), and the completion records that wait for a locking area. -/
structure Mem where
  cells : Map Byte
  raw : Map Byte
  poison : Map Bool
  flaw : Map Finding
  once : Map Bool
  acts : Map Nat
  refreshed : Map Nat
  acc : Map Byte
  accBad : Map Bool
  tags : Map CLine
  plru : Map Nat
  trkWait : Map (List Nat)
  trk : List TrkEnt
  drain : List (Nat × Nat)
  recWait : List RecWait
deriving DecidableEq, Repr

/-- Untouched memory. -/
def Mem.init : Mem :=
  { cells := [], raw := [], poison := [], flaw := [], once := [], acts := [], refreshed := [], acc := [], accBad := [], tags := [],
    plru := [], trkWait := [], trk := [], drain := [], recWait := [] }

/-- The error logger (R484, R528): the last 4,096 records, newest first, the records of the present millisecond, the last
64 records, newest first, as the VBKP domain holds them, and whether the millisecond of ALERT_N after a record runs. -/
structure Log where
  recs : List ErrRec
  ms : Nat
  inMs : Nat
  bkp : List ErrRec
  alert : Bool
  alertAt : Nat
deriving DecidableEq, Repr

/-- No record. -/
def Log.init : Log := { recs := [], ms := 0, inMs := 0, bkp := [], alert := false, alertAt := 0 }

/-- A bucket of a reduction channel that a re-pass may still cover (R379, R387 to R391): its operands, whether a carry-in
and the own contribution took part, the block exponents agreed (as bytes), the blocks owed in the own piece, the
contributions counted, whether a block of the own piece ended NF, the most re-pass rounds applied to one. -/
structure Bucket where
  seq : Nat
  n : Nat
  scatter : Bool
  src : Nat
  dst : Nat
  carry : Nat
  entry : Nat
  cin : Bool
  incl : Bool
  held : Bool
  exps : Map Nat
  owed : List Nat
  count : Nat
  nf : Bool
  rounds : Nat
deriving DecidableEq, Repr

/-- An operation in flight on a reduction channel (R373 to R391). `fate` is none until the contribution is decided,
`holding` while a colourfast deadline holds it, `replay` the ledger entry that rules it; `scale`, `rs` and `ag` count the
items that came; re-pass: round, stage (0 lists, 1 blocks, 2 done), the lists by origin (position, entries, complete), the
entries kept and those that became NF, the items of a piece that came in each pass. `lost` says that a message of it was lost,
`inh` is the status it inherits from its contribution's handle, `ended` that its attempt has ended (R89). -/
structure RingOp where
  repass : Bool
  eng : Nat
  part : Nat
  fl : InFlight
  bk : Bucket
  contrib : Nat
  readyQ : Nat
  bound : Nat
  fate : Option Bool
  holding : Bool
  replay : Option Nat
  scaleN : Nat
  rsN : Nat
  agN : Nat
  maxE : Map Nat
  round : Nat
  stage : Nat
  lists : List (Nat × List (Nat × Nat) × Bool)
  kept : List (Nat × Nat)
  nfs : List (Nat × Nat)
  progR : Map Nat
  progA : Map Nat
  lost : Bool
  inh : Nat
  ended : Bool := false
deriving DecidableEq, Repr

/-- A bucket whose contribution a deadline or a replayed ledger excluded and whose handle may still come (R395 to R398): whether
that handle lets it be carried out, and whether a replayed ledger says that it never came. -/
structure LateRec where
  bk : Bucket
  readyQ : Nat
  bound : Nat
  eng : Nat
  carryOut : Bool
  lost : Bool := false
deriving DecidableEq, Repr

/-- A reduction channel: its operation, the messages in its RX area, the operations completed and aborted in the attempt,
the buckets since its last re-pass, the contributions that came too late. -/
structure Chan where
  op : Option RingOp
  rx : List Msg
  done : Nat
  aborted : List Nat
  buckets : List Bucket
  late : List LateRec
deriving DecidableEq, Repr

/-- An idle channel. -/
def Chan.init : Chan := { op := none, rx := [], done := 0, aborted := [], buckets := [], late := [] }

/-- A DATA flit in the replay buffer: the message it belongs to, how often it was retransmitted, when it was last sent
(R349 to R351). -/
structure Sent where
  flit : Flit
  msg : Msg
  tries : Nat
  last : Nat
deriving DecidableEq, Repr

/-- A message of which some flits have come (R343): the message so far, when its last flit came, and whether it was
discarded, so that the rest of it is discarded too. -/
structure Partial where
  msg : Msg
  last : Nat
  dead : Bool
deriving DecidableEq, Repr

/-- A link (R337 to R371): per virtual channel the messages to send, those that wait for room, the bytes of the first that
have left, the messages received and the partial ones; the next sequence number, the replay buffer and its replay point,
the send credits; the last flit accepted, the NAK state, the credits to return; what the last slot sent; the peer's
channels; negotiation (what was sent last, the version chosen, an ACCEPT sent or received, the peer's OFFER); LINK_CTL
flits to send and the standby handshake (0 none, 1 request sent, 2 acknowledged) with the tick of its last request and the
NULL slots still to send; slots since a VC0 flit; training restarts in a row; the tick at which training or the failed
state began; the last valid flit; the tick at which the link came up; whether its routes stay away after a failure; the
last record of kind 0x5; corrected symbols of the last second, by tick (R339); time marks: the last received (transmission
time, receipt), the tick of the next, the one to send; a replay request put off (R350), the tick after the last OFFER or ACCEPT
(R355). The groups (R337, R338): the counter of the group being sent, its flits so far, the symbols that the last whole group put
on each lane; the counter expected of the next group received (none before the first), the place of the next flit in its group,
whether the codeword under way and the group are to be discarded or met an uncorrectable codeword, good and bad groups in a row; the ticks at which the messages that wait on VC0 came (R61). -/
structure Link where
  txq : Map (List Msg)
  held : Map (List Msg)
  off : Map Nat
  inbox : Map (List Msg)
  rx : Map (Option Partial)
  seq : Nat
  buf : List Sent
  replay : Option Nat
  cred : Map Nat
  ack : Nat
  nak : Bool
  nakTick : Nat
  ret : Map Nat
  retVc : Nat
  out : Option Flit
  mask : Nat
  neg : Option Nego
  chosen : Nat
  sentAcc : Bool
  gotAcc : Bool
  offered : Option Nego
  ctl : List Nat
  standby : Nat
  sbTick : Nat
  sbSlots : Nat
  gap : Nat
  restarts : Nat
  trainAt : Nat
  lastRx : Nat
  upAt : Nat
  away : Bool
  dropTick : Nat
  corr : List (Nat × Nat)
  markRx : Option (Nat × Nat)
  markDue : Nat
  markOut : Option Mark
  nakWant : Bool
  offerAt : Nat
  txCount : Nat
  txGrp : List Flit
  lanes : List (List Nat)
  rxCount : Option Nat
  rxSlot : Nat
  cwBad : Bool
  grpBad : Bool
  grpFlaw : Bool
  goodGroups : Nat
  badGroups : Nat
  cameAt : List Nat
deriving DecidableEq, Repr

/-- A link that is down. -/
def Link.init : Link :=
  { txq := [], held := [], off := [], inbox := [], rx := [], seq := 0, buf := [], replay := none, cred := [], ack := 4095,
    nak := false, nakTick := 0, ret := [], retVc := 0, out := none, mask := 0, neg := none, chosen := 0, sentAcc := false,
    gotAcc := false, offered := none, ctl := [], standby := 0, sbTick := 0, sbSlots := 0, gap := 7, restarts := 0,
    trainAt := 0, lastRx := 0, upAt := 0, away := false, dropTick := 0, corr := [], markRx := none, markDue := 0, markOut := none, nakWant := false, offerAt := 0, txCount := 0, txGrp := [],
    lanes := [], rxCount := none, rxSlot := 0, cwBad := false, grpBad := false, grpFlaw := false, goodGroups := 0, badGroups := 0, cameAt := [] }

/-- A switch on a core (R417): the slot that leaves and the slot that comes (partition, slot), whether the leaving slot is
placed again at once (R424), the tick of the request, whether its engines have stopped (step 1), whether its image is
saved (step 2), the ticks its remote references took. -/
structure Switch where
  out : Option (Nat × Nat)
  inn : Option (Nat × Nat)
  back : Bool
  req : Nat
  started : Bool
  saved : Bool
  link : Nat
deriving DecidableEq, Repr

/-- The power manager (R433 to R459): the cap in force and the one written with the tick at which it takes effect; the
partitions whose suspension it has asked for; windows in a row within 5 per cent; fractions of a millijoule carried, in
microjoules (rail i as i, partition p as 100 + p, overhead as 200); the energy of the last 1,000 windows in mJ; the entries in
progress (domain: one more than the target) and those that a wake event abandons; the returns in progress (domain: end
tick); the quadrants whose voltage ramps (one more than the point); those whose clock droop steps; the tick after each
quadrant's last trim; the last projection in W; in the present window, the HBM bytes and flits of each partition (8p, 8p + 1)
and the ticks that a partition was resident on a core (32 core + p); the quadrants below the pace of a running schedule whose
record is filed (R93). -/
structure Pwr where
  capNow : Nat
  capNew : Option (Nat × Nat)
  asked : List Nat
  agree : Nat
  carry : Map Nat
  hist : List Nat
  entering : Map Nat
  wakeReq : List Nat
  waking : Map Nat
  ramp : Map Nat
  rampAt : Map Nat
  droop : List Nat
  droopAt : Map Nat
  trimAt : Map Nat
  proj : Nat
  win : Map Nat
  res : Map Nat
  below : List Nat
deriving DecidableEq, Repr

/-- The power manager at reset. -/
def Pwr.init : Pwr :=
  { capNow := 2800, capNew := none, asked := [], agree := 0, carry := [], hist := [], entering := [], wakeReq := [],
    waking := [], ramp := [], rampAt := [], droop := [], droopAt := [], trimAt := [], proj := 0, win := [], res := [], below := [] }

/-- The fabric-time unit (R75 to R83): the value that a step waits to load, good marks in a row, whether ACQUIRING has
stepped already, the tick of the last valid upstream mark, the tick at which HOLDOVER began, ticks since the last slew by 1/256
tick (R81), whether the last upstream mark was too deep (R360). -/
structure Ftu where
  pend : Option Nat
  good : Nat
  stepped : Bool
  mark : Nat
  since : Nat
  slew : Nat
  deep : Bool
deriving DecidableEq, Repr

/-- The fabric-time unit at reset. -/
def Ftu.init : Ftu := { pend := none, good := 0, stepped := false, mark := 0, since := 0, slew := 0, deep := false }

/-- A reduction engine's place in its rotation (R372): the source served last (0 to 7 the links of its port, 8 its cross-port input),
and how many messages it has taken in the tick `tick`. -/
structure RdTurn where
  last : Nat
  tick : Nat
  taken : Nat
deriving DecidableEq, Repr

/-- An engine that has served none: the rotation begins with the port's first link. -/
def RdTurn.init : RdTurn := { last := 8, tick := 0, taken := 0 }

/-- The device without the part that boot and security own. The last fields: occurrences that each stain slot has met,
fences that wait for an end tick with their DETAIL (R477), cores that wait for a scan (R476), the tick at which the present
scan started, the tick from which the scan period runs; the cores released (R495), the quadrants whose regulator does not
answer (R522), the cores to be scanned before release (R492); snapshots to take (tick, partition or 255) and the ticks of
clears to come (R70); the ticks by which a stain delays the memory responses of the event at hand, and the messages that
stains hold until a tick (R73); the reduction engines' rotations (R372). -/
structure Dev where
  free : Nat
  now : Nat
  cyc : Map Nat
  objs : Map Nat
  doms : Map (List Nat)
  sessions : Map Session
  snap : Map Nat
  cores : Map Core
  mem : Mem
  parts : Map Part
  log : Log
  links : Map Link
  msgId : Nat
  remote : Map Remote
  chans : Map Chan
  sw : Map (Option Switch)
  lastBe : Nat
  pwr : Pwr
  ft : Ftu
  stainN : Map Nat
  fenceWait : List (Nat × Nat)
  scanQ : List Nat
  scanAt : Nat
  scanFrom : Nat
  released : Nat
  avs : List Nat
  scanHold : List Nat
  snapPend : List (Nat × Nat)
  clearAt : List Nat
  memDelay : Nat
  delayed : List (Nat × Msg)
  rdTurn : Map RdTurn
deriving DecidableEq, Repr

/-- A device at its defaults (R50): nothing listed in its maps but session 0, which is open, and the internal session 63, which
stands negotiated in version 1 (R65, log entry 115). -/
def Dev.init : Dev :=
  { free := 0, now := 0, cyc := [],
    objs := [(0x1200 * 256 + 1, 1), (0x123F * 256 + 1, 2), (0x123F * 256 + 2, 3), (0x123F * 256 + 4, 0x41), (0x123F * 256 + 5, 1)],
    doms := [], sessions := [], snap := [], cores := [], mem := Mem.init, parts := [], log := Log.init, links := [],
    msgId := 0, remote := [], chans := [], sw := [], lastBe := 255, pwr := Pwr.init, ft := Ftu.init, stainN := [],
    fenceWait := [], scanQ := [], scanAt := 0, scanFrom := 0, released := 0, avs := [], scanHold := [], snapPend := [],
    clearAt := [], memDelay := 0, delayed := [], rdTurn := [] }

/-- A packet of the management port (R64), or a response to the Krytsen core on port 65: whether it starts and ends its message,
its number modulo 4, its bytes. -/
structure Packet where
  port : Nat
  som : Bool
  eom : Bool
  seq : Nat
  body : List Nat
deriving DecidableEq, Repr

/-- Boot, security, the management port, the flash and the pins (R488 to R529): the flash bytes (erased 0xFF); RESET_N low,
a rail out of tolerance, THERMTRIP_N latched; ALERT_N and FAULT_N as they were when reset began; ticks since t = 0; the kind of
the failure that led to recovery and the sectors erased since; the debug challenge, the level requested, a rise to FULL
that waits for zeroisation; SANITISE in progress; the flash operations in progress, in order (code, address, data); the
cause of a power-on reset that waits for RESET_N to rise (0 none); the
measurement digests; the management port's dynamic address, its MCTP endpoint, its SPDM connection (0 none, 1 version, 2
capabilities, 3 algorithms) with its transcript, and the messages that it sent (port 64, or 65 for the internal session);
the instruction of the test port. -/
structure Sec where
  flash : Map Byte
  resetN : Bool
  railBad : Bool
  thermtrip : Bool
  alertPin : Bool
  faultPin : Bool
  boot : Nat
  failKind : Nat
  recErased : List Nat
  challenge : Nat
  dbgWant : Nat
  pendingFull : Bool
  sanitising : Bool
  flashQ : List (Nat × Nat × List Nat)
  coldCause : Nat
  digests : Map Nat
  i3cAddr : Nat
  eid : Nat
  spdm : Nat
  transcript : List Nat
  out : List Packet
  tap : TapInstr
deriving DecidableEq, Repr

/-- Boot and security at reset, with an erased flash. -/
def Sec.init : Sec :=
  { flash := [], resetN := false, railBad := false, thermtrip := false, alertPin := false, faultPin := false, boot := 0,
    failKind := 0, recErased := [], challenge := 0, dbgWant := 0, pendingFull := false, sanitising := false, flashQ := [], coldCause := 0,
    digests := [], i3cAddr := 0, eid := 0, spdm := 0, transcript := [], out := [],
    tap := .idcode }

/-- The state: the commands that wait, boot and security, the device. -/
structure State where
  pending : List Instr
  sec : Sec
  dev : Dev
deriving DecidableEq, Repr

/-- The machine right after reset: every object at its default, BOOT_STATE 0x00, nothing placed (log entries 3 and 8). -/
def State.reset : State := { pending := [], sec := Sec.init, dev := Dev.init }

end Sys2Proof.Machine
end

