-- ==== Sys2Proof/Machine/Ops.lean ====
section
/-! DEFINITION. The named operations over the state: objects, memory, scratchpads, handles, records. Every meaning goes
through them. -/
namespace Sys2Proof.Machine

/-! ## Objects and free values -/

/-- The value of an object. -/
def Dev.get (d : Dev) (o : Obj) : Nat := Map.get d.objs o.dflt o.key

/-- Sets an object. -/
def Dev.put (d : Dev) (o : Obj) (v : Nat) : Dev := { d with objs := Map.set d.objs o.dflt o.key v }

/-- An object read as a truth value. -/
def Dev.flag (d : Dev) (o : Obj) : Bool := d.get o == 1

/-- Adds to a counter of `w` bits that stops at its largest value (R68). -/
def Dev.bump (w : Nat) (d : Dev) (o : Obj) (n : Nat) : Dev := d.put o (addSat w (d.get o) n)

/-- A 64-bit counter plus n. -/
def Dev.cnt (d : Dev) (o : Obj) (n : Nat) : Dev := Dev.bump 64 d o n

/-- Draws a free value of `w` bits (log entry 2). -/
def Dev.draw (d : Dev) (w : Nat) : Nat × Dev := (Config.freeNat d.free % 2 ^ w, { d with free := d.free + 1 })

/-- A core, a partition, a link. -/
def Dev.core (d : Dev) (c : Nat) : Core := Map.get d.cores Core.init c
/-- Replaces a core. -/
def Dev.setCore (d : Dev) (c : Nat) (x : Core) : Dev := { d with cores := Map.set d.cores Core.init c x }
/-- A partition's record. -/
def Dev.part (d : Dev) (p : Nat) : Part := Map.get d.parts Part.init p
/-- Replaces a partition's record. -/
def Dev.setPart (d : Dev) (p : Nat) (x : Part) : Dev := { d with parts := Map.set d.parts Part.init p x }
/-- A partition's schedule. -/
def Dev.sched (d : Dev) (p : Nat) : Sched := (d.part p).sched
/-- Replaces a partition's schedule. -/
def Dev.setSched (d : Dev) (p : Nat) (x : Sched) : Dev := d.setPart p { d.part p with sched := x }
/-- A link. -/
def Dev.link (d : Dev) (l : Nat) : Link := Map.get d.links Link.init l
/-- Replaces a link. -/
def Dev.setLink (d : Dev) (l : Nat) (x : Link) : Dev := { d with links := Map.set d.links Link.init l x }

/-- The quadrant of a core or of a link (R13). -/
def quadOf (c : Nat) : Nat := c / 16

/-- Core cycles that a quadrant has counted (log entry 6). -/
def Dev.cycles (d : Dev) (q : Nat) : Nat := Map.get d.cyc 0 q / 1000

/-- The cycles that a quadrant will have counted when the present tick is over: what ends by then ends within this tick. -/
def Dev.cyclesEnd (d : Dev) (q : Nat) : Nat := (Map.get d.cyc 0 q + 16 * d.get (K.FREQ_MHZ q)) / 1000

/-- Status codes (R40). -/
def stOK : Nat := 0
/-- LATE. -/
def stLATE : Nat := 1
/-- SPARSE_FORMAT. -/
def stSPARSE : Nat := 2
/-- RANGE. -/
def stRANGE : Nat := 3
/-- ECC_UNCORR. -/
def stECC : Nat := 4
/-- NONFINITE. -/
def stNONFIN : Nat := 5
/-- PREEMPTED. -/
def stPREEMPT : Nat := 6
/-- FENCED. -/
def stFENCED : Nat := 7
/-- LINK_TIMEOUT. -/
def stLINK : Nat := 8
/-- ACCESS. -/
def stACCESS : Nat := 9
/-- CAP_GATED. -/
def stCAP : Nat := 10

/-- The place of a status in the order of R41, lowest reported first. -/
def stRank (s : Nat) : Nat :=
  match s with
  | 7 => 0 | 6 => 1 | 9 => 2 | 3 => 3 | 2 => 4 | 4 => 5 | 8 => 6 | 10 => 7 | 5 => 8 | 1 => 9 | _ => 10

/-- The cause that R41 reports of two. -/
def stWorst (a b : Nat) : Nat := if stRank b < stRank a then b else a

/-! ## Wake events (R442, R443) -/

/-- The return time of a domain from a state, in ticks. -/
def wakeTicks (dom st : Nat) : Nat :=
  match st with
  | 1 => 13
  | 2 => 1250
  | 3 => 150000
  | _ => if dom = 76 then 100000000 else if 64 ≤ dom && dom < 68 then 25000000 else 150000

/-- A wake event of a domain: an entry in progress is to be abandoned; from a deeper state the return begins. -/
def Dev.wakeDom (d : Dev) (dom : Nat) : Dev :=
  let st := d.get (K.DOM_STATE dom)
  if Map.get d.pwr.entering 0 dom ≠ 0 then
    if d.pwr.wakeReq.contains dom then d
    else ({ d with pwr := { d.pwr with wakeReq := d.pwr.wakeReq ++ [dom] } } : Dev).put (K.DOM_LAST_WAKE dom) d.now
  else if st = 0 || Map.get d.pwr.waking 0 dom ≠ 0 then d
  else ({ d with pwr := { d.pwr with waking := Map.set d.pwr.waking 0 dom (d.now + wakeTicks dom st) } } : Dev).put
    (K.DOM_LAST_WAKE dom) d.now

/-! ## Messages and error records -/

/-- Appends a message to a link's queue of its channel; while that queue holds 256, it waits at its sender (R346). -/
def Dev.enqueue (d : Dev) (l : Nat) (m : Msg) : Dev :=
  let d := d.wakeDom (68 + l / 8)
  let k := d.link l
  if (Map.get k.txq [] m.vc).length < 256 && (Map.get k.held [] m.vc).isEmpty then
    d.setLink l { k with txq := Map.set k.txq [] m.vc (Map.get k.txq [] m.vc ++ [m]) }
  else d.setLink l { k with held := Map.set k.held [] m.vc (Map.get k.held [] m.vc ++ [m]) }

/-- The primary and the alternate link of the route to a device (R365). -/
def Dev.routeOf (d : Dev) (dest : Nat) : Nat × Nat :=
  let r := Map.get d.doms [] (0x5040 * 256 + 1)
  (r.getD (2 * dest) 255, r.getD (2 * dest + 1) 255)

/-- A link may carry this message (R356, R363, R412): it is UP, not barred to the partition, in host mode carries VC0, VC1
and VC4 only, and before the device has its number VC0 only. -/
def Dev.carries (d : Dev) (l : Nat) (m : Msg) (forwarded : Bool) : Bool :=
  l < 64 && d.get (K.LNK_STATE l) == 3 && (m.vc == 0 || d.flag K.NUM_ASSIGNED) &&
  !((m.vc == 2 || m.vc == 3) && d.get (K.LNK_MODE l) == 2) &&
  (!(m.vc == 2 || m.vc == 3) || (m.priv && !forwarded) || d.get (K.LNK_OWNER l) == 0xFE ||
    (!forwarded && d.get (K.LNK_OWNER l) == m.part))

/-- A link in STANDBY that would carry this message once it is awake (R362). -/
def Dev.sleeping (d : Dev) (l : Nat) (m : Msg) (forwarded : Bool) : Bool :=
  d.get (K.LNK_STATE l) == 4 && (d.put (K.LNK_STATE l) 3).carries l m forwarded

/-- The link on which a message leaves: the primary of its route while it is UP and its routes have returned to it, or the
alternate (R365, R367, R412); with neither, one of them that a message wakes from STANDBY (R362). -/
def Dev.linkFor (d : Dev) (m : Msg) (forwarded : Bool) : Option Nat :=
  let (a, b) := d.routeOf m.dest
  if d.carries a m forwarded && !(d.link a).away then some a else if d.carries b m forwarded then some b
  else if d.sleeping a m forwarded && !(d.link a).away then some a else if d.sleeping b m forwarded then some b else none

/-- Sends a message on its route; false where no route carries it. -/
def Dev.send (d : Dev) (m : Msg) (forwarded : Bool) : Dev × Bool :=
  match d.linkFor m forwarded with
  | some l => (d.enqueue l m, true)
  | none => (d, false)

/-- Sends a message at a tick, behind what is held back for the same device and channel (R73). -/
def Dev.post (d : Dev) (t : Nat) (m : Msg) : Dev × Bool :=
  let behind := (d.delayed.filter (fun e => e.2.dest == m.dest && e.2.vc == m.vc)).map Prod.fst
  let t := behind.foldl max t
  if t ≤ d.now then d.send m false else ({ d with delayed := d.delayed ++ [(t, m)] }, true)

/-- Sends a NOTIFY to the host: time, object, event (R363). -/
def Dev.notify (d : Dev) (ev status index sub part : Nat) : Dev :=
  let body := toLE 8 0 ++ toLE 4 16 ++ [5, status, 0, 0] ++ toLE 8 d.now ++ toLE 2 index ++ [sub, ev, 0, 0, 0, 0]
  let m : Msg := { vc := 4, dest := d.get K.HOST_NUMBER, src := d.get K.DEVICE_NUMBER, part := part % 16, priv := true,
                   id := d.msgId % 2 ^ 15, payload := body }
  (Dev.send { d with msgId := d.msgId + 1 } m false).1

/-- What a record names beside its syndrome. -/
structure RecInfo where
  cls : Nat
  syndrome : Nat
  aux : Nat
  unit : Nat
  index : Nat
  opcode : Nat
  status : Nat
  part : Nat
deriving DecidableEq, Repr

/-- The quadrant whose sensors a unit is nearest to; none for service-die units and partitions (R72, R480). -/
def unitQuad (u : Nat) : Option Nat :=
  match u / 4096 with
  | 0 => some (bits u 11 6 / 16 % 4)
  | 1 => some (u % 32 / 5 % 4)
  | 2 => some (u % 8 / 2)
  | 3 => some (u % 64 / 16)
  | 4 => some (u % 32 / 5 % 4)
  | 5 => some (u % 4)
  | _ => none

/-- Files an error record (R480, R484): at most 64 in any millisecond, the last 4,096 kept, the last 64 in the backup
domain, ALERT_N low for a millisecond (R528), one NOTIFY. -/
def Dev.file (d : Dev) (i : RecInfo) : Dev :=
  let ms := d.now / 62500
  let n := if d.log.ms = ms then d.log.inMs else 0
  if 64 ≤ n then ({ d with log := { d.log with ms := ms, inMs := n } }).cnt K.LOG_DROPPED 1
  else
    let seq := d.get K.LOG_COUNT
    let r : ErrRec :=
      { seq := seq, cls := i.cls, part := i.part, status := i.status, opcode := i.opcode,
        volt := (match unitQuad i.unit with | some q => d.get (K.V_SET_MV q) | none => 0),
        temp := (match unitQuad i.unit with | some q => d.get (K.TJ_QUAD q) | none => d.get K.TJ_SVC),
        unit := i.unit, index := i.index, syndrome := i.syndrome, aux := i.aux, tick := d.now }
    let d := { d with log := { recs := (r :: d.log.recs).take 4096, ms := ms, inMs := n + 1, bkp := (r :: d.log.bkp).take 64,
                               alert := true, alertAt := d.now } }
    let d := d.cnt K.LOG_COUNT 1
    let d := if i.part < 16 then d.put (K.PART_LOG_LAST i.part) seq else d
    d.notify 1 i.status 0x8000 4 i.part

/-- A class 0x08 syndrome: event and cause (R483). -/
def syn8 (event cause : Nat) : Nat := event * 2 ^ 24 + cause % 256 * 2 ^ 16

/-- Unit identifiers (R72): a core engine, a partition. -/
def unitEng (c e : Nat) : Nat := c * 64 + e
/-- The unit identifier of a partition. -/
def unitPart (p : Nat) : Nat := 0x8000 + p

/-! ## Stains (R71 to R73) -/

/-- A stain slot acts now: armed, of this kind, its target permitted (R72), its time running (R73). -/
def Dev.stainActs (d : Dev) (s kind : Nat) : Bool :=
  d.flag (K.STAIN_ARM s) && bit (d.get K.STAIN_PERMIT) (d.get (K.STAIN_PARTITION s)) && d.get (K.STAIN_KIND s) == kind && d.get (K.STAIN_START_TICK s) ≤ d.now &&
  d.now < d.get (K.STAIN_STOP_TICK s)

/-- The armed slots of a kind that act on a partition's work at a unit now. -/
def Dev.stainsOn (d : Dev) (kind unit p : Nat) : List Nat :=
  (List.range 16).filter (fun s => d.stainActs s kind && d.get (K.STAIN_UNIT s) == unit && d.get (K.STAIN_PARTITION s) == p)

/-- Work of a partition at a unit meets the stains of a kind: each slot's every PERIOD-th occurrence counts as applied. How
many slots act, and the sum of their amounts. -/
def Dev.stain (d : Dev) (kind unit p : Nat) : Nat × Nat × Dev :=
  (d.stainsOn kind unit p).foldl (fun (a : Nat × Nat × Dev) s =>
    let d := a.2.2
    let n := Map.get d.stainN 0 s + 1
    let d := { d with stainN := Map.set d.stainN 0 s n }
    if n % max 1 (d.get (K.STAIN_PERIOD s)) = 0 then (a.1 + 1, a.2.1 + d.get (K.STAIN_AMOUNT s), d.cnt (K.STAIN_APPLIED s) 1)
    else (a.1, a.2.1, d)) (0, 0, d)

/-- How far the interval of a CREDIT_HOLD slot has run: PERIOD ticks, with a PERIOD of 0 one more than AMOUNT (R73, log entry 116). -/
def Dev.creditPhase (d : Dev) (s : Nat) : Nat :=
  (d.now - d.get (K.STAIN_START_TICK s)) %
    (if d.get (K.STAIN_PERIOD s) = 0 then d.get (K.STAIN_AMOUNT s) + 1 else d.get (K.STAIN_PERIOD s))

/-- CREDIT_HOLD withholds the credits of VC2 and VC3 on a link now (R73, R345). -/
def Dev.creditsHeld (d : Dev) (l : Nat) : Bool :=
  (List.range 16).any (fun s => d.stainActs s 4 && d.get (K.STAIN_UNIT s) == 0x3000 + l && d.creditPhase s < d.get (K.STAIN_AMOUNT s))

/-- STAIN_APPLIED of the stains that act by the clock, once a tick (R73): a CREDIT_HOLD acts once in each of its intervals, an OP_HOLD
once for all, when it begins. -/
def Dev.stainTick (d : Dev) : Dev :=
  (List.range 16).foldl (fun (d : Dev) s =>
    let first := d.get (K.STAIN_APPLIED s) == 0
    if (d.stainActs s 4 && d.creditPhase s < d.get (K.STAIN_AMOUNT s) && (first || d.creditPhase s == 0)) || (d.stainActs s 7 && first)
    then d.cnt (K.STAIN_APPLIED s) 1 else d) d

/-! ## Addresses -/

/-- In whose name a reference is made: a partition; O, K or X on an engine that no partition holds; or the host as principal
O, whose window addresses go through the window of the partition that they name (R363). -/
inductive Who where
  | part (p : Nat)
  | priv
  | host
deriving DecidableEq, Repr

/-- A reference of a partition. -/
def Who.isPart (w : Who) : Bool :=
  match w with
  | .part _ => true
  | _ => false

/-- Bytes of each scratchpad (R232). -/
def spSize (mem : Nat) : Nat :=
  match mem with
  | 0 => 0x60000 | 1 => 0x40000 | 2 => 0x80000 | 3 => 0x10000 | _ => 0

/-- The owner byte of a channel (R279). -/
def Dev.owner (d : Dev) (k : Nat) : Nat := d.get (K.CH_OWNER (k / 16) (k % 16))

/-- Bytes of a channel. -/
def chBytes : Nat := 0xC0000000

/-- The scratchpad of an aperture offset (R39). -/
def aperture (o : Nat) : Option (Nat × Nat) :=
  if o < 0x60000 then some (0, o) else if o < 0xA0000 then some (1, o - 0x60000)
  else if o < 0x120000 then some (2, o - 0xA0000) else if o < 0x130000 then some (3, o - 0x120000) else none

/-- The cores that may run: present at grading and not fenced (R2, R478). -/
def Dev.coreUsable (d : Dev) (c : Nat) : Bool := c < 64 && bit (d.get K.CORE_PRESENT) c && !bit (d.get K.FENCE_MASK) c

/-- Locked accumulation pages of a quadrant are open to their owner (R284). -/
def Dev.accOpen (d : Dev) (q page p : Nat) : Bool :=
  d.get (K.SC_ACC_OWNER q) == p && page < d.get (K.SC_ACC_PAGES q)

/-- Translates a fabric address (R36 to R39, R409). The error is a status code. -/
def Dev.xlate (d : Dev) (w : Who) (a : Nat) : Except Nat Loc :=
  let dev := bits a 63 52
  if dev ≠ d.get K.DEVICE_NUMBER then .ok (.far a)
  else if bit a 51 then
    match w with
    | .part _ => .error stACCESS
    | _ =>
      let o := bits a 50 0
      if o < 0xF000000000 then
        if d.owner (o / chBytes) = 0xFD then .error stACCESS else .ok (.hbm o)
      else if o < 0x10000000000 then .error stRANGE
      else
        let r := o - 0x10000000000
        let c := r / 0x200000
        if !d.coreUsable c || 2 ≤ d.get (K.DOM_STATE c) then .error stRANGE
        else match aperture (r % 0x200000) with
          | some (m, x) => .ok (.sp c m x)
          | none => .error stRANGE
  else
    let p := bits a 50 47
    let own := match w with | .part q => q == p | .priv => false | .host => true
    if !own || d.get (K.PART_STATE p) ≠ 1 then .error stACCESS
    else
      let e := Map.get (d.part p).window 0 (bits a 46 21)
      if !bit e 63 || d.get (K.WIN_PAGES p) ≤ bits a 46 21 then .error stACCESS
      else match bits e 62 61 with
        | 0 =>
          let x := bits e 20 2 * 0x200000 + bits a 20 0
          if d.owner (x / chBytes) = p then .ok (.hbm x) else .error stACCESS
        | k =>
          let q := bits e 6 5
          let g := bits e 3 2
          if d.accOpen q g p then .ok (.acc (q * 0x800000 + g * 0x200000 + bits a 20 0) (k == 2)) else .error stACCESS

/-! ## HBM behind the stage cache -/

/-- The window table of an active partition holds a byte: its partition and offset in the table (R408). -/
def Dev.tableAt (d : Dev) (x : Nat) : Option (Nat × Nat) :=
  let o := d.owner (x / chBytes)
  if o < 16 && d.get (K.PART_STATE o) == 1 && d.get (K.WIN_TABLE_CH o) == x / chBytes && 1534 * 0x200000 ≤ x % chBytes
  then some (o, x % chBytes - 1534 * 0x200000) else none

/-- A product by x in the field of XTS: 2^128 modulo x^128 + x^7 + x^2 + x + 1 (GB/T 32907, R280). -/
def xtsDouble (t : Nat) : Nat := xorN (2 * t % 2 ^ 128) (if bit t 127 then 0x87 else 0)

/-- The tweak of block `j` of a line: the physical line number, little-endian, encrypted under the second key, times x to the
j (R280). -/
def xtsTweak (key line j : Nat) : Nat :=
  match j with
  | 0 => Config.sm4 key (ofLE (toLE 16 line))
  | i + 1 => xtsDouble (xtsTweak key line i)

/-- One 16-byte block of a line as XTS stores it, or as it reads it back: `f` is SM4 under the first key or its inverse. -/
def xtsBlock (f : Nat → Nat → Nat) (keys : Nat × Nat) (line j v : Nat) : Nat :=
  let t := xtsTweak keys.2 line j
  xorN (f keys.1 (xorN v t)) t

/-- The bytes that a stack holds of block `j` of a line in a channel that no partition has written (R407): zeros, but for what
O, K or X wrote while the channel was free. -/
def Dev.rawBlock (d : Dev) (line j : Nat) : Nat :=
  ofLE ((List.range 16).map (fun i => (Map.get d.mem.raw 0 (128 * line + 16 * j + i)).toNat))

/-- What its owner reads at a byte of HBM that it has not written (R407): the stored block, decrypted under its key pair. -/
def Dev.unwritten (d : Dev) (p x : Nat) : Byte :=
  let j := x % 128 / 16
  BitVec.ofNat 8 (xtsBlock Config.sm4Inv (d.part p).keys (x / 128) j (d.rawBlock (x / 128) j) / 256 ^ (x % 16))

/-- The byte that HBM holds, as its owner sees it (R280, R407): a byte of a window table; a byte that the owner has written;
else the decryption of the stored bytes. A free or zeroising channel shows its stored bytes. -/
def Dev.hbmByte (d : Dev) (x : Nat) : Byte :=
  let o := d.owner (x / chBytes)
  match d.tableAt x with
  | some (p, a) => BitVec.ofNat 8 (Map.get (d.part p).window 0 (a / 8) / 256 ^ (a % 8))
  | none =>
  if o < 16 then Map.get d.mem.cells (d.unwritten o x) x else Map.get d.mem.raw 0 x

/-- Stores a byte in HBM: in an owned channel it is held as its owner sees it, in a free one as it stands (R279, R280). -/
def Dev.setHbmByte (d : Dev) (x : Nat) (b : Byte) : Dev :=
  if d.owner (x / chBytes) < 16 then { d with mem := { d.mem with cells := Map.ins d.mem.cells x b } }
  else { d with mem := { d.mem with raw := Map.set d.mem.raw 0 x b } }

/-- The block of a line that the stack of an owned channel holds (R280): the XTS encryption of what its owner sees. -/
def Dev.cipherBlock (d : Dev) (p line j : Nat) : Nat :=
  xtsBlock Config.sm4 (d.part p).keys line j (ofLE ((List.range 16).map (fun i => (d.hbmByte (128 * line + 16 * j + i)).toNat)))

/-! ## Where a channel keeps a line (R273) -/

/-- ROW. -/
def hbmRow (o : Nat) : Nat := bits o 31 17
/-- COL, the line within the row. -/
def hbmCol (o : Nat) : Nat := bits o 16 14
/-- SID, the stack ID. -/
def hbmSid (o : Nat) : Nat := bits o 13 12
/-- BA, the bank within its group. -/
def hbmBa (o : Nat) : Nat := xorN (bits o 11 10) (bits (hbmRow o) 3 2)
/-- BG, the bank group. -/
def hbmBg (o : Nat) : Nat := xorN (bits o 9 8) (bits (hbmRow o) 1 0)
/-- PC, the pseudo-channel. -/
def hbmPc (o : Nat) : Nat := bits o 7 7

/-- The bank of a physical offset among all banks of the device: 128 for each channel. -/
def hbmBank (x : Nat) : Nat :=
  let o := x % chBytes
  x / chBytes * 128 + hbmPc o * 64 + hbmSid o * 16 + hbmBg o * 4 + hbmBa o

/-- The bank of a line is activated: its count goes on (R276). A line is taken to open its row each time it is read or written
in the stack (log entry 105). -/
def Dev.activate (d : Dev) (line : Nat) : Dev :=
  let b := hbmBank (128 * line)
  { d with mem := { d.mem with acts := Map.set d.mem.acts 0 b (Map.get d.mem.acts 0 b + 1) } }

/-- The set of a line (R281). -/
def setOf (line : Nat) : Nat := 8192 * (line % 3) + (xorN (bits line 12 0) (bits line 25 13))

/-- Tree pseudo-LRU over sixteen ways: the way the tree points to among those allowed. Node n has children 2n and 2n+1;
ways are nodes 16 to 31. A node's bit 1 points to its upper half. -/
def plruVictim (tree : Nat) (allowed : Nat → Bool) (depth n : Nat) : Nat :=
  match depth with
  | 0 => n - 16
  | k + 1 =>
    let span := 2 ^ k
    let low := 2 * n * span - 16
    let anyIn (b : Nat) : Bool := (List.range span).any (fun i => allowed (b + i))
    let up := if !anyIn low then true else if !anyIn (low + span) then false else bit tree n
    plruVictim tree allowed k (2 * n + ofBool up)

/-- Points the tree away from a way that was used. -/
def plruTouch (tree way : Nat) : Nat :=
  let step (t lvl : Nat) : Nat := let n := (way + 16) >>> (lvl + 1); withBit t n (!bit (way + 16) lvl)
  [3, 2, 1, 0].foldl step tree

/-- The way that holds a line, if any. -/
def Dev.cacheWay (d : Dev) (q line : Nat) : Option Nat :=
  (List.range 16).find? (fun w => let t := Map.get d.mem.tags CLine.none (q * 2 ^ 20 + setOf line * 16 + w)
    t.mask != 0 && t.line == line)

/-- A way takes no new lines: it drains, locks or unlocks (R283, R284). -/
def Dev.draining (d : Dev) (q w : Nat) : Bool := d.mem.drain.any (fun e => e.2 == 16 * q + w)

/-- The accumulation area of a quadrant is locking (R284). -/
def Dev.accLocking (d : Dev) (q : Nat) : Bool := d.mem.drain.any (fun e => e.1 == 1 && e.2 / 16 == q)

/-- The lines of a set group in a way are units of `pages` locked pages (R284). -/
def lockedUnit (pages group w : Nat) : Bool := 13 ≤ w && w < 16 && (15 - w) * 3 + group < 2 * pages

/-- One lookup of the home stage cache (R281, R283): a hit or a miss is counted; a miss of an owned channel's line
allocates in a way of its owner, writing a dirty victim back. `alloc` is false for update engines and zeroisation.
Which lines are resident changes only counters and time, never a value. -/
def Dev.cacheTouch (d : Dev) (line : Nat) (write alloc : Bool) (mask : Nat) : Dev :=
  let k := line * 128 / chBytes
  let own := d.owner k
  let q := k / 80
  if 16 ≤ own then d else
  let base := q * 2 ^ 20 + setOf line * 16
  let tree := Map.get d.mem.plru 0 (q * 2 ^ 15 + setOf line)
  let putLine (d : Dev) (w : Nat) (c : CLine) : Dev :=
    { d with mem := { d.mem with tags := Map.set d.mem.tags CLine.none (base + w) c,
                                 plru := Map.set d.mem.plru 0 (q * 2 ^ 15 + setOf line) (plruTouch tree w) } }
  match d.cacheWay q line with
  | some w =>
    let c := Map.get d.mem.tags CLine.none (base + w)
    let d := putLine d w { c with dirty := c.dirty || write, mask := if write then c.mask ||| mask else 2 ^ 128 - 1 }
    d.cnt (K.SC_HITS q) 1
  | none =>
    let d := d.cnt (K.SC_MISSES q) 1
    let d := if write && alloc then d else d.activate line
    let pages := d.get (K.SC_ACC_PAGES q)
    let allowed (w : Nat) : Bool := d.get (K.SC_WAY_OWNER q w) == own && !d.draining q w && !lockedUnit pages (line % 3) w
    if !alloc || !(List.range 16).any allowed then d else
    let free := (List.range 16).find? (fun w => allowed w && (Map.get d.mem.tags CLine.none (base + w)).mask == 0)
    let w := free.getD (plruVictim tree allowed 4 1)
    let victim := Map.get d.mem.tags CLine.none (base + w)
    let d := if victim.mask != 0 && victim.dirty then (d.activate victim.line).cnt (K.SC_WRITEBACKS q) 1 else d
    putLine d w { line := line, dirty := write, mask := if write then mask else 2 ^ 128 - 1 }

/-- A stack's record of a poisoned line that was read or of a cache fault (R278); `kind` as its table gives. -/
def Dev.hbmRecord (d : Dev) (kind x st p idx op : Nat) : Dev :=
  let k := x / chBytes
  let o := x % chBytes
  let syn := kind * 2 ^ 28 + k / 16 * 2 ^ 23 + k % 16 * 2 ^ 19 + hbmPc o * 2 ^ 18 + hbmSid o * 2 ^ 16 + hbmRow o
  let d := d.put (K.HBM_LAST_SYNDROME (k / 16)) syn
  d.file { cls := 4, syndrome := syn, aux := 0, unit := 0x4000 + k / 16, index := idx, opcode := op, status := st, part := p }

/-- The issuer of a memory reference, for its records and meters. -/
structure Iss where
  part : Nat
  index : Nat
  op : Nat
  alloc : Bool
deriving DecidableEq, Repr

/-- A stain delays a memory response of the event at hand (R73). -/
def Dev.noteDelay (d : Dev) (t : Nat) : Dev := { d with memDelay := max d.memDelay t }

/-- The host code corrects a line, which is written back (R277): the second time before the patrol scrub reaches it, it has
its record. -/
def Dev.lineCorrected (d : Dev) (line part index op : Nat) : Dev :=
  let d := d.cnt (K.HBM_CORRECTED (line * 128 / chBytes / 16)) 1
  let d := { d with mem := { d.mem with flaw := Map.set d.mem.flaw .clean line .clean } }
  if Map.get d.mem.once false line then d.hbmRecord 1 (line * 128) stOK part index op
  else { d with mem := { d.mem with once := Map.set d.mem.once false line true } }

/-- A read meets a line that is poisoned, or that it cannot read, which is then poisoned: one record, of a kind of R278. -/
def Dev.lineLost (d : Dev) (line kind part index op : Nat) : Dev :=
  let d := { d with mem := { d.mem with poison := Map.set d.mem.poison false line true,
                                        flaw := Map.set d.mem.flaw .clean line .clean } }
  (d.cnt (K.HBM_UNCORR (line * 128 / chBytes / 16)) 1).hbmRecord kind (line * 128) stECC part index op

/-- The line is wholly in its stage cache: a read does not reach the stack. -/
def Dev.cached (d : Dev) (line : Nat) : Bool :=
  let q := line * 128 / chBytes / 80
  match d.cacheWay q line with
  | some w => (Map.get d.mem.tags CLine.none (q * 2 ^ 20 + setOf line * 16 + w)).mask == 2 ^ 128 - 1
  | none => false

/-- What a read of a line meets in the stack (R277): the error that the state holds of it, which a line in its stage cache
does not show. -/
def Dev.lineFlaw (d : Dev) (line : Nat) : Finding :=
  match Map.get d.mem.flaw .clean line with
  | .clean => .clean
  | f => if d.cached line then .clean else f

/-- The kind of R278 under which a read that meets a finding loses its line; 0 where the line is readable. -/
def lostKind (f : Finding) : Nat :=
  match f with
  | .uncorrectable => 2
  | .parity => 3
  | .onDieUncorrectable => 5
  | _ => 0

/-- The line gives no data: it is poisoned, or the stack's copy of it cannot be read. -/
def Dev.lineBad (d : Dev) (line : Nat) : Bool := Map.get d.mem.poison false line || lostKind (d.lineFlaw line) != 0

/-- What a read of a line does beside its lookup (R277, R278); true where it gives no data. -/
def Dev.lineMet (d : Dev) (line part index op : Nat) (f : Finding) : Bool × Dev :=
  if Map.get d.mem.poison false line then (true, d.lineLost line 2 part index op)
  else if lostKind f ≠ 0 then (true, d.lineLost line (lostKind f) part index op)
  else match f with
    | .corrected => (false, d.lineCorrected line part index op)
    | .onDieCorrected => (false, d.cnt (K.HBM_ODECC (line * 128 / chBytes / 16)) 1)
    | _ => (false, d)

/-- One line read through the home cache; true where the line cannot be read (R277, R278). -/
def Dev.readLine (d : Dev) (s : Iss) (line : Nat) : Bool × Dev :=
  let f := d.lineFlaw line
  let r := (d.cacheTouch line false s.alloc 0).stain 3 (0x4000 + line * 128 / chBytes / 16) s.part
  (r.2.2.noteDelay r.2.1).lineMet line s.part s.index s.op f

/-- The HBM lines of a list of locations, each once, in order. -/
def hbmLines (ls : List Loc) : List Nat :=
  ls.foldl (fun a l => match l with
    | .hbm x => if a.contains (x / 128) then a else a ++ [x / 128]
    | _ => a) []

/-- A scratchpad key: memory times 1 MiB plus offset. -/
def spKey (mem off : Nat) : Nat := mem * 0x100000 + off

/-- A scratchpad byte. -/
def Core.byte (k : Core) (mem off : Nat) : Byte := Map.get k.sp 0 (spKey mem off)

/-- The 64-bit word with a key (memory times 2^17 plus word) is unreadable: poisoned, or with an error that the code detects
and cannot correct (R237, R239). -/
def Core.badWord (k : Core) (key : Nat) : Bool :=
  Map.get k.poison false key || Map.get k.flaw .clean key == .uncorrectable

/-- The 64-bit word of a byte is unreadable (R237, R239). -/
def Core.bad (k : Core) (mem off : Nat) : Bool := k.badWord (spKey mem off / 8)

/-- A read of the word corrects it (R238). -/
def Core.fixes (k : Core) (key : Nat) : Bool := Map.get k.flaw .clean key == .corrected && !Map.get k.poison false key

/-- No word of the core's scratchpads is in error. -/
def Core.sound (k : Core) : Bool := k.poison.isEmpty && k.flaw.isEmpty

/-- Little-endian 32-bit word of a scratchpad. -/
def Core.word32 (k : Core) (mem off : Nat) : Nat :=
  ofLE [(k.byte mem off).toNat, (k.byte mem (off + 1)).toNat, (k.byte mem (off + 2)).toNat, (k.byte mem (off + 3)).toNat]

/-- Marks the line-row and the granule of a write: dirty (R418), resident bit cleared (R144), source forgotten. -/
def Core.touch (k : Core) (mem off : Nat) : Core :=
  { k with
    dirty := Map.set k.dirty false (mem * 256 + off / 4096) true,
    resident := if mem < 2 then Map.set k.resident false (mem * 256 + off / 2048) false else k.resident,
    src := if mem = 0 then Map.set k.src 0 (off / 2048) 0 else k.src }

/-- Stores one byte without any mark. -/
def Core.poke (k : Core) (mem off : Nat) (b : Byte) : Core := { k with sp := Map.set k.sp 0 (spKey mem off) b }

/-- Writes one whole word's worth or part of it (R237, R239): offsets of one 64-bit word with their bytes. A write that
covers the word clears its poison; a merged write into a poisoned word sets the rest to 0x00 (in PM the other entry to
the canonical NaN) and reports it. -/
def Core.writeWord (k : Core) (mem w : Nat) (bs : List (Nat × Byte)) : Core × Bool :=
  let isBad := k.badWord (mem * 0x20000 + w)
  let whole := (List.range 8).all (fun i => bs.any (fun e => e.1 == 8 * w + i))
  let k := bs.foldl (fun k e => k.touch mem e.1) k
  let k := { k with poison := Map.set k.poison false (mem * 0x20000 + w) false,
                    flaw := Map.set k.flaw .clean (mem * 0x20000 + w) .clean }
  let k := if isBad && !whole then
      (List.range 8).foldl (fun k i =>
        let fill : Byte := if mem = 2 && !bs.any (fun e => e.1 / 4 == (8 * w + i) / 4) then
            (if i % 4 = 3 then 0x7F else if i % 4 = 2 then 0xC0 else 0) else 0
        k.poke mem (8 * w + i) fill) k
    else k
  (bs.foldl (fun k e => k.poke mem e.1 e.2) k, isBad && !whole)

/-- Groups consecutive entries by a key, keeping their order. -/
def groupBy {α : Type} (f : α → Nat) (l : List α) : List (Nat × List α) :=
  match l with
  | [] => []
  | x :: r =>
    match groupBy f r with
    | (k, g) :: t => if k = f x then (k, x :: g) :: t else (f x, [x]) :: (k, g) :: t
    | [] => [(f x, [x])]

/-- Writes bytes of a scratchpad in order; answers the words whose merge met an unreadable word. -/
def Core.write (k : Core) (mem : Nat) (bs : List (Nat × Byte)) : Core × List Nat :=
  (groupBy (fun e : Nat × Byte => e.1 / 8) bs).foldl (fun (a : Core × List Nat) g =>
    let (k', b) := a.1.writeWord mem g.1 g.2
    (k', if b then a.2 ++ [g.1] else a.2)) (k, [])

/-- A scratchpad error record's syndrome (R241): memory, kind, word, ECC syndrome. -/
def spSyn (mem kind word ecc : Nat) : Nat :=
  mem * 2 ^ 28 + kind * 2 ^ 24 + word / 256 * 2 ^ 16 + word % 256 * 2 ^ 8 + ecc % 256

/-- Files the record of a scratchpad word (kind as R241) and keeps its last syndrome. -/
def Dev.spRecordEcc (d : Dev) (c mem kind word e idx op ecc : Nat) : Dev :=
  let syn := spSyn mem kind word ecc
  let d := if kind = 2 then d.cnt (K.SP_UNCORR c) 1 else d
  (d.file { cls := 1, syndrome := syn, aux := 0, unit := unitEng c e, index := idx, opcode := op,
            status := if kind = 1 then 0 else stECC, part := d.get (K.CORE_OWNER c) }).put (K.LAST_SYNDROME c) syn

/-- The record of a poisoned word, whose syndrome is check bits 0 and 1 (R237), or of a checksum (kinds 3 and 4). -/
def Dev.spRecord (d : Dev) (c mem kind word e idx op : Nat) : Dev :=
  d.spRecordEcc c mem kind word e idx op (if kind = 2 then 3 else 0)

/-- Records for each distinct unreadable word that a command met (R239). -/
def Dev.spRecords (d : Dev) (c mem e idx op : Nat) (ws : List Nat) : Dev :=
  ws.eraseDups.foldl (fun d w => d.spRecord c mem 2 w e idx op) d

/-- A scratchpad word is corrected and written back (R238): the second time in a coverage pass it has its record, whose ECC
syndrome is that of the bit in error (a free value, log entry 2). -/
def Dev.spCorrected (d : Dev) (c mem word : Nat) : Dev :=
  let k := d.core c
  let key := mem * 0x20000 + word
  let d := (d.setCore c { k with flaw := Map.set k.flaw .clean key .clean, once := Map.set k.once false key true }).cnt
    (K.SP_CORRECTED c) 1
  if Map.get k.once false key then let (ecc, d) := d.draw 8; d.spRecordEcc c mem 1 word 0 0 0xFF ecc else d

/-- Reads of the words with some keys correct those with a single-bit error (R238). -/
def Dev.spFix (d : Dev) (c : Nat) (keys : List Nat) : Dev :=
  (keys.eraseDups.filter (d.core c).fixes).foldl (fun d x => d.spCorrected c (x / 0x20000) (x % 0x20000)) d

/-! ## The checksums of WM granules (R240) -/

/-- CRC-32C bit steps, least significant bit first. -/
def crc32Bits (n c : Nat) : Nat :=
  match n with
  | 0 => c
  | k + 1 => crc32Bits k (if bit c 0 then xorN (c / 2) 0x82F63B78 else c / 2)

/-- CRC-32C with initial value 0 and no final inversion (R240, R340). -/
def crc32c (bs : List Nat) : Nat := bs.foldl (fun c b => crc32Bits 8 (xorN c b)) 0

/-- The checksum computed over a WM granule's bytes. -/
def Core.checksum (k : Core) (g : Nat) : Nat := crc32c ((List.range 2048).map (fun i => (k.byte 0 (2048 * g + i)).toNat))

/-- The expected checksum of a granule. The code is linear and every write moves the expected and the computed checksum by the
same amount, so the state holds their difference. -/
def Core.expected (k : Core) (g : Nat) : Nat := xorN (k.checksum g) (Map.get k.crcOff 0 g)

/-- The computed checksum of a granule is not the expected one. -/
def Core.mismatch (k : Core) (g : Nat) : Bool := Map.get k.crcOff 0 g != 0

/-- A granule's contents are found not to be those written: the two checksums differ by an unknown amount other than 0 (a free
value, log entry 2). -/
def Dev.corrupt (d : Dev) (c g : Nat) : Dev :=
  if (d.core c).mismatch g then d
  else
    let (v, d) := d.draw 32
    let k := d.core c
    d.setCore c { k with crcOff := Map.set k.crcOff 0 g (if v = 0 then 1 else v) }

/-- Zeroisation of a core's scratchpads (R245): everything +0 with correct check bits and checksums, marks cleared, queues and
length register emptied; for 128 cycles no requester is served and no command issues. -/
def Dev.zeroise (d : Dev) (c : Nat) : Dev :=
  let k := d.core c
  (d.setCore c { k with sp := [], poison := [], once := [], flaw := [], crcOff := [], resident := [], dirty := [], hq := [],
                        vlen := 0, src := [], scrubLine := [], scrubAt := [], zeroTill := d.cycles (quadOf c) + 128 }).cnt (K.ZEROISE_COUNT c) 1

/-- The core is being zeroised (R245). -/
def Dev.zeroising (d : Dev) (c : Nat) : Bool := d.cyclesEnd (quadOf c) < (d.core c).zeroTill

/-- Charges a metered quantity of a partition: 0 core-ticks, 1 microjoules, 2 HBM bytes read, 3 written, 4 link bytes
(R428). -/
def Dev.charge (d : Dev) (p i n : Nat) : Dev :=
  if 16 ≤ p then d
  else
    let q := d.part p
    let d := d.setPart p { q with meters := Map.set q.meters 0 i (Map.get q.meters 0 i + n) }
    let w (d : Dev) (k n : Nat) : Dev := { d with pwr := { d.pwr with win := Map.set d.pwr.win 0 k (Map.get d.pwr.win 0 k + n) } }
    if i = 2 || i = 3 then w d (8 * p) n else if i = 4 then w d (8 * p + 1) (n / 256) else d

/-- Charges HBM bytes (R428). -/
def Dev.meter (d : Dev) (p : Nat) (write : Bool) (n : Nat) : Dev := if n = 0 then d else d.charge p (if write then 3 else 2) n

/-! ## Runs of bytes -/

/-- Reads one location's byte with no side effect; a poisoned line or word gives 0x00 (R239, R257). -/
def Dev.peek (d : Dev) (l : Loc) : Byte :=
  match l with
  | .hbm x => if d.lineBad (x / 128) then 0 else d.hbmByte x
  | .acc a _ => if Map.get d.mem.accBad false (a / 128) then 0 else Map.get d.mem.acc 0 a
  | .sp c m o => if (d.core c).bad m o then 0 else (d.core c).byte m o
  | .far _ => 0

/-- Scratchpad words of a list of locations that meet a test: (core, memory, word). -/
def Dev.wordsWhere (d : Dev) (f : Core → Nat → Bool) (ls : List Loc) : List (Nat × Nat × Nat) :=
  (ls.foldl (fun a l => match l with
    | .sp c m o => if f (d.core c) (spKey m o / 8) then a ++ [(c, m, o / 8)] else a
    | _ => a) []).eraseDups

/-- Scratchpad words of a list of locations that are unreadable. -/
def Dev.badWords (d : Dev) (ls : List Loc) : List (Nat × Nat × Nat) := d.wordsWhere Core.badWord ls

/-- Those that a read corrects (R238). -/
def Dev.fixWords (d : Dev) (ls : List Loc) : List (Nat × Nat × Nat) := d.wordsWhere Core.fixes ls

/-- Lines of the accumulation areas among some locations. -/
def accLines (ls : List Loc) : List Nat :=
  (ls.filterMap (fun l => match l with | .acc a _ => some (a / 128) | _ => none)).eraseDups

/-- A read of a poisoned line of an accumulation area, whose fault has had its record, counts and files nothing more: no stack
is behind it (R281, R284, log entry 106). -/
def Dev.accUnreadable (d : Dev) (ls : List Loc) : Bool :=
  !d.mem.accBad.isEmpty && (accLines ls).any (fun n => Map.get d.mem.accBad false n)

/-- Files the records of unreadable scratchpad words, (core, memory, word), that engine `e` of a core met (R239). -/
def Dev.spMet (d : Dev) (s : Iss) (e : Nat) (ws : List (Nat × Nat × Nat)) : Dev :=
  ws.foldl (fun d' w => d'.spRecord w.1 w.2.1 2 w.2.2 e s.index s.op) d

/-- Reads a run of locations but for the records of scratchpad words: the bytes, true where some line was unreadable, and
the state with its lookups, counters, meters and line records made. -/
def Dev.readLines (d : Dev) (s : Iss) (ls : List Loc) : List Byte × Bool × Dev :=
  let bytes := ls.map d.peek
  let lines := hbmLines ls
  let (bad, d1) := lines.foldl (fun (a : Bool × Dev) ln => let (b, d') := a.2.readLine s ln; (a.1 || b, d')) (false, d)
  let n := ls.countP (fun l => match l with | .hbm _ => true | _ => false)
  (bytes, bad, d1.meter s.part false n)

/-- Reads a run of locations: the bytes, true where some line or word was unreadable, and the state with its lookups,
counters, meters and records made (R239, R257, R278, R281). `e` is the engine for scratchpad records. -/
def Dev.readRun (d : Dev) (s : Iss) (e : Nat) (ls : List Loc) : List Byte × Bool × Dev :=
  let r := d.readLines s ls
  let ws := d.badWords ls
  (r.1, r.2.1 || !ws.isEmpty || d.accUnreadable ls,
    (d.fixWords ls).foldl (fun d w => d.spCorrected w.1 w.2.1 w.2.2) (r.2.2.spMet s e ws))

/-- Writes bytes of one HBM line: a partial write of a poisoned line fills it with 0x00 and answers true (R278). -/
def Dev.writeLine (d : Dev) (s : Iss) (line : Nat) (bs : List (Nat × Byte)) : Bool × Dev :=
  let bad := Map.get d.mem.poison false line
  let whole := (List.range 128).all (fun i => bs.any (fun b => b.1 == line * 128 + i))
  let d := { d with mem := { d.mem with poison := Map.set d.mem.poison false line false,
                                        flaw := if whole then Map.set d.mem.flaw .clean line .clean else d.mem.flaw } }
  let d := if bad && !whole then (List.range 128).foldl (fun d i => d.setHbmByte (line * 128 + i) 0) d else d
  let d := bs.foldl (fun d b => d.setHbmByte b.1 b.2) d
  let mask := bs.foldl (fun m b => withBit m (b.1 % 128) true) 0
  let r := (d.cacheTouch line true s.alloc mask).stain 3 (0x4000 + line * 128 / chBytes / 16) s.part
  (bad && !whole, r.2.2.noteDelay r.2.1)

/-- One write of a run, by kind of location. -/
inductive Chunk where
  | line (n : Nat) (bs : List (Nat × Byte))
  | acc (add : Bool) (bs : List (Nat × Byte))
  | sp (c mem : Nat) (bs : List (Nat × Byte))
  | far
deriving DecidableEq, Repr

/-- Consecutive bytes of one line, area or scratchpad as one write. -/
def chunks (bs : List (Loc × Byte)) : List Chunk :=
  bs.foldr (fun b a => match b.1, a with
    | .hbm x, .line n g :: r => if n = x / 128 then .line n ((x, b.2) :: g) :: r else .line (x / 128) [(x, b.2)] :: a
    | .hbm x, a => .line (x / 128) [(x, b.2)] :: a
    | .acc o v, .acc v' g :: r => if v = v' then .acc v ((o, b.2) :: g) :: r else .acc v [(o, b.2)] :: a
    | .acc o v, a => .acc v [(o, b.2)] :: a
    | .sp c m o, .sp c' m' g :: r => if c = c' && m = m' then .sp c m ((o, b.2) :: g) :: r else .sp c m [(o, b.2)] :: a
    | .sp c m o, a => .sp c m [(o, b.2)] :: a
    | .far _, a => .far :: a) []

/-- Bytes written to an accumulation page: stored, or added as FP32 elements in order (R285). A line that a write covers is no
longer poisoned; other bytes of a poisoned line that is written to become 0x00, as R278 has it of HBM. -/
def Dev.writeAcc (d : Dev) (add : Bool) (bs : List (Nat × Byte)) : Dev :=
  let hit := if d.mem.accBad.isEmpty then [] else
    ((bs.map (fun b => b.1 / 128)).eraseDups).filter (fun n => Map.get d.mem.accBad false n)
  let clear (m : Mem) (n : Nat) : Mem :=
    { m with accBad := Map.set m.accBad false n false, acc := Map.delRange m.acc (128 * n) (128 * n + 128) }
  let d := { d with mem := hit.foldl clear d.mem }
  let st (m : Map Byte) (o v : Nat) : Map Byte :=
    (List.range 4).foldl (fun m i => Map.set m 0 (o + i) (BitVec.ofNat 8 (v / 256 ^ i))) m
  let rd (m : Map Byte) (o : Nat) : Nat := ofLE ((List.range 4).map (fun i => (Map.get m 0 (o + i)).toNat))
  let acc := if add then
      (groupBy (fun b : Nat × Byte => b.1 / 4) bs).foldl (fun m g =>
        st m (4 * g.1) (f32Add (rd m (4 * g.1)) (ofLE (g.2.map (fun b => b.2.toNat))))) d.mem.acc
    else bs.foldl (fun m b => Map.set m 0 b.1 b.2) d.mem.acc
  { d with mem := { d.mem with acc := acc } }

/-- Writes a run: true where a merge met an unreadable line or word, and the state (R237, R239, R278, R285). -/
def Dev.writeRun (d : Dev) (s : Iss) (e : Nat) (bs : List (Loc × Byte)) : Bool × Dev :=
  let r := (chunks bs).foldl (fun (a : Bool × Dev) ch =>
    match ch with
    | .line n g => let (b, d') := a.2.writeLine s n g; (a.1 || b, d')
    | .acc v g =>
      let cut := (accLines (g.map (fun b => Loc.acc b.1 v))).any (fun n => Map.get a.2.mem.accBad false n &&
        (v || (g.filter (fun b => b.1 / 128 == n)).length < 128))
      (a.1 || cut, a.2.writeAcc v g)
    | .sp c m g =>
      let (k, ws) := (a.2.core c).write m g
      (a.1 || !ws.isEmpty, (a.2.setCore c k).spRecords c m e s.index s.op ws)
    | .far => a) (false, d)
  (r.1, r.2.meter s.part true (bs.countP (fun b => match b.1 with | .hbm _ => true | _ => false)))

/-- Translates `n` consecutive bytes from a fabric address, page by page (R38). -/
def Dev.xlateRun (d : Dev) (w : Who) (a n : Nat) : Except Nat (List Loc) :=
  (List.range n).foldr (fun i r => match r with
    | .error st => (match d.xlate w (a + i) with | .ok _ => .error st | .error s2 => .error (stWorst s2 st))
    | .ok ls => (match d.xlate w (a + i) with | .ok l => .ok (l :: ls) | .error st => .error st)) (.ok [])

/-- A location that only a move or gather reaches: another device, or a scratchpad through its aperture, which only the move
engine reaches (R15; another engine's reference to one completes with ACCESS, log entry 107). -/
def Loc.foreign (l : Loc) : Bool :=
  match l with
  | .far _ => true
  | .sp _ _ _ => true
  | _ => false

/-- Some of `n` bytes at a fabric address lie in an accumulation area that is locking: an access to them waits (R284). -/
def Dev.winLocking (d : Dev) (w : Who) (a n : Nat) : Bool :=
  !d.mem.drain.isEmpty && (match d.xlateRun w a n with
    | .ok ls => ls.any (fun l => match l with | .acc x _ => d.accLocking (x / 0x800000) | _ => false)
    | .error _ => false)

/-- Reads `n` bytes at a window address on behalf of the device itself (lists, descriptors, screen words): the bytes, or
the status that the read meets. -/
def Dev.readWin (d : Dev) (s : Iss) (w : Who) (a n : Nat) : Except Nat (List Nat) × Dev :=
  match d.xlateRun w a n with
  | .error st => (.error st, d)
  | .ok ls =>
    if ls.any Loc.foreign then (.error stACCESS, d) else
    let (bs, bad, d) := d.readRun s 0 ls
    (if bad then .error stECC else .ok (bs.map BitVec.toNat), d)

/-- Writes bytes at a window address on behalf of the device itself: OK, ACCESS where nothing could be written, or
ECC_UNCORR where the line was poisoned (R308, R536). -/
def Dev.writeWin (d : Dev) (s : Iss) (w : Who) (a : Nat) (bytes : List Nat) : Nat × Dev :=
  match d.xlateRun w a bytes.length with
  | .error _ => (stACCESS, d)
  | .ok ls =>
    if ls.any Loc.foreign then (stACCESS, d) else
    let (bad, d) := d.writeRun s 0 (ls.zip (bytes.map (BitVec.ofNat 8)))
    (if bad then stECC else stOK, d)

end Sys2Proof.Machine
end

