-- ==== Sys2Proof/Machine/Engine.lean ====
section
/-! DEFINITION. What every engine shares: lists, the issue order of R27, handle queues, completion records, lateness
(R22 to R34, R88, R97, R291, R534 to R536). -/
namespace Sys2Proof.Machine

/-- An engine: its code (1 MXE to 6 RDE, R22), its number (core, update engine or reduction engine) and, for a shared
engine, the partition of the context. -/
structure Eng where
  k : Nat
  n : Nat
  p : Nat
deriving DecidableEq, Repr

/-- The engine belongs to a core. -/
def Eng.isCore (e : Eng) : Bool := e.k ≤ 4

/-- A core engine. -/
def eng (k c : Nat) : Eng := { k := k, n := c, p := 255 }

/-- Its context. -/
def Dev.ctx (d : Dev) (e : Eng) : EngCtx :=
  if e.isCore then Map.get (d.core e.n).eng EngCtx.init e.k
  else if e.k = 5 then Map.get (d.part e.p).up EngCtx.init e.n
  else Map.get (d.part e.p).rd EngCtx.init e.n

/-- Replaces its context. -/
def Dev.setCtx (d : Dev) (e : Eng) (x : EngCtx) : Dev :=
  if e.isCore then
    let c := d.core e.n
    d.setCore e.n { c with eng := Map.set c.eng EngCtx.init e.k x }
  else
    let q := d.part e.p
    if e.k = 5 then d.setPart e.p { q with up := Map.set q.up EngCtx.init e.n x }
    else d.setPart e.p { q with rd := Map.set q.rd EngCtx.init e.n x }

/-- The partition whose commands the engine runs; 255 for none. -/
def Dev.engPart (d : Dev) (e : Eng) : Nat := if e.isCore then d.get (K.CORE_OWNER e.n) else e.p

/-- In whose name its references are made: a core that no partition holds runs for the operator (log entry 11). -/
def Dev.engWho (d : Dev) (e : Eng) : Who := let p := d.engPart e; if p < 16 then .part p else .priv

/-- The quadrant whose clock the engine counts. -/
def Eng.quad (e : Eng) : Nat := if e.isCore then quadOf e.n % 4 else if e.k = 5 then e.n / 5 % 4 else e.n / 2 % 4

/-- Its unit identifier (R72); an engine of a slot that is on no core is named by its partition (log entry 123). -/
def Eng.unit (e : Eng) : Nat :=
  if e.isCore then (if e.n < 64 then unitEng e.n (e.k - 1) else unitPart (e.n % 16)) else if e.k = 5 then 0x1000 + e.n else 0x2000 + e.n

/-- Its counter record (R68): index of the record's counters from 0xA000. -/
def Eng.counters (e : Eng) : Nat :=
  if e.isCore then 4 * e.n + (e.k - 1) else if e.k = 5 then 0x100 + e.n else 0x120 + e.n

/-- Adds to one of the engine's counters and to its partition's record (R68, R69). `sub` counts from 0x01. -/
def Dev.engCount (d : Dev) (e : Eng) (sub n : Nat) : Dev :=
  let d := d.cnt ⟨(0xA000 + e.counters) * 256 + sub, 0⟩ n
  let p := d.engPart e
  if e.isCore && p < 16 then d.cnt ⟨(0xA200 + p) * 256 + sub, 0⟩ n else d

/-- The issuer that its references carry. -/
def Dev.iss (d : Dev) (e : Eng) (index op : Nat) : Iss := { part := d.engPart e, index := index, op := op, alloc := e.k != 5 }

/-- The schedule that governs the engine is running at its epoch, and for a best-effort partition every slot is resident
(R88, R92). A core that no partition holds is governed by none. -/
def Dev.schedOpen (d : Dev) (p : Nat) : Bool :=
  16 ≤ p || (d.get (K.SCHED_STATE p) == 3 && d.get (K.EPOCH_NOW p) ≤ d.now &&
    (d.get (K.PART_CLASS p) == 0 ||
      (List.range (d.sched p).slots).all (fun n => decide (d.get (K.SLOT_CORE p n) < 64))))

/-- The list's address (R35, R84). -/
def Dev.listBase (d : Dev) (e : Eng) : Nat :=
  if e.isCore then d.get (K.LIST_BASE e.n (e.k - 1))
  else match (d.sched e.p).shared.find? (fun s => s.kind == e.k && s.num == e.n) with
    | some s => s.base
    | none => 0

/-- Domains of the power chapter: a core is clocked in RUN only (R433). -/
def Dev.clocked (d : Dev) (c : Nat) : Bool := d.get (K.DOM_STATE c) == 0

/-- The engine fetches and issues: ENGINE_RUN for a core engine on a core in service, the schedule for a shared one. -/
def Dev.running (d : Dev) (e : Eng) : Bool :=
  d.schedOpen (d.engPart e) &&
  (if e.isCore then !(match Map.get d.sw none e.n with | some w => w.started | none => false) && d.flag (K.ENGINE_RUN e.n (e.k - 1)) && d.coreUsable e.n && d.clocked e.n
    else d.listBase e != 0)

/-- The core on which the engine's queue numbers count: its own core, or the core of the slot that BOUND_SLOT names;
none while that slot is not resident (R25). -/
def Dev.queueCore (d : Dev) (e : Eng) : Option Nat :=
  if e.isCore then some e.n
  else
    let c := d.get (K.SLOT_CORE e.p (d.ctx e).bound)
    if c < 64 then some c else none

/-! ## Handle queues -/

/-- The handles in a queue of a core. -/
def Dev.hq (d : Dev) (c q : Nat) : List Handle := Map.get (d.core c).hq [] q

/-- Replaces a queue. -/
def Dev.setHq (d : Dev) (c q : Nat) (l : List Handle) : Dev :=
  let k := d.core c
  d.setCore c { k with hq := Map.set k.hq [] q l }

/-- The record of a full queue (R32). -/
def Dev.overflowRecord (d : Dev) (e : Eng) (q index op : Nat) : Dev :=
  d.file { cls := 8, syndrome := syn8 3 q, aux := 0, unit := e.unit, index := index, opcode := op, status := stRANGE,
           part := d.engPart e }

/-! ## References to other devices (R37, R347) -/

/-- A VC3 or VC4 message: the transaction header of R347, then the data. -/
def txMsg (vc dest src part : Nat) (priv : Bool) (id op status len addr : Nat) (data : List Nat) : Msg :=
  { vc := vc, dest := dest, src := src, part := part % 16, priv := priv, id := id,
    payload := toLE 8 addr ++ toLE 4 len ++ [op, status, 0, 0] ++ data }

/-- Sends a request of an engine, for a command or for its list; none where no route carries it (R365). -/
def Dev.requestFor (d : Dev) (e : Eng) (list : Bool) (index attempt : Nat) (write : Bool) (addr len : Nat) (data : List Nat) :
    Option Nat × Dev :=
  let id := d.msgId % 2 ^ 15
  let priv := decide (d.engWho e = .priv)
  let m := txMsg 3 (bits addr 63 52) (d.get K.DEVICE_NUMBER) (d.engPart e) priv id (if write then 3 else 1) 0 len addr data
  let (d, ok) := d.send m false
  let r : Remote := { k := e.k, n := e.n, p := e.p, index := index, write := write, addr := addr, len := len,
                      sent := d.now, attempt := attempt, data := data, list := list }
  if ok then (some id, { d with msgId := d.msgId + 1, remote := Map.ins d.remote id r }) else (none, d)

/-- A request of a command. -/
def Dev.request (d : Dev) (e : Eng) (index attempt : Nat) (write : Bool) (addr len : Nat) (data : List Nat) : Option Nat × Dev :=
  d.requestFor e false index attempt write addr len data

/-! ## Completion records -/

/-- The ring objects in force for an engine (R35, R335, R404): base, size, position. -/
def Dev.ringObjs (e : Eng) : Obj × Obj × Obj :=
  if e.isCore then (K.RING_BASE e.n (e.k - 1), K.RING_SIZE e.n (e.k - 1), K.RING_POS e.n (e.k - 1))
  else if e.k = 5 then (K.UP_RING_BASE e.p, K.UP_RING_SIZE e.p, K.UP_RING_POS e.p)
  else (K.RD_RING_BASE e.p, K.RD_RING_SIZE e.p, K.RD_RING_POS e.p)

/-- The context that keeps an engine's rings no longer in force: its own, or the first of the partition's contexts of its
type, which share one ring (R534). -/
def Eng.home (e : Eng) : Eng := if e.isCore then e else { e with n := 0 }

/-- The ring of a command issued under generation `gen`, and the state with its position advanced by one (R534). -/
def Dev.ringSlot (d : Dev) (e : Eng) (gen : Nat) : Nat × Dev :=
  let x := d.ctx e.home
  let (b, s, p) := Dev.ringObjs e
  if gen = x.gen then
    let pos := d.get p
    (d.get b + 16 * pos, d.put p ((pos + 1) % max 1 (d.get s)))
  else
    let r := Map.get x.rings ⟨0, 1, 0⟩ gen
    (r.base + 16 * r.pos,
      d.setCtx e.home { x with rings := Map.set x.rings ⟨0, 1, 0⟩ gen { r with pos := (r.pos + 1) % max 1 r.size } })

/-- The record of a completion record that was lost or damaged (R536). -/
def Dev.recordLost (d : Dev) (e : Eng) (index op st : Nat) : Dev :=
  d.file { cls := 8, syndrome := syn8 15 st, aux := index, unit := e.unit, index := index, opcode := op, status := st,
           part := d.engPart e }

/-- Stores bytes at a window address again, with no lookup, meter or record: an entry that is already written moves. -/
def Dev.moveEntry (d : Dev) (w : Who) (a : Nat) (bytes : List Nat) : Dev :=
  match d.xlateRun w a bytes.length with
  | .error _ => d
  | .ok ls => (ls.zip bytes).foldl (fun d b => match b.1 with
      | .hbm x => d.setHbmByte x (BitVec.ofNat 8 b.2)
      | .acc x _ => { d with mem := { d.mem with acc := Map.set d.mem.acc 0 x (BitVec.ofNat 8 b.2) } }
      | _ => d) d

/-- The entries that a partition's shared ring of a generation took in this tick from engines of higher number than `e`: they
follow the record of `e` (R31, R534; a cycle of a shared engine is taken as its tick, log entry 102). -/
def Dev.ringLater (d : Dev) (e : Eng) (gen : Nat) : List RingEntry :=
  if e.isCore then [] else (Map.get (d.part e.p).ringNow [] e.k).filter (fun r => r.tick == d.now && r.gen == gen && e.n < r.eng)

/-- Keeps the entries of a shared ring of this tick. -/
def Dev.noteRing (d : Dev) (e : Eng) (gen : Nat) (slots : List Nat) (new : List RingEntry) : Dev :=
  if e.isCore then d
  else
    let p := d.part e.p
    let old := (Map.get p.ringNow [] e.k).filter (fun r => r.tick == d.now && !(r.gen == gen && e.n < r.eng))
    let new := (slots.zip new).map (fun (x : Nat × RingEntry) => { x.2 with addr := x.1 })
    d.setPart e.p { p with ringNow := Map.set p.ringNow [] e.k (old ++ new) }

/-- Writes a 16-byte completion record (R28, R534, R536), before the records of this tick that the engine order puts behind it.
A checked sparse load counts in its own objects (R200). A record for an area that is locking waits (R284). -/
def Dev.record (d : Dev) (e : Eng) (index op status gen : Nat) : Dev :=
  let d := if e.k = 3 && op = 0x18 then
      (d.cnt (K.SPL_LOADS e.n) 1).cnt (K.SPL_REFUSED e.n) (if status = stSPARSE then 1 else 0) else d
  let (a, d) := d.ringSlot e gen
  let bytes := toLE 4 index ++ [status, e.k, 0, 0] ++ toLE 8 d.now
  let rest := d.ringLater e gen
  let slots := rest.map RingEntry.addr ++ [a]
  let d := d.noteRing e gen slots ({ tick := d.now, gen := gen, eng := e.n, addr := a, bytes := bytes } :: rest)
  if bits a 63 52 = d.get K.DEVICE_NUMBER && d.winLocking (d.engWho e) (slots.headD a) 16 then
    let moved := slots.tail.zip rest
    let old := d.mem.recWait.map (fun w => match moved.find? (fun x => x.2.addr == w.addr) with
      | some x => { w with addr := x.1 }
      | none => w)
    let new : RecWait := { k := e.k, n := e.n, p := e.p, index := index, op := op, part := d.engPart e, addr := slots.headD a, bytes := bytes }
    { d with mem := { d.mem with recWait := old ++ [new] } }
  else
  let (st, d) :=
    if bits a 63 52 = d.get K.DEVICE_NUMBER then d.writeWin (d.iss e index op) (d.engWho e) (slots.headD a) bytes
    else match d.requestFor e true index 0 true (slots.headD a) 16 bytes with
      | (some _, d) => (stOK, d)
      | (none, d) => (stLINK, d)
  let d := (slots.tail.zip rest).foldl (fun d x => d.moveEntry (d.engWho e) x.1 x.2.bytes) d
  if st = 0 then d else d.recordLost e index op st

/-! ## What a status does to the attempt -/

/-- A fugitive contribution's producer, by its signal queue: the slot times 32 plus the queue (R104). -/
def Dev.excuseKey (d : Dev) (e : Eng) (sig : Nat) : Nat := d.get (K.CORE_SLOT e.n) * 32 + sig

/-- A commit-segment command fails after a decision to commit (R307): with the first of the attempt, JOB_DAMAGED is set
and a record filed. -/
def Dev.damage (d : Dev) (p status : Nat) : Dev :=
  let s := d.sched p
  if s.failCommit ≠ 0 then d
  else ((d.setSched p { s with failCommit := status }).put (K.JOB_DAMAGED p) 1).file
    { cls := 8, syndrome := syn8 10 status, aux := d.get (K.ATTEMPT p) % 2 ^ 32, unit := unitPart p, index := 0, opcode := 0xFF,
      status := status, part := p }

/-- A completion's counters and its part in the vote (R68, R99, R104, R291, R301, R307). `w1` is the command's word 1,
`sig` its signal queue; `quiet` where R291 completed it after a failed decision. -/
def Dev.account (d : Dev) (e : Eng) (w1 status attempt sig : Nat) (quiet : Bool) : Dev :=
  let p := d.engPart e
  let d := if status ≠ 0 then d.engCount e 12 1 else d
  let d := if e.k = 5 && status ≠ 0 then d.put (K.UP_LAST_PART e.n) p else d
  if 16 ≤ p then d else
  let d := if status = stLATE && !quiet then d.cnt (K.LATE_COUNT p) 1 else d
  let s := d.sched p
  if status = 0 || quiet || attempt ≠ d.get (K.ATTEMPT p) then d
  else if status = stLATE && e.isCore && s.excused.contains (d.excuseKey e sig) then
    d.setSched p { s with excused := s.excused.erase (d.excuseKey e sig) }
  else if s.decided && d.get (K.DECIDE_TICK p) ≤ w1 && (d.get (K.DECISION p) = 1 || d.get (K.DECISION p) = 4) then
    d.damage p status
  else if s.voted then d
  else d.setSched p { s with causes := s.causes ++ [status], nf := s.nf || status == stNONFIN }

/-- The syndrome record of a first LATE of the engine in the attempt (R99). -/
def Dev.lateRecord (d : Dev) (e : Eng) (index op w1 cause : Nat) : Dev :=
  let x := d.ctx e
  if x.lateFiled then d
  else (d.setCtx e { x with lateFiled := true }).file
    { cls := 8, syndrome := syn8 1 cause, aux := w1, unit := e.unit, index := index, opcode := op, status := stLATE,
      part := d.engPart e }

/-! ## Lists and commands -/

/-- A command as its slot spells it (R24). -/
structure Cmd where
  index : Nat
  words : List Nat
  handle : Option Handle
deriving DecidableEq, Repr

/-- Word i. -/
def Cmd.w (c : Cmd) (i : Nat) : Nat := c.words.getD i 0
/-- OPCODE. -/
def Cmd.op (c : Cmd) : Nat := bits (c.w 0) 7 0
/-- FLAGS, bit i of word 0. -/
def Cmd.flag (c : Cmd) (i : Nat) : Bool := bit (c.w 0) i
/-- WAIT_Q. -/
def Cmd.waitQ (c : Cmd) : Nat := bits (c.w 0) 23 16
/-- SIGNAL_Q. -/
def Cmd.sigQ (c : Cmd) : Nat := bits (c.w 0) 31 24
/-- The pair of words i, i+1 as one number, lower word first. -/
def Cmd.pair (c : Cmd) (i : Nat) : Nat := c.w i + 2 ^ 32 * c.w (i + 1)

/-- Eight words of 32 bytes. -/
def wordsOf (bs : List Nat) : List Nat := (List.range 8).map (fun i => ofLE ((bs.drop (4 * i)).take 4))

/-- No status of R40: a slot of a list in another device has not come yet. -/
def stWAIT : Nat := 254

/-- Reads slot `i` of the engine's list (R535); a list in another device is read from the answers that have come (R37); one in an
accumulation area that is locking waits (R284). -/
def Dev.slot (d : Dev) (e : Eng) (i : Nat) : Except Nat (List Nat) × Dev :=
  if bits (d.listBase e + 32 * i) 63 52 ≠ d.get K.DEVICE_NUMBER then
    (match Map.get (d.ctx e).far [] i with
     | [] => .error stWAIT
     | [st] => .error st
     | ws => .ok ws, d)
  else if d.winLocking (d.engWho e) (d.listBase e + 32 * i) 32 then (.error stWAIT, d)
  else
  let (r, d) := d.readWin (d.iss e i 0xFF) (d.engWho e) (d.listBase e + 32 * i) 32
  ((match r with | .ok bs => .ok (wordsOf bs) | .error st => .error st), d)

/-- What reading the `n` slots of the head costs: lookups, records, meters, once for each slot. -/
def Dev.takeSlots (d : Dev) (e : Eng) (n : Nat) : Dev :=
  let i := (d.ctx e).index
  (List.range n).foldl (fun d j => (d.slot e (i + j)).2) d

/-- The fabric tick at which a command's word 1 is reached (R88); epoch 0 where no schedule governs the engine. The quadrants' copies of
fabric time are one counter here, without skew (R21, log entry 112). -/
def Dev.release (d : Dev) (e : Eng) (w1 : Nat) : Nat :=
  let p := d.engPart e
  (if p < 16 then d.get (K.EPOCH_NOW p) else 0) + w1

/-- A token handle (R29). -/
def token (st : Nat) : Handle := { status := st, space := 4, offset := 0 }

/-- The record of a NONFINITE completion (R312, R481). -/
def Dev.nfRecord (d : Dev) (e : Eng) (index op st : Nat) : Dev :=
  if st = stNONFIN then
    d.file { cls := 0, syndrome := 0, aux := 0, unit := e.unit, index := index, opcode := op, status := st, part := d.engPart e }
  else d

/-- A completion with LATE that no late moment of its own preceded is a LATE of its engine too (R99). -/
def Dev.lateCompletion (d : Dev) (e : Eng) (index op w1 cause st : Nat) : Dev :=
  if st = stLATE then d.lateRecord e index op w1 cause else d

/-- The tick at which the segment of a release tick ends, relative to the epoch (R84). -/
def Sched.segEnd (s : Sched) (w1 : Nat) : Nat := ((s.segs.find? (fun g => w1 < g.stop)).map Seg.stop).getD (2 ^ 64)

/-- The status with which an issued command completes now: LATE past its segment's END or its attempt (R89, R97). -/
def Dev.finalStatus (d : Dev) (e : Eng) (f : InFlight) : Nat :=
  let p := d.engPart e
  let gone := p < 16 && f.attempt ≠ d.get (K.ATTEMPT p)
  let past := p < 16 && d.get (K.EPOCH_NOW p) + (d.sched p).segEnd f.tick ≤ d.now
  if f.late || gone || past then stWorst f.status stLATE else f.status

/-- The command belongs to the commit segment of an attempt that came into doubt: it completes without issuing, whatever it waits
for and however the attempt is resolved, until the schedule resumes (R305, R306). -/
def Dev.inDoubt (d : Dev) (e : Eng) (w1 : Nat) : Bool :=
  let p := d.engPart e
  p < 16 && (d.sched p).doubted && d.get (K.DECIDE_TICK p) ≤ w1

/-- The partition's decision stops or holds a command of the commit segment (R291, R305): none to go on, some 0xFF to
wait, some status to complete with it. -/
def Dev.commitGate (d : Dev) (e : Eng) (w1 : Nat) : Option Nat :=
  let p := d.engPart e
  let dt := if p < 16 then d.get (K.DECIDE_TICK p) else 0
  if dt = 0 || w1 < dt then none
  else
    let s := d.sched p
    if !s.decided then some 0xFF
    else if s.doubted then some stLINK
    else match d.get (K.DECISION p) with
      | 1 => none
      | 4 => none
      | 3 => some stLINK
      | _ => some (d.get (K.DECISION_CAUSE p))

/-- How many list slots the head owns, by its opcode (R173, R248): given the opcode and word 2. -/
def slotsOf (k op w2 : Nat) : Nat :=
  match k, op with
  | 1, 0x11 => 1 + w2 % 32
  | 2, 0x10 => let n := bits w2 10 8 + 1; if n ≤ 2 then 1 else if n ≤ 5 then 2 else 3
  | 3, 0x11 => 2
  | 3, 0x13 => 2
  | 3, 0x18 => 2
  | 4, 0x10 => 2
  | 5, 0x10 => 3
  | 5, 0x20 => 2
  | 6, 0x10 => 2
  | _, _ => 1

/-- The opcodes that an engine has (R160, R219, R248, R266, R315, R378). -/
def opKnown (k op : Nat) : Bool :=
  match k with
  | 1 => [0, 1, 0x10, 0x11, 0x12].contains op
  | 2 => [0, 8, 0x10, 0x12, 0x20].contains op
  | 3 => [0, 1, 0x10, 0x11, 0x12, 0x13, 0x18].contains op
  | 4 => [0, 0x10, 0x12].contains op
  | 5 => [0, 0x10, 0x12, 0x20].contains op
  | _ => [0, 0x10, 0x11, 0x12].contains op

/-- Pops the handle that a command waits for (R27, R31): none where it must wait. A handle pushed in a cycle is
taken in a later one. -/
def Dev.popFor (d : Dev) (e : Eng) (q : Nat) : Option (Option Handle × Dev) :=
  let x := d.ctx e
  if q = 255 then some (none, d)
  else match x.popped with
    | some h => some (some h, d)
    | none =>
      match d.queueCore e with
      | none => none
      | some c =>
        match d.hq c q with
        | [] => none
        | h :: r =>
          if d.cyclesEnd (quadOf c) ≤ h.vis then none else
          let d := d.setHq c q r
          some (some h, d.setCtx e { d.ctx e with popped := some h })

/-! ## Pushes (R31, R32) -/

/-- The place of an engine in the order of R31. -/
def Eng.rank (e : Eng) : Nat := if e.isCore then e.k else e.k * 32 + e.n

/-- A handle among those of its queue: behind those of earlier cycles, and of its own cycle in the engine order (R31). -/
def insHandle (l : List Handle) (h : Handle) : List Handle :=
  match l with
  | [] => [h]
  | x :: r => if h.cyc < x.cyc || (h.cyc = x.cyc && h.rank < x.rank) then h :: x :: r else x :: insHandle r h

/-- The engines that may consume from a queue of a core (R30): the bound one, or the shared contexts of the bound kind that
use the core's slot. -/
def Dev.consumers (d : Dev) (c q : Nat) : List Eng :=
  let k := d.get (K.HQ_BIND c q)
  let p := d.get (K.CORE_OWNER c)
  let sh (m : Map EngCtx) (k : Nat) : List Eng :=
    (m.filter (fun x => x.2.bound == d.get (K.CORE_SLOT c))).map (fun x => { k := k, n := x.1, p := p })
  if 1 ≤ k && k ≤ 4 then [eng k c]
  else if 16 ≤ p then []
  else if k = 5 then sh (d.part p).up 5 else if k = 6 then sh (d.part p).rd 6 else []

/-- An engine whose head waits for a handle of queue `q` and could take one in the present cycle (R27). -/
def Dev.takesNow (d : Dev) (e : Eng) (q : Nat) : Bool :=
  let x := d.ctx e
  d.running e && x.fetched && x.index != 0 && x.index ≤ x.count && x.popped.isNone &&
  (match (d.slot e x.index).1 with
   | .ok ws => bits (ws.getD 0 0) 23 16 == q && d.release e (ws.getD 1 0) ≤ d.now
   | .error _ => false)

/-- A full queue whose consumer takes a handle in the cycle of a push has room for it: the pop takes effect first (R31). -/
def Dev.popFirst (d : Dev) (c q : Nat) : Dev :=
  match (d.consumers c q).find? (fun e => d.takesNow e q) with
  | some e => (match d.popFor e q with | some (_, d) => d | none => d)
  | none => d

/-- Pushes a handle, at cycle `h.cyc` where a core's engine pushes it; false where the queue holds 16 already and the handle is
discarded (R32). A slot that is not resident has its handles held by the pushing context (R416); the handles that a shared
engine pushes for a slot fenced in this attempt are discarded (R102). -/
def Dev.push (d : Dev) (e : Eng) (q : Nat) (h : Handle) : Dev × Bool :=
  if q = 255 || (!e.isCore && (d.sched e.p).fencedSlots.contains (d.ctx e).bound) then (d, true) else
  let (_, t, d) := if e.isCore then d.stain 1 e.unit (d.engPart e) else (0, 0, d)
  match d.queueCore e with
  | some c =>
    let n := if e.isCore then h.cyc else d.cycles (quadOf c)
    let h := { h with vis := n + 1 + t, cyc := n, rank := e.rank }
    let d := if d.get (K.DOM_STATE c) ≤ 2 then d.wakeDom c else d
    if (d.hq c q).length < 16 then (d.setHq c q (insHandle (d.hq c q) h), true)
    else
      let d' := d.popFirst c q
      if (d'.hq c q).length < 16 then (d'.setHq c q (insHandle (d'.hq c q) h), true) else (d, false)
  | none =>
    let slot := (d.ctx e).bound
    let p := d.part e.p
    let l := Map.get p.heldHq [] (slot * 32 + q)
    if 16 ≤ l.length then (d, false)
    else (d.setPart e.p { p with heldHq := Map.set p.heldHq [] (slot * 32 + q) (l ++ [h]) }, true)

/-! ## The end of a command -/

/-- The cycle in which an engine's head comes to its issue in this tick: no earlier than its last command ended and its handle
could be taken (R27, R31), and not while its core is being zeroised (R245). -/
def Dev.issueCycle (d : Dev) (e : Eng) (h : Option Handle) : Nat :=
  let x := d.ctx e
  max (max (d.cycles e.quad) (max x.till x.nxt))
    (if e.isCore then max ((h.map Handle.vis).getD 0) (d.core e.n).zeroTill else 0)

/-- The END of the segment of a release tick has come (R97). -/
def Dev.pastEnd (d : Dev) (e : Eng) (w1 : Nat) : Bool :=
  let p := d.engPart e
  p < 16 && d.get (K.EPOCH_NOW p) + (d.sched p).segEnd w1 ≤ d.now

/-- Ends a command at the head of the list without issuing it: its handle is pushed with the status, its record written,
and LIST_INDEX moves past the slots it owns (R33, R173). -/
def Dev.endHead (d : Dev) (e : Eng) (c : Cmd) (slots status : Nat) (quiet : Bool) (h : Handle) : Dev :=
  let d := d.takeSlots e slots
  let x := d.ctx e
  let n := d.issueCycle e c.handle
  let st := if !quiet && (x.late || d.pastEnd e (c.w 1)) then stWorst status (if x.gated then stCAP else stLATE) else status
  let (d, ok) := d.push e (if c.sigQ < 32 then c.sigQ else 255) { h with status := st, cyc := n }
  let d := if ok then d else d.overflowRecord e c.sigQ c.index c.op
  let st := if ok then st else stRANGE
  let own := if quiet then stOK else st
  let d := ((d.record e c.index c.op st x.gen).nfRecord e c.index c.op own).lateCompletion e c.index c.op (c.w 1) 4 own
  let d := d.account e (c.w 1) st (d.get (K.ATTEMPT (d.engPart e))) c.sigQ quiet
  let x := d.ctx e
  d.setCtx e { x with index := x.index + slots, popped := none, late := false, gated := false, why := 0, hold := none, nxt := n + 1 }

/-- The same, pushing a token handle. -/
def Dev.reject (d : Dev) (e : Eng) (c : Cmd) (slots status : Nat) : Dev := d.endHead e c slots status false (token status)

/-- Moves the list past an issued command and counts it (R68). -/
def Dev.advance (d : Dev) (e : Eng) (slots : Nat) : Dev :=
  let d := d.takeSlots e slots
  let x := d.ctx e
  (d.setCtx e { x with index := x.index + slots, popped := none, late := false, gated := false, why := 0, hold := none,
                       nxt := d.issueCycle e x.popped + 1 }).engCount e 11 1

/-- An engine's command ended in cycle `t`: what it spent of the present tick is counted as executing (R68). -/
def Dev.ended (d : Dev) (e : Eng) (start t : Nat) : Dev :=
  let x := d.ctx e
  let from' := max (d.cycles e.quad) (max start x.till)
  (if from' < t then d.engCount e 10 (t - from') else d).setCtx e { x with till := max x.till t, spent := x.spent + (t - from') }

/-- ... and the `y` cycles from cycle `t` on in which it yielded a bank as BANK_CONFLICT (R147, R235). -/
def Dev.yielded (d : Dev) (e : Eng) (t y : Nat) : Dev :=
  let x := d.ctx e
  let from' := max (d.cycles e.quad) (max t x.till)
  (if from' < t + y then d.engCount e 8 (t + y - from') else d).setCtx e
    { x with till := max x.till (t + y), spent := x.spent + (t + y - from') }

/-- A granule among those that a command's writes entered: one of its own core (memory times 256 plus granule), or of another one
through its aperture. -/
def granKey (own c mem off : Nat) : Nat := (if c = own then 0 else (c + 1) * 1024) + mem * 256 + off / 2048

/-- The core and the granule of such a key. -/
def granOf (own g : Nat) : Nat × Nat := (if g < 1024 then own else g / 1024 - 1, g % 1024)

/-- Resident bits of written granules are set when their command completes OK (R144). -/
def Dev.setResident (d : Dev) (own : Nat) (gs : List Nat) : Dev :=
  gs.foldl (fun d g =>
    let (c, x) := granOf own g
    let k := d.core c
    d.setCore c { k with resident := Map.set k.resident false x true }) d

/-- Completes an issued command: handle, record, counters (R28, R31, R33). A command of an attempt that has ended
completes LATE and its handle is discarded (R89). -/
def Dev.finish (d : Dev) (e : Eng) (f : InFlight) (h : Handle) : Dev :=
  let p := d.engPart e
  let gone := p < 16 && f.attempt ≠ d.get (K.ATTEMPT p)
  let st := d.finalStatus e f
  let (d, ok) := if gone then (d, true) else d.push e f.sig { h with status := st, cyc := max (d.cycles e.quad) (d.ctx e).till }
  let d := if ok then d else d.overflowRecord e f.sig f.index f.op
  let st := if ok then st else stRANGE
  let d := if st = stOK && e.isCore && !gone then d.setResident e.n f.grans else d
  (((d.record e f.index f.op st f.gen).nfRecord e f.index f.op st).lateCompletion e f.index f.op f.tick 0
    (if gone then stOK else st)).account e f.tick st f.attempt f.sig false

/-- BANK_CONFLICT under a reservation of core `c`'s array (R42, R145): the cause and, above its byte, the core. -/
def heldWhy (c : Nat) : Nat := 8 + 256 * (c + 1)

/-- The head's attempt to issue meets the stall cause `n` (R42). -/
def Dev.setWhy (d : Dev) (e : Eng) (n : Nat) : Dev := d.setCtx e { d.ctx e with why := n }

/-- The core's slot is being saved or restored (R42, R417). -/
def Dev.switching (d : Dev) (c : Nat) : Bool :=
  match Map.get d.sw none c with | some w => w.started | none => false

/-- The stall cause under which an engine counts while it waits (R42), as the state shows it. A pass abandoned at a switch that
waits for its reissue stands before the list (R146, R156). -/
def Dev.stallCause (d : Dev) (e : Eng) : Nat :=
  let x := d.ctx e
  if e.isCore && (64 ≤ e.n || d.switching e.n) then 1
  else if e.isCore && !d.clocked e.n then 2
  else if e.k = 1 && !(d.core e.n).reruns.isEmpty then (if bit (d.get K.GATE) e.n then 2 else 5)
  else match d.slot e x.index with
    | (.error st, _) => if st = stWAIT then 7 else 5
    | (.ok ws, _) =>
      let c : Cmd := { index := x.index, words := ws, handle := none }
      if e.k = 1 && bit (d.get K.GATE) e.n then 2
      else if d.now < d.release e (c.w 1) then 3
      else if (d.popFor e c.waitQ).isNone then 4
      else if x.why ≠ 0 then x.why
      else 5

/-- The head will complete without issuing by R291: it counts no stall. -/
def Dev.headStopped (d : Dev) (e : Eng) : Bool :=
  match d.slot e (d.ctx e).index with
  | (.ok ws, _) => (match d.commitGate e (ws.getD 1 0) with | some st => st != 0xFF | none => false)
  | (.error _, _) => false

/-- The head has not issued by the end of its release tick plus LATE_SLACK, or its segment has ended: it is late, and the first
such command of the engine in the attempt files its record (R97, R99). An MX_QUIESCE that has issued is no head (R175). -/
def Dev.noteLate (d : Dev) (e : Eng) (c : Cmd) : Dev :=
  let p := d.engPart e
  let x := d.ctx e
  let shut := e.k == 1 && bit (d.get K.GATE) e.n
  if e.k = 1 && (d.core e.n).mxQuiet ≠ 0 && (d.core e.n).mxQuiet = c.index then d
  else if p < 16 && (d.release e (c.w 1) + (d.sched p).slack < d.now || d.pastEnd e (c.w 1)) then
    if x.late then (if shut && !x.gated then d.setCtx e { x with gated := true } else d)
    else
      let cause := d.stallCause e
      (d.setCtx e { x with late := true, gated := shut }).lateRecord e c.index c.op (c.w 1) cause
  else d

/-- The head command of an engine at the point where R27 lets it go on: its tick is reached, its handle popped and clean,
the decision allows it. -/
inductive Head where
  | wait (d : Dev)
  | go (c : Cmd) (slots : Nat) (d : Dev)
deriving DecidableEq, Repr

/-- The queue that a command waits on is one, and is bound to its engine (R25, R30). The rule names a queue bound to another
engine; one that is bound to none is treated alike (DESIGN CHOICE, log entry 103). -/
def Dev.waitOk (d : Dev) (e : Eng) (c : Cmd) : Bool :=
  c.waitQ == 255 || (c.waitQ < 32 &&
    (match d.queueCore e with
     | some k => d.get (K.HQ_BIND k c.waitQ) == e.k
     | none => true))

/-- SIGNAL_Q is a queue or none (R25). -/
def Cmd.signalOk (c : Cmd) : Bool := c.sigQ < 32 || c.sigQ == 255

/-- The decision has failed the commit segment that a command belongs to (R291, R305): it will complete without issuing. -/
def Dev.stopsHead (d : Dev) (e : Eng) (w1 : Nat) : Option Nat :=
  match d.commitGate e w1 with
  | some st => if st = 0xFF then none else some st
  | none => none

/-- A head's slots: those it owns where the list holds them, else one (R173). The flag says that it owns them. -/
def Dev.ownedSlots (d : Dev) (e : Eng) (c : Cmd) : Nat × Bool :=
  let n := slotsOf e.k c.op (c.w 2)
  let x := d.ctx e
  let bad := (e.k == 1 && c.op == 0x11 && (c.w 2 % 32 == 0 || 16 < c.w 2 % 32)) || x.count < c.index + n - 1
  if bad then (1, false) else (n, true)

/-- Takes the head command of an engine through the order of R27 up to its issue, for an issue event that accepts the opcodes
`acc` (every issue event also meets the opcodes that the engine does not have; an inherited status stands before the command's own,
R41). A command that ends here without issuing is completed; everything that keeps the head waiting leaves the state as it
stands, but for the handle it has popped. Passes that wait for their reissue stand before the list (R156). -/
def Dev.ready (d : Dev) (e : Eng) (acc : Nat → Bool) : Head :=
  let x := d.ctx e
  if !d.running e || !x.fetched || x.index = 0 || x.count < x.index || (e.k = 1 && !(d.core e.n).reruns.isEmpty) then .wait d
  else match d.slot e x.index with
  | (.error _, _) => .wait d
  | (.ok ws, _) =>
    let c : Cmd := { index := x.index, words := ws, handle := none }
    if opKnown e.k c.op && !acc c.op then .wait d else
    let n := (d.ownedSlots e c).1
    let p := d.engPart e
    if p < 16 && d.get (K.PERIOD p) ≤ c.w 1 then .wait (d.reject e c n stRANGE)
    else if d.inDoubt e (c.w 1) then .wait (d.endHead e c n stLINK true (token stLINK))
    else if d.now < d.release e (c.w 1) then .wait d
    else
    let d := if (d.stopsHead e (c.w 1)).isSome then d else d.noteLate e c
    if !d.waitOk e c then .wait (d.reject e c n stRANGE)
    else match d.popFor e c.waitQ with
      | none => .wait d
      | some (h, d) =>
        let c := { c with handle := h }
        let bad := (h.map Handle.status).getD 0
        if d.cyclesEnd e.quad ≤ d.issueCycle e h then .wait d
        else match d.stopsHead e (c.w 1) with
          | some st => .wait (d.endHead e c n st true (token st))
          | none =>
            if bad ≠ 0 then .wait ((d.setCtx e { d.ctx e with late := false, gated := false }).reject e c n bad)
            else if !c.signalOk then .wait (d.reject e c n stRANGE)
            else if (d.commitGate e (c.w 1)).isSome then .wait d
            else .go c n d

/-- A head that comes to its issue has an opcode of its engine, is no extension slot and owns its slots (R173). -/
def Dev.issuable (d : Dev) (e : Eng) (c : Cmd) : Bool := opKnown e.k c.op && c.op != 0x12 && (d.ownedSlots e c).2

/-- The same, refusing a head that cannot issue. -/
def Dev.head (d : Dev) (e : Eng) (acc : Nat → Bool) : Head :=
  match d.ready e acc with
  | .wait d => .wait d
  | .go c n d => if d.issuable e c then .go c n d else .wait (d.reject e c n stRANGE)

/-- The command just issued does not complete before its delayed memory responses have come (R73). -/
def Dev.holdIssued (d : Dev) (e : Eng) (index : Nat) : Dev :=
  if d.memDelay = 0 then d
  else
    let t := d.now + d.memDelay
    let mark (f : InFlight) : InFlight := if f.index = index && f.hold = 0 then { f with hold := t } else f
    let x := d.ctx e
    let d := d.setCtx e { x with busy := x.busy.map mark }
    if e.k = 6 then
      { d with chans := d.chans.map (fun (c : Nat × Chan) => (c.1, { c.2 with op := c.2.op.map (fun (o : RingOp) =>
          if o.eng = e.n && o.part = e.p then { o with fl := mark o.fl } else o) })) }
    else d

/-- Runs an issue event: `body` gets the command once R27's first two conditions hold. A command that `body` would issue
is held by the ISSUE_DELAY stains that it meets (R73); a hold that has begun runs on past STOP_TICK (log entry 117). -/
def Dev.issue (d : Dev) (e : Eng) (acc : Nat → Bool) (body : Dev → Cmd → Nat → Dev) : Dev :=
  match d.head e acc with
  | .wait d => d
  | .go c n d =>
    let run (d : Dev) : Dev := (body { d with memDelay := 0 } c n).holdIssued e c.index
    let x := d.ctx e
    if x.hold.isNone && (d.stainsOn 2 e.unit (d.engPart e)).isEmpty then run d
    else
      let d' := run d
      if (d'.ctx e).index = x.index then d'
      else match x.hold with
        | some t => if d.cyclesEnd e.quad < t then d else d'
        | none =>
          let (_, t, ds) := d.stain 2 e.unit (d.engPart e)
          if t = 0 then run ds else ds.setCtx e { ds.ctx e with hold := some (ds.cycles e.quad + t) }

/-- The record of a list slot that cannot be read (R535). -/
def Dev.slotRecord (d : Dev) (e : Eng) (i st : Nat) : Dev :=
  d.file { cls := 8, syndrome := syn8 16 st, aux := i, unit := e.unit, index := i, opcode := 0xFF, status := st,
           part := d.engPart e }

/-- The words of the extension slots a head owns; none where one cannot be read or breaks R172's rule: opcode 0x12, no
queues, the head's tick. One that cannot be read has its record (R535) and ends an MX_GANG with RANGE (R172, R179), another
engine's head with its own status (log entry 104). -/
def Dev.exts (d : Dev) (e : Eng) (c : Cmd) (n : Nat) : Except Nat (List (List Nat)) × Dev :=
  (List.range (n - 1)).foldl (fun (a : Except Nat (List (List Nat)) × Dev) i =>
    match a.1 with
    | .error _ => a
    | .ok l =>
      match ((a.2.slot e (c.index + 1 + i)).1, a.2) with
      | (.error st, d) =>
        if st = stWAIT then (.error st, d)
        else (.error (if e.k = 1 then stRANGE else st), d.slotRecord e (c.index + 1 + i) st)
      | (.ok ws, d) =>
        let w0 := ws.getD 0 0
        if bits w0 7 0 = 0x12 && bits w0 31 24 = 255 && bits w0 23 16 = 255 && ws.getD 1 0 = c.w 1
        then (.ok (l ++ [ws]), d) else (.error stRANGE, d)) (.ok [], d)

/-- A command that completes in its issue cycle (R174, R224, R254): one cycle executed, unless a pass in flight counts it already
(R146). -/
def Dev.instant (d : Dev) (e : Eng) (c : Cmd) (n : Nat) (h : Handle) : Dev :=
  let d := (d.endHead e c n stOK false h).engCount e 11 1
  if e.k = 1 && !(d.core e.n).passes.isEmpty then d
  else (d.setCtx e { d.ctx e with spent := (d.ctx e).spent + 1 }).engCount e 10 1

/-- A relay (R174): completes in its issue cycle and pushes the handle it popped, or a token. -/
def Dev.relay (d : Dev) (e : Eng) (c : Cmd) : Dev := d.instant e c 1 (c.handle.getD (token 0))

/-- What an issued command carries (R28): its ring, its attempt, its lateness. -/
def Dev.inflight (d : Dev) (e : Eng) (c : Cmd) (status space offset cost : Nat) : InFlight :=
  let x := d.ctx e
  { index := c.index, op := c.op, tick := c.w 1, sig := if c.sigQ < 32 then c.sigQ else 255,
    status := if x.gated then stWorst status stCAP else status,
    space := space, offset := offset, gen := x.gen, late := x.late, start := d.issueCycle e c.handle, cost := cost,
    grans := [], outs := [], attempt := if d.engPart e < 16 then d.get (K.ATTEMPT (d.engPart e)) else 0 }

/-- Reads and checks a list header (R22, R23, R535): none for a good one, else the status that refuses the list. -/
def Dev.headerFault (d : Dev) (e : Eng) (ws : List Nat) : Option Nat :=
  let w0 := ws.getD 0 0
  let cnt := ws.getD 1 0
  let fmt := bits w0 31 16
  let p := d.engPart e
  if bits w0 7 0 = 0xFE && 1 ≤ fmt && fmt ≤ 32 && bit (d.get K.LIST_FORMATS) (fmt - 1) && bits w0 15 8 = e.k &&
     1 ≤ cnt && cnt ≤ 1048576 && (e.isCore || bits (ws.getD 2 0) 7 0 < (d.sched p).slots)
  then none else some stRANGE

/-- Refuses a list (R23): record of index 0, error record, no handle. -/
def Dev.refuseList (d : Dev) (e : Eng) (st : Nat) : Dev :=
  let x := d.ctx e
  let d := d.setCtx e { x with refused := true, refusal := st }
  let d := d.record e 0 0xFF st x.gen
  let d := d.account e 0 st (d.get (K.ATTEMPT (d.engPart e))) 255 false
  d.file { cls := 8, syndrome := syn8 2 0, aux := 0, unit := e.unit, index := 0, opcode := 0xFF, status := st,
           part := d.engPart e }

/-- Asks another device for a slot of an engine's list, once (R37, R535); with no route the slot cannot be read. -/
def Dev.askSlot (d : Dev) (e : Eng) (i : Nat) : Dev :=
  if d.remote.any (fun r => r.2.list && !r.2.write && r.2.k == e.k && r.2.n == e.n && r.2.p == e.p && r.2.index == i) then d
  else match d.requestFor e true i 0 false (d.listBase e + 32 * i) 32 [] with
    | (some _, d) => d
    | (none, d) => d.setCtx e { d.ctx e with far := Map.set (d.ctx e).far [] i [stLINK] }

/-- The answer to a request of an engine's list or completion ring has come: a slot is kept and the next one asked for; a
record that could not be written has its own record (R535, R536). -/
def Dev.listAnswer (d : Dev) (r : Remote) (data : List Nat) (status : Nat) : Dev :=
  let e : Eng := { k := r.k, n := r.n, p := r.p }
  if r.write then (if status = 0 then d else d.recordLost e r.index 0xFF status)
  else
    let d := d.setCtx e { d.ctx e with far := Map.set (d.ctx e).far [] r.index (if status = 0 then wordsOf data else [status]) }
    if (d.ctx e).fetched && r.index < (d.ctx e).count then d.askSlot e (r.index + 1) else d

/-- The engine reads the header of its list where it has not (R22, R23, R535). A list in another device is asked for slot by slot
(R37). -/
def Dev.readList (d : Dev) (e : Eng) : Dev :=
  let x := d.ctx e
  if x.fetched || x.refused || d.listBase e = 0 then d else
  match d.slot e 0 with
  | (.error st, d) => if st = stWAIT then d.askSlot e 0 else d.refuseList e st
  | (.ok ws, d) =>
    match d.headerFault e ws with
    | some st => d.refuseList e st
    | none =>
      let d := d.setCtx e { d.ctx e with fetched := true, count := ws.getD 1 0, bound := bits (ws.getD 2 0) 7 0, index := 1 }
      match d.slot e 1 with
      | (.error 254, d) => d.askSlot e 1
      | _ => d

/-- LIST_FETCH. -/
def Dev.fetchList (d : Dev) (e : Eng) : Dev := if d.running e then d.readList e else d

/-- COMMAND_SLOT_UNREADABLE: the slot at the head of the issue order cannot be read (R535). -/
def Dev.slotUnreadable (d : Dev) (e : Eng) : Dev :=
  let x := d.ctx e
  if !d.running e || !x.fetched || x.index = 0 || x.count < x.index then d else
  match d.slot e x.index with
  | (.ok _, _) => d
  | (.error st, d) =>
    if st = stWAIT then d.askSlot e x.index else
    let d := d.record e x.index 0xFF st x.gen
    let d := d.account e 0 st (d.get (K.ATTEMPT (d.engPart e))) 255 false
    let d := d.setCtx e { d.ctx e with index := x.index + 1, popped := none, late := false, gated := false, why := 0, hold := none }
    d.slotRecord e x.index st

/-- Kinds of the update and reduction list context exist for numbers below these. -/
def Eng.ok (e : Eng) : Bool :=
  if e.isCore then 1 ≤ e.k && e.n < 64 else if e.k = 5 then e.n < 20 && e.p < 16 else e.k = 6 && e.n < 8 && e.p < 16

end Sys2Proof.Machine
end

