-- ==== Sys2Proof/Machine/Matrix.lean ====
section
/-! DEFINITION. The matrix array and its commands (R132 to R180), structured sparsity in the array (R181 to R188). -/
namespace Sys2Proof.Machine

/-- The modes of R138: problems, row interval, rows of a problem. -/
def gangProblems (g : Nat) : Nat := match g with | 0 => 1 | 1 => 2 | 2 => 4 | 3 => 8 | _ => 16
/-- The row interval i. -/
def gangInterval (g : Nat) : Nat := match g with | 3 => 2 | 4 => 4 | _ => 1
/-- Rows of cells of a problem. -/
def gangRows (g : Nat) : Nat := match g with | 3 => 64 | 4 => 32 | _ => 128
/-- The phase of problem j (R138). -/
def gangPhase (g j : Nat) : Nat := match g with | 3 => j / 4 | 4 => j / 4 | _ => 0
/-- The width of a problem in columns, or in super-columns for BF16 (R165). -/
def gangWidth (g rate : Nat) : Nat :=
  if rate = 2 then (match g with | 0 => 128 | _ => 64)
  else match g with | 0 => 512 | 1 => 256 | _ => 128

/-- The rate class of an operand pair (R117): 0 single-rate, 1 double-rate MXFP4, 2 BF16. -/
def rateOf (w s : Nat) : Option Nat :=
  if isMx w && isMx s then (if w = 4 && s = 4 then some 1 else some 0)
  else if w = 8 && s = 8 then some 2 else none

/-- Group size and kept values of a pattern (R181). -/
def patGroup (sp : Nat) : Nat := match sp with | 1 => 4 | _ => 8
/-- At most this many kept values in a group. -/
def patKeep (sp : Nat) : Nat := match sp with | 2 => 4 | _ => 2
/-- The K depth factor of a pattern. -/
def patFactor (sp : Nat) : Nat := match sp with | 0 => 1 | 3 => 4 | _ => 2

/-- Positions of K that a problem covers (R133, R165). -/
def kDepth (g rate sp : Nat) : Nat := gangRows g * (if rate = 1 then 2 else 1) * patFactor sp

/-- Pass duration (R140, R142) and chain interval (R136). -/
def passDur (g rate mmax : Nat) : Nat :=
  if rate = 2 then (match g with | 0 => mmax + 255 | _ => mmax + 191)
  else match g with
    | 0 => mmax + 639 | 1 => mmax + 383 | 2 => mmax + 255 | 3 => 2 * mmax + 255 | _ => 4 * mmax + 255
/-- The least distance between the issues of chained passes. -/
def chainGap (g mmax : Nat) : Nat := max (gangInterval g * mmax) 128

/-- The handle base of a descriptor (R170): its offset in bytes, or none where R170 is broken. -/
def handleBase (use : Bool) (space waitQ : Nat) (h : Option Handle) : Option Nat :=
  if !use then some 0
  else match h with
    | some g => if waitQ ≠ 255 && g.space = space && g.offset % 64 = 0 then some g.offset else none
    | none => none

/-- A problem from its three descriptors (R163 to R165, R170). -/
def decodeProb (j wd sd dd waitQ : Nat) (h : Option Handle) : Option Prob :=
  match handleBase (bit wd 58) 0 waitQ h, handleBase (bit sd 58) 1 waitQ h, handleBase (bit dd 30) 2 waitQ h with
  | some wb, some sb, some db =>
    some { j := j, wFmt := bits wd 63 60, wSquare := bit wd 59, sparse := bits wd 57 56,
           wElem := 8 * bits wd 55 40 + wb, wScale := bits wd 39 21 + wb, wMeta := 64 * bits wd 20 8 + wb,
           wPitch := bits wd 7 0, sFmt := bits sd 63 60, sSquare := bit sd 59,
           sElem := 8 * bits sd 55 40 + sb, sScale := bits sd 39 22 + sb, sPitch := 8 * bits sd 21 10,
           k := bits sd 9 0 + 1, dest := bits dd 63 47 + db / 4, dPitch := bits dd 46 31,
           m := bits dd 29 16 + 1, n := bits dd 8 0 + 1 }
  | _, _, _ => none

/-- Blocks of 32 positions that K_valid covers, and the row pitch in blocks (R166, R184). -/
def Prob.kb (q : Prob) : Nat := ceilDiv q.k 32
/-- The row pitch NB in 32-position blocks. -/
def Prob.nb (q : Prob) : Nat := if q.wPitch = 0 then q.kb else q.wPitch
/-- Packed blocks per row of a sparse stream (R184). -/
def Prob.pb (q : Prob) : Nat := ceilDiv q.nb (patFactor q.sparse)

/-- A span of scratchpad bytes: start and length. -/
abbrev Span := Nat × Nat

/-- The weight stream's spans in WM (R166, R167, R184). -/
def Prob.wSpans (q : Prob) (tfeed : Bool) : List Span :=
  let e := e32 q.wFmt
  if q.sparse ≠ 0 then
    (List.range q.m).flatMap (fun r =>
      [(q.wElem + q.pb * e * r, q.pb * e), (q.wMeta + 4 * q.nb * r, 4 * q.nb), (q.wScale + q.pb * r, q.pb)])
  else if tfeed then
    let blocks := ceilDiv q.k 128 * ceilDiv q.m 128
    (q.wElem, blocks * 512 * e) :: (if q.wFmt = 8 then [] else [(q.wScale, 16 * blocks)])
  else
    (List.range q.m).map (fun r => (q.wElem + r * q.nb * e, q.kb * e)) ++
    (if q.wFmt = 8 then []
     else if q.wSquare then (List.range (ceilDiv q.m 32)).map (fun r => (q.wScale + r * q.nb, q.kb))
     else (List.range q.m).map (fun r => (q.wScale + r * q.nb, q.kb)))

/-- Bytes of one stationary row. -/
def Prob.sRowBytes (q : Prob) : Nat := ceilDiv (q.n * elemBits q.sFmt) 8

/-- The stationary tile's spans in AM (R168). -/
def Prob.sSpans (q : Prob) : List Span :=
  let rows := if q.sFmt = 8 then q.k else q.kb * 32
  (List.range rows).map (fun r => (q.sElem + q.sPitch * r, q.sRowBytes)) ++
  (if q.sFmt = 8 then []
   else if q.sSquare then [(q.sScale, q.kb * ceilDiv q.n 32)] else [(q.sScale, q.kb * q.n)])

/-- The destination's rows of entries: first entry, row count, row length (R169). -/
def Prob.dRows (q : Prob) (td : Bool) : Nat × Nat := if td then (q.n, q.m) else (q.m, q.n)

/-- The entry of an output (R169). -/
def Prob.entry (q : Prob) (td : Bool) (m n : Nat) : Nat :=
  if td then q.dest + n * q.dPitch + m else q.dest + m * q.dPitch + n

/-- The last entry of the destination. -/
def Prob.lastEntry (q : Prob) (td : Bool) : Nat :=
  let (r, l) := q.dRows td
  q.dest + (r - 1) * q.dPitch + l - 1

/-- Two destinations share an entry: some row of the second meets some row of the first. -/
def overlapDest (td : Bool) (a b : Prob) : Bool :=
  let (ra, la) := a.dRows td
  let (rb, lb) := b.dRows td
  (List.range ra).any (fun r =>
    let s := a.dest + r * a.dPitch
    let r0 := if s + 1 ≤ lb + b.dest then 0 else ceilDiv (s + 1 - lb - b.dest) (max 1 b.dPitch)
    r0 < rb && b.dest + r0 * b.dPitch < s + la)

/-- Some pair of a list meets a test. -/
def anyPair {α : Type} (f : α → α → Bool) (l : List α) : Bool :=
  match l with
  | [] => false
  | x :: r => r.any (f x) || anyPair f r

/-- A span lies within a scratchpad. -/
def spanIn (size : Nat) (s : Span) : Bool := s.1 + s.2 ≤ size

/-- The SPARSE value of a pass's first problem. -/
def sparseOf (ps : List Prob) : Nat := match ps with | q :: _ => q.sparse | [] => 0

/-- The checks of R143 and R176 on one problem. -/
def Prob.valid (q : Prob) (g rate : Nat) (tfeed td : Bool) : Bool :=
  (rateOf q.wFmt q.sFmt == some rate) &&
  (!(rate == 2) || (g ≤ 1 && !q.wSquare && !q.sSquare && q.sparse == 0)) &&
  (q.sparse == 0 || (!tfeed && !q.wSquare)) &&
  (!tfeed || q.wFmt == 8 || q.wSquare) &&
  q.k ≤ kDepth g rate q.sparse && q.n ≤ gangWidth g rate &&
  (if td then q.m else q.n) ≤ q.dPitch &&
  (tfeed || q.wPitch == 0 || q.kb ≤ q.wPitch) && q.sRowBytes ≤ q.sPitch &&
  (q.wSpans tfeed).all (spanIn (spSize 0)) && q.sSpans.all (spanIn (spSize 1)) && q.lastEntry td ≤ 131071

/-- The checks on a whole pass: one rate class, one SPARSE value, positions rising and in range, no shared entry
(R171, R172, R176). -/
def passValid (g rate : Nat) (tfeed td : Bool) (ps : List Prob) : Bool :=
  !ps.isEmpty && ps.all (fun q => q.valid g rate tfeed td && q.j < gangProblems g) &&
  ps.all (fun q => q.sparse == sparseOf ps) &&
  (ps.zip ps.tail).all (fun e => e.1.j < e.2.j) &&
  !anyPair (overlapDest td) ps

/-- Granules that spans of a memory touch, as memory times 256 plus granule. -/
def spanGrans (mem : Nat) (ss : List Span) : List Nat :=
  ((ss.filter (fun s => 0 < s.2)).flatMap (fun s =>
    (List.range ((s.1 + s.2 - 1) / 2048 - s.1 / 2048 + 1)).map (fun i => mem * 256 + s.1 / 2048 + i))).eraseDups

/-- WM and AM granules that a pass reads (R143, R145). -/
def readGrans (tfeed : Bool) (ps : List Prob) : List Nat :=
  (ps.flatMap (fun q => spanGrans 0 (q.wSpans tfeed) ++ spanGrans 1 q.sSpans)).eraseDups

/-- PM granules that hold destination entries of a pass (R145). -/
def destGrans (td : Bool) (ps : List Prob) : List Nat :=
  (ps.flatMap (fun q => let (r, l) := q.dRows td
    spanGrans 2 ((List.range r).map (fun i => (4 * (q.dest + i * q.dPitch), 4 * l))))).eraseDups

/-- The granules that the passes in flight reserve (R145). -/
def Core.reserved (k : Core) : List Nat :=
  k.passes.flatMap (fun p => readGrans p.tfeed p.probs ++ destGrans p.tdrain p.probs)

/-- A write of another engine into a granule is held (R145). -/
def Core.heldWrite (k : Core) (mem off : Nat) : Bool := k.reserved.contains (mem * 256 + off / 2048)

/-- A read of another engine is held: PM granules only (R145). -/
def Core.heldRead (k : Core) (mem off : Nat) : Bool :=
  mem = 2 && (k.passes.flatMap (fun p => destGrans p.tdrain p.probs)).contains (mem * 256 + off / 2048)

/-! ## What one output is -/

/-- `n` bits of a scratchpad from bit position `b`. -/
def Core.bitsAt (k : Core) (mem b n : Nat) : Nat :=
  let o := b / 8
  (ofLE ((List.range ((b % 8 + n + 7) / 8)).map (fun i => (k.byte mem (o + i)).toNat)) >>> (b % 8)) % 2 ^ n

/-- The first bit of weight element (row m, position or packed index p) in WM (R166, R167, R184). -/
def Prob.wBit (q : Prob) (tfeed : Bool) (m p : Nat) : Nat :=
  let e := e32 q.wFmt
  if q.sparse ≠ 0 then 8 * (q.wElem + q.pb * e * m) + p * elemBits q.wFmt
  else if tfeed then
    8 * (q.wElem + (m / 128 * ceilDiv q.k 128 + p / 128) * 512 * e) + (128 * (p % 128) + m % 128) * elemBits q.wFmt
  else 8 * (q.wElem + m * q.nb * e) + p * elemBits q.wFmt

/-- The byte of weight element (m, p)'s block scale. -/
def Prob.wScaleAt (q : Prob) (tfeed : Bool) (m p : Nat) : Nat :=
  if q.sparse ≠ 0 then q.wScale + q.pb * m + p / 32
  else if tfeed then
    q.wScale + (m / 128 * ceilDiv q.k 128 + p / 128) * 16 + 4 * (p % 128 / 32) + m % 128 / 32
  else if q.wSquare then q.wScale + m / 32 * q.nb + p / 32
  else q.wScale + m * q.nb + p / 32

/-- The first bit of stationary element (position p, column n) in AM (R168). -/
def Prob.sBit (q : Prob) (p n : Nat) : Nat := 8 * (q.sElem + q.sPitch * p) + n * elemBits q.sFmt

/-- The byte of stationary element (p, n)'s block scale. -/
def Prob.sScaleAt (q : Prob) (p n : Nat) : Nat :=
  if q.sSquare then q.sScale + p / 32 * ceilDiv q.n 32 + n / 32 else q.sScale + p / 32 * q.n + n

/-- Some 64-bit word of the element bits from `b` on is unreadable. -/
def Core.badBits (k : Core) (mem b n : Nat) : Bool := k.bad mem (b / 8) || k.bad mem ((b + n - 1) / 8)

/-- The logical position of packed value p of weight row m: the slot's set bit in its group's bitmap (R184 to R186). -/
def Core.sparsePos (k : Core) (q : Prob) (m p : Nat) : Option Nat :=
  let g := patGroup q.sparse
  let n := patKeep q.sparse
  let grp := p / n
  let bm := k.bitsAt 0 (8 * (q.wMeta + 4 * q.nb * m) + g * grp) g
  if g * grp + g ≤ 32 * q.nb then ((setBits g bm)[p % n]?).map (g * grp + ·) else none

/-- The bitmap word of packed value p's group cannot be read (R154). -/
def Core.bitmapBad (k : Core) (q : Prob) (m p : Nat) : Bool :=
  k.bad 0 (q.wMeta + 4 * q.nb * m + patGroup q.sparse * (p / patKeep q.sparse) / 32 * 4)

/-- The position at which packed value p of row m takes part, if it does (R151, R185); under an unreadable bitmap every slot
of the block takes part, as NaN (R154, log entry 95). -/
def Core.sparseTakes (k : Core) (q : Prob) (m p : Nat) : Option Nat :=
  let base := patGroup q.sparse * (p / patKeep q.sparse)
  if !k.sound && k.bitmapBad q m p then (if base < q.k && base + patGroup q.sparse ≤ 32 * q.nb then some base else none)
  else match k.sparsePos q m p with
    | some x => if x < q.k then some x else none
    | none => none

/-- The block of weight element (m, p) takes scale 0xFF because some word with one of its participating elements, its
scale's word or a word of its bitmap is unreadable (R154). -/
def Core.wBlockBad (k : Core) (q : Prob) (tfeed : Bool) (m p : Nat) : Bool :=
  if k.sound then false else
  k.bad 0 (q.wScaleAt tfeed m p) ||
  (let rows := if q.wSquare then (List.range 32).map (fun i => m / 32 * 32 + i) else [m]
   rows.any (fun r => r < q.m && (List.range 32).any (fun i =>
     let x := p / 32 * 32 + i
     (if q.sparse ≠ 0 then (k.sparseTakes q r x).isSome else x < q.k) && k.badBits 0 (q.wBit tfeed r x) (elemBits q.wFmt)))) ||
  (q.sparse ≠ 0 && (List.range 32).any (fun i =>
     let x := p / 32 * 32 + i
     patGroup q.sparse * (x / patKeep q.sparse) < q.k && k.bitmapBad q m x))

/-- The positions of K at which some element takes part (R151, R185): all below K_valid, or those that a weight row keeps. -/
def Core.takenPos (k : Core) (q : Prob) : List Nat :=
  if q.sparse = 0 then List.range q.k
  else ((List.range q.m).flatMap (fun m => (List.range (32 * q.pb)).filterMap (k.sparseTakes q m))).eraseDups

/-- The same for a stationary block. -/
def Core.sBlockBad (k : Core) (q : Prob) (p n : Nat) : Bool :=
  if k.sound then false else
  k.bad 1 (q.sScaleAt p n) ||
  (let cols := if q.sSquare then (List.range 32).map (fun i => n / 32 * 32 + i) else [n]
   let rows := (k.takenPos q).filter (fun x => x / 32 == p / 32)
   cols.any (fun c => c < q.n && rows.any (fun x => k.badBits 1 (q.sBit x c) (elemBits q.sFmt))))

/-- The value of weight element (m, p) with its scale (R113, R118, R154). -/
def Core.wVal (k : Core) (q : Prob) (tfeed : Bool) (m p : Nat) : Fv :=
  let b := q.wBit tfeed m p
  let v := elemVal q.wFmt (k.bitsAt 0 b (elemBits q.wFmt))
  if q.wFmt = 8 then (if k.badBits 0 b 16 then .nan else v)
  else if k.wBlockBad q tfeed m p then .nan
  else v.mul (scaleVal (k.byte 0 (q.wScaleAt tfeed m p)).toNat)

/-- The value of stationary element (p, n) with its scale. -/
def Core.sVal (k : Core) (q : Prob) (p n : Nat) : Fv :=
  let b := q.sBit p n
  let v := elemVal q.sFmt (k.bitsAt 1 b (elemBits q.sFmt))
  if q.sFmt = 8 then (if k.badBits 1 b 16 then .nan else v)
  else if k.sBlockBad q p n then .nan
  else v.mul (scaleVal (k.byte 1 (q.sScaleAt p n)).toNat)

/-- The participating (packed or logical, logical) positions of a band for a weight row (R151, R185). -/
def Core.bandPos (k : Core) (q : Prob) (rate m band : Nat) : List (Nat × Nat) :=
  let v := if rate = 1 then 2 else 1
  (List.range (32 * v)).filterMap (fun i =>
    let p := 32 * v * band + i
    if q.sparse = 0 then (if p < q.k then some (p, p) else none)
    else (k.sparseTakes q m p).map (fun x => (p, x)))

/-- The band value (R118, R120, R188): the exact sum of the participating products; an exact zero is +0. -/
def Core.bandVal (k : Core) (q : Prob) (tfeed : Bool) (m n : Nat) (ps : List (Nat × Nat)) : Fv :=
  match ps.foldl (fun a p => a.add ((k.wVal q tfeed m p.1).mul (k.sVal q p.2 n))) Fv.zero with
  | .num s x e => if x = 0 then Fv.zero else .num s x e
  | v => v

/-- Output (m, n) of a problem before the drain (R150): one rounding for each band that takes part. -/
def Core.outVal (k : Core) (q : Prob) (gang rate : Nat) (tfeed : Bool) (m n : Nat) : Nat :=
  (List.range (gangRows gang / 32)).foldl (fun p b =>
    match k.bandPos q rate m b with
    | [] => p
    | ps => toF32 ((f32 p).add (k.bandVal q tfeed m n ps))) 0

/-- A word that a pass met in error: its key, the pass's index and opcode, and whether the read corrected it (R154, R238). -/
structure Met where
  key : Nat
  index : Nat
  op : Nat
  fixed : Bool
deriving DecidableEq, Repr

/-- One drain write (R139, R150, R154): the core, and the PM word that could not be read or was corrected. -/
def Core.drainOne (k : Core) (p : Pass) (q : Prob) (m n : Nat) : Core × List Met :=
  let v := k.outVal q p.gang p.rate p.tfeed m n
  let x := q.entry p.tdrain m n
  let o := 4 * x
  let key := spKey 2 o / 8
  let fixed := p.acc && k.fixes key
  let v := if p.acc then (if k.bad 2 o then nanOf 23 else f32Add (k.word32 2 o) v) else v
  let (k, ws) := k.write 2 ((List.range 4).map (fun i => (o + i, BitVec.ofNat 8 (v / 256 ^ i))))
  (k, if fixed then [{ key := key, index := p.fl.index, op := p.fl.op, fixed := true }]
      else ws.map (fun _ => { key := key, index := p.fl.index, op := p.fl.op, fixed := false }))

/-- The drain writes of a pass at one offset from its issue cycle (R139). -/
def Core.drainAt (k : Core) (p : Pass) (off : Nat) : Core × List Met :=
  p.probs.foldl (fun a q =>
    let lo := gangPhase p.gang q.j + 128
    (List.range q.m).foldl (fun (a : Core × List Met) m =>
      let base := lo + gangInterval p.gang * m
      if base ≤ off && off < base + q.n then
        let (k, ws) := a.1.drainOne p q m (off - base)
        (k, a.2 ++ ws)
      else a) a) (k, [])

/-- Drain writes of every pass in flight in cycle order, from cycle `t` for `n` cycles (R152). -/
def Core.drainCycles (k : Core) (t n : Nat) : Core × List Met :=
  (List.range n).foldl (fun (a : Core × List Met) i =>
    a.1.passes.foldl (fun (a : Core × List Met) p =>
      if p.fl.start + p.done ≤ t + i then
        let (k, ws) := a.1.drainAt p (t + i - p.fl.start)
        if ws.all Met.fixed then (k, a.2 ++ ws)
        else ({ k with passes := k.passes.map (fun x => if x.fl.index = p.fl.index then
                 { x with fl := { x.fl with status := stWorst x.fl.status stECC } } else x) }, a.2 ++ ws)
      else a) a) (k, [])

/-- The first cycle whose drain writes may still be to make. -/
def Core.drainFrom (k : Core) : Nat := (k.passes.map (fun p => p.fl.start + p.done)).foldl min (2 ^ 200)

/-- Makes every drain write due before cycle `t` and marks how far each pass has drained. -/
def Core.drainTo (k : Core) (t : Nat) : Core × List Met :=
  let f := min k.drainFrom t
  let (k, ws) := k.drainCycles f (t - f)
  ({ k with passes := k.passes.map (fun p => { p with done := max p.done (t - p.fl.start) }) }, ws)

/-- Keys of the words that some spans of a memory touch. -/
def spanWords (mem : Nat) (ss : List Span) : List Nat :=
  (ss.filter (fun s => 0 < s.2)).flatMap (fun s =>
    (List.range ((s.1 + s.2 - 1) / 8 - s.1 / 8 + 1)).map (fun i => mem * 0x20000 + s.1 / 8 + i))

/-- The words that hold `n` bits from bit `b` on, as a span. -/
def bitSpan (b n : Nat) : Span := (b / 8, (b + n - 1) / 8 - b / 8 + 1)

/-- WM and AM words with a participating element, scale or bitmap that a pass reads in its first `off` cycles and that are in
error (R139, R154, R238): a weight row once its feed has begun, a stationary row once it enters its cell (log entry 109). -/
def Core.passMet (k : Core) (p : Pass) (off : Nat) : List Met :=
  if k.sound then [] else
  let keys := (p.probs.flatMap (fun q =>
    let wRows := ((List.range q.m).filter (fun m => gangInterval p.gang * m + gangPhase p.gang q.j < off)).flatMap (fun m =>
      if q.sparse ≠ 0 then
        (q.wMeta + 4 * q.nb * m, 4 * q.kb) :: ((List.range (32 * q.pb)).filter (fun x => (k.sparseTakes q m x).isSome)).flatMap
          (fun x => [bitSpan (q.wBit false m x) (elemBits q.wFmt), (q.wScaleAt false m x, 1)])
      else (List.range q.k).map (fun x => bitSpan (q.wBit p.tfeed m x) (elemBits q.wFmt)) ++
        (if q.wFmt = 8 then [] else (List.range q.k).map (fun x => (q.wScaleAt p.tfeed m x, 1))))
    let sRows := ((k.takenPos q).filter (fun x => x / ((if p.rate = 1 then 2 else 1) * patFactor q.sparse) < off)).flatMap (fun x =>
      bitSpan (q.sBit x 0) (q.n * elemBits q.sFmt) ::
      (if q.sFmt = 8 then [] else (List.range q.n).map (fun n => (q.sScaleAt x n, 1))))
    spanWords 0 wRows ++ spanWords 1 sRows)).eraseDups
  (keys.filter (fun x => k.badWord x || k.fixes x)).map (fun x =>
    { key := x, index := p.fl.index, op := p.fl.op, fixed := !k.badWord x })

/-- A pass's records of the words that it could not read, one for each, and its corrections (R154, R238, R239). -/
def Dev.metRecords (d : Dev) (c : Nat) (ws : List Met) : Dev :=
  ws.eraseDups.foldl (fun d w =>
    if w.fixed then d.spCorrected c (w.key / 0x20000) (w.key % 0x20000)
    else d.spRecord c (w.key / 0x20000) 2 (w.key % 0x20000) 0 w.index w.op) d

/-! ## Issue -/

/-- The array can accept a pass now (R136, R137, R143): at most six in flight, chaining and its interval, or an empty
array. -/
def Core.accepts (k : Core) (drain : Bool) (g rate sparse cyc : Nat) : Bool :=
  match k.passes.getLast? with
  | none => true
  | some p =>
    !drain && p.gang == g && p.rate == rate && sparseOf p.probs == sparse &&
    k.passes.length < 6 && p.fl.start + chainGap g p.mmax ≤ cyc

/-- The pass may never chain on the one in flight (R137). -/
def Core.mustDrain (k : Core) (drain : Bool) (g rate sparse : Nat) : Bool :=
  match k.passes.getLast? with
  | none => false
  | some p => drain || p.gang != g || p.rate != rate ||
      sparseOf p.probs != sparse

/-- The first cycle in which the array takes a further pass (R136). -/
def Core.nextStart (k : Core) (g : Nat) : Nat :=
  match k.passes.getLast? with
  | none => 0
  | some p => p.fl.start + chainGap g p.mmax

/-- A pass is in flight while a vector command is (R236). -/
def Core.overlapped (k : Core) : Core := { k with vx := k.vx.map (fun (j : VxJob) => { j with overlap := true }) }

/-- Issues a valid pass once conditions 2 to 5 of R143 hold, or leaves it waiting. -/
def Dev.issuePass (d : Dev) (c : Nat) (cmd : Cmd) (slots : Nat) (g rate : Nat) (ps : List Prob) : Dev :=
  let e := eng 1 c
  let k := d.core c
  let w0 := cmd.w 0
  let drain := bit w0 15
  let sparse := sparseOf ps
  let mmax := (ps.map Prob.m).foldl max 0
  let cyc := d.cyclesEnd (quadOf c)
  if !(readGrans (bit w0 13) ps).all (fun x => Map.get k.resident false x) then d
  else if !k.accepts drain g rate sparse cyc then
    if k.mustDrain drain g rate sparse && k.mxWait ≠ cmd.index then
      (d.setCore c { k with mxWait := cmd.index }).cnt (K.MXA_DRAINS c) 1
    else d
  else if bit (d.get K.GATE) c then d
  else
    let dest := match ps with | q :: _ => 4 * q.dest | [] => 0
    let fl := d.inflight e cmd stOK 2 dest (passDur g rate mmax)
    let fl := { fl with start := max fl.start (k.nextStart g) }
    let p : Pass := { fl := fl, gang := g, rate := rate, acc := bit w0 14, tfeed := bit w0 13, tdrain := bit w0 12, drain := drain,
                      mmax := mmax, dur := passDur g rate mmax, done := 0, probs := ps }
    let chained := !k.passes.isEmpty
    let d := d.setCore c { k.overlapped with passes := k.passes ++ [p], mxWait := 0, mxStop := false }
    let d := if chained then d.cnt (K.MXA_CHAINED c) 1 else d
    d.advance e slots

/-- A pass abandoned at a switch comes to its reissue after its lateness point: only a latency-critical partition's is late for
it, with its record (R71, R157). -/
def Dev.rerunLate (d : Dev) (c : Nat) (p : Pass) : Bool × Dev :=
  let e := eng 1 c
  let q := d.engPart e
  if q < 16 && d.get (K.PART_CLASS q) = 0 && d.release e p.fl.tick + (d.sched q).slack < d.now && !p.fl.late then
    (true, d.lateRecord e p.fl.index p.fl.op p.fl.tick (d.stallCause e))
  else (p.fl.late, d)

/-- Reissues the oldest pass abandoned at a switch, where its opcode is `op` (R156, R159): its drain writes below the watermark
stay suppressed. -/
def Dev.mxReissue (d : Dev) (c op : Nat) : Dev :=
  let k := d.core c
  match k.reruns with
  | [] => d
  | p :: r =>
    let cyc := max (d.issueCycle (eng 1 c) none) (k.nextStart p.gang)
    if !d.running (eng 1 c) || p.fl.op ≠ op || bit (d.get K.GATE) c ||
       !(readGrans p.tfeed p.probs).all (fun x => Map.get k.resident false x) ||
       !k.accepts p.drain p.gang p.rate (sparseOf p.probs) (d.cyclesEnd (quadOf c)) || d.cyclesEnd (quadOf c) ≤ cyc then d
    else
      let (late, d) := d.rerunLate c p
      let p := { p with fl := { p.fl with start := cyc, late := late } }
      let d := (d.setCore c { k.overlapped with passes := k.passes ++ [p], reruns := r }).cnt (K.MXA_RERUNS c) 1
      let d := if k.passes.isEmpty then d else d.cnt (K.MXA_CHAINED c) 1
      d.setCtx (eng 1 c) { d.ctx (eng 1 c) with nxt := cyc + 1 }

/-- MX_PASS (R160 to R176). -/
def Dev.mxPass (d : Dev) (c : Nat) : Dev :=
  if !(d.core c).reruns.isEmpty then d.mxReissue c 0x10 else
  d.issue (eng 1 c) (· == 0x10) (fun d cmd n =>
    match decodeProb 0 (cmd.pair 2) (cmd.pair 4) (cmd.pair 6) cmd.waitQ cmd.handle with
    | none => d.reject (eng 1 c) cmd n stRANGE
    | some q =>
      match rateOf q.wFmt q.sFmt with
      | none => d.reject (eng 1 c) cmd n stRANGE
      | some rate =>
        if bits (cmd.w 0) 10 8 = 0 && passValid 0 rate (cmd.flag 13) (cmd.flag 12) [q]
        then d.issuePass c cmd n 0 rate [q] else d.reject (eng 1 c) cmd n stRANGE)

/-- MX_GANG (R171, R172). -/
def Dev.mxGang (d : Dev) (c : Nat) : Dev :=
  if !(d.core c).reruns.isEmpty then d.mxReissue c 0x11 else
  d.issue (eng 1 c) (· == 0x11) (fun d cmd n =>
    match d.exts (eng 1 c) cmd n with
    | (.error st, d) => if st = stWAIT then d else d.reject (eng 1 c) cmd n st
    | (.ok es, d) =>
      let g := bits (cmd.w 0) 10 8
      let qs := es.filterMap (fun ws =>
        let x : Cmd := { index := 0, words := ws, handle := none }
        decodeProb (bits (x.w 0) 11 8) (x.pair 2) (x.pair 4) (x.pair 6) cmd.waitQ cmd.handle)
      match qs with
      | [] => d.reject (eng 1 c) cmd n stRANGE
      | q :: _ =>
        match rateOf q.wFmt q.sFmt with
        | none => d.reject (eng 1 c) cmd n stRANGE
        | some rate =>
          if g ≤ 4 && qs.length = es.length && qs.length ≤ gangProblems g &&
             passValid g rate (cmd.flag 13) (cmd.flag 12) qs
          then d.issuePass c cmd n g rate qs else d.reject (eng 1 c) cmd n stRANGE)

/-- MX_QUIESCE (R175): issues, and completes once no pass is in flight. -/
def Dev.mxQuiesce (d : Dev) (c : Nat) : Dev :=
  d.issue (eng 1 c) (· == 1) (fun d cmd n =>
    let k := d.core c
    if k.passes.isEmpty then (d.setCore c { k with mxQuiet := 0 }).instant (eng 1 c) cmd n (token 0)
    else d.setCore c { k with mxQuiet := cmd.index })

/-- An extension slot met as a command completes with RANGE under its own index (R173, R248). -/
def Dev.extSlot (d : Dev) (e : Eng) : Dev := d.issue e (· == 0x12) (fun d _ _ => d)

/-- PASS_COMPLETE (R135, R139, R152, R154, R177): the oldest pass has reached its last cycle; its drain writes, and those
of the passes behind it up to the same cycle, are made; record and handle follow. -/
def Dev.passComplete (d : Dev) (c : Nat) : Dev :=
  let k := d.core c
  match k.passes with
  | [] => d
  | p :: _ =>
    if d.cyclesEnd (quadOf c) < p.fl.start + p.dur then d else
    let d := d.ended (eng 1 c) p.fl.start (p.fl.start + p.dur)
    let k := d.core c
    let (k, ws) := k.drainTo (p.fl.start + p.dur)
    let ms := k.passMet p p.dur
    let p' := k.passes.headD p
    let st := if ms.all Met.fixed then p'.fl.status else stWorst p'.fl.status stECC
    let d := (d.setCore c { k with passes := k.passes.tail }).metRecords c (ms ++ ws)
    let d := d.cnt (K.MXA_PASSES c) 1
    d.finish (eng 1 c) { p'.fl with status := st } { status := 0, space := 2, offset := p.fl.offset }

/-- Stops every pass in flight at the end of the present cycle, completing each with a status (R148, R155); `all` takes the passes
that wait for their reissue too. -/
def Dev.stopPasses (d : Dev) (c st : Nat) (push all : Bool) : Dev :=
  let t := d.cycles (quadOf c) + 1
  let (k, ws) := (d.core c).drainTo t
  let ms := k.passes.flatMap (fun p => k.passMet p (t - p.fl.start))
  let gone := k.passes ++ (if all then k.reruns else [])
  let d := (d.setCore c { k with passes := [], reruns := if all then [] else k.reruns, mxQuiet := 0 }).metRecords c (ms ++ ws)
  gone.foldl (fun d p =>
    (d.cnt (K.MXA_PASSES c) 1).finish (eng 1 c) { p.fl with status := st, sig := if push then p.fl.sig else 255 }
      { status := 0, space := 2, offset := p.fl.offset }) d

/-- MXA_STATE as it reads (R159): `clearing` while a switch clears the array or its core is zeroised. -/
def Core.mxaState (k : Core) (clearing : Bool) : Nat :=
  if clearing then 4 else if k.mxStop then 3 else if k.passes.isEmpty then 0 else if k.mxWait ≠ 0 then 2 else 1

end Sys2Proof.Machine
end

