-- ==== Sys2Proof/Machine/Remote.lean ====
section
/-! DEFINITION. References to other devices (R347, R348), transaction trackers (R287, R288) and line digests (R332). -/
namespace Sys2Proof.Machine

/-- Consecutive addresses in runs that do not cross a 4,096-byte boundary (R347). -/
def splitFar {α : Type} (l : List (Nat × α)) : List (Nat × List α) :=
  match l with
  | [] => []
  | (a, x) :: r =>
    match splitFar r with
    | (b, xs) :: t => if b = a + 1 && b % 4096 ≠ 0 then (a, x :: xs) :: t else (a, [x]) :: (b, xs) :: t
    | [] => [(a, [x])]

/-- Asks other devices for the bytes at some addresses: the message numbers, the status met, the state. -/
def Dev.askFar (d : Dev) (e : Eng) (index attempt : Nat) (as : List Nat) : List Nat × Nat × Dev :=
  (splitFar (as.map (fun a => (a, ())))).foldl (fun (r : List Nat × Nat × Dev) g =>
    match r.2.2.request e index attempt false g.1 g.2.length [] with
    | (some id, d) => (r.1 ++ [id], r.2.1, d)
    | (none, d) => (r.1, stLINK, d)) ([], stOK, d)

/-- Writes bytes to other devices. -/
def Dev.tellFar (d : Dev) (e : Eng) (index attempt : Nat) (bs : List (Nat × Byte)) : List Nat × Nat × Dev :=
  (splitFar bs).foldl (fun (r : List Nat × Nat × Dev) g =>
    match r.2.2.request e index attempt true g.1 g.2.length (g.2.map BitVec.toNat) with
    | (some id, d) => (r.1 ++ [id], r.2.1, d)
    | (none, d) => (r.1, stLINK, d)) ([], stOK, d)

/-! ## Trackers -/

/-- A waiting request's code: the engine's code, its number, the class. -/
def waitCode (e : Eng) : Nat := e.k * 4096 + e.n * 32 + e.p % 32

/-- The command that took some entries is still in flight: an entry is held until the response leaves. -/
def Dev.trkLive (d : Dev) (t : TrkEnt) : Bool :=
  let k := t.code / 4096
  let e : Eng := { k := k, n := t.code / 32 % 128, p := if k ≤ 4 then 255 else t.code % 32 }
  (d.ctx e).busy.any (fun f => f.index == t.index) ||
  (k == 6 && d.chans.any (fun c => match c.2.op with
    | some o => o.eng == e.n && o.part == e.p && o.fl.index == t.index
    | none => false))

/-- The entries of a quadrant held now: those of one class, or of all (R287, R289). -/
def Dev.trkUsed (d : Dev) (q : Nat) (cls : Option Nat) : Nat :=
  ((d.mem.trk.filter (fun t => t.quad == q && cls.all (· == t.cls) && d.trkLive t)).map TrkEnt.n).sum

/-- The entries of a class: a partition's quota, or the 1,024 that are reserved for O, K, X and the device itself (R287). -/
def Dev.trkQuota (d : Dev) (q p : Nat) : Nat := if p < 16 then d.get (K.TRK_QUOTA q p) else 1024

/-- The tracker class of a partition, or the reserved one, is full at a quadrant (R287, R288). -/
def Dev.trkFull (d : Dev) (q p : Nat) : Bool := d.trkQuota q p ≤ d.trkUsed q (some (min p 16))

/-- The quadrants whose HBM a list of places reaches. -/
def homes (ps : List Place) : List Nat :=
  (ps.filterMap (fun p => match p.2 with
    | .hbm x => some (x / chBytes / 80)
    | .acc a _ => some (a / 0x800000)
    | _ => none)).eraseDups

/-- The domains that a list of places must wake before it is served (R442): memory domains below IDLE, cores in IDLE. -/
def Dev.asleep (d : Dev) (ps : List Place) : List Nat :=
  ((homes ps).map (64 + ·)).filter (fun q => 2 ≤ d.get (K.DOM_STATE q)) ++
  (ps.filterMap (fun p => match p.2 with
    | .sp c _ _ => if d.get (K.DOM_STATE c) = 1 then some c else none
    | _ => none)).eraseDups

/-- Some place lies in an accumulation area that is locking, or in a core that is being zeroised: no requester is served there
(R245, R284). -/
def Dev.shut (d : Dev) (ls : List Loc) : Bool :=
  ls.any (fun l => match l with
    | .acc a _ => d.accLocking (a / 0x800000)
    | .sp c _ _ => d.zeroising c
    | _ => false)

/-- The distinct lines that some places have at a quadrant. -/
def linesAt (ps : List Place) (q : Nat) : Nat :=
  ((ps.filterMap (fun p => match p.2 with
    | .hbm x => if x / chBytes / 80 = q then some (x / 128) else none
    | .acc a _ => if a / 0x800000 = q then some (2 ^ 40 + a / 128) else none
    | _ => none)).eraseDups).length

/-- A command that issues takes tracker entries at the quadrants that it refers to (R287): at least one, at most one for each
line and no more than its class has left. How many it has outstanding at once is a free value (log entry 108). -/
def Dev.trkTake (d : Dev) (e : Eng) (index : Nat) (ps : List Place) : Dev :=
  (homes ps).foldl (fun d q =>
    let cls := min (d.engPart e) 16
    let most := min (linesAt ps q) (d.trkQuota q cls - d.trkUsed q (some cls))
    let (n, d) := if most ≤ 1 then (most, d) else let (v, d) := d.draw 16; (1 + v % most, d)
    let t : TrkEnt := { code := waitCode e, index := index, cls := cls, quad := q, n := n }
    let d : Dev := { d with mem := { d.mem with trk := d.mem.trk.filter d.trkLive ++ [t] } }
    let used := ((d.mem.trk.filter (fun t => t.quad == q)).map TrkEnt.n).sum
    if d.get (K.TRK_PEAK q) < used then d.put (K.TRK_PEAK q) used else d) d

/-- A request joins those that wait for a tracker at a quadrant (R288). -/
def Dev.trkJoin (d : Dev) (q code : Nat) : Dev :=
  let l := Map.get d.mem.trkWait [] q
  if l.contains code then d
  else ({ d with mem := { d.mem with trkWait := Map.set d.mem.trkWait [] q (l ++ [code]) } } : Dev).cnt (K.TRK_WAITS q) 1

/-- The class of a waiting request. -/
def Dev.waitClass (d : Dev) (w : Nat) : Nat := if w / 4096 ≤ 4 then d.get (K.CORE_OWNER (w / 32 % 128)) else w % 32

/-- A command's references that wait for a sleeping domain, a tracker entry or a locking accumulation area (R284, R288,
R442): the state with the wait recorded, or none where they may go on. -/
def Dev.memWait (d : Dev) (e : Eng) (ps : List Place) : Option Dev :=
  let zz := d.asleep ps
  if !zz.isEmpty then some ((zz.foldl Dev.wakeDom d).setWhy e 7) else
  let qs := homes ps
  let p := d.engPart e
  let new := (d.ctx e).why != 7
  let full := qs.filter (fun q => d.trkFull q p || (Map.get d.mem.trkWait [] q).any (fun w =>
    w == waitCode e || (new && min (d.waitClass w) 16 == min p 16)))
  match full with
  | [] => if d.shut (ps.map Prod.snd) then some (d.setWhy e 7) else none
  | _ => some (full.foldl (fun d q => d.trkJoin q (waitCode e)) (d.setWhy e 7))

/-- TRACKER_ADMIT: the first waiting request whose class has room goes on (R288). -/
def Dev.trackerAdmit (d : Dev) (q : Nat) : Dev :=
  let l := Map.get d.mem.trkWait [] q
  match l.find? (fun w => !d.trkFull q (d.waitClass w)) with
  | some w => { d with mem := { d.mem with trkWait := Map.set d.mem.trkWait [] q (l.erase w) } }
  | none => d

/-! ## Line digests -/

/-- CRC-64 MSB-first over one byte: eight shifts. -/
def crc64Bits (n poly c : Nat) : Nat :=
  match n with
  | 0 => c
  | k + 1 => crc64Bits k poly (if bit c 63 then xorN (2 * c % 2 ^ 64) poly else 2 * c % 2 ^ 64)

/-- CRC-64 with initial value 0 and no final inversion (R332). -/
def crc64 (poly : Nat) (bs : List Nat) : Nat := bs.foldl (fun c b => crc64Bits 8 poly (xorN c (b * 2 ^ 56))) 0

/-- The digest of one line: index r and its 128 bytes (R332). -/
def lineDigest (r : Nat) (bs : List Nat) : Nat :=
  let m := toLE 8 r ++ bs
  crc64 0x42F0E1EBA9EA3693 m * 2 ^ 64 + crc64 0xAD93D23594C935A9 m

/-- The sum of the digests of the lines that bytes at window addresses touch (R332, R468). -/
def digestOf (base : Nat) (bs : List (Nat × Byte)) : Nat :=
  let lines := (bs.map (fun b => b.1 / 128)).eraseDups
  let m : Map Byte := bs.foldl (fun m b => Map.ins m b.1 b.2) []
  (lines.map (fun ln =>
    lineDigest ((128 * ln + 2 ^ 64 - base % 2 ^ 64) % 2 ^ 64 / 128)
      ((List.range 128).map (fun i => (Map.get m 0 (128 * ln + i)).toNat)))).sum % 2 ^ 128

end Sys2Proof.Machine
end

