-- ==== Sys2Proof/Machine/Special.lean ====
section
/-! DEFINITION. The special functions of the vector engine (R122, R123, R213, R214): the two ends of what the error bound allows, and
between them one unknown function that never decreases (log entry 7). -/
namespace Sys2Proof.Machine

/-! ## Exact values to 240 bits below the binary point

A fixed-point number is a natural number over 2^240. The bound of R213 is a comparison of the exact result with multiples of
2^-149; the error here lies far below what could turn one. -/

/-- Bits below the binary point. -/
def fxBits : Nat := 240

/-- 1. -/
def fxOne : Nat := 2 ^ fxBits

/-- A product. -/
def fxMul (a b : Nat) : Nat := (a * b) >>> fxBits

/-- The sum of t^i / (a(1) a(2) ... a(i)) over `n` further terms, `t` being the present term: the shape of every series here. -/
def series (n i : Nat) (step : Nat → Nat → Nat) (t acc : Nat) : Nat :=
  match n with
  | 0 => acc
  | k + 1 => series k (i + 1) step (step i t) (acc + t)

/-- exp of a fixed-point number below 1. -/
def fxExp (r : Nat) : Nat := series 80 1 (fun i t => fxMul t r / i) fxOne 0

/-- artanh of a fixed-point number below 1/2: the odd powers over their exponents. -/
def fxArtanh (n : Nat) (u : Nat) : Nat :=
  let u2 := fxMul u u
  ((List.range n).foldl (fun (a : Nat × Nat) i => (a.1 + a.2 / (2 * i + 1), fxMul a.2 u2)) (0, u)).1

/-- ln 2 = 2 artanh(1/3). -/
def fxLn2 : Nat := 2 * fxArtanh 90 (fxOne / 3)

/-- arctan of 1/q: alternating odd powers over their exponents. -/
def fxArctan (n q : Nat) : Nat :=
  let r := (List.range n).foldl (fun (a : Nat × Nat × Nat) i =>
    let v := a.2.2 / (2 * i + 1)
    (if i % 2 = 0 then a.1 + v else a.1, if i % 2 = 0 then a.2.1 else a.2.1 + v, a.2.2 / (q * q))) (0, 0, fxOne / q)
  r.1 - r.2.1

/-- pi = 16 arctan(1/5) - 4 arctan(1/239). -/
def fxPi : Nat := 16 * fxArctan 70 5 - 4 * fxArctan 40 239

/-- 2 over the square root of pi. -/
def fxTwoOverSqrtPi : Nat := sqrtGo 250 (4 * fxOne * fxOne * fxOne / fxPi) 0

/-- m 2^e as fixed point, rounded down. -/
def fxOf (m : Nat) (e : Int) : Nat := toGrid .rtz m e (-(fxBits : Int))

/-- A positive result: n 2^e. -/
abbrev Pos := Nat × Int

/-- exp of the magnitude a = m 2^e, or of its negative. -/
def expVal (neg : Bool) (m : Nat) (e : Int) : Pos :=
  let a := fxOf m e
  let k := a / fxLn2
  let r := a % fxLn2
  if !neg then (fxExp r, (k : Int) - fxBits) else (fxExp (fxLn2 - r), -(k : Int) - 1 - fxBits)

/-- ln of m 2^e, as sign and magnitude. -/
def logVal (m : Nat) (e : Int) : Bool × Pos :=
  let t := Nat.log2 m
  let x := (m <<< fxBits) >>> t
  let f := 2 * fxArtanh 90 (((x - fxOne) <<< fxBits) / (x + fxOne))
  let k : Int := t + e
  let v : Int := (f : Int) + k * (fxLn2 : Int)
  (decide (v < 0), v.natAbs, -(fxBits : Int))

/-- 1 over the square root of m 2^e. -/
def rsqrtVal (m : Nat) (e : Int) : Pos :=
  let odd := e % 2 = 1
  let x := if odd then 2 * m else m
  let g := if odd then e - 1 else e
  (sqrtGo 300 (2 ^ 560 / x) 0, -280 - g / 2)

/-- tanh of the magnitude m 2^e below 16. -/
def tanhVal (m : Nat) (e : Int) : Pos :=
  let (n, g) := expVal false (2 * m) e
  let x := toGrid .rtz n g (-(fxBits : Int))
  (((x - fxOne) <<< fxBits) / (x + fxOne), -(fxBits : Int))

/-- erf of the magnitude m 2^e below 4: m 2^e times the even series of 2/sqrt(pi) (-1)^i x^(2i) / (i! (2i + 1)). -/
def erfVal (m : Nat) (e : Int) : Pos :=
  let x := fxOf m e
  let x2 := fxMul x x
  let r := (List.range 160).foldl (fun (a : Nat × Nat × Nat) i =>
    let v := a.2.2 / (2 * i + 1)
    (if i % 2 = 0 then a.1 + v else a.1, if i % 2 = 0 then a.2.1 else a.2.1 + v, fxMul a.2.2 x2 / (i + 1))) (0, 0, fxTwoOverSqrtPi)
  (m * (r.1 - r.2.1), e - fxBits)

/-! ## The values within the bound -/

/-- The FP32 bits of the greatest value at or below n 2^e, within the finite ones. -/
def gridDown (n : Nat) (e : Int) : Nat := packMag .rtz 23 n e

/-- n 2^e is an FP32 value. -/
def onGrid (n : Nat) (e : Int) : Bool :=
  match (f32 (gridDown n e)).add (.num true n e) with
  | .num _ m _ => m == 0
  | _ => false

/-- The FP32 bits of the least value at or above n 2^e, within the finite ones. -/
def gridUp (n : Nat) (e : Int) : Nat := if onGrid n e then gridDown n e else min (gridDown n e + 1) 0x7F7FFFFF

/-- The magnitudes within `u` ulp of an exact result, as the bits of the least and the greatest (R213). -/
def ulpBand (u : Nat) (v : Pos) : Nat × Nat :=
  let q : Int := max ((Nat.log2 v.1 : Int) + v.2) (-126) - 23
  let n := v.1 <<< (v.2 - min v.2 q).toNat
  let e := min v.2 q
  let d := u <<< (q - e).toNat
  (gridUp (n - d) e, gridDown (n + d) e)

/-! ## One monotone function between them (R214) -/

/-- FP32 bits of a finite value as a number that rises with the value. -/
def ordKey (x : Nat) : Nat := if x < 2 ^ 31 then 2 ^ 31 + x else 2 ^ 31 - (x - 2 ^ 31)

/-- ... and back. -/
def ordBits (k : Nat) : Nat := if 2 ^ 31 ≤ k then k - 2 ^ 31 else 2 ^ 31 + (2 ^ 31 - k)

/-- The value that function `op` gives at an input of order key `x` among those of order keys `lo` to `hi`: the greatest that its
unknown threshold lies at or below `x`, or the least. As `lo` and `hi` never fall while `x` rises, neither does the value. -/
def pick (op lo hi x : Nat) : Nat :=
  (((List.range (hi - lo)).map (lo + 1 + ·)).filter (fun v => Config.threshold op v ≤ x)).foldl max lo

/-- x, as m 2^e with sign, is below n / 10^k. -/
def belowDec (v : Fv) (n : Int) (k : Nat) : Bool :=
  match v with
  | .num s m e => decide ((Dy.add ⟨signed s m * (10 ^ k : Nat), e⟩ ⟨-n, 0⟩).m < 0)
  | .inf s => s
  | .nan => false

/-- 1.0. -/
def f32One : Nat := 0x3F800000

/-- exp of a finite value other than 0 within the limits of R123; above 0 it is no less than 1. -/
def expFin (s : Bool) (m : Nat) (e : Int) (x : Nat) : Nat :=
  let (lo, hi) := ulpBand 1 (expVal s m e)
  pick 0 (max lo (if s then 1 else f32One)) (if s then min hi f32One else hi) (ordKey x)

/-- log of a positive value other than 1. -/
def logFin (m : Nat) (e : Int) (x : Nat) : Nat :=
  let (s, v) := logVal m e
  let (lo, hi) := ulpBand 1 v
  let (a, b) := if s then (2 ^ 31 - hi, 2 ^ 31 - lo) else (2 ^ 31 + lo, 2 ^ 31 + hi)
  ordBits (pick 1 a b (ordKey x))

/-- rsqrt of a positive value other than an even power of two; no less than at the next such power. The key falls as the input
rises. -/
def rsqrtFin (m : Nat) (e : Int) (x : Nat) : Nat :=
  let (lo, hi) := ulpBand 1 (rsqrtVal m e)
  let t := (Nat.log2 m : Int) + e
  pick 2 (max lo (toF32 (.num false 1 (-((t + 2) / 2))))) hi (2 ^ 32 - x)

/-- tanh of a magnitude from 2^-12 to 9.1: no less than what the greatest input below 2^-12 gives, no more than 1. -/
def tanhFin (m : Nat) (e : Int) (a : Nat) : Nat :=
  let (lo, hi) := ulpBand 2 (tanhVal m e)
  pick 3 (max lo 0x397FFFFF) (min hi f32One) a

/-- erf of a magnitude below 3.92: no more than 1. -/
def erfFin (m : Nat) (e : Int) (a : Nat) : Nat :=
  let (lo, hi) := ulpBand 2 (erfVal m e)
  pick 4 lo (min hi f32One) a

/-- exp, log, rsqrt, tanh, erf on FP32 bits (R123, R213, R214): the exact cases as the rules give them, else the one value within
the bound that the engine's fixed tables give, which the spec does not state. Operation 0 to 4 in that order. -/
def special (op x : Nat) : Nat :=
  let v := f32 x
  let a := x % 2 ^ 31
  let sgn := x / 2 ^ 31 * 2 ^ 31
  let inf := 0x7F800000
  match op with
  | 0 => match v with
    | .nan => nanOf 23
    | .inf s => if s then 0 else inf
    | .num s m e =>
      if m = 0 then f32One
      else if belowDec v (-10397208) 5 then 0
      else if belowDec v.neg (-8872284) 5 then inf
      else if belowDec v (-10327892990343185) 14 then 1
      else if belowDec v.neg (-8872283905206835) 14 then 0x7F7FFFFF
      else expFin s m e x
  | 1 => match v with
    | .nan => nanOf 23
    | .inf s => if s then nanOf 23 else inf
    | .num s m e => if m = 0 then 0xFF800000 else if s then nanOf 23 else if x = f32One then 0 else logFin m e x
  | 2 => match v with
    | .nan => nanOf 23
    | .inf s => if s then nanOf 23 else 0
    | .num s m e =>
      if m = 0 then (if s then 0xFF800000 else inf) else if s then nanOf 23
      else
        let t := (Nat.log2 m : Int) + e
        if m = 2 ^ Nat.log2 m && t % 2 = 0 then toF32 (.num false 1 (-(t / 2))) else rsqrtFin m e x
  | 3 => match v with
    | .nan => nanOf 23
    | .inf _ => sgn + f32One
    | .num _ m e =>
      if belowDec (f32 a) 244140625 12 then x
      else if !belowDec (f32 a) 91 1 then sgn + f32One else sgn + tanhFin m e a
  | _ => match v with
    | .nan => nanOf 23
    | .inf _ => sgn + f32One
    | .num _ m e => if m = 0 then x else if !belowDec (f32 a) 392 2 then sgn + f32One else sgn + erfFin m e a

end Sys2Proof.Machine
end

