-- ==== Sys2Proof/Machine/Vector.lean ====
section
/-! DEFINITION. The vector engine: element programs, reductions, special functions, conversions (R122 to R126, R201 to
R231). -/
namespace Sys2Proof.Machine

/-! ## Operands -/

/-- An operand as its descriptor gives it (R204), with the handle's offset added to BASE (R207). -/
structure Opd where
  form : Nat
  space : Nat
  fmt : Nat
  rtz : Bool
  base : Nat
  pitch : Nat
  imm : Nat
deriving DecidableEq, Repr

/-- Decodes a descriptor; none where R207 is broken. -/
def decodeOpd (w waitQ : Nat) (h : Option Handle) : Option Opd :=
  let form := bits w 63 60
  let hb := form ≠ 4 && bit w 55
  let o : Opd := { form := form, space := bits w 59 58, fmt := bits w 57 56, rtz := bit w 54, base := bits w 53 32,
                   pitch := 4 * bits w 31 16, imm := bits w 31 0 }
  if !hb then some o
  else match h with
    | some g => if waitQ ≠ 255 && g.offset % 4 = 0 && g.space = o.space then some { o with base := o.base + g.offset } else none
    | none => none

/-- Bytes of an element of FMT. -/
def Opd.size (o : Opd) : Nat := if o.fmt = 1 then 2 else 4

/-- The byte of element (i, j) (R205). -/
def Opd.at (o : Opd) (i j : Nat) : Nat :=
  match o.form with
  | 0 => o.base + o.pitch * i + o.size * j
  | 1 => o.base + o.size * j
  | 2 => o.base + o.size * i
  | 3 => o.base
  | 7 => o.base + 4 * j
  | 8 => o.base + o.pitch * i + 4 * j
  | _ => o.base + o.size * i

/-- The operand may be a source, or a destination (R205). -/
def Opd.readable (o : Opd) : Bool := o.form ≤ 4
/-- May be written. -/
def Opd.writable (o : Opd) : Bool := o.form = 0 || (5 ≤ o.form && o.form ≤ 8)

/-- Little-endian value of `n` bytes of a scratchpad. -/
def Core.le (k : Core) (mem off n : Nat) : Nat := ofLE ((List.range n).map (fun i => (k.byte mem (off + i)).toNat))

/-- The canonical NaN bits of an operand's FMT (R230). -/
def Opd.nan (o : Opd) : Nat := if o.fmt = 1 then nanOf 7 else nanOf 23

/-- Some word of an element of `n` bytes at `off` is unreadable. -/
def Core.badAt (k : Core) (mem off n : Nat) : Bool := k.bad mem off || k.bad mem (off + n - 1)

/-- The keys of the words of an element. -/
def wordsAt (mem off n : Nat) : List Nat := [spKey mem off / 8, spKey mem (off + n - 1) / 8].eraseDups

/-- The lane value that a source operand gives for (i, j) (R206, R230). -/
def Opd.read (o : Opd) (k : Core) (wide : Bool) (i j : Nat) : Nat :=
  let raw :=
    if o.form = 4 then (if o.fmt = 1 then o.imm % 2 ^ 16 else o.imm)
    else if k.badAt o.space (o.at i j) o.size then o.nan else k.le o.space (o.at i j) o.size
  if wide && o.fmt = 1 then toF32 (bf16 raw) else raw

/-! ## Micro-operations -/

/-- CLASS (R215) of bits in a format with `f` fraction bits. -/
def classify (f w : Nat) : Nat :=
  let ex := bits w (f + 7) f
  let fr := w % 2 ^ f
  let s := bit w (f + 8)
  if ex = 255 then (if fr = 0 then (if s then 1 else 2 ^ 7) else if bit fr (f - 1) then 2 ^ 8 else 2 ^ 9)
  else if ex = 0 then (if fr = 0 then (if s then 2 ^ 3 else 2 ^ 4) else (if s then 2 ^ 2 else 2 ^ 5))
  else (if s then 2 ^ 1 else 2 ^ 6)

/-- A micro-operation's fields (R208). -/
structure Uop where
  op : Nat
  dst : Nat
  sa : Nat
  sb : Nat
  sc : Nat
  rtz : Bool
  sh : Nat
deriving DecidableEq, Repr

/-- Decodes a program word. -/
def decodeUop (w : Nat) : Uop :=
  { op := bits w 31 26, dst := bits w 25 22, sa := bits w 21 18, sb := bits w 17 14, sc := bits w 13 10, rtz := bit w 9,
    sh := bits w 4 0 }

/-- How many of the sources a, b, c a micro-operation reads (R209). -/
def uopArity (op : Nat) : Nat :=
  if op = 4 || op = 0x15 then 3
  else if op = 0x1F || op = 0x20 then 0
  else if op = 0 || op = 7 || op = 8 || (0xA ≤ op && op ≤ 0xF) || op = 0x14 || op = 0x16 || op = 0x17 || op = 0x1D || op = 0x1E
    then 1 else 2

/-- Accepted at BF16 width (R209). -/
def uopBf16 (op : Nat) : Bool := op ≤ 8 || (0x10 ≤ op && op ≤ 0x15)

/-- Cycles per beat (R209). -/
def uopWeight (op : Nat) : Nat := if op = 9 || op = 0xA then 8 else if 0xB ≤ op && op ≤ 0xF then 4 else 1

/-- Counted by VX_SPECIAL (R231). -/
def uopSpecial (op : Nat) : Bool := 9 ≤ op && op ≤ 0xF

/-- A micro-operation on lane values (R209); `f` is 23 at 32-bit width, 7 at BF16 width. -/
def uopEval (u : Uop) (f a b c i j : Nat) : Nat :=
  let w := f + 9
  let v (x : Nat) : Fv := unpack f x
  let r (x : Fv) : Nat := pack .rne f x
  let t (x : Bool) : Nat := if x then 2 ^ w - 1 else 0
  match u.op with
  | 0x00 => a
  | 0x01 => r ((v a).add (v b))
  | 0x02 => r ((v a).add (v b).neg)
  | 0x03 => r ((v a).mul (v b))
  | 0x04 => r (((v a).mul (v b)).add (v c))
  | 0x05 => r ((v a).min (v b))
  | 0x06 => r ((v a).max (v b))
  | 0x07 => if (v a).isNan then nanOf f else a % 2 ^ (w - 1)
  | 0x08 => if (v a).isNan then nanOf f else (a + 2 ^ (w - 1)) % 2 ^ w
  | 0x09 => r ((v a).div (v b))
  | 0x0A => r ((v a).sqrt)
  | 0x0B => special 0 a
  | 0x0C => special 1 a
  | 0x0D => special 2 a
  | 0x0E => special 3 a
  | 0x0F => special 4 a
  | 0x10 => t ((v a).eq (v b))
  | 0x11 => t (!(v a).eq (v b))
  | 0x12 => t ((v a).lt (v b))
  | 0x13 => t ((v a).lt (v b) || (v a).eq (v b))
  | 0x14 => classify f a
  | 0x15 => if c ≠ 0 then a else b
  | 0x16 => fvToI32 (if u.rtz then .rtz else .rne) (v a)
  | 0x17 => r (intVal (toSigned 32 a))
  | 0x18 => (a + b) % 2 ^ 32
  | 0x19 => (a + 2 ^ 32 - b) % 2 ^ 32
  | 0x1A => a &&& b
  | 0x1B => a ||| b
  | 0x1C => xorN a b
  | 0x1D => (a <<< u.sh) % 2 ^ 32
  | 0x1E => a >>> u.sh
  | 0x1F => j
  | _ => i

/-- One lane of one beat: temporaries and written operand values, by source code (R210, R211). -/
def runLane (k : Core) (ops : List Opd) (prog : List Uop) (f i j : Nat) : List (Nat × Nat) :=
  prog.foldl (fun env u =>
    let src (s : Nat) : Nat :=
      if s < 8 then ((env.find? (fun e => e.1 == s)).map (·.2)).getD 0
      else match ops[s - 8]? with
        | some o => o.read k (f == 23) i j
        | none => 0
    let r := uopEval u f (src u.sa) (src u.sb) (src u.sc) i j
    (u.dst, r) :: env.filter (fun e => e.1 != u.dst)) []

/-- The value that a lane wrote to operand n. -/
def laneOut (env : List (Nat × Nat)) (n : Nat) : Nat := ((env.find? (fun e => e.1 == n + 8)).map (·.2)).getD 0

/-- A lane value as FP32 (R206, R216). -/
def laneF32 (f v : Nat) : Nat := if f = 23 then v else toF32 (bf16 v)

/-- A lane value in the bits of a written TILE (R206). -/
def Opd.narrow (o : Opd) (f v : Nat) : Nat :=
  if f = 23 then (if o.fmt = 1 then pack (if o.rtz then .rtz else .rne) 7 (f32 v) else v)
  else if o.fmt = 1 then v else toF32 (bf16 v)

/-- Bytes of a value at an offset. -/
def leAt (off n v : Nat) : List (Nat × Byte) := (List.range n).map (fun i => (off + i, BitVec.ofNat 8 (v / 256 ^ i)))

/-- The bytes that a beat's lane value of a TILE, COL_SUM or ACC operand stores (R211, R217, R218, R230). -/
def Opd.stores (o : Opd) (k : Core) (f i j v : Nat) : List (Nat × Byte) :=
  let x := o.at i j
  match o.form with
  | 0 => leAt x o.size (o.narrow f v)
  | 7 =>
    let w := laneF32 f v
    leAt x 4 (if i = 0 then w else if k.badAt o.space x 4 then nanOf 23 else f32Add (k.le o.space x 4) w)
  | 8 => leAt x 4 (if k.badAt o.space x 4 then nanOf 23 else f32Add (k.le o.space x 4) (laneF32 f v))
  | _ => []

/-- Neighbours combined; an unpaired last position passes unchanged (R216). -/
def pairUp (g : Nat → Nat → Nat) (l : List Nat) : List Nat :=
  match l with
  | a :: b :: r => g a b :: pairUp g r
  | l => l

/-- The tree of R216 over the present lanes, ten levels. -/
def treeReduce (g : Nat → Nat → Nat) (l : List Nat) : Nat :=
  ((List.range 10).foldl (fun l _ => pairUp g l) l).headD 0

/-- ⊕ of a reduction operand. -/
def Opd.plus (o : Opd) (a b : Nat) : Nat := if o.form = 5 then f32Add a b else toF32 ((f32 a).max (f32 b))

/-- Later beats of a row combined into the lanes' partials (R216). -/
def mergeLanes (g : Nat → Nat → Nat) (p l : List Nat) : List Nat :=
  match p, l with
  | a :: p, b :: l => g a b :: mergeLanes g p l
  | p, _ => p

/-- A command's run so far: the core, the keys of the words that were unreadable and of those that a read corrected, the elements
replaced by NaN, the partials of reduction operands. -/
structure VxRun where
  core : Core
  bad : List Nat
  fixed : List Nat
  nans : Nat
  part : List (Nat × List Nat)
deriving DecidableEq, Repr

/-- No beat run. -/
def VxRun.start (k : Core) (part : List (Nat × List Nat)) : VxRun := { core := k, bad := [], fixed := [], nans := 0, part := part }

/-- Elements that a beat reads, each at its space, offset and size, meet the errors that their words have (R230, R238). -/
def VxRun.reads (r : VxRun) (els : List (Nat × Nat × Nat)) : VxRun :=
  if r.core.sound then r
  else
    let keys := els.flatMap (fun x => wordsAt x.1 x.2.1 x.2.2)
    { r with bad := r.bad ++ keys.filter r.core.badWord, fixed := r.fixed ++ keys.filter r.core.fixes,
             nans := r.nans + els.countP (fun x => r.core.badAt x.1 x.2.1 x.2.2) }

/-- Bytes stored to a scratchpad; words whose merge met an unreadable one are counted among those. -/
def VxRun.store (r : VxRun) (mem : Nat) (bs : List (Nat × Byte)) : VxRun :=
  let (k, ws) := r.core.write mem bs
  { r with core := k, bad := r.bad ++ ws.map (mem * 0x20000 + ·) }

/-- The partials of a reduction operand. -/
def VxRun.partOf (r : VxRun) (n : Nat) : List Nat := ((r.part.find? (fun x => x.1 == n)).map (·.2)).getD []

/-- The elements that a beat reads: those of the sources that some micro-operation names, and of the destinations that are added
to. -/
def beatReads (ops : List Opd) (prog : List Uop) (i : Nat) (cols : List Nat) : List (Nat × Nat × Nat) :=
  (ops.zipIdx.filter (fun o => o.1.form ≠ 4 && prog.any (fun u =>
    (1 ≤ uopArity u.op && u.sa == o.2 + 8) || (2 ≤ uopArity u.op && u.sb == o.2 + 8) || (3 ≤ uopArity u.op && u.sc == o.2 + 8)) ||
    o.1.form == 8 || (o.1.form == 7 && i ≠ 0))).flatMap (fun o => cols.map (fun j => (o.1.space, o.1.at i j, o.1.size)))

/-- One beat (R202, R211, R212): its operands are stored in ascending order, a row's reductions with the row's last beat (R216). -/
def vxBeat (ops : List Opd) (prog : List Uop) (f vlen : Nat) (r : VxRun) (i c : Nat) : VxRun :=
  let lam := if f = 23 then 256 else 512
  let cols := (List.range (min vlen ((c + 1) * lam) - c * lam)).map (c * lam + ·)
  let envs := cols.map (fun j => (j, runLane r.core ops prog f i j))
  let wr := ops.zipIdx.filter (fun o => prog.any (fun u => u.dst == o.2 + 8))
  wr.foldl (fun (r : VxRun) o =>
    if o.1.form = 5 || o.1.form = 6 then
      let vals := envs.map (fun e => laneF32 f (laneOut e.2 o.2))
      let p := if c = 0 then vals else mergeLanes o.1.plus (r.partOf o.2) vals
      if vlen ≤ (c + 1) * lam then
        let v := treeReduce o.1.plus p
        ({ r with part := r.part.filter (fun x => x.1 != o.2) } : VxRun).store o.1.space
          (leAt (o.1.at i 0) o.1.size (if o.1.fmt = 1 then pack (if o.1.rtz then .rtz else .rne) 7 (f32 v) else v))
      else { r with part := (o.2, p) :: r.part.filter (fun x => x.1 != o.2) }
    else r.store o.1.space (envs.flatMap (fun e => o.1.stores r.core f i e.1 (laneOut e.2 o.2))))
    (r.reads (beatReads ops prog i cols))

/-- Beats of a row. -/
def rowBeats (f vlen : Nat) : Nat := ceilDiv vlen (if f = 23 then 256 else 512)

/-- The whole element program, beat by beat (R202). -/
def vxRun (k : Core) (ops : List Opd) (prog : List Uop) (f vlen nrows : Nat) : VxRun :=
  (List.range (nrows * rowBeats f vlen)).foldl
    (fun r u => vxBeat ops prog f vlen r (u / rowBeats f vlen) (u % rowBeats f vlen)) (VxRun.start k [])

/-! ## Checks -/

/-- A source or destination code names something there is, of a form it may have (R210, R224). -/
def codeOk (ops : List Opd) (write : Bool) (c : Nat) : Bool :=
  c < 8 || (match ops[c - 8]? with
    | some o => if write then o.writable else o.readable
    | none => false)

/-- The checks on one micro-operation. -/
def uopOk (ops : List Opd) (f : Nat) (u : Uop) : Bool :=
  u.op ≤ 0x20 && (f = 23 || uopBf16 u.op) && codeOk ops true u.dst &&
  (uopArity u.op < 1 || codeOk ops false u.sa) && (uopArity u.op < 2 || codeOk ops false u.sb) &&
  (uopArity u.op < 3 || codeOk ops false u.sc)

/-- Operand n is read, or written, by the program. -/
def opdRead (prog : List Uop) (n : Nat) : Bool :=
  prog.any (fun u => (1 ≤ uopArity u.op && u.sa == n + 8) || (2 ≤ uopArity u.op && u.sb == n + 8) ||
    (3 ≤ uopArity u.op && u.sc == n + 8))
/-- Written by the program. -/
def opdWritten (prog : List Uop) (n : Nat) : Bool := prog.any (fun u => u.dst == n + 8)

/-- The FMT is allowed at the width and form (R206). -/
def fmtOk (o : Opd) (prog : List Uop) (n f : Nat) : Bool :=
  o.fmt ≠ 3 &&
  (match o.form with
   | 5 => o.fmt ≤ 1
   | 6 => o.fmt ≤ 1
   | 7 => o.fmt = 0
   | 8 => o.fmt = 0
   | 0 => f = 23 || ((!opdRead prog n || o.fmt = 1) && (!opdWritten prog n || o.fmt ≤ 1))
   | _ => f = 23 || o.fmt = 1)

/-- Elements lie within the scratchpad; a written TILE or ACC does not overlap itself (R224). -/
def placeOk (o : Opd) (prog : List Uop) (n vlen nrows : Nat) : Bool :=
  o.form = 4 ||
  (let last := match o.form with
     | 0 => o.at (nrows - 1) (vlen - 1) + o.size
     | 1 => o.at 0 (vlen - 1) + o.size
     | 2 => o.at (nrows - 1) 0 + o.size
     | 3 => o.base + o.size
     | 7 => o.at 0 (vlen - 1) + 4
     | 8 => o.at (nrows - 1) (vlen - 1) + 4
     | _ => o.at (nrows - 1) 0 + o.size
   last ≤ spSize o.space &&
   (nrows ≤ 1 || !((o.form = 0 && opdWritten prog n) || o.form = 8) || vlen * o.size ≤ o.pitch))

/-- The checks of R224 that the words of a program can only fail, the length register among them. -/
def epWords (ops : List Opd) (prog : List Uop) (f vlen nrows : Nat) : Bool :=
  vlen ≠ 0 && prog.all (uopOk ops f) &&
  ops.zipIdx.all (fun o => o.1.form ≤ 8 && fmtOk o.1 prog o.2 f && placeOk o.1 prog o.2 vlen nrows) &&
  ops.countP (fun o => o.form == 5 || o.form == 6) ≤ 2

/-- All checks of R224 on an element program. -/
def epOk (ops : List Opd) (prog : List Uop) (f vlen nrows : Nat) : Bool :=
  epWords ops prog f vlen nrows && ops.zipIdx.all (fun o => !(5 ≤ o.1.form) || opdWritten prog o.2)

/-- Cycles of a beat (R227). -/
def epBeat (ops : List Opd) (prog : List Uop) : Nat :=
  let lw := (prog.map (fun u => uopWeight u.op)).sum
  let mem (o : Opd) : Bool := o.space ≤ 2
  let r := ops.zipIdx.countP (fun o => mem o.1 && (((o.1.form == 0 || o.1.form == 1) && opdRead prog o.2) ||
    o.1.form == 7 || o.1.form == 8))
  let w := ops.zipIdx.countP (fun o => mem o.1 && ((o.1.form == 0 && opdWritten prog o.2) || o.1.form == 7 || o.1.form == 8))
  max lw (max (ceilDiv r 2) w)

/-- The bound C of an element program (R227). -/
def epCost (ops : List Opd) (prog : List Uop) (f vlen nrows : Nat) : Nat :=
  12 + nrows * rowBeats f vlen * epBeat ops prog + nrows * ops.countP (fun o => o.form == 5 || o.form == 6)

/-- Granules of WM and AM that a command's writes entered. -/
def wroteGrans (spans : List (Nat × Span)) : List Nat :=
  ((spans.filter (fun s => s.1 < 2)).flatMap (fun s => spanGrans s.1 [s.2])).eraseDups

/-- Spans that an element program writes. -/
def epWrites (ops : List Opd) (prog : List Uop) (vlen nrows : Nat) : List (Nat × Span) :=
  ops.zipIdx.flatMap (fun o =>
    if !opdWritten prog o.2 then [] else
    match o.1.form with
    | 0 => (List.range nrows).map (fun i => (o.1.space, (o.1.at i 0, vlen * o.1.size)))
    | 7 => [(o.1.space, (o.1.base, 4 * vlen))]
    | 8 => (List.range nrows).map (fun i => (o.1.space, (o.1.at i 0, 4 * vlen)))
    | _ => [(o.1.space, (o.1.base, nrows * o.1.size))])

/-- Spans that an element program reads. -/
def epReads (ops : List Opd) (prog : List Uop) (vlen nrows : Nat) : List (Nat × Span) :=
  ops.zipIdx.flatMap (fun o =>
    if !(opdRead prog o.2) then [] else
    match o.1.form with
    | 0 => (List.range nrows).map (fun i => (o.1.space, (o.1.at i 0, vlen * o.1.size)))
    | 1 => [(o.1.space, (o.1.base, vlen * o.1.size))]
    | 2 => [(o.1.space, (o.1.base, nrows * o.1.size))]
    | 3 => [(o.1.space, (o.1.base, o.1.size))]
    | _ => [])

/-- A reservation of the array holds the accesses (R145, R229). -/
def Core.holds (k : Core) (reads writes : List (Nat × Span)) : Bool :=
  let res := k.reserved
  let dst := k.passes.flatMap (fun p => destGrans p.tdrain p.probs)
  !k.passes.isEmpty &&
  (writes.any (fun s => (spanGrans s.1 [s.2]).any (fun g => res.contains g)) ||
   reads.any (fun s => s.1 == 2 && (spanGrans 2 [s.2]).any (fun g => dst.contains g)))

/-- Puts an issued vector command in flight as a job of which no beat has run. -/
def Dev.vxStart (d : Dev) (c : Nat) (cmd : Cmd) (slots : Nat) (j : VxJob) (space off cost : Nat)
    (spans : List (Nat × Span)) : Dev :=
  let e := eng 2 c
  let k := d.core c
  let f := { d.inflight e cmd stOK space off cost with grans := wroteGrans spans }
  let x := d.ctx e
  ((d.setCore c { k with vx := some { j with overlap := !k.passes.isEmpty } }).setCtx e { x with busy := x.busy ++ [f] }).advance e slots

/-- VX_NOP. -/
def Dev.vxNop (d : Dev) (c : Nat) : Dev :=
  d.issue (eng 2 c) (· == 0) (fun d cmd _ => if (d.ctx (eng 2 c)).busy.isEmpty then d.relay (eng 2 c) cmd else d)

/-- VX_SETLEN (R203, R219). -/
def Dev.vxSetlen (d : Dev) (c : Nat) : Dev :=
  d.issue (eng 2 c) (· == 8) (fun d cmd n =>
    let v := bits (cmd.w 2) 16 0
    if !(d.ctx (eng 2 c)).busy.isEmpty then d
    else if v = 0 || 65536 < v then d.reject (eng 2 c) cmd n stRANGE
    else
      (d.setCore c { d.core c with vlen := v }).instant (eng 2 c) cmd n (token 0))

/-- An element program as its slots spell it (R220): operands, micro-operations, fraction bits, rows. -/
structure EpCall where
  ops : List Opd
  prog : List Uop
  f : Nat
  rows : Nat
deriving DecidableEq, Repr

/-- The operands of a command's descriptors, each of two words. -/
def opdsOf (ws : List Nat) (n waitQ : Nat) (h : Option Handle) : List Opd :=
  ((List.range n).map (fun i => ws.getD (2 * i) 0 + 2 ^ 32 * ws.getD (2 * i + 1) 0)).filterMap (fun w => decodeOpd w waitQ h)

/-- The word 0, 2 and 3 of a VX_EP head, its descriptors' words behind them (R220, R221). -/
def epWordsOf (cmd : Cmd) (es : List (List Nat)) : List Nat := cmd.words ++ es.flatMap (fun x => x.drop 2)

/-- The call that a command's words and the words of its program spell. -/
def epCall (ws prog : List Nat) (waitQ : Nat) (h : Option Handle) : EpCall :=
  { ops := opdsOf (ws.drop 4) (bits (ws.getD 2 0) 10 8 + 1) waitQ h, prog := prog.map decodeUop,
    f := if bit (ws.getD 0 0) 15 then 7 else 23, rows := bits (ws.getD 2 0) 31 16 + 1 }

/-- Decodes and checks an element program (R220 to R224, R230). The refusal is a status, with the key of the first word of the
program in its scratchpad that is unreadable; a check that the readable words fail stands before it (R41). -/
def Core.epDecode (k : Core) (cmd : Cmd) (es : List (List Nat)) : Except (Nat × Option Nat) EpCall :=
  let nopd := bits (cmd.w 2) 10 8 + 1
  let len := bits (cmd.w 2) 4 0 + 1
  let ps := bits (cmd.w 3) 31 30
  let pb := bits (cmd.w 3) 21 0
  let offs := (List.range len).map (fun i => pb + 4 * i)
  let call (os : List Nat) : EpCall := epCall (epWordsOf cmd es) (os.map (fun o => k.le ps o 4)) cmd.waitQ cmd.handle
  if (call []).ops.length ≠ nopd || ps = 2 || pb % 4 ≠ 0 || spSize ps < pb + 4 * len then .error (stRANGE, none)
  else match offs.find? (k.bad ps) with
    | some o =>
      let x := call (offs.filter (fun o => !k.bad ps o))
      if epWords x.ops x.prog x.f k.vlen x.rows then .error (stECC, some (spKey ps o / 8)) else .error (stRANGE, none)
    | none =>
      let x := call offs
      if epOk x.ops x.prog x.f k.vlen x.rows then .ok x else .error (stRANGE, none)

/-- The words of a command's program, which it keeps from its issue on (R220). -/
def Core.progWords (k : Core) (cmd : Cmd) : List Nat :=
  (List.range (bits (cmd.w 2) 4 0 + 1)).map (fun i => k.le (bits (cmd.w 3) 31 30) (bits (cmd.w 3) 21 0 + 4 * i) 4)

/-- The program's words whose read corrected them (R238). -/
def Core.progFixed (k : Core) (cmd : Cmd) : List Nat :=
  ((List.range (bits (cmd.w 2) 4 0 + 1)).map (fun i => spKey (bits (cmd.w 3) 31 30) (bits (cmd.w 3) 21 0 + 4 * i) / 8)).filter k.fixes

/-- Puts an accepted element program in flight (R225 to R227). -/
def Dev.epStart (d : Dev) (c : Nat) (cmd : Cmd) (n : Nat) (es : List (List Nat)) (x : EpCall) : Dev :=
  let k := d.core c
  let low := (x.ops.zipIdx.find? (fun o => opdWritten x.prog o.2)).map (·.1)
  let (sp, off) := match low with | some o => (o.space, o.base) | none => (4, 0)
  let j : VxJob := { op := 0x10, words := epWordsOf cmd es, waitQ := cmd.waitQ, handle := cmd.handle, prog := k.progWords cmd,
                     vlen := k.vlen, next := 0, base := 0, part := [], bad := [], overlap := false }
  (d.spFix c (k.progFixed cmd)).vxStart c cmd n j sp off (epCost x.ops x.prog x.f k.vlen x.rows)
    (epWrites x.ops x.prog k.vlen x.rows)

/-- VX_EP (R220 to R227). -/
def Dev.vxEp (d : Dev) (c : Nat) : Dev :=
  let e := eng 2 c
  d.issue e (· == 0x10) (fun d cmd n =>
    if !(d.ctx e).busy.isEmpty then d else
    match d.exts e cmd n with
    | (.error st, d) => if st = stWAIT then d else d.reject e cmd n st
    | (.ok es, d) =>
      match (d.core c).epDecode cmd es with
      | .error (st, some w) => (d.spRecord c (w / 0x20000) 2 (w % 0x20000) 1 cmd.index cmd.op).reject e cmd n st
      | .error (st, none) => d.reject e cmd n st
      | .ok x =>
        if (d.core c).holds (epReads x.ops x.prog (d.core c).vlen x.rows) (epWrites x.ops x.prog (d.core c).vlen x.rows)
        then d.setWhy e (heldWhy c) else d.epStart c cmd n es x)

/-! ## Conversions -/

/-- A side of VX_CVT: format (R162 codes, 9 FP32, 0xA I32), block shape, bases, pitch. -/
structure Side where
  fmt : Nat
  block : Nat
  space : Nat
  base : Nat
  pitch : Nat
  scale : Nat
deriving DecidableEq, Repr

/-- Bits of an element of a side. -/
def Side.bitsOf (s : Side) : Nat := if s.fmt = 0xA then 32 else elemBits s.fmt

/-- Rows and columns after the padding of R223. -/
def Side.pad (s : Side) (nr nc : Nat) : Nat × Nat :=
  let up (n : Nat) : Nat := ceilDiv n 32 * 32
  if !isMx s.fmt then (nr, nc)
  else match s.block with | 0 => (nr, up nc) | 1 => (up nr, nc) | _ => (up nr, up nc)

/-- The scale's byte of element (i, j). -/
def Side.scaleAt (s : Side) (nc i j : Nat) : Nat :=
  match s.block with
  | 0 => s.scale + i * ceilDiv nc 32 + j / 32
  | 1 => s.scale + i / 32 * nc + j
  | _ => s.scale + i / 32 * ceilDiv nc 32 + j / 32

/-- Scale bytes of a side. -/
def Side.scales (s : Side) (nr nc : Nat) : Nat :=
  match s.block with
  | 0 => nr * ceilDiv nc 32
  | 1 => ceilDiv nr 32 * nc
  | _ => ceilDiv nr 32 * ceilDiv nc 32

/-- Spans of a side: rows, then scales. -/
def Side.spans (s : Side) (nr nc : Nat) : List (Nat × Span) :=
  let (pr, pc) := s.pad nr nc
  (List.range pr).map (fun i => (s.space, (s.base + s.pitch * i, ceilDiv (pc * s.bitsOf) 8))) ++
  (if isMx s.fmt then [(s.space, (s.scale, s.scales nr nc))] else [])

/-- The code of element (i, j). -/
def Side.code (s : Side) (k : Core) (i j : Nat) : Nat :=
  k.bitsAt s.space (8 * (s.base + s.pitch * i) + j * s.bitsOf) s.bitsOf

/-- Element (i, j) or its scale cannot be read. -/
def Side.bad (s : Side) (k : Core) (nc i j : Nat) : Bool :=
  !k.sound && (k.badBits s.space (8 * (s.base + s.pitch * i) + j * s.bitsOf) s.bitsOf ||
    (isMx s.fmt && k.bad s.space (s.scaleAt nc i j)))

/-- The value of source element (i, j) as FP32 gives it (R124, R126, R230). -/
def Side.val (s : Side) (k : Core) (nc i j : Nat) : Fv :=
  if s.bad k nc i j then (if s.fmt = 0xA then intVal 0x7FC00000 else .nan)
  else if s.fmt = 0xA then intVal (toSigned 32 (s.code k i j))
  else if isMx s.fmt then mxVal s.fmt (s.code k i j) (k.byte s.space (s.scaleAt nc i j)).toNat
  else elemVal s.fmt (s.code k i j)

/-- The conversions of R124, and those whose rounding the command may choose. -/
def cvtPair (sf df : Nat) : Bool :=
  (isMx sf && (isMx df || df == 8 || df == 9)) || ((sf == 8 || sf == 9) && isMx df) ||
  (sf == 8 && df == 9) || (sf == 9 && (df == 8 || df == 0xA)) || (sf == 0xA && df == 9)
/-- RNE or RTZ. -/
def cvtChoice (sf df : Nat) : Bool := (sf == 9 && (df == 8 || df == 0xA)) || ((sf == 8 || sf == 9) && isMx df)

/-- The block of a destination that holds (i, j): its elements in order, +0 in the padding (R125, R223). -/
def Side.blockOf (s : Side) (a b : Nat) : List (Nat × Nat) :=
  match s.block with
  | 0 => (List.range 32).map (fun x => (a, 32 * b + x))
  | 1 => (List.range 32).map (fun x => (32 * a + x, b))
  | _ => (List.range 1024).map (fun x => (32 * a + x / 32, 32 * b + x % 32))

/-- The blocks of a side: rows and columns of blocks. -/
def Side.grid (s : Side) (nr nc : Nat) : Nat × Nat :=
  match s.block with
  | 0 => (nr, ceilDiv nc 32)
  | 1 => (ceilDiv nr 32, nc)
  | _ => (ceilDiv nr 32, ceilDiv nc 32)

/-- Packs element codes of `n` bits from the lowest bit on. -/
def packCodes (n : Nat) (cs : List Nat) : Nat := cs.foldr (fun c a => c + 2 ^ n * a) 0

/-- Rows of a destination that are stored together: a block's, or one. -/
def Side.band (s : Side) : Nat := if isMx s.fmt && s.block ≠ 0 then 32 else 1

/-- The destination's element codes and scale bytes in band `a` of its rows (R124 to R126). An MX element whose product with its
scale exceeds FP32 goes through the infinity of R124 (log entry 110). -/
def cvtOut (k : Core) (src dst : Side) (rm : Rm) (nr nc a : Nat) : List (Nat × Nat × Nat) × List (Nat × Nat) :=
  let v (i j : Nat) : Fv :=
    if nr ≤ i || nc ≤ j then Fv.zero
    else
      let x := src.val k nc i j
      if isMx src.fmt && isMx dst.fmt then f32 (toF32 x) else x
  if isMx dst.fmt then
    let copy := src.fmt = dst.fmt && src.block = 2 && dst.block < 2
    let (_, gb) := dst.grid nr nc
    let out := (List.range gb).map (fun b =>
      let es := dst.blockOf a b
      let (sc, cs) := if copy && !es.any (fun e => e.1 < nr && e.2 < nc && src.bad k nc e.1 e.2) then
          ((k.byte src.space (src.scaleAt nc (es.headD (0, 0)).1 (es.headD (0, 0)).2)).toNat,
            es.map (fun e => if nr ≤ e.1 || nc ≤ e.2 then 0 else src.code k e.1 e.2))
        else quantBlock rm dst.fmt (es.map (fun e => v e.1 e.2))
      (((es.zip cs).map (fun (e : (Nat × Nat) × Nat) => (e.1.1, e.1.2, e.2))), (dst.scaleAt nc (es.headD (0, 0)).1 (es.headD (0, 0)).2, sc)))
    (out.flatMap (·.1), out.map (·.2))
  else
    ((List.range nc).map (fun j =>
      (a, j, if dst.fmt = 0xA then fvToI32 rm (v a j) else pack rm (if dst.fmt = 8 then 7 else 23) (v a j))), [])

/-- A conversion as its slot spells it (R222): source, destination, rounding, rows. -/
structure CvtCall where
  src : Side
  dst : Side
  rm : Rm
  rows : Nat
deriving DecidableEq, Repr

/-- Decodes and checks a conversion over `nc` columns (R222 to R224). -/
def cvtDecode (nc : Nat) (cmd : Cmd) : Option CvtCall :=
  let nr := bits (cmd.w 2) 31 16 + 1
  let hoff := (cmd.handle.map Handle.offset).getD 0
  let side (w fmt blk : Nat) : Option Side :=
    (decodeOpd (w / 2 ^ 16 * 2 ^ 16) cmd.waitQ cmd.handle).map (fun o =>
      { fmt := fmt, block := blk, space := o.space, base := o.base, pitch := o.pitch,
        scale := 64 * bits w 15 0 + (if bit w 55 then hoff else 0) })
  let sf := bits (cmd.w 2) 15 12
  let df := bits (cmd.w 2) 11 8
  let sd := cmd.pair 4
  let dd := cmd.pair 6
  match side sd sf (bits (cmd.w 0) 12 11), side dd df (bits (cmd.w 0) 14 13) with
  | some src, some dst =>
    let okF := cvtPair sf df && (!cmd.flag 15 || cvtChoice sf df) && bits sd 63 60 = 0 && bits dd 63 60 = 0 &&
      src.block ≤ 2 && dst.block ≤ 2
    let inSp := (src.spans nr nc ++ dst.spans nr nc).all (fun s => spanIn (spSize s.1) s.2)
    let pitchOk := nr ≤ 1 || ceilDiv (nc * dst.bitsOf) 8 ≤ dst.pitch
    if nc = 0 || !okF || !inSp || !pitchOk then none
    else some { src := src, dst := dst, rm := if cmd.flag 15 then .rtz else .rne, rows := nr }
  | _, _ => none

/-- Rows and columns that a conversion's beats cover (R227). -/
def CvtCall.grid (x : CvtCall) (nc : Nat) : Nat × Nat :=
  let (pr, pc) := x.dst.pad x.rows nc
  let (sr, sc) := x.src.pad x.rows nc
  (max pr sr, max pc sc)

/-- One band of a conversion: its source rows are read, with the source's padding in the last, and its destination rows and scales
stored (R223, R230). -/
def cvtBand (x : CvtCall) (nc : Nat) (r : VxRun) (a : Nat) : VxRun :=
  let h := x.dst.band
  let (_, pc) := x.dst.pad x.rows nc
  let (sr, sc) := x.src.pad x.rows nc
  let last := x.rows ≤ (a + 1) * h
  let rows := ((List.range (if last then max sr (a * h) else (a + 1) * h)).drop (a * h))
  let (els, scs) := cvtOut r.core x.src x.dst x.rm x.rows nc a
  let rowBytes (i : Nat) : List (Nat × Byte) :=
    let cs := (List.range pc).map (fun j => ((els.find? (fun x => x.1 == i && x.2.1 == j)).map (fun x => x.2.2)).getD 0)
    leAt (x.dst.base + x.dst.pitch * i) (ceilDiv (pc * x.dst.bitsOf) 8) (packCodes x.dst.bitsOf cs)
  let k := r.core
  let r1 := if k.sound then r else
    let keys := (rows.flatMap (fun i =>
      (spanWords x.src.space [(x.src.base + x.src.pitch * i, ceilDiv (sc * x.src.bitsOf) 8)]) ++
      (if isMx x.src.fmt then spanWords x.src.space ((List.range nc).map (fun j => (x.src.scaleAt nc i j, 1))) else []))).eraseDups
    { r with bad := r.bad ++ keys.filter k.badWord, fixed := r.fixed ++ keys.filter k.fixes,
             nans := r.nans + ((rows.filter (· < x.rows)).map (fun i => (List.range nc).countP (fun j => x.src.bad k nc i j))).sum }
  (r1.store x.dst.space (((List.range h).map (a * h + ·)).flatMap rowBytes)).store x.dst.space
    (scs.map (fun s => (s.1, BitVec.ofNat 8 s.2)))

/-- Puts an accepted conversion in flight (R223, R225, R227). -/
def Dev.cvtStart (d : Dev) (c : Nat) (cmd : Cmd) (n : Nat) (x : CvtCall) : Dev :=
  let nc := (d.core c).vlen
  let (gr, gc) := x.grid nc
  let j : VxJob := { op := 0x20, words := cmd.words, waitQ := cmd.waitQ, handle := cmd.handle, prog := [], vlen := nc, next := 0,
                     base := 0, part := [], bad := [], overlap := false }
  d.vxStart c cmd n j x.dst.space x.dst.base (16 + 2 * gr * ceilDiv gc 256) (x.dst.spans x.rows nc)

/-- VX_CVT (R222 to R225). -/
def Dev.vxCvt (d : Dev) (c : Nat) : Dev :=
  let e := eng 2 c
  d.issue e (· == 0x20) (fun d cmd n =>
    if !(d.ctx e).busy.isEmpty then d else
    let nc := (d.core c).vlen
    match cvtDecode nc cmd with
    | none => d.reject e cmd n stRANGE
    | some x =>
      if (d.core c).holds (x.src.spans x.rows nc) (x.dst.spans x.rows nc) then d.setWhy e (heldWhy c) else d.cvtStart c cmd n x)

/-! ## A command in flight (R202, R225, R228) -/

/-- A job as the calls that its words spell. -/
inductive VxCall where
  | ep (x : EpCall)
  | cvt (x : CvtCall)
deriving DecidableEq, Repr

/-- What a job does. -/
def VxJob.call (j : VxJob) : VxCall :=
  if j.op = 0x10 then .ep (epCall j.words j.prog j.waitQ j.handle)
  else match cvtDecode j.vlen { index := 0, words := j.words, handle := j.handle } with
    | some x => .cvt x
    | none => .ep { ops := [], prog := [], f := 23, rows := 0 }

/-- Its steps: beats, or bands of a conversion's rows. -/
def VxJob.steps (j : VxJob) : Nat :=
  match j.call with
  | .ep x => x.rows * rowBeats x.f j.vlen
  | .cvt x => ceilDiv x.rows x.dst.band

/-- One step. -/
def VxJob.step (j : VxJob) (r : VxRun) (u : Nat) : VxRun :=
  match j.call with
  | .ep x => vxBeat x.ops x.prog x.f j.vlen r (u / rowBeats x.f j.vlen) (u % rowBeats x.f j.vlen)
  | .cvt x => cvtBand x j.vlen r u

/-- Cycles from its issue by whose end its first `u` steps are done: R227's sum as far as them (log entry 14). -/
def VxJob.due (j : VxJob) (u : Nat) : Nat :=
  if u = 0 then 0
  else match j.call with
    | .ep x => 12 + u * epBeat x.ops x.prog + u / rowBeats x.f j.vlen * x.ops.countP (fun o => o.form == 5 || o.form == 6)
    | .cvt x => 16 + 2 * (if j.steps ≤ u then (x.grid j.vlen).1 else u * x.dst.band) * ceilDiv (x.grid j.vlen).2 256

/-- The steps that are done `t` cycles after its issue. -/
def VxJob.doneBy (j : VxJob) (t : Nat) : Nat :=
  match j.call with
  | .ep x =>
    let b := rowBeats x.f j.vlen
    let w := epBeat x.ops x.prog
    let row := b * w + x.ops.countP (fun o => o.form == 5 || o.form == 6)
    min j.steps ((t - 12) / max 1 row * b + min (b - 1) ((t - 12) % max 1 row / max 1 w))
  | .cvt x =>
    if j.due j.steps ≤ t then j.steps
    else min (j.steps - 1) ((t - 16) / max 1 (2 * x.dst.band * ceilDiv (x.grid j.vlen).2 256))

/-- Beats that its first `u` steps execute (R231). -/
def VxJob.beats (j : VxJob) (u : Nat) : Nat :=
  match j.call with
  | .ep _ => u
  | .cvt x => (if j.steps ≤ u then (x.grid j.vlen).1 else u * x.dst.band) * ceilDiv (x.grid j.vlen).2 256

/-- The scratchpad spans that it reads and writes. -/
def VxJob.spans (j : VxJob) : List (Nat × Span) × List (Nat × Span) :=
  match j.call with
  | .ep x => (epReads x.ops x.prog j.vlen x.rows, epWrites x.ops x.prog j.vlen x.rows)
  | .cvt x => (x.src.spans x.rows j.vlen, x.dst.spans x.rows j.vlen)

/-- The most cycles in which it may yield a bank to the array (R236): three for its program's fetch and for each beat, where they
read WM or AM, while a pass is in flight. -/
def VxJob.allowance (j : VxJob) : Nat :=
  if !j.overlap then 0
  else
    let fetch := j.op = 0x10 && bits (j.words.getD 3 0) 31 30 < 2
    let reads := j.spans.1.any (fun s => s.1 < 2)
    (if fetch || (reads && j.op ≠ 0x10) then 3 else 0) + (if reads then 3 * j.beats j.steps else 0)

/-- A pass in flight reserves what the command in flight reads or writes: its accesses are held (R145, R229). -/
def Core.vxHeld (k : Core) : Bool :=
  match k.vx with
  | some j => k.holds j.spans.1 j.spans.2
  | none => false

/-- Runs the steps of the command in flight up to step `n` (R202, R211, R230, R231, R239). -/
def Dev.vxRunTo (d : Dev) (c n : Nat) : Dev :=
  let e := eng 2 c
  let k := d.core c
  match k.vx, (d.ctx e).busy with
  | some j, f :: rest =>
    if n ≤ j.next then d
    else
      let r := ((List.range n).drop j.next).foldl j.step (VxRun.start k j.part)
      let new := r.bad.eraseDups.filter (fun x => !j.bad.contains x)
      let d := d.setCore c { r.core with vx := some { j with next := n, part := r.part, bad := j.bad ++ new } }
      let d := d.setCtx e { d.ctx e with busy := (if new.isEmpty then f else { f with status := stWorst f.status stECC }) :: rest }
      let d := new.foldl (fun d w => d.spRecord c (w / 0x20000) 2 (w % 0x20000) 1 f.index f.op) d
      let d := r.fixed.eraseDups.foldl (fun d w => d.spCorrected c (w / 0x20000) (w % 0x20000)) d
      let b := j.beats n - j.beats j.next
      let d := (d.cnt (K.VX_ECC_NAN c) r.nans).cnt (K.VX_BEATS c) b
      match j.call with
      | .ep x => (d.cnt (K.VX_UOPS c) (b * x.prog.length)).cnt (K.VX_SPECIAL c) (b * x.prog.countP (fun u => uopSpecial u.op))
      | .cvt _ => d
  | _, _ => d

/-- The cycles that the command in flight has had by cycle `t`. -/
def Dev.vxElapsed (d : Dev) (c t : Nat) : Nat :=
  match (d.core c).vx, (d.ctx (eng 2 c)).busy with
  | some j, f :: _ => j.base + (t - f.start)
  | _, _ => 0

/-- What the command in flight has done by the end of a cycle is done. -/
def Dev.vxCatchUp (d : Dev) (c t : Nat) : Dev :=
  match (d.core c).vx with
  | some j => if (d.core c).vxHeld then d else d.vxRunTo c (j.doneBy (d.vxElapsed c t))
  | none => d

/-- A tick of `n` cycles passes for the command in flight: held by a reservation, it begins its next step later (R145). -/
def Dev.vxTick (d : Dev) (c n : Nat) : Dev :=
  match (d.core c).vx, (d.ctx (eng 2 c)).busy with
  | some _, f :: r =>
    if d.switching c || !d.clocked c then d
    else if (d.core c).vxHeld then d.setCtx (eng 2 c) { d.ctx (eng 2 c) with busy := { f with start := f.start + n } :: r }
    else d.vxCatchUp c (d.cycles (quadOf c))
  | _, _ => d

/-- At a switch the command stops at its next beat boundary, and has the rest of its cycles before it (R228). -/
def Dev.vxStop (d : Dev) (c : Nat) : Dev :=
  let e := eng 2 c
  match (d.core c).vx with
  | none => d
  | some j =>
    let t := d.vxElapsed c (d.cycles (quadOf c))
    let u := j.doneBy t
    let u := max j.next (if j.due u < t && u < j.steps then u + 1 else u)
    let d := if (d.core c).vxHeld then d else d.vxRunTo c u
    match (d.core c).vx, (d.ctx e).busy with
    | some j, f :: r =>
      let d := d.setCore c { d.core c with vx := some { j with base := j.due j.next } }
      d.setCtx e { d.ctx e with busy := { f with cost := j.due j.steps - j.due j.next } :: r }
    | _, _ => d

/-- The yield cycles that VX_COMPLETE tells of, within what R236 allows. -/
def Dev.vxYields (d : Dev) (c y : Nat) : Nat :=
  match (d.core c).vx with
  | some j => min y j.allowance
  | none => 0

/-- VX_COMPLETE (R225, R226): the command in flight has run its C cycles and the yield cycles that occurred, which count under
BANK_CONFLICT (R147). -/
def Dev.vxComplete (d : Dev) (c yields : Nat) : Dev :=
  let e := eng 2 c
  match (d.ctx e).busy with
  | [] => d
  | f :: _ =>
    let y := d.vxYields c yields
    if d.cyclesEnd (quadOf c) < f.start + f.cost + y || (d.core c).vxHeld then d
    else
      let d := match (d.core c).vx with | some j => d.vxRunTo c j.steps | none => d
      let d := (d.ended e f.start (f.start + f.cost)).yielded e (f.start + f.cost) y
      let x := d.ctx e
      let d := (d.setCtx e { x with busy := x.busy.tail }).setCore c { d.core c with vx := none }
      let f := x.busy.headD f
      d.finish e f { status := 0, space := f.space, offset := f.offset }

/-- VX_STATE as it reads (R231): `fenced`, `switching` of its core. -/
def Core.vxState (k : Core) (fenced switching : Bool) : Nat :=
  if fenced then 3 else if (Map.get k.eng EngCtx.init 2).busy.isEmpty then 0 else if switching then 2 else 1

end Sys2Proof.Machine
end

