-- ==== Sys2Proof/Machine/Move.lean ====
section
/-! DEFINITION. The move engine and the gather engine (R190 to R193, R248 to R271). -/
namespace Sys2Proof.Machine

/-! ## Places -/

/-- Two checked values, or the status that R41 selects. -/
def both {α β : Type} (a : Except Nat α) (b : Except Nat β) : Except Nat (α × β) :=
  match a, b with
  | .ok x, .ok y => .ok (x, y)
  | .ok _, .error t => .error t
  | .error s, .ok _ => .error s
  | .error s, .error t => .error (stWorst s t)

/-- A check with the status that its failure gives. -/
def must (ok : Bool) (st : Nat) : Except Nat Unit := if ok then .ok () else .error st

/-- `n` bytes from a location of a space (R250). Another core's scratchpads are the move engine's alone to reach (R15): the gather
engine's reference to an aperture completes with ACCESS (log entry 107). -/
def Dev.place (d : Dev) (e : Eng) (space a n : Nat) : Except Nat (List Place) :=
  if n = 0 then .ok []
  else if space < 4 then
    if a + n ≤ spSize space then .ok ((List.range n).map (fun i => (0, .sp e.n space (a + i)))) else .error stRANGE
  else if space = 8 then
    match d.xlateRun (d.engWho e) a n with
    | .ok ls => if e.k ≠ 3 && ls.any (fun l => match l with | .sp .. => true | _ => false) then .error stACCESS else .ok (((List.range n).map (fun i => (a + i) % 2 ^ 64)).zip ls)
    | .error st => .error st
  else .error stRANGE

/-- `r` rows of `n` bytes at a pitch. -/
def Dev.placeRows (d : Dev) (e : Eng) (space a n pitch r : Nat) : Except Nat (List (List Place)) :=
  (List.range r).foldr (fun i acc =>
    match both (d.place e space (a + i * pitch) n) acc with
    | .ok (x, l) => .ok (x :: l)
    | .error st => .error st) (.ok [])

/-- A location's base with the handle's offset where its flag is set (R250); the flag on a fabric location is refused. -/
def baseOf (c : Cmd) (use : Bool) (space a : Nat) : Except Nat Nat :=
  if !use then .ok a
  else match c.handle with
    | some h => if space < 4 && c.waitQ ≠ 255 && h.space = space then .ok (a + h.offset) else .error stRANGE
    | none => .error stRANGE

/-- The offset that a location's base check gives, or the offset as the command names it where the check fails: the other checks of
R255 still run, and R41 selects among the causes. -/
def baseAt (b : Except Nat Nat) (a : Nat) : Nat :=
  match b with
  | .ok x => x
  | .error _ => a

/-- The space of a place, as a number, with its offset there: HBM, accumulation area, scratchpads. -/
def Loc.spot (l : Loc) : Option (Nat × Nat) :=
  match l with
  | .hbm x => some (0, x)
  | .acc a _ => some (1, a)
  | .sp c m o => some (2 + 4 * c + m, o)
  | .far _ => none

/-- Maximal spans of consecutive places: space, start, length. -/
def spansOf (ps : List Place) : List (Nat × Nat × Nat) :=
  ps.foldr (fun p acc =>
    match p.2.spot, acc with
    | none, _ => acc
    | some (k, o), (k', s, n) :: r => if k = k' && o + 1 = s then (k, o, n + 1) :: r else (k, o, 1) :: acc
    | some (k, o), [] => [(k, o, 1)]) []

/-- Some byte is a place of both lists. -/
def meets (a b : List Place) : Bool :=
  (spansOf a).any (fun x => (spansOf b).any (fun y => x.1 == y.1 && x.2.1 < y.2.1 + y.2.2 && y.2.1 < x.2.1 + x.2.2))

/-- Writes through an add view start and end on a multiple of 4 (R285). -/
def addAligned (runs : List (List Place)) : Bool :=
  runs.all (fun r => match r with
    | (_, .acc a true) :: _ => a % 4 = 0 && r.length % 4 = 0
    | _ => true)

/-- The checks that the places of a command share (R255, R285); no write through physical space reaches a window table
(R408). -/
def Dev.placesOk (d : Dev) (e : Eng) (src dst : List (List Place)) : Except Nat Unit :=
  let table := decide (d.engWho e = .priv) &&
    dst.flatten.any (fun p => match p.2 with | .hbm x => (d.tableAt x).isSome | _ => false)
  match both (must (!table) stACCESS) (must (!meets src.flatten dst.flatten && addAligned dst) stRANGE) with
  | .error st => .error st
  | .ok _ => .ok ()

/-! ## Plans of the copying commands -/

/-- A straight plan. -/
def straight (runs : List (List Place)) (x : Xform) (dst : List Place) : Plan :=
  { runs := runs, xform := x, writes := dst, fill := [], got := [], src := none }

/-- MV_COPY (R249): the plan and the destination offset. -/
def Dev.planCopy (d : Dev) (e : Eng) (c : Cmd) : Except Nat (Plan × Nat) :=
  let ss := bits (c.w 2) 31 28
  let ds := bits (c.w 2) 27 24
  let n := bits (c.w 3) 23 0 + 1
  let sb := baseOf c (c.flag 14) ss (c.pair 4)
  let db := baseOf c (c.flag 13) ds (c.pair 6)
  let (sa, da) := (baseAt sb (c.pair 4), baseAt db (c.pair 6))
  match both (both sb db) (both (d.place e ss sa n) (d.place e ds da n)) with
  | .error st => .error st
  | .ok (_, s, t) =>
    match d.placesOk e [s] [t] with
    | .error st => .error st
    | .ok _ => .ok ({ straight [s] .copy t with src := if ss = 8 then some sa else none }, da)

/-- MV_COPY2D (R251). -/
def Dev.planCopy2d (d : Dev) (e : Eng) (c : Cmd) (x : Cmd) : Except Nat (Plan × Nat) :=
  let ss := bits (c.w 2) 31 28
  let ds := bits (c.w 2) 27 24
  let n := bits (c.w 3) 23 0 + 1
  let r := bits (x.w 2) 31 16 + 1
  let sb := baseOf c (c.flag 14) ss (c.pair 4)
  let db := baseOf c (c.flag 13) ds (c.pair 6)
  let (sa, da) := (baseAt sb (c.pair 4), baseAt db (c.pair 6))
  match both (both sb db) (both (d.placeRows e ss sa n (x.w 4) r) (d.placeRows e ds da n (x.w 5) r)) with
  | .error st => .error st
  | .ok (_, s, t) =>
    match d.placesOk e s t with
    | .error st => .error st
    | .ok _ => .ok (straight s .copy t.flatten, da)

/-- MV_TLOAD (R252): element rows and, for MX, the scale plane. -/
def Dev.planTload (d : Dev) (e : Eng) (c : Cmd) (x : Cmd) : Except Nat (Plan × Nat) :=
  let ss := bits (c.w 2) 31 28
  let ds := bits (c.w 2) 27 24
  let fmt := bits (c.w 2) 23 20
  let mx := isMx fmt
  let rr := bits (c.w 3) 31 16 + 1
  let cc := bits (c.w 3) 15 0 + 1
  let pad (v : Nat) : Nat := if mx then ceilDiv v 32 * 32 else v
  let nb := elemBits fmt
  let srow := ceilDiv (pad cc * nb) 8
  let drow := ceilDiv (pad rr * nb) 8
  let (sr, sc) := if mx then (ceilDiv rr 32, ceilDiv cc 32) else (0, 0)
  let fOk := (mx || fmt == 8 || fmt == 9) && (bit (c.w 2) 19 == mx) && (ds == 0 || ds == 1 || ds == 3)
  let sb := baseOf c (c.flag 14) ss (c.pair 4)
  let db := baseOf c (c.flag 13) ds (c.pair 6)
  let sxb := baseOf c (c.flag 14) ss (x.pair 4)
  let dxb := baseOf c (c.flag 13) ds (bits (x.w 6) 21 0)
  let (sa, da) := (baseAt sb (c.pair 4), baseAt db (c.pair 6))
  let (sx, dx) := (baseAt sxb (x.pair 4), baseAt dxb (bits (x.w 6) 21 0))
  match both (both (must fOk stRANGE) (both (both sb db) (both sxb dxb)))
        (both (both (d.placeRows e ss sa srow (x.w 2) (pad rr)) (d.place e ss sx (sr * sc)))
          (both (d.placeRows e ds da drow (x.w 3) (pad cc)) (d.place e ds dx (sr * sc)))) with
  | .error st => .error st
  | .ok (_, (s, sp), (t, tp)) =>
    let src := if mx then s ++ [sp] else s
    let dst := if mx then t ++ [tp] else t
    match d.placesOk e src dst with
    | .error st => .error st
    | .ok _ => .ok (straight src (.transpose nb (pad rr) (pad cc) srow sr sc) dst.flatten, da)

/-- MV_SPLOAD (R190, R253): the three planes. -/
def Dev.planSpload (d : Dev) (e : Eng) (c : Cmd) (x : Cmd) : Except Nat (Plan × Nat) :=
  let sp := bits (c.w 2) 31 30
  let fmt := bits (c.w 2) 29 26
  let m := bits (c.w 2) 25 12 + 1
  let k := bits (c.w 3) 31 22 + 1
  let nb := if bits (c.w 3) 21 14 = 0 then ceilDiv k 32 else bits (c.w 3) 21 14
  let pb := ceilDiv nb (patFactor sp)
  let nB := 4 * nb * m
  let nV := pb * e32 fmt * m
  let nS := pb * m
  let elem := 8 * bits (x.w 4) 31 16
  match both (must (sp != 0 && isMx fmt && k ≤ nb * 32) stRANGE)
        (both (both (d.place e 8 (c.pair 4) nB) (both (d.place e 8 (c.pair 6) nV) (d.place e 8 (x.pair 2) nS)))
          (both (d.place e 0 (64 * bits (x.w 5) 12 0) nB) (both (d.place e 0 elem nV) (d.place e 0 (bits (x.w 5) 31 13) nS)))) with
  | .error st => .error st
  | .ok (_, (b, v, s), (tb, tv, ts)) =>
    match d.placesOk e [b, v, s] [tb, tv, ts] with
    | .error st => .error st
    | .ok _ => .ok (straight [b, v, s] (.sparse 0 sp fmt m k nb) (tb ++ tv ++ ts), elem)

/-! ## What a plan does to the bytes -/

/-- The transpose of R252 on the bytes read: element rows, then scales. -/
def transposeBytes (n rr cc row sr sc : Nat) (bs : List Nat) : List Nat :=
  let rows := (List.range rr).map (fun i => ofLE ((bs.drop (i * row)).take row))
  let el := (List.range cc).flatMap (fun j =>
    toLE (ceilDiv (rr * n) 8) (packCodes n (rows.map (fun w => (w >>> (j * n)) % 2 ^ n))))
  let sb := bs.drop (rr * row)
  el ++ (List.range sc).flatMap (fun b => (List.range sr).map (fun a => sb.getD (a * sc + b) 0))

/-- The first violation of R190 in check order: kind, row, group. -/
def sparseFault (sp fmt m k nb : Nat) (bm vs : List Nat) : Option (Nat × Nat × Nat) :=
  let g := patGroup sp
  let n := patKeep sp
  let pb := ceilDiv nb (patFactor sp)
  let eb := elemBits fmt
  (List.range m).findSome? (fun r =>
    let w := ofLE ((bm.drop (4 * nb * r)).take (4 * nb))
    let v := ofLE ((vs.drop (pb * e32 fmt * r)).take (pb * e32 fmt))
    let slot (i : Nat) : Nat := (v >>> (i * eb)) % 2 ^ eb
    let groups := 32 * nb / g
    let fault (i : Nat) : Option (Nat × Nat × Nat) :=
      let b := (w >>> (g * i)) % 2 ^ g
      if n < popcount g b then some (1, r, i)
      else if (List.range n).any (fun s => popcount g b ≤ s && slot (n * i + s) ≠ 0) then some (2, r, i)
      else if (setBits g b).any (fun x => k ≤ g * i + x) then some (3, r, i) else none
    match (List.range groups).findSome? fault with
    | some f => some f
    | none => ((List.range (32 * pb - n * groups)).find? (fun x => slot (n * groups + x) ≠ 0)).map
        (fun x => (2, r, (n * groups + x) / n)))

/-- Bytes in place order: those already got, else free bytes for a remote place that never answered, else those read now.
Answers the count of free bytes used. -/
def mergeBytes (ps : List Place) (got : Map Byte) (here : List Byte) (fr : Nat) : List Byte × Nat :=
  match ps with
  | [] => ([], 0)
  | (a, l) :: r =>
    match l, Map.look got a with
    | .sp .., _ => let (bs, n) := mergeBytes r got here.tail fr; (here.headD 0 :: bs, n)
    | _, some b => let (bs, n) := mergeBytes r got here fr; (b :: bs, n)
    | .far _, none =>
      let (bs, n) := mergeBytes r got here (fr + 1)
      (BitVec.ofNat 8 (Config.freeNat fr) :: bs, n + 1)
    | _, none => let (bs, n) := mergeBytes r got here.tail fr; (here.headD 0 :: bs, n)

/-- The places of a run that are read here and now. -/
def readHere (got : Map Byte) (ps : List Place) : List Loc :=
  ps.filterMap (fun p => match p.2 with
    | .far _ => none
    | .sp c m o => some (.sp c m o)
    | l => if (Map.look got p.1).isSome then none else some l)

/-- Reads the runs of a plan: the bytes, whether some line or word was unreadable, the state (R257). Each unreadable word that the
command has not met before has its record (R239); a corrected word is read again, 2 cycles under ECC_REPLAY (R238). -/
def Dev.readRuns (d : Dev) (e : Eng) (f : InFlight) (p : Plan) (runs : List (List Place)) : List Byte × Bool × Dev :=
  let ls := readHere p.got runs.flatten
  let ws := d.badWords ls
  let fix := d.fixWords ls
  let d := fix.foldl (fun d w => d.spCorrected w.1 w.2.1 w.2.2) d
  let x := d.ctx e
  let d := if fix.isEmpty then d else (d.setCtx e { x with spent := x.spent + 2 * fix.length }).engCount e 9 (2 * fix.length)
  let r := runs.foldl (fun (a : List Byte × Bool × Dev) r =>
    let (bs, bad, d) := a.2.2.readLines (d.iss e f.index f.op) (readHere p.got r)
    let (out, n) := mergeBytes r p.got bs d.free
    (a.1 ++ out, a.2.1 || bad, { d with free := d.free + n })) ([], !ws.isEmpty || d.accUnreadable ls, d)
  (r.1, r.2.1, r.2.2.spMet (d.iss e f.index f.op) (e.k - 1) (ws.filter (fun w => !p.seen.contains w)))

/-- The bytes that a plan writes: constants in their places, read bytes elsewhere. -/
def weave (fill : List (Option Byte)) (bs : List Byte) : List Byte :=
  match fill, bs with
  | [], bs => bs
  | some c :: r, bs => c :: weave r bs
  | none :: r, b :: bs => b :: weave r bs
  | none :: r, [] => 0 :: weave r []

/-- A command's single in-flight entry changed. -/
def Dev.setFlight (d : Dev) (e : Eng) (f : InFlight) : Dev :=
  let x := d.ctx e
  d.setCtx e { x with busy := x.busy.map (fun g => if g.index = f.index then f else g) }

/-- The plan of an engine. -/
def Dev.planOf (d : Dev) (e : Eng) : Option Plan := Map.get (d.core e.n).plan none e.k

/-- Sets or drops it. -/
def Dev.setPlan (d : Dev) (e : Eng) (p : Option Plan) : Dev :=
  let k := d.core e.n
  d.setCore e.n { k with plan := Map.set k.plan none e.k p }

/-- The slot whose attempt accumulator takes a move's lines (R468). -/
def Dev.addSlotDigest (d : Dev) (e : Eng) (w1 : Nat) (bs : List (Nat × Byte)) : Dev :=
  let p := d.engPart e
  let s := d.get (K.CORE_SLOT e.n)
  if 16 ≤ p || 64 ≤ s || bs.isEmpty || d.get (K.VOTE_TICK p) ≤ w1 then d
  else
    let q := d.part p
    let v := (Map.get q.digest 0 s + digestOf (d.get (K.SW_BASE p)) bs) % 2 ^ 128
    d.setPart p { q with digest := Map.set q.digest 0 s v }

/-- Lines of 128 bytes, or of 64, that places touch. -/
def lineCount (n : Nat) (ps : List Place) : Nat :=
  ((ps.map (fun p => match p.2.spot with
    | some (k, o) => k * 2 ^ 50 + o / n
    | none => 2 ^ 60 + p.1 / n)).eraseDups).length

/-- A run whose cost its fixed term sets (R259), for a latency L of at most 512 cycles: the term that counts lines is less. -/
def shortRun (src dst : List Place) : Bool :=
  let isSp (p : Place) : Bool := match p.2 with | .sp .. => true | _ => false
  if src.all isSp && dst.all isSp then ceilDiv (lineCount 64 src) 4 < 4
  else ceilDiv (lineCount 128 (if src.all isSp then dst else src)) 2 < 16

/-- The runs of a plan (R259): the scale plane of a transposing load is none. -/
def Plan.counted (p : Plan) : List (List Place) :=
  match p.xform with
  | .transpose _ _ _ _ sr _ => if sr = 0 then p.runs else p.runs.dropLast
  | _ => p.runs

/-- The runs with the places written from each. -/
def pairRuns (runs : List (List Place)) (dst : List Place) : List (List Place × List Place) :=
  match runs with
  | [] => []
  | r :: t => (r, dst.take r.length) :: pairRuns t (dst.drop r.length)

/-- The granules of WM and AM that places lie in, as `granKey` has them for a command of core `c`. -/
def placeGrans (c : Nat) (ps : List Place) : List Nat :=
  (ps.filterMap (fun p => match p.2 with
    | .sp c' m o => if m < 2 then some (granKey c c' m o) else none
    | _ => none)).eraseDups

/-- Granules of WM all of whose bytes a copy from a fabric source here wrote, with that source plus 1 (R425). -/
def wholeGrans (src : Nat) (ps : List Place) : List (Nat × Nat) :=
  match ps with
  | (_, .sp _ 0 o) :: _ =>
    (List.range 193).filterMap (fun g =>
      if o ≤ 2048 * g && 2048 * (g + 1) ≤ o + ps.length then some (g, src + (2048 * g - o) + 1) else none)
  | _ => []

/-- The write stage of a plan: local writes, writes to other devices, digests, counters; the command then completes once
its remote writes are acknowledged. -/
def Dev.putBytes (d : Dev) (e : Eng) (f : InFlight) (p : Plan) (out : List Byte) (bad : Bool) : Dev :=
  let pairs := p.writes.zip out
  let local' := pairs.filterMap (fun x => match x.1.2 with | .far _ => none | l => some (l, x.2))
  let fab := pairs.filterMap (fun x => match x.1.2 with | .sp .. => none | _ => some (x.1.1, x.2))
  let far := pairs.filterMap (fun x => match x.1.2 with | .far a => some (a, x.2) | _ => none)
  let (badW, d) := d.writeRun (d.iss e f.index f.op) (e.k - 1) local'
  let (ids, st, d) := d.tellFar e f.index f.attempt far
  let d := if e.k = 3 then d.addSlotDigest e f.tick fab else d
  let k := d.core e.n
  let src := match p.src with | some a => wholeGrans a p.writes | none => []
  let d := d.setCore e.n { k with src := src.foldl (fun m g => Map.set m 0 g.1 g.2) k.src }
  let st := stWorst st (stWorst f.status (if bad || badW then stECC else stOK))
  let d := (d.setPlan e none).setFlight e { f with outs := ids, status := st, grans := placeGrans e.n p.writes }
  if e.k = 3 then
    ((d.cnt (K.MV_BYTES e.n) p.writes.length).cnt (K.MV_RUNS e.n) p.counted.length).cnt (K.MV_SHORT_RUNS e.n)
      ((pairRuns p.counted p.writes).countP (fun r => shortRun r.1 r.2))
  else d

/-- Refuses a sparse operand in a phase (R191, R192). -/
def Dev.sparseRefuse (d : Dev) (e : Eng) (f : InFlight) (kind r g : Nat) (written : List (Loc × Byte)) : Dev :=
  let (_, d) := d.writeRun (d.iss e f.index f.op) 2 written
  let d := (d.setPlan e none).setFlight e { f with status := stWorst f.status stSPARSE, outs := [] }
  let syn := kind * 2 ^ 28 + r * 2 ^ 14 + g
  let d := d.put (K.SPL_LAST_SYNDROME e.n) syn
  d.file { cls := 2, syndrome := syn, aux := 0, unit := e.unit, index := f.index, opcode := f.op,
           status := stSPARSE, part := d.engPart e }

/-- All reads of a plan are answered: the last stage of a command. -/
def Dev.planData2 (d : Dev) (e : Eng) (f : InFlight) (p : Plan) : Dev :=
  let (bs, bad, d) := d.readRuns e f p p.runs
  match p.xform with
  | .copy => d.putBytes e f p (weave p.fill bs) bad
  | .transpose n rr cc row sr sc =>
    d.putBytes e f p ((transposeBytes n rr cc row sr sc (bs.map BitVec.toNat)).map (BitVec.ofNat 8)) bad
  | .sparse _ sp fmt m k nb =>
    let n := bs.map BitVec.toNat
    match sparseFault sp fmt m k nb (n.take (4 * nb * m)) (n.drop (4 * nb * m)) with
    | none => d.putBytes e f p bs bad
    | some (_, r, g) =>
      let before := (p.writes.map Prod.snd).zip bs
      d.sparseRefuse e f 4 r g (before.take ((4 * nb * m) * r / max 1 m))

/-- Bytes of remote sources that are still missing, asked for; the command waits for the answers. -/
def Dev.askPlan (d : Dev) (e : Eng) (f : InFlight) (p : Plan) (runs : List (List Place)) : Dev × Bool :=
  let far := runs.flatten.filterMap (fun x => match x.2 with | .far a => some a | _ => none)
  let (ids, st, d) := d.askFar e f.index f.attempt far
  ((d.setPlan e (some p)).setFlight e { f with outs := ids, status := stWorst f.status st }, ids.isEmpty)

/-- The command of an engine that is in flight. -/
def Dev.flight (d : Dev) (e : Eng) : Option InFlight := (d.ctx e).busy.head?

/-- The second stage of a sparse load. -/
def Dev.stage2 (d : Dev) (e : Eng) (f : InFlight) (p : Plan) : Dev :=
  let (d, now) := d.askPlan e f p p.runs
  if now then (match d.flight e with | some f => d.planData2 e f p | none => d) else d

/-- What phase 2 of a sparse load does not read again: the scale bytes that run-ahead has read (R190, R193). -/
def Plan.scalesGot (p : Plan) : Map Byte := p.got.filter (fun x => (p.runs.getD 2 []).any (fun y => y.1 == x.1))

/-- All reads of the present stage are answered: the check of a sparse load in phase 1, then phase 2; else the data. -/
def Dev.planData (d : Dev) (e : Eng) : Dev :=
  match d.planOf e, d.flight e with
  | some p, some f =>
    match p.xform with
    | .sparse 1 sp fmt m k nb =>
      let seen := d.badWords (readHere p.got (p.runs.take 2).flatten)
      let (bs, bad, d) := d.readRuns e f p (p.runs.take 2)
      let n := bs.map BitVec.toNat
      let f := { f with status := if bad then stWorst f.status stECC else f.status }
      let per := 32 * nb / patGroup sp
      (match sparseFault sp fmt m k nb (n.take (4 * nb * m)) (n.drop (4 * nb * m)) with
       | some (kind, r, g) => (d.cnt (K.SPL_GROUPS e.n) (per * r + min (g + 1) per)).sparseRefuse e f kind r g []
       | none =>
         let d := d.cnt (K.SPL_GROUPS e.n) (per * m)
         d.stage2 e f { p with xform := .sparse 2 sp fmt m k nb, got := p.scalesGot, seen := seen })
    | _ => d.planData2 e f p
  | _, _ => d

/-- The core whose array reserves a granule that a plan writes, or one of PM that it reads (R145). -/
def Dev.planHeld (d : Dev) (p : Plan) : Option Nat :=
  let by' (f : Core → Nat → Nat → Bool) (ps : List Place) : Option Nat := ps.findSome? (fun (x : Place) => match x.2 with
    | .sp c m o => if f (d.core c) m o then some c else none
    | _ => none)
  match by' Core.heldRead p.runs.flatten with
  | some c => some c
  | none => by' Core.heldWrite p.writes

/-- An issued command goes on with its plan: not while a reference is unanswered or a reservation holds an access of it (R145), and
a sparse load begins no phase of reads while its core is switched (R269). Phase 0 clears the resident bits of the destination
(R190). -/
def Dev.planGo (d : Dev) (e : Eng) : Dev :=
  match d.planOf e, d.flight e with
  | some p, some f =>
    if !f.outs.isEmpty || (d.planHeld p).isSome then d
    else match p.xform with
      | .sparse 0 sp fmt m k nb =>
        if d.switching e.n then d else
        let k' := d.core e.n
        let d := d.setCore e.n { k' with resident := (placeGrans e.n p.writes).foldl (fun m g => Map.set m false g false) k'.resident }
        let (d, now) := d.askPlan e f { p with xform := .sparse 1 sp fmt m k nb } (p.runs.take 2)
        if now then d.planData e else d
      | .sparse 1 .. => if d.switching e.n then d else d.planData e
      | _ => d.planData e
  | _, _ => d

/-- Empties the run-ahead buffer (R263). -/
def Dev.raEmpty (d : Dev) (c : Nat) : Dev :=
  let k := d.core c
  let n := (k.ra.map (fun r => r.bytes.length)).sum
  (d.setCore c { k with ra := [], raStop := 0 }).cnt (K.RA_DISCARDED c) n

/-- An accepted command with its plan: waiting for memory, or issued (R27, R256, R261, R287, R288). -/
def Dev.startPlan (d : Dev) (e : Eng) (c : Cmd) (slots : Nat) (p : Plan) (space off status : Nat) : Dev :=
  let k := d.core e.n
  let ps := p.runs.flatten ++ p.writes
  match d.memWait e ps with
  | some d => d
  | none =>
    let buf : Map Byte := if e.k = 3 then ((k.ra.find? (fun r => r.index == c.index)).map RaEntry.bytes).getD [] else []
    let d := if e.k = 3 then (d.setCore e.n { k with ra := k.ra.filter (fun r => c.index < r.index) }).cnt (K.RA_USED e.n) buf.length
             else d
    let f := d.inflight e c status space off 0
    let x := d.ctx e
    let d := ((d.setCtx e { x with busy := x.busy ++ [f] }).advance e slots).trkTake e c.index ps
    let p := { p with got := buf }
    match p.xform with
    | .sparse .. => (d.setPlan e (some p)).planGo e
    | _ => (d.askPlan e f p p.runs).1.planGo e

/-! ## Commands of the move engine -/

/-- The cause of a command whose extension slot is not one that R172 lets it own: R41 selects between that and what the checks of
R255 find in the slot's words. -/
def Dev.extFault {α : Type} (d : Dev) (e : Eng) (c : Cmd) (st : Nat) (mk : Cmd → Except Nat α) : Nat :=
  match (d.slot e (c.index + 1)).1 with
  | .ok ws => (match mk { index := 0, words := ws, handle := none } with | .error t => stWorst st t | .ok _ => st)
  | .error _ => st

/-- Issue of a move command of `acc` with `n` list slots and the plan that `mk` makes of it. Its checks are made when its tick and
handle conditions hold (R255); it issues once the command before it has completed (R256). -/
def Dev.mvIssue (d : Dev) (c op : Nat) (mk : Dev → Cmd → Cmd → Except Nat (Plan × Nat)) (space : Cmd → Nat) : Dev :=
  let e := eng 3 c
  d.issue e (· == op) (fun d cmd n =>
    match d.exts e cmd n with
    | (.error st, d) => if st = stWAIT then d else d.reject e cmd n (d.extFault e cmd st (mk d cmd))
    | (.ok es, d) =>
      match mk d cmd { index := 0, words := es.headD [], handle := none } with
      | .error st => d.reject e cmd n st
      | .ok (p, off) =>
        let sp := space cmd
        if !(d.ctx e).busy.isEmpty then d
        else if sp < 4 then d.startPlan e cmd n p sp off stOK else d.startPlan e cmd n p 4 0 stOK)

/-- MV_NOP. -/
def Dev.mvNop (d : Dev) (c : Nat) : Dev :=
  d.issue (eng 3 c) (· == 0) (fun d cmd _ => if (d.ctx (eng 3 c)).busy.isEmpty then d.relay (eng 3 c) cmd else d)

/-- MV_FENCE (R254, R263). -/
def Dev.mvFence (d : Dev) (c : Nat) : Dev :=
  d.issue (eng 3 c) (· == 1) (fun d cmd n =>
    if !(d.ctx (eng 3 c)).busy.isEmpty then d
    else ((d.raEmpty c).cnt (K.MV_FENCES c) 1).instant (eng 3 c) cmd n (token 0))

/-- MV_COPY. -/
def Dev.mvCopy (d : Dev) (c : Nat) : Dev :=
  d.mvIssue c 0x10 (fun d cmd _ => d.planCopy (eng 3 c) cmd) (fun cmd => bits (cmd.w 2) 27 24)
/-- MV_COPY2D. -/
def Dev.mvCopy2d (d : Dev) (c : Nat) : Dev :=
  d.mvIssue c 0x11 (fun d cmd x => d.planCopy2d (eng 3 c) cmd x) (fun cmd => bits (cmd.w 2) 27 24)
/-- MV_TLOAD. -/
def Dev.mvTload (d : Dev) (c : Nat) : Dev :=
  d.mvIssue c 0x13 (fun d cmd x => d.planTload (eng 3 c) cmd x) (fun cmd => bits (cmd.w 2) 27 24)
/-- MV_SPLOAD. -/
def Dev.mvSpload (d : Dev) (c : Nat) : Dev :=
  d.mvIssue c 0x18 (fun d cmd x => d.planSpload (eng 3 c) cmd x) (fun _ => 0)

/-- The verify of a move's WM granules (R240): each granule that the command wrote, of any core, whose computed checksum is not
the expected one counts and has its record. -/
def Dev.verifyMove (d : Dev) (c : Nat) (f : InFlight) : Bool × Dev :=
  (f.grans.filter (fun g => g % 1024 < 192)).foldl (fun (a : Bool × Dev) g =>
    let (k, x) := granOf c g
    if (a.2.core k).mismatch x then
      (true, (Dev.bump 32 a.2 (K.WM_CRC_FAIL k) 1).spRecord k 0 3 (x * 256) 2 f.index f.op)
    else a) (false, d)

/-- MOVE_COMPLETE (R240, R256, R257): the command in flight whose references are all answered. `bad` names granules, as
`granKey` has them, whose contents the verify finds not to be those written, among those of WM that the command wrote. -/
def Dev.moveComplete (d : Dev) (c : Nat) (bad : List Nat) : Dev :=
  let e := eng 3 c
  match d.flight e with
  | none => d
  | some f =>
    if !f.outs.isEmpty || (d.planOf e).isSome || d.now < f.hold then d else
    let bad := (bad.eraseDups).filter (fun g => g % 1024 < 192 && f.grans.contains g)
    let d := bad.foldl (fun d g => let (k, x) := granOf c g; d.corrupt k x) d
    let (wrong, d) := d.verifyMove c f
    let st := if wrong then stWorst f.status stECC else f.status
    let x := d.ctx e
    (d.setCtx e { x with busy := x.busy.tail }).finish e { f with status := st } { status := 0, space := f.space, offset := f.offset }

/-! ## Run-ahead -/

/-- The fabric source runs of a command in the order in which it reads them: start and length (R261). -/
def raRuns (c x : Cmd) : List (Nat × Nat) :=
  let fab := bits (c.w 2) 31 28 = 8
  match c.op with
  | 0x10 => if fab then [(c.pair 4, bits (c.w 3) 23 0 + 1)] else []
  | 0x11 => if fab then (List.range (bits (x.w 2) 31 16 + 1)).map (fun i => (c.pair 4 + i * x.w 4, bits (c.w 3) 23 0 + 1)) else []
  | 0x13 =>
    if fab then
      let fmt := bits (c.w 2) 23 20
      let mx := isMx fmt
      let pad (v : Nat) : Nat := if mx then ceilDiv v 32 * 32 else v
      let rr := bits (c.w 3) 31 16 + 1
      let cc := bits (c.w 3) 15 0 + 1
      (List.range (pad rr)).map (fun i => (c.pair 4 + i * x.w 2, ceilDiv (pad cc * elemBits fmt) 8)) ++
      (if mx then [(x.pair 4, ceilDiv rr 32 * ceilDiv cc 32)] else [])
    else []
  | 0x18 =>
    let sp := bits (c.w 2) 31 30
    let m := bits (c.w 2) 25 12 + 1
    let k := bits (c.w 3) 31 22 + 1
    let nb := if bits (c.w 3) 21 14 = 0 then ceilDiv k 32 else bits (c.w 3) 21 14
    let pb := ceilDiv nb (patFactor sp)
    [(c.pair 4, 4 * nb * m), (c.pair 6, pb * e32 (bits (c.w 2) 29 26) * m), (x.pair 2, pb * m)]
  | _ => []

/-- What stops run-ahead at a byte (R262): 0 for nothing. `follows`: the byte continues from the one before it. -/
def Dev.raStopAt (d : Dev) (w : Who) (a : Nat) (follows : Bool) : Nat :=
  let own := match w with | .part p => bits a 50 47 == p | .priv => false | .host => false
  if bit a 51 || !own then 3
  else if bits a 63 52 ≠ d.get K.DEVICE_NUMBER then 4
  else if a % 0x200000 ≠ 0 && follows then 0
  else
    let e := Map.get (d.part (bits a 50 47)).window 0 (bits a 46 21)
    let mapped := bit e 63 && bits a 46 21 < d.get (K.WIN_PAGES (bits a 50 47))
    if follows then (if mapped && bit e 60 then 0 else 1) else if mapped then 0 else 2

/-- Run-ahead's reading of one command: the bytes that the buffer takes, how many source bytes it has gone through, the reason of
a stop, the places that it has read, and the places that it waits for. -/
structure RaScan where
  bytes : Map Byte
  count : Nat
  stop : Nat
  read : List Place
  wait : List Place
deriving DecidableEq, Repr

/-- Goes on through the source addresses of a command, `prev` the address before them, until a stop, a full buffer, a locking
accumulation area or a sleeping domain (R261, R262, R284, R442). -/
def Dev.raScan (d : Dev) (w : Who) (room prev : Nat) (as : List Nat) (s : RaScan) : RaScan :=
  match as with
  | [] => s
  | a :: r =>
    if room ≤ s.bytes.length then s
    else match d.raStopAt w a (a == prev + 1 && s.count != 0) with
      | 0 => (match d.xlate w a with
        | .error _ => { s with stop := 2 }
        | .ok l =>
          if d.shut [l] || !(d.asleep [(a, l)]).isEmpty then { s with wait := [(a, l)] }
          else
            let lost := match l with | .hbm y => d.lineBad (y / 128) | _ => d.accUnreadable [l]
            d.raScan w room a r { s with bytes := if lost then s.bytes else Map.ins s.bytes a (d.peek l), count := s.count + 1,
                                          read := s.read ++ [(a, l)] })
      | n => { s with stop := n }

/-- Counts a stop of run-ahead, once for each command at which it stops (R262). -/
def Dev.raCount (d : Dev) (c i reason : Nat) : Dev :=
  let k := d.core c
  if reason = 0 || k.raStop = i * 16 + reason then d
  else (d.setCore c { k with raStop := i * 16 + reason }).cnt (K.RA_STOPS c (reason - 1)) 1

/-- Run-ahead reads on for the command of an entry, from where its reading stands; its reads go through the home stage cache
(R261). -/
def Dev.raRead (d : Dev) (c op : Nat) (runs : List (Nat × Nat)) (x : RaEntry) : Dev :=
  let e := eng 3 c
  let k := d.core c
  let rest := k.ra.filter (fun r => r.index != x.index)
  let room := 131072 - (rest.map (fun r => r.bytes.length)).sum
  let as := runs.flatMap (fun r => (List.range r.2).map (r.1 + ·))
  let from' := x.left.getD 0
  let s := d.raScan (d.engWho e) room (as.getD (from' - 1) 0) (as.drop from') { bytes := x.bytes, count := from', stop := 0, read := [], wait := [] }
  let iss := d.iss e x.index op
  let lines := hbmLines (s.read.map Prod.snd)
  let d := lines.foldl (fun d ln => if d.lineBad ln then d.cacheTouch ln false true 0 else (d.readLine iss ln).2) d
  let d := d.meter iss.part false (s.read.countP (fun l => match l.2 with | .hbm _ => true | _ => false))
  let d := (d.asleep s.wait).foldl Dev.wakeDom d
  let k := d.core c
  let y := { x with bytes := s.bytes, stop := s.stop, left := if s.stop = 0 && s.count < as.length then some s.count else none }
  ((d.setCore c { k with ra := rest ++ [y] }).cnt (K.RA_BYTES c) (s.bytes.length - x.bytes.length)).raCount c x.index s.stop

/-- Run-ahead comes to the command at index `i` (R262, reasons 5 to 9). -/
def Dev.raNext (d : Dev) (c i : Nat) (runsAt : Nat → List (Nat × Nat)) : Dev :=
  let e := eng 3 c
  if (d.ctx e).count < i then d.raCount c i 9 else
  match d.slot e i with
  | (.error _, _) => d
  | (.ok ws, d') =>
    let cmd : Cmd := { index := i, words := ws, handle := none }
    if cmd.op = 1 then d.raCount c i 5
    else if cmd.op ≠ 0 && cmd.flag 15 then d.raCount c i 6
    else if d.now + d.get (K.RA_WINDOW c) < d.release e (cmd.w 1) then d.raCount c i 7
    else if d.get (K.RA_DEPTH c) ≤ (d.core c).ra.length then d.raCount c i 8
    else
      let n := slotsOf 3 cmd.op (cmd.w 2)
      let d := (List.range (n - 1)).foldl (fun d j => (d.slot e (i + 1 + j)).2) d'
      d.raRead c cmd.op (runsAt i) { index := i, next := i + n, bytes := [] }

/-- RUN_AHEAD_READ (R261, R262): goes on with the command at which the buffer was full, or takes the next command that run-ahead
has not considered, and stops at the first condition of R262 that holds there; it passes no command at which it has stopped. -/
def Dev.runAheadRead (d : Dev) (c : Nat) : Dev :=
  let e := eng 3 c
  let x := d.ctx e
  if !d.running e || !x.fetched || x.index = 0 || !d.flag (K.RA_ENABLE c) then d else
  let d := d.setCore c { (d.core c) with ra := (d.core c).ra.filter (fun r => x.index ≤ r.index) }
  let k := d.core c
  let cmdAt (i : Nat) : Cmd := match (d.slot e i).1 with
    | .ok ws => { index := i, words := ws, handle := none }
    | .error _ => { index := i, words := [], handle := none }
  let runsAt (i : Nat) : List (Nat × Nat) := let cmd := cmdAt i
    raRuns cmd (if slotsOf 3 cmd.op (cmd.w 2) = 2 then cmdAt (i + 1) else { index := 0, words := [], handle := none })
  match k.ra.getLast? with
  | some r =>
    if r.stop ≠ 0 then d
    else if r.left.isSome then d.raRead c (cmdAt r.index).op (runsAt r.index) r
    else d.raNext c (max r.next x.index) runsAt
  | none => d.raNext c x.index runsAt

/-! ## The gather engine -/

/-- GT_NOP. -/
def Dev.gtNop (d : Dev) (c : Nat) : Dev :=
  d.issue (eng 4 c) (· == 0) (fun d cmd _ => if (d.ctx (eng 4 c)).busy.isEmpty then d.relay (eng 4 c) cmd else d)

/-- A gather's plan so far, the status of its rows and its counts: rows, out of range, unmapped. -/
structure Gather where
  runs : List (List Place)
  writes : List Place
  fill : List (Option Byte)
  status : Nat
  rows : Nat
  out : Nat
  unmapped : Nat
deriving DecidableEq, Repr

/-- Places of a scratchpad. -/
def spPlaces (c mem off n : Nat) : List Place := (List.range n).map (fun i => (0, .sp c mem (off + i)))

/-- One entry of the index list (R267). -/
def Dev.gatherEntry (d : Dev) (e : Eng) (table stride trows rb dmem row vals : Nat) (vb : Option Nat) (x : Nat) (g : Gather) : Gather :=
  let src := if trows ≤ x then Except.error stRANGE else d.place e 8 (table + x * stride) rb
  let dst := spPlaces e.n dmem row rb
  let vw := match vb with | some o => spPlaces e.n dmem o 4 | none => []
  let vf (v : Nat) : List (Option Byte) := match vb with
    | some _ => (toLE 4 v).map (fun b => some (BitVec.ofNat 8 b))
    | none => []
  match src with
  | .ok ps => { g with runs := g.runs ++ [ps], writes := g.writes ++ dst ++ vw,
                       fill := g.fill ++ List.replicate rb none ++ vf vals, rows := g.rows + 1 }
  | .error st => { g with writes := g.writes ++ dst ++ vw, fill := g.fill ++ List.replicate rb (some 0) ++ vf 0,
                          status := stWorst g.status st,
                          out := g.out + ofBool (trows ≤ x), unmapped := g.unmapped + ofBool (x < trows) }

/-- A gather as its slots spell it (R266): the index list's base, entries and element size, table rows, row bytes, row
stride, destination memory, base and pitch, the base of the values, seeding. -/
structure GtCall where
  ib : Nat
  ni : Nat
  tr : Nat
  rb : Nat
  stride : Nat
  dmem : Nat
  db : Nat
  pitch : Nat
  vb : Option Nat
  seed : Bool
deriving DecidableEq, Repr

/-- Bytes of an index-list entry. -/
def GtCall.esz (x : GtCall) : Nat := if x.vb.isSome then 8 else 4

/-- Some byte of the index list is one of a destination row or of a value (R255, R267). -/
def GtCall.overlaps (x : GtCall) : Bool :=
  let hit (a n : Nat) : Bool := x.ib < a + n && a < x.ib + x.esz * x.ni
  let sg := ofBool x.seed
  x.dmem == 1 && ((List.range x.ni).any (fun i => hit (x.db + (i + sg) * x.pitch) x.rb) ||
    (match x.vb with | some v => hit v (4 * (x.ni + sg)) | none => false))

/-- Decodes and checks a gather (R266). -/
def gtDecode (cmd x : Cmd) : Except Nat GtCall :=
  let vals := cmd.flag 15
  let seed := cmd.flag 14
  let dmem := if cmd.flag 13 then 3 else 1
  let ni := bits (cmd.w 2) 31 16 + 1
  let rb := bits (cmd.w 3) 16 0
  let tr := cmd.w 6
  let stride := if x.w 2 = 0 then rb else x.w 2
  let pitch := bits (x.w 5) 21 0
  let vb := bits (x.w 6) 21 0
  let esz := if vals then 8 else 4
  let sg := ofBool seed
  match both (baseOf cmd (cmd.flag 12) 1 (bits (x.w 3) 21 0)) (baseOf cmd (cmd.flag 11) dmem (bits (x.w 4) 21 0)) with
  | .error st => .error st
  | .ok (ib, db) =>
    let ok := rb % 4 = 0 && 4 ≤ rb && rb ≤ 65536 && 1 ≤ tr && rb ≤ pitch && ib + esz * ni ≤ spSize 1 &&
      db + (ni + sg - 1) * pitch + rb ≤ spSize dmem && (!vals || vb + 4 * (ni + sg) ≤ spSize dmem)
    let y : GtCall := { ib := ib, ni := ni, tr := tr, rb := rb, stride := stride, dmem := dmem, db := db, pitch := pitch,
                        vb := if vals then some vb else none, seed := seed }
    if !ok || y.overlaps then .error stRANGE else .ok y

/-- The rows that a gather takes and the places it writes (R267), and the unreadable words of its index list. -/
def Dev.gather (d : Dev) (c : Nat) (cmd : Cmd) (x : GtCall) : Gather × List Nat :=
  let e := eng 4 c
  let k := d.core c
  let sg := ofBool x.seed
  let list := spPlaces c 1 x.ib (x.esz * x.ni)
  let bad := (list.filterMap (fun p => match p.2 with
    | .sp _ m o => if k.bad m o then some (o / 8) else none
    | _ => none)).eraseDups
  let byteAt (o : Nat) : Nat := if k.bad 1 o then 0 else (k.byte 1 o).toNat
  let word (o : Nat) : Nat := ofLE ((List.range 4).map (fun i => byteAt (o + i)))
  let first := x.seed && x.vb.isSome
  let g0 : Gather :=
    { runs := [], writes := if first then spPlaces c x.dmem (x.vb.getD 0) 4 else [],
      fill := if first then (toLE 4 0x3F800000).map (fun b => some (BitVec.ofNat 8 b)) else [],
      status := if bad.isEmpty then stOK else stECC, rows := 0, out := 0, unmapped := 0 }
  let g := (List.range x.ni).foldl (fun g i =>
    d.gatherEntry e (cmd.pair 4) x.stride x.tr x.rb x.dmem (x.db + (i + sg) * x.pitch) (word (x.ib + x.esz * i + 4))
      (x.vb.map (· + 4 * (i + sg))) (word (x.ib + x.esz * i)) g) g0
  (g, bad)

/-- The index that an entry of a gather's list names; unreadable words read as zeros. -/
def Core.gtIndex (k : Core) (x : GtCall) (i : Nat) : Nat :=
  ofLE ((List.range 4).map (fun j => let o := x.ib + x.esz * i + j; if k.bad 1 o then 0 else (k.byte 1 o).toNat))

/-- What R39 and R255 find in a gather whose rows lie in physical space, of the table's address and of each listed row: the causes
that are no outcome of a row (R267). -/
def Dev.gtPhysical (d : Dev) (c : Nat) (cmd : Cmd) (x : GtCall) : Nat :=
  let e := eng 4 c
  let at' (a n : Nat) : Nat := if bit a 51 then (match d.place e 8 a n with | .ok _ => stOK | .error st => st) else stOK
  (List.range x.ni).foldl (fun st i =>
    let v := (d.core c).gtIndex x i
    if v < x.tr then stWorst st (at' (cmd.pair 4 + v * x.stride) x.rb) else st) (at' (cmd.pair 4) 1)

/-- The words of a gather's index list, as keys of `Core.badWord`. -/
def GtCall.listKeys (x : GtCall) : List Nat :=
  ((List.range (x.esz * x.ni)).map (fun i => spKey 1 (x.ib + i) / 8)).eraseDups

/-- Starts an accepted gather; what it gathered counts where it issues (R269), and the words of its list that the read corrects
cost it 2 cycles each (R238). -/
def Dev.gtStart (d : Dev) (c : Nat) (cmd : Cmd) (n : Nat) (x : GtCall) : Dev :=
  let e := eng 4 c
  let (g, bad) := d.gather c cmd x
  let plan : Plan := { runs := g.runs, xform := .copy, writes := g.writes, fill := g.fill, got := [], src := none }
  let before := (d.ctx e).index
  let d1 := d.startPlan e cmd n plan x.dmem x.db g.status
  if (d1.ctx e).index = before then d1
  else
    let fix := x.listKeys.filter (d.core c).fixes
    let d1 := (d1.spFix c fix).spRecords c 1 3 cmd.index cmd.op bad
    let y := d1.ctx e
    let d1 := if fix.isEmpty then d1 else (d1.setCtx e { y with spent := y.spent + 2 * fix.length }).engCount e 9 (2 * fix.length)
    let d1 := (d1.cnt (K.GT_ROWS c) g.rows).cnt (K.GT_BYTES c) (g.rows * x.rb)
    (d1.cnt (K.GT_OUT_OF_RANGE c) g.out).cnt (K.GT_UNMAPPED c) g.unmapped

/-- The checks of a gather (R255, R266, R267): its fields, and what it names in physical space. -/
def gtCheck (d : Dev) (c : Nat) (cmd x : Cmd) : Except Nat GtCall :=
  let table := if bit (cmd.pair 4) 51 then (match d.place (eng 4 c) 8 (cmd.pair 4) 1 with | .ok _ => stOK | .error st => st) else stOK
  match gtDecode cmd x with
  | .error st => .error (stWorst st table)
  | .ok y => let st := d.gtPhysical c cmd y; if st = stOK then .ok y else .error st

/-- GT_ROWS (R266, R267). -/
def Dev.gtRows (d : Dev) (c : Nat) : Dev :=
  let e := eng 4 c
  d.issue e (· == 0x10) (fun d cmd n =>
    match d.exts e cmd n with
    | (.error st, d) => if st = stWAIT then d else d.reject e cmd n (d.extFault e cmd st (gtCheck d c cmd))
    | (.ok es, d) =>
      match gtCheck d c cmd { index := 0, words := es.headD [], handle := none } with
      | .error st => d.reject e cmd n st
      | .ok x => if !(d.ctx e).busy.isEmpty then d else d.gtStart c cmd n x)

/-- GATHER_COMPLETE (R268). -/
def Dev.gatherComplete (d : Dev) (c : Nat) : Dev :=
  let e := eng 4 c
  match d.flight e with
  | none => d
  | some f =>
    if !f.outs.isEmpty || (d.planOf e).isSome || d.now < f.hold then d else
    let x := d.ctx e
    (d.setCtx e { x with busy := x.busy.tail }).finish e f { status := 0, space := f.space, offset := f.offset }

/-! ## Answers from other devices -/

/-- A response has come for a reference, or will not come: the bytes it carries and its status. -/
def Dev.remoteAnswer (d : Dev) (id : Nat) (r : Remote) (data : List Nat) (status : Nat) : Dev :=
  let d := { d with remote := Map.del d.remote id }
  if r.list then d.listAnswer r data status else
  let e : Eng := { k := r.k, n := r.n, p := r.p }
  match d.flight e with
  | none => d
  | some f =>
    if !f.outs.contains id then d else
    let f := { f with outs := f.outs.erase id, status := stWorst f.status status }
    let d := d.setFlight e f
    match d.planOf e with
    | none => d
    | some p =>
      let got := (List.range data.length).zip data |>.foldl (fun m x => Map.ins m (r.addr + x.1) (BitVec.ofNat 8 x.2)) p.got
      let d := d.setPlan e (some { p with got := got })
      d.planGo e

/-- Plans of a core that a reservation or a switch held go on (R145, R269). -/
def Dev.plansGo (d : Dev) (c : Nat) : Dev := (d.planGo (eng 3 c)).planGo (eng 4 c)

end Sys2Proof.Machine
end

