-- ==== Sys2Proof/Machine/Update.lean ====
section
/-! DEFINITION. The update engines (R131, R313 to R335). -/
namespace Sys2Proof.Machine

/-- An update engine's context for a partition. -/
def upe (u p : Nat) : Eng := { k := 5, n := u, p := p }

/-- A byte at a window address that the command's checks have translated. -/
def Dev.winByte (d : Dev) (e : Eng) (a : Nat) : Nat :=
  match d.xlate (d.engWho e) a with
  | .ok l => (d.peek l).toNat
  | .error _ => 0

/-- Its line cannot be read. -/
def Dev.winBad (d : Dev) (e : Eng) (a : Nat) : Bool :=
  match d.xlate (d.engWho e) a with
  | .ok (.hbm x) => d.lineBad (x / 128)
  | _ => false

/-- Little-endian value of `n` bytes at a window address. -/
def Dev.winLE (d : Dev) (e : Eng) (a n : Nat) : Nat := ofLE ((List.range n).map (fun i => d.winByte e (a + i)))
/-- Some byte of the value lies in a line that cannot be read. -/
def Dev.winAnyBad (d : Dev) (e : Eng) (a n : Nat) : Bool := (List.range n).any (fun i => d.winBad e (a + i))

/-- An operand span lies in the engine's own stack (R313, R317). -/
def Dev.upSpan (d : Dev) (e : Eng) (a n : Nat) : Except Nat (List Loc) :=
  match d.xlateRun (d.engWho e) a n with
  | .error st => .error st
  | .ok ls =>
    if ls.all (fun l => match l with | .hbm x => x / chBytes / 16 == e.n | _ => false) then .ok ls else .error stRANGE

/-- All spans of a list (base, bytes) are in place. -/
def Dev.upSpans (d : Dev) (e : Eng) (ss : List (Nat × Nat)) : Except Nat (List (List Loc)) :=
  ss.foldr (fun s acc => match both (d.upSpan e s.1 s.2) acc with
    | .ok (x, l) => .ok (x :: l)
    | .error st => .error st) (.ok [])

/-- Two spans of places share a byte. -/
def locsMeet (a b : List Loc) : Bool := meets (a.map (fun l => (0, l))) (b.map (fun l => (0, l)))

/-- Reads spans for their effects: lookups, records, meters. -/
def Dev.upRead (d : Dev) (e : Eng) (index op : Nat) (ls : List Loc) : Bool × Dev :=
  let (_, bad, d) := d.readRun (d.iss e index op) 0 ls
  (bad, d)

/-- Writes bytes at window addresses. -/
def Dev.upWrite (d : Dev) (e : Eng) (index op : Nat) (bs : List (Nat × Byte)) : Bool × Dev :=
  d.writeRun (d.iss e index op) 0 (bs.filterMap (fun b => match d.xlate (d.engWho e) b.1 with
    | .ok l => some (l, b.2)
    | .error _ => none))

/-- A swatch accumulator plus the digests of the lines written (R332). -/
def Dev.addSwatch (d : Dev) (e : Eng) (slot : Nat) (bs : List (Nat × Byte)) : Dev :=
  let q := d.part e.p
  let v := (Map.get q.swatch 0 slot + digestOf (d.get (K.SW_BASE e.p)) bs) % 2 ^ 128
  d.setPart e.p { q with swatch := Map.set q.swatch 0 slot v }

/-! ## The optimisers -/

/-- Values of the hyperparameter block (R318). -/
structure Hyper where
  lr : Nat
  wd : Nat
  b1 : Nat
  c1 : Nat
  b2 : Nat
  c2 : Nat
  bc1 : Nat
  bc2 : Nat
  eps : Nat
  gs : Nat
  p0 : Nat
  p1 : Nat
  p2 : Nat
  plen : Nat
  prog : Nat
deriving DecidableEq, Repr

/-- The block at an address. -/
def Dev.hyper (d : Dev) (e : Eng) (a : Nat) : Hyper :=
  let f (o : Nat) : Nat := d.winLE e (a + o) 4
  { lr := f 0, wd := f 4, b1 := f 8, c1 := f 12, b2 := f 16, c2 := f 20, bc1 := f 24, bc2 := f 28, eps := f 32, gs := f 36,
    p0 := f 40, p1 := f 44, p2 := f 48, plen := f 52, prog := d.winLE e (a + 56) 8 }

/-- fma(-a, b, c) on FP32 bits. -/
def f32Nfma (a b c : Nat) : Nat := toF32 (((f32 a).neg.mul (f32 b)).add (f32 c))

/-- An element's master copy and state. -/
structure OptEl where
  w : Nat
  s1 : Nat
  s2 : Nat
  s3 : Nat
deriving DecidableEq, Repr

/-- w = fma(-lr, fma(wd, w, u), w) (R320 to R322). -/
def stepW (h : Hyper) (w u : Nat) : Nat := f32Nfma h.lr (f32Fma h.wd w u) w

/-- AdamW (R320). -/
def adamw (h : Hyper) (g : Nat) (x : OptEl) : OptEl :=
  let m := f32Fma h.b1 x.s1 (f32Mul h.c1 g)
  let v := f32Fma h.b2 x.s2 (f32Mul h.c2 (f32Mul g g))
  let mh := f32Mul m h.bc1
  let vh := f32Mul v h.bc2
  let den := f32Add (toF32 (f32 vh).sqrt) h.eps
  let u := toF32 ((f32 mh).div (f32 den))
  { x with w := stepW h x.w u, s1 := m, s2 := v }

/-- Lion (R321). -/
def lion (h : Hyper) (g : Nat) (x : OptEl) : OptEl :=
  let c := f32Fma h.b1 x.s1 (f32Mul h.c1 g)
  let u := if (Fv.zero).lt (f32 c) then 0x3F800000 else if (f32 c).lt Fv.zero then 0xBF800000 else 0
  { x with w := stepW h x.w u, s1 := f32Fma h.b2 x.s1 (f32Mul h.c2 g) }

/-- SGD with momentum (R322). -/
def sgd (h : Hyper) (nesterov : Bool) (g : Nat) (x : OptEl) : OptEl :=
  let m := f32Fma h.b1 x.s1 (f32Mul h.c1 g)
  let dd := if nesterov then f32Fma h.b1 m g else m
  { x with w := stepW h x.w dd, s1 := m }

/-- An element program (R323): reads of an operand give the element as it stood. -/
def program (h : Hyper) (prog : List Uop) (g : Nat) (x : OptEl) : OptEl :=
  let opd (n : Nat) : Nat := match n with
    | 0 => g | 1 => x.w | 2 => x.s1 | 3 => x.s2 | 4 => x.s3 | 5 => h.p0 | 6 => h.p1 | _ => h.p2
  let env := prog.foldl (fun (env : List (Nat × Nat)) u =>
    let src (s : Nat) : Nat := if s < 8 then ((env.find? (fun e => e.1 == s)).map (·.2)).getD 0 else opd (s - 8)
    (u.dst, uopEval u 23 (src u.sa) (src u.sb) (src u.sc) 0 0) :: env.filter (fun e => e.1 != u.dst)) []
  let out (n old : Nat) : Nat := ((env.find? (fun e => e.1 == n + 8)).map (·.2)).getD old
  { w := out 1 x.w, s1 := out 2 x.s1, s2 := out 3 x.s2, s3 := out 4 x.s3 }

/-- The checks of R323 on a program word, given which of the operands 0 to 4 have an address: one that lies at address 0 is neither
read nor written. -/
def upUopOk (has : Nat → Bool) (u : Uop) : Bool :=
  let src (s : Nat) : Bool := s < 8 || 12 < s || has (s - 8)
  u.op ≤ 0x15 && (u.dst < 8 || (9 ≤ u.dst && u.dst ≤ 12 && has (u.dst - 8))) &&
  (uopArity u.op < 1 || src u.sa) && (uopArity u.op < 2 || src u.sb) && (uopArity u.op < 3 || src u.sc)

/-- The gradient of an element (R319): Madder-16 value, block exponent, loss scale, multiplier. -/
def gradOf (q : Nat) (hdr : Nat) (s gs : Nat) : Nat :=
  let e := toSigned 8 hdr
  let v := toSigned 16 q
  f32Mul (toF32 (.num (decide (v < 0)) v.natAbs (e - 15 - s))) gs

/-! ## UP_APPLY -/

/-- The operands of an UP_APPLY (R316). -/
structure Apply where
  opt : Nat
  masked : Bool
  nesterov : Bool
  sfmt : Nat
  wfmt : Nat
  swen : Bool
  swslot : Nat
  n : Nat
  grad : Nat
  master : Nat
  s1 : Nat
  s2 : Nat
  s3 : Nat
  work : Nat
  hyper : Nat
  mask : Nat
deriving DecidableEq, Repr

/-- Decodes the three slots. -/
def decodeApply (c : Cmd) (es : List (List Nat)) : Apply :=
  let x : Cmd := { index := 0, words := es.headD [], handle := none }
  let y : Cmd := { index := 0, words := es.getD 1 [], handle := none }
  { opt := bits (c.w 0) 15 13, masked := c.flag 12, nesterov := c.flag 11, sfmt := bits (c.w 2) 31 30,
    wfmt := bits (c.w 2) 29 28, swen := bit (c.w 2) 27, swslot := bits (c.w 2) 26 23, n := c.w 3 + 1,
    grad := c.pair 4, master := c.pair 6, s1 := x.pair 2, s2 := x.pair 4, work := x.pair 6,
    hyper := y.pair 2, mask := y.pair 4, s3 := y.pair 6 }

/-- Bytes of a state element. -/
def Apply.ssz (a : Apply) : Nat := if a.opt ≠ 3 && a.sfmt = 1 then 2 else 4

/-- The state slots in use: address, written. -/
def Apply.slots (a : Apply) : List Nat :=
  match a.opt with
  | 0 => [a.s1, a.s2]
  | 1 => [a.s1]
  | 2 => [a.s1]
  | _ => [a.s1, a.s2, a.s3].filter (· != 0)

/-- The operands that a command writes beside the working copy: 0 master copy, 1 to 3 state slots (R320 to R323). -/
def Apply.written (a : Apply) (prog : List Uop) : List Nat :=
  match a.opt with
  | 0 => [0, 1, 2]
  | 3 => (List.range 4).filter (fun k => prog.any (fun u => u.dst == 9 + k))
  | _ => [0, 1]

/-- The operand of a program has an address: 0 the gradient, 1 the master copy, 2 to 4 the state slots (R323). -/
def Apply.has (a : Apply) (n : Nat) : Bool := [a.grad, a.master, a.s1, a.s2, a.s3].getD n 0 != 0

/-- The command reads its gradient, and its master copy: a program leaves one that lies at address 0 unread (R323). -/
def Apply.reads (a : Apply) (n : Nat) : Bool := a.opt != 3 || a.has n

/-- Address of element 0 of such an operand. -/
def Apply.base (a : Apply) (k : Nat) : Nat :=
  match k with | 0 => a.master | 1 => a.s1 | 2 => a.s2 | _ => a.s3

/-- Bytes of its elements. -/
def Apply.esz (a : Apply) (k : Nat) : Nat := if k = 0 then 4 else a.ssz

/-- Its value in an element. -/
def OptEl.part (y : OptEl) (k : Nat) : Nat :=
  match k with | 0 => y.w | 1 => y.s1 | 2 => y.s2 | _ => y.s3

/-- Its value as stored (R319). -/
def Apply.stored (a : Apply) (k : Nat) (y : OptEl) : Nat := if a.esz k = 2 then toBf16 (f32 (y.part k)) else y.part k

/-- Spans of the working copy: elements, then scales. -/
def Apply.workSpans (a : Apply) : List (Nat × Nat) :=
  match a.wfmt with
  | 0 => []
  | 1 => [(a.work, 2 * a.n)]
  | _ => [(a.work, a.n), (a.work + a.n, a.n / 32)]

/-- The reserved codes and zero addresses of R317. -/
def Apply.fieldsOk (a : Apply) : Bool :=
  a.opt ≤ 3 && a.sfmt ≤ 1 && (a.opt ≠ 3 || a.sfmt = 0) && (a.wfmt ≤ 1 || a.n % 32 = 0) &&
  (a.opt = 3 || a.slots.all (· != 0)) && a.hyper ≠ 0 && a.hyper % 64 = 0 && (!a.masked || a.mask ≠ 0) &&
  (a.wfmt = 0 || a.work ≠ 0)

/-- What one element comes to: pruned; kept with its reason; or new values. -/
inductive ElOut where
  | pruned
  | kept (unreadable masterBad : Bool)
  | fresh (x : OptEl)
deriving DecidableEq, Repr

/-- Some gradient block that the command reads carries the overflow or the non-finite flag in a header that can be read (R326). -/
def Dev.gradFlagged (d : Dev) (e : Eng) (a : Apply) : Bool :=
  a.reads 0 && (List.range (ceilDiv a.n 32)).any (fun b =>
    let h := d.winLE e (a.grad + 68 * b) 4
    !d.winAnyBad e (a.grad + 68 * b) 4 && (bit h 31 || bit h 30))

/-- One element (R319 to R326, R330). A program whose MASTER is 0 has no master copy to read: what a working copy of it takes is a
free value (log entry 121). -/
def Dev.applyEl (d : Dev) (e : Eng) (a : Apply) (h : Hyper) (prog : List Uop) (i : Nat) : ElOut :=
  let rec0 := a.grad + 68 * (i / 32)
  let sz := a.ssz
  let maskBad := a.masked && d.winBad e (a.mask + i / 8)
  if a.masked && !maskBad && !bit (d.winByte e (a.mask + i / 8)) (i % 8) then .pruned
  else
    let mBad := a.reads 1 && d.winAnyBad e (a.master + 4 * i) 4
    let gBad := a.reads 0 && (d.winAnyBad e rec0 4 || d.winAnyBad e (rec0 + 4 + 2 * (i % 32)) 2)
    let sBad := a.slots.any (fun b => d.winAnyBad e (b + sz * i) sz)
    if maskBad || mBad || gBad || sBad then .kept true mBad
    else
      let hdr := if a.reads 0 then d.winLE e rec0 4 else 0
      if bit hdr 31 || bit hdr 30 then .kept false false
      else
        let rdS (b : Nat) : Nat := if b = 0 then 0 else
          (let v := d.winLE e (b + sz * i) sz; if sz = 2 then toF32 (bf16 v) else v)
        let x : OptEl := { w := if a.reads 1 then d.winLE e (a.master + 4 * i) 4 else Config.freeNat (d.free + i) % 2 ^ 32, s1 := rdS a.s1, s2 := rdS a.s2, s3 := rdS a.s3 }
        let g := if a.reads 0 then gradOf (d.winLE e (rec0 + 4 + 2 * (i % 32)) 2) hdr (d.sched e.p).scale h.gs else 0
        let y := match a.opt with
          | 0 => adamw h g x
          | 1 => lion h g x
          | 2 => sgd h a.nesterov g x
          | _ => program h prog g x
        let bad := (a.written prog).any (fun k =>
            (if a.esz k = 2 then bf16 (a.stored k y) else f32 (a.stored k y)).nonfinite) ||
          (a.wfmt == 1 && (bf16 (toBf16 (f32 y.w))).nonfinite)
        if bad then .kept false false else .fresh y

/-- The bytes that an element writes to an operand. -/
def applyState (a : Apply) (k i : Nat) (y : OptEl) : List (Nat × Byte) :=
  leAt (a.base k + a.esz k * i) (a.esz k) (a.stored k y)

/-- Writes with those into a span last, so that each operand's lines are written in one piece. -/
def spanLast (s : Nat × Nat) (bs : List (Nat × Byte)) : List (Nat × Byte) :=
  let r := bs.partition (fun b => decide (s.1 ≤ b.1 ∧ b.1 < s.1 + s.2))
  r.2 ++ r.1

/-- The working-copy bytes of a block of 32 elements (R324 to R326). -/
def Dev.applyWork (d : Dev) (e : Eng) (a : Apply) (b : Nat) (outs : List ElOut) : List (Nat × Byte) :=
  let at' (k : Nat) : Nat := 32 * b + k
  match a.wfmt with
  | 0 => []
  | 1 => outs.zipIdx.flatMap (fun o => match o.1 with
      | .fresh y => leAt (a.work + 2 * at' o.2) 2 (toBf16 (f32 y.w))
      | _ => [])
  | f =>
    let dead := outs.any (fun o => match o with | .kept _ m => m | _ => false)
    let vals := outs.zipIdx.map (fun o => match o.1 with
      | .fresh y => f32 y.w
      | .kept _ _ => f32 (d.winLE e (a.master + 4 * at' o.2) 4)
      | .pruned => Fv.zero)
    let (sc, cs) := if dead then (255, vals.map (fun _ => 0)) else quantBlock .rne (f - 2) vals
    (outs.zip cs).zipIdx.flatMap (fun o => match o.1.1 with
      | .pruned => []
      | _ => [(a.work + at' o.2, BitVec.ofNat 8 o.1.2)]) ++ [(a.work + a.n + b, BitVec.ofNat 8 sc)]

/-- The bytes that a program names, by its block. -/
def Dev.upProgram (d : Dev) (e : Eng) (h : Hyper) : List Uop :=
  (List.range h.plen).map (fun i => decodeUop (d.winLE e (h.prog + 4 * i) 4))

/-- Runs an UP_APPLY whose checks have passed. A line that cannot be read ends it with ECC_UNCORR, and a flagged gradient block with
NONFINITE, whichever of its elements are pruned (R325, R326, R330). -/
def Dev.applyRun (d : Dev) (e : Eng) (c : Cmd) (slots : Nat) (a : Apply) (h : Hyper) (prog : List Uop) (reads : List Loc) : Dev :=
  let flagged := d.gradFlagged e a
  let outs := (List.range a.n).map (fun i => d.applyEl e a h prog i)
  let st := (a.written prog).flatMap (fun k =>
    outs.zipIdx.flatMap (fun o => match o.1 with | .fresh y => applyState a k o.2 y | _ => []))
  let work := (List.range (ceilDiv a.n 32)).flatMap (fun b => d.applyWork e a b ((outs.drop (32 * b)).take 32))
  let work := if 2 ≤ a.wfmt then spanLast (a.work + a.n, a.n / 32) work else work
  let kept := outs.countP (fun o => match o with | .kept _ _ => true | _ => false)
  let fresh := outs.countP (fun o => match o with | .fresh _ => true | _ => false)
  let unread := outs.any (fun o => match o with | .kept u _ => u | _ => false)
  let d := if a.reads 1 then d else { d with free := d.free + a.n }
  let (b0, d) := d.upRead e c.index c.op reads
  let (b1, d) := d.upWrite e c.index c.op st
  let (b2, d) := d.upWrite e c.index c.op work
  let d := if a.swen && a.wfmt ≠ 0 then d.addSwatch e a.swslot work else d
  let d := (d.cnt (K.UP_ELEMENTS e.n) fresh).cnt (K.UP_NONFINITE e.n) kept
  let status := if unread || b0 || b1 || b2 then stECC else if kept ≠ 0 || flagged then stNONFIN else stOK
  let f := { d.inflight e c status 4 0 0 with grans := if a.swen && a.wfmt ≠ 0 then [a.swslot] else [] }
  let x := d.ctx e
  ((d.setCtx e { x with busy := x.busy ++ [f] }).advance e slots).trkTake e c.index (reads.map (fun l => (0, l)))

/-- The partition's decision tick is not yet reached by the command (R328). -/
def Dev.beforeDecide (d : Dev) (e : Eng) (w1 : Nat) : Bool := w1 < d.get (K.DECIDE_TICK e.p)

/-- Pairs of a list that share a byte. -/
def anyMeet (ls : List (List Loc)) : Bool := anyPair locsMeet ls

/-- UP_APPLY (R316 to R326, R328 to R330). Its checks are made when its tick and handle conditions hold; it issues once the
context's command before it has completed (R314, R317). -/
def Dev.upApply (d : Dev) (u p : Nat) : Dev :=
  let e := upe u p
  d.issue e (· == 0x10) (fun d cmd n =>
    match d.exts e cmd n with
    | (.error st, d) => if st = stWAIT then d else d.reject e cmd n st
    | (.ok es, d) =>
      let a := decodeApply cmd es
      let rdSpans := (if a.reads 0 then [(a.grad, 68 * ceilDiv a.n 32)] else []) ++ (if a.masked then [(a.mask, 4 * ceilDiv a.n 32)] else [])
      let wrSpans := (if a.reads 1 then [(a.master, 4 * a.n)] else []) ++ a.slots.map (fun b => (b, a.ssz * a.n)) ++ a.workSpans
      match both (must (a.fieldsOk && !d.beforeDecide e (cmd.w 1)) stRANGE)
            (both (d.upSpans e rdSpans) (both (d.upSpans e wrSpans) (d.upSpan e a.hyper 64))) with
      | .error st => d.reject e cmd n st
      | .ok (_, rd, wr, hy) =>
        if a.opt ≠ 3 && anyMeet wr then d.reject e cmd n stRANGE else
        if !(d.ctx e).busy.isEmpty then d else
        match d.memWait e ((rd.flatten ++ wr.flatten ++ hy).map (fun l => (0, l))) with
        | some d => d
        | none =>
        let (bad, d) := d.upRead e cmd.index cmd.op hy
        if bad then d.reject e cmd n stECC else
        let h := d.hyper e a.hyper
        let reads := rd.flatten ++ (wr.take (ofBool (a.reads 1) + a.slots.length)).flatten
        if a.opt ≠ 3 then d.applyRun e cmd n a h [] reads
        else if h.prog = 0 || h.plen = 0 || 32 < h.plen then d.reject e cmd n stRANGE
        else match d.upSpan e h.prog (4 * h.plen) with
          | .error st => d.reject e cmd n st
          | .ok pl =>
            let (bad, d) := d.upRead e cmd.index cmd.op pl
            if bad then d.reject e cmd n stECC else
            let prog := d.upProgram e h
            let written := (a.written prog).map (fun k => (a.base k, 4 * a.n)) ++ a.workSpans
            match d.upSpans e written with
            | .error st => d.reject e cmd n st
            | .ok wl =>
              if !prog.all (upUopOk a.has) || anyMeet wl then d.reject e cmd n stRANGE
              else d.applyRun e cmd n a h prog reads)

/-! ## UP_DERIVE -/

/-- The operands of an UP_DERIVE (R327). -/
structure Derive where
  kind : Nat
  fmt : Nat
  sparse : Nat
  swen : Bool
  swslot : Nat
  m : Nat
  k : Nat
  master : Nat
  dst : Nat
  dscale : Nat
  mask : Nat
deriving DecidableEq, Repr

/-- Decodes the two slots. -/
def decodeDerive (c : Cmd) (es : List (List Nat)) : Derive :=
  let x : Cmd := { index := 0, words := es.headD [], handle := none }
  { kind := bits (c.w 0) 15 14, fmt := bits (c.w 2) 31 28, sparse := bits (c.w 2) 27 26, swen := bit (c.w 2) 25,
    swslot := bits (c.w 2) 24 21, m := bits (c.w 3) 31 16 + 1, k := bits (c.w 3) 15 0 + 1, master := c.pair 4,
    dst := c.pair 6, dscale := x.pair 2, mask := x.pair 4 }

/-- Rows of the copy and positions of a row: W_b has K rows along M. -/
def Derive.rows (v : Derive) : Nat × Nat := if v.kind = 3 then (v.k, v.m) else (v.m, v.k)

/-- The spans of the copy: elements, scales, bitmap. -/
def Derive.spans (v : Derive) : (Nat × Nat) × (Nat × Nat) × (Nat × Nat) :=
  let (r, l) := v.rows
  let nb := ceilDiv l 32
  match v.kind with
  | 0 => ((v.dst, r * nb * e32 v.fmt), (v.dscale, r * nb), (v.mask, 0))
  | 1 => let b := ceilDiv v.m 128 * ceilDiv v.k 128
         ((v.dst, b * 512 * e32 v.fmt), (v.dscale, 16 * b), (v.mask, 0))
  | _ => let pb := ceilDiv nb (patFactor v.sparse)
         ((v.dst, r * pb * e32 v.fmt), (v.dscale, r * pb), (v.mask, 4 * nb * r))

/-- A master value with whether it could be read; +0 beyond the matrix. -/
def Dev.masterAt (d : Dev) (e : Eng) (v : Derive) (i j : Nat) : Fv × Bool :=
  if v.m ≤ i || v.k ≤ j then (Fv.zero, false)
  else
    let a := v.master + 4 * (i * v.k + j)
    (f32 (d.winLE e a 4), d.winAnyBad e a 4)

/-- A quantised block: scale and codes; unreadable masters give the block of R326. -/
def deriveBlock (fmt : Nat) (vs : List (Fv × Bool)) : Nat × List Nat :=
  if vs.any (·.2) then (255, vs.map (fun _ => 0)) else quantBlock .rne fmt (vs.map (·.1))

/-- Bytes of packed codes at an address. -/
def codeBytes (a n : Nat) (cs : List Nat) : List (Nat × Byte) := leAt a (ceilDiv (cs.length * n) 8) (packCodes n cs)

/-- KIND 0: the straight ROW stream (R166). -/
def Dev.deriveRow (d : Dev) (e : Eng) (v : Derive) : List (Nat × Byte) :=
  let nb := ceilDiv v.k 32
  (List.range v.m).flatMap (fun i => (List.range nb).flatMap (fun b =>
    let (sc, cs) := deriveBlock v.fmt ((List.range 32).map (fun x => d.masterAt e v i (32 * b + x)))
    codeBytes (v.dst + i * nb * e32 v.fmt + b * e32 v.fmt) (elemBits v.fmt) cs ++
    [(v.dscale + i * nb + b, BitVec.ofNat 8 sc)]))

/-- KIND 1: the transposed SQUARE stream (R167), T being W. -/
def Dev.deriveSquare (d : Dev) (e : Eng) (v : Derive) : List (Nat × Byte) :=
  let rb := ceilDiv v.m 128
  let cb := ceilDiv v.k 128
  (List.range cb).flatMap (fun c => (List.range rb).flatMap (fun r =>
    let blk := c * rb + r
    let quant := (List.range 16).map (fun t =>
      deriveBlock v.fmt ((List.range 1024).map (fun x =>
        d.masterAt e v (128 * r + 32 * (t / 4) + x / 32) (128 * c + 32 * (t % 4) + x % 32))))
    let code (i j : Nat) : Nat := ((quant.getD (4 * (i / 32) + j / 32) (0, [])).2).getD (32 * (i % 32) + j % 32) 0
    (List.range 128).flatMap (fun i =>
      codeBytes (v.dst + blk * 512 * e32 v.fmt + i * 4 * e32 v.fmt) (elemBits v.fmt) ((List.range 128).map (code i))) ++
    quant.zipIdx.map (fun q => (v.dscale + 16 * blk + q.2, BitVec.ofNat 8 q.1.1))))

/-- A bitmap row of the copy; whether it could be read. -/
def Dev.deriveMask (d : Dev) (e : Eng) (v : Derive) (r : Nat) : Nat × Bool :=
  let nb := ceilDiv v.rows.2 32
  (d.winLE e (v.mask + 4 * nb * r) (4 * nb), d.winAnyBad e (v.mask + 4 * nb * r) (4 * nb))

/-- Conditions (a) and (c) of R190 on a bitmap row. -/
def maskOk (sp len nb w : Nat) : Bool :=
  let g := patGroup sp
  (List.range (32 * nb / g)).all (fun i => popcount g ((w >>> (g * i)) % 2 ^ g) ≤ patKeep sp) && w >>> len == 0

/-- KIND 2 and 3: the packed copy (R183, R184). Rows whose bitmap cannot be read stay as they are. -/
def Dev.derivePacked (d : Dev) (e : Eng) (v : Derive) : List (Nat × Byte) :=
  let (rows, len) := v.rows
  let nb := ceilDiv len 32
  let pb := ceilDiv nb (patFactor v.sparse)
  let g := patGroup v.sparse
  let n := patKeep v.sparse
  (List.range rows).flatMap (fun r =>
    let (w, bad) := d.deriveMask e v r
    if bad then [] else
    let val (p : Nat) : Fv × Bool :=
      if 32 * nb / g ≤ p / n then (Fv.zero, false)
      else match (setBits g ((w >>> (g * (p / n))) % 2 ^ g))[p % n]? with
        | some x => let pos := g * (p / n) + x
                    if v.kind = 3 then d.masterAt e v pos r else d.masterAt e v r pos
        | none => (Fv.zero, false)
    (List.range pb).flatMap (fun b =>
      let (sc, cs) := deriveBlock v.fmt ((List.range 32).map (fun x => val (32 * b + x)))
      codeBytes (v.dst + (pb * r + b) * e32 v.fmt) (elemBits v.fmt) cs ++ [(v.dscale + pb * r + b, BitVec.ofNat 8 sc)]))

/-- UP_DERIVE (R327). Every MX code of R327 is taken, also those that the table of R107 leaves out at the update engines (log
entry 111). It issues once the context's command before it has completed (R314, R317). -/
def Dev.upDerive (d : Dev) (u p : Nat) : Dev :=
  let e := upe u p
  d.issue e (· == 0x20) (fun d cmd n =>
    match d.exts e cmd n with
    | (.error st, d) => if st = stWAIT then d else d.reject e cmd n st
    | (.ok es, d) =>
      let v := decodeDerive cmd es
      let (se, ss, sm) := v.spans
      let ok := isMx v.fmt && (if 2 ≤ v.kind then v.sparse ≠ 0 && v.mask ≠ 0 else v.sparse = 0) && v.master ≠ 0 &&
        v.dst ≠ 0 && v.dscale ≠ 0 && !d.beforeDecide e (cmd.w 1)
      match both (must ok stRANGE) (both (both (d.upSpan e v.master (4 * v.m * v.k)) (d.upSpan e sm.1 sm.2))
            (both (d.upSpan e se.1 se.2) (d.upSpan e ss.1 ss.2))) with
      | .error st => d.reject e cmd n st
      | .ok (_, (ml, bl), (el, sl)) =>
        if locsMeet el sl then d.reject e cmd n stRANGE else
        if !(d.ctx e).busy.isEmpty then d else
        match d.memWait e ((ml ++ bl ++ el ++ sl).map (fun l => (0, l))) with
        | some d => d
        | none =>
        let (rows, len) := v.rows
        let nb := ceilDiv len 32
        let badMask := 2 ≤ v.kind && (List.range rows).any (fun r =>
          let (w, bad) := d.deriveMask e v r
          !bad && !maskOk v.sparse len nb w)
        let work := if badMask then [] else
          match v.kind with
          | 0 => d.deriveRow e v
          | 1 => d.deriveSquare e v
          | _ => d.derivePacked e v
        let work := spanLast ss work
        let (b0, d) := d.upRead e cmd.index cmd.op (if badMask then bl else bl ++ ml)
        let (b1, d) := d.upWrite e cmd.index cmd.op work
        let d := if v.swen && !badMask then d.addSwatch e v.swslot work else d
        let d := if badMask then d else d.cnt (K.UP_ELEMENTS u) (v.m * v.k)
        let status := if badMask then stSPARSE else if b0 || b1 then stECC else stOK
        let f := { d.inflight e cmd status 4 0 0 with grans := if v.swen && !badMask then [v.swslot] else [] }
        let x := d.ctx e
        ((d.setCtx e { x with busy := x.busy ++ [f] }).advance e n).trkTake e cmd.index ((bl ++ ml ++ el ++ sl).map (fun l => (0, l))))

/-- UP_NOP. -/
def Dev.upNop (d : Dev) (u p : Nat) : Dev :=
  d.issue (upe u p) (· == 0) (fun d cmd _ => if (d.ctx (upe u p)).busy.isEmpty then d.relay (upe u p) cmd else d)

/-- UPDATE_COMPLETE (R329, R333): a command that fed a swatch and did not end OK marks the slot. -/
def Dev.updateComplete (d : Dev) (u p : Nat) : Dev :=
  let e := upe u p
  match d.flight e with
  | none => d
  | some f =>
    if d.now < f.hold then d else
    let x := d.ctx e
    let d := d.setCtx e { x with busy := x.busy.tail }
    let q := d.part p
    let d := if d.finalStatus e f = stOK then d
      else d.setPart p { q with swatch := f.grans.foldl (fun m s => Map.set m 0 (16 + s) 1) q.swatch }
    d.finish e f (token 0)

end Sys2Proof.Machine
end

