-- ==== Sys2Proof/Machine/Ring.lean ====
section
/-! DEFINITION. The reduction engines: buckets, ring passes, re-passes, deadlines, the ledger (R127 to R130, R372 to
R404). -/
namespace Sys2Proof.Machine

/-- A reduction engine's context for a partition. -/
def rde (r p : Nat) : Eng := { k := 6, n := r, p := p }

/-- A channel. -/
def Dev.chan (d : Dev) (ch : Nat) : Chan := Map.get d.chans Chan.init ch
/-- Replaces a channel. -/
def Dev.setChan (d : Dev) (ch : Nat) (x : Chan) : Dev := { d with chans := Map.set d.chans Chan.init ch x }
/-- Replaces a channel's operation. -/
def Dev.setOp (d : Dev) (ch : Nat) (o : RingOp) : Dev := d.setChan ch { d.chan ch with op := some o }

/-- The oldest message of a channel of a link, taken out; its buffer's credits go back to the peer (R345). -/
def Dev.takeMsg (d : Dev) (l vc : Nat) (ok : Msg → Bool) : Option (Msg × Dev) :=
  let k := d.link l
  match Map.get k.inbox [] vc with
  | [] => none
  | m :: r =>
    if !ok m then none else
    let n := max 1 (ceilDiv m.payload.length 240)
    some (m, d.setLink l { k with inbox := Map.set k.inbox [] vc r, ret := Map.set k.ret 0 vc (Map.get k.ret 0 vc + n) })

/-! ## Ring messages (R384) -/

/-- A ring message's header. -/
structure RingHdr where
  id : Nat
  att : Nat
  kind : Nat
  round : Nat
  held : Bool
  incl : Nat
  piece : Nat
  seq : Nat
  count : Nat
  first : Nat
deriving DecidableEq, Repr

/-- The header as 16 bytes. -/
def RingHdr.bytes (h : RingHdr) : List Nat :=
  toLE 16 (h.id % 2 ^ 16 * 2 ^ 112 + h.att % 256 * 2 ^ 104 + h.kind % 16 * 2 ^ 100 + h.round % 8 * 2 ^ 97 +
    ofBool h.held * 2 ^ 96 + h.incl % 2 ^ 13 * 2 ^ 83 + h.piece % 2 ^ 12 * 2 ^ 71 + h.seq % 2 ^ 16 * 2 ^ 55 +
    h.count % 2 ^ 12 * 2 ^ 43 + h.first % 2 ^ 32 * 2 ^ 11)

/-- The header that a message's payload spells. -/
def ringHdr (bs : List Nat) : RingHdr :=
  let w := ofLE (bs.take 16)
  { id := bits w 127 112, att := bits w 111 104, kind := bits w 103 100, round := bits w 99 97, held := bit w 96,
    incl := bits w 95 83, piece := bits w 82 71, seq := bits w 70 55, count := bits w 54 43, first := bits w 42 11 }

/-- Sends a ring message to the successor; false where it is lost (R365, R374). -/
def Dev.ringSend (d : Dev) (ch : Nat) (h : RingHdr) (items : List Nat) : Dev × Bool :=
  let p := d.get (K.CH_PART ch)
  let (_, t, d) := if h.kind = 2 || h.kind = 5 then d.stain 6 (0x2000 + d.get (K.CH_RDE ch)) p else (0, 0, d)
  let h := { h with id := d.get (K.CH_RING_ID ch), att := d.get (K.ATTEMPT p) }
  let m : Msg := { vc := 2, dest := d.get (K.CH_SUCC ch), src := d.get K.DEVICE_NUMBER, part := p % 16, priv := false,
                   id := d.msgId % 2 ^ 15, payload := h.bytes ++ items }
  Dev.post { d with msgId := d.msgId + 1 } (d.now + t) m

/-- The channel to which a ring message of a link belongs (R374). -/
def Dev.msgChannel (d : Dev) (m : Msg) : Option Nat :=
  let h := ringHdr m.payload
  (List.range 32).find? (fun c => d.get (K.CH_PART c) < 16 && d.get (K.CH_RING_ID c) == h.id && d.get (K.CH_PRED c) == m.src &&
    d.get (K.CH_PART c) == m.part)

/-- A ring message that no channel takes (R376). -/
def Dev.strayMsg (d : Dev) (l : Nat) (m : Msg) : Dev :=
  d.file { cls := 8, syndrome := syn8 13 0xFF, aux := (ringHdr m.payload).seq, unit := 0x2000 + l / 8, index := 0,
           opcode := 0xFF, status := 0, part := m.part }

/-! ## The sources of a reduction engine (R372) -/

/-- The reduction engine that takes a ring message of a link: its channel's, or the port's own where no channel takes it. -/
def Dev.msgEngine (d : Dev) (l : Nat) (m : Msg) : Nat :=
  match d.msgChannel m with | some ch => d.get (K.CH_RDE ch) | none => l / 8

/-- The source by which a message of a link comes to an engine: a link of its own port, or its cross-port input. -/
def ringSource (r l : Nat) : Nat := if l / 8 = r then l % 8 else 8

/-- The sources of an engine at which a message waits. -/
def Dev.ringWaiting (d : Dev) (r : Nat) : List Nat :=
  (List.range 64).filterMap (fun l => match Map.get (d.link l).inbox [] 2 with
    | m :: _ => if d.msgEngine l m = r then some (ringSource r l) else none
    | [] => none)

/-- The source that an engine serves next: the first after the one last served at which a message waits. -/
def Dev.ringNext (d : Dev) (r : Nat) : Option Nat :=
  let w := d.ringWaiting r
  let t := Map.get d.rdTurn RdTurn.init r
  ((List.range 9).map (fun i => (t.last + 1 + i) % 9)).find? (fun x => w.contains x)

/-- An engine takes a message from link `l` now: it is that source's turn, and the engine, which takes one in a quarter of a tick, has
not taken four in this tick. -/
def Dev.ringTurn (d : Dev) (r l : Nat) : Bool :=
  let t := Map.get d.rdTurn RdTurn.init r
  d.ringNext r == some (ringSource r l) && !(t.tick == d.now && 4 ≤ t.taken)

/-- An engine has taken a message from link `l`: it is counted where it comes by the cross-port input, and where it is handled at
once, as VOTE, SWATCH and ABORT are. -/
def Dev.ringTaken (d : Dev) (r l kind : Nat) : Dev :=
  let t := Map.get d.rdTurn RdTurn.init r
  let n : RdTurn := { last := ringSource r l, tick := d.now, taken := if t.tick = d.now then t.taken + 1 else 1 }
  let d : Dev := { d with rdTurn := Map.set d.rdTurn RdTurn.init r n }
  let d := if l / 8 = r then d else d.cnt (K.RD_CROSS r) 1
  if 7 ≤ kind then d.cnt (K.RD_MESSAGES r) 1 else d

/-- The next ring message of a link, of some kind, where its engine takes it now. -/
def Dev.takeRing (d : Dev) (l kind : Nat) : Option (Msg × Dev) :=
  match d.takeMsg l 2 (fun m => (ringHdr m.payload).kind == kind) with
  | none => none
  | some (m, d') =>
    let r := d.msgEngine l m
    if d.ringTurn r l then some (m, d'.ringTaken r l kind) else none

/-- A list in runs of `n` items; one empty run for an empty list. -/
def runsOf {α : Type} (n : Nat) (l : List α) : List (List α) :=
  if l.isEmpty then [[]] else (List.range (ceilDiv l.length n)).map (fun i => (l.drop (n * i)).take n)

/-! ## Pieces and contributions -/

/-- Blocks of a bucket. -/
def Bucket.nb (b : Bucket) : Nat := ceilDiv b.n 32
/-- The blocks of a piece: first, and one past the last (R385). -/
def pieceOf (nb dd p : Nat) : Nat × Nat := (p * nb / dd, (p + 1) * nb / dd)
/-- The piece that a block lies in. -/
def pieceHas (nb dd b : Nat) : Nat := ((List.range dd).find? (fun p => b < (pieceOf nb dd p).2)).getD 0

/-- A carry half's base (R397). -/
def Bucket.half (b : Bucket) (i : Nat) : Nat := b.carry + i * (64 + 128 * b.nb)

/-- The engine in whose name a channel's partition reads and writes. -/
def Dev.chanEng (d : Dev) (ch : Nat) : Eng := rde (d.get (K.CH_RDE ch)) (d.get (K.CH_PART ch))

/-- g′ of an element with whether it could be read (R389, R394). -/
def Dev.contribution (d : Dev) (e : Eng) (b : Bucket) (i : Nat) : Nat × Bool :=
  if b.n ≤ i then (0, false)
  else
    let a := b.src + 4 * i
    let c := b.half (d.get (K.STEP e.p) % 2) + 64 + 4 * i
    let bad := d.winAnyBad e a 4 || (b.cin && d.winAnyBad e c 4)
    if bad then (nanOf 23, true)
    else if b.cin then (f32Add (d.winLE e a 4) (d.winLE e c 4), false) else (d.winLE e a 4, false)

/-- The window addresses that a block's contribution is read from. -/
def Dev.contribSpans (d : Dev) (e : Eng) (b : Bucket) (blk : Nat) : List (Nat × Nat) :=
  let n := min b.n (32 * blk + 32) - 32 * blk
  (b.src + 128 * blk, 4 * n) ::
    (if b.cin then [(b.half (d.get (K.STEP e.p) % 2) + 64 + 128 * blk, 4 * n)] else [])

/-- The effects of reading some blocks' contributions: lookups, meters, records. -/
def Dev.touchBlocks (d : Dev) (e : Eng) (f : InFlight) (b : Bucket) (blks : List Nat) : Dev :=
  if !b.incl then d else
  let ls := (blks.flatMap (fun k => d.contribSpans e b k)).flatMap (fun s =>
    match d.xlateRun (d.engWho e) s.1 s.2 with | .ok l => l | .error _ => [])
  (d.upRead e f.index f.op ls).2

/-- e(b) of R386 as a signed number. -/
def Dev.blockExp (d : Dev) (e : Eng) (b : Bucket) (blk : Nat) : Int :=
  if !b.incl then -112
  else match amaxLog ((List.range 32).map (fun k => f32 (d.contribution e b (32 * blk + k)).1)) with
    | none => -112
    | some x => max (-112) (min 112 (x + 1))

/-- A block record as it travels: header and elements. -/
structure Rec where
  hdr : Nat
  q : List Nat
deriving DecidableEq, Repr

/-- The 68 bytes of a record. -/
def Rec.bytes (r : Rec) : List Nat := toLE 4 r.hdr ++ r.q.flatMap (toLE 2)

/-- The record that 68 bytes spell. -/
def recOf (bs : List Nat) : Rec :=
  { hdr := ofLE (bs.take 4), q := (List.range 32).map (fun k => ofLE ((bs.drop (4 + 2 * k)).take 2)) }

/-- The records of a message. -/
def recsOf (n : Nat) (bs : List Nat) : List Rec := (List.range n).map (fun i => recOf ((bs.drop (68 * i)).take 68))

/-- A header from its fields (R383). -/
def mkHdr (nf ovf : Bool) (rep e : Nat) : Nat := ofBool nf * 2 ^ 31 + ofBool ovf * 2 ^ 30 + rep % 4 * 2 ^ 28 + e % 256
/-- NF of a header. -/
def hNF (h : Nat) : Bool := bit h 31
/-- OVF of a header. -/
def hOVF (h : Nat) : Bool := bit h 30

/-- Adds a contribution to a record (R128, R129, R387). -/
def addRec (gs : List Nat) (r : Rec) : Rec :=
  let e := toSigned 8 r.hdr
  let hs := (r.q.zip gs).map (fun x => madderHop e x.2 (toSigned 16 x.1))
  let ovf := hOVF r.hdr || hs.any (fun h => h.2.1)
  let nf := hNF r.hdr || hs.any (fun h => h.2.2)
  { hdr := mkHdr nf ovf (bits r.hdr 29 28) (r.hdr % 256), q := hs.map (fun h => ofSigned 16 h.1) }

/-- This device's part of a record: added, or passed on where the contribution is excluded. -/
def Dev.hop (d : Dev) (e : Eng) (b : Bucket) (blk : Nat) (r : Rec) : Rec :=
  if b.incl then addRec ((List.range 32).map (fun k => (d.contribution e b (32 * blk + k)).1)) r else r

/-- Some contribution of a block could not be read. -/
def Dev.blockBad (d : Dev) (e : Eng) (b : Bucket) (blk : Nat) : Bool :=
  b.incl && (List.range 32).any (fun k => (d.contribution e b (32 * blk + k)).2)

/-- An empty record with its exponent. -/
def freshRec (rep e : Nat) : Rec := { hdr := mkHdr false false rep e, q := List.replicate 32 0 }

/-- Writes a record at its place in DST. -/
def Dev.putRec (d : Dev) (e : Eng) (f : InFlight) (b : Bucket) (blk : Nat) (r : Rec) : Bool × Dev :=
  d.upWrite e f.index f.op (r.bytes.zipIdx.map (fun x => (b.dst + 68 * blk + x.2, BitVec.ofNat 8 x.1)))

/-! ## Passes of a bucket -/

/-- Positions modulo D. -/
def posMod (d x : Nat) : Nat := x % max 1 d

/-- A channel's D and position. -/
def Dev.ringAt (d : Dev) (ch : Nat) : Nat × Nat := (max 1 (d.get (K.CH_SIZE ch)), d.get (K.CH_POS ch))

/-- Raises an operation's status. -/
def RingOp.worse (o : RingOp) (st : Nat) : RingOp := { o with fl := { o.fl with status := stWorst o.fl.status st } }

/-- A line of memory that could not be read or wholly written shows in the status of the operation in flight (R278, R389). -/
def Dev.opBad (d : Dev) (ch : Nat) (bad : Bool) : Dev :=
  match bad, (d.chan ch).op with
  | true, some o => d.setOp ch (o.worse stECC)
  | _, _ => d

/-- A header of the operation's messages. -/
def RingOp.hdr (o : RingOp) (kind piece incl count first : Nat) : RingHdr :=
  { id := 0, att := 0, kind := kind, round := if o.repass then o.round else 0, held := o.bk.held, incl := incl,
    piece := piece, seq := o.bk.seq, count := count, first := first }

/-- Sends messages of an operation; a lost one aborts it (R366, R399). -/
def Dev.opSend (d : Dev) (ch : Nat) (ms : List (RingHdr × List Nat)) : Dev :=
  ms.foldl (fun d m =>
    let (d, ok) := d.ringSend ch m.1 m.2
    match ok, (d.chan ch).op with
    | false, some o => d.setOp ch { o with lost := true }
    | _, _ => d) d

/-- AG messages of written records, to the successor (R388). -/
def RingOp.agMsgs (o : RingOp) (piece first : Nat) (rs : List Rec) : List (RingHdr × List Nat) :=
  [(o.hdr (if o.repass then 6 else 3) piece 0 rs.length first, rs.flatMap Rec.bytes)]

/-- Takes the flags of records that end here into the bucket (R389, R390). -/
def Dev.ownRec (d : Dev) (ch : Nat) (blk : Nat) (r : Rec) : Dev :=
  match (d.chan ch).op with
  | none => d
  | some o =>
    let bk := o.bk
    let nf := hNF r.hdr
    let owe := hOVF r.hdr && !nf
    let bk := { bk with nf := bk.nf || nf, owed := if owe then bk.owed ++ [blk] else bk.owed }
    let o := { o with bk := bk }
    let d := d.setOp ch (if nf then o.worse stNONFIN else o)
    let d := if nf then d.cnt (K.CH_NF_BLOCKS ch) 1 else d
    if owe then Dev.bump 16 d (K.CH_OWED ch) 1 else d

/-- The own hop on the records of a message of piece p: at the owner they are written and gathered, elsewhere passed on. -/
def Dev.rsBlocks (d : Dev) (ch : Nat) (e : Eng) (p first incl : Nat) (rs : List Rec) : Dev :=
  let (dd, i) := d.ringAt ch
  match (d.chan ch).op with
  | none => d
  | some o =>
    let blks := (List.range rs.length).map (first + ·)
    let out := (blks.zip rs).map (fun x => d.hop e o.bk x.1 x.2)
    let bad := blks.any (fun b => d.blockBad e o.bk b)
    let d := d.touchBlocks e o.fl o.bk blks
    let exps := (blks.zip rs).foldl (fun m x => Map.ins m x.1 (x.2.hdr % 256)) o.bk.exps
    let inc := incl + ofBool o.bk.incl
    let o := { o with bk := { o.bk with exps := exps } }
    let o := if bad then o.worse stECC else o
    let d := d.setOp ch o
    if i = p then
      let d := d.setOp ch { o with bk := { o.bk with count := inc } }
      let d := (blks.zip out).foldl (fun d x =>
        let (bad, d) := d.putRec e o.fl o.bk x.1 x.2
        (d.ownRec ch x.1 x.2).opBad ch bad) d
      if o.bk.scatter || dd = 1 then d else d.opSend ch (o.agMsgs p first out)
    else d.opSend ch [(o.hdr 2 p inc rs.length first, out.flatMap Rec.bytes)]

/-- The start of the reduce-scatter of the piece that this device starts (R386, R387). -/
def Dev.rsStart (d : Dev) (ch : Nat) (e : Eng) (maxE : Map Nat) : Dev :=
  let (dd, i) := d.ringAt ch
  match (d.chan ch).op with
  | none => d
  | some o =>
    let p := posMod dd (i + dd - 1)
    let (lo, hi) := pieceOf o.bk.nb dd p
    let recs := (List.range (hi - lo)).map (fun k =>
      let m := toSigned 8 (Map.get maxE 0x90 (lo + k))
      freshRec 0 (ofSigned 8 (min 112 (m + d.get (K.CH_HEADROOM ch)))))
    (runsOf 56 ((List.range (hi - lo)).zip recs)).zipIdx.foldl (fun d r =>
      d.rsBlocks ch e p (lo + 56 * r.2) 0 (r.1.map Prod.snd)) d

/-- The exponents of a piece at this position, as bytes: its own, or the larger of the arriving and its own. -/
def Dev.scaleMax (d : Dev) (e : Eng) (o : RingOp) (first : Nat) (arr : List Nat) : List Nat :=
  arr.zipIdx.map (fun x => ofSigned 8 (max (toSigned 8 x.1) (d.blockExp e o.bk (first + x.2))))

/-- The decided operation of a bucket sends what it owes without having received anything: the scale pass of piece p with
p + 2 its position (R386). -/
def Dev.bucketStart (d : Dev) (ch : Nat) (e : Eng) : Dev :=
  let (dd, i) := d.ringAt ch
  match (d.chan ch).op with
  | none => d
  | some o =>
    let p := posMod dd (i + 2 * dd - 2)
    let (lo, hi) := pieceOf o.bk.nb dd p
    let own := d.scaleMax e o lo (List.replicate (hi - lo) 0x90)
    let d := d.touchBlocks e o.fl o.bk ((List.range (hi - lo)).map (lo + ·))
    if dd = 1 then d.rsStart ch e ((own.zipIdx).map (fun x => (lo + x.2, x.1)))
    else d.opSend ch ((runsOf 3824 own).zipIdx.map (fun r => (o.hdr 1 p 0 r.1.length (lo + 3824 * r.2), r.1)))

/-- Items of all pieces but one, counting an empty piece as one. -/
def otherItems (nb dd skip : Nat) : Nat :=
  ((List.range dd).filter (· != skip)).foldl (fun a p => let (lo, hi) := pieceOf nb dd p; a + max 1 (hi - lo)) 0

/-- The records of an arriving message, and which of them count as carrying NF: those with the flag, and those whose E lies
outside its range, which are reported (R383). -/
def Dev.screenRecs (d : Dev) (ch : Nat) (e : Eng) (o : RingOp) (h : RingHdr) (rs : List Rec) : Dev × List (Rec × Bool) :=
  let bad (r : Rec) : Bool := let x := toSigned 8 r.hdr; x < -112 || 112 < x
  let d := if rs.any bad then
      d.file { cls := 8, syndrome := syn8 14 ch, aux := h.seq, unit := e.unit, index := o.fl.index, opcode := o.fl.op,
               status := stNONFIN, part := e.p } else d
  (d, rs.map (fun r => (r, hNF r.hdr || bad r)))

/-- A record with NF set where it counts as carrying it. -/
def nfRec (x : Rec × Bool) : Rec := if x.2 then { x.1 with hdr := withBit x.1.hdr 31 true } else x.1

/-- A SCALE, RS or AG message of the bucket in flight. -/
def Dev.bucketMsg (d : Dev) (ch : Nat) (e : Eng) (h : RingHdr) (items : List Nat) : Dev :=
  let (dd, i) := d.ringAt ch
  match (d.chan ch).op with
  | none => d
  | some o =>
    let o := if h.held then { o with bk := { o.bk with held := true } } else o
    let d := d.setOp ch o
    let units := max 1 h.count
    match h.kind with
    | 1 =>
      let out := d.scaleMax e o h.first (items.take h.count)
      let d := d.touchBlocks e o.fl o.bk ((List.range h.count).map (h.first + ·))
      let o := { o with scaleN := o.scaleN + units }
      if posMod dd (h.piece + 1) = i then
        let mx := out.zipIdx.foldl (fun m x => Map.ins m (h.first + x.2) x.1) o.maxE
        let d := d.setOp ch { o with maxE := mx }
        let (lo, hi) := pieceOf o.bk.nb dd h.piece
        if hi - lo ≤ mx.length then d.rsStart ch e mx else d
      else (d.setOp ch o).opSend ch [(o.hdr 1 h.piece 0 out.length h.first, out)]
    | 2 =>
      let (d, rs) := d.screenRecs ch e o h (recsOf h.count items)
      (d.setOp ch { o with rsN := o.rsN + units }).rsBlocks ch e h.piece h.first h.incl (rs.map nfRec)
    | 3 =>
      let (d, rs) := d.screenRecs ch e o h (recsOf h.count items)
      let d := d.setOp ch { o with agN := o.agN + units }
      let d := rs.zipIdx.foldl (fun d r =>
        let (bad, d) := d.putRec e o.fl o.bk (h.first + r.2) r.1.1
        match (d.chan ch).op with
        | some o =>
          let o := if bad then o.worse stECC else o
          let o := if r.1.2 then o.worse stNONFIN else o
          (if r.1.2 then (d.setOp ch o).cnt (K.CH_NF_BLOCKS ch) 1 else d.setOp ch o)
        | none => d) d
      if posMod dd (i + 1) = h.piece then d else d.opSend ch [(o.hdr 3 h.piece 0 rs.length h.first, items)]
    | _ => d

/-! ## Re-passes (R390 to R392) -/

/-- Sorted by (SEQ, block). -/
def entryLe (a b : Nat × Nat) : Bool := a.1 < b.1 || (a.1 == b.1 && a.2 ≤ b.2)
/-- Insertion into a sorted list. -/
def insertEntry (a : Nat × Nat) (l : List (Nat × Nat)) : List (Nat × Nat) :=
  match l with
  | [] => [a]
  | b :: r => if entryLe a b then a :: b :: r else b :: insertEntry a r
/-- Insertion sort. -/
def sortEntries (l : List (Nat × Nat)) : List (Nat × Nat) := l.foldr insertEntry []

/-- A covered bucket by its SEQ. -/
def Chan.bucket (c : Chan) (seq : Nat) : Option Bucket := c.buckets.find? (fun b => b.seq == seq)
/-- Changes a covered bucket. -/
def Chan.setBucket (c : Chan) (b : Bucket) : Chan := { c with buckets := c.buckets.map (fun x => if x.seq = b.seq then b else x) }

/-- The entries of a piece, those of ALL_REDUCE buckets alone where `ag` is set. -/
def keptOf (c : Chan) (dd : Nat) (kept : List (Nat × Nat)) (p : Nat) (ag : Bool) : List (Nat × Nat) :=
  kept.filter (fun x => match c.bucket x.1 with
    | some b => pieceHas b.nb dd x.2 == p && (!ag || !b.scatter)
    | none => false)

/-- Starts a list pass with the blocks owed in the own pieces. -/
def Dev.listStart (d : Dev) (ch : Nat) : Dev :=
  let (dd, i) := d.ringAt ch
  let c := d.chan ch
  match c.op with
  | none => d
  | some o =>
    let own := sortEntries (c.buckets.flatMap (fun b => b.owed.map (fun x => (b.seq, x))))
    let d := d.setOp ch { o with stage := 0, lists := [(i, own, true)], kept := [], progR := [], progA := [] }
    if dd = 1 then d
    else
      let rs := runsOf 478 own ++ (if own.length % 478 = 0 && !own.isEmpty then [[]] else [])
      d.opSend ch (rs.zipIdx.map (fun r =>
        (o.hdr 4 i 0 r.1.length (478 * r.2), r.1.flatMap (fun x => toLE 4 x.2 ++ toLE 2 0 ++ toLE 2 x.1))))

/-- The own hop of a re-pass on entries of piece p (R391): owners write and gather, others pass on. -/
def Dev.repassBlocks (d : Dev) (ch : Nat) (e : Eng) (p : Nat) (es : List (Nat × Nat)) (rs : List Rec) : Dev :=
  let (dd, i) := d.ringAt ch
  let c := d.chan ch
  match c.op with
  | none => d
  | some o =>
    let out := (es.zip rs).map (fun x => match c.bucket x.1.1 with
      | some b => d.hop e b x.1.2 x.2
      | none => x.2)
    let bad := es.any (fun x => match c.bucket x.1 with | some b => d.blockBad e b x.2 | none => false)
    let d := es.foldl (fun d x => match c.bucket x.1 with
      | some b => d.touchBlocks e o.fl b [x.2]
      | none => d) d
    let d := (es.zip rs).foldl (fun d x =>
      let c := d.chan ch
      match c.bucket x.1.1 with
      | some b => d.setChan ch (c.setBucket { b with exps := Map.ins b.exps x.1.2 (x.2.hdr % 256) })
      | none => d) d
    let d := d.opBad ch bad
    if i = p then
      let d := (es.zip out).foldl (fun d x =>
        let c := d.chan ch
        match c.bucket x.1.1 with
        | none => d
        | some b =>
          let (bad, d) := d.putRec e o.fl b x.1.2 x.2
          let d := d.opBad ch bad
          let nf := hNF x.2.hdr
          let owe := hOVF x.2.hdr && !nf
          let b := { b with owed := if owe then b.owed ++ [x.1.2] else b.owed, rounds := max b.rounds o.round, nf := b.nf || nf }
          let d := d.setChan ch ((d.chan ch).setBucket b)
          match nf, (d.chan ch).op with
          | true, some o => d.setOp ch { o with nfs := o.nfs ++ [x.1] }
          | _, _ => d) d
      let ag := (es.zip out).filter (fun x => match c.bucket x.1.1 with | some b => !b.scatter | none => false)
      if dd = 1 || ag.isEmpty then d
      else d.opSend ch [(o.hdr 6 p 0 ag.length (ag.headD ((0, 0), freshRec 0 0)).1.2, ag.flatMap (fun x => x.2.bytes))]
    else d.opSend ch [(o.hdr 5 p 0 es.length (es.headD (0, 0)).2, out.flatMap Rec.bytes)]

/-- The complete list pass selects the entries of the round and starts their blocks (R391). -/
def Dev.listDone (d : Dev) (ch : Nat) (e : Eng) : Dev :=
  let (dd, i) := d.ringAt ch
  let c := d.chan ch
  match c.op with
  | none => d
  | some o =>
    if !(o.stage == 0 && o.lists.length == dd && o.lists.all (fun l => l.2.2)) then d else
    let all := sortEntries (o.lists.flatMap (fun l => l.2.1))
    let expOf (x : Nat × Nat) : Int := match c.bucket x.1 with
      | some b => toSigned 8 (Map.get b.exps 0 x.2)
      | none => 113
    let first := if o.round = 4 then [] else all.take (d.get (K.CH_REPASS_MAX ch))
    let kept := first.filter (fun x => expOf x + 4 ≤ 112)
    let dead := all.filter (fun x => !kept.contains x)
    let clear := { c with buckets := c.buckets.map (fun (b : Bucket) => { b with owed := [] }) }
    let o := { o with nfs := o.nfs ++ dead, kept := kept, stage := if kept.isEmpty then 2 else 1 }
    let d := d.setChan ch { clear with op := some o }
    let d := d.cnt (K.CH_REPASSED ch) kept.length
    let p := posMod dd (i + dd - 1)
    let mine := keptOf c dd kept p false
    if mine.isEmpty then d
    else (runsOf 56 mine).foldl (fun d es =>
      d.repassBlocks ch e p es (es.map (fun x => freshRec o.round (ofSigned 8 (expOf x + 4))))) d

/-- The blocks of a round have all come: the next round's list pass (R391). -/
def Dev.roundDone (d : Dev) (ch : Nat) : Dev :=
  let (dd, i) := d.ringAt ch
  let c := d.chan ch
  match c.op with
  | none => d
  | some o =>
    let skip := posMod dd (i + dd - 1)
    let ok := (List.range dd).all (fun p =>
      (p == skip || Map.get o.progR 0 p == (keptOf c dd o.kept p false).length) &&
      (p == i || Map.get o.progA 0 p == (keptOf c dd o.kept p true).length))
    if o.stage = 1 && ok then (d.setOp ch { o with round := o.round + 1 }).listStart ch else d

/-- A LIST, REPASS_RS or REPASS_AG message of the round in progress. -/
def Dev.repassMsg (d : Dev) (ch : Nat) (e : Eng) (h : RingHdr) (items : List Nat) : Dev :=
  let (dd, i) := d.ringAt ch
  let c := d.chan ch
  match c.op with
  | none => d
  | some o =>
    match h.kind with
    | 4 =>
      let es := (List.range h.count).map (fun k => let b := items.drop (8 * k); (ofLE ((b.drop 6).take 2), ofLE (b.take 4)))
      let done := decide (h.count < 478)
      let old := o.lists.find? (fun l => l.1 == h.piece)
      let ls := match old with
        | some _ => o.lists.map (fun l => if l.1 = h.piece then (l.1, l.2.1 ++ es, done) else l)
        | none => o.lists ++ [(h.piece, es, done)]
      let d := d.setOp ch { o with lists := ls }
      if posMod dd (i + 1) = h.piece then d else d.opSend ch [(o.hdr 4 h.piece 0 h.count h.first, items)]
    | 5 =>
      let es := ((keptOf c dd o.kept h.piece false).drop (Map.get o.progR 0 h.piece)).take h.count
      let (d, rs) := d.screenRecs ch e o h (recsOf h.count items)
      (d.setOp ch { o with progR := Map.set o.progR 0 h.piece (Map.get o.progR 0 h.piece + h.count) }).repassBlocks ch e
        h.piece es (rs.map nfRec)
    | _ =>
      let es := ((keptOf c dd o.kept h.piece true).drop (Map.get o.progA 0 h.piece)).take h.count
      let (d, rs) := d.screenRecs ch e o h (recsOf h.count items)
      let d := d.setOp ch { o with progA := Map.set o.progA 0 h.piece (Map.get o.progA 0 h.piece + h.count) }
      let d := (es.zip rs).foldl (fun d x => match c.bucket x.1.1 with
        | some b =>
          let (bad, d) := d.putRec e o.fl b x.1.2 x.2.1
          let d := d.opBad ch bad
          (match x.2.2, (d.chan ch).op with
           | true, some o => d.setOp ch { o with nfs := o.nfs ++ [x.1] }
           | _, _ => d)
        | none => d) d
      if posMod dd (i + 1) = h.piece then d else d.opSend ch [(o.hdr 6 h.piece 0 h.count h.first, items)]

/-- The re-pass ends: every block that became NF has NF set in the records held here (R391). -/
def Dev.repassEnd (d : Dev) (ch : Nat) (e : Eng) : Dev :=
  let (dd, i) := d.ringAt ch
  let c := d.chan ch
  match c.op with
  | none => d
  | some o =>
    let d := o.nfs.eraseDups.foldl (fun d x => match c.bucket x.1 with
      | some b =>
        if b.scatter && pieceHas b.nb dd x.2 ≠ i then d
        else
          let a := b.dst + 68 * x.2 + 3
          let (_, d) := d.upWrite e o.fl.index o.fl.op [(a, BitVec.ofNat 8 (withBit (d.winByte e a) 7 true))]
          let c := d.chan ch
          let d := if pieceHas b.nb dd x.2 = i then
              (match c.bucket x.1 with | some b => d.setChan ch (c.setBucket { b with nf := true }) | none => d) else d
          d.cnt (K.CH_NF_BLOCKS ch) 1
      | none => d) d
    match (d.chan ch).op with
    | some o => d.setOp ch (if o.nfs.isEmpty then o else o.worse stNONFIN)
    | none => d

/-! ## The ledger (R400, R401) -/

/-- Bytes of a ledger record. -/
def Dev.ledgerSize (d : Dev) (p : Nat) : Nat := ceilDiv (64 + 8 * d.get (K.LEDGER_BUCKETS p)) 64 * 64
/-- The record of an attempt. -/
def Dev.ledgerAt (d : Dev) (p attempt : Nat) : Nat :=
  d.get (K.LEDGER_BASE p) + attempt % max 1 (d.get (K.LEDGER_SLOTS p)) * d.ledgerSize p

/-- Writes a ledger entry and the header's ENTRIES. -/
def Dev.ledgerPut (d : Dev) (e : Eng) (idx word : Nat) : Dev :=
  if d.get (K.LEDGER_BASE e.p) = 0 then d
  else
    let a := d.ledgerAt e.p (d.get (K.ATTEMPT e.p))
    let q := d.part e.p
    let n := max (Map.get q.ledger 0 0) (idx + 1)
    let d := d.setPart e.p { q with ledger := Map.set (Map.set q.ledger 0 0 n) 0 (idx + 1) word }
    let s := d.iss e 0 0xFF
    let (_, d) := d.writeWin s (d.engWho e) (a + 64 + 8 * idx) (toLE 8 word)
    (d.writeWin s (d.engWho e) (a + 26) (toLE 2 n)).2

/-- A bucket's entry as its fields stand (R401). A carry-in formed part of a contribution that was included or carried out. -/
def ledgerWord (ch : Nat) (b : Bucket) (carryOut lost dropped : Bool) : Nat :=
  b.seq * 2 ^ 48 + ch * 2 ^ 43 + 2 ^ 42 + ofBool b.incl * 2 ^ 41 + ofBool (b.cin && (b.incl || carryOut)) * 2 ^ 40 + ofBool carryOut * 2 ^ 39 +
  ofBool lost * 2 ^ 38 + ofBool dropped * 2 ^ 37 + ofBool b.held * 2 ^ 36 + ofBool b.nf * 2 ^ 35 + b.rounds % 4 * 2 ^ 33 +
  b.count % 2 ^ 13 * 2 ^ 20

/-- Sets a bit of an entry already written, or of the entry to come, which is written when its bucket completes. -/
def Dev.ledgerFlag (d : Dev) (e : Eng) (idx bitNo : Nat) : Dev :=
  let q := d.part e.p
  let w := withBit (Map.get q.ledger 0 (idx + 1)) bitNo true
  if bit w 42 then d.ledgerPut e idx w else d.setPart e.p { q with ledger := Map.set q.ledger 0 (idx + 1) w }

/-- A bucket that completes writes its entry, with what is known of a contribution that it went without. -/
def Dev.ledgerBucket (d : Dev) (e : Eng) (ch : Nat) (b : Bucket) : Dev :=
  let w := Map.get (d.part e.p).ledger 0 (b.entry + 1)
  d.ledgerPut e b.entry (ledgerWord ch b (bit w 39) (bit w 38) (bit w 37))

/-! ## Ends of operations -/

/-- The handle, record and ledger entry of an operation, which completes with the status it inherits, if any (R41); the channel
is free for the next SEQ. -/
def Dev.ringFinish (d : Dev) (ch : Nat) (o : RingOp) (st : Nat) : Dev :=
  let e := rde o.eng o.part
  let c := d.chan ch
  let seq := o.bk.seq
  let bks := if o.repass then [] else c.buckets ++ [o.bk]
  let d := d.setChan ch (if o.ended then { c with op := none, buckets := [] } else { c with op := none, done := seq + 1, buckets := bks })
  let d := d.put (K.CH_STATE ch) 0
  let d := if o.repass then d.put (K.CH_OWED ch) 0
    else (if o.ended then d else d.ledgerBucket e ch o.bk).cnt (K.CH_BUCKETS ch) 1
  d.finish e { o.fl with status := if o.inh = 0 then st else o.inh } (token 0)

/-- The operation in flight is aborted (R399): LINK_TIMEOUT, one ABORT to the successor. -/
def Dev.ringAbort (d : Dev) (ch seq : Nat) : Dev :=
  let c := d.chan ch
  if c.aborted.contains seq then d else
  let d := d.setChan ch { c with aborted := c.aborted ++ [seq], rx := c.rx.filter (fun m => (ringHdr m.payload).seq != seq) }
  let h : RingHdr := { id := 0, att := 0, kind := 7, round := 0, held := false, incl := 0, piece := 0, seq := seq, count := 0, first := 0 }
  let d := if d.get (K.CH_SIZE ch) ≤ 1 then d else (d.ringSend ch h []).1
  match (d.chan ch).op with
  | some o => if o.bk.seq = seq && !o.ended then d.ringFinish ch o (stWorst o.fl.status stLINK) else d
  | none => d

/-- Nothing that the channel sent for the operation is still unsent or unacknowledged on a link (R388). -/
def Dev.sentAll (d : Dev) (ch seq : Nat) : Bool :=
  let id := d.get (K.CH_RING_ID ch)
  let mine (m : Msg) : Bool := let h := ringHdr m.payload; m.src == d.get K.DEVICE_NUMBER && h.id == id && h.seq == seq
  !d.delayed.any (fun e => e.2.vc == 2 && mine e.2) &&
  d.links.all (fun l => !((Map.get l.2.txq [] 2).any mine || (Map.get l.2.held [] 2).any mine) &&
    !(l.2.buf.any (fun s => s.flit.vc == 2 && s.flit.src == d.get K.DEVICE_NUMBER)))

/-- Every item of a bucket has come and gone (R388). -/
def Dev.bucketDone (d : Dev) (ch : Nat) (o : RingOp) : Bool :=
  let (dd, i) := d.ringAt ch
  let nb := o.bk.nb
  dd == 1 ||
  (o.scaleN == otherItems nb dd (posMod dd (i + 2 * dd - 2)) && o.rsN == otherItems nb dd (posMod dd (i + dd - 1)) &&
   (o.bk.scatter || o.agN == otherItems nb dd i))

/-! ## Messages held and processed (R376) -/

/-- Bytes that the RX area of a channel holds. -/
def Chan.rxBytes (c : Chan) : Nat := (c.rx.map (fun m => m.payload.length)).sum

/-- The first message of the operation in flight that it can process now. -/
def Chan.nextMsg (c : Chan) (o : RingOp) : Option Msg :=
  match c.rx.find? (fun m => (ringHdr m.payload).seq == o.bk.seq) with
  | none => none
  | some m =>
    let h := ringHdr m.payload
    if !o.repass then some m
    else if h.round == o.round && (if h.kind = 4 then o.stage == 0 else o.stage == 1) then some m else none

/-- Processes one held message, if there is one. -/
def Dev.ringOnce (d : Dev) (ch : Nat) : Dev :=
  let e := d.chanEng ch
  let c := d.chan ch
  match c.op with
  | none => d
  | some o =>
    if (o.fate.isNone && !o.repass) || o.ended then d else
    match c.nextMsg o with
    | none => d
    | some m =>
      let d := d.setChan ch { c with rx := c.rx.erase m }
      let d := d.cnt (K.RD_MESSAGES (d.get (K.CH_RDE ch))) 1
      let h := ringHdr m.payload
      if o.repass then (((d.repassMsg ch e h (m.payload.drop 16)).listDone ch e).roundDone ch).listDone ch e
      else d.bucketMsg ch e h (m.payload.drop 16)

/-- Processes what can be processed. -/
def Dev.ringLoop (d : Dev) (ch : Nat) : Dev := (List.range ((d.chan ch).rx.length)).foldl (fun d _ => d.ringOnce ch) d

/-- A message of one of the kinds SCALE to REPASS_AG, or ABORT, has come on a link (R374, R376, R399). -/
def Dev.ringReceive (d : Dev) (l kind : Nat) : Dev :=
  match d.takeRing l kind with
  | none => d
  | some (m, d) =>
    let h := ringHdr m.payload
    match d.msgChannel m with
    | none => d.strayMsg l m
    | some ch =>
      let c := d.chan ch
      let attOk := h.att = d.get (K.ATTEMPT (d.get (K.CH_PART ch))) % 256
      if !attOk || h.seq < c.done || c.aborted.contains h.seq then d.cnt (K.CH_DISCARDS ch) 1
      else if c.done + 1 < h.seq || (kind ≠ 7 && d.get (K.CH_RX_BYTES ch) < c.rxBytes + m.payload.length) then
        let d := d.file { cls := 8, syndrome := syn8 13 ch, aux := h.seq, unit := (d.chanEng ch).unit, index := 0, opcode := 0xFF,
                          status := 0, part := m.part }
        match c.op with
        | some o => d.ringAbort ch o.bk.seq
        | none => d
      else if kind = 7 then d.ringAbort ch h.seq
      else (d.setChan ch { c with rx := c.rx ++ [m] }).ringLoop ch

/-! ## Contributions (R394 to R398) -/

/-- The contribution of the bucket in flight is decided; the bucket's work begins. -/
def Dev.decideBucket (d : Dev) (ch : Nat) (incl : Bool) : Dev :=
  match (d.chan ch).op with
  | none => d
  | some o =>
    let e := rde o.eng o.part
    let d := d.setOp ch { o with fate := some incl, holding := false, bk := { o.bk with incl := incl } }
    let d := d.put (K.CH_STATE ch) 1
    let d := if incl then d else d.cnt (K.CH_EXCLUDED ch) 1
    (d.bucketStart ch e).ringLoop ch

/-- The head handle of a ready queue, taken. -/
def Dev.popReady (d : Dev) (p bound q : Nat) : Option (Handle × Dev) :=
  let c := d.get (K.SLOT_CORE p bound)
  if 64 ≤ c then none
  else match d.hq c q with
    | [] => none
    | h :: r => if d.cyclesEnd (quadOf c) ≤ h.vis then none else some (h, d.setHq c q r)

/-- CONTRIBUTION_READY (R394): the bucket in flight pops its handle. -/
def Dev.contributionReady (d : Dev) (ch : Nat) : Dev :=
  let c := d.chan ch
  match c.op with
  | none => d
  | some o =>
    if o.repass || o.fate.isSome || o.readyQ = 255 || c.late.any (fun x => x.readyQ == o.readyQ) then d else
    match d.popReady o.part o.bound o.readyQ with
    | none => d
    | some (h, d) =>
      if h.status = stOK || h.status = stLATE then d.decideBucket ch true
      else (d.setOp ch { o with inh := h.status }).decideBucket ch false

/-- The attempt's epoch has passed a relative tick. -/
def Dev.pastRel (d : Dev) (p t : Nat) : Bool := d.get (K.EPOCH_NOW p) + t ≤ d.now

/-- The contribution in flight misses its deadline in a schedule of a fugitive mode, or the hold limit, or a replayed ledger
excludes it. -/
def Dev.exclude (d : Dev) (ch : Nat) (carryOut lost : Bool) : Dev :=
  let c := d.chan ch
  match c.op with
  | none => d
  | some o =>
    let d := d.setChan ch { c with late := c.late ++
      [{ bk := o.bk, readyQ := o.readyQ, bound := o.bound, eng := o.eng, carryOut := carryOut, lost := lost }] }
    let d := if d.get (K.MODE o.part) = 1 then d else d.ledgerFlag (rde o.eng o.part) o.bk.entry 37
    d.decideBucket ch false

/-- CONTRIB_DEADLINE (R395, R396). -/
def Dev.contribDeadline (d : Dev) (ch : Nat) : Dev :=
  match (d.chan ch).op with
  | none => d
  | some o =>
    if o.repass || o.fate.isSome || o.holding || o.replay.isSome || !d.pastRel o.part o.contrib then d
    else
      let mode := d.get (K.MODE o.part)
      if mode = 0 then
        ((d.setOp ch { o with holding := true, bk := { o.bk with held := true } }).put (K.CH_STATE ch) 3).cnt (K.CH_HELD ch) 1
      else
        let s := d.sched o.part
        let d := d.setSched o.part { s with excused := s.excused ++ [o.bound * 32 + o.readyQ] }
        d.exclude ch (mode == 1) false

/-- HOLD_LIMIT_EXPIRE (R395). -/
def Dev.holdLimitExpire (d : Dev) (ch : Nat) : Dev :=
  match (d.chan ch).op with
  | none => d
  | some o =>
    if !o.holding || !d.pastRel o.part (o.contrib + d.get (K.CH_HOLD_LIMIT ch)) then d else d.exclude ch false false

/-- Writes a carry-out half (R397): the contribution with a valid carry-in added, or the carry-in alone. -/
def Dev.carryWrite (d : Dev) (e : Eng) (b : Bucket) (alone : Bool) : Dev :=
  let step := d.get (K.STEP e.p)
  let inn := b.half (step % 2)
  let out := b.half ((step + 1) % 2)
  let el (i : Nat) : Nat :=
    let c := inn + 64 + 4 * i
    if alone then (if d.winAnyBad e c 4 then nanOf 23 else d.winLE e c 4) else (d.contribution e b i).1
  let body := (List.range b.n).flatMap (fun i => toLE 4 (el i))
  let s := d.iss e 0 0xFF
  let (_, d) := d.writeWin s (d.engWho e) (out + 64) body
  (d.writeWin s (d.engWho e) out (toLE 8 (step + 1) ++ [1] ++ List.replicate 55 0)).2

/-- LATE_CONTRIBUTION (R395, R396, R398): the handle of an excluded bucket arrives. -/
def Dev.lateContribution (d : Dev) (ch : Nat) : Dev :=
  let c := d.chan ch
  match c.late with
  | [] => d
  | x :: r =>
    let p := d.get (K.CH_PART ch)
    match d.popReady p x.bound x.readyQ with
    | none => d
    | some (h, d) =>
      let e := rde x.eng p
      if x.lost then d
      else if !x.carryOut then d.setChan ch { c with late := r }
      else if h.status = stOK || h.status = stLATE then
        let d := ((d.setChan ch { c with late := r }).carryWrite e x.bk false).ledgerFlag e x.bk.entry 39
        if x.bk.cin then d.ledgerFlag e x.bk.entry 40 else d
      else
        let d := d.setChan ch { c with late := r }
        (if x.bk.cin then d.carryWrite e x.bk true else d).ledgerFlag e x.bk.entry 38

/-- At the end of the attempt: contributions that never came (R396), in a replay those whose entry says so: the carry-in that the
first run passed on alone is passed on again (R9, log entry 122). -/
def Dev.lateEnd (d : Dev) (ch : Nat) : Dev :=
  let p := d.get (K.CH_PART ch)
  let c := d.chan ch
  (c.late).foldl (fun d x =>
    let e := rde x.eng p
    if x.carryOut || x.lost then (if x.bk.cin then d.carryWrite e x.bk true else d).ledgerFlag e x.bk.entry 38
    else if d.get (K.MODE p) = 1 then d.ledgerFlag e x.bk.entry 38 else d) (d.setChan ch { c with late := [] })

/-! ## Commands -/

/-- The bucket of an RD_BUCKET and its extension (R379). -/
def decodeBucket (c x : Cmd) : Bucket :=
  { seq := bits (c.w 2) 31 16, n := c.w 3 + 1, scatter := c.flag 15, src := c.pair 4, dst := c.pair 6, carry := x.pair 4,
    entry := bits (x.w 3) 11 0, cin := false, incl := false, held := false, exps := [], owed := [], count := 0, nf := false,
    rounds := 0 }

/-- The replayed ledger entry of a bucket (R398): none without a replay, some none where it does not match. -/
def Dev.replayEntry (d : Dev) (e : Eng) (ch seq idx : Nat) : Option (Option Nat) :=
  let base := d.get (K.REPLAY_BASE e.p)
  if base = 0 then none
  else
    let rd (a n : Nat) : Option Nat :=
      match d.xlateRun (d.engWho e) a n with
      | .ok _ => if d.winAnyBad e a n then none else some (d.winLE e a n)
      | .error _ => none
    match rd base 8 with
    | none => some none
    | some s0 =>
      match rd (base + (d.get (K.STEP e.p) - s0) * d.ledgerSize e.p + 64 + 8 * idx) 8 with
      | none => some none
      | some w => if bit w 42 && bits w 47 43 = ch && bits w 63 48 = seq && s0 ≤ d.get (K.STEP e.p) then some (some w) else some none

/-- A channel that RD_BUCKET or RD_REPASS names belongs to the engine, the partition and the sequence (R375, R381). -/
def Dev.chanChecks (d : Dev) (e : Eng) (ch seq : Nat) : Except Nat Unit :=
  match both (must (d.get (K.CH_PART ch) == e.p) stACCESS)
        (must (d.get (K.CH_RDE ch) == e.n && seq == d.get (K.CH_NEXT_SEQ ch)) stRANGE) with
  | .error st => .error st
  | .ok _ => .ok ()

/-- Pages of the partition's own memory here (R381). -/
def Dev.ownSpan (d : Dev) (e : Eng) (a n : Nat) : Except Nat (List Loc) :=
  match d.xlateRun (d.engWho e) a n with
  | .error st => .error st
  | .ok ls => if ls.any (fun l => match l with | .far _ => true | _ => false) then .error stACCESS else .ok ls

/-- The reserved fields of an RD_BUCKET and its extension read 0, and the extension's word 0 is as R379 says. -/
def bucketFields (c x : Cmd) : Bool :=
  bits (c.w 0) 14 13 = 0 && bits (c.w 2) 7 0 = 0 && x.w 0 = 0xFFFF0012 && bits (x.w 3) 31 12 = 0 && x.w 6 = 0 && x.w 7 = 0

/-- The reserved fields of an RD_REPASS read 0 (R380). -/
def repassFields (c : Cmd) : Bool :=
  bits (c.w 0) 15 13 = 0 && bits (c.w 2) 15 0 = 0 && c.w 3 = 0 && c.w 4 = 0 && c.w 5 = 0 && c.w 6 = 0 && c.w 7 = 0

/-- The checks of R381 on a re-pass. -/
def Dev.repassChecks (d : Dev) (e : Eng) (c : Cmd) : Except Nat Unit :=
  match both (d.chanChecks e (bits (c.w 0) 12 8) (bits (c.w 2) 31 16)) (must (repassFields c) stRANGE) with
  | .error st => .error st
  | .ok _ => .ok ()

/-- The checks of R381 on a bucket and the places it names. -/
def Dev.bucketChecks (d : Dev) (e : Eng) (c x : Cmd) (ch : Nat) (b : Bucket) : Except Nat (List Loc) :=
  let p := e.p
  let mode := d.get (K.MODE p)
  let contrib := x.w 2
  let rq := bits (c.w 2) 15 8
  let qOk := rq = 255 || (rq < 32 && (match d.queueCore e with | some k => d.get (K.HQ_BIND k rq) == 6 | none => true))
  let ok := bucketFields c x && c.w 1 ≤ contrib && contrib < d.get (K.PERIOD p) && b.nb ≤ d.get (K.CH_MAX_BLOCKS ch) &&
    (d.get (K.LEDGER_BASE p) = 0 || b.entry < d.get (K.LEDGER_BUCKETS p)) && (mode ≠ 1 || b.carry ≠ 0) && qOk &&
    (d.chan ch).buckets.length < 64 && d.replayEntry e ch b.seq b.entry ≠ some none
  match both (both (d.chanChecks e ch b.seq) (must ok stRANGE))
        (both (both (d.ownSpan e b.src (4 * b.n)) (d.ownSpan e b.dst (68 * b.nb)))
          (both (if mode = 1 then d.ownSpan e b.carry (2 * (64 + 128 * b.nb)) else .ok [])
            (if d.get (K.CH_SIZE ch) ≤ 1 then .ok [] else d.ownSpan e (d.get (K.CH_RX_BASE ch)) (d.get (K.CH_RX_BYTES ch))))) with
  | .error st => .error st
  | .ok (_, (a, b), (c, _)) => .ok (a ++ b ++ c)

/-- Puts an operation in flight. -/
def Dev.opStart (d : Dev) (ch : Nat) (e : Eng) (slots : Nat) (o : RingOp) : Dev :=
  let d := d.put (K.CH_NEXT_SEQ ch) ((o.bk.seq + 1) % 2 ^ 16)
  let d := (d.setChan ch { d.chan ch with op := some o }).advance e slots
  let d := d.put (K.CH_STATE ch) (if o.repass then 2 else 1)
  if (d.chan ch).aborted.contains o.bk.seq then d.ringFinish ch o stLINK else d

/-- A fresh operation. -/
def Dev.newOp (d : Dev) (e : Eng) (c : Cmd) (repass : Bool) (b : Bucket) (contrib readyQ : Nat) (replay : Option Nat) : RingOp :=
  { repass := repass, eng := e.n, part := e.p, fl := d.inflight e c stOK 4 0 0, bk := b, contrib := contrib, readyQ := readyQ,
    bound := (d.ctx e).bound, fate := none, holding := false, replay := replay, scaleN := 0, rsN := 0, agN := 0, maxE := [],
    round := if repass then 1 else 0, stage := 0, lists := [], kept := [], nfs := [], progR := [], progA := [],
    lost := false, inh := 0 }

/-- RD_BUCKET (R379 to R381, R394 to R398). -/
def Dev.rdBucket (d : Dev) (r p : Nat) : Dev :=
  let e := rde r p
  d.issue e (· == 0x10) (fun d cmd n =>
    match d.exts e cmd n with
    | (.error st, d) => if st = stWAIT then d else d.reject e cmd n st
    | (.ok es, d) =>
      let x : Cmd := { index := 0, words := es.headD [], handle := none }
      let ch := bits (cmd.w 0) 12 8
      let b := decodeBucket cmd x
      match d.bucketChecks e cmd x ch b with
      | .error st => d.reject e cmd n st
      | .ok ls =>
        if (d.chan ch).op.isSome then d else
        match d.memWait e (ls.map (fun l => (0, l))) with
        | some d => d
        | none =>
        let mode := d.get (K.MODE p)
        let step := d.get (K.STEP p)
        let inn := b.half (step % 2)
        let rep := (d.replayEntry e ch b.seq b.entry).getD none
        let valid := mode = 1 && d.winByte e (inn + 8) = 1 && d.winLE e inn 8 = step && !d.winAnyBad e inn 9
        let cin := match rep with | some w => if bit w 38 then valid else bit w 40 | none => valid
        let b := { b with cin := cin }
        let d := if mode = 1 then (d.writeWin (d.iss e cmd.index cmd.op) (d.engWho e) (b.half ((step + 1) % 2) + 8) [0]).2 else d
        let rq := bits (cmd.w 2) 15 8
        let o := d.newOp e cmd false b (x.w 2) rq rep
        let d := d.opStart ch e n o
        if (d.chan ch).op.isNone then d else
        let d := d.trkTake e cmd.index (ls.map (fun l => (0, l)))
        match rep with
        | some w =>
          if !bit w 41 then d.exclude ch (bit w 39) (bit w 38)
          else if rq = 255 then d.decideBucket ch true else d
        | none => if rq = 255 then d.decideBucket ch true else d)

/-- RD_REPASS (R380, R381, R391). -/
def Dev.rdRepass (d : Dev) (r p : Nat) : Dev :=
  let e := rde r p
  d.issue e (· == 0x11) (fun d cmd n =>
    let ch := bits (cmd.w 0) 12 8
    match d.repassChecks e cmd with
    | .error st => d.reject e cmd n st
    | .ok _ =>
      if (d.chan ch).op.isSome then d else
      let b : Bucket := { (decodeBucket cmd cmd) with n := 0, carry := 0, entry := 0 }
      let o := d.newOp e cmd true b 0 255 none
      let d := d.opStart ch e n o
      if (d.chan ch).op.isNone then d
      else
        let d := (d.listStart ch).listDone ch e
        ((List.range 4).foldl (fun d _ => (d.roundDone ch).listDone ch e) d).ringLoop ch)

/-- RD_NOP. -/
def Dev.rdNop (d : Dev) (r p : Nat) : Dev := d.issue (rde r p) (· == 0) (fun d cmd _ => d.relay (rde r p) cmd)

/-- BUCKET_COMPLETE (R388, R389, R391, R400): the operation in flight on a channel ends. -/
def Dev.bucketComplete (d : Dev) (ch : Nat) : Dev :=
  match (d.chan ch).op with
  | none => d
  | some o =>
    let e := rde o.eng o.part
    if o.lost then (if o.ended then d.ringFinish ch o (stWorst o.fl.status stLINK) else d.ringAbort ch o.bk.seq)
    else if !d.sentAll ch o.bk.seq || d.now < o.fl.hold then d
    else if o.repass then
      if o.stage ≠ 2 then d
      else
        let d := d.repassEnd ch e
        match (d.chan ch).op with
        | some o =>
          let d := (if o.ended then [] else (d.chan ch).buckets).foldl (fun d b =>
            let w := Map.get (d.part o.part).ledger 0 (b.entry + 1)
            let w := if b.nf then withBit w 35 true else w
            d.ledgerPut e b.entry (w / 2 ^ 35 * 2 ^ 35 + b.rounds % 4 * 2 ^ 33 + w % 2 ^ 33)) d
          d.ringFinish ch o o.fl.status
        | none => d
    else if o.fate.isNone || !d.bucketDone ch o then d
    else
      let st := if o.bk.held then stWorst o.fl.status stLATE else o.fl.status
      d.ringFinish ch o st

end Sys2Proof.Machine
end

