-- ==== Sys2Proof/Machine/Place.lean ====
section
/-! DEFINITION. Cores and slots: placement, switches, admission, eviction (R100 to R102, R156, R157, R228, R246, R269,
R405 to R427). -/
namespace Sys2Proof.Machine

/-! ## Cores -/

/-- The core is being scanned (R476). -/
def Dev.scanning (d : Dev) (c : Nat) : Bool := d.get (K.SCAN_STATE c) == 2

/-- The switch in progress on a core. -/
def Dev.swOf (d : Dev) (c : Nat) : Option Switch := Map.get d.sw none c
/-- Sets or ends it. -/
def Dev.setSw (d : Dev) (c : Nat) (w : Option Switch) : Dev := { d with sw := Map.set d.sw none c w }

/-- CORE_STATE (R35, R476, R478): absent (or not yet released, R495), free, owned (or
scanned, or switching), fenced. -/
def Dev.coreState (d : Dev) (c : Nat) : Nat :=
  if !bit (d.get K.CORE_PRESENT) c then 0
  else if d.scanning c then 2
  else if bit (d.get K.FENCE_MASK) c then 3
  else if !bit d.released c then 0
  else if d.get (K.CORE_OWNER c) ≠ 0xFF || (d.swOf c).isSome then 2 else 1

/-- Cores of a partition's CORE_MASK, in ascending order. -/
def Dev.maskCores (d : Dev) (p : Nat) : List Nat := setBits 64 (d.get (K.CORE_MASK p))

/-- PART_CAPACITY (R426). -/
def Dev.capacity (d : Dev) (p : Nat) : Nat :=
  min (d.get (K.PART_SLOTS p)) ((d.maskCores p).countP d.coreUsable)

/-- An LC placement takes a core that is free or scanned (R414, R476). -/
def Dev.takeable (d : Dev) (c : Nat) : Bool :=
  d.coreState c == 1 || (d.scanning c && d.coreUsable c && (d.swOf c).isNone)

/-- The core holds a slot of a best-effort partition. -/
def Dev.heldBE (d : Dev) (c : Nat) : Bool :=
  d.get (K.CORE_OWNER c) < 16 && d.get (K.PART_CLASS (d.get (K.CORE_OWNER c))) == 1

/-- ... and no slot is to come to it yet. -/
def Dev.claimable (d : Dev) (c : Nat) : Bool :=
  d.coreUsable c && d.heldBE c && (match d.swOf c with | some w => w.inn.isNone && !w.back | none => true)

/-- The cores that slots of a partition hold, with their slots. -/
def Dev.slotCores (d : Dev) (p : Nat) : List (Nat × Nat) :=
  ((List.range 64).filter (fun c => d.get (K.CORE_OWNER c) == p && d.get (K.CORE_SLOT c) < 64)).map
    (fun c => (c, d.get (K.CORE_SLOT c)))

/-- Every slot of the loaded schedule is resident. -/
def Dev.allResident (d : Dev) (p : Nat) : Bool :=
  (List.range (d.sched p).slots).all (fun n => decide (d.get (K.SLOT_CORE p n) < 64))

/-! ## Epochs -/

/-- The epoch that HELD_TICKS and ATTEMPT give (R88). -/
def Dev.epochOf (d : Dev) (p : Nat) : Nat :=
  d.get (K.BASE_EPOCH p) + d.get (K.ATTEMPT p) * d.get (K.PERIOD p) + d.get (K.HELD_TICKS p)

/-- HELD_TICKS grows, and with it the epoch of a running attempt (R88, R91, R92). -/
def Dev.hold (d : Dev) (p n : Nat) : Dev :=
  let d := d.cnt (K.HELD_TICKS p) n
  if d.get (K.SCHED_STATE p) = 3 then d.put (K.EPOCH_NOW p) (d.epochOf p) else d

/-- Core cycles at pace as ticks, rounded up (R94). -/
def Dev.paceTicks (d : Dev) (p n : Nat) : Nat := ceilDiv (n * 10000000) (159984 * max 1 (d.get (K.PACE_MHZ p)))

/-! ## A slot's context (R48, R418) -/

/-- Index offsets in a core's block of the objects that belong to the slot. -/
def slotOffs : List Nat := [0x01, 0x02, 0x03, 0x05, 0x06, 0x08, 0x19]

/-- An object key lies in core `c`'s block and belongs to its slot. -/
def slotKey (c key : Nat) : Bool :=
  (0x3000 + 0x40 * c) * 256 ≤ key && key < (0x3040 + 0x40 * c) * 256 && slotOffs.contains (key / 256 % 0x40)

/-- The slot's objects as they stand on a core, by their offset in its block. -/
def Dev.slotObjs (d : Dev) (c : Nat) : Map Nat :=
  (d.objs.filter (fun e => slotKey c e.1)).map (fun e => (e.1 - (0x3000 + 0x40 * c) * 256, e.2))

/-- Takes the slot's objects off a core. -/
def Dev.clearSlotObjs (d : Dev) (c : Nat) : Dev := { d with objs := d.objs.filter (fun e => !slotKey c e.1) }

/-- The defaults of a slot's objects, by offset (R35, R271). -/
def slotDflt (off : Nat) : Nat :=
  match off / 256, off % 256 with
  | 3, _ => 256
  | 6, _ => 255
  | 0x19, 1 => 1
  | 0x19, 2 => 4
  | 0x19, 3 => 128
  | _, _ => 0

/-- Puts a context's objects on a core; where the context lists none, the core's own stand (log entry 31). -/
def Dev.loadSlotObjs (d : Dev) (c : Nat) (m : Map Nat) : Dev :=
  { d with objs := m.foldl (fun o e => Map.set o (slotDflt e.1) ((0x3000 + 0x40 * c) * 256 + e.1) e.2) d.objs }

/-- The 304 line-rows of a core, as memory and row, in the order of the image's chunks (log entry 32). -/
def lineRow (r : Nat) : Nat × Nat :=
  if r < 96 then (0, r) else if r < 160 then (1, r - 96) else if r < 288 then (2, r - 160) else (3, r - 288)

/-- Physical offset of a window address, where it is an HBM page. -/
def Dev.savePlace (d : Dev) (p n chunk : Nat) : Option Nat :=
  let page := d.get (K.SAVE_PAGE p) + 4 * n + chunk % 4
  let e := Map.get (d.part p).window 0 page
  if bit e 63 && bits e 62 61 = 0 then some (bits e 20 2 * 0x200000 + 4096 * (chunk / 4)) else none

/-- The words in error of a line-row, as keys of `Core.badWord`. -/
def Core.flawsIn (k : Core) (m row : Nat) : List Nat :=
  ((k.poison.map Prod.fst ++ k.flaw.map Prod.fst).eraseDups).filter (fun x => x / 512 == m * 256 + row)

/-- The save path reads a line-row: a word that it corrects, and one that it cannot read, which has its record and is poisoned from
then on (R238, R239). -/
def Dev.saveRead (d : Dev) (c m row : Nat) : Dev :=
  ((d.core c).flawsIn m row).foldl (fun d x =>
    if (d.core c).badWord x then
      let d := d.spRecord c m 2 (x % 0x20000) 0 0 0xFF
      let k := d.core c
      d.setCore c { k with poison := Map.set k.poison false x true, flaw := Map.set k.flaw .clean x .clean }
    else d.spCorrected c m (x % 0x20000)) d

/-- Saves the dirty line-rows to the save area (R418). -/
def Dev.saveRows (d : Dev) (c p n : Nat) : Dev :=
  (List.range 304).foldl (fun d r =>
    let (m, row) := lineRow r
    if !Map.get (d.core c).dirty false (m * 256 + row) then d else
    match d.savePlace p n r with
    | none => d
    | some x =>
      let d := d.saveRead c m row
      let k := d.core c
      ((List.range 4096).foldl (fun d i => d.setHbmByte (x + i) (k.byte m (4096 * row + i))) d).meter p true 4096) d

/-- Granules that a Forerunner-compatible switch drops (R425). -/
def Core.droppable (k : Core) : List Nat :=
  (List.range 192).filter (fun g => Map.get k.resident false g && Map.get k.src 0 g != 0)

/-- Bytes of the context record of an image (R418). -/
def contextBytes : Nat := 22016

/-- A WM granule's words hold what is to be written there: none is in error, and its checksums agree (R237, R240). -/
def Core.freshGran (k : Core) (g : Nat) : Core :=
  { k with poison := Map.delRange k.poison (256 * g) (256 * (g + 1)), flaw := Map.delRange k.flaw (256 * g) (256 * (g + 1)),
           crcOff := Map.set k.crcOff 0 g 0 }

/-- Drops a granule: its bytes and its resident bit. -/
def Core.dropGran (k : Core) (g : Nat) : Core :=
  { k.freshGran g with sp := Map.delRange k.sp (spKey 0 (2048 * g)) (spKey 0 (2048 * (g + 1))),
                       resident := Map.set k.resident false g false }

/-- Drops every droppable granule; a line-row both of whose granules go is no longer dirty, so that it is not saved (R425). -/
def Core.dropAll (k : Core) : Core :=
  let gs := k.droppable
  gs.foldl (fun (k : Core) g =>
    let k := k.dropGran g
    if gs.contains (if g % 2 = 0 then g + 1 else g - 1) then { k with dirty := Map.set k.dirty false (g / 2) false } else k) k

/-! ## Switches (R417 to R425) -/

/-- Step 1: the engines of the leaving slot stop; passes in flight become rerun records with their watermark (R156), the vector
command comes to its next beat boundary (R228). -/
def Dev.stopSlot (d : Dev) (c : Nat) : Dev :=
  let t := d.cycles (quadOf c)
  let d := d.vxStop c
  let (k, ws) := (d.core c).drainTo t
  let d := d.setCore c { k with reruns := k.passes ++ k.reruns, passes := [], mxWait := 0 }
  (d.metRecords c ws).raEmpty c

/-- A core's move or gather engine still waits for another device. -/
def Dev.refsOut (d : Dev) (c : Nat) : Bool :=
  [3, 4].any (fun k => match d.flight (eng k c) with | some f => !f.outs.isEmpty | none => false)

/-- What belongs to the slot, so that it can go on elsewhere: the elapsed part of issued commands comes off their cost; the
words in error of saved line-rows stay poisoned and the rest of the scratchpads is to be zeros with correct check bits (R239, R418);
what the core itself counts stays behind. -/
def Core.freeze (k : Core) (t : Nat) : Core :=
  { k with
    poison := k.poison.filter (fun x => Map.get k.dirty false (x.1 / 512)), flaw := [], once := [],
    crcOff := k.crcOff.filter (fun x => Map.get k.dirty false (x.1 / 2)), scrubLine := [], scrubAt := [], zeroTill := 0,
    eng := k.eng.map (fun (e : Nat × EngCtx) => (e.1, { e.2 with till := 0, nxt := 0, spent := 0, busy := e.2.busy.map (fun (f : InFlight) =>
      { f with cost := if e.1 = 2 then f.cost else f.cost - (t - f.start), start := 0 }) })),
    hq := k.hq.map (fun (q : Nat × List Handle) =>
      (q.1, q.2.map (fun (h : Handle) => { h with vis := h.vis - t, cyc := 0, rank := 0 }))) }

/-- ... and they go on from here. -/
def Core.thaw (k : Core) (t : Nat) : Core :=
  { k with eng := k.eng.map (fun (e : Nat × EngCtx) => (e.1, { e.2 with busy := e.2.busy.map (fun (f : InFlight) =>
      { f with start := t }) })),
           hq := k.hq.map (fun (q : Nat × List Handle) =>
             (q.1, q.2.map (fun (h : Handle) => { h with vis := if h.vis = 0 then 0 else h.vis + t }))) }

/-- Step 2: the image of the leaving slot is saved, once its references are answered or abandoned. -/
def Dev.trySave (d : Dev) (c : Nat) : Dev :=
  match d.swOf c with
  | none => d
  | some w =>
    match w.out with
    | none => d
    | some (p, n) =>
      if !w.started || w.saved || d.refsOut c then d else
      let k := d.core c
      let k := if d.flag (K.FORERUNNER_COMPAT p) then k.dropAll else k
      let d := d.setCore c k
      let d := (d.saveRows c p n).meter p true contextBytes
      let img : Image := { core := k.freeze (d.cycles (quadOf c)), objs := d.slotObjs c }
      let d := d.clearSlotObjs c
      let q := d.part p
      let d := d.setPart p { q with images := Map.set q.images Image.init n img }
      let d := (d.put (K.SLOT_CORE p n) 0xFE).put (K.CORE_SLOT c) 0xFF
      (d.setCore c Core.init).setSw c (some { w with saved := true, link := d.now - w.req })

/-- Delivers the handles held for a slot (R416). -/
def Dev.deliverHeld (d : Dev) (c p n : Nat) : Dev :=
  let d := (List.range 32).foldl (fun d q =>
    (Map.get (d.part p).heldHq [] (n * 32 + q)).foldl (fun d h =>
      let l := d.hq c q
      if 16 ≤ l.length then
        d.file { cls := 8, syndrome := syn8 3 q, aux := 0, unit := unitPart p, index := 0, opcode := 0xFF, status := stRANGE,
                 part := p }
      else d.setHq c q (l ++ [{ h with vis := d.cycles (quadOf c), cyc := 0, rank := 0 }])) d) d
  let q := d.part p
  d.setPart p { q with heldHq := Map.delRange q.heldHq (n * 32) (n * 32 + 32) }

/-- Streams a dropped granule back from its source (R425). -/
def Dev.restream (d : Dev) (c p g : Nat) : Dev :=
  let a := Map.get (d.core c).src 0 g - 1
  match d.xlateRun (.part p) a 2048 with
  | .error _ => d
  | .ok ls =>
    let (bs, bad, d) := d.readRun { part := p, index := 0, op := 0xFF, alloc := true } 2 ls
    let k := (d.core c).freshGran g
    let sp := (bs.zipIdx).foldl (fun m b => Map.set m 0 (spKey 0 (2048 * g + b.2)) b.1) k.sp
    d.setCore c { k with sp := sp, resident := Map.set k.resident false g (!bad),
                         dirty := Map.set k.dirty false (2048 * g / 4096) true }

/-- Issues the abandoned references of an engine again (R420). -/
def Dev.redoRefs (d : Dev) (c : Nat) : Dev :=
  let rs := (d.core c).redo
  let d := d.setCore c { d.core c with redo := [] }
  rs.foldl (fun d r =>
    let e := eng r.k c
    match d.request e r.index r.attempt r.write r.addr r.len r.data, (d.ctx e).busy.head? with
    | (some id, d), some f => d.setFlight e { f with outs := f.outs ++ [id] }
    | (none, d), some f => d.setFlight e { f with status := stWorst f.status stLINK }
    | (_, d), none => d) d

/-- Steps 3 to 5: a slot comes to a core that holds none (R417, R418). The core is zeroised where `zero` says that another
partition, or none, had it before (R246). -/
def Dev.enter (d : Dev) (c p n : Nat) (zero : Bool) : Dev :=
  let img := Map.get (d.part p).images Image.init n
  let d := d.wakeDom c
  let d := if zero then d.zeroise c else d
  let d := d.setCore c { img.core.thaw (d.cycles (quadOf c)) with zeroTill := (d.core c).zeroTill }
  let back := if img.core = Core.init then 0 else 4096 * img.core.dirty.length + contextBytes
  let d := (d.meter p false back).loadSlotObjs c img.objs
  let q := d.part p
  let d := d.setPart p { q with images := Map.set q.images Image.init n Image.init }
  let d := ((d.put (K.CORE_OWNER c) p).put (K.CORE_SLOT c) n).put (K.SLOT_CORE p n) c
  let d := d.deliverHeld c p n
  let back := (List.range 192).filter (fun g => Map.get img.core.src 0 g != 0 && !Map.get img.core.resident false g)
  let d := if d.flag (K.FORERUNNER_COMPAT p) then back.foldl (fun d g => d.restream c p g) d else d
  let d := if (d.ctx (eng 2 c)).busy.isEmpty then d else d.cnt (K.VX_RESUMED c) 1
  d.redoRefs c

/-- The rerun allowance of a slot and its re-stream bound, in ticks (R157, R423, R425). -/
def Dev.resumeTicks (d : Dev) (p c : Nat) : Nat :=
  let k := d.core c
  let rerun := d.paceTicks p ((k.reruns.map Pass.dur).sum + 2)
  let n := (List.range 192).countP (fun g => Map.get k.src 0 g != 0)
  if d.flag (K.FORERUNNER_COMPAT p) && n ≠ 0 then
    let l := ceilDiv (3 * d.get (K.PACE_MHZ p)) 2
    rerun + d.paceTicks p (24 + n * max 16 (ceilDiv (16 * max 512 l) 1024) + l)
  else rerun

/-- A best-effort partition has become resident on every slot (R415, R423). -/
def Dev.becameResident (d : Dev) (p : Nat) : Dev :=
  if d.get (K.PART_CLASS p) = 0 || !d.allResident p || (d.sched p).slots = 0 then d
  else
    let q := d.part p
    let extra := ((d.slotCores p).map (fun x => d.resumeTicks p x.1)).foldl max 0
    let d := if q.admitted = 0 then d else d.hold p extra
    let d := d.setPart p { d.part p with admitted := d.now, quantumUp := false }
    { d with lastBe := p }

/-- A core that no slot holds. -/
def Dev.vacate (d : Dev) (c : Nat) : Dev := (d.put (K.CORE_OWNER c) 0xFF).put (K.CORE_SLOT c) 0xFF

/-- A core freed after its slot left. -/
def Dev.freeCore (d : Dev) (c : Nat) : Dev := (d.zeroise c).vacate c

/-- Every resident slot of a best-effort partition is to be switched out (R414, R415). -/
def Dev.evict (d : Dev) (p : Nat) : Dev :=
  (d.slotCores p).foldl (fun d x =>
    match d.swOf x.1 with
    | some _ => d
    | none => d.setSw x.1 (some { out := some (p, x.2), inn := none, back := false, req := d.now, started := false,
                                  saved := false, link := 0 })) d

/-- The measures of a switch that ends now (R419, R429). -/
def Dev.switchMeasure (d : Dev) (p : Nat) (w : Switch) : Dev :=
  let t := d.now - w.req
  let d := (d.cnt (K.PART_SWITCHES p) 1).put (K.LAST_SWITCH p) (min t (2 ^ 32 - 1))
  let d := d.put (K.MAX_SWITCH p) (max (d.get (K.MAX_SWITCH p)) (min t (2 ^ 32 - 1)))
  d.put (K.LAST_LINK_WAIT p) w.link

/-- Places a slot (R414): the first core that is free (or, for an LC slot, scanned), else for an LC slot the first that a
best-effort slot holds, whose partition is evicted whole. False where no core serves. The core `kept` is the one that a slot of the
same partition has just left. -/
def Dev.placeFrom (d : Dev) (p n : Nat) (kept : Option Nat) : Dev × Bool :=
  let lc := d.get (K.PART_CLASS p) == 0
  match (d.maskCores p).find? (fun c => if lc then d.takeable c else d.coreState c == 1) with
  | some c =>
    let w : Switch := { out := none, inn := some (p, n), back := false, req := d.now, started := true, saved := true, link := 0 }
    if d.scanning c then (d.setSw c (some w), true) else ((d.enter c p n (kept != some c)).switchMeasure p w, true)
  | none =>
    if !lc then (d, false) else
    match (d.maskCores p).find? d.claimable with
    | none => (d, false)
    | some c =>
      let d := if (d.swOf c).isNone then d.evict (d.get (K.CORE_OWNER c)) else d
      match d.swOf c with
      | some w => (d.setSw c (some { w with inn := some (p, n) }), true)
      | none => (d, false)

/-- Places a slot on a core that no slot of its partition has just left. -/
def Dev.placeSlot (d : Dev) (p n : Nat) : Dev × Bool := d.placeFrom p n none

/-- SWITCH_REQUEST (R417): the switch pending on a core starts. -/
def Dev.switchRequest (d : Dev) (c : Nat) : Dev :=
  match d.swOf c with
  | none => d
  | some w =>
    if w.started || w.out.isNone then d
    else ((d.stopSlot c).setSw c (some { w with started := true, req := d.now })).trySave c

/-- SW_LINK_LIMIT_EXPIRE (R420): what is unanswered is abandoned, to be issued again on resume. -/
def Dev.swLinkLimitExpire (d : Dev) (c : Nat) : Dev :=
  match d.swOf c with
  | none => d
  | some w =>
    match w.out with
    | none => d
    | some (p, _) =>
      if !w.started || w.saved || d.now < w.req + d.get (K.SW_LINK_LIMIT p) then d else
      ([3, 4].foldl (fun d k =>
        let e := eng k c
        match d.flight e with
        | none => d
        | some f =>
          f.outs.foldl (fun d id =>
            let r := Map.get d.remote Remote.none id
            let x := d.core c
            ((d.setCore c { x with redo := x.redo ++ [r] }).cnt (K.ABANDONED p) 1 |> fun d : Dev =>
              { d with remote := Map.del d.remote id })) (d.setFlight e { f with outs := [] })) d).trySave c

/-! ## Admission of best-effort partitions (R415) -/

/-- The partition waits for admission: its schedule is armed, running or suspended and some slot is not resident. -/
def Dev.beWaits (d : Dev) (p : Nat) : Bool :=
  d.get (K.PART_STATE p) == 1 && d.get (K.PART_CLASS p) == 1 && 2 ≤ d.get (K.SCHED_STATE p) && !d.allResident p &&
  (d.slotCores p).isEmpty

/-- Its slots all find free cores, were the cores `extra` free too. -/
def Dev.fits (d : Dev) (p : Nat) (extra : List Nat) : Bool :=
  (d.sched p).slots ≤ (d.maskCores p).countP (fun c => d.coreState c == 1 || extra.contains c)

/-- Partition numbers in rotation after the one admitted last. -/
def Dev.rotation (d : Dev) : List Nat := (List.range 16).map (fun i => (d.lastBe + 1 + i) % 16)

/-- Admits a partition: every slot is placed. -/
def Dev.takeIn (d : Dev) (p : Nat) : Dev :=
  ((List.range (d.sched p).slots).foldl (fun d n => (d.placeSlot p n).1) d).becameResident p

/-- A resident partition whose quantum is over and whose eviction would let `p` in. -/
def Dev.evictFor (d : Dev) (p : Nat) : Option Nat :=
  (List.range 16).find? (fun q => d.get (K.PART_CLASS q) == 1 && (d.part q).quantumUp && d.allResident q &&
    !(d.slotCores q).isEmpty && d.fits p ((d.slotCores q).map Prod.fst))

/-- BE_ADMISSION: the partition is admitted where it is the first in rotation that can be; else a resident partition whose
quantum is over makes room for it. -/
def Dev.beAdmission (d : Dev) (p : Nat) : Dev :=
  if !d.beWaits p then d
  else if d.fits p [] then
    if (d.rotation.find? (fun q => d.beWaits q && d.fits q [])) == some p then d.takeIn p else d
  else if d.sw.isEmpty then
    match d.evictFor p with
    | some q => d.evict q
    | none => d
  else d

/-- QUANTUM_EXPIRE. -/
def Dev.quantumExpire (d : Dev) (p : Nat) : Dev :=
  if d.get (K.PART_CLASS p) = 0 || !d.allResident p || (d.slotCores p).isEmpty ||
     d.now < (d.part p).admitted + d.get K.BE_QUANTUM then d
  else
    let d := d.setPart p { d.part p with quantumUp := true }
    if d.rotation.any (fun q => d.beWaits q && !d.fits q [] && d.fits q ((d.slotCores p).map Prod.fst)) then d.evict p else d

/-- Admission is tried for every waiting partition in rotation (R415). -/
def Dev.tryAdmit (d : Dev) : Dev := d.rotation.foldl (fun d p => d.beAdmission p) d

/-- The zeroisation of a switch is over with the switch (R246). -/
def Dev.zeroised (d : Dev) (c : Nat) : Dev := d.setCore c { d.core c with zeroTill := 0 }

/-- SWITCH_DONE (R417): the core is zeroised where its partition changes (R246), the coming slot restored; without one the core is
free, or takes the same slot again (R424). -/
def Dev.switchDone (d : Dev) (c : Nat) : Dev :=
  let d := d.trySave c
  match d.swOf c with
  | none => d
  | some w =>
    if !w.saved || d.scanning c then d else
    let d := d.setSw c none
    let d := match w.out with | some (p, _) => d.switchMeasure p w | none => d
    let d := d.vacate c
    match w.inn, w.back, w.out with
    | some (p, n), _, _ => (((d.enter c p n (!w.out.any (fun x => x.1 == p))).zeroised c).switchMeasure p w).becameResident p
    | none, true, some (p, n) =>
      let d := (d.placeFrom p n (some c)).1
      (if d.get (K.CORE_OWNER c) = 0xFF then (d.zeroise c).zeroised c else d).becameResident p
    | none, _, _ => ((d.zeroise c).zeroised c).tryAdmit

/-- PREEMPT_FORCE (R73, R424): at each PERIOD every resident slot of the target is switched out, to be placed again. -/
def Dev.preemptForce (d : Dev) (s : Nat) : Dev :=
  if !d.stainActs s 8 || (d.now - d.get (K.STAIN_START_TICK s)) % max 1 (d.get (K.STAIN_PERIOD s)) ≠ 0 then d
  else
    let p := d.get (K.STAIN_PARTITION s)
    ((d.slotCores p).foldl (fun d x =>
      match d.swOf x.1 with
      | some _ => d
      | none => d.setSw x.1 (some { out := some (p, x.2), inn := none, back := true, req := d.now, started := false,
                                    saved := false, link := 0 })) d).cnt (K.STAIN_APPLIED s) 1

/-- A slot whose STOP_TICK is reached is disarmed (R73). -/
def Dev.stainStop (d : Dev) (s : Nat) : Dev :=
  if d.flag (K.STAIN_ARM s) && d.get (K.STAIN_STOP_TICK s) ≤ d.now then d.put (K.STAIN_ARM s) 0 else d

/-! ## Ends: schedules, fences, releases -/

/-- Every command that a core's engines have in flight completes with a status at the end of the present cycle, and so do the passes
that wait for their reissue; its handle is discarded (R155, R230, R270). -/
def Dev.abortCore (d : Dev) (c st : Nat) : Dev :=
  let d := if c < 64 && !d.switching c then d.vxCatchUp c (d.cycles (quadOf c) + 1) else d
  let d := (d.stopPasses c st false true)
  let d := d.setCore c { d.core c with vx := none }
  let d := [2, 3, 4].foldl (fun d k =>
    let e := eng k c
    let x := d.ctx e
    x.busy.foldl (fun d f => d.finish e { f with status := stWorst f.status st, sig := 255 } (token 0))
      (d.setCtx e { x with busy := [] })) d
  let k := d.core c
  (d.setCore c { k with plan := [], redo := [] }).raEmpty c

/-- The number under which the context of a slot that is on no core stands in the state while something is done to it: no core has
it, nor an object of one. -/
def imageCore (p : Nat) : Nat := 0x10000 + p

/-- The device with a slot's saved context under that number. -/
def Dev.imageView (d : Dev) (p n : Nat) : Dev :=
  let c := imageCore p
  let img := Map.get (d.part p).images Image.init n
  (((d.setCore c img.core).loadSlotObjs c img.objs).put (K.CORE_OWNER c) p).put (K.CORE_SLOT c) n

/-- Does to a slot's saved context what `f` does to a core that holds it (R89, R269, R427). -/
def Dev.withImage (d : Dev) (p n : Nat) (f : Dev → Nat → Dev) : Dev :=
  let c := imageCore p
  let d := f (d.imageView p n) c
  let new : Image := { core := d.core c, objs := d.slotObjs c }
  let q := d.part p
  let d := d.setPart p { q with images := Map.set q.images Image.init n new }
  { d with cores := Map.del d.cores c, objs := d.objs.filter (fun e => decide (e.1 < 2 ^ 24)) }

/-- A saved slot will not be resumed: the commands that were in flight complete with PREEMPTED (R156, R179, R228, R269). -/
def Dev.imageLost (d : Dev) (p n : Nat) : Dev := d.withImage p n (fun d c => d.abortCore c stPREEMPT)

/-- The commands in flight of every slot of a partition that is not resident complete so. -/
def Dev.imagesLost (d : Dev) (p : Nat) : Dev :=
  ((d.part p).images.filter (fun e => e.2.core != Core.init)).foldl (fun d e => d.imageLost p e.1) d

/-- The slots of a schedule that has ended leave their cores (R413). What they have in flight completes LATE, their attempt being
over (R89); a slot that is being switched out, or is out, is not resumed. -/
def Dev.unbind (d : Dev) (p : Nat) : Dev :=
  let d := d.imagesLost p
  let d := (d.slotCores p).foldl (fun d x =>
    let d := d.abortCore x.1 (if d.switching x.1 then stPREEMPT else stLATE)
    let q := d.part p
    let objs := (d.slotObjs x.1).filter (fun e => e.1 / 256 != 0x05)
    let d := (d.setPart p { q with images := Map.set q.images Image.init x.2 { core := Core.init, objs := objs } }).clearSlotObjs x.1
    let k := d.core x.1
    let d := d.setCore x.1 { k with hq := [], eng := [], plan := [], redo := [] }
    d.vacate x.1) d
  let d := { d with sw := d.sw.filter (fun (e : Nat × Option Switch) => match e.2 with
    | some w => !(w.inn.any (fun (x : Nat × Nat) => x.1 == p) && w.out.isNone) && !(w.out.any (fun (x : Nat × Nat) => x.1 == p) && w.inn.isNone)
    | none => false) }
  let d := { d with sw := d.sw.map (fun (e : Nat × Option Switch) => (e.1, e.2.map (fun (w : Switch) =>
    { w with inn := if w.inn.any (fun (x : Nat × Nat) => x.1 == p) then none else w.inn,
             out := if w.out.any (fun (x : Nat × Nat) => x.1 == p) then none else w.out,
             saved := w.saved || w.out.any (fun (x : Nat × Nat) => x.1 == p), started := w.started || w.out.any (fun (x : Nat × Nat) => x.1 == p) }))) }
  let q := d.part p
  let d := d.setPart p { q with heldHq := [], admitted := 0, quantumUp := false,
                                images := q.images.filterMap (fun (e : Nat × Image) =>
                                  if e.2.objs.isEmpty then none else some (e.1, { e.2 with core := Core.init })) }
  (List.range 64).foldl (fun d n => d.put (K.SLOT_CORE p n) 0xFF) d

/-- A slot that cannot stay on its core moves before the next attempt (R101, R102, R426): to a free core, else for an LC
slot to one that a best-effort slot holds. Such a move is a remapping; a slot that a switch brings to another core is not counted as
one (log entry 119). A best-effort slot that finds no core is no longer resident. -/
def Dev.moveSlot (d : Dev) (p n : Nat) : Dev × Bool :=
  let c := d.get (K.SLOT_CORE p n)
  if 64 ≤ c || (d.coreUsable c && bit (d.get (K.CORE_MASK p)) c) then (d, true)
  else
    let k := d.core c
    let img : Image := { core := k.freeze (d.cycles (quadOf c)), objs := d.slotObjs c }
    let d1 := d.clearSlotObjs c
    let q := d1.part p
    let d1 := d1.setPart p { q with images := Map.set q.images Image.init n img }
    let d1 := ((d1.setCore c Core.init).put (K.CORE_OWNER c) 0xFF).put (K.CORE_SLOT c) 0xFF
    let (d2, ok) := (d1.put (K.SLOT_CORE p n) 0xFE).placeSlot p n
    if ok then (d2.put (K.SLOT_MAP_SEQ p) (addSat 32 (d2.get (K.SLOT_MAP_SEQ p)) 1), true)
    else if d.get (K.PART_CLASS p) = 1 then (d2, false) else (d, false)

/-- Moves every slot that must move; false where some slot finds no core. -/
def Dev.remap (d : Dev) (p : Nat) : Dev × Bool :=
  (List.range (d.sched p).slots).foldl (fun (a : Dev × Bool) n =>
    let (d, ok) := a.1.moveSlot p n
    (d, a.2 && ok)) (d, true)

/-- Files a change of capacity (R426). -/
def Dev.capacityRecord (d : Dev) (p old : Nat) : Dev :=
  if d.capacity p = old || d.get (K.PART_STATE p) ≠ 1 then d
  else
    (d.file { cls := 8, syndrome := syn8 12 (d.capacity p), aux := 0, unit := unitPart p, index := 0, opcode := 0xFF,
              status := 0, part := p }).notify 2 0 (0x6000 + p) 5 p

end Sys2Proof.Machine
end

