-- ==== Sys2Proof/Machine/Energy.lean ====
section
/-! DEFINITION. The power model: operating points, the projection, the guaranteed pace (R444, R449, R450); the depth of the power domains
(R433 to R437). -/
namespace Sys2Proof.Machine

/-- The clock of an operating point in MHz (R444). -/
def opMHz (op : Nat) : Nat :=
  match op with | 0 => 470 | 1 => 560 | 2 => 640 | 3 => 720 | 4 => 800 | 5 => 870 | 6 => 940 | _ => 1010
/-- Its nominal voltage in mV. -/
def opMv (op : Nat) : Nat :=
  match op with | 0 => 620 | 1 => 650 | 2 => 680 | 3 => 710 | 4 => 750 | 5 => 790 | 6 => 820 | _ => 860
/-- C_full in W. -/
def opFull (op : Nat) : Nat :=
  match op with | 0 => 429 | 1 => 562 | 2 => 702 | 3 => 861 | 4 => 1068 | 5 => 1289 | 6 => 1500 | _ => 1773
/-- C_0 in W. -/
def opIdle (op : Nat) : Nat :=
  match op with | 0 => 143 | 1 => 164 | 2 => 188 | 3 => 214 | 4 => 253 | 5 => 295 | 6 => 330 | _ => 381

/-- A quadrant in the model: its cores, the sum of their activities in thousandths, its operating point. -/
structure QuadLoad where
  n : Nat
  act : Nat
  op : Nat
deriving DecidableEq, Repr

/-- The projection of R449 as a fraction of watts: numerator, denominator. -/
def projection (qs : List QuadLoad) : Nat × Nat :=
  let n := max 1 (qs.map QuadLoad.n).sum
  let a := (qs.map QuadLoad.act).sum
  let cores := (qs.map (fun q => 1000 * q.n * opIdle q.op + q.act * (opFull q.op - opIdle q.op))).sum
  (cores * n + 570 * 64000 * n + 640 * 64 * a, 64000 * n)

/-- The projection stays within `pct` per cent of `w` watts. -/
def within (qs : List QuadLoad) (pct w : Nat) : Bool := let (a, b) := projection qs; 100 * a ≤ pct * w * b

/-- The projection in watts, rounded up. -/
def projWatts (qs : List QuadLoad) : Nat := let (a, b) := projection qs; ceilDiv a b

/-- The guaranteed pace (R450) for a largest activity in thousandths; 0 where none is guaranteed. -/
def Dev.guaranteed (d : Dev) (amax : Nat) : Nat :=
  let cores (q : Nat) : Nat := (List.range 16).countP (fun i => bit (d.get K.CORE_PRESENT) (16 * q + i))
  let top := (List.range 4).foldl (fun m q => min m (d.get (K.OP_MAX q))) 7
  let load (op : Nat) : List QuadLoad := (List.range 4).map (fun q => { n := cores q, act := cores q * amax, op := op })
  match ((List.range (top + 1)).reverse).find? (fun op => within (load op) 97 d.pwr.capNow) with
  | some op => opMHz op
  | none => 0

/-! ## Power domains (R433 to R437) -/

/-- The domains below the device: enabled cores, memories, ports. -/
def Dev.subDomains (d : Dev) : List Nat :=
  (List.range 64).filter (fun c => bit (d.get K.CORE_PRESENT) c) ++ (List.range 12).map (64 + ·)

/-- The state of a domain; the device's is the shallowest of its sub-domains, but for OFF (R434). -/
def Dev.domState (d : Dev) (x : Nat) : Nat :=
  if x = 76 && d.get (K.DOM_STATE 76) ≠ 4 then (d.subDomains.map (fun y => d.get (K.DOM_STATE y))).foldl min 4
  else d.get (K.DOM_STATE x)

/-- A partition whose schedule is armed or running holds domains at RUN (R436). -/
def Dev.holds (d : Dev) (p : Nat) : Bool := d.get (K.SCHED_STATE p) == 2 || d.get (K.SCHED_STATE p) == 3

/-- Channels of a quadrant. -/
def quadChans (q : Nat) : List Nat := (List.range 80).map (80 * q + ·)

/-- DOM_AUTO of a core, memory or port domain (R436). -/
def Dev.subAuto (d : Dev) (x : Nat) : Nat :=
  if x < 64 then
    let p := d.get (K.CORE_OWNER x)
    if p < 16 then (if d.holds p then 0 else 2) else 4
  else if x < 68 then
    let q := x - 64
    let owners := (quadChans q).map d.owner
    let runs (p : Nat) : Bool := p < 16 && d.holds p
    if owners.any runs || owners.contains 0xFD || (List.range 16).any (fun w => runs (d.get (K.SC_WAY_OWNER q w))) ||
       runs (d.get (K.SC_ACC_OWNER q)) then 0
    else if (List.range 16).any (fun i => bit (d.get K.CORE_PRESENT) (16 * q + i) && d.get (K.DOM_STATE (16 * q + i)) ≤ 1) ||
      d.get (K.DOM_STATE (68 + 2 * q)) ≤ 1 || d.get (K.DOM_STATE (69 + 2 * q)) ≤ 1 then 1
    else if owners.any (fun o => decide (o < 16)) then 3 else 4
  else
    let n := x - 68
    let mine (ch : Nat) : Bool := d.get (K.CH_RDE ch) == n
    if (List.range 32).any (fun ch => mine ch && d.get (K.CH_PART ch) < 16 && (d.holds (d.get (K.CH_PART ch)) || (d.chan ch).op.isSome)) ||
       (List.range 8).any (fun i => let o := d.get (K.LNK_OWNER (8 * n + i)); decide (o < 16) && d.holds o) then 0
    else if (List.range 8).any (fun i => d.get K.FT_UPSTREAM == 8 * n + i || bit (d.get K.FT_DOWNSTREAM) (8 * n + i)) then 2 else 4

/-- The vote of a port on a domain (R435): held on the port's own domain alone (log entry 41), at RUN while a message is
queued for one of its links or, from SLEEP on, while one of them is in use. -/
def Dev.portVote (d : Dev) (x n : Nat) : Nat :=
  if x ≠ 68 + n then 0xFF
  else
    let busy (l : Nat) : Bool :=
      (d.link l).txq.any (fun e => !e.2.isEmpty) ||
      (d.get (K.DOM_STATE x) == 2 && 1 ≤ d.get (K.LNK_STATE l) && d.get (K.LNK_STATE l) ≤ 3)
    if (List.range 8).any (fun i => busy (8 * n + i)) then 0 else 0xFF

/-- The shallowest vote held on a domain (R435). -/
def Dev.votes (d : Dev) (x : Nat) : Nat :=
  (d.get (K.VOTE_HOST x) :: d.get (K.VOTE_FW x) :: (List.range 16).map (fun p => d.get (K.VOTE_PART x p)) ++
    (List.range 8).map (d.portVote x)).foldl min 4

/-- Target of a domain: PWR_MODE of a core (R462). -/
def Dev.domTarget (d : Dev) (x : Nat) : Nat := if x < 64 then d.get (K.PWR_MODE x) else d.get (K.DOM_TARGET x)

/-- DOM_DEPTH of a core, memory or port domain (R437). -/
def Dev.subDepth (d : Dev) (x : Nat) : Nat := min (d.domTarget x) (min (d.votes x) (d.subAuto x))

/-- DOM_AUTO (R436). -/
def Dev.domAuto (d : Dev) (x : Nat) : Nat :=
  if x ≠ 76 then d.subAuto x
  else
    let m := (d.subDomains.map d.subDepth).foldl min 4
    if (List.range 16).any (fun p => d.get (K.PART_STATE p) != 0) then min m 3 else m

/-- DOM_DEPTH (R437). -/
def Dev.domDepth (d : Dev) (x : Nat) : Nat :=
  if x ≠ 76 then d.subDepth x else min (d.domTarget x) (min (d.votes x) (d.domAuto x))

end Sys2Proof.Machine
end

