-- ==== Sys2Proof/Machine/Fence.lean ====
section
/-! DEFINITION. Silent errors: classification, scans, fencing (R102, R148, R473 to R482). -/
namespace Sys2Proof.Machine

/-- A record of class 0x07 that names a core (R482); a fence names the slot that the core holds. -/
def Dev.coreRecord (d : Dev) (c kind detail count : Nat) : Dev :=
  let slot := if kind = 7 then d.get (K.CORE_SLOT c) else 0xFF
  d.file { cls := 7, syndrome := kind * 2 ^ 28 + detail * 2 ^ 24 + slot * 2 ^ 16 + c * 2 ^ 8 + count, aux := 0, unit := unitEng c 0,
           index := 0, opcode := 0xFF, status := 0, part := let p := d.get (K.CORE_OWNER c); if p < 16 then p else 0xFF }

/-! ## Scans (R475, R476) -/

/-- Queues a scan of a core. -/
def Dev.queueScan (d : Dev) (c : Nat) : Dev :=
  if d.scanQ.contains c || d.scanning c then d
  else ({ d with scanQ := d.scanQ ++ [c] } : Dev).put (K.SCAN_STATE c) 1

/-- SCAN_START: one core at a time, with a verified pattern set, on a core that is free or fenced. -/
def Dev.scanStart (d : Dev) (c : Nat) : Dev :=
  if !d.scanQ.contains c || !d.flag K.PATTERN_OK || (List.range 64).any d.scanning || (d.swOf c).isSome ||
     !(d.coreState c == 1 || d.coreState c == 3 || d.scanHold.contains c) then d
  else (({ d with scanQ := d.scanQ.erase c, scanAt := d.now } : Dev).put (K.SCAN_STATE c) 2 |>.put (K.CORE_OWNER c) 0xFE).put
    (K.DOM_STATE c) 0

/-- SCAN_PERIOD_EXPIRE: a scan is queued for every enabled, unfenced core. -/
def Dev.scanPeriodExpire (d : Dev) : Dev :=
  let s := d.get K.SCAN_PERIOD
  if s = 0 || d.now < d.scanFrom + 62500000 * s then d
  else ((List.range 64).filter d.coreUsable).foldl Dev.queueScan { d with scanFrom := d.now }

/-- SCAN_ABANDON: an LC placement takes the core; the scan is queued again. -/
def Dev.scanAbandon (d : Dev) (c : Nat) : Dev :=
  match d.swOf c with
  | some w =>
    if !d.scanning c || w.inn.isNone then d
    else
      let d := (d.zeroise c).put (K.CORE_OWNER c) 0xFF
      ({ d with scanQ := d.scanQ ++ [c] } : Dev).put (K.SCAN_STATE c) 5
  | none => d

/-! ## Fencing (R477, R478) -/

/-- Commands of a slot that have not issued complete FENCED: `n` slots are looked at (R102). -/
def Dev.fenceUnissued (d : Dev) (e : Eng) (n : Nat) : Dev :=
  match n with
  | 0 => d
  | k + 1 =>
    let x := d.ctx e
    if x.count < x.index || x.index = 0 then d else
    let i := x.index
    let (c, d) := d.slot e i
    let ws := match c with | .ok ws => ws | .error _ => []
    let c : Cmd := { index := i, words := ws, handle := none }
    let (own, _) := d.ownedSlots e c
    let d := (d.record e i c.op stFENCED x.gen).account e (c.w 1) stFENCED (d.get (K.ATTEMPT (d.engPart e))) 255 false
    (d.setCtx e { d.ctx e with index := i + max 1 own, popped := none, late := false, gated := false, why := 0, hold := none }).fenceUnissued e k

/-- An attempt of the partition is in progress: its schedule runs, or is suspended between two of its segments (R91). -/
def Dev.inAttempt (d : Dev) (p : Nat) : Bool :=
  d.get (K.SCHED_STATE p) == 3 || (d.get (K.SCHED_STATE p) == 4 && (d.sched p).seg != 0)

/-- The slot on a core that is fenced (R102); `live` says that its attempt is in progress. -/
def Dev.fenceSlot (d : Dev) (c p n : Nat) (live : Bool) : Dev :=
  let d := d.abortCore c stFENCED
  if !live then d
  else
    let d := [1, 2, 3, 4].foldl (fun d k =>
      let e := eng k c
      let d := d.fetchList e
      let x := d.ctx e
      if x.refused then d else d.fenceUnissued e (x.count + 1 - x.index)) d
    let s := d.sched p
    d.setSched p { s with fenced := true, fencedSlots := s.fencedSlots ++ [n] }

/-- Fences a core now (R478); `due` says that the fence waited for the end tick of its slot's attempt. -/
def Dev.fenceNow (d : Dev) (c detail : Nat) (due : Bool) : Dev :=
  if bit (d.get K.FENCE_MASK) c || !bit (d.get K.CORE_PRESENT) c then d
  else
    let old := (List.range 16).map d.capacity
    let p := d.get (K.CORE_OWNER c)
    let d := if p < 16 && d.get (K.CORE_SLOT c) < 64 then
        d.fenceSlot c p (d.get (K.CORE_SLOT c)) (!due && d.inAttempt p) else d.abortCore c stFENCED
    let w := d.swOf c
    let d := (d.setSw c none).put K.FENCE_MASK (withBit (d.get K.FENCE_MASK) c true)
    let d := d.zeroise c
    let d := if d.scanning c then d else
      ({ d with pwr := { d.pwr with entering := Map.del d.pwr.entering c, waking := Map.del d.pwr.waking c } } : Dev).put (K.DOM_STATE c) 4
    let d := (d.coreRecord c 7 detail (d.get (K.REPRO_COUNT c))).put K.DEVICE_HEALTH (max 1 (d.get K.DEVICE_HEALTH))
    let d := match w with
      | some ⟨_, some (q, n), _, _, _, _, _⟩ => (d.placeSlot q n).1
      | _ => d
    (List.range 16).foldl (fun d q => d.capacityRecord q (old.getD q 0)) d

/-- The core holds a slot of an attempt between its DECIDE_TICK and its end tick (R477). -/
def Dev.committing (d : Dev) (c : Nat) : Bool :=
  let p := d.get (K.CORE_OWNER c)
  p < 16 && d.get (K.SCHED_STATE p) == 3 && d.get (K.DECIDE_TICK p) != 0 &&
  d.get (K.EPOCH_NOW p) + d.get (K.DECIDE_TICK p) ≤ d.now

/-- Fences a core: at once, or at the end tick of an attempt that is committing (R477). -/
def Dev.fence (d : Dev) (c detail : Nat) : Dev :=
  if bit (d.get K.FENCE_MASK) c then d
  else if d.committing c then { d with fenceWait := d.fenceWait ++ [(c, detail)] } else d.fenceNow c detail false

/-- The fences that waited for a partition's end tick, and those of cores that no committing attempt holds any more. -/
def Dev.fenceDue (d : Dev) (p : Nat) : Dev :=
  let mine := d.fenceWait.filter (fun f => d.get (K.CORE_OWNER f.1) == p || !d.committing f.1)
  mine.foldl (fun d f => d.fenceNow f.1 f.2 (d.get (K.CORE_OWNER f.1) == p)) { d with fenceWait := d.fenceWait.filter (fun f => !mine.contains f) }

/-! ## Events (R474) -/

/-- An event of R474: CAND_COUNT, CAND_TICK, reproductions. -/
def Dev.candidate (d : Dev) (c repro : Nat) : Dev :=
  (Dev.bump 8 (Dev.bump 16 d (K.CAND_COUNT c) 1) (K.REPRO_COUNT c) repro).put (K.CAND_TICK c) d.now

/-- At two reproductions the core is fenced and then scanned. -/
def Dev.reproCheck (d : Dev) (c : Nat) : Dev :=
  if d.get (K.REPRO_COUNT c) < 2 then d else (d.fence c 3).queueScan c

/-- CORE_CLASS (R473, R474). -/
def Dev.coreClass (d : Dev) (c v : Nat) : Dev :=
  let d := (d.candidate c (v - 1)).put (K.LAST_CLASS c) v
  let d := d.coreRecord c 4 v 0
  let d := if v = 2 then d.queueScan c else d
  if v = 1 then d else d.reproCheck c

/-- INTERLOCK_STOP (R148, R474): the passes in flight, not those that wait for their reissue. -/
def Dev.interlockStop (d : Dev) (c syn : Nat) : Dev :=
  if syn = 0 || 5 < syn || (d.core c).passes.isEmpty then d
  else
    let p := (d.core c).passes.head?
    let d := d.file { cls := 3, syndrome := syn, aux := 0, unit := unitEng c 0, index := (p.map (fun x : Pass => x.fl.index)).getD 0,
                      opcode := (p.map (fun x : Pass => x.fl.op)).getD 0xFF, status := stLATE, part := d.get (K.CORE_OWNER c) }
    let d := d.stopPasses c stLATE true false
    let d := d.setCore c { d.core c with mxStop := true, mxWait := 0 }
    let d := (Dev.bump 32 d (K.MXA_INTERLOCKS c) 1).put (K.MXA_LAST_SYNDROME c) syn
    ((d.candidate c 1).queueScan c).reproCheck c

/-- SCAN_COMPLETE (R474, R475): after 230 ms. A core that waited for it is released once the others are (R82, R492, R495), where its
quadrant's regulator answers (R522). -/
def Dev.scanComplete (d : Dev) (c : Nat) (passed : Bool) : Dev :=
  if !d.scanning c || d.now < d.scanAt + 14375000 then d
  else
    let d := (d.zeroise c).put (K.CORE_OWNER c) 0xFF
    let d := ((d.put (K.SCAN_LAST c) d.now).cnt (K.SCANS c) 1).put (K.SCAN_STATE c) (if passed then 3 else 4)
    let d := if passed then (if d.get (K.REPRO_COUNT c) = 0 then d else d.coreRecord c 6 0 0) else d.coreRecord c 5 0 0
    let d := if passed then d else d.fence c 1
    let out := d.scanHold.contains c && d.get K.BOOT_STATE == 8 && !d.avs.contains (quadOf c)
    let d := { d with scanHold := d.scanHold.erase c, released := if out then withBit d.released c true else d.released }
    let d := if bit (d.get K.FENCE_MASK) c then d.put (K.DOM_STATE c) 4 else d
    d.tryAdmit

/-- UNIT_FAULT (R479). -/
def Dev.unitFault (d : Dev) (unit : Nat) : Dev :=
  (d.put K.DEVICE_HEALTH 2).file { cls := 7, syndrome := 8 * 2 ^ 28 + 0xFFFF * 2 ^ 8, aux := 0, unit := unit, index := 0,
                                   opcode := 0xFF, status := 0, part := 0xFF }

end Sys2Proof.Machine
end

