-- ==== Sys2Proof/Machine/Schedule.lean ====
section
/-! DEFINITION. Schedules: descriptors, attempts, votes, decisions, step records, loss scale, swatch exchange (R84 to R104,
R290 to R312, R333, R400, R468 to R472). -/
namespace Sys2Proof.Machine

/-! ## Descriptors (R84, R86) -/

/-- Cuts a list in pieces of `n`. -/
def cut {α : Type} (n : Nat) (k : Nat) (l : List α) : List (List α) := (List.range k).map (fun i => (l.drop (n * i)).take n)

/-- An entry of the shared table; none where it breaks R86. -/
def sharedOf (b : List Nat) : Option ShEnt :=
  let e : ShEnt := { kind := b.getD 8 0, num := b.getD 9 0, base := ofLE (b.take 8) }
  let top := if e.kind = 5 then 20 else if e.kind = 6 then 8 else 0
  if (b.drop 10).all (· == 0) && e.base ≠ 0 && e.num < top then some e else none

/-- An entry of the segment table. -/
def segOf (b : List Nat) : Option Seg :=
  let w := ofLE b
  if bits w 63 49 = 0 && bits w 47 32 ≤ 1000 then some { stop := bits w 31 0, act := bits w 47 32, boundary := bit w 48 } else none

/-- Strictly rising. -/
def rises (l : List Nat) : Bool :=
  match l with
  | a :: b :: r => a < b && rises (b :: r)
  | _ => true

/-- The header's fields: slots, period, slack, mode, pace, shared entries, segments; none where it breaks R86. -/
def headerOf (w : List Nat) : Option (Nat × Nat × Nat × Nat × Nat × Nat × Nat) :=
  let w0 := w.getD 0 0
  let w2 := w.getD 2 0
  let w3 := w.getD 3 0
  let n := bits w0 15 8
  let sh := bits w3 31 16
  let sg := bits w3 15 0
  if bits w0 7 0 = 0xFD && bits w0 31 16 = 1 && 1 ≤ n && n ≤ 64 && 1000 ≤ w.getD 1 0 && sh ≤ 28 && 1 ≤ sg && sg ≤ 4096 &&
     bits w2 23 16 ≤ 2 && 470 ≤ bits w2 15 0 && bits w2 15 0 ≤ 1010 && (w.drop 4).all (· == 0)
  then some (n, w.getD 1 0, bits w2 31 24, bits w2 23 16, bits w2 15 0, sh, sg) else none

/-- Reads the descriptor of a partition's schedule; none where R86 rejects it on its own. -/
def Dev.readDesc (d : Dev) (p base : Nat) : Option Sched × Dev :=
  if base % 32 ≠ 0 then (none, d) else
  let s : Iss := { part := p, index := 0, op := 0xFF, alloc := true }
  match d.readWin s (.part p) base 32 with
  | (.error _, d) => (none, d)
  | (.ok h, d) =>
    match headerOf (wordsOf h) with
    | none => (none, d)
    | some (n, period, slack, mode, pace, sh, sg) =>
      match d.readWin s (.part p) (base + 32) (32 * n + 16 * sh + 8 * sg) with
      | (.error _, d) => (none, d)
      | (.ok b, d) =>
        let lists := (cut 32 n b).map (fun x => (cut 8 4 x).map ofLE)
        let shared := (cut 16 sh (b.drop (32 * n))).filterMap sharedOf
        let segs := (cut 8 sg (b.drop (32 * n + 16 * sh))).filterMap segOf
        let ends := segs.map Seg.stop
        if shared.length = sh && distinct (shared.map (fun e => e.kind * 256 + e.num)) && segs.length = sg && rises ends &&
           ends.getLast? = some period
        then (some { Sched.init with slots := n, slack := slack, mode := mode, pace := pace, period := period, segs := segs,
                                     lists := lists, shared := shared }, d)
        else (none, d)

/-- The largest planned activity. -/
def Sched.amax (s : Sched) : Nat := (s.segs.map Seg.act).foldl max 0

/-- VOTE_TICK and DECIDE_TICK fit the segments (R290); both 0 for a schedule that does not train (log entry 33). -/
def Dev.phaseOk (d : Dev) (p : Nat) (s : Sched) : Bool :=
  let v := d.get (K.VOTE_TICK p)
  let t := d.get (K.DECIDE_TICK p)
  (v == 0 && t == 0) ||
  (0 < v && v < t && t < s.period && (s.segs.map Seg.stop).contains v && (s.segs.map Seg.stop).contains t)

/-- Every save page of every slot is mapped as an HBM page (R418). -/
def Dev.saveOk (d : Dev) (p slots : Nat) : Bool :=
  (List.range (4 * slots)).all (fun i =>
    let e := Map.get (d.part p).window 0 (d.get (K.SAVE_PAGE p) + i)
    bit e 63 && bits e 62 61 == 0)

/-- The cores that an LC partition may take or holds already (R91, R414). -/
def Dev.lcRoom (d : Dev) (p : Nat) : Nat :=
  (d.maskCores p).countP (fun c => d.takeable c || d.claimable c || (d.get (K.CORE_OWNER c) == p && d.coreUsable c))

/-- The load checks of an ARM commit at tick `t` on the state after it (R86, R290, R311, R414, R418, R469). -/
def Dev.loadOk (d : Dev) (p t : Nat) : Bool :=
  match (d.readDesc p (d.get (K.SCHED_BASE p))).1 with
  | none => false
  | some s =>
    let ch := d.get (K.VOTE_CHANNEL p)
    let xch := d.get (K.SWX_CHANNEL p)
    d.get (K.PART_STATE p) == 1 && s.slots ≤ d.get (K.PART_SLOTS p) && s.pace ≤ d.guaranteed s.amax &&
    t + 6250 ≤ d.get (K.BASE_EPOCH p) && d.get K.FT_STATE == 2 && d.get (K.SCHED_STATE p) ≤ 1 &&
    d.phaseOk p s && (d.get (K.DECIDE_TICK p) == 0 || d.get (K.CH_PART ch) == p) &&
    (d.get (K.PART_CLASS p) == 1 || s.slots ≤ d.lcRoom p) && d.saveOk p s.slots &&
    (!d.flag (K.SWX_ENABLE p) ||
      (s.mode == 0 && d.get (K.DECIDE_TICK p) ≤ d.get (K.SWX_TICK p) && d.get (K.SWX_TICK p) ≤ s.period &&
       d.get (K.SWX_REPLICAS p) == d.get (K.CH_SIZE xch) && d.get (K.SWX_INDEX p) == d.get (K.CH_POS xch)))

/-! ## Records of a partition -/

/-- A record of class 0x08 that names a partition (R483). -/
def Dev.schedRecord (d : Dev) (p event cause aux status : Nat) : Dev :=
  d.file { cls := 8, syndrome := syn8 event cause, aux := aux % 2 ^ 32, unit := unitPart p, index := 0, opcode := 0xFF,
           status := status, part := p }

/-- SCHED_STATE changes; the host is told (R363). -/
def Dev.setState (d : Dev) (p v : Nat) : Dev :=
  if d.get (K.SCHED_STATE p) = v then d else (d.put (K.SCHED_STATE p) v).notify 2 0 (0x2100 + p) 1 p

/-- The issuer of what the device itself reads and writes for a partition. -/
def schedIss (p : Nat) : Iss := { part := p, index := 0, op := 0xFF, alloc := true }

/-- Writes the step record (R308); what fails makes the next vote not clean. -/
def Dev.stepRecord (d : Dev) (p : Nat) : Dev :=
  let a := d.get (K.STEP_REC p)
  let s := d.sched p
  let d := d.setSched p { s with recFail := 0 }
  if a = 0 then d else
  let e := s.scale
  let body := toLE 8 (d.get (K.STEP p)) ++ toLE 8 (d.get (K.ATTEMPT p)) ++ toLE 4 e ++ toLE 4 ((127 + e) * 2 ^ 23) ++
    toLE 4 ((127 - e) * 2 ^ 23) ++ [d.get (K.DECISION p), d.get (K.DECISION_CAUSE p), 0, 0] ++ toLE 8 (d.get (K.JOB_SEED p)) ++
    List.replicate 24 0
  let (st, d) := d.writeWin (schedIss p) (.part p) a body
  if st = 0 then d
  else
    let d := d.setSched p { d.sched p with recFail := st }
    d.file { cls := 0, syndrome := 0, aux := 0, unit := unitPart p, index := 0, opcode := 0xFF, status := st, part := p }

/-- Opens the attempt's ledger record (R400). -/
def Dev.ledgerOpen (d : Dev) (p : Nat) : Dev :=
  let q := d.part p
  let d := d.setPart p { q with ledger := [] }
  if d.get (K.LEDGER_BASE p) = 0 then d
  else
    let hdr := toLE 8 (d.get (K.STEP p)) ++ toLE 8 (d.get (K.ATTEMPT p)) ++ [0, d.get (K.MODE p), 0, 0, 0, 0, 0, 0] ++
      toLE 2 (d.get K.DEVICE_NUMBER % 4096) ++ List.replicate 38 0
    (d.writeWin (schedIss p) (.part p) (d.ledgerAt p (d.get (K.ATTEMPT p)))
      (hdr ++ List.replicate (8 * d.get (K.LEDGER_BUCKETS p)) 0)).2

/-- The ledger's STATE follows DECISION (R400). -/
def Dev.ledgerClose (d : Dev) (p attempt : Nat) : Dev :=
  if d.get (K.LEDGER_BASE p) = 0 then d
  else (d.writeWin (schedIss p) (.part p) (d.ledgerAt p attempt + 16) [d.get (K.DECISION p)]).2

/-! ## The engines of a schedule -/

/-- The slots of a schedule that are on no core. -/
def Dev.absentSlots (d : Dev) (p : Nat) : List Nat :=
  (List.range (d.sched p).slots).filter (fun n => decide (64 ≤ d.get (K.SLOT_CORE p n)))

/-- The engines of a slot that have a list, under a core's number. -/
def Sched.slotEngs (s : Sched) (n c : Nat) : List Eng :=
  ((List.range 4).filter (fun i => (s.lists.getD n []).getD i 0 != 0)).map (fun i => eng (i + 1) c)

/-- Core engines of the resident slots that have a list, and the contexts of the shared table. -/
def Dev.schedEngs (d : Dev) (p : Nat) : List Eng :=
  let s := d.sched p
  (List.range s.slots).flatMap (fun n =>
    let c := d.get (K.SLOT_CORE p n)
    if c < 64 then s.slotEngs n c else []) ++
  s.shared.map (fun x => { k := x.kind, n := x.num, p := p })

/-- The commands that an engine has issued and not completed. -/
def Dev.inFlight (d : Dev) (e : Eng) : List InFlight :=
  (d.ctx e).busy ++ (if e.k = 1 then let k := d.core e.n; (k.passes ++ k.reruns).map Pass.fl else []) ++
  (if e.k = 6 then
    d.chans.filterMap (fun c => match c.2.op with
      | some o => if o.eng == e.n && o.part == e.p then some o.fl else none
      | none => none)
  else [])

/-- Some command of the unissued part of a list has word 1 below a tick, but for those whose signal queue `skip` names: `n` slots
are looked at from slot `i`. -/
def Dev.unissuedBelow (d : Dev) (e : Eng) (t : Nat) (skip : Nat → Bool) (n i : Nat) : Bool :=
  match n with
  | 0 => false
  | k + 1 =>
    if (d.ctx e).count < i then false else
    match (d.slot e i).1 with
    | .error _ => d.unissuedBelow e t skip k (i + 1)
    | .ok ws =>
      if ws.getD 1 0 < t && !skip (bits (ws.getD 0 0) 31 24) then true
      else d.unissuedBelow e t skip k (i + (d.ownedSlots e { index := i, words := ws, handle := none }).1)

/-- Some command of an engine with word 1 below a tick has not completed (R301). -/
def Dev.pendingBelow (d : Dev) (e : Eng) (t : Nat) : Bool :=
  let x := d.ctx e
  if x.refused then false
  else !x.fetched || (d.inFlight e).any (fun f => f.tick < t && f.attempt == d.get (K.ATTEMPT (d.engPart e))) || d.unissuedBelow e t (fun _ => false) (x.count + 1 - x.index) x.index

/-! ## Attempts -/

/-- The attempt that ATTEMPT names begins at its epoch (R87, R88, R333, R400). -/
def Dev.beginAttempt (d : Dev) (p : Nat) : Dev :=
  let s := d.sched p
  let d := d.put (K.EPOCH_NOW p) (d.epochOf p)
  let q := d.part p
  let d := d.setPart p { q with
    swatch := [], digest := [],
    sched := { s with seg := 0, resumeAt := none, atCommit := false, causes := [], nf := false,
                      unlocked := d.get K.FT_STATE != 2, fenced := false, voted := false, votes := [], decided := false,
                      failCommit := 0, fencedSlots := [], swx := [], swxSent := false,
                      lostEnd := d.get K.FT_STATE == 4, excused := [], doubted := false } }
  d.ledgerOpen p

/-- The schedule of a partition ends: SCHED_STATE 0x01, its slots leave their cores (R90, R413). -/
def Dev.endSched (d : Dev) (p : Nat) : Dev :=
  let s := d.sched p
  let d := (d.setSched p { s with endReq := false, suspendReq := false, resumeAt := none, atCommit := false }).unbind p
  (d.setState p 1).tryAdmit

/-- SCHEDULE_START (R87): at BASE_EPOCH the armed schedule runs, whatever its first attempt is held by (R88, R92); where an end was
committed it ends instead. -/
def Dev.scheduleStart (d : Dev) (p : Nat) : Dev :=
  if d.get (K.SCHED_STATE p) ≠ 2 || d.now < d.get (K.BASE_EPOCH p) then d
  else if (d.sched p).endReq then d.endSched p
  else (d.setState p 3).beginAttempt p

/-- Loads a schedule at an ARM commit (R87): objects, contexts, placement, first step record. -/
def Dev.loadSched (d : Dev) (p : Nat) : Dev :=
  match d.readDesc p (d.get (K.SCHED_BASE p)) with
  | (none, d) => d
  | (some s, d) =>
    let q := d.part p
    let imgs := (s.lists.zipIdx).foldl (fun (m : Map Image) x =>
      let img := Map.get m Image.init x.2
      let objs := (x.1.zipIdx).foldl (fun (o : Map Nat) b =>
        Map.ins (Map.ins o (0x01 * 256 + 1 + b.2) b.1) (0x05 * 256 + 1 + b.2) (ofBool (b.1 != 0))) img.objs
      Map.ins m x.2 { core := Core.init, objs := objs }) q.images
    let fresh (m : Map EngCtx) : Map EngCtx := m.map (fun (e : Nat × EngCtx) =>
      (e.1, { EngCtx.init with busy := e.2.busy, gen := e.2.gen, rings := e.2.rings }))
    let d := d.setPart p { q with sched := { s with scale := d.get (K.LS_EXP p) }, images := imgs, up := fresh q.up, rd := fresh q.rd,
                                  swatch := [], digest := [], heldHq := [], admitted := 0 }
    let d := ((d.put (K.MODE p) s.mode).put (K.PACE_MHZ p) s.pace).put (K.PERIOD p) s.period
    let d := [K.ATTEMPT p, K.STEP p, K.HELD_TICKS p, K.FAILED_RUN p, K.EPOCH_NOW p, K.LS_CLEAN p, K.NF_RUN p, K.NF_COUNT p,
              K.DECISION p, K.DECISION_CAUSE p, K.DECISION_ATTEMPT p, K.DECISION_NF p, K.SLOT_MAP_SEQ p].foldl
                (fun d o => d.put o 0) d
    let d := (List.range s.slots).foldl (fun d n => d.put (K.SLOT_CORE p n) 0xFE) d
    let d := d.setState p 2
    let d := if d.get (K.PART_CLASS p) = 0 then (List.range s.slots).foldl (fun d n => (d.placeSlot p n).1) d else d.tryAdmit
    d.stepRecord p

/-! ## The vote (R300 to R305) -/

/-- The screen words: the causes they give and whether one is not 0. -/
def Dev.screen (d : Dev) (p : Nat) : List Nat × Bool × Dev :=
  (List.range (d.get (K.SCREEN_COUNT p))).foldl (fun (a : List Nat × Bool × Dev) i =>
    match a.2.2.readWin (schedIss p) (.part p) (d.get (K.SCREEN_BASE p) + 4 * i) 4 with
    | (.error st, d) =>
      (a.1 ++ [st], a.2.1,
        d.file { cls := 0, syndrome := 0, aux := 0, unit := unitPart p, index := 0, opcode := 0xFF, status := st, part := p })
    | (.ok bs, d) => if ofLE bs = 0 then (a.1, a.2.1, d) else (a.1 ++ [stNONFIN], true, d)) ([], false, d)

/-- D of the job: 1 for a schedule that does not train. -/
def Dev.jobSize (d : Dev) (p : Nat) : Nat :=
  if d.get (K.VOTE_TICK p) = 0 then 1 else max 1 (d.get (K.CH_SIZE (d.get (K.VOTE_CHANNEL p))))

/-- A vote record as 16 bytes (R303). -/
def VoteRec.bytes (v : VoteRec) : List Nat :=
  [ofBool v.clean + 2 * ofBool v.nf, v.cause] ++ toLE 2 (v.device % 4096) ++ toLE 4 v.step ++ toLE 8 v.attempt

/-- The record that 16 bytes spell. -/
def voteOf (b : List Nat) : VoteRec :=
  { clean := bit (b.getD 0 0) 0, nf := bit (b.getD 0 0) 1, cause := b.getD 1 0, device := ofLE ((b.drop 2).take 2) % 4096,
    step := ofLE ((b.drop 4).take 4), attempt := ofLE ((b.drop 8).take 8) }

/-- A record counts as clean (R304); the cause it counts with. -/
def VoteRec.good (v : VoteRec) : Bool := v.clean && v.cause == 0
/-- ... -/
def VoteRec.why (v : VoteRec) : Nat := if v.cause = 0 then stLATE else v.cause

/-- The first cause under R41. -/
def firstCause (l : List Nat) : Nat := l.foldl stWorst stOK

/-- DECISION_NF over the records held (R311). -/
def nfBits (vs : List VoteRec) : Nat :=
  ofBool (vs.any VoteRec.nf) + 2 * ofBool (vs.any (fun v => !v.good && v.why != stNONFIN))

/-- Sets the decision of the attempt. -/
def Dev.setDecision (d : Dev) (p code cause : Nat) : Dev :=
  let s := d.sched p
  let d := d.setSched p { s with decided := true }
  (((d.put (K.DECISION p) code).put (K.DECISION_CAUSE p) cause).put (K.DECISION_ATTEMPT p) (d.get (K.ATTEMPT p))).put
    (K.DECISION_NF p) (nfBits s.votes)

/-- The device decides once it holds all records (R304); a commit clears the swatch accumulators, where the schedule has a
DECIDE_TICK (R333). -/
def Dev.tryDecide (d : Dev) (p : Nat) : Dev :=
  let s := d.sched p
  if s.decided || !s.voted || s.votes.length < d.jobSize p then d
  else
    let bad := s.votes.filter (fun v => !v.good)
    if bad.isEmpty then
      let d := d.setDecision p 1 0
      if d.get (K.DECIDE_TICK p) = 0 then d else d.setPart p { d.part p with swatch := [] }
    else d.setDecision p 2 (firstCause (bad.map VoteRec.why))

/-- The device is in doubt (R305). -/
def Dev.doubt (d : Dev) (p : Nat) : Dev :=
  let d := d.setDecision p 3 stLINK
  let d := d.setSched p { d.sched p with doubted := true }
  (d.schedRecord p 9 0 (d.get (K.ATTEMPT p)) 0).notify 3 0 (0x2300 + p) 0x11 p

/-- The commit-segment commands at the head of an engine's list complete without issuing, with LINK_TIMEOUT: `n` slots are looked
at (R305). What stands behind a command of an earlier segment follows once that has ended (`Dev.inDoubt`). -/
def Dev.stopCommit (d : Dev) (e : Eng) (n : Nat) : Dev :=
  match n with
  | 0 => d
  | k + 1 =>
    let x := d.ctx e
    if !x.fetched || x.index = 0 || x.count < x.index then d else
    match (d.slot e x.index).1 with
    | .error _ => d
    | .ok ws =>
      let c : Cmd := { index := x.index, words := ws, handle := none }
      if !d.inDoubt e (c.w 1) then d
      else (d.endHead e c (d.ownedSlots e c).1 stLINK true (token stLINK)).stopCommit e k

/-- The list of an engine, read if it is not yet, has its commit-segment commands stopped. -/
def Dev.stopEngine (d : Dev) (e : Eng) : Dev :=
  let d := d.readList e
  d.stopCommit e ((d.ctx e).count + 1 - (d.ctx e).index)

/-- The device is in doubt before the end tick of the attempt: the commands of the commit segment complete now (R305). -/
def Dev.doubtNow (d : Dev) (p : Nat) : Dev :=
  let d := (d.schedEngs p).foldl Dev.stopEngine (d.doubt p)
  (d.absentSlots p).foldl (fun d n => d.withImage p n (fun d c => ((d.sched p).slotEngs n c).foldl Dev.stopEngine d)) d

/-- Sends a record to the successor of the vote channel. -/
def Dev.sendVote (d : Dev) (p : Nat) (v : VoteRec) : Dev :=
  let h : RingHdr := { id := 0, att := 0, kind := 8, round := 0, held := false, incl := 0, piece := 0, seq := 0, count := 1, first := 0 }
  (d.ringSend (d.get (K.VOTE_CHANNEL p)) h v.bytes).1

/-- Passes a record on, unless the successor made it. -/
def Dev.forwardVote (d : Dev) (p : Nat) (v : VoteRec) : Dev :=
  if d.get (K.CH_SUCC (d.get (K.VOTE_CHANNEL p))) = v.device then d else d.sendVote p v

/-- What an engine's commands that have not completed with OK give the vote (R301): LATE for one with word 1 below the tick that is
still open and is no late contribution passed over (R104); the status of a list that was refused, whose commands never complete. -/
def Dev.openCauses (d : Dev) (e : Eng) (t : Nat) : List Nat :=
  let x := d.ctx e
  let s := d.sched (d.engPart e)
  let skip (q : Nat) : Bool := e.isCore && s.excused.contains (d.excuseKey e q)
  if x.refused then [x.refusal]
  else if !d.pendingBelow e t then []
  else if !x.fetched || (d.inFlight e).any (fun f => f.tick < t && !skip f.sig) ||
    d.unissuedBelow e t skip (x.count + 1 - x.index) x.index then [stLATE] else []

/-- Closes the vote (R301): its cause, its record. -/
def Dev.closeVote (d : Dev) (p : Nat) : Dev :=
  let t := if d.get (K.VOTE_TICK p) = 0 then d.get (K.PERIOD p) else d.get (K.VOTE_TICK p)
  let s := d.sched p
  let openCause := (d.schedEngs p).flatMap (fun e => d.openCauses e t) ++
    (d.absentSlots p).flatMap (fun n => (s.slotEngs n (imageCore p)).flatMap (fun e => (d.imageView p n).openCauses e t))
  let (sc, nf, d) := d.screen p
  let causes := s.causes ++ openCause ++ sc ++ (if s.unlocked || d.get K.FT_STATE ≠ 2 then [stLATE] else []) ++
    (if s.fenced then [stFENCED] else []) ++ (if s.recFail ≠ 0 then [s.recFail] else [])
  let c := firstCause causes
  let v : VoteRec := { attempt := d.get (K.ATTEMPT p), step := d.get (K.STEP p) % 2 ^ 32, device := d.get K.DEVICE_NUMBER % 4096,
                       cause := c, clean := c == 0, nf := s.nf || nf }
  let d := if c = 0 then d else d.schedRecord p 6 c (d.get (K.ATTEMPT p)) c
  let s := d.sched p
  let d := d.setSched p { s with voted := true, votes := s.votes ++ [v] }
  let d := if s.decided then d.put (K.DECISION_NF p) (nfBits (s.votes ++ [v])) else d
  let d := if d.jobSize p = 1 then d else d.sendVote p v
  d.tryDecide p

/-- VOTE_CLOSE (R300, R301, R303). -/
def Dev.voteClose (d : Dev) (p : Nat) : Dev :=
  let t := d.get (K.VOTE_TICK p)
  if d.get (K.SCHED_STATE p) ≠ 3 || t = 0 || (d.sched p).voted || d.now < d.get (K.EPOCH_NOW p) + t then d else d.closeVote p

/-- A record arrives (R303 to R305). -/
def Dev.takeVote (d : Dev) (p : Nat) (v : VoteRec) : Dev :=
  let s := d.sched p
  let d := if v.good || (!v.clean && v.cause != 0) then d else d.schedRecord p 7 0 (d.get (K.ATTEMPT p)) 0
  if v.attempt ≠ d.get (K.ATTEMPT p) || v.step ≠ d.get (K.STEP p) % 2 ^ 32 then
    let d := (d.schedRecord p 7 0 (d.get (K.ATTEMPT p)) 0).forwardVote p v
    if s.decided then d else d.doubtNow p
  else if s.votes.any (fun x => x.device == v.device) then d
  else
    let d := (d.setSched p { s with votes := s.votes ++ [v] }).forwardVote p v
    let d := if s.decided then d.put (K.DECISION_NF p) (nfBits (s.votes ++ [v])) else d
    d.tryDecide p

/-- VOTE (R303): the record is kept and forwarded. -/
def Dev.vote (d : Dev) (l : Nat) : Dev :=
  match d.takeRing l 8 with
  | none => d
  | some (m, d) =>
    match d.msgChannel m with
    | none => d.strayMsg l m
    | some ch =>
      let p := d.get (K.CH_PART ch)
      let h := ringHdr m.payload
      if d.get (K.SCHED_STATE p) < 3 then d
      else (List.range h.count).foldl (fun d i => d.takeVote p (voteOf ((m.payload.drop (16 + 16 * i)).take 16))) d

/-- DECISION_IN_DOUBT (R305). -/
def Dev.decisionInDoubt (d : Dev) (p : Nat) : Dev :=
  let t := d.get (K.DECIDE_TICK p)
  if d.get (K.SCHED_STATE p) ≠ 3 || (d.sched p).decided || t = 0 ||
     d.now < d.get (K.EPOCH_NOW p) + min (t + d.get (K.VOTE_HOLD_LIMIT p)) (d.get (K.PERIOD p)) then d
  else
    let d := d.voteClose p
    if (d.sched p).decided then d
    else if d.now < d.get (K.EPOCH_NOW p) + d.get (K.PERIOD p) then d.doubtNow p else d.doubt p

/-! ## The loss scale (R309, R310) -/

/-- The procedure of R309 with the NF flag and the decision: the state, whether NF_LIMIT is reached. -/
def Dev.adjustScale (d : Dev) (p : Nat) (nf commit : Bool) : Dev × Bool :=
  let s := d.get (K.LS_EXP p)
  let on := d.flag (K.LS_ENABLE p)
  let clean := d.get (K.LS_CLEAN p) + 1
  let (s', c') :=
    if nf then (if on then (max (s - 1) (d.get (K.LS_MIN p)), 0) else (s, d.get (K.LS_CLEAN p)))
    else if commit && on then
      (if clean = d.get (K.LS_GROWTH p) then (if s < d.get (K.LS_MAX p) then s + 1 else s, 0) else (s, clean))
    else (s, d.get (K.LS_CLEAN p))
  let d := (d.put (K.LS_EXP p) s').put (K.LS_CLEAN p) c'
  let d := if nf then (Dev.bump 8 d (K.NF_RUN p) 1).cnt (K.NF_COUNT p) 1 else d
  let d := if commit then d.put (K.NF_RUN p) 0 else d
  if nf && d.get (K.NF_LIMIT p) ≤ d.get (K.NF_RUN p) then (d.schedRecord p 11 0 (d.get (K.NF_RUN p)) 0, true) else (d, false)

/-- FAILED_RUN counts a failure; RETRY_LIMIT files its record (R90). -/
def Dev.countFail (d : Dev) (p cause : Nat) : Dev × Bool :=
  let d := Dev.bump 8 d (K.FAILED_RUN p) 1
  if d.get (K.RETRY_LIMIT p) ≤ d.get (K.FAILED_RUN p) then (d.schedRecord p 8 cause (d.get (K.FAILED_RUN p)) 0, true) else (d, false)

/-! ## Swatches and their exchange (R333, R468 to R472) -/

/-- Swatch slots that the update engines' commands in flight have fed. -/
def Dev.flyingSwatch (d : Dev) (p : Nat) : List Nat :=
  ((d.sched p).shared.filter (fun x => x.kind == 5)).flatMap (fun x => (d.ctx (upe x.num p)).busy.flatMap InFlight.grans)

/-- The committed attempt's swatches are latched (R333). A command in flight at the end tick will complete LATE. -/
def Dev.latchSwatch (d : Dev) (p : Nat) : Dev :=
  let q := d.part p
  let d := (List.range 16).foldl (fun d i => d.put (K.SW_VALUE p i) (Map.get q.swatch 0 i)) d
  let fly := d.flyingSwatch p
  let part := (List.range 16).foldl (fun m i => m + ofBool (Map.get q.swatch 0 (16 + i) == 1 || fly.contains i) * 2 ^ i) 0
  (d.put (K.SW_STEP p) (d.get (K.STEP p) + 1)).put (K.SW_PARTIAL p) part

/-- Slot digests at the end tick (R468). -/
def Dev.latchDigests (d : Dev) (p : Nat) (commit : Bool) : Dev :=
  let q := d.part p
  let d := (List.range (d.sched p).slots).foldl (fun d n =>
    let v := Map.get q.digest 0 n
    let d := d.put (K.SLOT_DIGEST_ATT p n) v
    if !commit then d
    else
      let c := d.get (K.SLOT_CORE p n)
      let d := d.put (K.SLOT_DIGEST p n) ((d.get (K.SLOT_DIGEST p n) + v) % 2 ^ 128)
      if c < 64 then d.put (K.SLOT_CORES p n) (withBit (d.get (K.SLOT_CORES p n)) c true) else d) d
  d.setPart p { d.part p with digest := [] }

/-- The attempt exchanges swatches: enabled, committing, and its new STEP a multiple of SWX_N (R470). -/
def Dev.exchanges (d : Dev) (p : Nat) : Bool :=
  d.flag (K.SWX_ENABLE p) && (d.sched p).decided && !(d.sched p).doubted && (d.get (K.DECISION p) == 1 || d.get (K.DECISION p) == 4) &&
  (d.get (K.STEP p) + 1) % max 1 (d.get (K.SWX_N p)) == 0

/-- Swatch slots that commands not complete will still feed. -/
def Dev.openSwatch (d : Dev) (p : Nat) : List Nat :=
  d.flyingSwatch p ++
  ((d.sched p).shared.filter (fun x => x.kind == 5)).flatMap (fun x =>
    let e := upe x.num p
    let c := d.ctx e
    (List.range (c.count + 1 - c.index)).flatMap (fun i =>
      match (d.slot e (c.index + i)).1 with
      | .ok ws =>
        let w2 := ws.getD 2 0
        if bits (ws.getD 0 0) 7 0 = 0x10 && bit w2 27 && bits w2 29 28 ≠ 0 then [bits w2 26 23]
        else if bits (ws.getD 0 0) 7 0 = 0x20 && bit w2 25 then [bits w2 24 21] else []
      | .error _ => []))

/-- An exchange record as 1,344 bytes (R470). -/
def SwxRec.bytes (r : SwxRec) : List Nat :=
  List.replicate 10 0 ++ [ofBool r.damaged, r.replica] ++ toLE 2 (r.device % 4096) ++ toLE 2 r.partials ++ toLE 8 r.step ++
  toLE 8 r.used ++ List.replicate 32 0 ++ r.swatch.flatMap (toLE 16) ++ r.digests.flatMap (toLE 16)

/-- The record that bytes spell. -/
def swxOf (b : List Nat) : SwxRec :=
  { damaged := bit (b.getD 10 0) 0, replica := b.getD 11 0, device := ofLE ((b.drop 12).take 2) % 4096,
    partials := ofLE ((b.drop 14).take 2), step := ofLE ((b.drop 16).take 8), used := ofLE ((b.drop 24).take 8),
    swatch := (List.range 16).map (fun i => ofLE ((b.drop (64 + 16 * i)).take 16)),
    digests := (List.range 64).map (fun i => ofLE ((b.drop (320 + 16 * i)).take 16)) }

/-- Sends a record to the successor of the replica group. -/
def Dev.sendSwx (d : Dev) (p : Nat) (r : SwxRec) : Dev :=
  let h : RingHdr := { id := 0, att := 0, kind := 9, round := 0, held := false, incl := 0, piece := 0, seq := 0, count := 1, first := 0 }
  (d.ringSend (d.get (K.SWX_CHANNEL p)) h r.bytes).1

/-- SWATCH_EXCHANGE (R470). -/
def Dev.swatchExchange (d : Dev) (p : Nat) : Dev :=
  let s := d.sched p
  if d.get (K.SCHED_STATE p) ≠ 3 || !d.exchanges p || s.swxSent || d.now < d.get (K.EPOCH_NOW p) + d.get (K.SWX_TICK p) then d
  else
    let q := d.part p
    let fed := d.openSwatch p
    let part := (List.range 16).foldl (fun m i =>
      m + ofBool (Map.get q.swatch 0 (16 + i) == 1 || fed.contains i) * 2 ^ i) 0
    let r : SwxRec := { step := d.get (K.STEP p) + 1, device := d.get K.DEVICE_NUMBER % 4096, replica := d.get (K.SWX_INDEX p),
                        damaged := d.flag (K.JOB_DAMAGED p), partials := part, used := 2 ^ s.slots - 1,
                        swatch := (List.range 16).map (fun i => Map.get q.swatch 0 i),
                        digests := (List.range 64).map (fun i => if i < s.slots then d.get (K.SLOT_DIGEST p i) else 0) }
    (d.setSched p { s with swxSent := true, swx := s.swx ++ [r] }).sendSwx p r

/-- SWATCH (R470): the record is kept and forwarded; a second copy is discarded. -/
def Dev.swatch (d : Dev) (l : Nat) : Dev :=
  match d.takeRing l 9 with
  | none => d
  | some (m, d) =>
    match d.msgChannel m with
    | none => d.strayMsg l m
    | some ch =>
      let p := d.get (K.CH_PART ch)
      let s := d.sched p
      let r := swxOf (m.payload.drop 16)
      if s.swx.any (fun x => x.step == r.step && x.device == r.device) then d
      else
        let d := d.setSched p { s with swx := s.swx ++ [r] }
        if d.get (K.CH_SUCC ch) = r.device then d else d.sendSwx p r

/-- The value that more than half of the records hold, if any. -/
def majority (n : Nat) (vs : List Nat) : Option Nat := vs.find? (fun v => n < 2 * vs.countP (· == v))

/-- A comparison record (R482): a slot's names the core that the slot is on. -/
def Dev.swxRecord (d : Dev) (p kind slot count : Nat) : Dev :=
  let c := if slot < 64 then d.get (K.SLOT_CORE p slot) else 0xFF
  d.file { cls := 7, syndrome := kind * 2 ^ 28 + slot * 2 ^ 16 + (if c < 64 then c else 0xFF) * 2 ^ 8 + count, aux := d.get (K.STEP p) % 2 ^ 32,
           unit := unitPart p, index := 0, opcode := 0xFF, status := 0, part := p }

/-- The period sums are cleared after an exchange (R468); the attempt that made it counts in the next period. -/
def Dev.clearPeriod (d : Dev) (p : Nat) : Dev :=
  (List.range 64).foldl (fun d i => (d.put (K.SLOT_DIGEST p i) 0).put (K.SLOT_CORES p i) 0) d

/-- The comparison at the end tick (R471): true where the schedule is suspended. STEP is the new one. -/
def Dev.compareSwx (d : Dev) (p : Nat) : Dev × Bool :=
  let s := d.sched p
  let step := d.get (K.STEP p)
  let rs := s.swx.filter (fun r => r.step == step)
  let n := d.get (K.SWX_REPLICAS p)
  let d := d.put (K.SWX_LAST_STEP p) step
  if rs.length < n then ((d.swxRecord p 3 0xFF 0).put (K.SWX_STATE p) 4, true)
  else
    let dam := rs.any SwxRec.damaged
    let items : List (Nat × List Nat) :=
      if dam then []
      else
        ((List.range 16).filter (fun i => !rs.any (fun r => bit r.partials i))).map (fun i => (0x80 + i, rs.map (fun r => r.swatch.getD i 0))) ++
        (List.range s.slots).map (fun i => (i, rs.map (fun r => r.digests.getD i 0)))
    let me := rs.find? (fun r => r.device == d.get K.DEVICE_NUMBER % 4096)
    let mine (i : Nat) : Nat := match me with
      | some r => if 0x80 ≤ i then r.swatch.getD (i - 0x80) 0 else r.digests.getD i 0
      | none => 0
    let diff := items.filter (fun x => x.2.any (· != mine x.1))
    let d := d.put (K.SWX_DIFF_SW p) ((diff.filter (fun x => 0x80 ≤ x.1)).foldl (fun m x => m + 2 ^ (x.1 - 0x80)) 0)
    let d := d.put (K.SWX_DIFF_SLOT p) ((diff.filter (fun x => x.1 < 0x80)).foldl (fun m x => m + 2 ^ x.1) 0)
    let odd (r : SwxRec) : Bool := items.any (fun x => match majority n x.2 with
      | some v => (if 0x80 ≤ x.1 then r.swatch.getD (x.1 - 0x80) 0 else r.digests.getD x.1 0) != v
      | none => false)
    let d := d.put (K.SWX_ODD p) ((rs.filter odd).foldl (fun m r => withBit m (r.replica % 8) true) 0)
    if items.any (fun x => (majority n x.2).isNone) then ((d.swxRecord p 2 0xFF 0).put (K.SWX_STATE p) 2, true)
    else
      let bad := items.filter (fun x => match majority n x.2 with | some v => mine x.1 != v | none => false)
      if bad.isEmpty then (d.put (K.SWX_STATE p) 1, false)
      else
        let d := (bad.take 8).foldl (fun d x => d.swxRecord p 1 x.1 bad.length) d
        ((d.put (K.SWX_STATE p) 3).notify 2 0 (0x8100 + p) 7 p, true)

/-! ## The end of an attempt (R89, R90) -/

/-- What is still to complete of an engine's list at the end tick: `n` slots are looked at (R89 item 2). -/
def Dev.endUnissued (d : Dev) (e : Eng) (n : Nat) : Dev :=
  match n with
  | 0 => d
  | k + 1 =>
    let x := d.ctx e
    if x.count < x.index || x.index = 0 then d else
    let p := d.engPart e
    let (i, c) := (x.index, (d.slot e x.index).1)
    let d := (d.slot e x.index).2
    match c with
    | .error st =>
      let d := (d.record e i 0xFF st x.gen).account e 0 st (d.get (K.ATTEMPT p)) 255 false
      (d.setCtx e { d.ctx e with index := i + 1 }).endUnissued e k
    | .ok ws =>
      let c : Cmd := { index := i, words := ws, handle := none }
      let (own, _) := d.ownedSlots e c
      let st := if d.get (K.DECISION p) = 3 && (d.sched p).decided && d.get (K.DECIDE_TICK p) ≤ c.w 1 then stLINK else stLATE
      let d := if st = stLATE then d.lateRecord e i c.op (c.w 1) (d.stallCause e) else d
      let d := (d.record e i c.op st x.gen).account e (c.w 1) st (d.get (K.ATTEMPT p)) c.sigQ false
      (d.setCtx e { d.ctx e with index := i + own }).endUnissued e k

/-- An engine at the end tick: what executes runs on and will complete LATE, what has not issued completes now. -/
def Dev.endEngine (d : Dev) (e : Eng) : Dev :=
  let d := d.readList e
  let p := d.engPart e
  let d := match (d.inFlight e).find? (fun f => !f.late && f.attempt == d.get (K.ATTEMPT p)) with
    | some f => d.lateRecord e f.index f.op f.tick 0
    | none => d
  let x := d.ctx e
  let late (f : InFlight) : InFlight := { f with late := true, sig := 255 }
  let hit := (d.inFlight e).any (fun f => d.get (K.DECIDE_TICK p) ≤ f.tick && f.attempt == d.get (K.ATTEMPT p))
  let s := d.sched p
  let d := if hit && s.decided && (d.get (K.DECISION p) = 1 || d.get (K.DECISION p) = 4) && d.get (K.DECIDE_TICK p) ≠ 0
    then d.damage p stLATE else d
  let d := d.setCtx e { x with busy := x.busy.map late }
  let d := if e.k = 1 then
      let k := d.core e.n
      d.setCore e.n { k with passes := k.passes.map (fun (q : Pass) => { q with fl := late q.fl }),
                             reruns := k.reruns.map (fun (q : Pass) => { q with fl := late q.fl }) }
    else d
  let d := d.endUnissued e (x.count + 1 - x.index)
  let x := d.ctx e
  d.setCtx e { x with index := if x.fetched then 1 else x.index, popped := none, late := false, gated := false, why := 0, hold := none, lateFiled := false }

/-- A channel at the end tick (R375, R396). An operation that has had every message it needs runs on and completes LATE (R89); one
that still waits for its peers never would, since they discard what another attempt sends (R376), and completes now (log entry
124). -/
def Dev.endChannel (d : Dev) (ch : Nat) : Dev :=
  let keep := match (d.chan ch).op with
    | some o => if o.ended || o.lost || (if o.repass then o.stage == 2 else o.fate.isSome && d.bucketDone ch o)
        then some { o with ended := true, fl := { o.fl with sig := 255, late := true } } else none
    | none => none
  let d := match (d.chan ch).op, keep with
    | some o, none => d.ringFinish ch { o with fl := { o.fl with sig := 255 } } (stWorst o.fl.status stLATE)
    | _, _ => d
  let d := (d.lateEnd ch).setChan ch { Chan.init with op := keep, buckets := match keep with | some _ => (d.chan ch).buckets | none => [] }
  let d := (d.put (K.CH_NEXT_SEQ ch) 0).put (K.CH_OWED ch) 0
  if keep.isSome then d else d.put (K.CH_STATE ch) 0

/-- The slots of a schedule at the end tick: queues, run-ahead, length register (R89, R203, R263). -/
def Dev.endSlot (d : Dev) (p n : Nat) : Dev :=
  let c := d.get (K.SLOT_CORE p n)
  if 64 ≤ c then d
  else
    let d := d.setCore c { d.core c with hq := [], vlen := 0 }
    d.raEmpty c

/-- A slot that is on no core at the end tick: the same of its saved context. -/
def Dev.endImage (d : Dev) (p n : Nat) : Dev :=
  d.withImage p n (fun d c =>
    let d := ((d.sched p).slotEngs n c).foldl Dev.endEngine d
    d.setCore c { d.core c with hq := [], vlen := 0 })

/-- Suspends a schedule at a tick (R91). -/
def Dev.suspend (d : Dev) (p tick : Nat) : Dev :=
  let s := d.sched p
  (d.setSched p { s with suspendReq := false, suspTick := tick, resumeAt := none }).setState p 4

/-- What an attempt that is decided leaves (R90, R307, R309, R310, R333, R468, R471): whether it suspends the schedule. -/
def Dev.settle (d : Dev) (p : Nat) : Dev × Bool :=
  let s := d.sched p
  let code := d.get (K.DECISION p)
  let commit := code == 1 || code == 4
  let swx := d.exchanges p
  let d := if commit then d.latchSwatch p else d
  let d := (if swx then d.clearPeriod p else d).latchDigests p commit
  let s1 := commit && s.failCommit ≠ 0
  let (d, s2) := if code = 4 then (d, false) else d.adjustScale p (s.votes.any VoteRec.nf) commit
  let d := d.setSched p { d.sched p with scale := d.get (K.LS_EXP p) }
  let d := d.ledgerClose p (d.get (K.ATTEMPT p))
  let d := d.put (K.ATTEMPT p) (d.get (K.ATTEMPT p) + 1)
  let nfOnly := (s.votes.filter (fun v => !v.good)).all (fun v => v.why == stNONFIN)
  let (d, s3) :=
    if commit then ((d.put (K.STEP p) (d.get (K.STEP p) + 1)).put (K.FAILED_RUN p) 0, false)
    else if nfOnly then (d, false) else d.countFail p (d.get (K.DECISION_CAUSE p))
  let (d, s4) := if swx then d.compareSwx p else (d, false)
  (d, s1 || s2 || s3 || s4)

/-- ATTEMPT_END (R89, R90, R305, R308): the end tick of an attempt. One that came into doubt is suspended, also where it has been
resolved before (R306). -/
def Dev.attemptEnd (d : Dev) (p : Nat) : Dev :=
  let tick := d.get (K.EPOCH_NOW p) + d.get (K.PERIOD p)
  if d.get (K.SCHED_STATE p) ≠ 3 || d.now < tick then d else
  let d := d.voteClose p
  let train := decide (d.get (K.VOTE_TICK p) ≠ 0)
  let d := if train && !(d.sched p).decided then d.doubt p else d
  let d := (d.schedEngs p).foldl (fun d e => d.endEngine e) d
  let d := (List.range (d.sched p).slots).foldl (fun d n => d.endSlot p n) d
  let d := (d.absentSlots p).foldl (fun d n => d.endImage p n) d
  let d := d.setPart p { d.part p with heldHq := [] }
  let d := ((List.range 32).filter (fun ch => d.get (K.CH_PART ch) == p)).foldl (fun d ch => d.endChannel ch) d
  let d := (if train then d else d.closeVote p).fenceDue p
  if (d.sched p).doubted then
    let s := d.sched p
    (d.setSched p { s with atCommit := d.get (K.DECISION p) != 5, seg := 0 }).suspend p tick
  else
    let (d, susp) := d.settle p
    let s := d.sched p
    let susp := susp || s.lostEnd || d.get K.FT_STATE == 4 || s.suspendReq
    let stop := d.get (K.STOP_AFTER p)
    if s.endReq || (stop ≠ 0 && stop ≤ d.get (K.STEP p)) then d.endSched p
    else
      let (d, ok) := d.remap p
      let d := d.stepRecord p
      let d := d.setSched p { d.sched p with seg := 0, atCommit := false }
      if susp || !ok then d.suspend p tick else d.beginAttempt p

/-- SEGMENT_END (R91): a requested suspension takes effect at the end of a BOUNDARY segment. -/
def Dev.segmentEnd (d : Dev) (p : Nat) : Dev :=
  let s := d.sched p
  match s.segs[s.seg]? with
  | none => d
  | some g =>
    let tick := d.get (K.EPOCH_NOW p) + g.stop
    if d.get (K.SCHED_STATE p) ≠ 3 || d.now < tick || g.stop = d.get (K.PERIOD p) then d
    else
      let d := d.setSched p { s with seg := s.seg + 1 }
      if g.boundary && s.suspendReq then d.suspend p tick else d

/-- The first command of the commit segment in an engine's list: `n` slots are looked at from slot `i` (R306). -/
def Dev.commitIndex (d : Dev) (e : Eng) (t n i : Nat) : Nat :=
  match n with
  | 0 => i
  | k + 1 =>
    match (d.slot e i).1 with
    | .error _ => d.commitIndex e t k (i + 1)
    | .ok ws => if t ≤ ws.getD 1 0 then i
                else d.commitIndex e t k (i + (d.ownedSlots e { index := i, words := ws, handle := none }).1)

/-- The R of a resumed schedule: HELD_TICKS grows so that it goes on as though it had never stopped (R91, R306). A best-effort one
whose slots do not all find cores waits for admission as a whole, HELD_TICKS growing meanwhile (R92, R415). -/
def Dev.scheduleResume (d : Dev) (p : Nat) : Dev :=
  let s := d.sched p
  match s.resumeAt with
  | none => d
  | some r =>
    if d.get (K.SCHED_STATE p) ≠ 4 || d.now < r || d.get (K.DECISION p) = 3 then d else
    let (d, ok) := d.remap p
    if !ok && d.get (K.PART_CLASS p) = 0 then d else
    let d := if ok then d else d.evict p
    let resolved := s.atCommit && d.get (K.DECISION p) == 4
    let t := d.get (K.DECIDE_TICK p)
    let b := if resolved then d.get (K.EPOCH_NOW p) + t else s.suspTick
    let d := d.cnt (K.HELD_TICKS p) (r - b)
    let d := (d.setState p 3).put (K.EPOCH_NOW p) (d.epochOf p)
    let d := d.setSched p { d.sched p with resumeAt := none, doubted := false }
    if resolved then
      let s := d.sched p
      let d := d.setSched p { s with seg := (firstIdx (fun g : Seg => decide (t < g.stop)) s.segs).getD 0, atCommit := false }
      (d.schedEngs p).foldl (fun d e =>
        let d := d.fetchList e
        let x := d.ctx e
        d.setCtx e { x with index := d.commitIndex e t x.count x.index }) d
    else if s.seg ≠ 0 then d
    else (d.beginAttempt p)

/-- COMMAND_LATE (R97, R99): the head of an engine's list becomes late. An issued command that is not complete at the END
of its segment is late from then on (`finalStatus`). A core that is not clocked, or is switched, becomes late as any other. -/
def Dev.commandLate (d : Dev) (e : Eng) : Dev :=
  let x := d.ctx e
  let p := d.engPart e
  if 16 ≤ p || !d.schedOpen p then d else
  let d := match (d.inFlight e).find? (fun f => !f.late && d.get (K.EPOCH_NOW p) + (d.sched p).segEnd f.tick ≤ d.now &&
      f.attempt == d.get (K.ATTEMPT p)) with
    | some f => d.lateRecord e f.index f.op f.tick 0
    | none => d
  if !x.fetched || x.index = 0 || x.count < x.index then d
  else match (d.slot e x.index).1 with
    | .error _ => d
    | .ok ws => d.noteLate e { index := x.index, words := ws, handle := none }

/-! ## Resolution (R306) -/

/-- RESOLVE 0x01. -/
def Dev.resolveCommit (d : Dev) (p : Nat) : Dev :=
  if d.get (K.DECISION p) ≠ 3 then d
  else
    let d := ((d.put (K.DECISION p) 4).put (K.DECISION_CAUSE p) 0)
    (d.adjustScale p false true).1.ledgerClose p (d.get (K.ATTEMPT p))

/-- RESOLVE 0x02 to 0x04. -/
def Dev.resolveAbandon (d : Dev) (p v : Nat) : Dev :=
  if d.get (K.DECISION p) ≠ 3 then d
  else
    let cause := if v = 3 then stNONFIN else stLINK
    let d := ((d.put (K.DECISION p) 5).put (K.DECISION_CAUSE p) cause).ledgerClose p (d.get (K.ATTEMPT p))
    let d := d.latchDigests p false
    let d := if v = 3 then d else (d.countFail p stLINK).1
    let d := if v = 2 then d else (d.adjustScale p true false).1
    let d := d.setSched p { d.sched p with scale := d.get (K.LS_EXP p), atCommit := false }
    let d := (d.put (K.ATTEMPT p) (d.get (K.ATTEMPT p) + 1)).stepRecord p
    let stop := d.get (K.STOP_AFTER p)
    if (d.sched p).endReq || (stop ≠ 0 && stop ≤ d.get (K.STEP p)) then d.endSched p else d

/-- The time state leaves LOCKED: the attempts in progress fail (R83, R301); LOST suspends at their end. -/
def Dev.markUnlocked (d : Dev) (lost : Bool) : Dev :=
  { d with parts := d.parts.map (fun (q : Nat × Part) =>
      (q.1, { q.2 with sched := { q.2.sched with unlocked := true, lostEnd := q.2.sched.lostEnd || lost } })) }

end Sys2Proof.Machine
end

