-- ==== Sys2Proof/Machine/Coding.lean ====
section
/-! DEFINITION. The line coding of the links: flits, blocks, groups, codewords and lanes (R337 to R340). -/
namespace Sys2Proof.Machine

/-! ## Flits -/

/-- A flit's header as a number (R340). -/
def flitHeader (f : Flit) : Nat :=
  f.ftype % 16 * 2 ^ 124 + f.vc % 8 * 2 ^ 121 + ofBool f.last * 2 ^ 120 + f.seq % 4096 * 2 ^ 108 + f.ack % 4096 * 2 ^ 96 +
  ofBool f.nak * 2 ^ 95 + f.cvc % 8 * 2 ^ 92 + f.credit % 256 * 2 ^ 84 + f.len % 256 * 2 ^ 76 + f.dest % 4096 * 2 ^ 64 +
  f.src % 4096 * 2 ^ 52 + f.part % 16 * 2 ^ 48 + ofBool f.priv * 2 ^ 47 + f.msgid % 2 ^ 15 * 2 ^ 32 + f.crc % 2 ^ 32

/-- A flit's 256 bytes (R340). -/
def flitBytes (f : Flit) : List Nat :=
  toLE 16 (flitHeader f) ++ (f.payload ++ List.replicate (240 - f.payload.length) 0).take 240

/-- The CRC of a flit (R340). -/
def flitSum (f : Flit) : Nat := crc32c (flitBytes { f with crc := 0 })

/-! ## Blocks and groups -/

/-- The 80 framing bits of a group, bit 0 first: the constant, then the group's counter (R337). -/
def framing (count : Nat) : Nat := 0x5C3A96F1 + count % 2 ^ 48 * 2 ^ 32

/-- Block b of a group: its framing bit, then 256 bits of flit data, byte 0 upward and bit 0 of each byte first (R337). -/
def block (count : Nat) (flits : List (List Nat)) (b : Nat) : Nat :=
  framing count / 2 ^ b % 2 + 2 * ofLE (((flits.getD (b / 8) []).drop (32 * (b % 8))).take 32)

/-- The 5,140 message bits of codeword j of a group: its twenty blocks (R337). -/
def groupMessage (count : Nat) (flits : List (List Nat)) (j : Nat) : Nat :=
  (List.range 20).foldr (fun i m => block count flits (20 * j + i) + 2 ^ 257 * m) 0

/-- Message symbol i holds bits 10i to 10i + 9 (R337). -/
def messageSymbols (m : Nat) : List Nat := (List.range 514).map (fun i => m / 2 ^ (10 * i) % 1024)

/-- The codewords in which flit k of a group has a block: block b lies in codeword b / 20 (R337, R339). -/
def flitWords (k : Nat) : List Nat := ((List.range 8).map (fun i => (8 * k + i) / 20)).eraseDups

/-! ## The code -/

/-- A product in the symbol field: `n` bits of the second factor, from the top (R337, log entry 126). -/
def gfTimes (n a b : Nat) : Nat :=
  match n with
  | 0 => 0
  | k + 1 =>
    let r := gfTimes k a (b / 2)
    let r := if bit r 9 then xorN (2 * r % 1024) 0x009 else 2 * r
    if b % 2 = 1 then xorN r a else r

/-- A product of two symbols. -/
def gfMul (a b : Nat) : Nat := gfTimes 10 a b

/-- Multiplies a polynomial, highest power first, by x + r. -/
def polyTimes (p : List Nat) (r : Nat) : List Nat := List.zipWith xorN (p ++ [0]) (0 :: p.map (gfMul r))

/-- The generator polynomial, highest power first: its roots are powers 0 to 29 of the field's generator (R337, log entry 126). -/
def rsGenerator : List Nat :=
  ((List.range 30).foldl (fun (s : List Nat × Nat) _ => (polyTimes s.1 s.2, gfMul 2 s.2)) ([1], 1)).1

/-- The 30 parity symbols of a message: what is left of it after division by the generator polynomial (R337). -/
def rsParity (msg : List Nat) : List Nat :=
  let g := rsGenerator.drop 1
  msg.foldl (fun r m =>
    let q := xorN m (r.headD 0)
    List.zipWith xorN (r.drop 1 ++ [0]) (g.map (gfMul q))) (List.replicate 30 0)

/-- One codeword of 544 symbols (R337). -/
def codeword (msg : List Nat) : List Nat := msg ++ rsParity msg

/-- The four codewords of a group (R337). -/
def groupWords (count : Nat) (flits : List (List Nat)) : List (List Nat) :=
  (List.range 4).map (fun j => codeword (messageSymbols (groupMessage count flits j)))

/-! ## Lanes -/

/-- The codeword whose symbol lane `l` sends in slot p (R338). -/
def laneWord (l p : Nat) : Nat := (l + 4 - p % 4) % 4

/-- The 544 symbols that each of the four lanes sends, in time order (R338). -/
def laneSymbols (words : List (List Nat)) : List (List Nat) :=
  (List.range 4).map (fun l => (List.range 544).map (fun p => (words.getD (laneWord l p) []).getD p 0))

/-- Codeword j as the receiver collects it from the lanes (R338). -/
def wordFromLanes (lanes : List (List Nat)) (j : Nat) : List Nat :=
  (List.range 544).map (fun p => (lanes.getD ((j + p) % 4) []).getD p 0)

/-- A flit takes the next place of the group being sent; the tenth completes the group, which the lanes then carry (R337, R338). -/
def Link.putFlit (k : Link) (f : Flit) : Link :=
  let g := k.txGrp ++ [f]
  if g.length < 10 then { k with txGrp := g }
  else { k with txGrp := [], txCount := (k.txCount + 1) % 2 ^ 48, lanes := laneSymbols (groupWords k.txCount (g.map flitBytes)) }

/-! ## Receipt of groups -/

/-- The framing bits of a group match: the constant, and the counter once one is known (R337). -/
def Link.framed (k : Link) (frame : Nat) : Bool :=
  frame % 2 ^ 32 == 0x5C3A96F1 && (match k.rxCount with | some c => frame / 2 ^ 32 % 2 ^ 48 == c | none => true)

/-- What a flit in which nothing was found brings: framing that matches, nothing corrected. -/
def Link.cleanFec (k : Link) : Fec := { corrected := 0, uncorrectable := false, frame := framing (k.rxCount.getD 0) }

/-- A codeword begins in the next flit of the group. -/
def Link.wordStarts (k : Link) : Bool := [0, 2, 5, 7].contains k.rxSlot

/-- The next flit of a group arrives: whether it is discarded, for a codeword in which it has a block or for its group's framing
(R339), and the link. A link that is training takes the counter of the group after a mismatch anew. -/
def Link.arrive (k : Link) (up : Bool) (e : Fec) : Bool × Link :=
  let s := k.rxSlot
  let grp := if s = 0 then !k.framed e.frame else k.grpBad
  let cw := if k.wordStarts then e.uncorrectable else k.cwBad
  let lost := grp || cw || ((s = 2 || s = 7) && k.cwBad)
  let flaw := cw || (s ≠ 0 && k.grpFlaw)
  let count := if s = 0 && !grp then some (e.frame / 2 ^ 32 % 2 ^ 48) else k.rxCount
  let k : Link := { k with rxSlot := (s + 1) % 10, grpBad := grp, cwBad := cw, grpFlaw := flaw, rxCount := count }
  if s < 9 then (lost, k)
  else
    (lost, { k with rxCount := if grp && !up then none else count.map (fun c => (c + 1) % 2 ^ 48),
                    goodGroups := if grp || flaw then 0 else k.goodGroups + 1, badGroups := if grp then k.badGroups + 1 else 0 })

end Sys2Proof.Machine
end

