-- ==== Sys2Proof/Machine/Links.lean ====
section
/-! DEFINITION. The Ronhori links: flits, credits, replay, messages, remote requests, negotiation, standby (R336 to R371). -/
namespace Sys2Proof.Machine

/-! ## Records -/

/-- The peer's number and whether it is known (R369). -/
def Dev.peerOf (d : Dev) (l : Nat) : Nat × Bool :=
  let p := d.get (K.LNK_PEER l)
  if p = 0xFFFF then (0, false) else (p % 4096, true)

/-- Files a link's record (R369). -/
def Dev.linkRecord (d : Dev) (l kind reason count : Nat) : Dev :=
  let (peer, known) := d.peerOf l
  d.file { cls := 5, syndrome := kind * 2 ^ 28 + reason % 16 * 2 ^ 24 + peer * 2 ^ 12 + ofBool known * 2 ^ 11 + min count 2047,
           aux := 0, unit := 0x3000 + l, index := 0, opcode := 0xFF, status := 0, part := 0xFF }

/-- A discarded flit of a reserved type or channel (R341): counted, one record a second. -/
def Dev.reservedDrop (d : Dev) (l : Nat) : Dev :=
  let k := d.link l
  let d := d.cnt (K.RESERVED_DROPS l) 1
  if k.dropTick ≠ 0 && d.now < k.dropTick - 1 + 62500000 then d
  else (d.setLink l { k with dropTick := d.now + 1 }).linkRecord l 5 0 0

/-! ## Flits -/

/-- An unsequenced flit (R341). -/
def plainFlit (ftype vc : Nat) (payload : List Nat) : Flit :=
  { ftype := ftype, vc := vc, last := false, seq := 0, ack := 0, nak := false, cvc := 0, credit := 0, len := payload.length,
    dest := 0, src := 0, part := 0, priv := false, msgid := 0, crc := 0, payload := payload }

/-- A NEGOTIATE payload; `msg` is 1 OFFER, 2 ACCEPT, 3 REFUSE (R354). -/
def negoBytes (n : Nego) (msg : Nat) : List Nat :=
  toLE 2 n.verMin ++ toLE 2 n.verMax ++ [n.generation, n.role, msg, n.reason] ++ toLE 2 n.number ++ toLE 2 n.assign ++
  toLE 2 n.chosen ++ [n.vcmask, 0] ++ toLE 2 n.credVc0 ++ toLE 2 n.credVc2 ++ toLE 2 n.credVc3 ++ toLE 2 n.credVc4 ++
  toLE 32 n.deviceId

/-- A TIMEMARK payload (R357). -/
def markBytes (m : Mark) : List Nat :=
  toLE 8 (m.tx / 256) ++ [m.tx % 256, m.depth, ofBool m.source + 2 * ofBool m.echoValid, 0] ++ toLE 4 (ofSigned 32 m.offset) ++
  toLE 8 (m.echo / 256) ++ [m.echo % 256, 0, 0, 0] ++ toLE 4 m.echoHold

/-! ## Sending (R345, R346, R349) -/

/-- The credits that the next header returns: channels in rotation (R345). -/
def Link.giveCredit (k : Link) (hold : Bool) : Nat × Nat × Link :=
  let vs := [0, 2, 3, 4]
  let order := vs.filter (fun v => k.retVc < v) ++ vs.filter (fun v => v ≤ k.retVc)
  match order.find? (fun v => Map.get k.ret 0 v != 0 && !(hold && (v == 2 || v == 3))) with
  | some v =>
    let n := min 255 (Map.get k.ret 0 v)
    (v, n, { k with ret := Map.set k.ret 0 v (Map.get k.ret 0 v - n), retVc := v })
  | none => (0, 0, k)

/-- Credits of a buffer that is free again. -/
def Link.free (k : Link) (vc n : Nat) : Link := { k with ret := Map.set k.ret 0 vc (Map.get k.ret 0 vc + n) }

/-- A replay request that was put off is made once 64 ticks have passed since the last (R350). -/
def Link.askDue (k : Link) (now : Nat) : Link :=
  if k.nakWant && k.nakTick ≤ now then { k with nak := true, nakWant := false, nakTick := now + 64 } else k

/-- Sends a flit in this slot: its header takes ACK, NAK and credits, then its CRC; the flit takes its place in the group. -/
def Dev.emit (d : Dev) (l : Nat) (k : Link) (f : Flit) : Dev :=
  let (v, n, k) := (k.askDue d.now).giveCredit (d.creditsHeld l)
  let f : Flit := { f with ack := k.ack, nak := k.nak, cvc := v, credit := n }
  let f : Flit := { f with crc := flitSum f }
  let k : Link := { k with out := some f, gap := if f.ftype = 1 && f.vc = 0 then 0 else min 7 (k.gap + 1) }
  let d := d.setLink l (k.putFlit f)
  if f.ftype = 0 then d else d.cnt (K.FLITS_TX l) 1

/-- A channel has a flit that may leave: a message, a credit, room in the replay buffer, the peer carries it. -/
def Link.ready (k : Link) (v : Nat) : Bool :=
  !(Map.get k.txq [] v).isEmpty && Map.get k.cred 0 v != 0 && k.buf.length < 1024 && bit k.mask v

/-- Some message is queued. -/
def Link.queued (k : Link) : Bool := k.txq.any (fun e => !e.2.isEmpty)

/-- The first queued message of a channel leaves its queue; a message that waited takes its room (R346). -/
def Link.shift (k : Link) (v : Nat) : Link :=
  match (Map.get k.txq [] v).tail, Map.get k.held [] v with
  | r, [] => { k with txq := Map.set k.txq [] v r, off := Map.set k.off 0 v 0 }
  | r, h :: t => { k with txq := Map.set k.txq [] v (r ++ [h]), held := Map.set k.held [] v t, off := Map.set k.off 0 v 0 }

/-- The next DATA flit of a channel (R343, R345, R349). -/
def Dev.sendData (d : Dev) (l : Nat) (k : Link) (v : Nat) : Dev :=
  match Map.get k.txq [] v with
  | [] => d
  | m :: _ =>
    let o := Map.get k.off 0 v
    let bs := (m.payload.drop o).take 240
    let last := decide (m.payload.length ≤ o + 240)
    let f : Flit := { ftype := 1, vc := v, last := last, seq := k.seq, ack := 0, nak := false, cvc := 0, credit := 0,
                      len := bs.length, dest := m.dest % 4096, src := m.src % 4096, part := m.part, priv := m.priv,
                      msgid := m.id, crc := 0, payload := bs }
    let k : Link := { k with seq := (k.seq + 1) % 4096, cred := Map.set k.cred 0 v (Map.get k.cred 0 v - 1),
                             buf := k.buf ++ [{ flit := f, msg := m, tries := 0, last := d.now }] }
    let k := if last then k.shift v else { k with off := Map.set k.off 0 v (o + 240) }
    let d := if m.src = d.get K.DEVICE_NUMBER && !m.priv then d.charge m.part 4 256 else d
    d.emit l k f

/-- A replayed flit (R350, R351). -/
def Dev.sendReplay (d : Dev) (l : Nat) (k : Link) (i : Nat) : Dev :=
  match k.buf[i]? with
  | none => d.setLink l { k with replay := none }
  | some s =>
    let k : Link := { k with buf := k.buf.set i { s with tries := s.tries + 1, last := d.now },
                             replay := if i + 1 < k.buf.length then some (i + 1) else none }
    (d.cnt (K.REPLAYS l) 1).emit l k s.flit

/-- The stamp of a flit whose first bit leaves now, in 1/256 tick; its part below a tick is a free value (R357, log entry 125). -/
def Dev.stamp (d : Dev) (l : Nat) : Nat := 256 * d.now + (Config.markFrac l d.now).toNat

/-- A TIMEMARK that is due, stamped as it leaves (R357). -/
def Dev.sendMark (d : Dev) (l : Nat) (k : Link) (m : Mark) : Dev :=
  let hold := match k.markRx with | some (_, rx) => d.stamp l - rx | none => 0
  let m : Mark := { m with tx := d.stamp l, echoHold := if m.echoValid then hold % 2 ^ 32 else 0 }
  d.emit l { k with markOut := none } (plainFlit 3 1 (markBytes m))

/-- A slot with nothing else to send. After STANDBY_ACK sixteen of them, then the lanes go idle (R361). -/
def Dev.sendNull (d : Dev) (l : Nat) (k : Link) : Dev :=
  if k.standby = 2 then
    if k.sbSlots ≤ 1 then
      (d.emit l { k with standby := 0, sbSlots := 0 } (plainFlit 0 0 [])).put (K.LNK_STATE l) 4
    else d.emit l { k with sbSlots := k.sbSlots - 1 } (plainFlit 0 0 [])
  else d.emit l k (plainFlit 0 0 [])

/-- FLIT_SLOT (R346): the first that is ready. A message that becomes ready before the lanes are idle ends the standby
handshake (R361); in STANDBY it sends the wake ordered set (R362). -/
def Dev.flitSlot (d : Dev) (l : Nat) : Dev :=
  let k := d.link l
  if d.get (K.LNK_STATE l) = 4 then (if k.queued then d.setLink l { k with out := none, standby := 3 } else d)
  else if d.get (K.LNK_STATE l) ≠ 3 then d.setLink l { k with out := none }
  else
    let k := if k.queued then { k with standby := 0, sbSlots := 0 } else k
    let k := if k.standby = 4 && k.buf.isEmpty then { k with ctl := k.ctl ++ [2], standby := 2, sbSlots := 16 } else k
    match k.replay, k.markOut with
    | some i, _ => d.sendReplay l k i
    | none, some m => d.sendMark l k m
    | none, none =>
      if 7 ≤ k.gap && k.ready 0 then d.sendData l k 0
      else if k.ready 2 then d.sendData l k 2
      else if k.ready 4 then d.sendData l k 4
      else if k.ready 3 then d.sendData l k 3
      else match k.ctl with
        | c :: r => d.emit l { k with ctl := r } (plainFlit 2 0 [c])
        | [] => d.sendNull l k

/-! ## Failure (R366) -/

/-- What a lost message does: an engine's request or ring step completes LINK_TIMEOUT, a vote or swatch record is sent
again. -/
def Dev.lostMsg (d : Dev) (m : Msg) : Dev :=
  let me := d.get K.DEVICE_NUMBER
  let op := m.payload.getD 12 0
  if m.vc = 3 && m.src = me && (op = 1 || op = 3) then
    match Map.look d.remote m.id with
    | some r => d.remoteAnswer m.id r [] stLINK
    | none => d
  else if m.vc = 2 && m.src = me then
    let h := ringHdr m.payload
    if h.kind = 8 || h.kind = 9 then (d.send m false).1
    else
      match (List.range 32).find? (fun c => d.get (K.CH_PART c) == m.part && d.get (K.CH_RING_ID c) == h.id &&
          d.get (K.CH_SUCC c) == m.dest) with
      | none => d
      | some ch =>
        match (d.chan ch).op with
        | some o => if o.bk.seq = h.seq then d.setOp ch { o with lost := true } else d
        | none => d
  else d

/-- The messages whose delay is over leave (R73). -/
def Dev.sendDue (d : Dev) : Dev :=
  if !d.delayed.any (fun e => e.1 ≤ d.now) then d
  else
    let due := d.delayed.filter (fun e => e.1 ≤ d.now)
    due.foldl (fun (d : Dev) e => let (d, ok) := d.send e.2 false; if ok then d else d.lostMsg e.2)
      { d with delayed := d.delayed.filter (fun e => d.now < e.1) }

/-- Flits not yet acknowledged or not yet sent. -/
def Link.pendingFlits (k : Link) : Nat :=
  k.buf.length + (k.txq.map (fun e => (e.2.map (fun m => max 1 (ceilDiv m.payload.length 240))).sum - Map.get k.off 0 e.1 / 240)).sum

/-- A link stops in a state: what was sent and not acknowledged, or queued, is lost; what waited at its sender takes
another route (R365, R366). -/
def Dev.linkStop (d : Dev) (l st : Nat) : Dev :=
  let k := d.link l
  let me := d.get K.DEVICE_NUMBER
  let lost := (k.buf.map Sent.msg ++ k.txq.flatMap Prod.snd).eraseDups
  let wait := k.held.flatMap Prod.snd
  let fresh : Link := { Link.init with inbox := k.inbox, cameAt := k.cameAt, restarts := k.restarts, trainAt := d.now, away := true,
                                       dropTick := k.dropTick, corr := k.corr }
  let d := (d.setLink l fresh).put (K.LNK_STATE l) st
  let d := lost.foldl Dev.lostMsg d
  wait.foldl (fun d m => let (d, ok) := d.send m (m.src != me); if ok then d else d.lostMsg m) d

/-- The link enters FAILED (R366). -/
def Dev.toFailed (d : Dev) (l : Nat) : Dev := Dev.bump 32 (d.linkStop l 5) (K.FAILURES l) 1

/-- A flit was retransmitted REPLAY_LIMIT times and is not acknowledged 125 ticks after the last (R351). -/
def Dev.replayDead (d : Dev) (k : Link) : Bool :=
  k.buf.any (fun s => d.get K.REPLAY_LIMIT ≤ s.tries && s.last + 125 ≤ d.now)

/-- LINK_FAIL (R351, R366): 1 replay limit, 2 receive silence, 3 signal loss, 4 framing retrain. -/
def Dev.linkFail (d : Dev) (l reason : Nat) : Dev :=
  let k := d.link l
  let holds := match reason with
    | 1 => d.replayDead k
    | 2 => decide (k.lastRx + 125 ≤ d.now)
    | 3 => true
    | 4 => decide (4 ≤ k.badGroups)
    | _ => false
  if d.get (K.LNK_STATE l) ≠ 3 || !holds then d
  else (d.linkRecord l 1 reason k.pendingFlits).toFailed l

/-- FRAMING_RETRAIN (R339): after four groups in a row whose framing did not match, a link that is UP fails; one in training
starts again. -/
def Dev.framingRetrain (d : Dev) (l : Nat) : Dev :=
  if (d.link l).badGroups < 4 then d
  else match d.get (K.LNK_STATE l) with
  | 3 => d.linkFail l 4
  | 2 => (d.setLink l { d.link l with offered := none, sentAcc := false, gotAcc := false, neg := none, rxCount := none,
                                      goodGroups := 0, badGroups := 0 }).put (K.LNK_STATE l) 1
  | _ => d

/-- ACK_DEADLINE_EXPIRE (R351): retransmission from the oldest flit, or failure. -/
def Dev.ackDeadlineExpire (d : Dev) (l : Nat) : Dev :=
  let k := d.link l
  if d.get (K.LNK_STATE l) ≠ 3 || !k.buf.any (fun s => s.last + 125 ≤ d.now) then d
  else if d.replayDead k then d.linkFail l 1
  else d.setLink l { k with replay := some 0 }

/-! ## Receiving (R342, R343, R350) -/

/-- What every accepted header does: ACK, NAK and credits (R342). -/
def Link.takeHeader (k : Link) (f : Flit) (now : Nat) : Link :=
  let gone := (k.buf.takeWhile (fun s => (f.ack + 4096 - s.flit.seq) % 4096 < 2048)).length
  let buf := k.buf.drop gone
  let rep := match k.replay with
    | some i => if i - gone < buf.length then some (i - gone) else none
    | none => none
  { k with buf := buf, cred := if f.credit = 0 then k.cred else Map.set k.cred 0 f.cvc (Map.get k.cred 0 f.cvc + f.credit),
           replay := if f.nak && rep.isNone && !buf.isEmpty then some 0 else rep, lastRx := now }

/-- NAK is set in the next header; a new request waits until 64 ticks after the last (R350). -/
def Link.ask (k : Link) (now : Nat) : Link :=
  if k.nak then k else if now < k.nakTick then { k with nakWant := true } else { k with nak := true, nakTick := now + 64 }

/-- The symbols corrected in the second that ends now, the newest of them added (R339). -/
def Link.corrAdd (k : Link) (now n : Nat) : Link :=
  let recent := k.corr.filter (fun e => now < e.1 + 62500000)
  { k with corr := match recent.getLast? with
      | some (t, m) => if t = now then recent.dropLast ++ [(t, m + n)] else recent ++ [(now, n)]
      | none => [(now, n)] }

/-- Corrected symbols: counted; above 10⁻⁵ of the symbols received over any second one record, after which a new second runs
(R339). -/
def Dev.corrected (d : Dev) (l n : Nat) : Dev :=
  if n = 0 then d else
  let d := d.cnt (K.FEC_CORR_SYM l) n
  let k := (d.link l).corrAdd d.now n
  if 850000 < (k.corr.map Prod.snd).sum then (d.setLink l { k with corr := [] }).linkRecord l 2 0 0 else d.setLink l k

/-- The next flit of a group comes: what its codeword and framing say (R337, R339). True where the flit is discarded. -/
def Dev.arrived (d : Dev) (l : Nat) (e : Fec) : Bool × Dev :=
  let k := d.link l
  let (lost, k') := k.arrive (d.get (K.LNK_STATE l) == 3) e
  let d := d.setLink l k'
  if !k.wordStarts then (lost, d)
  else
    let d := d.corrected l e.corrected
    (lost, if e.uncorrectable then d.cnt (K.FEC_UNCORR l) 1 else d)

/-- A flit passes the checks that all flits pass: FEC, REPLAY_FORCE, CRC, its type (R339, R341, R342, R73). A group whose framing
does not match is discarded without a replay request (R339, R350); a reserved type with a valid CRC still shows that the peer
sends (R351). -/
def Dev.flitOk (d : Dev) (l : Nat) (f : Flit) (e : Fec) : Bool × Dev :=
  let (lost, d) := d.arrived l e
  let (forced, d) := if f.ftype = 1 then (let (n, _, d) := d.stain 5 (0x3000 + l) f.part; (n != 0, d)) else (false, d)
  let ask (d : Dev) : Dev := d.setLink l ((d.link l).ask d.now)
  if (d.link l).grpBad then (false, d)
  else if lost then (false, ask d)
  else if forced then (false, ask d)
  else if f.crc ≠ flitSum f then (false, ask (d.cnt (K.CRC_ERR l) 1))
  else if 5 ≤ f.ftype then (false, Dev.reservedDrop (d.setLink l { d.link l with lastRx := d.now }) l)
  else (true, d)

/-- A control flit that came through its own event, having passed those checks: its place in its group, its header's ACK, NAK and
credits (R342). False where its group or codeword is discarded. -/
def Dev.controlIn (d : Dev) (l : Nat) (f : Flit) : Bool × Dev :=
  let (lost, d) := d.arrived l (d.link l).cleanFec
  if lost then (false, d) else (true, (d.setLink l ((d.link l).takeHeader f d.now)).cnt (K.FLITS_RX l) 1)

/-- Recovery mode (R506): the ROM's loader serves links L00 to L07. -/
def Dev.recovery (d : Dev) : Bool := d.get K.BOOT_STATE == 0x80

/-- A bridge answers a request for a device outside its group (R364). -/
def Dev.bridgeRefuse (d : Dev) (l : Nat) (m : Msg) : Dev :=
  let op := m.payload.getD 12 0
  if m.vc = 4 && (op = 1 || op = 3) then
    d.enqueue l (txMsg 4 m.src m.dest m.part m.priv m.id 6 stACCESS (ofLE ((m.payload.drop 8).take 4)) (ofLE (m.payload.take 8)) [])
  else if m.vc = 0 && op < 0x80 then
    let h := m.payload.take 16
    d.enqueue l { m with dest := m.src, src := m.dest,
                         payload := List.replicate 4 0 ++ [0, 0, h.getD 6 0, 0, stACCESS] ++ (h.drop 9).take 3 ++ [op + 0x80] ++ h.drop 13 }
  else d

/-- Device numbers of the host group (R371). -/
def Dev.group (d : Dev) : List Nat :=
  let b := Map.get d.doms [] (0x5040 * 256 + 5)
  (List.range (b.length / 2)).map (fun i => ofLE ((b.drop (2 * i)).take 2))

/-- A ring message of a reserved KIND (R376). -/
def ringReserved (m : Msg) : Bool := let k := (ringHdr m.payload).kind; k == 0 || 10 ≤ k

/-- It is discarded and counted. -/
def Dev.ringDiscard (d : Dev) (l : Nat) (m : Msg) : Dev :=
  match d.msgChannel m with
  | some ch => d.cnt (K.CH_DISCARDS ch) 1
  | none => d.strayMsg l m

/-- A whole message has come: it is kept for its event, forwarded, or discarded (R356, R363 to R365, R376). -/
def Dev.deliver (d : Dev) (l : Nat) (m : Msg) : Dev :=
  let k := d.link l
  let back := d.setLink l (k.free m.vc (max 1 (ceilDiv m.payload.length 240)))
  let keep := d.setLink l { k with inbox := Map.set k.inbox [] m.vc (Map.get k.inbox [] m.vc ++ [m]),
                                   cameAt := if m.vc = 0 then k.cameAt ++ [d.now] else k.cameAt }
  let host := d.get (K.LNK_MODE l) = 2
  let op := m.payload.getD 12 0
  if d.recovery then (if m.vc = 4 && (op = 1 || op = 3) then keep else back)
  else if !d.flag K.NUM_ASSIGNED then keep
  else if host && m.src ≠ d.get K.HOST_NUMBER then back
  else if m.dest = d.get K.DEVICE_NUMBER then
    if m.vc = 4 && m.src ≠ d.get K.HOST_NUMBER then back
    else if m.vc = 2 && ringReserved m then back.ringDiscard l m
    else if (m.vc = 3 || m.vc = 4) && !(op = 6 || (1 ≤ op && op ≤ 4)) then back
    else keep
  else if d.flag K.BRIDGE && host && !d.group.contains m.dest then back.bridgeRefuse l m
  else (back.send m true).1

/-- The payload of a DATA flit accepted in order (R343, R356, R363). -/
def Dev.takeData (d : Dev) (l : Nat) (f : Flit) : Dev :=
  let k := d.link l
  if !(f.vc = 0 || f.vc = 2 || f.vc = 3 || f.vc = 4) then d.reservedDrop l
  else if (f.vc = 2 || f.vc = 3) && d.get (K.LNK_MODE l) = 2 then (d.setLink l (k.free f.vc 1)).cnt (K.RESERVED_DROPS l) 1
  else if f.vc ≠ 0 && !d.flag K.NUM_ASSIGNED && !(d.recovery && f.vc = 4) then d.setLink l (k.free f.vc 1)
  else
    let bs := f.payload.take f.len
    let new : Msg := { vc := f.vc, dest := f.dest, src := f.src, part := f.part, priv := f.priv, id := f.msgid, payload := bs }
    let old := match Map.get k.rx none f.vc with
      | some p => if p.msg.id = f.msgid && p.msg.src = f.src then some p else none
      | none => none
    let stale := match Map.get k.rx none f.vc with
      | some p => if old.isNone && !p.dead then max 1 (ceilDiv p.msg.payload.length 240) else 0
      | none => 0
    let k := if stale = 0 then k else k.free f.vc stale
    let dead := match old with | some p => p.dead || p.last + 125 < d.now | none => false
    let m := match old with | some p => { p.msg with payload := p.msg.payload ++ bs } | none => new
    if dead then
      let n := match old with | some p => if p.dead then 1 else 1 + max 1 (ceilDiv p.msg.payload.length 240) | none => 1
      d.setLink l { k.free f.vc n with rx := Map.set k.rx none f.vc (if f.last then none else some { msg := new, last := d.now, dead := true }) }
    else if f.last then (d.setLink l { k with rx := Map.set k.rx none f.vc none }).deliver l m
    else d.setLink l { k with rx := Map.set k.rx none f.vc (some { msg := m, last := d.now, dead := false }) }

/-- A DATA flit ends a standby handshake that is not acknowledged (R361). -/
def Link.noStandby (k : Link) : Link := if k.standby = 1 || k.standby = 4 then { k with standby := 0 } else k

/-- FLIT_DATA_RECEIVE (R350). While a link trains its groups are counted for the lock and nothing is accepted (R353). -/
def Dev.flitDataReceive (d : Dev) (l : Nat) (f : Flit) (e : Fec) : Dev :=
  if d.get (K.LNK_STATE l) = 1 || d.get (K.LNK_STATE l) = 2 then (d.arrived l e).2 else
  if d.get (K.LNK_STATE l) ≠ 3 then d else
  match d.flitOk l f e with
  | (false, d) => d
  | (true, d) =>
    let k := (d.link l).takeHeader f d.now
    if f.ftype ≠ 1 then
      let d := d.setLink l k
      if f.ftype = 0 then d else d.cnt (K.FLITS_RX l) 1
    else
      let k := k.noStandby
      let ahead := (f.seq + 4096 - (k.ack + 1) % 4096) % 4096
      if ahead = 0 then ((d.setLink l { k with ack := f.seq % 4096, nak := false, nakWant := false }).cnt (K.FLITS_RX l) 1).takeData l f
      else if 4096 - 2048 ≤ ahead then d.setLink l k
      else d.setLink l (k.ask d.now)

/-- NULL (R342): its ACK, NAK and credit fields are acted on. -/
def Dev.null (d : Dev) (l : Nat) (f : Flit) : Dev :=
  if f.ftype ≠ 0 then d else d.flitDataReceive l f (d.link l).cleanFec

/-- MESSAGE_REASSEMBLY_TIMEOUT (R343). -/
def Dev.messageReassemblyTimeout (d : Dev) (l vc : Nat) : Dev :=
  let k := d.link l
  match Map.get k.rx none vc with
  | some p =>
    if p.dead || d.now < p.last + 125 then d
    else d.setLink l { k.free vc (max 1 (ceilDiv p.msg.payload.length 240)) with rx := Map.set k.rx none vc (some { p with dead := true }) }
  | none => d

/-! ## Remote transactions (R347, R348, R363) -/

/-- The oldest VC4 or VC3 message of a link with this OP, taken out. -/
def Dev.takeTx (d : Dev) (l op : Nat) : Option (Msg × Dev) :=
  match d.takeMsg l 4 (fun m => m.payload.getD 12 0 == op) with
  | some r => some r
  | none => d.takeMsg l 3 (fun m => m.payload.getD 12 0 == op)

/-- A request's address, length, issuer, tracker class and its code among the requests that wait for a tracker. -/
structure TxReq where
  addr : Nat
  len : Nat
  who : Who
  part : Nat
  code : Nat
deriving DecidableEq, Repr

/-- The request that a message carries. Over VC4 the window is that of the partition in PART (R363). -/
def txReq (m : Msg) : TxReq :=
  let a := ofLE (m.payload.take 8)
  let a' := if m.vc = 4 && !bit a 51 then a - bits a 50 47 * 2 ^ 47 + m.part % 16 * 2 ^ 47 else a
  { addr := a', len := ofLE ((m.payload.drop 8).take 4), who := if m.vc = 4 then .host else if m.priv then .priv else .part (m.part % 16),
    part := if bit a' 51 then 0xFF else bits a' 50 47,
    code := 2 ^ 16 * (1 + m.src * 2 ^ 15 + m.id) + 7 * 4096 + (if bit a' 51 then 31 else bits a' 50 47) }

/-- The places of a request, checked as though it had been issued here (R348). -/
def Dev.txPlaces (d : Dev) (q : TxReq) (write : Bool) : Except Nat (List Loc) :=
  if q.len = 0 || 4096 < q.len then .error stRANGE
  else match d.xlateRun q.who q.addr q.len with
    | .error st => .error st
    | .ok ls =>
      if ls.any (fun l => match l with | .far _ => true | _ => false) then .error stACCESS
      else if write && !q.who.isPart && ls.any (fun l => match l with | .hbm x => (d.tableAt x).isSome | _ => false) then .error stACCESS
      else if write && !addAligned [ls.map (fun l => (0, l))] then .error stRANGE
      else .ok ls

/-- Answers a request, late by what a stain delays its memory responses (R73). -/
def Dev.answer (d : Dev) (m : Msg) (op st : Nat) (data : List Nat) : Dev :=
  (Dev.post { d with memDelay := 0 } (d.now + d.memDelay) (txMsg m.vc m.src (d.get K.DEVICE_NUMBER) m.part m.priv m.id op st (ofLE ((m.payload.drop 8).take 4))
    (ofLE (m.payload.take 8)) data)).1

/-- A remote request waits: for a sleeping domain, a tracker entry or a locking accumulation area (R284, R287, R442). -/
def Dev.txWait (d : Dev) (q : TxReq) (ls : List Loc) : Option Dev :=
  let ps : List Place := ls.map (fun l => (0, l))
  let zz := d.asleep ps
  if !zz.isEmpty then some (zz.foldl Dev.wakeDom d)
  else match (homes ps).filter (fun h => d.trkFull h q.part || (Map.get d.mem.trkWait [] h).contains q.code) with
    | [] => if d.shut ls then some d else none
    | full => some (full.foldl (fun d h => d.trkJoin h q.code) d)

/-- READ_REQ (R347, R348). -/
def Dev.readReq (d : Dev) (l : Nat) : Dev :=
  if d.recovery then d else
  match d.takeTx l 1 with
  | none => d
  | some (m, d') =>
    let q := txReq m
    match d'.txPlaces q false with
    | .error st => d'.answer m 6 st []
    | .ok ls =>
      match d.txWait q ls with
      | some d => d
      | none =>
      let (bs, bad, d) := Dev.readRun { d' with memDelay := 0 } { part := q.part, index := 0, op := 0xFF, alloc := true } 0 ls
      d.answer m 2 (if bad then stECC else stOK) (bs.map BitVec.toNat)

/-- WRITE (R347, R348): acknowledged once visible. -/
def Dev.write (d : Dev) (l : Nat) : Dev :=
  if d.recovery then d else
  match d.takeTx l 3 with
  | none => d
  | some (m, d') =>
    let q := txReq m
    match d'.txPlaces q true with
    | .error st => d'.answer m 6 st []
    | .ok ls =>
      match d.txWait q ls with
      | some d => d
      | none =>
      let data := ((m.payload.drop 16).take q.len).map (BitVec.ofNat 8)
      let (bad, d) := Dev.writeRun { d' with memDelay := 0 } { part := q.part, index := 0, op := 0xFF, alloc := true } 0 (ls.zip data)
      d.answer m 4 (if bad then stECC else stOK) []

/-- A response: the reference it answers, if that still waits. -/
def Dev.response (d : Dev) (m : Msg) (data : List Nat) : Dev :=
  match Map.look d.remote m.id with
  | some r => if bits r.addr 63 52 = m.src then d.remoteAnswer m.id r data (m.payload.getD 13 0) else d
  | none => d

/-- READ_DATA (R347). -/
def Dev.readData (d : Dev) (l : Nat) : Dev :=
  match d.takeTx l 2 with
  | some (m, d) => d.response m (m.payload.drop 16)
  | none => d

/-- WRITE_ACK (R348). -/
def Dev.writeAck (d : Dev) (l : Nat) : Dev :=
  match d.takeTx l 4 with
  | some (m, d) => d.response m []
  | none => d

/-- ERROR (R348). -/
def Dev.errorResponse (d : Dev) (l : Nat) : Dev :=
  match d.takeTx l 6 with
  | some (m, d) => d.response m []
  | none => d

/-- REMOTE_TIMEOUT (R348). -/
def Dev.remoteTimeout (d : Dev) (id : Nat) : Dev :=
  match Map.look d.remote id with
  | some r => if r.sent + d.get K.REMOTE_TIMEOUT ≤ d.now then d.remoteAnswer id r [] stLINK else d
  | none => d

/-! ## Training and negotiation (R353 to R356) -/

/-- The power domain of a link's port (R433). -/
def portDom (l : Nat) : Nat := 68 + l / 8

/-- The port serves: its domain is in RUN or IDLE. -/
def Dev.portOn (d : Dev) (l : Nat) : Bool := d.get (K.DOM_STATE (portDom l)) ≤ 1

/-- A link forgets its negotiation and trains. -/
def Dev.startTraining (d : Dev) (l : Nat) : Dev :=
  let k := d.link l
  (d.setLink l { k with trainAt := d.now, neg := none, chosen := 0, sentAcc := false, gotAcc := false, offered := none, offerAt := 0,
                        rxCount := none, rxSlot := 0, goodGroups := 0, badGroups := 0 }).put (K.LNK_STATE l) 1

/-- The link is UP: sequence numbers and credits start again (R355, R362). -/
def Dev.linkUp (d : Dev) (l : Nat) (n : Nego) : Dev :=
  let k := d.link l
  let cred : Map Nat := (([(0, n.credVc0), (2, n.credVc2), (3, n.credVc3), (4, n.credVc4)] : List (Nat × Nat)).filter (fun e => e.2 != 0))
  (d.setLink l { k with seq := 0, ack := 4095, cred := cred, buf := [], replay := none, nak := false, nakWant := false, rx := [], ret := [], off := [],
                        mask := n.vcmask, lastRx := d.now, upAt := d.now, restarts := 0, standby := 0, sbSlots := 0, ctl := [],
                        markRx := none, markOut := none, markDue := d.now }).put (K.LNK_STATE l) 3

/-- A link may train: its port's domain serves and the link is enabled; in recovery L00 to L07 only (R353, R506). -/
def Dev.mayTrain (d : Dev) (l : Nat) : Bool := d.portOn l && d.flag (K.LNK_ENABLE l) && !(d.recovery && 8 ≤ l)

/-- LINK_TRAIN (R353): training begins; once 64 groups in a row have matched, negotiation begins. A link that comes back
from STANDBY is UP again with what it negotiated (R362). -/
def Dev.linkTrain (d : Dev) (l : Nat) : Dev :=
  if !d.mayTrain l then d
  else match d.get (K.LNK_STATE l) with
    | 0 => d.startTraining l
    | 1 =>
      if (d.link l).goodGroups < 64 then d else
      let d := if d.get K.CFG_NUMBER ≠ 0xFFFF && !d.flag K.NUM_ASSIGNED then
          (d.put K.DEVICE_NUMBER (d.get K.CFG_NUMBER)).put K.NUM_ASSIGNED 1 else d
      d.put (K.LNK_STATE l) 2
    | 4 => (match (d.link l).offered with | some n => d.linkUp l n | none => d.startTraining l)
    | _ => d

/-- TRAINING_TIMEOUT (R353): a restart, after three in a row FAILED. -/
def Dev.trainingTimeout (d : Dev) (l : Nat) : Dev :=
  let k := d.link l
  if !(d.get (K.LNK_STATE l) = 1 || d.get (K.LNK_STATE l) = 2) || d.now < k.trainAt + 625000 then d
  else
    let d := Dev.bump 32 d (K.NEG_RESTARTS l) 1
    if 2 ≤ k.restarts then (d.setLink l { k with restarts := 0 }).toFailed l
    else (d.setLink l { k with restarts := k.restarts + 1 }).startTraining l

/-- FAILED_RETRY (R353): every second. -/
def Dev.failedRetry (d : Dev) (l : Nat) : Dev :=
  if d.get (K.LNK_STATE l) ≠ 5 || d.now < (d.link l).trainAt + 62500000 || !d.mayTrain l then d else d.startTraining l

/-- What this device offers (R354). -/
def Dev.negoOf (d : Dev) (reason chosen : Nat) : Nego :=
  { verMin := d.get K.LINK_VER_MIN, verMax := d.get K.LINK_VER_MAX, generation := d.get K.GENERATION, role := 1, reason := reason,
    number := if d.flag K.NUM_ASSIGNED then d.get K.DEVICE_NUMBER % 4096 else 0x8000, assign := 0xFFFF, chosen := chosen,
    vcmask := 0x1F, credVc0 := 32, credVc2 := 256, credVc3 := 512, credVc4 := 128, deviceId := d.get K.DEVICE_ID }

/-- Sends a NEGOTIATE flit. -/
def Dev.sendNego (d : Dev) (l msg reason chosen : Nat) : Dev :=
  let n := d.negoOf reason chosen
  let k := d.link l
  d.emit l { k with neg := some n, offerAt := d.now + 1 } (plainFlit 4 0 (negoBytes n msg))

/-- A host adapter would assign a number that differs from the one held (R356). -/
def Dev.assignClash (d : Dev) (n : Nego) : Bool :=
  n.role == 2 && n.assign != 0xFFFF && d.flag K.NUM_ASSIGNED && n.assign != d.get K.DEVICE_NUMBER

/-- The reason to refuse an OFFER; 0 for none (R355). -/
def Dev.offerFault (d : Dev) (l : Nat) (n : Nego) : Nat :=
  if min n.verMax (d.get K.LINK_VER_MAX) < max n.verMin (d.get K.LINK_VER_MIN) then 1
  else if n.deviceId = d.get K.DEVICE_ID then 4
  else if !(n.role = d.get (K.LNK_MODE l)) then 3
  else if d.assignClash n then 2
  else 0

/-- Negotiation fails (R355). -/
def Dev.refused (d : Dev) (l reason : Nat) : Dev := (d.linkRecord l 3 reason 0).toFailed l

/-- Sends REFUSE, which ends the negotiation (R355). -/
def Dev.sendRefuse (d : Dev) (l reason : Nat) : Dev :=
  let d := d.sendNego l 3 reason 0
  let f := (d.link l).out
  let d := d.refused l reason
  d.setLink l { d.link l with out := f }

/-- A NEGOTIATE flit takes its place in the group that arrives (R337, R339); true where it is discarded with its group. -/
def Dev.negoIn (d : Dev) (l : Nat) : Bool × Dev := d.arrived l (d.link l).cleanFec

/-- OFFER (R355). -/
def Dev.offer (d : Dev) (l : Nat) (n : Nego) : Dev :=
  if d.get (K.LNK_STATE l) ≠ 2 then d
  else
    let (lost, d) := d.negoIn l
    let r := d.offerFault l n
    if lost then d
    else if r ≠ 0 then d.sendRefuse l r
    else
      let v := min n.verMax (d.get K.LINK_VER_MAX)
      let k := d.link l
      (d.setLink l { k with chosen := v, sentAcc := true, offered := some n }).sendNego l 2 0 v

/-- ACCEPT (R355, R356): with the same version chosen the link is UP; the first host adapter's ASSIGN gives the number. -/
def Dev.accept (d : Dev) (l : Nat) (n : Nego) : Dev :=
  if d.get (K.LNK_STATE l) ≠ 2 then d else
  let (lost, d) := d.negoIn l
  let k := d.link l
  if lost || k.offered.isNone || n.chosen ≠ k.chosen then d
  else if d.assignClash n then d.sendRefuse l 2
  else
    let d := d.setLink l { k with gotAcc := true, offered := some n }
    let d := if n.role = 2 && n.assign ≠ 0xFFFF && !d.flag K.NUM_ASSIGNED && d.get K.CFG_NUMBER = 0xFFFF &&
        !d.recovery then
        (d.put K.DEVICE_NUMBER (n.assign % 4096)).put K.NUM_ASSIGNED 1 else d
    let peer := if bit n.number 15 then 0xFFFF else n.number % 4096 + (if n.role = 2 then 0x8000 else 0)
    (((d.put (K.LNK_VERSION l) n.chosen).put (K.LNK_PEER l) peer).put (K.LNK_PEER_GEN l) n.generation).linkUp l n

/-- REFUSE (R355). -/
def Dev.refuse (d : Dev) (l : Nat) (n : Nego) : Dev :=
  if d.get (K.LNK_STATE l) ≠ 2 then d else
  let (lost, d) := d.negoIn l
  if lost then d else d.refused l n.reason

/-- OFFER_SEND (R355): once per µs, which is 62.5 ticks, OFFER, or ACCEPT once the peer's OFFER was accepted. -/
def Dev.offerSend (d : Dev) (l : Nat) : Dev :=
  if d.get (K.LNK_STATE l) ≠ 2 || ((d.link l).offerAt ≠ 0 && 2 * d.now < 2 * ((d.link l).offerAt - 1) + 125) then d
  else
    let k := d.link l
    if k.sentAcc then d.sendNego l 2 0 k.chosen else d.sendNego l 1 0 0

/-- ROUTE_RETURN (R367). -/
def Dev.routeReturn (d : Dev) (l : Nat) : Dev :=
  let k := d.link l
  if d.get (K.LNK_STATE l) ≠ 3 || !k.away || d.now < k.upAt + 62500 then d
  else (d.setLink l { k with away := false }).linkRecord l 4 0 0

/-- LNK_ENABLE (R370): FALSE takes the link down at once; TRUE lets it train. -/
def Dev.linkEnable (d : Dev) (l : Nat) (on : Bool) : Dev :=
  let d := d.put (K.LNK_ENABLE l) (ofBool on)
  if on then (if d.get (K.LNK_STATE l) = 6 then d.put (K.LNK_STATE l) 0 else d) else d.linkStop l 6

/-! ## Standby (R361) -/

/-- A link of the time path never sleeps. -/
def Dev.timePath (d : Dev) (l : Nat) : Bool := d.get K.FT_UPSTREAM == l || bit (d.get K.FT_DOWNSTREAM) l

/-- The port's domain leaves RUN and IDLE. -/
def Dev.portSleeps (d : Dev) (l : Nat) : Bool :=
  1 < d.get (K.DOM_STATE (portDom l)) || 2 < Map.get d.pwr.entering 0 (portDom l) || 1 < d.domDepth (portDom l)

/-- STANDBY_START (R361). -/
def Dev.standbyStart (d : Dev) (l : Nat) : Dev :=
  let k := d.link l
  if d.get (K.LNK_STATE l) ≠ 3 || d.timePath l || !d.portSleeps l || !k.buf.isEmpty || k.queued || 2 ≤ k.standby ||
     (k.sbTick ≠ 0 && d.now < k.sbTick - 1 + 62500) then d
  else d.setLink l { k with ctl := k.ctl ++ [1], standby := 1, sbTick := d.now + 1 }

/-- STANDBY_REQ received (R361): ACK once the own flits are acknowledged, NAK with messages queued or the domain in RUN. -/
def Dev.standbyReq (d : Dev) (l : Nat) (f : Flit) : Dev :=
  if d.get (K.LNK_STATE l) ≠ 3 then d
  else match d.controlIn l f with
  | (false, d) => d
  | (true, d) =>
    let k := d.link l
    if k.queued || d.timePath l || d.get (K.DOM_STATE (portDom l)) = 0 then d.setLink l { k with ctl := k.ctl ++ [3] }
    else if k.buf.isEmpty then d.setLink l { k with ctl := k.ctl ++ [2], standby := 2, sbSlots := 16 }
    else d.setLink l { k with standby := 4 }

/-- STANDBY_ACK received: sixteen NULL slots, then the lanes are idle. -/
def Dev.standbyAck (d : Dev) (l : Nat) (f : Flit) : Dev :=
  if d.get (K.LNK_STATE l) ≠ 3 then d
  else match d.controlIn l f with
  | (false, d) => d
  | (true, d) =>
    let k := d.link l
    if k.standby = 1 && d.now ≤ k.sbTick - 1 + 125 && !k.queued then d.setLink l { k with standby := 2, sbSlots := 16 } else d

/-- STANDBY_NAK received: the link stays UP. -/
def Dev.standbyNak (d : Dev) (l : Nat) (f : Flit) : Dev :=
  if d.get (K.LNK_STATE l) ≠ 3 then d
  else match d.controlIn l f with
  | (false, d) => d
  | (true, d) => if (d.link l).standby = 1 then d.setLink l { d.link l with standby := 0 } else d

end Sys2Proof.Machine
end

