-- ==== Sys2Proof/Machine/Time.lean ====
section
/-! DEFINITION. Fabric time: the counter, the time state, time marks, the pulse input (R74 to R83, R357 to R360). -/
namespace Sys2Proof.Machine

/-- FT_OFFSET as a signed number. -/
def Dev.ftOffset (d : Dev) : Int := toSigned 32 (d.get K.FT_OFFSET)

/-- The device is a root: roles 0x01 and 0x02 (R78). -/
def Dev.isRoot (d : Dev) : Bool := d.get K.FT_ROLE == 1 || d.get K.FT_ROLE == 2

/-- Some schedule is armed: SCHED_STATE 0x02 or above. -/
def Dev.anyArmed (d : Dev) : Bool := (List.range 16).any (fun p => decide (2 ≤ d.get (K.SCHED_STATE p)))

/-- A record of the fabric-time unit (R483). -/
def Dev.ftRecord (d : Dev) (event cause aux : Nat) : Dev :=
  d.file { cls := 8, syndrome := syn8 event cause, aux := aux, unit := 0x7002, index := 0, opcode := 0xFF, status := 0, part := 0xFF }

/-- The time state changes (R79, R83): each transition but that to LOCKED has its record; leaving LOCKED fails the attempts
in progress. -/
def Dev.setFt (d : Dev) (st : Nat) : Dev :=
  let old := d.get K.FT_STATE
  if old = st then d
  else
    let d := d.put K.FT_STATE st
    let d := { d with ft := { d.ft with good := 0, stepped := d.ft.stepped && st == 1,
                                        since := if st = 3 then d.now else d.ft.since } }
    if st = 2 then d.put K.FT_LOCK_TICK d.now
    else
      let d := if old = 2 || st = 4 then d.markUnlocked (st == 4) else d
      d.ftRecord 4 st (d.get K.FT_OFFSET)

/-- A step of the counter is permitted (R75). -/
def Dev.mayStep (d : Dev) : Bool :=
  (d.get K.FT_STATE == 0 || d.get K.FT_STATE == 1 || d.get K.FT_STATE == 4) && !d.anyArmed

/-- Steps the counter. -/
def Dev.stepTo (d : Dev) (v : Nat) : Dev := { d with now := v % 2 ^ 64 }

/-- Takes an estimate of FT_OFFSET; in ACQUIRING the counter steps to it once (R81). -/
def Dev.takeOffset (d : Dev) (est : Int) : Dev :=
  let n := (est + 128) / 256
  if d.get K.FT_STATE = 1 && !d.ft.stepped && d.mayStep && n ≤ d.now then
    let d := d.stepTo ((d.now : Int) - n).toNat
    ({ d with ft := { d.ft with stepped := true } } : Dev).put K.FT_OFFSET (ofSigned 32 (est - 256 * n))
  else d.put K.FT_OFFSET (ofSigned 32 est)

/-- What the offset does to the time state of a follower (R79, R360): ACQUIRING locks after 16 marks within 64 and a DEPTH
below 15, HOLDOVER within 512, LOCKED is lost beyond 512. -/
def Dev.judge (d : Dev) (depth : Nat) : Dev :=
  let o := d.ftOffset.natAbs
  match d.get K.FT_STATE with
  | 1 =>
    let g := if o ≤ 64 then d.ft.good + 1 else 0
    let d := { d with ft := { d.ft with good := g } }
    if 16 ≤ g && depth < 15 then d.setFt 2 else d
  | 2 => if 512 < o then d.setFt 4 else d
  | 3 => if o ≤ 512 then d.setFt 2 else d
  | _ => d

/-- A follower's slewing (R81), once a tick in ACQUIRING, LOCKED and HOLDOVER: at 50 ppm the offset moves by 1/256 tick in 78.125
ticks, so by at most that much in 79; whether it does is a free value, as the rule bounds the rate from above alone (log entry 127).
The counter still gains one in each tick (R75): its tick is what slewing stretches. -/
def Dev.slewTick (d : Dev) : Dev :=
  let o := d.ftOffset
  if d.get K.FT_ROLE ≠ 0 || d.get K.FT_STATE = 0 || d.get K.FT_STATE = 4 || o = 0 then d
  else if d.ft.slew < 78 then { d with ft := { d.ft with slew := d.ft.slew + 1 } }
  else
    let (v, d) := d.draw 1
    let d : Dev := { d with ft := { d.ft with slew := 0 } }
    if v % 2 = 0 then d else d.put K.FT_OFFSET (ofSigned 32 (if 0 < o then o - 1 else o + 1))

/-- A mark from the upstream (R79, R81, R358 to R360). One of DEPTH 15 or more is recorded, the first of a run of them; a device that
has locked does not follow it (log entry 127). -/
def Dev.follow (d : Dev) (l : Nat) (m : Mark) (est : Option Int) : Dev :=
  let deep := decide (15 ≤ m.depth)
  let d := if deep && !d.ft.deep then d.linkRecord l 6 0 0 else d
  let d : Dev := { d with ft := { d.ft with deep := deep } }
  if deep && (d.get K.FT_STATE = 2 || d.get K.FT_STATE = 3) then d
  else
    let d : Dev := { d with ft := { d.ft with mark := d.now } }
    let d := if d.get K.FT_STATE = 0 || d.get K.FT_STATE = 4 then d.setFt 1 else d
    let d := d.put K.FT_DEPTH (min (m.depth + 1) 255)
    match est with
    | some e => (d.takeOffset e).judge m.depth
    | none => d

/-- TIMEMARK (R342, R357 to R360). -/
def Dev.timemark (d : Dev) (l : Nat) (f : Flit) (m : Mark) : Dev :=
  if d.get (K.LNK_STATE l) ≠ 3 then d
  else match d.controlIn l f with
  | (false, d) => d
  | (true, d) =>
    if !m.reservedZero then d
    else
      let d := d.setLink l { d.link l with markRx := some (m.tx, m.rx) }
      let rtt : Int := ((m.rx : Int) - m.echo) - m.echoHold
      let oneWay : Int := rtt / 2 + toSigned 16 (d.get (K.LNK_ASYM l))
      let est : Option Int := if m.echoValid then some (m.offset + ((m.rx : Int) - (m.tx + oneWay))) else none
      let d := if m.echoValid then d.put (K.LNK_DELAY l) (min oneWay.toNat (2 ^ 32 - 1)) else d
      if d.get K.FT_ROLE = 0 && d.get K.FT_UPSTREAM = l && m.source then d.follow l m est else d

/-- TIMEMARK_SEND (R357, R358): every 64 ticks. -/
def Dev.timemarkSend (d : Dev) (l : Nat) : Dev :=
  let k := d.link l
  if d.get (K.LNK_STATE l) ≠ 3 || d.now < k.markDue then d
  else
    let m : Mark :=
      { tx := 256 * d.now, depth := d.get K.FT_DEPTH,
        source := bit (d.get K.FT_DOWNSTREAM) l && (d.get K.FT_STATE == 2 || d.get K.FT_STATE == 3), echoValid := k.markRx.isSome,
        offset := d.ftOffset, echo := (match k.markRx with | some (t, _) => t | none => 0), echoHold := 0, rx := 0,
        reservedZero := true }
    d.setLink l { k with markOut := some m, markDue := d.now + 64 }

/-- MARK_TIMEOUT (R79, R358). -/
def Dev.markTimeout (d : Dev) : Dev :=
  if d.get K.FT_ROLE = 0 && d.get K.FT_STATE = 2 && d.ft.mark + 192 ≤ d.now then d.setFt 3 else d

/-- FTREF_LOSS (R79). -/
def Dev.ftrefLoss (d : Dev) : Dev := if d.isRoot && d.get K.FT_STATE = 2 then d.setFt 3 else d

/-- REFERENCE_LOCK (R79): the root's offset is 0 and its depth 0. -/
def Dev.referenceLock (d : Dev) : Dev :=
  if !d.isRoot then d
  else
    let d := (d.put K.FT_OFFSET 0).put K.FT_DEPTH 0
    match d.get K.FT_STATE with
    | 4 => d.setFt 1
    | _ => d.setFt 2

/-- HOLDOVER_EXPIRE (R79). -/
def Dev.holdoverExpire (d : Dev) : Dev :=
  if d.get K.FT_STATE = 3 && d.ft.since + d.get K.FT_HOLDOVER_LIMIT ≤ d.now then d.setFt 4 else d

/-- The counter's distance to the nearest multiple of 62,500,000 ticks, in 1/256 tick; `phase` is the part below a tick
(R78). -/
def Dev.ppsError (d : Dev) (phase : Int) : Int :=
  let r := d.now % 62500000
  256 * (if r < 31250000 then (r : Int) else (r : Int) - 62500000) + phase

/-- FTPPS_EDGE (R78, R80): the phase is recorded, modulo 2^32 where it exceeds an I32 (log entry 118); a value written to FT_SET is
loaded. -/
def Dev.ftppsEdge (d : Dev) (phase : Int) : Dev :=
  if d.get K.FT_ROLE ≠ 1 then d
  else
    let e := d.ppsError phase
    let d := d.put K.FT_PPS_ERROR (ofSigned 32 e)
    let d := if 256 < e.natAbs then d.ftRecord 5 0 (ofSigned 32 e) else d
    match d.ft.pend with
    | some v => if d.mayStep then ({ d with ft := { d.ft with pend := none } } : Dev).stepTo v else d
    | none => d

/-- The effect of a write to FT_SET (R75, R78): at the next FTPPS edge for role 0x01, at once otherwise. -/
def Dev.ftLoad (d : Dev) (v : Nat) : Dev :=
  if d.get K.FT_ROLE = 1 then { d with ft := { d.ft with pend := some v } } else d.stepTo v

end Sys2Proof.Machine
end

