-- ==== Sys2Proof/Machine/Power.lean ====
section
/-! DEFINITION. Power states, operating points, limits, the ledger (R428, R433 to R465). -/
namespace Sys2Proof.Machine

/-- Changes the power manager. -/
def Dev.setPwr (d : Dev) (x : Pwr) : Dev := { d with pwr := x }

/-- Files a power record (R460). -/
def Dev.pwrRecord (d : Dev) (kind quad detail value : Nat) : Dev :=
  d.file { cls := 6, syndrome := kind * 2 ^ 28 + quad % 16 * 2 ^ 24 + detail % 256 * 2 ^ 16 + value % 2 ^ 16, aux := 0, unit := 0x7001,
           index := 0, opcode := 0xFF, status := 0, part := 0xFF }

/-! ## Entry (R438 to R441) -/

/-- No engine of a core holds an issued command that has not completed (R438). -/
def Dev.coreQuiet (d : Dev) (c : Nat) : Bool :=
  [1, 2, 3, 4].all (fun k => (d.ctx (eng k c)).busy.isEmpty) && (d.core c).passes.isEmpty && (d.swOf c).isNone

/-- Begins entry to a state. -/
def Dev.beginEntry (d : Dev) (x st : Nat) : Dev := d.setPwr { d.pwr with entering := Map.set d.pwr.entering 0 x (st + 1) }

/-- PWR_WAIT 0x01 (R438): with DOM_DEPTH at RUN the wait completes at once. -/
def Dev.pwrWaitSet (d : Dev) (c : Nat) : Dev :=
  if d.domDepth c = 0 || d.get (K.PWR_WAIT c) = 2 then d else d.put (K.PWR_WAIT c) 1

/-- PWR_WAIT 0x00 (R438, R442): a pending wait ends; an entry is to be abandoned. -/
def Dev.pwrWaitCancel (d : Dev) (c : Nat) : Dev :=
  if d.get (K.PWR_WAIT c) = 2 then d.wakeDom c else d.put (K.PWR_WAIT c) 0

/-- CORE_POWER_ENTRY (R438). -/
def Dev.corePowerEntry (d : Dev) (c : Nat) : Dev :=
  let st := d.domDepth c
  if d.get (K.PWR_WAIT c) ≠ 1 || st ≤ d.get (K.DOM_STATE c) || !d.coreQuiet c || Map.get d.pwr.waking 0 c ≠ 0 then d
  else (d.beginEntry c st).put (K.PWR_WAIT c) 2

/-- DOMAIN_POWER_ENTRY (R439): memory, port and device domains need no wait. The device enters OFF only. -/
def Dev.domainPowerEntry (d : Dev) (x : Nat) : Dev :=
  let st := d.domDepth x
  if x < 64 || 76 < x || st ≤ d.domState x || (x = 76 && st ≠ 4) || Map.get d.pwr.entering 0 x ≠ 0 || Map.get d.pwr.waking 0 x ≠ 0
  then d else d.beginEntry x st

/-- Abort points of an entry, by kind of domain and state (R440). -/
def abortPoints (x st : Nat) : Nat :=
  if x < 64 then (match st with | 1 => 1 | 2 => 2 | _ => 3)
  else if x < 68 then (match st with | 1 => 1 | 2 => 1 | _ => 2)
  else if x < 76 then (match st with | 1 => 1 | 2 => 1 | _ => 2)
  else 4

/-- What a stage cache has written back where its entry to DEEP is abandoned after step 2 began: some multiple of 4,096 of its
dirty lines, a free value, are clean and stay valid (R440, R441; which lines come first is log entry 100). -/
def Dev.partFlush (d : Dev) (q : Nat) : Dev :=
  let ks := (d.mem.tags.filter (fun (e : Nat × CLine) => e.1 / 2 ^ 20 == q && e.2.dirty)).map Prod.fst
  let (r, d) := d.draw 32
  let ks := ks.take (4096 * (r % (ks.length / 4096 + 1)))
  if ks.isEmpty then d
  else
    ({ d with mem := { d.mem with tags := d.mem.tags.map (fun (e : Nat × CLine) =>
        if ks.contains e.1 then (e.1, { e.2 with dirty := false }) else e) } } : Dev).cnt (K.SC_WRITEBACKS q) ks.length

/-- POWER_ENTRY_ABANDON (R441): a wake event has come during entry. Which abort point came next is a free value among
those of the state (log entry 42); run-ahead is empty where step 1 of SLEEP or deeper was done. -/
def Dev.powerEntryAbandon (d : Dev) (x : Nat) : Dev :=
  let st := Map.get d.pwr.entering 0 x - 1
  if Map.get d.pwr.entering 0 x = 0 || !(d.pwr.wakeReq.contains x || d.domDepth x < st) then d
  else
    let (r, d) := d.draw 8
    let k := 1 + r % abortPoints x st
    let d := d.setPwr { d.pwr with entering := Map.set d.pwr.entering 0 x 0, wakeReq := d.pwr.wakeReq.erase x }
    if x < 64 then
      let d := Dev.bump 32 ((d.put (K.PWR_LAST x) (0x10 + k)).put (K.PWR_WAIT x) 0) (K.PWR_ABANDONED x) 1
      if 2 ≤ st && 2 ≤ k then d.raEmpty x else d
    else if x < 68 && 3 ≤ st && 2 ≤ k then d.partFlush (x - 64)
    else d

/-! ## What a state loses (R243, R282, R285, R434) -/

/-- The retention list as line-row keys (memory times 256 plus line-row), each once (R247). -/
def Dev.retained (d : Dev) (c : Nat) : List Nat :=
  (((List.range 16).map (fun i => d.get (K.RET_ROW c i))).filter (· != 0xFFFF)).map (fun v => v / 4096 * 256 + v % 128) |>.eraseDups

/-- What a core keeps through DEEP: the listed line-rows with their check bits, poison and resident bits and the expected
checksums of their granules. -/
def Core.keep (k : Core) (rows : List Nat) : Core :=
  { Core.init with
    sp := k.sp.filter (fun e => rows.contains (e.1 / 0x100000 * 256 + e.1 % 0x100000 / 4096)),
    poison := k.poison.filter (fun e => rows.contains (e.1 / 512)),
    flaw := k.flaw.filter (fun e => rows.contains (e.1 / 512)),
    crcOff := k.crcOff.filter (fun e => rows.contains (e.1 / 2)),
    resident := k.resident.filter (fun e => rows.contains (e.1 / 256 * 256 + e.1 % 256 / 2)) }

/-- A quadrant's stage cache writes back its dirty lines and is empty. -/
def Dev.cacheFlush (d : Dev) (q : Nat) : Dev :=
  let here (e : Nat × CLine) : Bool := e.1 / 2 ^ 20 == q
  let n := d.mem.tags.countP (fun e => here e && e.2.dirty)
  let d := { d with mem := { d.mem with tags := d.mem.tags.filter (fun e => !here e),
                                        plru := d.mem.plru.filter (fun e => e.1 / 2 ^ 15 != q) } }
  if n = 0 then d else d.cnt (K.SC_WRITEBACKS q) n

/-- A quadrant's accumulation area is lost. -/
def Dev.accLose (d : Dev) (q : Nat) : Dev :=
  { d with mem := { d.mem with acc := Map.delRange d.mem.acc (q * 0x800000) ((q + 1) * 0x800000),
                               accBad := Map.delRange d.mem.accBad (q * 65536) ((q + 1) * 65536) } }

/-- The stacks of a quadrant take a state. -/
def Dev.stackState (d : Dev) (q v : Nat) : Dev := (List.range 5).foldl (fun d i => d.put (K.HBM_STATE (5 * q + i)) v) d

/-- A core's state is reached. -/
def Dev.coreEntered (d : Dev) (c st : Nat) : Dev :=
  match st with
  | 1 => d
  | 2 => let d := d.raEmpty c; d.setCore c { d.core c with scrubLine := [], scrubAt := [] }
  | 3 => let d := d.raEmpty c; d.setCore c ((d.core c).keep (d.retained c))
  | _ => d.setCore c Core.init

/-- A memory domain's state is reached. -/
def Dev.memEntered (d : Dev) (q st : Nat) : Dev :=
  if st < 3 then d
  else
    let d := ((d.cacheFlush q).accLose q).stackState q (if st = 3 then 2 else 0)
    if st = 3 then d
    else
      let lo := 80 * q * chBytes
      let hi := 80 * (q + 1) * chBytes
      { d with mem := { d.mem with cells := Map.delRange d.mem.cells lo hi, raw := Map.delRange d.mem.raw lo hi,
                                   poison := Map.delRange d.mem.poison (lo / 128) (hi / 128),
                                   flaw := Map.delRange d.mem.flaw (lo / 128) (hi / 128),
                                   once := Map.delRange d.mem.once (lo / 128) (hi / 128) } }

/-- A port's state is reached: in DEEP and OFF its links are DOWN. -/
def Dev.portEntered (d : Dev) (n st : Nat) : Dev :=
  if st < 3 then d else (List.range 8).foldl (fun d i => d.linkStop (8 * n + i) 0) d

/-- The device is OFF: every domain is, and has lost what it held (R434, R440). -/
def Dev.deviceOff (d : Dev) : Dev :=
  let d := d.subDomains.foldl (fun d y => d.put (K.DOM_STATE y) 4) d
  let d := (List.range 64).foldl (fun d l => d.put (K.LNK_STATE l) 0) d
  { (List.range 4).foldl (fun d q => d.memEntered q 4) d with cores := [], links := [] }

/-- A port's links are all out of use, as SLEEP and deeper need (R440). -/
def Dev.portIdle (d : Dev) (n : Nat) : Bool :=
  (List.range 8).all (fun i => let s := d.get (K.LNK_STATE (8 * n + i)); decide (s = 0 ∨ 4 ≤ s) || d.timePath (8 * n + i))

/-- POWER_ENTRY_COMPLETE (R440): the domain takes the state. A wake event that came after the last abort point starts its
return. -/
def Dev.powerEntryComplete (d : Dev) (x : Nat) : Dev :=
  let e := Map.get d.pwr.entering 0 x
  let st := e - 1
  if e = 0 || (68 ≤ x && x < 76 && 2 ≤ st && !d.portIdle (x - 68)) then d
  else
    let late := d.pwr.wakeReq.contains x
    let d := d.setPwr { d.pwr with entering := Map.set d.pwr.entering 0 x 0, wakeReq := d.pwr.wakeReq.erase x }
    let d := (d.put (K.DOM_STATE x) st).cnt (K.DOM_ENTRIES x) 1
    let d := if x < 64 then ((d.coreEntered x st).put (K.PWR_LAST x) 1).put (K.PWR_WAIT x) 0
      else if x < 68 then d.memEntered (x - 64) st
      else if x < 76 then d.portEntered (x - 68) st
      else d.deviceOff
    if late && x ≠ 76 then d.wakeDom x else d

/-! ## Return (R442 to R444) -/

/-- DOMAIN_WAKE (R437, R442): DOM_DEPTH is shallower than the state, or than the state being entered. Device OFF has
WAKE_N alone. -/
def Dev.domainWake (d : Dev) (x : Nat) : Dev :=
  let e := Map.get d.pwr.entering 0 x
  let st := if e = 0 then d.get (K.DOM_STATE x) else e - 1
  if 76 ≤ x || d.get (K.DOM_STATE 76) = 4 || st ≤ d.domDepth x then d else d.wakeDom x

/-- LANE_WAKE (R362, R442): activity on a lane for 100 ns, where its detector is powered. -/
def Dev.laneWake (d : Dev) (l : Nat) : Dev :=
  if d.get (K.DOM_STATE (portDom l)) = 4 || d.get (K.DOM_STATE 76) = 4 then d else d.wakeDom (portDom l)

/-- A scratchpad word is found uncorrectable by a reader that is no command (R239): it is poisoned and has its record of
kind 2, or 5 on the return from DEEP. Its ECC syndrome is that of a poisoned word, or a free value (log entry 2). -/
def Dev.spUncorrectable (d : Dev) (c mem word kind : Nat) : Dev :=
  let k := d.core c
  let key := mem * 0x20000 + word
  let known := Map.get k.poison false key
  let d := d.setCore c { k with poison := Map.set k.poison false key true, flaw := Map.set k.flaw .clean key .clean }
  let d := if kind = 5 then d.cnt (K.SP_UNCORR c) 1 else d
  let (ecc, d) := if known then (3, d) else d.draw 8
  d.spRecordEcc c mem kind word 0 0 0xFF ecc

/-- An error comes into a word, or into the contents of a WM granule (R238 to R240): what a read of it then meets. -/
def Dev.upset (d : Dev) (c mem word : Nat) (found : Finding) : Dev :=
  let k := d.core c
  match found with
  | .corrected => d.setCore c { k with flaw := Map.set k.flaw .clean (mem * 0x20000 + word) .corrected }
  | .uncorrectable => d.setCore c { k with flaw := Map.set k.flaw .clean (mem * 0x20000 + word) .uncorrectable }
  | .checksum => if mem = 0 then d.corrupt c (word / 256) else d
  | _ => d

/-- A reader that is no command reads a whole line-row (memory times 256 plus row): each word that it can correct is corrected,
each that it cannot read is poisoned and recorded under the kind (R238, R239, R244). -/
def Dev.readRow (d : Dev) (c row kind : Nat) : Dev :=
  let k := d.core c
  let keys := (k.flaw.map Prod.fst ++ k.poison.map Prod.fst).eraseDups.filter (fun x => x / 512 == row)
  keys.foldl (fun d x =>
    if k.fixes x then d.spCorrected c (x / 0x20000) (x % 0x20000)
    else if k.badWord x then d.spUncorrectable c (x / 0x20000) (x % 0x20000) kind else d) d

/-- A granule's checksum does not match (R242, R244): its resident bit is cleared; kind 4, or 5 on the return from DEEP. -/
def Dev.spMismatch (d : Dev) (c gran kind : Nat) : Dev :=
  let k := d.core c
  let d := Dev.bump 32 (d.setCore c { k with resident := Map.set k.resident false gran false }) (K.WM_CRC_FAIL c) 1
  d.spRecord c 0 kind (gran * 256) 0 0 0xFF

/-- A granule is verified where it is resident and no pass reserves it (R240, R242, R244). -/
def Dev.verify (d : Dev) (c gran kind : Nat) : Dev :=
  let k := d.core c
  if Map.get k.resident false gran && !k.reserved.contains gran && k.mismatch gran then d.spMismatch c gran kind else d

/-- A core returns (R244, R443): unlisted line-rows are zeroised, listed ones read and their resident WM granules verified;
scrubbing starts again from line 0 (R242). `found` lists the errors that have come in: (word key, 1 corrected, 2 uncorrectable)
or (granule, 3 checksum). -/
def Dev.coreReturned (d : Dev) (c st : Nat) (found : List (Nat × Nat)) : Dev :=
  if st < 3 then d
  else
    let rows := if st = 3 then d.retained c else []
    let d := (d.setCore c ((d.core c).keep rows)).cnt (K.ZEROISE_COUNT c) 1
    let d := found.foldl (fun d f =>
      match f.2 with
      | 1 => if rows.contains (f.1 / 512) then d.upset c (f.1 / 0x20000) (f.1 % 0x20000) .corrected else d
      | 2 => if rows.contains (f.1 / 512) then d.upset c (f.1 / 0x20000) (f.1 % 0x20000) .uncorrectable else d
      | 3 => if rows.contains (f.1 / 2) then d.corrupt c f.1 else d
      | _ => d) d
    let d := rows.foldl (fun d r => d.readRow c r 5) d
    (rows.filter (· < 96)).foldl (fun d r => (d.verify c (2 * r) 5).verify c (2 * r + 1) 5) d

/-- A port returns: links in STANDBY are UP again with sequence numbers and credits restarted (R362). -/
def Dev.portReturned (d : Dev) (n : Nat) : Dev :=
  (List.range 8).foldl (fun d i => if d.get (K.LNK_STATE (8 * n + i)) = 4 then d.linkTrain (8 * n + i) else d) d

/-- DOMAIN_RETURN_DONE (R443): the domain serves again. -/
def Dev.domainReturnDone (d : Dev) (x : Nat) (found : List (Nat × Nat)) : Dev :=
  let t := Map.get d.pwr.waking 0 x
  if t = 0 || d.now < t || 76 ≤ x then d
  else
    let st := d.get (K.DOM_STATE x)
    let d := (d.setPwr { d.pwr with waking := Map.set d.pwr.waking 0 x 0 }).put (K.DOM_STATE x) 0
    if x < 64 then d.coreReturned x st found
    else if x < 68 then (if 3 ≤ st then (d.accLose (x - 64)).stackState (x - 64) 1 else d)
    else d.portReturned (x - 68)

/-! ## Operating points (R445 to R450, R454, R457) -/

/-- A partition's schedule runs. -/
def Dev.runs (d : Dev) (p : Nat) : Bool := p < 16 && d.get (K.SCHED_STATE p) == 3

/-- The highest PACE_MHZ among the schedules in some states that have a resident slot in a quadrant. -/
def Dev.paceOf (d : Dev) (q : Nat) (states : List Nat) : Nat :=
  ((List.range 16).map (fun i =>
    let p := d.get (K.CORE_OWNER (16 * q + i))
    if p < 16 && states.contains (d.get (K.SCHED_STATE p)) then d.get (K.PACE_MHZ p) else 0)).foldl max 0

/-- FLOOR_MHZ of a quadrant (R445). A schedule counts from its load, so that the ramp is over by its BASE_EPOCH (R446, log entry
128). -/
def Dev.floorMHz (d : Dev) (q : Nat) : Nat := max 470 (d.paceOf q [2, 3])

/-- A quadrant's clock lies below the pace of a schedule that runs on it (R93). -/
def Dev.belowPace (d : Dev) (q : Nat) : Bool := d.get (K.FREQ_MHZ q) < d.paceOf q [3]

/-- An interval below pace is a fault and has its record as it begins (R93, R460). -/
def Dev.paceTick (d : Dev) : Dev :=
  let now := (List.range 4).filter d.belowPace
  if now = d.pwr.below then d
  else
    let d := (now.filter (fun q => !d.pwr.below.contains q)).foldl (fun d q => d.pwrRecord 4 q 0 (d.get (K.FREQ_MHZ q))) d
    d.setPwr { d.pwr with below := now }

/-- The activity of a core, in thousandths (R449, R475). -/
def Dev.activity (d : Dev) (c : Nat) : Nat :=
  let p := d.get (K.CORE_OWNER c)
  if d.scanning c then 1000
  else if d.runs p then let s := d.sched p; ((s.segs[s.seg]?).map Seg.act).getD 0 else 0

/-- A quadrant at an operating point. -/
def Dev.quadLoad (d : Dev) (q op : Nat) : QuadLoad :=
  let cs := (List.range 16).map (16 * q + ·)
  { n := cs.countP d.coreUsable, act := (cs.map (fun c => if d.coreUsable c then d.activity c else 0)).sum, op := op }

/-- The lowest operating point at or above a clock. -/
def opAtLeast (mhz : Nat) : Nat := ((List.range 8).find? (fun op => mhz ≤ opMHz op)).getD 7

/-- The floor point of a quadrant, within OP_MAX. -/
def Dev.floorOp (d : Dev) (q : Nat) : Nat := min (opAtLeast (d.floorMHz q)) (d.get (K.OP_MAX q))

/-- The highest point that an OP_HOLD stain asks of a quadrant (R73, R454). -/
def Dev.opHold (d : Dev) (q : Nat) : Nat :=
  ((List.range 16).map (fun s =>
    let p := d.get (K.STAIN_PARTITION s)
    if d.stainActs s 7 && (List.range 16).any (fun i => d.get (K.CORE_OWNER (16 * q + i)) == p) then d.get (K.STAIN_AMOUNT s) else 0)).foldl max 0

/-- A projection stays within GUARD_PCT of the cap: by the model, or in measured-only mode by scaling the last measured
window (R454, R456). -/
def Dev.capOk (d : Dev) (ops : List Nat) : Bool :=
  let qs := ops.zipIdx.map (fun x => d.quadLoad x.2 x.1)
  let g := d.get K.GUARD_PCT
  if d.get K.CTRL_MODE = 0 then within qs g d.pwr.capNow
  else d.get K.POWER_1MS * projWatts qs * 100 ≤ g * d.pwr.capNow * max 1 d.pwr.proj

/-- V_SET_MV of a quadrant at a point (R446). -/
def Dev.voltage (d : Dev) (q op : Nat) : Nat :=
  ((opMv op : Int) + toSigned 32 (d.get (K.V_FAC_MV q)) + d.get (K.TRIM_MV q) + 20 * d.get (K.DROOP_GUARD q)).toNat

/-- FREQ_MHZ at the point in force, after any droop step (R447). -/
def Dev.setFreq (d : Dev) (q : Nat) : Dev :=
  let f := opMHz (d.get (K.OP_NOW q))
  d.put (K.FREQ_MHZ q) (if d.pwr.droop.contains q then f * 15 / 16 else f)

/-- A droop step would take the clock below the floor (R447). -/
def Dev.stepTooLow (d : Dev) (q : Nat) : Bool := 15 * opMHz (d.get (K.OP_NOW q)) < 16 * d.get (K.FLOOR_MHZ q)

/-- The droop guard is in force whenever a step would take the clock below the floor (R447). -/
def Dev.setGuard (d : Dev) (q : Nat) : Dev :=
  let d := d.put (K.DROOP_GUARD q) (ofBool (d.stepTooLow q))
  let d := if d.flag (K.DROOP_GUARD q) then d.setPwr { d.pwr with droop := d.pwr.droop.erase q } else d
  d.setFreq q

/-- The clock of a point applies (R446). -/
def Dev.applyOp (d : Dev) (q op : Nat) : Dev := ((d.put (K.OP_NOW q) op).cnt (K.OP_CHANGES q) 1).setGuard q

/-- Ticks of a voltage ramp to a point: 5 mV in a microsecond, which is 62.5 ticks (R446). -/
def Dev.rampTicks (d : Dev) (q op : Nat) : Nat :=
  let v := d.voltage q op
  let u := d.get (K.V_SET_MV q)
  ceilDiv (25 * (v - u + (u - v))) 2

/-- The voltage ramps to a point; one that ramps to it already goes on. -/
def Dev.rampTo (d : Dev) (q op : Nat) : Dev :=
  if Map.get d.pwr.ramp 0 q = op + 1 then d
  else d.setPwr { d.pwr with ramp := Map.set d.pwr.ramp 0 q (op + 1), rampAt := Map.set d.pwr.rampAt 0 q (d.now + d.rampTicks q op) }

/-- A quadrant is to run at a point: raising ramps the voltage first, lowering the clock (R446). At the point in force a ramp down to
it goes on, a ramp to another point ends, and without one the voltage follows its offsets. -/
def Dev.goOp (d : Dev) (q op : Nat) : Dev :=
  let now := d.get (K.OP_NOW q)
  if op = now then
    let d := d.setGuard q
    let v := d.voltage q now
    let r := Map.get d.pwr.ramp 0 q
    if r = op + 1 then d
    else if r ≠ 0 || v = d.get (K.V_SET_MV q) then d.setPwr { d.pwr with ramp := Map.set d.pwr.ramp 0 q 0 }
    else d.put (K.V_SET_MV q) v
  else (if op < now then d.applyOp q op else d).rampTo q op

/-- Asks a partition to suspend at its next BOUNDARY (R91, R457). -/
def Dev.askSuspend (d : Dev) (p : Nat) : Dev :=
  let s := d.sched p
  (d.setSched p { s with suspendReq := true }).setPwr { d.pwr with asked := d.pwr.asked ++ [p] }

/-- A cap that cannot be met, or is met again (R457). `floors` is the floor projection. -/
def Dev.capStatus (d : Dev) (ok : Bool) (watts : Nat) : Dev :=
  let still := d.pwr.asked.filter (fun p => d.get (K.SCHED_STATE p) == 4 || (d.sched p).suspendReq)
  let d := d.setPwr { d.pwr with asked := still }
  let st := d.get K.CAP_STATUS
  let running (cls : Nat) : List Nat := (List.range 16).filter (fun p => d.runs p && d.get (K.PART_CLASS p) == cls)
  let fresh (l : List Nat) : List Nat := l.filter (fun p => !still.contains p)
  if ok then (if still.isEmpty then d.put K.CAP_STATUS 0 else if st = 0 then d else d.put K.CAP_STATUS 1)
  else
    let d := d.put K.CAP_FLOOR (min watts 0xFFFF)
    let d := if st < 2 then d.pwrRecord 2 0xF 0 watts else d
    let be := running 1
    let lc := running 0
    let new := if be.isEmpty then (if lc.isEmpty then 4 else 3) else if st = 3 then 3 else 2
    (fresh (if new = 2 then be else be ++ lc)).foldl Dev.askSuspend (d.put K.CAP_STATUS new)

/-- Chooses every quadrant's operating point (R454), and acts on a cap that cannot be met (R457). A floor above OP_MAX is a
fault and has its record (R93, R448), and so has a clock that falls below its floor while the quadrant's regulator is silent
(R522). -/
def Dev.choosePoints (d : Dev) : Dev :=
  let low (x : Dev) (q : Nat) : Bool := x.get (K.FREQ_MHZ q) < x.get (K.FLOOR_MHZ q)
  let was := (List.range 4).filter (low d)
  let d := (List.range 4).foldl (fun d q => d.put (K.FLOOR_MHZ q) (d.floorMHz q)) d
  let floors := (List.range 4).map d.floorOp
  let wish := (List.range 4).map (fun q => min (max (d.floorOp q) (d.opHold q)) (d.get (K.OP_MAX q)))
  let ops := if d.capOk wish then wish else floors
  let ok := d.capOk floors
  let w := projWatts (ops.zipIdx.map (fun x => d.quadLoad x.2 x.1))
  let wf := projWatts (floors.zipIdx.map (fun x => d.quadLoad x.2 x.1))
  let d := ops.zipIdx.foldl (fun d x => d.goOp x.2 x.1) d
  let d := (List.range 4).foldl (fun d q =>
    if opMHz (d.get (K.OP_MAX q)) < d.get (K.FLOOR_MHZ q) || (d.avs.contains q && low d q && !was.contains q) then
      (d.setPwr { d.pwr with below := (List.range 4).filter (fun x => x == q || d.pwr.below.contains x) }).pwrRecord 4 q 0 (d.get (K.FREQ_MHZ q))
    else d) d
  (d.setPwr { d.pwr with proj := w }).capStatus ok wf

/-- After each suspension that it asked for the power manager projects again (R457); `b` is the state before. -/
def Dev.capAgain (b d : Dev) : Dev :=
  if b.pwr.asked.any (fun p => b.get (K.SCHED_STATE p) != 4 && d.get (K.SCHED_STATE p) == 4) then d.choosePoints else d

/-- SEGMENT_BEGIN (R454): a segment begins, or the resident slots of a quadrant have changed. -/
def Dev.segmentBegin (d : Dev) (_p : Nat) : Dev := d.choosePoints

/-- An OP_HOLD stain that begins now moves the points (R73, R454). -/
def Dev.holdStart (d : Dev) : Dev :=
  if (List.range 16).any (fun s => d.stainActs s 7 && d.get (K.STAIN_START_TICK s) == d.now) then d.choosePoints else d

/-- STAIN_STOP (R73): the slot is disarmed; an OP_HOLD that ends lets the points down. -/
def Dev.stainOver (d : Dev) (s : Nat) : Dev :=
  let d' := d.stainStop s
  if d.get (K.STAIN_KIND s) = 7 && d.flag (K.STAIN_ARM s) && !d'.flag (K.STAIN_ARM s) then d'.choosePoints else d'

/-- OP_RAMP_DONE (R446), when the ramp's time has passed: after raising the new clock applies; after lowering the voltage is down. -/
def Dev.opRampDone (d : Dev) (q : Nat) : Dev :=
  let r := Map.get d.pwr.ramp 0 q
  if r = 0 || d.now < Map.get d.pwr.rampAt 0 q then d
  else
    let op := r - 1
    let d := d.setPwr { d.pwr with ramp := Map.set d.pwr.ramp 0 q 0 }
    let d := if d.get (K.OP_NOW q) < op then d.applyOp q op else d
    d.put (K.V_SET_MV q) (d.voltage q op)

/-- DROOP_DETECT (R447): a detector that reads low steps the clock down, or keeps a step: its release is 1 µs away again. -/
def Dev.droopDetect (d : Dev) (q : Nat) : Dev :=
  if d.flag (K.DROOP_GUARD q) || d.stepTooLow q then d
  else
    let at' := Map.set d.pwr.droopAt 0 q (d.now + 63)
    if d.pwr.droop.contains q then d.setPwr { d.pwr with droopAt := at' }
    else ((d.setPwr { d.pwr with droop := d.pwr.droop ++ [q], droopAt := at' }).cnt (K.DROOP_STEPS q) 1).setFreq q

/-- DROOP_RELEASE (R447): no sooner than 1 µs after the last detection. -/
def Dev.droopRelease (d : Dev) (q : Nat) : Dev :=
  if d.now < Map.get d.pwr.droopAt 0 q then d else (d.setPwr { d.pwr with droop := d.pwr.droop.erase q }).setFreq q

/-- SLACK_SHORT (R448): the trim rises by 5 mV, at most once per 100 ms; at +40 mV OP_MAX falls by one. -/
def Dev.slackShort (d : Dev) (q : Nat) : Dev :=
  let t := Map.get d.pwr.trimAt 0 q
  if 40 ≤ d.get (K.TRIM_MV q) then
    let m := d.get (K.OP_MAX q) - 1
    ((d.put (K.OP_MAX q) m).pwrRecord 5 q 0 (opMHz m)).choosePoints
  else if t ≠ 0 && d.now < t - 1 + 6250000 then d
  else
    let d := d.setPwr { d.pwr with trimAt := Map.set d.pwr.trimAt 0 q (d.now + 1) }
    let d := d.put (K.TRIM_MV q) (min 40 (d.get (K.TRIM_MV q) + 5))
    d.put (K.V_SET_MV q) (d.voltage q (d.get (K.OP_NOW q)))

/-! ## The cap and the peak limit (R452, R453) -/

/-- CAP_W (R452): the cap takes effect at the next sub-window boundary. -/
def Dev.capWrite (d : Dev) (w : Nat) : Dev :=
  (d.put K.CAP_W w).setPwr { d.pwr with capNew := some (w, (d.now / 625 + 1) * 625) }

/-- The boundary has come. -/
def Dev.capDue (d : Dev) : Dev :=
  match d.pwr.capNew with
  | some (w, t) =>
    if d.now < t then d
    else ((d.setPwr { d.pwr with capNow := w, capNew := none }).put K.CAP_TICK t).choosePoints
  | none => d

/-- Cores that hold a best-effort slot. -/
def Dev.beMask (d : Dev) : Nat := (List.range 64).foldl (fun m c => if d.heldBE c then withBit m c true else m) 0

/-- PEAK_EVALUATE (R453): `sum` and `without` are the projected energy of 1 ms in mJ, with the gated cores issuing, and with
the array power of the cores that hold BE slots removed. -/
def Dev.peakEvaluate (d : Dev) (sum without : Nat) : Dev :=
  if d.now % 25 ≠ 0 then d
  else
    let lim := d.get K.GUARD_PCT * d.get K.PEAK_W
    let gate := d.get K.GATE
    if lim < 100 * sum then
      let all := decide (lim < 100 * without)
      let mask := if all then d.get K.CORE_PRESENT else d.beMask
      let new := gate ||| mask
      if new = gate then d
      else ((d.put K.GATE new).cnt K.GATE_EVENTS 1).pwrRecord 3 0xF (if all then 2 else 1) sum
    else if 100 * sum < lim then d.put K.GATE 0 else d

/-- CTRL_MODE 0x00 (R456). -/
def Dev.ctrlEstimate (d : Dev) : Dev :=
  if d.get K.CTRL_MODE = 0 then d
  else (((d.put K.CTRL_MODE 0).put K.GUARD_PCT 97).setPwr { d.pwr with agree := 0 }).pwrRecord 6 0xF 0 0

/-! ## The ledger (R455, R456, R458, R459) -/

/-- Adds microjoules to an account: the whole millijoules that are full now, and the state with the fraction carried. -/
def Dev.carryMj (d : Dev) (k uj : Nat) : Nat × Dev :=
  let t := Map.get d.pwr.carry 0 k + uj
  (t / 1000, d.setPwr { d.pwr with carry := Map.set d.pwr.carry 0 k (t % 1000) })

/-- A share of an amount by weights: n/total, rounded down; nothing of nothing. -/
def share (amount n total : Nat) : Nat := if total = 0 then 0 else amount * n / total

/-- Ticks of the window in which a partition was resident on a core. -/
def Dev.resTicks (d : Dev) (c p : Nat) : Nat := Map.get d.pwr.res 0 (32 * c + p)

/-- What a window charges to a partition, in microjoules (R459): core rails by the cores' estimated shares and residence,
memory by channels and HBM bytes, links by ownership and flits. -/
def Dev.windowCharge (d : Dev) (p : Nat) (rails shares : List Nat) : Nat :=
  let cores := (List.range 4).map (fun q =>
    let tot := ((List.range 16).map (fun i => shares.getD (16 * q + i) 0)).sum
    ((List.range 16).map (fun i =>
      let c := 16 * q + i
      share (share (rails.getD q 0) (shares.getD c 0) tot) (d.resTicks c p) 62500)).sum)
  let mem := rails.getD 4 0
  let memFix := min mem 210000
  let chans := (List.range 320).countP (fun k => d.owner k == p)
  let bytes := ((List.range 16).map (fun x => Map.get d.pwr.win 0 (8 * x))).sum
  let link := rails.getD 5 0
  let linkFix := min link 300000
  let owned := (List.range 64).countP (fun l => d.get (K.LNK_OWNER l) == p)
  let flits := ((List.range 16).map (fun x => Map.get d.pwr.win 0 (8 * x + 1))).sum
  cores.sum + share memFix chans 320 + share (mem - memFix) (Map.get d.pwr.win 0 (8 * p)) bytes + share linkFix owned 64 +
    share (link - linkFix) (Map.get d.pwr.win 0 (8 * p + 1)) flits

/-- The agreement of a window's measured and estimated energy (R456). -/
def Dev.compareEnergy (d : Dev) (em ee : Nat) : Dev :=
  let diff := if em < ee then ee - em else em - ee
  let d := if 15 * em < 100 * diff then Dev.bump 16 d K.DISAGREE_RUN 1 else d.put K.DISAGREE_RUN 0
  let d := d.setPwr { d.pwr with agree := if 100 * diff ≤ 5 * em then d.pwr.agree + 1 else 0 }
  if d.get K.CTRL_MODE = 0 then
    if 8 ≤ d.get K.DISAGREE_RUN then
      let d := ((d.put K.CTRL_MODE 1).put K.GUARD_PCT 90).pwrRecord 1 0xF (0x80 + ofBool (decide (ee < em))) (min (em / 1000) 0xFFFF)
      ((List.range 64).filter d.coreUsable).foldl (fun d c => (d.candidate c 0).queueScan c) d
    else d
  else if 1000 ≤ d.pwr.agree then d.ctrlEstimate else d

/-- LEDGER_WINDOW_END (R458, R459): `measured` gives the energy of the seven rail groups in microjoules, `estimate` that of
the device, `shares` the estimated share of each core. -/
def Dev.ledgerWindowEnd (d : Dev) (measured : List Nat) (estimate : Nat) (shares : List Nat) : Dev :=
  if d.now % 62500 ≠ 0 || d.now = 0 || d.get K.WIN_TICK = d.now then d
  else
    let rails := (List.range 7).map (fun i => measured.getD i 0)
    let total := rails.sum
    let charges := (List.range 16).map (fun p => d.windowCharge p rails shares)
    let d := rails.zipIdx.foldl (fun d x => let (n, d) := d.carryMj x.2 x.1; d.cnt (K.RAIL_MJ x.2) n) d
    let d := charges.zipIdx.foldl (fun d x => if x.1 = 0 then d else d.charge x.2 1 x.1) d
    let (n, d) := d.carryMj 200 (total - charges.sum)
    let d := d.cnt K.OVERHEAD_MJ n
    let (n, d) := d.carryMj 201 total
    let d := (d.cnt K.LEDGER_ENERGY_MJ n).put K.WIN_TICK d.now
    let hist := (total :: d.pwr.hist).take 1000
    let d := d.setPwr { d.pwr with hist := hist, win := [], res := [] }
    let d := ((d.put K.WIN_MEAS_MJ (min (total / 1000) (2 ^ 32 - 1))).put K.WIN_EST_MJ (min (estimate / 1000) (2 ^ 32 - 1))).put K.POWER_1MS
      (min (total / 1000) 0xFFFF)
    let d := d.put K.POWER_1S (min (hist.sum / (1000 * hist.length)) 0xFFFF)
    d.compareEnergy total estimate

/-- METER_UPDATE (R428): every partition's record, every 62,500 ticks. -/
def Dev.meterUpdate (d : Dev) : Dev :=
  if d.now % 62500 ≠ 0 then d
  else (List.range 16).foldl (fun d p =>
    let q := d.part p
    let m (i : Nat) : Nat := Map.get q.meters 0 i
    let (mj, d) := d.carryMj (100 + p) (m 1)
    let d := d.setPart p { d.part p with meters := [] }
    ((((((d.put (K.METER_TICK p) d.now).cnt (K.CORE_TICKS p) (m 0)).cnt (K.ENERGY_MJ p) mj).cnt (K.HBM_RD_BYTES p) (m 2)).cnt
      (K.HBM_WR_BYTES p) (m 3)).cnt (K.LINK_TX_BYTES p) (m 4))) d

end Sys2Proof.Machine
end

