-- ==== Sys2Proof/Machine/Upkeep.lean ====
section
/-! DEFINITION. Storage upkeep: scrubbing, refresh, trackers, the ends of creation and release (R238, R239, R242, R274 to
R284, R334, R406, R427). -/
namespace Sys2Proof.Machine

/-! ## Scratchpads -/

/-- Line-rows of a memory (R242). -/
def spRows (mem : Nat) : Nat := spSize mem / 4096

/-- A coverage pass of one memory ends: its corrected words may be corrected once again without a record (R238); with the
last of the four, SCRUB_PASSES counts. The map holds the next line-row under the memory's number, and under 4 the
memories whose pass has ended. -/
def Dev.scrubNext (d : Dev) (c mem : Nat) : Dev :=
  let k := d.core c
  let n := Map.get k.scrubLine 0 mem + 1
  if n < spRows mem then d.setCore c { k with scrubLine := Map.set k.scrubLine 0 mem n }
  else
    let done := withBit (Map.get k.scrubLine 0 4) mem true
    let k := { k with scrubLine := Map.set (Map.set k.scrubLine 0 mem 0) 0 4 (if done = 15 then 0 else done),
                      once := k.once.filter (fun e => e.1 / 0x20000 != mem) }
    let d := d.setCore c k
    if done = 15 then d.cnt (K.SCRUB_PASSES c) 1 else d

/-- Cycles from a scrub read of a bank to its next (R242, R247). -/
def Dev.scrubPace (d : Dev) (c : Nat) : Nat := d.get (K.SCRUB_INTERVAL c)

/-- SCRUB_READ (R238 to R240, R242): the next line-row of a memory, no sooner than SCRUB_INTERVAL cycles after the one before, on
a core that the grade has (R2). `found` tells of an error that has come into the row, in `word` taken modulo 512; every word of
the row is read. After a row of WM both its granules are verified where they are resident and no pass reserves them. -/
def Dev.scrubRead (d : Dev) (c mem word : Nat) (found : Finding) : Dev :=
  let cyc := d.cyclesEnd (quadOf c)
  if 3 < mem || !bit (d.get K.CORE_PRESENT) c || !d.flag (K.SCRUB_ENABLE c) || 2 ≤ d.get (K.DOM_STATE c) || d.zeroising c ||
     cyc < Map.get (d.core c).scrubAt 0 mem then d
  else
    let row := Map.get (d.core c).scrubLine 0 mem
    let d := d.upset c mem (512 * row + word % 512) found
    let d := d.readRow c (256 * mem + row) 2
    let d := if mem = 0 then [2 * row, 2 * row + 1].foldl (fun d g => d.verify c g 4) d else d
    let k := d.core c
    (d.setCore c { k with scrubAt := Map.set k.scrubAt 0 mem (max (Map.get k.scrubAt 0 mem) (d.cycles (quadOf c)) + d.scrubPace c) }).scrubNext c mem

/-! ## HBM and stage cache -/

/-- Lines of a channel. -/
def chLines : Nat := 25165824

/-- PATROL_SCRUB (R277, R278): one line of an owned channel; with no new finding, the error that the line has meets the read. -/
def Dev.patrolScrub (d : Dev) (k line : Nat) (found : Finding) : Dev :=
  let ln := k * chLines + line % chLines
  if 16 ≤ d.owner k then d
  else
    let d := { d with mem := { d.mem with once := Map.set d.mem.once false ln false } }
    match found with
    | .corrected => d.lineCorrected ln 0xFF 0 0xFF
    | .uncorrectable => d.lineLost ln 2 0xFF 0 0xFF
    | .parity => d.lineLost ln 3 0xFF 0 0xFF
    | .onDieUncorrectable => d.lineLost ln 5 0xFF 0 0xFF
    | .onDieCorrected => d.cnt (K.HBM_ODECC (k / 16)) 1
    | _ => (d.lineMet ln 0xFF 0 0xFF (Map.get d.mem.flaw .clean ln)).2

/-- The record of an uncorrectable word in a line of an accumulation area, which no stack lies behind (R281, R284, log entry 106). -/
def Dev.accRecord (d : Dev) (q line : Nat) : Dev :=
  d.file { cls := 4, syndrome := 6 * 2 ^ 28, aux := line % 65536, unit := 0x5000 + q, index := 0, opcode := 0xFF, status := stECC,
           part := d.get (K.SC_ACC_OWNER q) }

/-- STAGE_CACHE_SCRUB (R281): an uncorrectable word of a cached line poisons the line; its dirty data is lost. Lines from the
number of lines of HBM on are those of the quadrant's accumulation area. -/
def Dev.stageCacheScrub (d : Dev) (q line : Nat) (found : Finding) : Dev :=
  match d.cacheWay q line, found with
  | some w, .uncorrectable =>
    let d := { d with mem := { d.mem with tags := Map.set d.mem.tags CLine.none (q * 2 ^ 20 + setOf line * 16 + w) CLine.none,
                                          poison := Map.set d.mem.poison false line true } }
    d.hbmRecord 6 (line * 128) stECC 0xFF 0 0xFF
  | none, .uncorrectable =>
    let n := line - 320 * chLines
    if 320 * chLines ≤ line && n / 16384 < d.get (K.SC_ACC_PAGES q) && !d.accLocking q then
      ({ d with mem := { d.mem with accBad := Map.set d.mem.accBad false (q * 65536 + n) true } } : Dev).accRecord q n
    else d
  | _, _ => d

/-- The banks of a stack whose count of activations has reached the threshold that the stack reports (R276). -/
def Dev.rfmDue (d : Dev) (s : Nat) : List Nat :=
  (d.mem.acts.filter (fun e => e.1 / 2048 == s && Config.rfmThreshold s ≤ e.2)).map Prod.fst

/-- Ticks between two refreshes of a stack: half above 85 °C (R276). -/
def Dev.refreshEvery (d : Dev) (s : Nat) : Nat :=
  let t := Config.refreshTicks (d.get (K.HBM_TEMP s))
  if 680 < d.get (K.HBM_TEMP s) then t / 2 else t

/-- HBM_REFRESH (R276): the stack's banks are refreshed when their interval has passed, or a bank that has reached its threshold
gets its refresh-management command. -/
def Dev.hbmRefresh (d : Dev) (s : Nat) (management : Bool) : Dev :=
  if d.get (K.HBM_STATE s) ≠ 1 then d
  else if management then
    match d.rfmDue s with
    | [] => d
    | b :: _ => ({ d with mem := { d.mem with acts := Map.set d.mem.acts 0 b 0 } } : Dev).cnt (K.HBM_RFM s) 1
  else if d.now < Map.get d.mem.refreshed 0 s + d.refreshEvery s then d
  else { d with mem := { d.mem with refreshed := Map.set d.mem.refreshed 0 s d.now } }

/-- HBM_TEMP_READ (R274). -/
def Dev.hbmTempRead (d : Dev) (s temp : Nat) : Dev :=
  if d.get (K.HBM_STATE s) = 1 then d.put (K.HBM_TEMP s) (temp % 2 ^ 16) else d

/-- Lines of a quadrant's cache that a test picks are written back, if asked, and invalidated. -/
def Dev.dropLines (d : Dev) (q : Nat) (back : Bool) (sel : Nat → CLine → Bool) : Dev :=
  let hit (e : Nat × CLine) : Bool := e.1 / 2 ^ 20 == q && sel (e.1 % 16) e.2
  let n := if back then d.mem.tags.countP (fun e => hit e && e.2.dirty) else 0
  let d := { d with mem := { d.mem with tags := d.mem.tags.filter (fun e => !hit e) } }
  if n = 0 then d else d.cnt (K.SC_WRITEBACKS q) n

/-- A release action has completed (R427). -/
def Dev.releaseDone (d : Dev) (tok : Nat) : Dev :=
  { d with parts := d.parts.map (fun (e : Nat × Part) => (e.1, { e.2 with releasing := e.2.releasing.filter (· != tok) })) }

/-- Ends an entry of the draining ways. -/
def Dev.drainDone (d : Dev) (sel : Nat × Nat → Bool) : Dev :=
  { d with mem := { d.mem with drain := d.mem.drain.filter (fun e => !sel e) } }

/-- WAY_DRAINED (R283). -/
def Dev.wayDrained (d : Dev) (q w : Nat) : Dev :=
  if !d.mem.drain.contains (0, 16 * q + w) then d
  else
    let d := (d.dropLines q true (fun w' _ => w' == w)).drainDone (fun e => e == (0, 16 * q + w))
    d.releaseDone (1000 + 16 * q + w)

/-- The completion records that waited for an area that is locked now are written (R284, R536). -/
def Dev.flushRecords (d : Dev) : Dev :=
  let who (w : RecWait) : Who := if w.part < 16 then .part w.part else .priv
  let held (w : RecWait) : Bool := d.winLocking (who w) w.addr 16
  let go := d.mem.recWait.filter (fun w => !held w)
  go.foldl (fun (d : Dev) w =>
    let e : Eng := { k := w.k, n := w.n, p := w.p }
    let (st, d) := d.writeWin { part := w.part, index := w.index, op := w.op, alloc := w.k != 5 } (who w) w.addr w.bytes
    if st = 0 then d else d.recordLost e w.index w.op st)
    { d with mem := { d.mem with recWait := d.mem.recWait.filter held } }

/-- ACC_AREA_LOCKED (R284): the area is usable. -/
def Dev.accAreaLocked (d : Dev) (q : Nat) : Dev :=
  if !d.accLocking q then d
  else ((d.dropLines q true (fun w c => lockedUnit (d.get (K.SC_ACC_PAGES q)) (c.line % 3) w)).drainDone
    (fun e => e.1 == 1 && e.2 / 16 == q)).flushRecords

/-- ACC_AREA_UNLOCKED (R284): the units return to use as cache lines. -/
def Dev.accAreaUnlocked (d : Dev) (q : Nat) : Dev :=
  (d.drainDone (fun e => e.1 == 2 && e.2 / 16 == q)).releaseDone (2000 + q)

/-- CHANNEL_ZEROISED (R334): the channel is free and holds zeros. -/
def Dev.channelZeroised (d : Dev) (k : Nat) : Dev :=
  if d.owner k ≠ 0xFD then d
  else
    let m := d.mem
    let d := { d with mem := { m with cells := Map.delRange m.cells (k * chBytes) ((k + 1) * chBytes),
                                      raw := Map.delRange m.raw (k * chBytes) ((k + 1) * chBytes),
                                      flaw := Map.delRange m.flaw (k * chLines) ((k + 1) * chLines),
                                      poison := Map.delRange m.poison (k * chLines) ((k + 1) * chLines),
                                      once := Map.delRange m.once (k * chLines) ((k + 1) * chLines) } }
    ((d.put (K.CH_OWNER (k / 16) (k % 16)) 0xFF).cnt (K.UP_ZEROISED (k / 16)) 1).releaseDone k

/-! ## Partitions -/

/-- PARTITION_CREATED (R406). -/
def Dev.partitionCreated (d : Dev) (p : Nat) : Dev :=
  let q := d.part p
  if !q.creating then d else (d.setPart p { q with creating := false }).put (K.PART_STATE p) 1

/-- PARTITION_RELEASED (R427): every action of the release has completed; the key pair is destroyed (R280). -/
def Dev.partitionReleased (d : Dev) (p : Nat) : Dev :=
  if d.get (K.PART_STATE p) = 2 && (d.part p).releasing.isEmpty then
    (d.setPart p { d.part p with keys := (0, 0) }).put (K.PART_STATE p) 0
  else d

end Sys2Proof.Machine
end

