-- ==== Sys2Proof/Machine/ObjTable.lean ====
section
/-! DEFINITION. The object dictionary's table: every object's place, type, rights, retention class and default, row by row
as the chapters give them. -/
namespace Sys2Proof.Machine

/-- Types (R44): BOOL, integers of n bytes, OCTETS(n), DOMAIN. -/
inductive OType where
  | bool
  | u (bytes : Nat)
  | octets (bytes : Nat)
  | domain
deriving DecidableEq, Repr

/-- Bytes of a value; none for a DOMAIN. -/
def OType.bytes (t : OType) : Option Nat :=
  match t with
  | .bool => some 1
  | .u n => some n
  | .octets n => some n
  | .domain => none

/-- Rights (R46); `no` is the dash. -/
inductive Right where
  | no
  | ro
  | rw
  | wo
  | rws
deriving DecidableEq, Repr

/-- The right reads. -/
def Right.reads (r : Right) : Bool := r == .ro || r == .rw || r == .rws
/-- The right writes, live or staged. -/
def Right.writes (r : Right) : Bool := r == .rw || r == .wo || r == .rws

/-- Retention classes (R50). -/
inductive Ret where
  | cold
  | backup
  | configured
  | part
deriving DecidableEq, Repr

/-- A row: `count` indices `stride` apart from `index`, sub-indices `lo` to `hi`; rights of O, T, K and X; whether T sees
its own alone. -/
structure Row where
  index : Nat
  count : Nat
  stride : Nat
  lo : Nat
  hi : Nat
  type : OType
  o : Right
  t : Right
  k : Right
  x : Right
  own : Bool
  ret : Ret
  dflt : Nat
deriving DecidableEq, Repr

/-- Rows of indices 0x1000 to 0x2100. -/
def objRows1 : List Row := [
  ⟨0x1000, 1, 1, 1, 1, (.octets 16), .ro, .ro, .ro, .ro, false, .configured, 0x4e595241494c4550⟩, -- VENDOR
  ⟨0x1000, 1, 1, 2, 2, (.octets 16), .ro, .ro, .ro, .ro, false, .configured, 0x4e55444557⟩, -- FAMILY
  ⟨0x1000, 1, 1, 3, 3, (.octets 16), .ro, .ro, .ro, .ro, false, .configured, 0x4e455249474142⟩, -- PART
  ⟨0x1000, 1, 1, 4, 4, (.octets 16), .ro, .ro, .ro, .ro, false, .configured, 0x412d343642572d4e4c50⟩, -- ORDER_CODE
  ⟨0x1000, 1, 1, 5, 5, (.u 1), .ro, .ro, .ro, .ro, false, .configured, 64⟩, -- GRADE_CORES
  ⟨0x1000, 1, 1, 6, 6, (.u 8), .ro, .ro, .ro, .ro, false, .configured, 0xFFFFFFFFFFFFFFFF⟩, -- CORE_PRESENT
  ⟨0x1000, 1, 1, 7, 7, (.u 2), .ro, .ro, .ro, .ro, false, .configured, 0x0A00⟩, -- STEPPING
  ⟨0x1000, 1, 1, 8, 8, (.u 4), .ro, .ro, .ro, .ro, false, .configured, 0⟩, -- FW_VERSION
  ⟨0x1000, 1, 1, 9, 9, (.u 4), .ro, .ro, .ro, .ro, false, .configured, 0⟩, -- CONFIG_VERSION
  ⟨0x1000, 1, 1, 10, 10, (.octets 32), .ro, .ro, .ro, .ro, false, .configured, 1⟩, -- DEVICE_ID
  ⟨0x1000, 1, 1, 11, 11, (.u 2), .ro, .ro, .ro, .ro, false, .cold, 65535⟩, -- DEVICE_NUMBER
  ⟨0x1000, 1, 1, 12, 12, (.u 4), .ro, .ro, .ro, .ro, false, .configured, 1⟩, -- LIST_FORMATS
  ⟨0x1000, 1, 1, 13, 13, (.u 8), .ro, .ro, .ro, .ro, false, .backup, 0⟩, -- FENCE_MASK
  ⟨0x1000, 1, 1, 14, 14, (.u 4), .ro, .ro, .ro, .ro, false, .configured, 0⟩, -- ENTERPRISE
  ⟨0x1100, 1, 1, 1, 1, (.u 2), .ro, .ro, .ro, .ro, false, .configured, 1⟩, -- DICT_VER_MIN
  ⟨0x1100, 1, 1, 2, 2, (.u 2), .ro, .ro, .ro, .ro, false, .configured, 1⟩, -- DICT_VER_MAX
  ⟨0x1100, 1, 1, 3, 3, (.u 2), .ro, .ro, .ro, .ro, false, .configured, 1⟩, -- LINK_VER_MIN
  ⟨0x1100, 1, 1, 4, 4, (.u 2), .ro, .ro, .ro, .ro, false, .configured, 1⟩, -- LINK_VER_MAX
  ⟨0x1100, 1, 1, 5, 5, (.u 1), .ro, .ro, .ro, .ro, false, .configured, 2⟩, -- GENERATION
  ⟨0x1200, 64, 1, 1, 1, (.u 1), .rw, .ro, .ro, .no, true, .cold, 0⟩, -- SESSION_STATE
  ⟨0x1200, 64, 1, 2, 2, (.u 1), .rws, .ro, .ro, .no, true, .cold, 1⟩, -- SESSION_PRINCIPAL
  ⟨0x1200, 64, 1, 3, 3, (.u 1), .rws, .ro, .ro, .no, true, .cold, 255⟩, -- SESSION_PARTITION
  ⟨0x1200, 64, 1, 4, 4, (.u 1), .rws, .ro, .ro, .no, true, .cold, 64⟩, -- SESSION_PORT
  ⟨0x1200, 64, 1, 5, 5, (.u 2), .ro, .ro, .ro, .no, true, .cold, 0⟩, -- SESSION_VERSION
  ⟨0x1200, 64, 1, 6, 6, (.u 8), .ro, .ro, .ro, .no, true, .cold, 0⟩, -- SESSION_REQUESTS
  ⟨0x1F00, 1, 1, 1, 1, (.u 1), .wo, .wo, .wo, .wo, false, .cold, 0⟩, -- COMMIT
  ⟨0x1F00, 1, 1, 2, 2, (.u 8), .rw, .rw, .rw, .rw, false, .cold, 0⟩, -- COMMIT_TICK
  ⟨0x1F00, 1, 1, 3, 3, (.u 1), .ro, .ro, .ro, .ro, false, .cold, 0⟩, -- COMMIT_STATE
  ⟨0x1F00, 1, 1, 4, 4, (.u 2), .ro, .ro, .ro, .ro, false, .cold, 0⟩, -- STAGED_COUNT
  ⟨0x1F00, 1, 1, 5, 5, (.u 4), .ro, .ro, .ro, .ro, false, .cold, 0⟩, -- FAIL_OBJECT
  ⟨0x1F00, 1, 1, 6, 6, (.u 1), .ro, .ro, .ro, .ro, false, .cold, 0⟩, -- FAIL_REASON
  ⟨0x1F00, 1, 1, 7, 7, (.u 8), .ro, .ro, .ro, .ro, false, .cold, 0⟩, -- APPLIED_TICK
  ⟨0x1F00, 1, 1, 8, 8, (.u 4), .ro, .ro, .ro, .ro, false, .cold, 0⟩, -- COMMIT_SEQ
  ⟨0x1F01, 1, 1, 1, 1, (.u 1), .wo, .no, .wo, .no, false, .cold, 0⟩, -- FORCE_DISCARD
  ⟨0x2000, 1, 1, 1, 1, (.u 8), .ro, .ro, .ro, .ro, false, .cold, 0⟩, -- FT_NOW
  ⟨0x2000, 1, 1, 2, 2, (.u 1), .rws, .no, .ro, .rws, false, .configured, 0⟩, -- FT_ROLE
  ⟨0x2000, 1, 1, 3, 3, (.u 1), .rws, .no, .ro, .rws, false, .configured, 255⟩, -- FT_UPSTREAM
  ⟨0x2000, 1, 1, 4, 4, (.u 8), .rws, .no, .ro, .rws, false, .configured, 0⟩, -- FT_DOWNSTREAM
  ⟨0x2000, 1, 1, 5, 5, (.u 1), .ro, .ro, .ro, .ro, false, .cold, 0⟩, -- FT_STATE
  ⟨0x2000, 1, 1, 6, 6, (.u 4), .ro, .no, .ro, .ro, false, .cold, 0⟩, -- FT_OFFSET
  ⟨0x2000, 1, 1, 7, 7, (.u 4), .rws, .no, .ro, .rws, false, .cold, 0x1c9c38⟩, -- FT_HOLDOVER_LIMIT
  ⟨0x2000, 1, 1, 8, 8, (.u 8), .wo, .no, .wo, .wo, false, .cold, 0⟩, -- FT_SET
  ⟨0x2000, 1, 1, 9, 9, (.u 8), .ro, .ro, .ro, .ro, false, .cold, 0⟩, -- FT_LOCK_TICK
  ⟨0x2000, 1, 1, 10, 10, (.u 4), .ro, .no, .ro, .ro, false, .cold, 0⟩, -- FT_PPS_ERROR
  ⟨0x2000, 1, 1, 11, 11, (.u 1), .ro, .ro, .ro, .ro, false, .cold, 255⟩, -- FT_DEPTH
  ⟨0x2100, 16, 1, 1, 1, (.u 1), .ro, .ro, .ro, .ro, true, .part, 0⟩, -- SCHED_STATE
  ⟨0x2100, 16, 1, 2, 2, (.u 8), .rws, .rws, .ro, .rws, true, .part, 0⟩, -- SCHED_BASE
  ⟨0x2100, 16, 1, 3, 3, (.u 8), .rws, .rws, .ro, .rws, true, .part, 0⟩, -- BASE_EPOCH
  ⟨0x2100, 16, 1, 4, 4, .bool, .rws, .rws, .ro, .rws, true, .part, 0⟩, -- ARM
  ⟨0x2100, 16, 1, 5, 5, (.u 8), .rws, .rws, .ro, .rws, true, .part, 0⟩, -- RESUME_TICK
  ⟨0x2100, 16, 1, 6, 6, (.u 8), .rws, .rws, .ro, .rws, true, .part, 0⟩, -- STOP_AFTER
  ⟨0x2100, 16, 1, 7, 7, (.u 1), .rws, .rws, .ro, .rws, true, .part, 3⟩, -- RETRY_LIMIT
  ⟨0x2100, 16, 1, 8, 8, (.u 1), .ro, .ro, .ro, .ro, true, .part, 0⟩, -- MODE
  ⟨0x2100, 16, 1, 9, 9, (.u 2), .ro, .ro, .ro, .ro, true, .part, 0⟩, -- PACE_MHZ
  ⟨0x2100, 16, 1, 10, 10, (.u 4), .ro, .ro, .ro, .ro, true, .part, 0⟩, -- PERIOD
  ⟨0x2100, 16, 1, 11, 11, (.u 8), .ro, .ro, .ro, .ro, true, .part, 0⟩, -- ATTEMPT
  ⟨0x2100, 16, 1, 12, 12, (.u 8), .ro, .ro, .ro, .ro, true, .part, 0⟩, -- STEP
  ⟨0x2100, 16, 1, 13, 13, (.u 8), .ro, .ro, .ro, .ro, true, .part, 0⟩, -- HELD_TICKS
  ⟨0x2100, 16, 1, 14, 14, (.u 8), .ro, .ro, .ro, .ro, true, .part, 0⟩, -- EPOCH_NOW
  ⟨0x2100, 16, 1, 15, 15, (.u 8), .ro, .ro, .ro, .ro, true, .part, 0⟩ -- LATE_COUNT
  ]

/-- Rows of indices 0x2100 to 0x3014. -/
def objRows2 : List Row := [
  ⟨0x2100, 16, 1, 16, 16, (.u 1), .ro, .ro, .ro, .ro, true, .part, 0⟩, -- FAILED_RUN
  ⟨0x2200, 16, 1, 1, 64, (.u 1), .ro, .ro, .ro, .ro, true, .part, 255⟩, -- SLOT_CORE
  ⟨0x2200, 16, 1, 65, 65, (.u 4), .ro, .ro, .ro, .ro, true, .part, 0⟩, -- SLOT_MAP_SEQ
  ⟨0x2300, 16, 1, 1, 1, (.u 4), .rws, .rws, .ro, .rws, true, .part, 0⟩, -- VOTE_TICK
  ⟨0x2300, 16, 1, 2, 2, (.u 4), .rws, .rws, .ro, .rws, true, .part, 0⟩, -- DECIDE_TICK
  ⟨0x2300, 16, 1, 3, 3, (.u 1), .rws, .rws, .ro, .rws, true, .part, 0⟩, -- VOTE_CHANNEL
  ⟨0x2300, 16, 1, 4, 4, (.u 4), .rws, .rws, .ro, .rws, true, .part, 62500⟩, -- VOTE_HOLD_LIMIT
  ⟨0x2300, 16, 1, 5, 5, (.u 8), .rws, .rws, .ro, .rws, true, .part, 0⟩, -- SCREEN_BASE
  ⟨0x2300, 16, 1, 6, 6, (.u 2), .rws, .rws, .ro, .rws, true, .part, 0⟩, -- SCREEN_COUNT
  ⟨0x2300, 16, 1, 7, 7, (.u 8), .rws, .rws, .ro, .rws, true, .part, 0⟩, -- STEP_REC
  ⟨0x2300, 16, 1, 8, 8, (.u 8), .rws, .rws, .ro, .rws, true, .part, 0⟩, -- JOB_SEED
  ⟨0x2300, 16, 1, 9, 9, .bool, .rws, .rws, .ro, .rws, true, .part, 1⟩, -- LS_ENABLE
  ⟨0x2300, 16, 1, 10, 10, (.u 1), .rws, .rws, .ro, .rws, true, .part, 16⟩, -- LS_EXP
  ⟨0x2300, 16, 1, 11, 11, (.u 1), .rws, .rws, .ro, .rws, true, .part, 0⟩, -- LS_MIN
  ⟨0x2300, 16, 1, 12, 12, (.u 1), .rws, .rws, .ro, .rws, true, .part, 32⟩, -- LS_MAX
  ⟨0x2300, 16, 1, 13, 13, (.u 4), .rws, .rws, .ro, .rws, true, .part, 2000⟩, -- LS_GROWTH
  ⟨0x2300, 16, 1, 14, 14, (.u 4), .ro, .ro, .ro, .ro, true, .part, 0⟩, -- LS_CLEAN
  ⟨0x2300, 16, 1, 15, 15, (.u 1), .rws, .rws, .ro, .rws, true, .part, 16⟩, -- NF_LIMIT
  ⟨0x2300, 16, 1, 16, 16, (.u 1), .ro, .ro, .ro, .ro, true, .part, 0⟩, -- NF_RUN
  ⟨0x2300, 16, 1, 17, 17, (.u 1), .ro, .ro, .ro, .ro, true, .part, 0⟩, -- DECISION
  ⟨0x2300, 16, 1, 18, 18, (.u 1), .ro, .ro, .ro, .ro, true, .part, 0⟩, -- DECISION_CAUSE
  ⟨0x2300, 16, 1, 19, 19, (.u 8), .ro, .ro, .ro, .ro, true, .part, 0⟩, -- DECISION_ATTEMPT
  ⟨0x2300, 16, 1, 20, 20, (.u 1), .wo, .wo, .no, .wo, true, .part, 0⟩, -- RESOLVE
  ⟨0x2300, 16, 1, 21, 21, .bool, .rw, .rw, .ro, .rw, true, .part, 0⟩, -- JOB_DAMAGED
  ⟨0x2300, 16, 1, 22, 22, (.u 8), .ro, .ro, .ro, .ro, true, .part, 0⟩, -- NF_COUNT
  ⟨0x2300, 16, 1, 23, 23, (.u 1), .ro, .ro, .ro, .ro, true, .part, 0⟩, -- DECISION_NF
  ⟨0x3000, 64, 64, 1, 1, (.u 1), .ro, .ro, .ro, .ro, false, .cold, 0⟩, -- CORE_STATE
  ⟨0x3000, 64, 64, 2, 2, (.u 1), .ro, .ro, .ro, .ro, false, .cold, 255⟩, -- CORE_OWNER
  ⟨0x3000, 64, 64, 3, 3, (.u 1), .ro, .ro, .ro, .ro, false, .cold, 255⟩, -- CORE_SLOT
  ⟨0x3001, 64, 64, 1, 4, (.u 8), .rw, .rws, .ro, .rw, false, .cold, 0⟩, -- LIST_BASE
  ⟨0x3002, 64, 64, 1, 4, (.u 8), .rw, .rws, .ro, .rw, false, .cold, 0⟩, -- RING_BASE
  ⟨0x3003, 64, 64, 1, 4, (.u 4), .rw, .rws, .ro, .rw, false, .cold, 256⟩, -- RING_SIZE
  ⟨0x3004, 64, 64, 1, 4, (.u 4), .ro, .ro, .ro, .ro, false, .cold, 0⟩, -- LIST_INDEX
  ⟨0x3005, 64, 64, 1, 4, .bool, .rws, .rws, .ro, .rws, false, .cold, 0⟩, -- ENGINE_RUN
  ⟨0x3006, 64, 64, 1, 32, (.u 1), .rws, .rws, .ro, .rws, false, .cold, 255⟩, -- HQ_BIND
  ⟨0x3007, 64, 64, 1, 32, (.u 1), .ro, .ro, .ro, .ro, false, .cold, 0⟩, -- HQ_LEVEL
  ⟨0x3008, 64, 64, 1, 4, (.u 4), .ro, .ro, .ro, .ro, false, .cold, 0⟩, -- RING_POS
  ⟨0x3010, 64, 64, 1, 1, (.u 8), .ro, .no, .ro, .rw, false, .cold, 0⟩, -- MXA_PASSES
  ⟨0x3010, 64, 64, 2, 2, (.u 8), .ro, .no, .ro, .rw, false, .cold, 0⟩, -- MXA_CHAINED
  ⟨0x3010, 64, 64, 3, 3, (.u 8), .ro, .no, .ro, .rw, false, .cold, 0⟩, -- MXA_DRAINS
  ⟨0x3010, 64, 64, 4, 4, (.u 8), .ro, .no, .ro, .rw, false, .cold, 0⟩, -- MXA_RERUNS
  ⟨0x3010, 64, 64, 5, 5, (.u 8), .ro, .no, .ro, .rw, false, .cold, 0⟩, -- MXA_HELD_CYCLES
  ⟨0x3010, 64, 64, 6, 6, (.u 4), .ro, .no, .ro, .rw, false, .cold, 0⟩, -- MXA_INTERLOCKS
  ⟨0x3010, 64, 64, 7, 7, (.u 1), .ro, .no, .ro, .ro, false, .cold, 0⟩, -- MXA_LAST_SYNDROME
  ⟨0x3011, 64, 64, 1, 1, (.u 1), .ro, .no, .ro, .ro, false, .cold, 0⟩, -- MXA_STATE
  ⟨0x3011, 64, 64, 2, 2, (.u 1), .ro, .no, .ro, .ro, false, .cold, 0⟩, -- MXA_IN_FLIGHT
  ⟨0x3012, 64, 64, 1, 1, (.u 8), .ro, .no, .ro, .rw, false, .cold, 0⟩, -- SPL_LOADS
  ⟨0x3012, 64, 64, 2, 2, (.u 8), .ro, .no, .ro, .rw, false, .cold, 0⟩, -- SPL_REFUSED
  ⟨0x3012, 64, 64, 3, 3, (.u 4), .ro, .no, .ro, .ro, false, .cold, 0⟩, -- SPL_LAST_SYNDROME
  ⟨0x3012, 64, 64, 4, 4, (.u 8), .ro, .no, .ro, .rw, false, .cold, 0⟩, -- SPL_GROUPS
  ⟨0x3013, 64, 64, 1, 1, (.u 4), .ro, .ro, .ro, .ro, false, .cold, 0⟩, -- VX_VLEN
  ⟨0x3013, 64, 64, 2, 2, (.u 1), .ro, .no, .ro, .ro, false, .cold, 0⟩, -- VX_STATE
  ⟨0x3013, 64, 64, 3, 3, (.u 8), .ro, .no, .ro, .rw, false, .cold, 0⟩, -- VX_BEATS
  ⟨0x3013, 64, 64, 4, 4, (.u 8), .ro, .no, .ro, .rw, false, .cold, 0⟩, -- VX_UOPS
  ⟨0x3013, 64, 64, 5, 5, (.u 8), .ro, .no, .ro, .rw, false, .cold, 0⟩, -- VX_SPECIAL
  ⟨0x3013, 64, 64, 6, 6, (.u 8), .ro, .no, .ro, .rw, false, .cold, 0⟩, -- VX_ECC_NAN
  ⟨0x3013, 64, 64, 7, 7, (.u 8), .ro, .no, .ro, .rw, false, .cold, 0⟩, -- VX_RESUMED
  ⟨0x3014, 64, 64, 1, 1, (.u 8), .ro, .no, .ro, .rw, false, .cold, 0⟩, -- SP_CORRECTED
  ⟨0x3014, 64, 64, 2, 2, (.u 8), .ro, .no, .ro, .rw, false, .cold, 0⟩, -- SP_UNCORR
  ⟨0x3014, 64, 64, 3, 3, (.u 4), .ro, .no, .ro, .ro, false, .cold, 0⟩ -- SP_POISONED
  ]

/-- Rows of indices 0x3014 to 0x4100. -/
def objRows3 : List Row := [
  ⟨0x3014, 64, 64, 4, 4, (.u 4), .ro, .no, .ro, .rw, false, .cold, 0⟩, -- WM_CRC_FAIL
  ⟨0x3014, 64, 64, 5, 5, (.u 8), .ro, .no, .ro, .rw, false, .cold, 0⟩, -- SCRUB_PASSES
  ⟨0x3014, 64, 64, 6, 6, (.u 8), .ro, .no, .ro, .rw, false, .cold, 0⟩, -- ZEROISE_COUNT
  ⟨0x3014, 64, 64, 7, 7, (.u 4), .ro, .no, .ro, .ro, false, .cold, 0⟩, -- LAST_SYNDROME
  ⟨0x3015, 64, 64, 0, 0, (.u 1), .ro, .no, .ro, .ro, false, .configured, 16⟩, -- RET_COUNT
  ⟨0x3015, 64, 64, 1, 16, (.u 2), .rws, .no, .rws, .rws, false, .configured, 65535⟩, -- RET_ROW
  ⟨0x3016, 64, 64, 1, 1, .bool, .rws, .no, .ro, .rws, false, .configured, 1⟩, -- SCRUB_ENABLE
  ⟨0x3016, 64, 64, 2, 2, (.u 4), .rws, .no, .ro, .rws, false, .configured, 1024⟩, -- SCRUB_INTERVAL
  ⟨0x3016, 64, 64, 3, 3, .bool, .wo, .no, .wo, .wo, false, .cold, 0⟩, -- ZEROISE
  ⟨0x3017, 64, 64, 1, 1, (.u 8), .ro, .no, .ro, .rw, false, .cold, 0⟩, -- MV_BYTES
  ⟨0x3017, 64, 64, 2, 2, (.u 8), .ro, .no, .ro, .rw, false, .cold, 0⟩, -- MV_RUNS
  ⟨0x3017, 64, 64, 3, 3, (.u 8), .ro, .no, .ro, .rw, false, .cold, 0⟩, -- MV_SHORT_RUNS
  ⟨0x3017, 64, 64, 4, 4, (.u 8), .ro, .no, .ro, .rw, false, .cold, 0⟩, -- MV_FENCES
  ⟨0x3017, 64, 64, 5, 5, (.u 8), .ro, .no, .ro, .rw, false, .cold, 0⟩, -- RA_BYTES
  ⟨0x3017, 64, 64, 6, 6, (.u 8), .ro, .no, .ro, .rw, false, .cold, 0⟩, -- RA_USED
  ⟨0x3017, 64, 64, 7, 7, (.u 8), .ro, .no, .ro, .rw, false, .cold, 0⟩, -- RA_DISCARDED
  ⟨0x3018, 64, 64, 1, 9, (.u 8), .ro, .no, .ro, .rw, false, .cold, 0⟩, -- RA_STOPS
  ⟨0x3019, 64, 64, 1, 1, .bool, .rws, .rws, .ro, .rws, false, .part, 1⟩, -- RA_ENABLE
  ⟨0x3019, 64, 64, 2, 2, (.u 1), .rws, .rws, .ro, .rws, false, .part, 4⟩, -- RA_DEPTH
  ⟨0x3019, 64, 64, 3, 3, (.u 2), .rws, .rws, .ro, .rws, false, .part, 128⟩, -- RA_WINDOW
  ⟨0x301A, 64, 64, 1, 1, (.u 8), .ro, .no, .ro, .rw, false, .cold, 0⟩, -- GT_ROWS
  ⟨0x301A, 64, 64, 2, 2, (.u 8), .ro, .no, .ro, .rw, false, .cold, 0⟩, -- GT_BYTES
  ⟨0x301A, 64, 64, 3, 3, (.u 8), .ro, .no, .ro, .rw, false, .cold, 0⟩, -- GT_OUT_OF_RANGE
  ⟨0x301A, 64, 64, 4, 4, (.u 8), .ro, .no, .ro, .rw, false, .cold, 0⟩, -- GT_UNMAPPED
  ⟨0x301B, 64, 64, 1, 1, (.u 1), .rw, .ro, .rw, .rw, false, .cold, 0⟩, -- PWR_MODE
  ⟨0x301B, 64, 64, 2, 2, (.u 1), .rw, .no, .rw, .rw, false, .cold, 0⟩, -- PWR_WAIT
  ⟨0x301B, 64, 64, 3, 3, (.u 1), .ro, .no, .ro, .ro, false, .cold, 0⟩, -- PWR_LAST
  ⟨0x301B, 64, 64, 4, 4, (.u 4), .ro, .no, .ro, .rw, false, .cold, 0⟩, -- PWR_ABANDONED
  ⟨0x301C, 64, 64, 1, 1, (.u 2), .ro, .no, .ro, .rw, false, .backup, 0⟩, -- CAND_COUNT
  ⟨0x301C, 64, 64, 2, 2, (.u 1), .ro, .no, .ro, .rw, false, .backup, 0⟩, -- REPRO_COUNT
  ⟨0x301C, 64, 64, 3, 3, (.u 1), .ro, .no, .ro, .ro, false, .cold, 0⟩, -- LAST_CLASS
  ⟨0x301C, 64, 64, 4, 4, (.u 1), .wo, .no, .wo, .wo, false, .cold, 0⟩, -- CORE_CLASS
  ⟨0x301C, 64, 64, 5, 5, (.u 1), .ro, .no, .ro, .ro, false, .cold, 0⟩, -- SCAN_STATE
  ⟨0x301C, 64, 64, 6, 6, (.u 8), .ro, .no, .ro, .ro, false, .cold, 0⟩, -- SCAN_LAST
  ⟨0x301C, 64, 64, 7, 7, (.u 8), .ro, .no, .ro, .rw, false, .cold, 0⟩, -- SCANS
  ⟨0x301C, 64, 64, 8, 8, (.u 8), .ro, .no, .ro, .ro, false, .backup, 0⟩, -- CAND_TICK
  ⟨0x301D, 64, 64, 1, 1, (.u 1), .wo, .no, .wo, .wo, false, .cold, 0⟩, -- BLK_RESET
  ⟨0x301D, 64, 64, 2, 2, (.u 1), .ro, .no, .ro, .ro, false, .cold, 15⟩, -- BLK_IDLE
  ⟨0x4000, 20, 1, 1, 1, (.u 1), .ro, .no, .ro, .ro, false, .cold, 0⟩, -- HBM_STATE
  ⟨0x4000, 20, 1, 2, 2, (.u 2), .ro, .no, .ro, .ro, false, .cold, 0⟩, -- HBM_TEMP
  ⟨0x4000, 20, 1, 3, 3, (.u 8), .ro, .no, .ro, .rw, false, .cold, 0⟩, -- HBM_ODECC
  ⟨0x4000, 20, 1, 4, 4, (.u 8), .ro, .no, .ro, .rw, false, .cold, 0⟩, -- HBM_CORRECTED
  ⟨0x4000, 20, 1, 5, 5, (.u 8), .ro, .no, .ro, .rw, false, .cold, 0⟩, -- HBM_UNCORR
  ⟨0x4000, 20, 1, 6, 6, (.u 8), .ro, .no, .ro, .rw, false, .cold, 0⟩, -- HBM_RFM
  ⟨0x4000, 20, 1, 7, 7, (.u 4), .ro, .no, .ro, .ro, false, .cold, 0⟩, -- HBM_LAST_SYNDROME
  ⟨0x4030, 20, 1, 1, 16, (.u 1), .rws, .no, .ro, .ro, false, .cold, 255⟩, -- CH_OWNER
  ⟨0x4060, 4, 1, 1, 16, (.u 1), .rws, .no, .ro, .ro, false, .cold, 255⟩, -- SC_WAY_OWNER
  ⟨0x4060, 4, 1, 17, 17, (.u 1), .rws, .no, .ro, .ro, false, .cold, 255⟩, -- SC_ACC_OWNER
  ⟨0x4060, 4, 1, 18, 18, (.u 1), .rws, .ro, .ro, .ro, true, .cold, 0⟩, -- SC_ACC_PAGES
  ⟨0x4060, 4, 1, 19, 19, (.u 8), .ro, .no, .ro, .rw, false, .cold, 0⟩, -- SC_HITS
  ⟨0x4060, 4, 1, 20, 20, (.u 8), .ro, .no, .ro, .rw, false, .cold, 0⟩, -- SC_MISSES
  ⟨0x4060, 4, 1, 21, 21, (.u 8), .ro, .no, .ro, .rw, false, .cold, 0⟩, -- SC_WRITEBACKS
  ⟨0x4060, 4, 1, 22, 22, (.u 2), .ro, .no, .ro, .ro, false, .cold, 0⟩, -- SC_DRAINING
  ⟨0x4068, 4, 1, 1, 16, (.u 2), .rws, .ro, .ro, .ro, true, .cold, 4032⟩, -- TRK_QUOTA
  ⟨0x4068, 4, 1, 17, 17, (.u 4), .ro, .no, .ro, .ro, false, .cold, 0⟩, -- TRK_IN_USE
  ⟨0x4068, 4, 1, 18, 18, (.u 4), .ro, .no, .ro, .rw, false, .cold, 0⟩, -- TRK_PEAK
  ⟨0x4068, 4, 1, 19, 19, (.u 8), .ro, .no, .ro, .rw, false, .cold, 0⟩, -- TRK_WAITS
  ⟨0x4100, 20, 1, 1, 1, (.u 1), .ro, .no, .ro, .ro, false, .cold, 0⟩, -- UP_STATE
  ⟨0x4100, 20, 1, 2, 2, (.u 2), .ro, .no, .ro, .ro, false, .cold, 0⟩, -- UP_ZEROISING
  ⟨0x4100, 20, 1, 3, 3, (.u 8), .ro, .no, .ro, .rw, false, .cold, 0⟩ -- UP_ZEROISED
  ]

/-- Rows of indices 0x4100 to 0x5100. -/
def objRows4 : List Row := [
  ⟨0x4100, 20, 1, 4, 4, (.u 8), .ro, .no, .ro, .rw, false, .cold, 0⟩, -- UP_ELEMENTS
  ⟨0x4100, 20, 1, 5, 5, (.u 8), .ro, .no, .ro, .rw, false, .cold, 0⟩, -- UP_NONFINITE
  ⟨0x4100, 20, 1, 6, 6, (.u 1), .ro, .no, .ro, .ro, false, .cold, 255⟩, -- UP_LAST_PART
  ⟨0x4140, 16, 1, 1, 16, (.octets 16), .ro, .ro, .ro, .ro, true, .part, 0⟩, -- SW_VALUE
  ⟨0x4140, 16, 1, 17, 17, (.u 8), .ro, .ro, .ro, .ro, true, .part, 0⟩, -- SW_STEP
  ⟨0x4140, 16, 1, 18, 18, (.u 2), .ro, .ro, .ro, .ro, true, .part, 0⟩, -- SW_PARTIAL
  ⟨0x4140, 16, 1, 19, 19, (.u 8), .rws, .rws, .ro, .rws, true, .part, 0⟩, -- SW_BASE
  ⟨0x4140, 16, 1, 20, 20, (.u 8), .rws, .rws, .ro, .rws, true, .part, 0⟩, -- UP_RING_BASE
  ⟨0x4140, 16, 1, 21, 21, (.u 4), .rws, .rws, .ro, .rws, true, .part, 256⟩, -- UP_RING_SIZE
  ⟨0x4140, 16, 1, 22, 22, (.u 4), .ro, .ro, .ro, .ro, true, .part, 0⟩, -- UP_RING_POS
  ⟨0x5000, 64, 1, 1, 1, (.u 1), .ro, .ro, .ro, .ro, true, .cold, 0⟩, -- LNK_STATE
  ⟨0x5000, 64, 1, 2, 2, .bool, .rw, .no, .ro, .rw, false, .configured, 1⟩, -- LNK_ENABLE
  ⟨0x5000, 64, 1, 3, 3, (.u 1), .rws, .no, .ro, .rws, false, .configured, 1⟩, -- LNK_MODE
  ⟨0x5000, 64, 1, 4, 4, (.u 1), .rws, .ro, .ro, .ro, true, .configured, 255⟩, -- LNK_OWNER
  ⟨0x5000, 64, 1, 5, 5, (.u 2), .ro, .ro, .ro, .ro, true, .cold, 0⟩, -- LNK_VERSION
  ⟨0x5000, 64, 1, 6, 6, (.u 2), .ro, .no, .ro, .ro, false, .cold, 65535⟩, -- LNK_PEER
  ⟨0x5000, 64, 1, 7, 7, (.u 1), .ro, .no, .ro, .ro, false, .cold, 0⟩, -- LNK_PEER_GEN
  ⟨0x5000, 64, 1, 8, 8, (.u 2), .rws, .no, .ro, .rws, false, .configured, 0⟩, -- LNK_EXTRA
  ⟨0x5000, 64, 1, 9, 9, (.u 2), .rws, .no, .ro, .rws, false, .configured, 0⟩, -- LNK_ASYM
  ⟨0x5000, 64, 1, 10, 10, (.u 4), .ro, .no, .ro, .ro, false, .cold, 0⟩, -- LNK_DELAY
  ⟨0x5000, 64, 1, 11, 11, (.u 8), .ro, .no, .ro, .rw, false, .cold, 0⟩, -- FLITS_TX
  ⟨0x5000, 64, 1, 12, 12, (.u 8), .ro, .no, .ro, .rw, false, .cold, 0⟩, -- FLITS_RX
  ⟨0x5000, 64, 1, 13, 13, (.u 8), .ro, .no, .ro, .rw, false, .cold, 0⟩, -- FEC_CORR_SYM
  ⟨0x5000, 64, 1, 14, 14, (.u 8), .ro, .no, .ro, .rw, false, .cold, 0⟩, -- FEC_UNCORR
  ⟨0x5000, 64, 1, 15, 15, (.u 8), .ro, .no, .ro, .rw, false, .cold, 0⟩, -- CRC_ERR
  ⟨0x5000, 64, 1, 16, 16, (.u 8), .ro, .no, .ro, .rw, false, .cold, 0⟩, -- REPLAYS
  ⟨0x5000, 64, 1, 17, 17, (.u 4), .ro, .no, .ro, .rw, false, .cold, 0⟩, -- FAILURES
  ⟨0x5000, 64, 1, 18, 18, (.u 8), .ro, .no, .ro, .rw, false, .cold, 0⟩, -- RESERVED_DROPS
  ⟨0x5000, 64, 1, 19, 19, (.u 4), .ro, .no, .ro, .rw, false, .cold, 0⟩, -- NEG_RESTARTS
  ⟨0x5040, 1, 1, 1, 1, .domain, .rws, .no, .ro, .rws, false, .configured, 0⟩, -- ROUTE
  ⟨0x5040, 1, 1, 2, 2, (.u 4), .rws, .no, .ro, .rws, false, .configured, 62500⟩, -- REMOTE_TIMEOUT
  ⟨0x5040, 1, 1, 3, 3, (.u 1), .rws, .no, .ro, .rws, false, .configured, 4⟩, -- REPLAY_LIMIT
  ⟨0x5040, 1, 1, 4, 4, .bool, .rws, .no, .ro, .rws, false, .configured, 0⟩, -- BRIDGE
  ⟨0x5040, 1, 1, 5, 5, .domain, .rws, .no, .ro, .rws, false, .configured, 0⟩, -- GROUP
  ⟨0x5040, 1, 1, 6, 6, (.u 2), .rws, .no, .ro, .rws, false, .configured, 65535⟩, -- HOST_NUMBER
  ⟨0x5040, 1, 1, 7, 7, (.u 2), .rws, .no, .ro, .rws, false, .configured, 65535⟩, -- CFG_NUMBER
  ⟨0x5040, 1, 1, 8, 8, .bool, .ro, .ro, .ro, .ro, false, .cold, 0⟩, -- NUM_ASSIGNED
  ⟨0x5060, 8, 1, 1, 1, .bool, .wo, .no, .wo, .wo, false, .cold, 0⟩, -- PORT_RESET
  ⟨0x5060, 8, 1, 2, 2, .bool, .ro, .no, .ro, .ro, false, .cold, 1⟩, -- PORT_IDLE
  ⟨0x5100, 32, 1, 1, 1, (.u 1), .rws, .ro, .ro, .ro, true, .cold, 255⟩, -- CH_PART
  ⟨0x5100, 32, 1, 2, 2, (.u 1), .rws, .ro, .ro, .ro, true, .cold, 0⟩, -- CH_RDE
  ⟨0x5100, 32, 1, 3, 3, (.u 2), .rws, .rws, .ro, .rws, true, .cold, 0⟩, -- CH_RING_ID
  ⟨0x5100, 32, 1, 4, 4, (.u 2), .rws, .rws, .ro, .rws, true, .cold, 1⟩, -- CH_SIZE
  ⟨0x5100, 32, 1, 5, 5, (.u 2), .rws, .rws, .ro, .rws, true, .cold, 0⟩, -- CH_POS
  ⟨0x5100, 32, 1, 6, 6, (.u 2), .rws, .rws, .ro, .rws, true, .cold, 65535⟩, -- CH_SUCC
  ⟨0x5100, 32, 1, 7, 7, (.u 2), .rws, .rws, .ro, .rws, true, .cold, 65535⟩, -- CH_PRED
  ⟨0x5100, 32, 1, 8, 8, (.u 1), .rws, .rws, .ro, .rws, true, .cold, 2⟩, -- CH_HEADROOM
  ⟨0x5100, 32, 1, 9, 9, (.u 2), .rws, .rws, .ro, .rws, true, .cold, 256⟩, -- CH_REPASS_MAX
  ⟨0x5100, 32, 1, 10, 10, (.u 4), .rws, .rws, .ro, .rws, true, .cold, 62500⟩, -- CH_HOLD_LIMIT
  ⟨0x5100, 32, 1, 11, 11, (.u 4), .rws, .rws, .ro, .rws, true, .cold, 65536⟩, -- CH_MAX_BLOCKS
  ⟨0x5100, 32, 1, 12, 12, (.u 8), .rws, .rws, .ro, .rws, true, .cold, 0⟩, -- CH_RX_BASE
  ⟨0x5100, 32, 1, 13, 13, (.u 8), .rws, .rws, .ro, .rws, true, .cold, 0⟩, -- CH_RX_BYTES
  ⟨0x5100, 32, 1, 14, 14, (.u 1), .ro, .ro, .ro, .ro, true, .cold, 0⟩, -- CH_STATE
  ⟨0x5100, 32, 1, 15, 15, (.u 2), .ro, .ro, .ro, .ro, true, .cold, 0⟩, -- CH_NEXT_SEQ
  ⟨0x5100, 32, 1, 16, 16, (.u 2), .ro, .ro, .ro, .ro, true, .cold, 0⟩, -- CH_OWED
  ⟨0x5100, 32, 1, 17, 17, (.u 8), .ro, .ro, .ro, .rw, true, .cold, 0⟩, -- CH_BUCKETS
  ⟨0x5100, 32, 1, 18, 18, (.u 8), .ro, .ro, .ro, .rw, true, .cold, 0⟩, -- CH_EXCLUDED
  ⟨0x5100, 32, 1, 19, 19, (.u 8), .ro, .ro, .ro, .rw, true, .cold, 0⟩, -- CH_HELD
  ⟨0x5100, 32, 1, 20, 20, (.u 8), .ro, .ro, .ro, .rw, true, .cold, 0⟩, -- CH_REPASSED
  ⟨0x5100, 32, 1, 21, 21, (.u 8), .ro, .ro, .ro, .rw, true, .cold, 0⟩ -- CH_NF_BLOCKS
  ]

/-- Rows of indices 0x5100 to 0x7010. -/
def objRows5 : List Row := [
  ⟨0x5100, 32, 1, 22, 22, (.u 8), .ro, .ro, .ro, .rw, true, .cold, 0⟩, -- CH_DISCARDS
  ⟨0x5140, 16, 1, 1, 1, (.u 8), .rws, .rws, .ro, .rws, true, .part, 0⟩, -- LEDGER_BASE
  ⟨0x5140, 16, 1, 2, 2, (.u 2), .rws, .rws, .ro, .rws, true, .part, 16⟩, -- LEDGER_SLOTS
  ⟨0x5140, 16, 1, 3, 3, (.u 2), .rws, .rws, .ro, .rws, true, .part, 256⟩, -- LEDGER_BUCKETS
  ⟨0x5140, 16, 1, 4, 4, (.u 8), .rws, .rws, .ro, .rws, true, .part, 0⟩, -- REPLAY_BASE
  ⟨0x5140, 16, 1, 5, 5, (.u 8), .rws, .rws, .ro, .rws, true, .part, 0⟩, -- RD_RING_BASE
  ⟨0x5140, 16, 1, 6, 6, (.u 4), .rws, .rws, .ro, .rws, true, .part, 256⟩, -- RD_RING_SIZE
  ⟨0x5140, 16, 1, 7, 7, (.u 4), .ro, .ro, .ro, .ro, true, .part, 0⟩, -- RD_RING_POS
  ⟨0x5180, 8, 1, 1, 1, (.u 1), .ro, .no, .ro, .ro, false, .cold, 0⟩, -- RD_STATE
  ⟨0x5180, 8, 1, 2, 2, (.u 8), .ro, .no, .ro, .rw, false, .cold, 0⟩, -- RD_MESSAGES
  ⟨0x5180, 8, 1, 3, 3, (.u 8), .ro, .no, .ro, .rw, false, .cold, 0⟩, -- RD_CROSS
  ⟨0x6000, 16, 1, 1, 1, (.u 1), .rws, .ro, .ro, .ro, true, .cold, 0⟩, -- PART_STATE
  ⟨0x6000, 16, 1, 2, 2, (.u 1), .rws, .ro, .ro, .ro, true, .cold, 1⟩, -- PART_CLASS
  ⟨0x6000, 16, 1, 3, 3, (.u 1), .rws, .ro, .ro, .ro, true, .cold, 0⟩, -- PART_SLOTS
  ⟨0x6000, 16, 1, 4, 4, (.u 8), .rws, .ro, .ro, .ro, true, .cold, 0⟩, -- CORE_MASK
  ⟨0x6000, 16, 1, 5, 5, (.u 1), .ro, .ro, .ro, .ro, true, .cold, 0⟩, -- PART_CAPACITY
  ⟨0x6000, 16, 1, 6, 6, (.u 4), .rws, .ro, .ro, .ro, true, .cold, 0⟩, -- WIN_PAGES
  ⟨0x6000, 16, 1, 7, 7, (.u 2), .ro, .no, .ro, .ro, false, .cold, 65535⟩, -- WIN_TABLE_CH
  ⟨0x6000, 16, 1, 8, 8, (.u 4), .rws, .ro, .ro, .ro, true, .cold, 0⟩, -- SAVE_PAGE
  ⟨0x6000, 16, 1, 9, 9, (.u 4), .rws, .ro, .ro, .ro, true, .cold, 125⟩, -- SW_LINK_LIMIT
  ⟨0x6000, 16, 1, 10, 10, .bool, .rws, .ro, .ro, .ro, true, .cold, 0⟩, -- FORERUNNER_COMPAT
  ⟨0x6000, 16, 1, 11, 11, (.u 1), .ro, .ro, .ro, .ro, true, .cold, 0⟩, -- PART_RESIDENT
  ⟨0x6000, 16, 1, 12, 12, (.u 8), .ro, .ro, .ro, .ro, true, .cold, 0⟩, -- PART_SWITCHES
  ⟨0x6000, 16, 1, 13, 13, (.u 4), .ro, .ro, .ro, .ro, true, .cold, 0⟩, -- LAST_SWITCH
  ⟨0x6000, 16, 1, 14, 14, (.u 4), .ro, .ro, .ro, .ro, true, .cold, 0⟩, -- MAX_SWITCH
  ⟨0x6000, 16, 1, 15, 15, (.u 4), .ro, .ro, .ro, .ro, true, .cold, 0⟩, -- LAST_LINK_WAIT
  ⟨0x6000, 16, 1, 16, 16, (.u 8), .ro, .ro, .ro, .ro, true, .cold, 0⟩, -- ABANDONED
  ⟨0x6020, 16, 1, 1, 1, (.u 4), .rws, .no, .ro, .rws, false, .cold, 0⟩, -- MAP_FIRST
  ⟨0x6020, 16, 1, 2, 2, (.u 4), .rws, .no, .ro, .rws, false, .cold, 0⟩, -- MAP_COUNT
  ⟨0x6020, 16, 1, 3, 3, (.u 8), .rws, .no, .ro, .rws, false, .cold, 0⟩, -- MAP_ENTRY
  ⟨0x6020, 16, 1, 4, 4, (.u 1), .rws, .no, .ro, .rws, false, .cold, 0⟩, -- MAP_MODE
  ⟨0x6020, 16, 1, 5, 5, (.u 4), .rw, .rw, .ro, .rw, true, .cold, 0⟩, -- PROBE_PAGE
  ⟨0x6020, 16, 1, 6, 6, (.u 8), .ro, .ro, .ro, .ro, true, .cold, 0⟩, -- PROBE_ENTRY
  ⟨0x60F0, 1, 1, 1, 1, (.u 4), .rws, .no, .ro, .rws, false, .configured, 312500⟩, -- BE_QUANTUM
  ⟨0x60F0, 1, 1, 2, 2, (.u 1), .ro, .no, .ro, .ro, false, .cold, 0⟩, -- CORES_FREE
  ⟨0x60F0, 1, 1, 3, 3, (.u 1), .ro, .no, .ro, .ro, false, .cold, 0⟩, -- LC_SLOTS
  ⟨0x60F0, 1, 1, 4, 4, (.u 2), .ro, .no, .ro, .ro, false, .cold, 0⟩, -- BE_WAITING
  ⟨0x6100, 16, 1, 1, 1, (.u 8), .ro, .ro, .ro, .ro, true, .cold, 0⟩, -- METER_TICK
  ⟨0x6100, 16, 1, 2, 2, (.u 8), .ro, .ro, .ro, .ro, true, .cold, 0⟩, -- CORE_TICKS
  ⟨0x6100, 16, 1, 3, 3, (.u 8), .ro, .ro, .ro, .ro, true, .cold, 0⟩, -- ENERGY_MJ
  ⟨0x6100, 16, 1, 4, 4, (.u 8), .ro, .ro, .ro, .ro, true, .cold, 0⟩, -- HBM_RD_BYTES
  ⟨0x6100, 16, 1, 5, 5, (.u 8), .ro, .ro, .ro, .ro, true, .cold, 0⟩, -- HBM_WR_BYTES
  ⟨0x6100, 16, 1, 6, 6, (.u 8), .ro, .ro, .ro, .ro, true, .cold, 0⟩, -- LINK_TX_BYTES
  ⟨0x7000, 1, 1, 1, 1, (.u 2), .rw, .ro, .ro, .rw, false, .configured, 2800⟩, -- CAP_W
  ⟨0x7000, 1, 1, 2, 2, (.u 2), .rw, .ro, .ro, .rw, false, .configured, 3200⟩, -- PEAK_W
  ⟨0x7000, 1, 1, 3, 3, (.u 1), .ro, .ro, .ro, .ro, false, .cold, 0⟩, -- CAP_STATUS
  ⟨0x7000, 1, 1, 4, 4, (.u 2), .ro, .ro, .ro, .ro, false, .cold, 0⟩, -- CAP_FLOOR
  ⟨0x7000, 1, 1, 5, 5, (.u 1), .rw, .no, .ro, .rw, false, .cold, 0⟩, -- CTRL_MODE
  ⟨0x7000, 1, 1, 6, 6, (.u 1), .ro, .ro, .ro, .ro, false, .cold, 97⟩, -- GUARD_PCT
  ⟨0x7000, 1, 1, 7, 7, (.u 8), .ro, .ro, .ro, .ro, false, .cold, 0⟩, -- CAP_TICK
  ⟨0x7000, 1, 1, 8, 8, (.u 2), .ro, .no, .ro, .ro, false, .cold, 0⟩, -- POWER_1S
  ⟨0x7000, 1, 1, 9, 9, (.u 2), .ro, .no, .ro, .ro, false, .cold, 0⟩, -- POWER_1MS
  ⟨0x7000, 1, 1, 10, 10, (.u 8), .ro, .no, .ro, .ro, false, .cold, 0⟩, -- GATE
  ⟨0x7000, 1, 1, 11, 11, (.u 8), .ro, .no, .ro, .rw, false, .cold, 0⟩, -- GATE_EVENTS
  ⟨0x7000, 1, 1, 12, 12, (.u 2), .ro, .no, .ro, .ro, false, .cold, 0⟩, -- DISAGREE_RUN
  ⟨0x7010, 4, 1, 1, 1, (.u 1), .ro, .no, .ro, .ro, false, .cold, 0⟩, -- OP_NOW
  ⟨0x7010, 4, 1, 2, 2, (.u 2), .ro, .no, .ro, .ro, false, .cold, 470⟩, -- FREQ_MHZ
  ⟨0x7010, 4, 1, 3, 3, (.u 2), .ro, .no, .ro, .ro, false, .cold, 470⟩, -- FLOOR_MHZ
  ⟨0x7010, 4, 1, 4, 4, (.u 1), .ro, .no, .ro, .ro, false, .cold, 7⟩, -- OP_MAX
  ⟨0x7010, 4, 1, 5, 5, (.u 2), .ro, .no, .ro, .ro, false, .cold, 620⟩ -- V_SET_MV
  ]

/-- Rows of indices 0x7010 to 0x9000. -/
def objRows6 : List Row := [
  ⟨0x7010, 4, 1, 6, 6, (.u 4), .ro, .no, .ro, .ro, false, .cold, 0⟩, -- V_FAC_MV
  ⟨0x7010, 4, 1, 7, 7, (.u 1), .ro, .no, .ro, .ro, false, .cold, 0⟩, -- TRIM_MV
  ⟨0x7010, 4, 1, 8, 8, .bool, .ro, .no, .ro, .ro, false, .cold, 0⟩, -- DROOP_GUARD
  ⟨0x7010, 4, 1, 9, 9, (.u 8), .ro, .no, .ro, .rw, false, .cold, 0⟩, -- DROOP_STEPS
  ⟨0x7010, 4, 1, 10, 10, (.u 8), .ro, .no, .ro, .rw, false, .cold, 0⟩, -- OP_CHANGES
  ⟨0x7020, 1, 1, 1, 1, (.u 8), .ro, .no, .ro, .ro, false, .cold, 0⟩, -- ENERGY_MJ
  ⟨0x7020, 1, 1, 2, 2, (.u 8), .ro, .no, .ro, .ro, false, .cold, 0⟩, -- OVERHEAD_MJ
  ⟨0x7020, 1, 1, 3, 3, (.u 8), .ro, .no, .ro, .ro, false, .cold, 0⟩, -- WIN_TICK
  ⟨0x7020, 1, 1, 4, 4, (.u 4), .ro, .no, .ro, .ro, false, .cold, 0⟩, -- WIN_MEAS_MJ
  ⟨0x7020, 1, 1, 5, 5, (.u 4), .ro, .no, .ro, .ro, false, .cold, 0⟩, -- WIN_EST_MJ
  ⟨0x7020, 1, 1, 6, 12, (.u 8), .ro, .no, .ro, .ro, false, .cold, 0⟩, -- RAIL_MJ
  ⟨0x7030, 1, 1, 1, 4, (.u 2), .ro, .ro, .ro, .ro, false, .cold, 0⟩, -- TJ_QUAD
  ⟨0x7030, 1, 1, 5, 5, (.u 2), .ro, .ro, .ro, .ro, false, .cold, 0⟩, -- TJ_SVC
  ⟨0x7030, 1, 1, 6, 6, (.u 2), .ro, .no, .ro, .rw, false, .cold, 0⟩, -- TJ_PEAK
  ⟨0x7100, 77, 1, 1, 1, (.u 1), .ro, .no, .ro, .ro, false, .cold, 0⟩, -- DOM_STATE
  ⟨0x7100, 77, 1, 2, 2, (.u 1), .rw, .no, .rw, .rw, false, .configured, 0⟩, -- DOM_TARGET
  ⟨0x7100, 77, 1, 3, 3, (.u 1), .ro, .no, .ro, .ro, false, .cold, 0⟩, -- DOM_DEPTH
  ⟨0x7100, 77, 1, 4, 4, (.u 1), .ro, .no, .ro, .ro, false, .cold, 0⟩, -- DOM_AUTO
  ⟨0x7100, 77, 1, 5, 5, (.u 8), .ro, .no, .ro, .rw, false, .cold, 0⟩, -- DOM_ENTRIES
  ⟨0x7100, 77, 1, 6, 6, (.u 8), .ro, .no, .ro, .ro, false, .cold, 0⟩, -- DOM_LAST_WAKE
  ⟨0x7100, 77, 1, 16, 16, (.u 1), .rw, .no, .ro, .rw, false, .cold, 255⟩, -- VOTE_HOST
  ⟨0x7100, 77, 1, 17, 17, (.u 1), .rw, .no, .rw, .rw, false, .configured, 0⟩, -- VOTE_FW
  ⟨0x7100, 77, 1, 18, 33, (.u 1), .rw, .rw, .ro, .rw, true, .cold, 255⟩, -- VOTE_PART
  ⟨0x7100, 77, 1, 34, 41, (.u 1), .ro, .no, .ro, .ro, false, .cold, 255⟩, -- VOTE_PORT
  ⟨0x8000, 1, 1, 1, 1, (.u 8), .ro, .no, .ro, .ro, false, .cold, 0⟩, -- LOG_COUNT
  ⟨0x8000, 1, 1, 2, 2, (.u 8), .ro, .no, .ro, .ro, false, .cold, 0⟩, -- LOG_DROPPED
  ⟨0x8000, 1, 1, 3, 3, (.u 8), .rw, .rw, .rw, .rw, false, .cold, 0⟩, -- LOG_INDEX
  ⟨0x8000, 1, 1, 4, 4, (.octets 32), .ro, .ro, .ro, .ro, true, .cold, 0⟩, -- LOG_RECORD
  ⟨0x8001, 1, 1, 1, 64, (.octets 32), .ro, .no, .ro, .ro, false, .backup, 0⟩, -- BKP_RECORD
  ⟨0x8020, 1, 1, 1, 1, (.u 1), .wo, .no, .wo, .wo, false, .cold, 0⟩, -- FENCE_REQ
  ⟨0x8020, 1, 1, 2, 2, (.u 1), .wo, .no, .wo, .wo, false, .cold, 0⟩, -- SCAN_REQ
  ⟨0x8020, 1, 1, 3, 3, (.u 4), .rw, .no, .ro, .rw, false, .configured, 86400⟩, -- SCAN_PERIOD
  ⟨0x8020, 1, 1, 4, 4, (.u 1), .ro, .ro, .ro, .ro, false, .cold, 0⟩, -- DEVICE_HEALTH
  ⟨0x8020, 1, 1, 5, 5, (.u 2), .wo, .no, .wo, .wo, false, .cold, 0⟩, -- UNIT_FAULT
  ⟨0x8100, 16, 1, 1, 1, .bool, .rws, .rws, .ro, .rws, true, .part, 0⟩, -- SWX_ENABLE
  ⟨0x8100, 16, 1, 2, 2, (.u 1), .rws, .rws, .ro, .rws, true, .part, 4⟩, -- SWX_N
  ⟨0x8100, 16, 1, 3, 3, (.u 4), .rws, .rws, .ro, .rws, true, .part, 0⟩, -- SWX_TICK
  ⟨0x8100, 16, 1, 4, 4, (.u 1), .rws, .rws, .ro, .rws, true, .part, 0⟩, -- SWX_CHANNEL
  ⟨0x8100, 16, 1, 5, 5, (.u 1), .rws, .rws, .ro, .rws, true, .part, 2⟩, -- SWX_REPLICAS
  ⟨0x8100, 16, 1, 6, 6, (.u 1), .rws, .rws, .ro, .rws, true, .part, 0⟩, -- SWX_INDEX
  ⟨0x8100, 16, 1, 7, 7, (.u 1), .ro, .ro, .ro, .ro, true, .part, 0⟩, -- SWX_STATE
  ⟨0x8100, 16, 1, 8, 8, (.u 8), .ro, .ro, .ro, .ro, true, .part, 0⟩, -- SWX_LAST_STEP
  ⟨0x8100, 16, 1, 9, 9, (.u 2), .ro, .ro, .ro, .ro, true, .part, 0⟩, -- SWX_DIFF_SW
  ⟨0x8100, 16, 1, 10, 10, (.u 8), .ro, .ro, .ro, .ro, true, .part, 0⟩, -- SWX_DIFF_SLOT
  ⟨0x8100, 16, 1, 11, 11, (.u 1), .ro, .ro, .ro, .ro, true, .part, 0⟩, -- SWX_ODD
  ⟨0x8100, 16, 1, 12, 12, (.u 8), .ro, .ro, .ro, .ro, true, .part, 0⟩, -- PART_LOG_LAST
  ⟨0x8180, 16, 1, 1, 64, (.octets 16), .ro, .ro, .ro, .ro, true, .part, 0⟩, -- SLOT_DIGEST
  ⟨0x8180, 16, 1, 65, 128, (.u 8), .ro, .no, .ro, .ro, false, .part, 0⟩, -- SLOT_CORES
  ⟨0x8180, 16, 1, 129, 192, (.octets 16), .ro, .ro, .ro, .ro, true, .part, 0⟩, -- SLOT_DIGEST_ATT
  ⟨0x9000, 1, 1, 1, 1, (.u 1), .ro, .ro, .ro, .ro, false, .cold, 0⟩, -- BOOT_STATE
  ⟨0x9000, 1, 1, 2, 2, (.u 1), .ro, .no, .ro, .ro, false, .cold, 1⟩, -- RESET_CAUSE
  ⟨0x9000, 1, 1, 3, 3, (.u 4), .ro, .no, .ro, .ro, false, .backup, 0⟩, -- RESET_COUNT
  ⟨0x9000, 1, 1, 4, 4, (.u 4), .ro, .ro, .ro, .ro, false, .cold, 0⟩, -- BOOT_MS
  ⟨0x9000, 1, 1, 5, 5, (.u 1), .ro, .ro, .ro, .ro, false, .cold, 0⟩, -- IMAGE_SVN
  ⟨0x9000, 1, 1, 6, 6, (.u 1), .ro, .ro, .ro, .ro, false, .cold, 0⟩, -- SVN_MIN
  ⟨0x9000, 1, 1, 7, 7, .bool, .wo, .no, .wo, .no, false, .cold, 0⟩, -- SVN_COMMIT
  ⟨0x9000, 1, 1, 8, 8, (.u 1), .ro, .ro, .ro, .ro, false, .cold, 0⟩, -- CONFIG_STATUS
  ⟨0x9000, 1, 1, 9, 9, (.u 1), .ro, .no, .ro, .ro, false, .cold, 0⟩, -- PATTERN_OK
  ⟨0x9000, 1, 1, 10, 10, (.u 1), .ro, .ro, .ro, .ro, false, .cold, 0⟩, -- DEBUG_LEVEL
  ⟨0x9000, 1, 1, 11, 11, .bool, .ro, .ro, .ro, .ro, false, .backup, 0⟩ -- DEBUGGED
  ]

/-- Rows of indices 0x9000 to 0xE010. -/
def objRows7 : List Row := [
  ⟨0x9000, 1, 1, 12, 12, (.octets 32), .ro, .no, .ro, .ro, false, .cold, 0⟩, -- DBG_CHALLENGE
  ⟨0x9000, 1, 1, 13, 13, (.u 1), .wo, .no, .wo, .no, false, .cold, 0⟩, -- DBG_REQUEST
  ⟨0x9000, 1, 1, 14, 14, (.octets 64), .wo, .no, .wo, .no, false, .cold, 0⟩, -- DBG_RESPONSE
  ⟨0x9000, 1, 1, 15, 15, (.u 1), .wo, .no, .no, .no, false, .cold, 0⟩, -- SANITISE
  ⟨0x9000, 1, 1, 16, 16, (.u 4), .ro, .no, .ro, .ro, false, .cold, 0⟩, -- HANG_COUNT
  ⟨0x9010, 1, 1, 1, 1, (.u 4), .rw, .no, .rw, .no, false, .cold, 0⟩, -- FLASH_ADDR
  ⟨0x9010, 1, 1, 2, 2, .domain, .rw, .no, .rw, .no, false, .cold, 0⟩, -- FLASH_DATA
  ⟨0x9010, 1, 1, 3, 3, (.u 1), .wo, .no, .wo, .no, false, .cold, 0⟩, -- FLASH_OP
  ⟨0x9010, 1, 1, 4, 4, (.u 1), .ro, .no, .ro, .no, false, .cold, 0⟩, -- FLASH_STATUS
  ⟨0x9020, 1, 1, 1, 1, (.octets 64), .ro, .no, .ro, .ro, false, .configured, 0⟩, -- OWNER_KEY
  ⟨0x9020, 1, 1, 2, 2, (.octets 64), .ro, .no, .ro, .ro, false, .configured, 0⟩, -- DEBUG_KEY
  ⟨0xA000, 256, 1, 1, 9, (.u 8), .ro, .no, .ro, .rw, false, .cold, 0⟩, -- STALL_CYCLES
  ⟨0xA000, 256, 1, 10, 10, (.u 8), .ro, .no, .ro, .rw, false, .cold, 0⟩, -- BUSY_CYCLES
  ⟨0xA000, 256, 1, 11, 11, (.u 8), .ro, .no, .ro, .rw, false, .cold, 0⟩, -- ISSUED
  ⟨0xA000, 256, 1, 12, 12, (.u 8), .ro, .no, .ro, .rw, false, .cold, 0⟩, -- NOT_OK
  ⟨0xA100, 20, 1, 1, 9, (.u 8), .ro, .no, .ro, .rw, false, .cold, 0⟩, -- STALL_CYCLES
  ⟨0xA100, 20, 1, 10, 10, (.u 8), .ro, .no, .ro, .rw, false, .cold, 0⟩, -- BUSY_CYCLES
  ⟨0xA100, 20, 1, 11, 11, (.u 8), .ro, .no, .ro, .rw, false, .cold, 0⟩, -- ISSUED
  ⟨0xA100, 20, 1, 12, 12, (.u 8), .ro, .no, .ro, .rw, false, .cold, 0⟩, -- NOT_OK
  ⟨0xA120, 8, 1, 1, 9, (.u 8), .ro, .no, .ro, .rw, false, .cold, 0⟩, -- STALL_CYCLES
  ⟨0xA120, 8, 1, 10, 10, (.u 8), .ro, .no, .ro, .rw, false, .cold, 0⟩, -- BUSY_CYCLES
  ⟨0xA120, 8, 1, 11, 11, (.u 8), .ro, .no, .ro, .rw, false, .cold, 0⟩, -- ISSUED
  ⟨0xA120, 8, 1, 12, 12, (.u 8), .ro, .no, .ro, .rw, false, .cold, 0⟩, -- NOT_OK
  ⟨0xA200, 16, 1, 1, 12, (.u 8), .ro, .ro, .ro, .ro, true, .part, 0⟩, -- partition counters (R69)
  ⟨0xA800, 1, 1, 1, 1, (.u 1), .wo, .wo, .wo, .wo, false, .cold, 0⟩, -- SNAPSHOT
  ⟨0xA800, 1, 1, 2, 2, (.u 8), .rw, .rw, .rw, .rw, false, .cold, 0⟩, -- SNAPSHOT_TICK
  ⟨0xA800, 1, 1, 3, 3, (.u 8), .ro, .ro, .ro, .ro, false, .cold, 0⟩, -- SNAPSHOT_TAKEN
  ⟨0xA800, 1, 1, 4, 4, .bool, .wo, .no, .no, .wo, false, .cold, 0⟩, -- CLEAR
  ⟨0xE000, 1, 1, 1, 1, (.u 2), .rw, .no, .ro, .ro, false, .cold, 0⟩, -- STAIN_PERMIT
  ⟨0xE000, 1, 1, 2, 2, (.u 2), .ro, .no, .ro, .ro, false, .cold, 0⟩, -- STAIN_ARMED
  ⟨0xE000, 1, 1, 3, 3, (.u 2), .ro, .ro, .ro, .ro, true, .cold, 0⟩, -- STAINED_PARTS
  ⟨0xE010, 16, 1, 1, 1, (.u 1), .ro, .no, .ro, .rws, false, .cold, 0⟩, -- KIND
  ⟨0xE010, 16, 1, 2, 2, (.u 1), .ro, .no, .ro, .rws, false, .cold, 255⟩, -- PARTITION
  ⟨0xE010, 16, 1, 3, 3, (.u 2), .ro, .no, .ro, .rws, false, .cold, 65535⟩, -- UNIT
  ⟨0xE010, 16, 1, 4, 4, (.u 4), .ro, .no, .ro, .rws, false, .cold, 0⟩, -- AMOUNT
  ⟨0xE010, 16, 1, 5, 5, (.u 4), .ro, .no, .ro, .rws, false, .cold, 0⟩, -- PERIOD
  ⟨0xE010, 16, 1, 6, 6, (.u 8), .ro, .no, .ro, .rws, false, .cold, 0⟩, -- START_TICK
  ⟨0xE010, 16, 1, 7, 7, (.u 8), .ro, .no, .ro, .rws, false, .cold, 0⟩, -- STOP_TICK
  ⟨0xE010, 16, 1, 8, 8, .bool, .ro, .no, .ro, .rws, false, .cold, 0⟩, -- ARM
  ⟨0xE010, 16, 1, 9, 9, (.u 8), .ro, .no, .ro, .ro, false, .cold, 0⟩ -- APPLIED
  ]

/-- Every row. -/
def objRows : List Row := objRows1 ++ objRows2 ++ objRows3 ++ objRows4 ++ objRows5 ++ objRows6 ++ objRows7

/-- The row covers an index and sub-index. -/
def Row.covers (r : Row) (ix sub : Nat) : Bool :=
  r.index ≤ ix && (ix - r.index) % r.stride == 0 && (ix - r.index) / r.stride < r.count && r.lo ≤ sub && sub ≤ r.hi

/-- The row of an index and sub-index as tabulated; the snapshot area mirrors the counters (R70). -/
def rowOf (ix sub : Nat) : Option Row :=
  let ix := if 0xA400 ≤ ix && ix < 0xA800 then ix - 0x400 else ix
  objRows.find? (fun r => r.covers ix sub)

/-- The object that a row gives at an index and sub-index. -/
def Row.obj (r : Row) (ix sub : Nat) : Obj := ⟨ix * 256 + sub, r.dflt⟩

/-- The core whose disabling takes an object away (R15, R35, R68, R433); 255 for none. -/
def coreOfObj (ix sub : Nat) : Nat :=
  let jx := if 0xA400 ≤ ix && ix < 0xA800 then ix - 0x400 else ix
  if 0x3000 ≤ ix && ix < 0x4000 then (if (ix - 0x3000) % 0x40 = 0 && sub ≤ 3 then 255 else (ix - 0x3000) / 0x40)
  else if 0xA000 ≤ jx && jx < 0xA100 then (jx - 0xA000) / 4
  else if 0x7100 ≤ ix && ix < 0x7140 then ix - 0x7100
  else 255

/-- The object exists on this device: tabulated, and no object of a disabled core; core domains have no DOM_TARGET (R462). -/
def Dev.row (d : Dev) (ix sub : Nat) : Option Row :=
  let c := coreOfObj ix sub
  if (c < 64 && !bit (d.get K.CORE_PRESENT) c) || (0x7100 ≤ ix && ix < 0x7140 && sub == 2) then none else rowOf ix sub

end Sys2Proof.Machine
end

