-- ==== Sys2Proof/Machine/Rules.lean ====
section
/-! DEFINITION. The ranges of the objects and the cross-field rules of a commit (R56, R73, R86, R91, R279 to R287, R290, R306,
R309, R371, R376, R403, R406 to R413). -/
namespace Sys2Proof.Machine

/-- Reason codes (R59). -/
def rsNONE : Nat := 0
/-- NO_OBJECT. -/
def rsNOOBJ : Nat := 1
/-- NO_RIGHT. -/
def rsNORIGHT : Nat := 2
/-- OTHER_PARTITION. -/
def rsOTHER : Nat := 3
/-- LENGTH. -/
def rsLENGTH : Nat := 4
/-- VALUE. -/
def rsVALUE : Nat := 5
/-- LIVE_ACTIVE. -/
def rsACTIVE : Nat := 6
/-- STAGED_ELSEWHERE. -/
def rsELSE : Nat := 7
/-- COMMIT_PENDING. -/
def rsPENDING : Nat := 8
/-- TICK_PAST. -/
def rsPAST : Nat := 9
/-- SESSION. -/
def rsSESSION : Nat := 10
/-- VERSION. -/
def rsVERSION : Nat := 11
/-- NOT_OWNED. -/
def rsNOTOWNED : Nat := 12

/-! ## Ranges -/

/-- A value lies between two bounds. -/
def between (lo hi v : Nat) : Bool := lo ≤ v && v ≤ hi

/-- A ring size: a power of two from 16 to 65,536. -/
def ringSizeOk (v : Nat) : Bool := (List.range 13).any (fun i => v == 2 ^ (i + 4))

/-- `n` bytes from a fabric address lie in a partition's window on this device (R36, R37). -/
def Dev.inWindow (d : Dev) (p a n : Nat) : Bool :=
  bits a 63 52 == d.get K.DEVICE_NUMBER && !bit a 51 && bits a 50 47 == p && 1 ≤ n &&
  (bits a 46 0 + n - 1) / 0x200000 < d.get (K.WIN_PAGES p)

/-- A number or one further value. -/
def upTo (n other v : Nat) : Bool := v < n || v == other

/-- A value lies in its object's range, as far as the object itself says. -/
def Dev.rangeOk (d : Dev) (r : Row) (ix sub v : Nat) : Bool :=
  let p := ix - r.index
  (r.type != .bool || v ≤ 1) &&
  match r.index, sub with
  | 0x3003, _ => ringSizeOk v
  | 0x3006, _ => between 1 6 v || v == 255
  | 0x3016, 2 => between 64 65536 v
  | 0x3019, 2 => between 1 8 v
  | 0x3019, 3 => v ≤ 4096
  | 0x301B, 1 => v ≤ 4
  | 0x301B, 2 => v ≤ 1
  | 0x301C, 4 => between 1 3 v
  | 0x301D, 1 => v < 32
  | 0x1F00, 1 => between 1 3 v
  | 0x1200, 1 => v ≤ 1
  | 0x1200, 2 => between 1 4 v
  | 0x1200, 3 => upTo 16 255 v
  | 0x1200, 4 => v ≤ 0x41
  | 0xA800, 1 => between 1 2 v
  | 0xE010, 1 => v ≤ 8
  | 0xE010, 2 => upTo 16 255 v
  | 0x2000, 2 => v ≤ 2
  | 0x2000, 3 => upTo 64 255 v
  | 0x2100, 7 => between 1 255 v
  | 0x2300, 3 => v ≤ 31
  | 0x2300, 4 => between 1 62500000 v
  | 0x2300, 5 => v == 0 || (v % 4 == 0 && d.inWindow p v 4)
  | 0x2300, 6 => v ≤ 64
  | 0x2300, 7 => v == 0 || (v % 64 == 0 && d.inWindow p v 64)
  | 0x2300, 10 => v ≤ 64
  | 0x2300, 11 => v ≤ 64
  | 0x2300, 12 => v ≤ 64
  | 0x2300, 13 => between 1 1000000 v
  | 0x2300, 15 => between 1 255 v
  | 0x2300, 20 => between 1 4 v
  | 0x2300, 21 => v == 0
  | 0x4030, _ => v < 16 || v == 0xFD || v == 0xFF
  | 0x4060, 18 => v ≤ 4
  | 0x4060, s => 18 < s || upTo 16 255 v
  | 0x4140, 21 => ringSizeOk v
  | 0x5000, 3 => between 1 2 v
  | 0x5000, 4 => v < 16 || v == 0xFE || v == 0xFF
  | 0x5000, 8 => v ≤ 1000
  | 0x5040, 2 => between 1000 62500000 v
  | 0x5040, 3 => between 1 16 v
  | 0x5040, 7 => upTo 4096 0xFFFF v
  | 0x5100, 1 => upTo 16 255 v
  | 0x5100, 2 => v ≤ 7
  | 0x5100, 4 => between 1 4096 v
  | 0x5100, 8 => v ≤ 12
  | 0x5100, 9 => between 1 4096 v
  | 0x5100, 10 => between 1 62500000 v
  | 0x5100, 11 => between 1 (2 ^ 27) v
  | 0x5100, 12 => v % 4096 == 0
  | 0x5140, 1 => v % 64 == 0
  | 0x5140, 2 => between 1 4096 v
  | 0x5140, 3 => between 1 4096 v
  | 0x5140, 6 => ringSizeOk v
  | 0x6000, 1 => v ≤ 2
  | 0x6000, 2 => v ≤ 1
  | 0x6000, 3 => between 1 64 v
  | 0x6000, 6 => v ≤ 524288
  | 0x6000, 9 => between 1 62500 v
  | 0x6020, 2 => v ≤ 524288
  | 0x6020, 4 => v ≤ 1
  | 0x60F0, 1 => between 1000 62500000 v
  | 0x7100, 2 => v ≤ 4
  | 0x7100, s => s < 16 || v ≤ 4 || v == 255
  | 0x7000, 1 => between 1200 2800 v && v ≤ d.get K.PEAK_W
  | 0x7000, 2 => d.get K.CAP_W ≤ v && v ≤ 3200
  | 0x7000, 5 => v == 0
  | 0x8020, 1 => v < 64 && bit (d.get K.CORE_PRESENT) v
  | 0x8020, 2 => v < 64 && bit (d.get K.CORE_PRESENT) v && d.get K.PATTERN_OK == 1
  | 0x8100, 2 => between 1 64 v
  | 0x8100, 4 => v ≤ 31
  | 0x8100, 5 => between 2 8 v
  | 0x9000, 13 => v ≤ 2
  | 0x9000, 15 => v == 0x5A
  | 0x9010, 3 => between 1 3 v
  | _, _ => true

/-- A retention entry (R247). -/
def retRowOk (v : Nat) : Bool :=
  v == 0xFFFF || (v / 4096 < 4 && bits v 11 7 == 0 && v % 128 < spSize (v / 4096) / 4096)

/-! ## Cross-field rules -/

/-- Whoever owns a channel of the quadrant owns a way there (R283). -/
def Dev.waysOk (d : Dev) (q : Nat) : Bool :=
  (quadChans q).all (fun k => let p := d.owner k; 16 ≤ p || (List.range 16).any (fun w => d.get (K.SC_WAY_OWNER q w) == p))

/-- SC_ACC_OWNER owns every way that holds a locked unit (R284). -/
def Dev.accOk (d : Dev) (q : Nat) : Bool :=
  let n := d.get (K.SC_ACC_PAGES q)
  let p := d.get (K.SC_ACC_OWNER q)
  n == 0 || (p < 16 && (List.range (2 * n)).all (fun u => d.get (K.SC_WAY_OWNER q (15 - u / 3)) == p))

/-- The quotas of a quadrant (R287). -/
def Dev.quotaOk (d : Dev) (q : Nat) : Bool := ((List.range 16).map (fun p => d.get (K.TRK_QUOTA q p))).sum ≤ 64512

/-- Cores enabled and not fenced. -/
def Dev.usableCores (d : Dev) : List Nat := (List.range 64).filter d.coreUsable

/-- An active latency-critical partition. -/
def Dev.activeLC (d : Dev) (p : Nat) : Bool := d.get (K.PART_STATE p) == 1 && d.get (K.PART_CLASS p) == 0

/-- The slots of latency-critical partitions fit (R413). -/
def Dev.lcOk (d : Dev) : Bool :=
  let lc := (List.range 16).filter d.activeLC
  (lc.map (fun p => d.get (K.PART_SLOTS p))).sum ≤ d.usableCores.length &&
  lc.all (fun p => d.get (K.PART_SLOTS p) ≤ d.usableCores.countP (fun c => bit (d.get (K.CORE_MASK p)) c))

/-- The channels of a partition, in ascending order. -/
def Dev.channelsOf (d : Dev) (p : Nat) : List Nat := (List.range 320).filter (fun k => d.owner k == p)

/-- The targets of a map: physical pages, or accumulation pages as the entry spells them; none where it leaves the device
or its channel (R410). -/
def Dev.mapTargets (d : Dev) (p : Nat) : Option (List Nat) :=
  let e := d.get (K.MAP_ENTRY p)
  let t := bits e 20 2
  let n := d.get (K.MAP_COUNT p)
  if d.get (K.MAP_MODE p) = 0 then some ((List.range n).map (t + ·))
  else if bits e 62 61 ≠ 0 then none
  else
    let chs := d.channelsOf p
    match firstIdx (· == t / 1536) chs with
    | none => none
    | some j =>
      let at' (i : Nat) : Nat := t % 1536 + (j + i) / chs.length
      if (List.range n).all (fun i => at' i < 1536)
      then some ((List.range n).map (fun i => 1536 * chs.getD ((j + i) % chs.length) 0 + at' i)) else none

/-- A map may be applied (R410). -/
def Dev.mapOk (d : Dev) (p : Nat) : Bool :=
  let e := d.get (K.MAP_ENTRY p)
  let kind := bits e 62 61
  let first := d.get (K.MAP_FIRST p)
  let n := d.get (K.MAP_COUNT p)
  kind ≠ 3 && bits e 59 21 == 0 && bits e 1 0 == 0 && first + n ≤ d.get (K.WIN_PAGES p) &&
  (!bit e 63 ||
    (match d.mapTargets p with
     | none => false
     | some ts =>
       if kind = 0 then
         ts.all (fun g => g < 491520 && d.owner (g / 1536) == p &&
           !(g / 1536 == d.get (K.WIN_TABLE_CH p) && 1534 ≤ g % 1536)) &&
         distinct ts &&
         (d.part p).window.all (fun x => (first ≤ x.1 && x.1 < first + n) || !bit x.2 63 || bits x.2 62 61 != 0 ||
           !ts.contains (bits x.2 20 2))
       else ts.all (fun g => g < 32 && !bit g 2 && d.get (K.SC_ACC_OWNER (g / 8)) == p)))

/-- The value of ROUTE (R371): 8,192 bytes, all 0xFF where none was set. -/
def Dev.routeBytes (d : Dev) : List Nat :=
  let r := Map.get d.doms [] (0x5040 * 256 + 1)
  if r.isEmpty then List.replicate 8192 255 else r

/-- A ROUTE entry names no link in host mode but for that link's peer (R371). -/
def Dev.routeOk (d : Dev) : Bool :=
  let r := d.routeBytes
  r.length ≤ 8192 && r.all (upTo 64 255) && (List.range r.length).all (fun i =>
    let l := r.getD i 255
    64 ≤ l || d.get (K.LNK_MODE l) != 2 || d.get (K.LNK_PEER l) == i / 2)

/-- GROUP holds at most 64 numbers of two bytes (R371). -/
def Dev.groupOk (d : Dev) : Bool :=
  let n := (Map.get d.doms [] (0x5040 * 256 + 5)).length
  n ≤ 128 && n % 2 == 0

/-- A DOMAIN's value lies in its range: link numbers or none in ROUTE, whole numbers in GROUP (R371). -/
def domRangeOk (key : Nat) (bs : List Nat) : Bool :=
  if key = 0x5040 * 256 + 1 then bs.all (upTo 64 255) else if key = 0x5040 * 256 + 5 then bs.length % 2 == 0 else true

/-- A reduction channel's settings (R376, R403); the RX area counts for a channel that a partition owns. -/
def Dev.chanOk (d : Dev) (ch : Nat) : Bool :=
  let n := d.get (K.CH_SIZE ch)
  let p := d.get (K.CH_PART ch)
  let area := d.get (K.CH_RX_BYTES ch)
  d.get (K.CH_POS ch) < n && (n ≤ 1 || (d.get (K.CH_SUCC ch) ≤ 4095 && d.get (K.CH_PRED ch) ≤ 4095)) &&
  (16 ≤ p || (d.inWindow p (d.get (K.CH_RX_BASE ch)) area &&
    280 * d.get (K.CH_MAX_BLOCKS ch) + 880 * d.get (K.CH_REPASS_MAX ch) + 64 * n ≤ area))

/-- The partitions that hold work on a unit (R72). -/
def Dev.holders (d : Dev) (u : Nat) : List Nat :=
  let n := u % 4096
  let ps := List.range 16
  match u / 4096 with
  | 0 => ps.filter (fun p => d.get (K.CORE_OWNER (n / 64)) == p)
  | 1 => ps.filter (fun p => (d.sched p).shared.any (fun s => s.kind == 5 && s.num == n) || (Map.get (d.part p).up EngCtx.init n).fetched)
  | 2 => ps.filter (fun p => (List.range 32).any (fun ch => d.get (K.CH_RDE ch) == n && d.get (K.CH_PART ch) == p))
  | 3 => ps.filter (fun p => let o := d.get (K.LNK_OWNER n); o == p || (o == 0xFE && d.get (K.PART_STATE p) == 1))
  | 4 => ps.filter (fun p => (List.range 16).any (fun i => d.owner (16 * n + i) == p))
  | _ => if u / 4096 = 8 && n < 16 then [n] else []

/-- KIND matches the class of UNIT (R73). -/
def stainClassOk (kind unit : Nat) : Bool :=
  let n := unit % 4096
  let core := unit / 4096 == 0 && bits n 5 2 == 0
  let upe := unit / 4096 == 1 && n < 20
  let rde := unit / 4096 == 2 && n < 8
  let link := unit / 4096 == 3 && n < 64
  let part := unit / 4096 == 8 && n < 16
  match kind with
  | 1 => core
  | 2 => core || upe || rde
  | 3 => unit / 4096 == 4 && n < 20
  | 4 => link
  | 5 => link
  | 6 => rde
  | 7 => part
  | 8 => part
  | _ => false

/-- AMOUNT and PERIOD lie in their kind's ranges (R73). -/
def stainAmountOk (kind amount period : Nat) : Bool :=
  match kind with
  | 1 => between 1 65535 amount
  | 2 => between 1 65535 amount
  | 3 => between 1 4096 amount
  | 4 => between 1 4096 amount
  | 5 => amount == 0
  | 6 => between 1 65535 amount
  | 7 => amount ≤ 7 && period == 0
  | 8 => amount == 0 && 1000 ≤ period
  | _ => false

/-- The target of a stain slot is permitted and owns the unit, or all that hold work on it are permitted (R72). -/
def Dev.stainOwned (d : Dev) (s : Nat) : Bool :=
  let p := d.get (K.STAIN_PARTITION s)
  let u := d.get (K.STAIN_UNIT s)
  let ok (q : Nat) : Bool := bit (d.get K.STAIN_PERMIT) q
  let hs := d.holders u
  p < 16 && ok p && hs.contains p && (hs.all (· == p) || (hs.all ok && u / 4096 != 8))

/-- The checks of a stain slot that holds a stain, or is armed (log entry 60), in which its object `sub` takes part, in the order of R73: 0 or the first reason. -/
def Dev.stainFault (d : Dev) (s sub : Nat) : Nat :=
  let kind := d.get (K.STAIN_KIND s)
  if [1, 3, 8].contains sub && !stainClassOk kind (d.get (K.STAIN_UNIT s)) then rsVALUE
  else if [1, 4, 5, 8].contains sub && !stainAmountOk kind (d.get (K.STAIN_AMOUNT s)) (d.get (K.STAIN_PERIOD s)) then rsVALUE
  else if [6, 7, 8].contains sub && d.get (K.STAIN_STOP_TICK s) ≤ d.get (K.STAIN_START_TICK s) then rsVALUE
  else if [2, 3, 8].contains sub && !d.stainOwned s then rsNOTOWNED
  else 0

/-- A partition is created by a commit that may create it (R406, R495), apart from the rules that stand by themselves. -/
def Dev.createOk (d : Dev) (p : Nat) : Bool :=
  !(d.channelsOf p).isEmpty && (d.get (K.CORE_MASK p) &&& d.get K.CORE_PRESENT) == d.get (K.CORE_MASK p) && d.get K.BOOT_STATE == 8

/-- A resume commit at tick `t` (R91, R306): 0 or a reason. -/
def Dev.resumeFault (b a : Dev) (p t : Nat) : Nat :=
  if a.get (K.RESUME_TICK p) < t + 4 then rsPAST
  else if b.get (K.SCHED_STATE p) ≠ 4 || a.capacity p < (b.sched p).slots || b.get (K.DECISION p) = 3 ||
    (a.get (K.PART_CLASS p) = 0 && a.lcRoom p < (b.sched p).slots) then rsVALUE
  else 0

/-- A channel's owner changes as R279 lets it. -/
def ownerStep (old new : Nat) : Bool := old == new || (old == 0xFF && new < 16) || (old < 16 && new == 0xFD)

/-- The staged objects of a commit: key (index and sub-index) and value. -/
abbrev Keys := List (Nat × Nat)

/-- The staged value of an object, if any. -/
def Keys.look (ks : Keys) (o : Obj) : Option Nat := (ks.find? (fun e => e.1 == o.key)).map Prod.snd

/-- The first reason for which a staged object fails at a commit at tick `t`: its own range, then the rules in which it takes
part, on the state after the commit; `b` is the state before (R56). 0 where none fails. -/
def Dev.objFault (b a : Dev) (t : Nat) (ks : Keys) (ix sub v : Nat) : Nat :=
  let bad (c : Bool) : Nat := if c then 0 else rsVALUE
  let created := (List.range 16).filter (fun p => ks.look (K.PART_STATE p) == some 1)
  let mapped := (List.range 16).filter (fun p => match ks.look (K.MAP_COUNT p) with | some n => n != 0 | none => false)
  match rowOf ix sub with
  | none => rsNOOBJ
  | some r =>
    let n := ix - r.index
    if !a.rangeOk r ix sub v then rsVALUE
    else match r.index, sub with
    | 0x1200, _ => if b.get (K.SESSION_STATE n) = 0 then 0 else rsACTIVE
    | 0xE010, _ => if a.flag (K.STAIN_ARM n) || a.get (K.STAIN_KIND n) ≠ 0 then a.stainFault n sub else 0
    | 0x2100, 2 => bad (ks.look (K.ARM n) != some 1 || a.loadOk n t)
    | 0x2100, 3 => bad (ks.look (K.ARM n) != some 1 || a.loadOk n t)
    | 0x2100, 4 => if v = 1 then bad (a.loadOk n t) else bad (!(b.get (K.SCHED_STATE n) == 4 && b.get (K.DECISION n) == 3))
    | 0x2100, 5 => b.resumeFault a n t
    | 0x2300, 1 => bad (b.get (K.SCHED_STATE n) < 2 || a.phaseOk n (b.sched n))
    | 0x2300, 2 => bad (b.get (K.SCHED_STATE n) < 2 || a.phaseOk n (b.sched n))
    | 0x2300, 3 => bad (b.get (K.SCHED_STATE n) < 2 || a.get (K.DECIDE_TICK n) == 0 || a.get (K.CH_PART v) == n)
    | 0x2300, 10 => bad (between (a.get (K.LS_MIN n)) (a.get (K.LS_MAX n)) v)
    | 0x2300, 11 => bad (v ≤ a.get (K.LS_MAX n) && v ≤ a.get (K.LS_EXP n))
    | 0x2300, 12 => bad (a.get (K.LS_MIN n) ≤ v && a.get (K.LS_EXP n) ≤ v)
    | 0x3015, _ => bad (retRowOk v)
    | 0x4030, _ =>
      let k := 16 * n + (sub - 1)
      bad (ownerStep (b.owner k) v && a.waysOk (k / 80) &&
        (List.range 16).all (fun p => b.get (K.PART_STATE p) != 1 || a.get (K.PART_STATE p) != 1 ||
          b.get (K.WIN_TABLE_CH p) != k || v == p) &&
        created.all (fun p => !(a.channelsOf p).isEmpty) && mapped.all a.mapOk)
    | 0x4060, s => bad (a.waysOk n && a.accOk n && (s != 17 || mapped.all a.mapOk))
    | 0x4068, _ => bad (a.quotaOk n)
    | 0x5000, 3 => bad a.routeOk
    | 0x5000, 4 => bad (16 ≤ v || a.get (K.PART_STATE v) == 1)
    | 0x5040, 1 => bad a.routeOk
    | 0x5040, 5 => bad a.groupOk
    | 0x5100, s => bad (! [1, 4, 5, 6, 7, 9, 11, 12, 13].contains s || a.chanOk n)
    | 0x6000, 1 =>
      bad (((v == 1 && b.get (K.PART_STATE n) == 0 && !(b.part n).creating) || (v == 2 && b.get (K.PART_STATE n) == 1)) &&
        (v != 1 || (a.createOk n && (List.range 4).all (fun q => a.waysOk q && a.quotaOk q))) && a.lcOk)
    | 0x6000, 2 => bad a.lcOk
    | 0x6000, 3 => bad a.lcOk
    | 0x6000, 4 => bad (a.lcOk && (!created.contains n || a.createOk n))
    | 0x6000, 6 =>
      bad ((!mapped.contains n || a.mapOk n) &&
        (List.range 32).all (fun ch => a.get (K.CH_PART ch) != n || a.chanOk ch))
    | 0x6020, s => bad (4 < s || !mapped.contains n || a.mapOk n)
    | _, _ => 0

end Sys2Proof.Machine
end

