-- ==== Sys2Proof/Machine/Apply.lean ====
section
/-! DEFINITION. What a commit does beside setting its objects: lists, rings, channels, ways, accumulation areas, creation
and release of partitions, maps, schedules (R53 to R58, R87, R90, R91, R279 to R284, R406 to R410, R427, R534). -/
namespace Sys2Proof.Machine

/-! ## Sessions -/

/-- A session's record. -/
def Dev.session (d : Dev) (s : Nat) : Session := Map.get d.sessions Session.init s
/-- Replaces it. -/
def Dev.setSession (d : Dev) (s : Nat) (x : Session) : Dev := { d with sessions := Map.set d.sessions Session.init s x }

/-- Closes a session (R60, R65): its staging set, pending commit, segment buffer and kept tags go. -/
def Dev.closeSession (d : Dev) (s : Nat) : Dev :=
  ((d.setSession s Session.init).put (K.SESSION_STATE s) 0).put (K.SESSION_VERSION s) 0

/-- Opens a closed session (R65). -/
def Dev.openSession (d : Dev) (s : Nat) : Dev :=
  if d.get (K.SESSION_STATE s) = 0 then (d.setSession s Session.init).put (K.SESSION_STATE s) 1 else d

/-- Sessions whose state may change: all but session 0, always open, and the internal session 63 (R65). -/
def freeSession (s : Nat) : Bool := 1 ≤ s && s ≤ 62

/-- Closes the free sessions that a test picks. -/
def Dev.closeSessions (d : Dev) (sel : Nat → Bool) : Dev :=
  (List.range 64).foldl (fun d s => if freeSession s && d.get (K.SESSION_STATE s) ≠ 0 && sel s then d.closeSession s else d) d

/-! ## Slots (R48) -/

/-- The key of a slot's object in the staging set of a tenant: partition plus one above the index and sub-index. -/
def slotKeyOf (p ix sub : Nat) : Nat := (p + 1) * 2 ^ 24 + ix * 256 + sub

/-- Where an object of a tenant's core range is: on the core that holds the slot, or in the slot's image (partition, slot,
offset in the block). -/
def Dev.slotPlace (d : Dev) (p ix : Nat) : Nat ⊕ Nat :=
  let n := (ix - 0x3000) / 0x40
  let c := d.get (K.SLOT_CORE p n)
  if c < 64 then .inl c else .inr n

/-- The physical key of a staged key; a slot that is not resident keeps its slot key. -/
def Dev.resolve (d : Dev) (key : Nat) : Nat :=
  if key < 2 ^ 24 then key
  else
    let ix := key / 256 % 2 ^ 16
    match d.slotPlace (key / 2 ^ 24 - 1) ix with
    | .inl c => (0x3000 + 0x40 * c + (ix - 0x3000) % 0x40) * 256 + key % 256
    | .inr _ => key

/-- The value of an object in a slot's image. -/
def Dev.imageGet (d : Dev) (p n off dflt : Nat) : Nat := Map.get (Map.get (d.part p).images Image.init n).objs dflt off

/-- Sets an object in a slot's image. -/
def Dev.imagePut (d : Dev) (p n off v : Nat) : Dev :=
  let q := d.part p
  let i := Map.get q.images Image.init n
  d.setPart p { q with images := Map.set q.images Image.init n { i with objs := Map.set i.objs (slotDflt off) off v } }

/-- Puts one staged value in force. -/
def Dev.putStaged (d : Dev) (s : Staged) : Dev :=
  match s.dom with
  | some b => { d with doms := Map.set d.doms [] s.key b }
  | none =>
    let k := d.resolve s.key
    if k < 2 ^ 24 then
      match rowOf (k / 256) (k % 256) with
      | some r => d.put (r.obj (k / 256) (k % 256)) s.val
      | none => d
    else d.imagePut (k / 2 ^ 24 - 1) ((k / 256 % 2 ^ 16 - 0x3000) / 0x40) (k / 256 % 0x40 * 256 + k % 256) s.val

/-! ## Creation and release -/

/-- The index ranges of the objects of partition `p` that have retention class Partition (R50). -/
def partClass (p : Nat) : List Nat :=
  [0x2100 + p, 0x2200 + p, 0x2300 + p, 0x4140 + p, 0x5140 + p, 0x8100 + p, 0x8180 + p, 0xA200 + p]

/-- The objects of some indices return to their defaults. -/
def Dev.defaultIndices (d : Dev) (is : List Nat) : Dev := { d with objs := d.objs.filter (fun e => !is.contains (e.1 / 256)) }

/-- Creation at the commit tick (R406): key pair, empty window, metering cleared; PART_STATE follows when it completes. -/
def Dev.create (d : Dev) (p : Nat) : Dev :=
  let d := (d.defaultIndices [0x6100 + p]).setPwr { d.pwr with carry := Map.del d.pwr.carry (100 + p) }
  let q := d.part p
  let (k1, d) := d.draw 128
  let (k2, d) := d.draw 128
  let d := d.setPart p { Part.init with keyGen := (q.keyGen / 16 + 1) * 16 + p, keys := (k1, k2), creating := true, born := d.now }
  ((d.put (K.PART_STATE p) 0).put (K.WIN_TABLE_CH p) ((d.channelsOf p).headD 0xFFFF))

/-- The ways of the units of pages `lo` up to, not including, `hi` (R284). -/
def pageWays (lo hi : Nat) : List Nat := (((List.range (2 * hi)).drop (2 * lo)).map (fun u => 15 - u / 3)).eraseDups

/-- Ways of a quadrant begin to drain (kind 0), lock (1) or unlock (2). -/
def Dev.beginDrain (d : Dev) (kind q : Nat) (ws : List Nat) : Dev :=
  { d with mem := { d.mem with drain := d.mem.drain ++ (ws.map (fun w => (kind, 16 * q + w))).filter (fun e => !d.mem.drain.contains e) } }

/-- The bytes of pages `lo` up to `hi` of an accumulation area are zeroised. -/
def Dev.accClear (d : Dev) (q lo hi : Nat) : Dev :=
  { d with mem := { d.mem with acc := Map.delRange d.mem.acc (q * 0x800000 + lo * 0x200000) (q * 0x800000 + hi * 0x200000),
                               accBad := Map.delRange d.mem.accBad (q * 65536 + lo * 16384) (q * 65536 + hi * 16384) } }

/-- An accumulation area changes from an owner and pages to others (R284). -/
def Dev.accChange (d : Dev) (q o n : Nat) : Dev :=
  let o' := d.get (K.SC_ACC_OWNER q)
  let n' := d.get (K.SC_ACC_PAGES q)
  if o = o' && n = n' then d
  else if o = o' then
    if n < n' then (d.accClear q n n').beginDrain 1 q (pageWays n n') else (d.accClear q n' n).beginDrain 2 q (pageWays n' n)
  else
    let d := d.accClear q 0 4
    let d := if n' < n then d.beginDrain 2 q (pageWays n' n) else d
    if n' = 0 then d else d.beginDrain 1 q (pageWays 0 n')

/-- A channel passes to zeroising: its cached lines are invalidated without write-back (R279). -/
def Dev.channelDrop (d : Dev) (k : Nat) : Dev :=
  (d.dropLines (k / 80) false (fun _ c => c.line / chLines == k)).put (K.CH_OWNER (k / 16) (k % 16)) 0xFD

/-- Waiting requests of a partition's contexts and of some cores end with them. -/
def Dev.dropWaits (d : Dev) (p : Nat) (cores : List Nat) : Dev :=
  let mine (w : Nat) : Bool := if w / 4096 ≤ 4 then cores.contains (w / 32 % 128) else w % 32 == p
  { d with mem := { d.mem with trkWait := d.mem.trkWait.filterMap (fun (e : Nat × List Nat) =>
              let l := e.2.filter (fun w => !mine w)
              if l.isEmpty then none else some (e.1, l)) },
           remote := d.remote.filter (fun (e : Nat × Remote) =>
              !(if e.2.k ≤ 4 then cores.contains e.2.n else e.2.p == p)) }

/-- Commands of a shared context complete PREEMPTED. -/
def Dev.abortShared (d : Dev) (e : Eng) : Dev :=
  let x := d.ctx e
  x.busy.foldl (fun d f => d.finish e { f with status := stWorst f.status stPREEMPT, sig := 255 } (token 0))
    (d.setCtx e { x with busy := [] })

/-- Release at the commit tick (R427), while PART_STATE still reads 0x01. -/
def Dev.releasePart (d : Dev) (p : Nat) : Dev :=
  let cores := (d.slotCores p).map Prod.fst
  let d := cores.foldl (fun d c => d.abortCore c stPREEMPT) d
  let d := (List.range 20).foldl (fun d n => d.abortShared { k := 5, n := n, p := p }) d
  let d := (List.range 32).foldl (fun d ch =>
    if d.get (K.CH_PART ch) ≠ p then d
    else
      let d := match (d.chan ch).op with | some o => d.ringAbort ch o.bk.seq | none => d
      (((((d.setChan ch Chan.init).put (K.CH_PART ch) 0xFF).put (K.CH_STATE ch) 0).put (K.CH_NEXT_SEQ ch) 0).put (K.CH_OWED ch) 0)) d
  let d := ((d.unbind p).dropWaits p cores)
  let d := (cores.foldl Dev.freeCore d).fenceDue p
  let d := d.closeSessions (fun s => d.get (K.SESSION_PRINCIPAL s) == 2 && d.get (K.SESSION_PARTITION s) == p)
  let d := (List.range 16).foldl (fun d s => if d.get (K.STAIN_PARTITION s) = p then d.put (K.STAIN_ARM s) 0 else d) d
  let chs := d.channelsOf p
  let ways := (List.range 64).filter (fun i => d.get (K.SC_WAY_OWNER (i / 16) (i % 16)) == p)
  let accs := (List.range 4).filter (fun q => d.get (K.SC_ACC_OWNER q) == p && d.get (K.SC_ACC_PAGES q) != 0)
  let d := chs.foldl Dev.channelDrop d
  let d := ways.foldl (fun d i => (d.put (K.SC_WAY_OWNER (i / 16) (i % 16)) 0xFF).beginDrain 0 (i / 16) [i % 16]) d
  let d := (List.range 4).foldl (fun d q =>
    let d := d.put (K.TRK_QUOTA q p) 0
    let n := d.get (K.SC_ACC_PAGES q)
    if d.get (K.SC_ACC_OWNER q) ≠ p then d
    else ((d.put (K.SC_ACC_OWNER q) 0xFF).put (K.SC_ACC_PAGES q) 0).accChange q p n) d
  let d := (List.range 64).foldl (fun d l => if d.get (K.LNK_OWNER l) = p then d.put (K.LNK_OWNER l) 0xFF else d) d
  let q := d.part p
  let d := d.setState p 0
  let d := d.setPart p { Part.init with keyGen := q.keyGen, keys := q.keys, meters := q.meters,
                                        releasing := chs ++ ways.map (1000 + ·) ++ accs.map (2000 + ·) }
  let d := (d.defaultIndices (partClass p ++ [0x6000 + p, 0x6020 + p])).setPwr { d.pwr with asked := d.pwr.asked.filter (· != p) }
  (d.put (K.PART_STATE p) 2).tryAdmit

/-! ## Lists and rings -/

/-- LIST_BASE is written: the engine takes up its list from the header (log entry 35). -/
def EngCtx.restart (x : EngCtx) : EngCtx :=
  { x with fetched := false, refused := false, far := [], count := 0, bound := 0, index := 0, popped := none, late := false, gated := false, why := 0, hold := none }

/-- A ring gives way to a new one: commands issued so far keep it at its own position (R534). -/
def EngCtx.newRing (x : EngCtx) (base size pos : Nat) : EngCtx :=
  { x with rings := Map.set x.rings ⟨0, 1, 0⟩ x.gen ⟨base, size, pos⟩, gen := x.gen + 1 }

/-- A core engine's ring changes; `b` is the state before. -/
def Dev.ringChange (d b : Dev) (e : Eng) : Dev :=
  let (ob, os, op) := Dev.ringObjs e
  if b.get ob = d.get ob && b.get os = d.get os then d
  else if e.isCore then ((d.setCtx e ((d.ctx e).newRing (b.get ob) (b.get os) (b.get op))).put op 0)
  else
    let d := d.setCtx e.home ((d.ctx e.home).newRing (b.get ob) (b.get os) (b.get op))
    let d := (List.range (if e.k = 5 then 20 else 8)).foldl (fun d n =>
      if n = 0 then d else let y : Eng := { e with n := n }; d.setCtx y { d.ctx y with gen := (d.ctx e.home).gen }) d
    d.put op 0

/-- The same for a slot that is not resident; `off` is the engine's place, 1 to 4. -/
def Dev.imageRing (d b : Dev) (p n k : Nat) : Dev :=
  let old (o : Nat) : Nat := b.imageGet p n (o * 256 + k) (slotDflt (o * 256 + k))
  let new (o : Nat) : Nat := d.imageGet p n (o * 256 + k) (slotDflt (o * 256 + k))
  if old 2 = new 2 && old 3 = new 3 then d
  else
    let q := d.part p
    let i := Map.get q.images Image.init n
    let x := (Map.get i.core.eng EngCtx.init k).newRing (old 2) (old 3) (old 8)
    let d := d.setPart p { q with images := Map.set q.images Image.init n { i with core := { i.core with eng := Map.set i.core.eng EngCtx.init k x } } }
    d.imagePut p n (8 * 256 + k) 0

/-- A list of a slot that is not resident restarts. -/
def Dev.imageList (d : Dev) (p n k : Nat) : Dev :=
  let q := d.part p
  let i := Map.get q.images Image.init n
  let x := (Map.get i.core.eng EngCtx.init k).restart
  d.setPart p { q with images := Map.set q.images Image.init n { i with core := { i.core with eng := Map.set i.core.eng EngCtx.init k x } } }

/-- A commit changes LIST_BASE or ENGINE_RUN of a core's move engine, or a run-ahead setting (R263); `b` is the state
before. -/
def Dev.raChange (d b : Dev) (n off sub : Nat) : Bool :=
  match off with
  | 0x01 => sub == 3 && b.get (K.LIST_BASE n 2) != d.get (K.LIST_BASE n 2)
  | 0x05 => sub == 3 && b.get (K.ENGINE_RUN n 2) != d.get (K.ENGINE_RUN n 2)
  | 0x19 => b.get (K.RA_ENABLE n) != d.get (K.RA_ENABLE n) || b.get (K.RA_DEPTH n) != d.get (K.RA_DEPTH n) || b.get (K.RA_WINDOW n) != d.get (K.RA_WINDOW n)
  | _ => false

/-- What a staged object of a core does when it comes in force: a changed list, and for the matrix engine a changed ring,
restarts the fetch (R180, log entry 35). -/
def Dev.coreEffect (d b : Dev) (key : Nat) : Dev :=
  let k := b.resolve key
  let ix := k / 256 % 2 ^ 16
  let sub := k % 256
  if ix < 0x3000 || 0x4000 ≤ ix then d
  else
    let n := (ix - 0x3000) / 0x40
    let off := ix % 0x40
    if k < 2 ^ 24 then
      let d := if d.raChange b n off sub then d.raEmpty n else d
      let changed (o : Obj) : Bool := b.get o != d.get o
      let d := if off = 2 || off = 3 then d.ringChange b (eng sub n) else d
      if (off = 1 && changed (K.LIST_BASE n (sub - 1))) || (off = 2 && sub = 1 && changed (K.RING_BASE n 0))
      then d.setCtx (eng sub n) (d.ctx (eng sub n)).restart else d
    else
      let p := k / 2 ^ 24 - 1
      let at' (x : Dev) : Nat := x.imageGet p n (off * 256 + sub) (slotDflt (off * 256 + sub))
      let changed : Bool := at' b != at' d
      let d := if off = 2 || off = 3 then d.imageRing b p n sub else d
      if changed && (off = 1 || (off = 2 && sub = 1)) then d.imageList p n sub else d

/-! ## Maps and schedules -/

/-- Applies a map (R410). -/
def Dev.applyMap (d : Dev) (p : Nat) : Dev :=
  let e := d.get (K.MAP_ENTRY p)
  let base := e - bits e 20 2 * 4
  let n := d.get (K.MAP_COUNT p)
  let first := d.get (K.MAP_FIRST p)
  let ts := if bit e 63 then (d.mapTargets p).getD [] else List.replicate n (bits e 20 2)
  let q := d.part p
  let w := (ts.zipIdx).foldl (fun w t => Map.set w 0 (first + t.2) (base + 4 * t.1)) q.window
  (d.setPart p { q with window := w }).put (K.MAP_COUNT p) 0

/-- ARM comes in force (R86, R87, R90). -/
def Dev.applyArm (d : Dev) (p v : Nat) : Dev :=
  if v = 1 then d.loadSched p
  else
    let s := d.sched p
    match d.get (K.SCHED_STATE p) with
    | 2 => d.setSched p { s with endReq := true }
    | 3 => d.setSched p { s with endReq := true }
    | 4 => d.endSched p
    | _ => d

/-- What one staged object does beside taking its value; `b` is the state before the commit. -/
def Dev.objEffect (d b : Dev) (s : Staged) : Dev :=
  let key := s.key
  let ix := key / 256
  let sub := key % 256
  let v := s.val
  if 2 ^ 24 ≤ key || (0x3000 ≤ ix && ix < 0x4000) then d.coreEffect b key
  else match rowOf ix sub with
  | none => d
  | some r =>
    let n := ix - r.index
    match r.index, sub with
    | 0x4030, _ =>
      let k := 16 * n + (sub - 1)
      if b.owner k = v then d
      else if v = 0xFD then d.channelDrop k
      else { d with mem := { d.mem with cells := Map.delRange d.mem.cells (k * chBytes) ((k + 1) * chBytes) } }
    | 0x4060, w =>
      if w ≤ 16 then
        let o := b.get (K.SC_WAY_OWNER n (w - 1))
        if o = v || 16 ≤ o then d else d.beginDrain 0 n [w - 1]
      else d
    | 0x4140, w => if w = 20 || w = 21 then d.ringChange b { k := 5, n := 0, p := n } else d
    | 0x5140, w => if w = 5 || w = 6 then d.ringChange b { k := 6, n := 0, p := n } else d
    | 0xE010, 8 =>
      if v = 1 && b.get (K.STAIN_ARM n) = 0 then ({ d with stainN := Map.del d.stainN n } : Dev).put (K.STAIN_APPLIED n) 0 else d
    | 0x2100, 5 => let x := d.sched n; d.setSched n { x with resumeAt := some v }
    | _, _ => d

/-- The partitions whose PART_STATE a staging set sets to `v`. -/
def stateParts (st : List Staged) (v : Nat) : List Nat :=
  (List.range 16).filter (fun p => st.any (fun s => s.key == (K.PART_STATE p).key && s.val == v))

/-- The state in which the rules are checked: every staged value in force; a partition to be created with its own objects
at their defaults first (R50, R56). -/
def Dev.staging (b : Dev) (st : List Staged) : Dev :=
  st.foldl Dev.putStaged ((stateParts st 1).foldl (fun d p => d.defaultIndices (partClass p)) b)

/-- A commit takes effect (R58): `b` is the state before. -/
def Dev.applyStaged (b : Dev) (st : List Staged) : Dev :=
  let old := (List.range 16).map b.capacity
  let d := b.staging st
  let d := st.foldl (fun d s => d.objEffect b s) d
  let d := (List.range 4).foldl (fun d q => d.accChange q (b.get (K.SC_ACC_OWNER q)) (b.get (K.SC_ACC_PAGES q))) d
  let d := (stateParts st 1).foldl Dev.create d
  let has (o : Obj) (f : Nat → Bool) : Bool := st.any (fun s => s.key == o.key && f s.val)
  let d := (List.range 16).foldl (fun d p => if has (K.MAP_COUNT p) (· != 0) then d.applyMap p else d) d
  let d := (stateParts st 2).foldl (fun d p => (d.put (K.PART_STATE p) 1).releasePart p) d
  let d := (List.range 16).foldl (fun d p =>
    if has (K.ARM p) (· == 1) then d.applyArm p 1 else if has (K.ARM p) (· == 0) then d.applyArm p 0 else d) d
  let d := (List.range 16).foldl (fun d p => d.capacityRecord p (old.getD p 0)) d
  let d := if (List.range 16).any (fun s => has (K.STAIN_ARM s) (· == 1) && d.stainActs s 7) ||
      (List.range 16).any (fun p => has (K.ARM p) (· == 1)) then d.choosePoints else d
  if st.any (fun s => s.key / 256 / 16 == 0x600) then d.tryAdmit else d

end Sys2Proof.Machine
end

