-- ==== Sys2Proof/Machine/Boot.lean ====
section
/-! DEFINITION. Reset, the boot order, recovery mode, the flash, the pins and the test port (R488 to R507, R513, R514, R522 to
R529, R533). -/
namespace Sys2Proof.Machine

/-- Replaces the device. -/
def State.setDev (s : State) (d : Dev) : State := { s with dev := d }
/-- Replaces the boot and security part. -/
def State.setSec (s : State) (x : Sec) : State := { s with sec := x }

/-- BOOT_STATE. -/
def Dev.bootState (d : Dev) : Nat := d.get K.BOOT_STATE

/-- The device is held in reset (R489, R524, R528) or halted (R494). -/
def State.halted (s : State) : Bool :=
  s.sec.resetN || s.sec.railBad || s.sec.thermtrip || s.dev.bootState == 0xFF

/-- Nothing in the device works: it is held or halted, or its service die is shut down (R440, R442). -/
def State.stopped (s : State) : Bool := s.halted || s.dev.get (K.DOM_STATE 76) == 4

/-- The dictionary is served (R495): from step 4, and not in recovery mode. -/
def State.served (s : State) : Bool :=
  !s.stopped && (s.dev.bootState == 6 || s.dev.bootState == 7 || s.dev.bootState == 8 || s.dev.bootState == 0x81)

/-! ## Pins (R528) -/

/-- ALERT_N is low, where the controller drives it. -/
def Dev.alertLow (d : Dev) : Bool := d.log.alert || d.get K.CAP_STATUS != 0 || d.get K.CTRL_MODE == 1
/-- FAULT_N is low, where the controller drives it. -/
def Dev.faultLow (d : Dev) : Bool :=
  d.bootState == 0x80 || d.bootState == 0x81 || d.bootState == 0xFF || d.get K.DEVICE_HEALTH == 2
/-- ALERT_N is low: in reset it holds its state (R493). -/
def State.alertN (s : State) : Bool := if s.sec.resetN || s.sec.railBad || s.sec.thermtrip then s.sec.alertPin else s.dev.alertLow
/-- FAULT_N is low. -/
def State.faultN (s : State) : Bool := if s.sec.resetN || s.sec.railBad || s.sec.thermtrip then s.sec.faultPin else s.dev.faultLow

/-- ALERT_EXPIRE (R528): the millisecond after the last record is over. -/
def Dev.alertExpire (d : Dev) : Dev :=
  if d.log.alert && d.log.alertAt + 62500 ≤ d.now then { d with log := { d.log with alert := false } } else d

/-! ## Records (R514) -/

/-- The step that a record names: 0 in service. -/
def Dev.bootStep (d : Dev) : Nat := if 1 ≤ d.bootState && d.bootState ≤ 7 then d.bootState else 0

/-- A record of this chapter. -/
def bootRec (kind step detail value unit : Nat) : RecInfo :=
  { cls := 9, syndrome := kind * 2 ^ 28 + step % 16 * 2 ^ 24 + detail % 256 * 2 ^ 16 + value % 2 ^ 16, aux := 0, unit := unit,
    index := 0, opcode := 0xFF, status := 0, part := 0xFF }

/-- Files it; the Krytsen core's unless it names another unit. -/
def Dev.bootRecord (d : Dev) (kind detail value : Nat) : Dev := d.file (bootRec kind d.bootStep detail value 0x7000)

/-- A record kept in the backup domain alone: recovery mode has no logger (R506, R514). -/
def Dev.bootKeep (d : Dev) (i : RecInfo) : Dev :=
  let r : ErrRec := { seq := d.get K.LOG_COUNT, cls := i.cls, part := i.part, status := i.status, opcode := i.opcode, volt := 0, temp := 0,
                      unit := i.unit, index := i.index, syndrome := i.syndrome, aux := i.aux, tick := d.now }
  { d with log := { d.log with bkp := (r :: d.log.bkp).take 64 } }

/-! ## The flash (R500, R507) -/

/-- Bytes of the flash: 2 Gib. -/
def flashSize : Nat := 0x10000000

/-- Bytes from a flash offset. -/
def Sec.bytes (x : Sec) (a n : Nat) : List Nat := (List.range n).map (fun i => (Map.get x.flash 0xFF (a + i)).toNat)

/-- Erases the sectors that hold offsets `a` up to, not including, `b`. -/
def Sec.erase (x : Sec) (a b : Nat) : Sec := { x with flash := Map.delRange x.flash a b }

/-- Programs bytes: a bit once 0 stays 0 until its sector is erased (log entry 36). -/
def Sec.program (x : Sec) (a : Nat) (bs : List Nat) : Sec :=
  { x with flash := (bs.zipIdx).foldl (fun m b =>
      if a + b.2 < flashSize then Map.set m 0xFF (a + b.2) (Map.get m 0xFF (a + b.2) &&& BitVec.ofNat 8 b.1) else m) x.flash }

/-- FLASH_DATA's key. -/
def flashKey : Nat := 0x9010 * 256 + 2

/-- FLASH_OP (R507, R515): operations are serialised; each takes the address and the data of its write. -/
def State.flashOp (s : State) (op : Nat) : State :=
  let job : Nat × Nat × List Nat := (op, s.dev.get K.FLASH_ADDR, Map.get s.dev.doms [] flashKey)
  { s with sec := { s.sec with flashQ := s.sec.flashQ ++ [job] }, dev := s.dev.put K.FLASH_STATUS 1 }

/-- FLASH_OP_DONE: the operation in progress ends, well where `ok`. An operation beyond the flash fails. -/
def State.flashOpDone (s : State) (ok : Bool) : State :=
  match s.sec.flashQ with
  | [] => s
  | (op, a, data) :: r =>
    let x := { s.sec with flashQ := r }
    let fits := a < flashSize
    let good := ok && fits
    let st (d : Dev) : Dev := d.put K.FLASH_STATUS (if !r.isEmpty then 1 else if good then 2 else 3)
    if !good then { s with sec := x, dev := st s.dev }
    else match op with
      | 1 => { s with sec := x.erase (a / 65536 * 65536) ((a / 65536 + 1) * 65536), dev := st s.dev }
      | 2 => { s with sec := x.program a data, dev := st s.dev }
      | _ => { s with sec := x, dev := st { s.dev with doms := Map.set s.dev.doms [] flashKey (x.bytes a (min 4096 (flashSize - a))) } }

/-! ## The image (R501 to R503) -/

/-- The image's check (R502): none where it holds, else the KIND and VALUE of its record. -/
def Sec.imageFault (x : Sec) (svnMin : Nat) : Option (Nat × Nat) :=
  let h := x.bytes 0 224
  let w (lo n : Nat) : Nat := ofLE ((h.drop lo).take n)
  if w 0 4 ≠ 0x4E444557 || w 4 2 ≠ 1 || w 6 2 ≠ 2 then some (1, 0)
  else if !Config.sm2Verify (Config.romKey 0) (h.take 160) (ofLE (h.drop 160)) then some (2, 0)
  else if w 12 4 < svnMin then some (5, w 12 4)
  else if Config.sm3 (x.bytes (w 48 4) (w 52 4)) ≠ w 56 32 then some (2, 0)
  else none

/-! ## The configuration object (R504, R505) -/

/-- An entry: index, sub-index, bytes. -/
abbrev CfgEntry := Nat × Nat × List Nat

/-- The entries that some bytes spell; none where they do not end with an entry. -/
def cfgEntries (fuel : Nat) (bs : List Nat) : Option (List CfgEntry) :=
  match fuel, bs with
  | _, [] => some []
  | 0, _ => none
  | n + 1, bs =>
    let len := ofLE ((bs.drop 4).take 4)
    let all := 8 + ceilDiv len 4 * 4
    if bs.length < 8 || 65536 < len || bs.length < all then none
    else (cfgEntries n (bs.drop all)).map (fun r => (ofLE (bs.take 2), bs.getD 2 0, (bs.drop 8).take len) :: r)

/-- A part's signed bytes and entries, where format, device and signature hold. -/
def Sec.cfgPart (x : Sec) (at' part id key : Nat) : Option (List Nat × List CfgEntry) :=
  let h := x.bytes at' 64
  let w (lo n : Nat) : Nat := ofLE ((h.drop lo).take n)
  let len := w 12 4
  if w 0 4 ≠ 0x47464357 || w 4 2 ≠ 1 || w 6 2 ≠ part || 65536 < 128 + len || w 32 32 ≠ id then none
  else
    let body := x.bytes at' (64 + len)
    if !Config.sm2Verify key body (ofLE (x.bytes (at' + 64 + len) 64)) then none
    else (cfgEntries len (body.drop 64)).map (fun es => (body, es))

/-- An entry has its object's type and, where `conf`, names a Configured object that the operator may set. -/
def cfgTypeOk (conf : Bool) (e : CfgEntry) : Bool :=
  match rowOf e.1 e.2.1 with
  | none => false
  | some r =>
    (match r.type.bytes with | some n => e.2.2.length == n | none => decide (e.2.2.length ≤ 65536)) &&
    (!conf || (r.ret == .configured && r.index != 0x9020))

/-- Puts an entry in force. -/
def Dev.cfgPut (d : Dev) (e : CfgEntry) : Dev :=
  match rowOf e.1 e.2.1 with
  | none => d
  | some r => if r.type = .domain then { d with doms := Map.set d.doms [] (e.1 * 256 + e.2.1) e.2.2 }
              else d.put (r.obj e.1 e.2.1) (ofLE e.2.2)

/-- An entry's value stands on the applied set: its range and the cross-field rules (R56, R505). -/
def Dev.cfgOk (d : Dev) (e : CfgEntry) : Bool := decide (Dev.objFault d d 0 [] e.1 e.2.1 (ofLE (e.2.2.take 64)) = 0)

/-- The operator part applied (R505): the device, whether it was applied, whether it was refused. -/
def State.operatorPart (s : State) : Dev × Nat × List Nat :=
  let d := s.dev
  if ofLE (s.sec.bytes 0x120000 4) = 0xFFFFFFFF then (d, 0, [])
  else
    let no (d : Dev) (i : Nat) : Dev × Nat × List Nat := (d.file (bootRec 4 4 0 i 0x7000), 4, [])
    match s.sec.cfgPart 0x120000 2 (d.get K.DEVICE_ID) (d.get K.OWNER_KEY) with
    | none => no d 0
    | some (body, es) =>
      match firstIdx (fun e => !cfgTypeOk true e) es with
      | some i => no d i
      | none =>
        let d' := es.foldl Dev.cfgPut d
        match firstIdx (fun e => !d'.cfgOk e) es with
        | some i => no d i
        | none => (d', 2, body)

/-! ## What a reset leaves (R491) -/

/-- An object of the backup domain, or the Krytsen counter SVN_MIN (R491, R503). -/
def keptObj (key : Nat) : Bool :=
  key == K.SVN_MIN.key ||
  match rowOf (key / 256) (key % 256) with | some r => r.ret == .backup | none => false

/-- The device after a reset source, before step 1: everything gone but the backup domain, which a power-on empties too
(log entry 8 for what the model itself carries on). -/
def Dev.afterReset (d : Dev) (cold : Bool) : Dev :=
  let kept := d.objs.filter (fun e => e.1 == K.SVN_MIN.key || (!cold && keptObj e.1))
  { Dev.init with
    free := d.free + 1,
    objs := kept.foldr (fun e m => Map.ins m e.1 e.2) Dev.init.objs,
    parts := d.parts.filterMap (fun (e : Nat × Part) => if e.2.keyGen = 0 then none else some (e.1, { Part.init with keyGen := e.2.keyGen })),
    log := { Log.init with bkp := if cold then [] else d.log.bkp } }

/-- The security part after a reset source. -/
def Sec.afterReset (x : Sec) (cold : Bool) : Sec :=
  { Sec.init with flash := x.flash, resetN := x.resetN, railBad := x.railBad, thermtrip := x.thermtrip, alertPin := x.alertPin,
                  faultPin := x.faultPin, coldCause := x.coldCause, i3cAddr := if cold then 0 else x.i3cAddr, out := x.out,
                  tap := x.tap }

/-- The device is held in reset, its outputs as they stand (R489, R493). -/
def State.hold (s : State) (x : Sec) : State :=
  if s.sec.resetN || s.sec.railBad || s.sec.thermtrip then { s with sec := x }
  else { s with sec := (({ x with alertPin := s.dev.alertLow, faultPin := s.dev.faultLow } : Sec).afterReset false),
                dev := s.dev.afterReset false }

/-! ## The reset order (R494) -/

/-- Recovery mode (R506): links L00 to L07 in host mode; the failure's record is kept in the backup domain. -/
def State.recover (s : State) (kind step value : Nat) : State :=
  let d := s.dev.put K.BOOT_STATE 0x80
  let d := (List.range 8).foldl (fun d l => d.put (K.LNK_MODE l) 2) d
  let d := if kind = 0 then d else d.bootKeep (bootRec kind step 0 value 0x7000)
  { s with sec := { s.sec with failKind := kind, recErased := [] }, dev := d }

/-- Step 5 (R275, R491, R496): training, zeroisation, the stage caches; step 6 begins. -/
def Dev.trainStacks (d : Dev) (e : BootEnv) : Dev :=
  let bad := (List.range 20).filter (bit e.failStacks)
  let d := (List.range 20).foldl (fun d i => d.put (K.HBM_STATE i) (if bad.contains i then 3 else 1)) d
  let d := d.put K.BOOT_STATE (if bad.isEmpty then 6 else 0x81)
  bad.foldl (fun d i =>
    (d.hbmRecord 4 (16 * i * chBytes) 0 0xFF 0 0xFF).file (bootRec 7 5 i 0 0x7000)) d

/-- Steps 4 to 6 with a good factory part. -/
def State.bootOn (s : State) (e : BootEnv) (fac : List Nat) (es : List CfgEntry) (lost : Bool) : State :=
  let h := s.sec.bytes 0 224
  let w (lo n : Nat) : Nat := ofLE ((h.drop lo).take n)
  let d := es.foldl Dev.cfgPut s.dev
  let d := (d.put K.IMAGE_SVN (w 12 4)).put K.FW_VERSION (w 8 4)
  let d := if lost then d.file (bootRec 0xB 1 0 0 0x7000) else d
  let (d, bit', op) := ({ s with dev := d } : State).operatorPart
  let ver (a : Nat) : Nat := ofLE (s.sec.bytes (a + 8) 4) % 2 ^ 16
  let d := (d.put K.CONFIG_STATUS (1 + bit')).put K.CONFIG_VERSION (ver 0x100000 * 2 ^ 16 + (if bit' = 2 then ver 0x120000 else 0))
  let d := d.setPwr { d.pwr with capNow := d.get K.CAP_W }
  let d := (List.range 4).foldl (fun d q =>
    let d := d.put (K.TRIM_MV q) (min 40 (e.trims.getD q 0))
    d.put (K.V_SET_MV q) (d.voltage q 0)) d
  let body := s.sec.bytes (w 48 4) (w 52 4)
  let dg : Map Nat := [(1, Config.romDigest), (2, Config.sm3 (h ++ body)), (3, Config.sm3 fac), (4, if op.isEmpty then 0 else Config.sm3 op),
                       (5, Config.sm3 (s.sec.bytes (w 88 4) (w 92 4)))]
  { s with sec := { s.sec with digests := dg }, dev := d.trainStacks e }

/-- The reset order from step 1 (R494): its steps up to the beginning of step 6 are taken at once (log entry 37). -/
def State.bootSteps (s : State) (cause : Nat) (count : Bool) (e : BootEnv) : State :=
  let s := { s with sec := { s.sec with boot := 0 } }
  let d := s.dev
  let fenced := d.get K.FENCE_MASK
  let d := if e.backupCrcOk then d
    else { d with objs := d.objs.filter (fun o => o.1 == K.SVN_MIN.key || !keptObj o.1), log := { d.log with bkp := [] },
                  scanHold := setBits 64 fenced }
  let d := d.put K.RESET_CAUSE cause
  let d := if count then Dev.bump 32 d K.RESET_COUNT 1 else d
  let s := s.setDev d
  if !e.pufOk then s.setDev (d.put K.BOOT_STATE 0xFF)
  else if e.rcvrLow then s.recover 0 2 0
  else match s.sec.imageFault (d.get K.SVN_MIN) with
    | some (k, v) => s.recover k 3 v
    | none =>
      match s.sec.cfgPart 0x100000 1 (d.get K.DEVICE_ID) (Config.romKey 1) with
      | none => s.recover 3 4 0
      | some (body, es) => if es.all (cfgTypeOk false) then s.bootOn e body es (!e.backupCrcOk) else s.recover 3 4 0

/-- POWER_ON_RESET (R488, R490, R491, R523, R528): the main rails have risen, or VBKP was lost. With RESET_N low it waits for
its rise; with THERMTRIP_N latched and a sensor still at 100 °C or above the device stays in reset. -/
def State.powerOnReset (s : State) (vbkp : Bool) (e : BootEnv) : State :=
  let cause := if vbkp then 4 else 1
  if s.sec.thermtrip && !e.cool then s
  else
    let x := { s.sec with railBad := false, thermtrip := false, alertPin := false, faultPin := false }
    let s := { s with sec := x.afterReset true, dev := s.dev.afterReset true }
    if s.sec.resetN then { s with sec := { s.sec with coldCause := cause } }
    else ({ s with sec := { s.sec with coldCause := 0 } } : State).bootSteps cause false e

/-- RESET_N_ASSERT (R488, R489). -/
def State.resetNAssert (s : State) : State :=
  if s.sec.resetN then s else s.hold { s.sec with resetN := true }

/-- RESET_N_RELEASE (R488 to R490): the warm reset begins, or the power-on that came while RESET_N was low. -/
def State.resetNRelease (s : State) (e : BootEnv) : State :=
  if !s.sec.resetN then s
  else
    let c := s.sec.coldCause
    let s := { s with sec := { s.sec with resetN := false, coldCause := 0 } }
    if s.sec.railBad || s.sec.thermtrip then s
    else s.bootSteps (if c = 0 then 2 else c) (c = 0) e

/-- RAIL_FAULT (R524): a main rail out of tolerance holds the device in reset until it takes a power-on reset. -/
def State.railFault (s : State) (_rail : Nat) : State := s.hold { s.sec with railBad := true }

/-- THERMTRIP (R528). -/
def State.thermtrip (s : State) : State := s.hold { s.sec with thermtrip := true }

/-- WAKE_N (R442, R488): steps 1 to 7 from device OFF, the backup domain kept, RESET_COUNT as it stands. -/
def State.wakeN (s : State) (e : BootEnv) : State :=
  if s.halted || s.dev.get (K.DOM_STATE 76) ≠ 4 then s
  else ({ s with sec := s.sec.afterReset false, dev := s.dev.afterReset false } : State).bootSteps 3 false { e with rcvrLow := false }

/-- Step 7 for some cores (R494, R495, R522): enabled, not fenced, in a quadrant whose regulator answers, not to be scanned
first. -/
def Dev.releaseCores (d : Dev) (cs : List Nat) : Dev :=
  (cs.filter (fun c => d.coreUsable c && !d.avs.contains (quadOf c) && !d.scanHold.contains c && !bit d.released c)).foldl
    (fun d c => ({ d with released := withBit d.released c true } : Dev).zeroise c) d

/-- CORE_RELEASE (R82, R495): at 1,600 ms, or at LOCKED where that comes later. -/
def State.coreRelease (s : State) : State :=
  if s.stopped || s.dev.bootState ≠ 6 || s.sec.boot < 100000000 || s.dev.get K.FT_STATE ≠ 2 then s
  else
    let d := (s.dev.put K.BOOT_MS (s.sec.boot / 62500)).put K.BOOT_STATE 8
    let d := d.releaseCores (List.range 64)
    s.setDev (d.scanHold.foldl Dev.queueScan { d with scanFrom := d.now })

/-- PATTERN_CHECK_DONE (R502). -/
def Dev.patternCheckDone (d : Dev) (ok : Bool) : Dev :=
  if d.get K.PATTERN_OK ≠ 0 || d.recovery || d.bootState < 4 then d
  else if ok then d.put K.PATTERN_OK 1 else (d.put K.PATTERN_OK 2).bootRecord 6 0 0

/-- BUS_HANG (R499): the unit is a stage cache or a die-to-die edge. -/
def Dev.busHang (d : Dev) (unit : Nat) : Dev :=
  if unit / 4096 = 5 || unit / 4096 = 6 then (Dev.bump 32 d K.HANG_COUNT 1).file (bootRec 0xA d.bootStep 0 0 unit) else d

/-- AVS_TIMEOUT (R522): the quadrant's cores stay unreleased; a clock below the floor has its record. -/
def Dev.avsTimeout (d : Dev) (q : Nat) : Dev :=
  let d := if d.avs.contains q then d else { d with avs := d.avs ++ [q] }
  if d.get (K.FREQ_MHZ q) < d.get (K.FLOOR_MHZ q) then d.pwrRecord 4 q 0 (d.get (K.FREQ_MHZ q)) else d

/-- AVSBUS_ANSWER (R522). -/
def Dev.avsbusAnswer (d : Dev) (q : Nat) : Dev :=
  let d := { d with avs := d.avs.erase q }
  if d.bootState = 8 then d.releaseCores ((List.range 16).map (16 * q + ·)) else d

/-- THERMAL_OBJECTS_UPDATE (R533): the readings of 24 sensors of each quadrant and of four of the service die. -/
def Dev.thermalUpdate (d : Dev) (temps : List Nat) : Dev :=
  let top (l : List Nat) : Nat := (l.map (· % 2 ^ 16)).foldl max 0
  let d := (List.range 4).foldl (fun d q => d.put (K.TJ_QUAD q) (top ((temps.drop (24 * q)).take 24))) d
  let d := d.put K.TJ_SVC (top ((temps.drop 96).take 4))
  d.put K.TJ_PEAK (max (d.get K.TJ_PEAK) (top (temps.take 100)))

/-- TAP_INSTRUCTION (R511, R529): an instruction that the debug level does not allow, and a pin-driving one while RESET_N is
high, acts as BYPASS. -/
def State.tapInstruction (s : State) (i : TapInstr) : State :=
  let full := s.dev.get K.DEBUG_LEVEL == 2
  let eff : TapInstr := match i with
    | .extest => if s.sec.resetN then .extest else .bypass
    | .extestPulse => if s.sec.resetN then .extestPulse else .bypass
    | .extestTrain => if s.sec.resetN then .extestTrain else .bypass
    | .internalScan => if full then .internalScan else .bypass
    | .memoryAccess => if full then .memoryAccess else .bypass
    | i => i
  { s with sec := { s.sec with tap := eff } }

/-! ## Recovery mode (R506) -/

/-- Answers a VC4 request on the link on which it came. -/
def Dev.recAnswer (d : Dev) (l : Nat) (m : Msg) (op st : Nat) (data : List Nat) : Dev :=
  d.enqueue l (txMsg 4 m.src m.dest m.part m.priv m.id op st (ofLE ((m.payload.drop 8).take 4)) (ofLE (m.payload.take 8)) data)

/-- The physical offset of a request. -/
def recOffset (m : Msg) : Nat := bits (ofLE (m.payload.take 8)) 50 0

/-- The length of a request. -/
def recLen (m : Msg) : Nat := ofLE ((m.payload.drop 8).take 4)

/-- Where the flash begins in recovery mode's aperture. -/
def recFlash : Nat := 0x20000000000
/-- Where its status lies. -/
def recStatus : Nat := 0x2FF00000000

/-- The request is a write that asks for verification. -/
def recIsVerify (m : Msg) : Bool := recOffset m == recStatus + 8

/-- RECOVERY_FLASH_WRITE: the oldest WRITE on the link; the first into a sector erases it. -/
def State.recoveryFlashWrite (s : State) (l : Nat) : State :=
  if s.stopped || !s.dev.recovery then s
  else match s.dev.takeMsg l 4 (fun m => m.payload.getD 12 0 == 3 && !recIsVerify m) with
    | none => s
    | some (m, d) =>
      let a := recOffset m - recFlash
      let n := recLen m
      if recOffset m < recFlash || flashSize < a + n || n = 0 then s.setDev (d.recAnswer l m 6 stRANGE [])
      else
        let secs := ((List.range ((a + n - 1) / 65536 + 1)).drop (a / 65536)).filter (fun x => !s.sec.recErased.contains x)
        let x := secs.foldl (fun x i => x.erase (i * 65536) ((i + 1) * 65536)) { s.sec with recErased := s.sec.recErased ++ secs }
        { s with sec := x.program a ((m.payload.drop 16).take n), dev := d.recAnswer l m 4 stOK [] }

/-- The status bytes of recovery mode. -/
def State.recBytes (s : State) : List Nat := [s.dev.bootState, s.sec.failKind, 0, 0] ++ toLE 4 (s.dev.get K.SVN_MIN)

/-- RECOVERY_FLASH_READ: the oldest READ_REQ on the link. -/
def State.recoveryFlashRead (s : State) (l : Nat) : State :=
  if s.stopped || !s.dev.recovery then s
  else match s.dev.takeMsg l 4 (fun m => m.payload.getD 12 0 == 1) with
    | none => s
    | some (m, d) =>
      let o := recOffset m
      let n := recLen m
      if recFlash ≤ o && o - recFlash + n ≤ flashSize && n ≠ 0 then s.setDev (d.recAnswer l m 2 stOK (s.sec.bytes (o - recFlash) n))
      else if recStatus ≤ o && o + n ≤ recStatus + 8 && n ≠ 0 then
        s.setDev (d.recAnswer l m 2 stOK ((s.recBytes.drop (o - recStatus)).take n))
      else s.setDev (d.recAnswer l m 6 stRANGE [])

/-- RECOVERY_VERIFY: the oldest WRITE on the link asks for the check of step 3; a good image is started by a warm reset. -/
def State.recoveryVerify (s : State) (l : Nat) (e : BootEnv) : State :=
  if s.stopped || !s.dev.recovery then s
  else match s.dev.takeMsg l 4 (fun m => m.payload.getD 12 0 == 3 && recIsVerify m) with
    | none => s
    | some (m, d) =>
      if recLen m ≠ 8 || !((m.payload.drop 16).take 8 == List.replicate 8 1) then s.setDev (d.recAnswer l m 6 stRANGE [])
      else match s.sec.imageFault (s.dev.get K.SVN_MIN) with
        | some (k, _) => { s with sec := { s.sec with failKind := k }, dev := d.recAnswer l m 4 stOK [] }
        | none => ({ s with sec := s.sec.afterReset false, dev := s.dev.afterReset false } : State).bootSteps 2 true { e with rcvrLow := false }

end Sys2Proof.Machine
end

