-- ==== Sys2Proof/Machine/Dict.lean ====
section
/-! DEFINITION. The object dictionary's server: sessions, checks, live and staged writes, commits, segments, snapshots
(R43 to R70), and what a live write of each object does beside taking its value. -/
namespace Sys2Proof.Machine

/-! ## Messages (R59) -/

/-- Operations of a request. -/
def opREAD : Nat := 1
/-- WRITE. -/
def opWRITE : Nat := 2
/-- READ_STAGED. -/
def opSTAGED : Nat := 3
/-- SEGMENT_READ. -/
def opSEGREAD : Nat := 4
/-- SEGMENT_WRITE. -/
def opSEGWRITE : Nat := 5
/-- NEGOTIATE. -/
def opNEGOTIATE : Nat := 6

/-- The bytes of a request. -/
def reqBytes (op : Nat) (q : Req) : List Nat :=
  toLE 4 q.offset ++ toLE 2 (if op = opSEGREAD then q.length else q.data.length) ++ [q.hdr.version % 256, 0, 0, q.sub % 256] ++
    toLE 2 q.index ++ [op, q.hdr.session % 256] ++ toLE 2 q.hdr.tag ++ q.data

/-- The bytes of a response. -/
def Resp.bytes (r : Resp) : List Nat :=
  toLE 4 r.offset ++ toLE 2 r.data.length ++ [r.version % 256, r.reason, r.result, r.sub % 256] ++
    toLE 2 r.index ++ [r.op + 0x80, r.session % 256] ++ toLE 2 r.tag ++ r.data

/-- What the server answers: result, reason, data. -/
structure Reply where
  result : Nat
  reason : Nat
  data : List Nat
deriving DecidableEq, Repr

/-- OK with data. -/
def okData (bs : List Nat) : Reply := { result := stOK, reason := rsNONE, data := bs }
/-- OK. -/
def okReply : Reply := okData []
/-- ACCESS with a reason. -/
def noAccess (r : Nat) : Reply := { result := stACCESS, reason := r, data := [] }
/-- RANGE with a reason. -/
def noRange (r : Nat) : Reply := { result := stRANGE, reason := r, data := [] }

/-! ## Principals, rights, owners (R46 to R49) -/

/-- A session's principal: 1 O, 2 T, 3 K, 4 X. -/
def Dev.principal (d : Dev) (s : Nat) : Nat := d.get (K.SESSION_PRINCIPAL s)

/-- The right of a principal. -/
def Row.right (r : Row) (pr : Nat) : Right := match pr with | 1 => r.o | 2 => r.t | 3 => r.k | _ => r.x

/-- The record that LOG_INDEX names, if held (R486). -/
def Dev.logRecord (d : Dev) : Option ErrRec := d.log.recs.find? (fun r => r.seq == d.get K.LOG_INDEX)

/-- The partition to which an object belongs, where T sees its own alone (R47). -/
def Dev.ownerOf (d : Dev) (ix sub : Nat) : Nat :=
  match ix / 256 with
  | 0x12 => d.get (K.SESSION_PARTITION (ix - 0x1200))
  | 0x21 => ix - 0x2100
  | 0x22 => ix - 0x2200
  | 0x23 => ix - 0x2300
  | 0x40 => if ix < 0x4068 then d.get (K.SC_ACC_OWNER (ix - 0x4060)) else sub - 1
  | 0x41 => ix - 0x4140
  | 0x50 => d.get (K.LNK_OWNER (ix - 0x5000))
  | 0x51 => if ix < 0x5140 then d.get (K.CH_PART (ix - 0x5100)) else ix - 0x5140
  | 0x60 => ix % 16
  | 0x61 => ix - 0x6100
  | 0x71 => sub - 0x12
  | 0x80 => match d.logRecord with | some r => r.part | none => 0xFF
  | 0x81 => if ix < 0x8180 then ix - 0x8100 else ix - 0x8180
  | 0xA2 => ix - 0xA200
  | 0xA6 => ix - 0xA600
  | _ => 0xFF

/-- T sees this object's value only where it is its own; a record that is not held answers RANGE, and STAINED_PARTS
gives T its own bit. -/
def Dev.foreign (d : Dev) (p ix sub : Nat) : Bool :=
  if ix = 0xE000 then false
  else if ix = 0x8000 then (match d.logRecord with | some r => r.part != p | none => false)
  else d.ownerOf ix sub != p

/-- A T vote is refused but on a core of its CORE_MASK, a memory domain where it owns a channel, a port that serves one of
its links or channels (R462). -/
def Dev.mayVote (d : Dev) (p x : Nat) : Bool :=
  if x < 64 then bit (d.get (K.CORE_MASK p)) x
  else if x < 68 then (quadChans (x - 64)).any (fun k => d.owner k == p)
  else if x < 76 then
    (List.range 8).any (fun i => d.get (K.LNK_OWNER (8 * (x - 68) + i)) == p) ||
    (List.range 32).any (fun ch => d.get (K.CH_RDE ch) == x - 68 && d.get (K.CH_PART ch) == p)
  else false

/-! ## Reading -/

/-- The bytes of an error record (R480). -/
def ErrRec.bytes (r : ErrRec) : List Nat :=
  toLE 2 r.seq ++ [r.cls % 256, r.part % 256, r.status % 256, r.opcode % 256] ++ toLE 2 r.volt ++ toLE 2 r.temp ++ toLE 2 r.unit ++
    toLE 4 r.index ++ toLE 4 r.syndrome ++ toLE 4 r.aux ++ toLE 8 r.tick

/-- A mask of the numbers below `n` that a test picks. -/
def maskOf (n : Nat) (f : Nat → Bool) : Nat := ((List.range n).map (fun i => if f i then 2 ^ i else 0)).sum

/-- BLK_IDLE (R516). -/
def Dev.blkIdle (d : Dev) (c : Nat) : Nat :=
  maskOf 4 (fun e =>
    (d.inFlight (eng (e + 1) c)).isEmpty && (e != 2 || (d.core c).ra.isEmpty) &&
    !d.remote.any (fun r => r.2.k == e + 1 && r.2.n == c) && !d.mem.trkWait.any (fun w => w.2.contains (waitCode (eng (e + 1) c))))

/-- PORT_IDLE (R516). -/
def Dev.portQuiet (d : Dev) (n : Nat) : Bool :=
  (List.range 8).all (fun i => let k := d.link (8 * n + i)
    k.buf.isEmpty && !k.queued && !k.held.any (fun e => !e.2.isEmpty)) &&
  (List.range 32).all (fun ch => d.get (K.CH_RDE ch) != n || (d.chan ch).op.isNone)

/-- An object of a slot that is not resident, by its offset in the block (R48). -/
def Dev.slotRead (d : Dev) (p n off sub dflt : Nat) : Nat :=
  let i := Map.get (d.part p).images Image.init n
  match off with
  | 0x04 => (Map.get i.core.eng EngCtx.init sub).index
  | 0x07 => (Map.get i.core.hq [] (sub - 1)).length
  | 0x13 => if sub = 1 then i.core.vlen else dflt
  | _ => if slotOffs.contains off && off ≠ 0 then d.imageGet p n (off * 256 + sub) (slotDflt (off * 256 + sub)) else dflt

/-- The value of an object as it reads; those that the machine does not keep as such are made from what it keeps. -/
def Dev.readObj (d : Dev) (r : Row) (ix sub : Nat) : Nat :=
  let n := (ix - r.index) / r.stride
  if 0xA400 ≤ ix && ix < 0xA800 then Map.get d.snap 0 ((ix - 0x400) * 256 + sub)
  else match r.index, sub with
  | 0x2000, 1 => d.now
  | 0x3000, 1 => d.coreState n
  | 0x3004, k => (d.ctx (eng k n)).index
  | 0x3007, q => (d.hq n (q - 1)).length
  | 0x3011, 1 => (d.core n).mxaState (d.switching n || d.zeroising n)
  | 0x3011, 2 => (d.core n).passes.length
  | 0x3013, 1 => (d.core n).vlen
  | 0x3013, 2 => (d.core n).vxState (bit (d.get K.FENCE_MASK) n) (d.switching n)
  | 0x3014, 3 => (d.core n).poison.length
  | 0x301D, 2 => d.blkIdle n
  | 0x4060, 22 => maskOf 16 (d.draining n)
  | 0x4068, 17 => 0
  | 0x4100, 1 =>
    if (List.range 16).any (fun p => !(d.ctx (upe n p)).busy.isEmpty) then 1
    else if (List.range 16).any (fun i => d.owner (16 * n + i) == 0xFD) then 2 else 0
  | 0x4100, 2 => maskOf 16 (fun i => d.owner (16 * n + i) == 0xFD)
  | 0x5060, 2 => ofBool (d.portQuiet n)
  | 0x5180, 1 => ofBool ((List.range 32).any (fun ch => d.get (K.CH_RDE ch) == n && (d.chan ch).op.isSome))
  | 0x6000, 5 => d.capacity n
  | 0x6000, 11 => (d.slotCores n).length
  | 0x6020, 6 => Map.get (d.part n).window 0 (d.get (K.PROBE_PAGE n))
  | 0x60F0, 2 => (List.range 64).countP (fun c => d.coreState c == 1)
  | 0x60F0, 3 => (((List.range 16).filter d.activeLC).map (fun p => d.get (K.PART_SLOTS p))).sum
  | 0x60F0, 4 => maskOf 16 d.beWaits
  | 0x7100, 1 => d.domState n
  | 0x7100, 3 => d.domDepth n
  | 0x7100, 4 => d.domAuto n
  | 0x7100, s => if 34 ≤ s then d.portVote n (s - 34) else d.get (r.obj ix sub)
  | 0x8000, 4 => match d.logRecord with | some e => ofLE e.bytes | none => 0
  | 0x8001, i => match d.log.bkp.reverse[i - 1]? with | some e => ofLE e.bytes | none => 0
  | 0xE000, 2 => maskOf 16 (fun i => d.flag (K.STAIN_ARM i))
  | 0xE000, 3 => maskOf 16 (fun p => (List.range 16).any (fun i => d.flag (K.STAIN_ARM i) && d.get (K.STAIN_PARTITION i) == p))
  | _, _ => d.get (r.obj ix sub)

/-- The objects of index 0x1F00 hold their values per session (R54). -/
def Session.read (x : Session) (sub : Nat) : Nat :=
  match sub with
  | 2 => x.commitTick
  | 3 => x.state
  | 4 => x.staged.length
  | 5 => x.failObject
  | 6 => x.failReason
  | 7 => x.appliedTick
  | 8 => x.seq
  | _ => 0

/-- The live bytes of a DOMAIN. -/
def Dev.domBytes (d : Dev) (key : Nat) : List Nat := if key = 0x5040 * 256 + 1 then d.routeBytes else Map.get d.doms [] key

/-- The largest size that a DOMAIN's table states (R60). -/
def domMax (key : Nat) : Nat :=
  if key = 0x5040 * 256 + 1 then 8192 else if key = 0x5040 * 256 + 5 then 128 else if key = flashKey then 4096 else 65536

/-- An object as a session names it: its row, its key in a staging set, whether its slot is not resident. -/
structure Target where
  row : Row
  key : Nat
deriving DecidableEq, Repr

/-- Finds the object that a session names (R43, R48): a tenant's core range names slots of its partition. -/
def Dev.target (d : Dev) (s ix sub : Nat) : Option Target :=
  if d.principal s = 2 && 0x3000 ≤ ix && ix < 0x4000 then
    let p := d.get (K.SESSION_PARTITION s)
    if (ix - 0x3000) / 0x40 < d.get (K.PART_SLOTS p) then (rowOf ix sub).map (fun r => { row := r, key := slotKeyOf p ix sub }) else none
  else (d.row ix sub).map (fun r => { row := r, key := ix * 256 + sub })

/-- The live value of a target, as the session sees it. -/
def Dev.liveVal (d : Dev) (s : Nat) (t : Target) : Nat :=
  let k := d.resolve t.key
  let v :=
    if k < 2 ^ 24 then
      if k / 256 = 0x1F00 then (d.session s).read (k % 256) else d.readObj t.row (k / 256) (k % 256)
    else
      let o := k / 256 % 2 ^ 16 - 0x3000
      d.slotRead (k / 2 ^ 24 - 1) (o / 0x40) (o % 0x40) (k % 256) t.row.dflt
  if k = K.STAINED_PARTS.key && d.principal s = 2 then v &&& 2 ^ (d.get (K.SESSION_PARTITION s)) else v

/-- The staged entry of a target in a session. -/
def Dev.stagedOf (d : Dev) (s : Nat) (t : Target) : Option Staged := (d.session s).staged.find? (fun e => e.key == t.key)

/-- Steps 2 to 4 of R47: the object, or the refusal. -/
def Dev.find (d : Dev) (s ix sub : Nat) (write : Bool) : Except Reply Target :=
  match d.target s ix sub with
  | none => .error (noRange rsNOOBJ)
  | some t =>
    let r := t.row.right (d.principal s)
    if !(if write then r.writes else r.reads) then .error (noAccess rsNORIGHT)
    else if d.principal s = 2 && t.row.own && d.foreign (d.get (K.SESSION_PARTITION s)) ix sub then .error (noAccess rsOTHER)
    else if write && d.principal s = 2 && t.row.index = 0x7100 && !d.mayVote (d.get (K.SESSION_PARTITION s)) (ix - 0x7100) then
      .error (noAccess rsOTHER)
    else .ok t

/-- READ and READ_STAGED (R59, R60). A read of DBG_CHALLENGE replaces it (R512). -/
def State.readReq (s : State) (n : Nat) (q : Req) (staged : Bool) : Reply × State :=
  let d := s.dev
  match d.find n q.index q.sub false with
  | .error e => (e, s)
  | .ok t =>
    let own := if staged then d.stagedOf n t else none
    match t.row.type.bytes with
    | none => (okData (((match own with | some e => e.dom.getD [] | none => d.domBytes t.key)).take 224), s)
    | some w =>
      if t.key = K.LOG_RECORD.key && d.logRecord.isNone then (noRange rsVALUE, s)
      else if t.key = K.DBG_CHALLENGE.key then
        let (v, d) := d.draw 256
        (okData (toLE w v), { s with sec := { s.sec with challenge := v }, dev := d })
      else (okData (toLE w (match own with | some e => e.val | none => d.liveVal n t)), s)

/-- SEGMENT_READ (R60). -/
def State.segReadReq (s : State) (n : Nat) (q : Req) : Reply × State :=
  match s.dev.find n q.index q.sub false with
  | .error e => (e, s)
  | .ok t =>
    if t.row.type ≠ .domain || 224 < q.length then (noRange rsLENGTH, s)
    else (okData (((s.dev.domBytes t.key).drop q.offset).take q.length), s)

/-! ## Staged writes (R51, R52, R57) -/

/-- Another session's staging set holds the object. -/
def Dev.heldElsewhere (d : Dev) (n key : Nat) : Bool :=
  d.sessions.any (fun e => e.1 != n && e.2.staged.any (fun x => d.resolve x.key == d.resolve key))

/-- Places a value in the session's staging set. -/
def Dev.stage (d : Dev) (n : Nat) (e : Staged) : Reply × Dev :=
  let x := d.session n
  if x.state = 2 then (noAccess rsPENDING, d)
  else if d.heldElsewhere n e.key then (noAccess rsELSE, d)
  else
    let rest := x.staged.filter (fun y => y.key != e.key)
    if 256 ≤ rest.length then (noRange rsNONE, d)
    else (okReply, d.setSession n { x with staged := rest ++ [e], state := 1 })

/-! ## What live writes do -/

/-- A core engine is active (R53). -/
def Dev.engActive (d : Dev) (c k : Nat) : Bool := d.flag (K.ENGINE_RUN c (k - 1)) || !(d.inFlight (eng k c)).isEmpty

/-- A live write of LIST_BASE, RING_BASE or RING_SIZE. -/
def Dev.liveCore (d : Dev) (o : Obj) (c off k v : Nat) : Dev :=
  let b := d
  let d := d.put o v
  if off = 1 then d.setCtx (eng k c) (d.ctx (eng k c)).restart else d.ringChange b (eng k c)

/-- COMMIT (R54, R55, R57). An empty staging set commits as any other (log entry 114). -/
def Dev.commitWrite (d : Dev) (n v : Nat) : Reply × Dev :=
  let x := d.session n
  if v = 3 then (okReply, d.setSession n { x with staged := [], state := 0 })
  else if x.state = 2 then (noAccess rsPENDING, d)
  else if v = 1 then (okReply, d.setSession n { x with state := 2, mode := 1, commitAt := d.now + 4 })
  else if x.commitTick < d.now + 4 then (noRange rsPAST, d)
  else (okReply, d.setSession n { x with state := 2, mode := 2, commitAt := x.commitTick })

/-- SESSION_STATE (R65). -/
def Dev.sessionWrite (d : Dev) (n v : Nat) : Reply × Dev :=
  if !freeSession n then (noRange rsVALUE, d)
  else if v = 0 then (okReply, d.closeSession n)
  else if d.get (K.SESSION_STATE n) = 0 && d.principal n = 4 && d.get K.DEBUG_LEVEL = 0 then (noAccess rsNORIGHT, d)
  else (okReply, d.openSession n)

/-- Every partition that is active, or in creation, is released (R512, R513). -/
def Dev.releaseAll (d : Dev) : Dev :=
  (List.range 16).foldl (fun d p => if d.get (K.PART_STATE p) = 1 || (d.part p).creating then d.releasePart p else d) d

/-- No partition holds anything and no channel is zeroising. -/
def Dev.allReleased (d : Dev) : Bool :=
  (List.range 16).all (fun p => d.get (K.PART_STATE p) == 0 && !(d.part p).creating) &&
  (List.range 320).all (fun k => d.owner k != 0xFD)

/-- A new debug level, with its record where it changes; LOCKED closes the X sessions (R65, R512). -/
def Dev.setDebug (d : Dev) (v : Nat) : Dev :=
  let old := d.get K.DEBUG_LEVEL
  let d := d.put K.DEBUG_LEVEL v
  let d := if v = 0 then d.closeSessions (fun n => d.principal n == 4) else d
  if old = v then d else d.bootRecord 8 v 0

/-- DBG_REQUEST (R512). -/
def State.dbgRequestW (s : State) (v : Nat) : State :=
  if v = 0 then { s with sec := { s.sec with dbgWant := 0, pendingFull := false }, dev := s.dev.setDebug 0 }
  else { s with sec := { s.sec with dbgWant := v } }

/-- DBG_RESPONSE (R512). -/
def State.dbgResponseW (s : State) (sig : Nat) : State :=
  let d := s.dev
  let want := s.sec.dbgWant
  let msg := toLE 32 s.sec.challenge ++ toLE 32 (d.get K.DEVICE_ID) ++ [want]
  let key := d.get K.DEBUG_KEY
  let good := want ≠ 0 && (Config.sm2Verify (Config.romKey 2) msg sig ||
    (want == 1 && key != 0 && Config.sm2Verify key msg sig))
  if !good then { s with dev := d.bootRecord 9 0 0 }
  else if want = 1 then { s with sec := { s.sec with pendingFull := false }, dev := d.setDebug 1 }
  else { s with sec := { s.sec with pendingFull := true }, dev := d.releaseAll }

/-- DEBUG_FULL_ENTER (R512). -/
def State.debugFullEnter (s : State) : State :=
  if !s.sec.pendingFull || !s.dev.allReleased then s
  else { s with sec := { s.sec with pendingFull := false }, dev := (s.dev.setDebug 2).put K.DEBUGGED 1 }

/-- SANITISE 0x5A (R513). -/
def State.sanitiseW (s : State) : State :=
  let d := s.dev.releaseAll
  let d := { d with log := { d.log with bkp := [] }, doms := Map.del d.doms flashKey }
  { s with sec := { (s.sec.erase 0x120000 0x130000) with sanitising := true }, dev := d }

/-- SANITISE_COMPLETE (R513). -/
def State.sanitiseComplete (s : State) : State :=
  if !s.sec.sanitising || !s.dev.allReleased then s
  else { s with sec := { s.sec with sanitising := false }, dev := s.dev.bootRecord 0xD 0 0 }

/-- A core engine returns to its reset state (R497, R498). -/
def Dev.resetEngine (d : Dev) (c k : Nat) : Dev :=
  let e := eng k c
  let d := d.setCtx e { EngCtx.init with gen := (d.ctx e).gen }
  let d := d.put (K.ENGINE_RUN c (k - 1)) 0
  let d := { d with remote := d.remote.filter (fun (r : Nat × Remote) => !(r.2.k == k && r.2.n == c)),
                    mem := { d.mem with trkWait := d.mem.trkWait.filterMap (fun (w : Nat × List Nat) =>
                      let l := w.2.filter (· != waitCode e)
                      if l.isEmpty then none else some (w.1, l)) } }
  let x := d.core c
  let x := { x with plan := Map.set x.plan none k none }
  match k with
  | 1 => d.setCore c { x with passes := [], reruns := [], mxStop := false, mxWait := 0, mxQuiet := 0 }
  | 2 => d.setCore c { x with vlen := 0, vx := none }
  | 3 => (d.setCore c x).raEmpty c
  | _ => d.setCore c x

/-- BLK_RESET (R497): bits 0 to 3 the engines, bit 4 the whole core. -/
def Dev.blkReset (d : Dev) (c v : Nat) : Dev :=
  if v = 0 then d
  else
    let d := [1, 2, 3, 4].foldl (fun d k => if bit v (k - 1) || bit v 4 then d.resetEngine c k else d) d
    let d := if bit v 4 then d.zeroise c else d
    d.bootRecord 0xC c 0

/-- PORT_RESET (R368, R497): the port's links go DOWN, its reduction engine's channels idle. -/
def Dev.portReset (d : Dev) (n : Nat) : Dev :=
  let d := (List.range 8).foldl (fun d i => if d.get (K.LNK_STATE (8 * n + i)) = 6 then d else d.linkStop (8 * n + i) 0) d
  let d := (List.range 32).foldl (fun d ch =>
    if d.get (K.CH_RDE ch) ≠ n then d
    else
      let d := match (d.chan ch).op with | some o => d.ringFinish ch o stLINK | none => d
      ((d.setChan ch { Chan.init with done := (d.chan ch).done, aborted := (d.chan ch).aborted }).put (K.CH_STATE ch) 0).put (K.CH_OWED ch) 0) d
  d.bootRecord 0xC (0x80 + n) 0

/-- SVN_COMMIT TRUE (R503). -/
def Dev.svnCommit (d : Dev) : Reply × Dev :=
  if d.get K.IMAGE_SVN < d.get K.SVN_MIN then (noRange rsVALUE, d) else (okReply, d.put K.SVN_MIN (d.get K.IMAGE_SVN))

/-- SNAPSHOT (R70): a tenant's copies its partition's record alone. -/
def Dev.snapshotW (d : Dev) (n v : Nat) : Reply × Dev :=
  let who := if d.principal n = 2 then d.get (K.SESSION_PARTITION n) else 255
  if v = 2 && d.get K.SNAPSHOT_TICK < d.now + 4 then (noRange rsPAST, d)
  else
    let t := if v = 1 then d.now + 4 else d.get K.SNAPSHOT_TICK
    (okReply, { d with snapPend := d.snapPend ++ [(t, who)] })

/-- A counter outside the indices from 0xA000 on: an object that O may read and X alone may write. -/
def isCounter (key : Nat) : Bool :=
  match rowOf (key / 256) (key % 256) with
  | some r => r.o == .ro && r.x == .rw
  | none => false

/-- What a snapshot copies: every counter, and in a tenant's its partition's record alone (R70). The copies of 0xA000 to 0xA3FF are
read in the snapshot area; for the others the table has no index. -/
def snapKey (who key : Nat) : Bool :=
  if who = 255 then (0xA000 ≤ key / 256 && key / 256 < 0xA400) || isCounter key else key / 256 == 0xA200 + who

/-- SNAPSHOT_TAKE (R70): the copies that are due. -/
def Dev.snapshotTake (d : Dev) : Dev :=
  let due := d.snapPend.filter (fun e => e.1 ≤ d.now)
  let d := { d with snapPend := d.snapPend.filter (fun e => d.now < e.1) }
  due.foldl (fun d e =>
    let old := d.snap.filter (fun o => !snapKey e.2 o.1)
    let new := (d.objs.filter (fun o => snapKey e.2 o.1)).foldl (fun m o => Map.set m 0 o.1 o.2) old
    let d := { d with snap := new }
    if e.2 = 255 then d.put K.SNAPSHOT_TAKEN d.now else d) d

/-- CLEAR_APPLY (R70): indices 0xA000 to 0xA1FF. -/
def Dev.clearApply (d : Dev) : Dev :=
  if !d.clearAt.any (· ≤ d.now) then d
  else { d with clearAt := d.clearAt.filter (fun t => d.now < t),
                objs := d.objs.filter (fun o => !(0xA000 ≤ o.1 / 256 && o.1 / 256 < 0xA200)) }

/-- The objects of the device alone: what a live write of `v` does (R46), by row. -/
def Dev.liveWrite (d : Dev) (n : Nat) (r : Row) (ix sub v : Nat) : Reply × Dev :=
  let c := (ix - r.index) / r.stride
  let ok (d : Dev) : Reply × Dev := (okReply, d)
  if 0xA400 ≤ ix && ix < 0xA800 then ok { d with snap := Map.set d.snap 0 ((ix - 0x400) * 256 + sub) v }
  else match r.index, sub with
  | 0x1200, 1 => d.sessionWrite c v
  | 0x1F00, 1 => d.commitWrite n v
  | 0x1F00, 2 => ok (d.setSession n { d.session n with commitTick := v })
  | 0x1F01, 1 => if v < 64 then ok (d.setSession v { d.session v with staged := [], state := 4 }) else (noRange rsVALUE, d)
  | 0x2000, 8 => if d.mayStep then ok (d.ftLoad v) else (noAccess rsACTIVE, d)
  | 0x2300, 20 =>
    if d.get (K.DECISION c) ≠ 3 then (noRange rsVALUE, d) else ok (if v = 1 then d.resolveCommit c else d.resolveAbandon c v)
  | 0x2300, 21 => if d.get (K.SCHED_STATE c) ≠ 4 then (noAccess rsACTIVE, d) else ok (d.put (K.JOB_DAMAGED c) 0)
  | 0x3001, k => if d.engActive c k then (noAccess rsACTIVE, d) else ok (d.liveCore (r.obj ix sub) c 1 k v)
  | 0x3002, k => if d.engActive c k then (noAccess rsACTIVE, d) else ok (d.liveCore (r.obj ix sub) c 2 k v)
  | 0x3003, k => if d.engActive c k then (noAccess rsACTIVE, d) else ok (d.liveCore (r.obj ix sub) c 3 k v)
  | 0x3016, 3 => if d.coreState c = 2 then (noAccess rsACTIVE, d) else ok (if v = 1 then d.zeroise c else d)
  | 0x301B, 2 => ok (if v = 1 then d.pwrWaitSet c else d.pwrWaitCancel c)
  | 0x301C, 4 => ok (d.coreClass c v)
  | 0x301D, 1 => if d.coreState c = 2 then (noAccess rsACTIVE, d) else ok (d.blkReset c v)
  | 0x5000, 2 => ok (d.linkEnable c (v == 1))
  | 0x5060, 1 => ok (if v = 1 then d.portReset c else d)
  | 0x7000, 1 => ok (d.capWrite v)
  | 0x7000, 5 => ok d.ctrlEstimate
  | 0x8020, 1 => ok (d.fence v 4)
  | 0x8020, 2 => ok (d.queueScan v)
  | 0x8020, 5 => ok (d.unitFault v)
  | 0x9000, 7 => if v = 1 then d.svnCommit else ok d
  | 0xA800, 1 => d.snapshotW n v
  | 0xA800, 4 => ok (if v = 1 then { d with clearAt := d.clearAt ++ [d.now + 4] } else d)
  | _, _ => ok (d.put (r.obj ix sub) v)

/-- A live write (R46): the objects of boot and security act on more than the device. -/
def State.liveWrite (s : State) (n : Nat) (r : Row) (ix sub v : Nat) : Reply × State :=
  match r.index, sub with
  | 0x9000, 13 => (okReply, s.dbgRequestW v)
  | 0x9000, 14 => (okReply, s.dbgResponseW v)
  | 0x9000, 15 => (okReply, s.sanitiseW)
  | 0x9010, 3 => (okReply, s.flashOp v)
  | _, _ => let (a, d) := s.dev.liveWrite n r ix sub v; (a, s.setDev d)

/-- WRITE (R46, R47). -/
def State.writeReq (s : State) (n : Nat) (q : Req) : Reply × State :=
  match s.dev.find n q.index q.sub true with
  | .error e => (e, s)
  | .ok t =>
    let v := ofLE q.data
    if t.row.type.bytes ≠ some q.data.length then (noRange rsLENGTH, s)
    else if !s.dev.rangeOk t.row q.index q.sub v then (noRange rsVALUE, s)
    else if t.row.right (s.dev.principal n) = .rws then
      let (a, d) := s.dev.stage n { key := t.key, val := v, dom := none }
      (a, s.setDev d)
    else s.liveWrite n t.row q.index q.sub v

/-! ## Segments (R60) -/

/-- The session's open buffer for an object; a buffer of another object is discarded. -/
def Session.bufOf (x : Session) (key : Nat) : Option (List Nat) :=
  match x.buf with | some (k, bs) => if k = key then some bs else none | none => none

/-- SEGMENT_WRITE with data: the buffer with the bytes at OFFSET. -/
def State.segWriteReq (s : State) (n : Nat) (q : Req) : Reply × State :=
  match s.dev.find n q.index q.sub true with
  | .error e => (e, s)
  | .ok t =>
    let x := s.dev.session n
    let old := (x.bufOf t.key).getD []
    let stop := q.offset + q.data.length
    if t.row.type ≠ .domain || 224 < q.data.length then (noRange rsLENGTH, s)
    else if domMax t.key < stop then (noRange rsVALUE, s)
    else
      let wide := old ++ List.replicate (stop - old.length) 0
      let bs := wide.take q.offset ++ q.data.map (· % 256) ++ wide.drop stop
      (okReply, s.setDev (s.dev.setSession n { x with buf := some (t.key, bs) }))

/-- SEGMENT_WRITE of length 0: the buffer closes and becomes the value, live or staged. -/
def State.segCloseReq (s : State) (n : Nat) (q : Req) : Reply × State :=
  match s.dev.find n q.index q.sub true with
  | .error e => (e, s)
  | .ok t =>
    let d := s.dev
    let x := d.session n
    let bs := (x.bufOf t.key).getD []
    if t.row.type ≠ .domain then (noRange rsLENGTH, s)
    else if q.offset ≠ bs.length || !domRangeOk t.key bs then (noRange rsVALUE, s)
    else if t.row.right (d.principal n) = .rws then
      let (a, d) := d.stage n { key := t.key, val := 0, dom := some bs }
      (a, s.setDev (if a.result = stOK then d.setSession n { d.session n with buf := none } else d))
    else (okReply, s.setDev (({ d with doms := Map.set d.doms [] t.key bs } : Dev).setSession n { x with buf := none }))

/-! ## Sessions and versions (R65, R67) -/

/-- NEGOTIATE (R67). -/
def State.negotiateReq (s : State) (n : Nat) (q : Req) : Reply × State :=
  let d := s.dev
  if d.get (K.SESSION_STATE n) = 2 then (okData (toLE 2 (d.get (K.SESSION_VERSION n))), s)
  else if q.data.length ≠ 4 then (noRange rsLENGTH, s)
  else
    let lo := max (ofLE (q.data.take 2)) (d.get K.DICT_VER_MIN)
    let hi := min (ofLE (q.data.drop 2)) (d.get K.DICT_VER_MAX)
    if hi < lo then (noRange rsVERSION, s)
    else (okData (toLE 2 hi), s.setDev ((d.put (K.SESSION_STATE n) 2).put (K.SESSION_VERSION n) hi))

/-- A request in its session, from step 1 of R47. -/
def State.perform (s : State) (n op : Nat) (q : Req) : Reply × State :=
  if op = opNEGOTIATE then s.negotiateReq n q
  else if s.dev.get (K.SESSION_STATE n) ≠ 2 || q.hdr.version ≠ s.dev.get (K.SESSION_VERSION n) then (noAccess rsSESSION, s)
  else if op = opREAD then s.readReq n q false
  else if op = opSTAGED then s.readReq n q true
  else if op = opWRITE then s.writeReq n q
  else if op = opSEGREAD then s.segReadReq n q
  else if q.data.isEmpty then s.segCloseReq n q
  else s.segWriteReq n q

/-! ## Transport (R61 to R65) -/

/-- The session that a request reaches: on the management port session 0 unless it names another one bound there; on a link
the session that it names, bound to that link, or to any link where the request came through the bridge. -/
def Dev.sessionFor (d : Dev) (h : Hdr) : Option Nat :=
  if h.port = 64 then
    let n := if h.session < 64 && d.get (K.SESSION_PORT h.session) = 64 then h.session else 0
    if d.get (K.SESSION_STATE n) = 0 then none else some n
  else if 64 ≤ h.session || d.get (K.SESSION_STATE h.session) = 0 then none
  else
    let p := d.get (K.SESSION_PORT h.session)
    if p = h.port then some h.session
    else if h.port < 64 && p < 64 && d.get (K.LNK_MODE h.port) ≠ 2 && h.src = d.get K.HOST_NUMBER then some h.session
    else none

/-- The message that carried a request, taken out of its link's buffer, with its credits (R345). -/
def Dev.takeReq (d : Dev) (h : Hdr) (bs : List Nat) : Option Msg × Dev :=
  if 64 ≤ h.port then (none, d)
  else
    let k := d.link h.port
    let box := Map.get k.inbox [] 0
    match firstIdx (fun (m : Msg) => m.src == h.src && m.payload == bs) box with
    | none => (none, d)
    | some i => (box[i]?, d.setLink h.port { k.free 0 1 with inbox := Map.set k.inbox [] 0 (box.eraseIdx i), cameAt := k.cameAt.eraseIdx i })

/-- The request that a message of VC0 carries on a link (R59); none for a response. -/
def msgReq (l : Nat) (m : Msg) : Option (Nat × Req) :=
  let b := m.payload
  let op := b.getD 12 0
  if op = 0 || opNEGOTIATE < op then none
  else
    let n := ofLE ((b.drop 4).take 2)
    let data := b.drop 16
    some (op, { hdr := { port := l, session := b.getD 13 0, tag := ofLE ((b.drop 14).take 2), version := b.getD 6 0, src := m.src },
                index := ofLE ((b.drop 10).take 2), sub := b.getD 9 0, data := data, offset := ofLE (b.take 4), length := n })

/-- The requests that came before one of the tick `t` on link `l` (64 for the Krytsen core and the management port, whose requests of
one tick go first), of which `own` lie before it on its link: in arrival order, those of one tick by ascending link (R61). -/
def Dev.before (d : Dev) (t l own : Nat) : List (Nat × Req) :=
  let all := d.links.flatMap (fun (e : Nat × Link) =>
    ((Map.get e.2.inbox [] 0).zip e.2.cameAt).zipIdx.filterMap (fun x =>
      let (m, at') := x.1
      let first := if e.1 = l then decide (x.2 < own) else at' < t || (at' == t && e.1 < l && l < 64)
      if first then (msgReq e.1 m).map (fun r => (at' * 64 + e.1, r)) else none))
  (all.mergeSort (fun a b => a.1 ≤ b.1)).map Prod.snd

/-- The requests that wait and came before this one (R61). -/
def Dev.earlier (d : Dev) (op : Nat) (q : Req) : List (Nat × Req) :=
  if 64 ≤ q.hdr.port then d.before d.now 64 0
  else
    let k := d.link q.hdr.port
    let box := Map.get k.inbox [] 0
    match firstIdx (fun (m : Msg) => m.src == q.hdr.src && m.payload == reqBytes op q) box with
    | some i => d.before (k.cameAt.getD i 0) q.hdr.port i
    | none => d.before d.now q.hdr.port box.length

/-- The packets of a message on the management port: 64 bytes each, numbered modulo 4, the first marked as its start and the last as
its end (R64). What goes to the Krytsen core is no MCTP message. -/
def packetsOf (port : Nat) (bs : List Nat) : List Packet :=
  if port ≠ 64 then [{ port := port, som := true, eom := true, seq := 0, body := bs }]
  else
    let n := max 1 (ceilDiv bs.length 64)
    (List.range n).map (fun i => { port := port, som := i == 0, eom := i + 1 == n, seq := i % 4, body := (bs.drop (64 * i)).take 64 })

/-- Sends a response where its request came from: over a link, or as an MCTP vendor-defined message on the management port
(R64). Without a number the device answers on the link of arrival, with SRC the request's DEST (R356). -/
def State.reply (s : State) (h : Hdr) (m : Option Msg) (r : Resp) : State :=
  let d := s.dev
  if h.port < 64 then
    let numbered := d.flag K.NUM_ASSIGNED
    let src := if numbered then d.get K.DEVICE_NUMBER else (m.map Msg.dest).getD 0
    let a : Msg := { vc := 0, dest := (m.map Msg.src).getD h.src, src := src, part := (m.map Msg.part).getD 0,
                     priv := (m.map Msg.priv).getD true, id := (m.map Msg.id).getD 0, payload := r.bytes }
    s.setDev (if numbered then (d.send a false).1 else d.enqueue h.port a)
  else
    let wrap := if h.port = 64 then [0x7F] ++ (toLE 4 (d.get K.ENTERPRISE)).reverse else []
    { s with sec := { s.sec with out := s.sec.out ++ packetsOf h.port (wrap ++ r.bytes) } }

/-- A request from a host whose SRC is not HOST_NUMBER is not accepted (R363). -/
def Dev.foreignHost (d : Dev) (h : Hdr) : Bool :=
  h.port < 64 && d.flag K.NUM_ASSIGNED && d.get (K.LNK_MODE h.port) == 2 && h.src != d.get K.HOST_NUMBER

/-- The response to a request of session `n`. -/
def respOf (op : Nat) (q : Req) (n ver : Nat) (a : Reply) : Resp :=
  { tag := q.hdr.tag, session := n, op := op, index := q.index, sub := q.sub, result := a.result, reason := a.reason,
    version := ver, offset := q.offset, data := a.data }

/-- An executed request is counted, its response kept under its bytes and sent (R62, R65). -/
def State.conclude (s : State) (op : Nat) (q : Req) (n : Nat) (m : Option Msg) (a : Reply) : State :=
  let r := respOf op q n (s.dev.get (K.SESSION_VERSION n)) a
  let d := s.dev.cnt (K.SESSION_REQUESTS n) 1
  let x := d.session n
  let d := if d.get (K.SESSION_STATE n) = 0 then d
    else d.setSession n { x with tags := ((reqBytes op q, r) :: x.tags.filter (fun e => e.2.tag != q.hdr.tag)).take 16 }
  (s.setDev d).reply q.hdr m r

/-- The server takes one request (R47, R62, R63): outside any session it is refused; a kept TAG is answered from its response; every
other request is executed once, counted and kept. -/
def State.serveOne (s : State) (op : Nat) (q : Req) : State :=
  if s.dev.foreignHost q.hdr then s
  else
    let (m, d) := s.dev.takeReq q.hdr (reqBytes op q)
    let s := s.setDev d
    match d.sessionFor q.hdr with
    | none => s.reply q.hdr m (respOf op q q.hdr.session q.hdr.version (noAccess rsSESSION))
    | some n =>
      match (d.session n).tags.find? (fun e => e.1 == reqBytes op q) with
      | some e => s.reply q.hdr m e.2
      | none =>
        let (a, s) := s.perform n op q
        s.conclude op q n m a

/-- The server (R61): the requests that came earlier are handled first, each with its response, then this one. -/
def State.serve (s : State) (op : Nat) (q : Req) : State :=
  if !s.served then s
  else ((s.dev.earlier op q).foldl (fun (s : State) r => s.serveOne r.1 r.2) s).serveOne op q

/-- A write of a value of `w` bytes. -/
def State.serveWrite (s : State) (h : Hdr) (ix sub w v : Nat) : State :=
  s.serve opWRITE { hdr := h, index := ix, sub := sub, data := toLE w v, offset := 0, length := w }

/-! ## Commits (R55 to R58) -/

/-- Puts an entry in its place by index and sub-index. -/
def insertStaged (e : Staged) (l : List Staged) : List Staged :=
  match l with
  | [] => [e]
  | x :: r => if e.key % 2 ^ 24 ≤ x.key % 2 ^ 24 then e :: x :: r else x :: insertStaged e r

/-- A staging set in ascending order of index and sub-index. -/
def sortStaged (l : List Staged) : List Staged := l.foldr insertStaged []

/-- The first staged object that fails, and why (R56). -/
def Dev.commitFault (b : Dev) (t : Nat) (st : List Staged) : Option (Nat × Nat) :=
  let a := b.staging st
  let ks : Keys := st.map (fun e => (b.resolve e.key, e.val))
  (sortStaged st).findSome? (fun e =>
    let k := b.resolve e.key % 2 ^ 24
    let f := Dev.objFault b a t ks (k / 256) (k % 256) e.val
    if f = 0 then none else some (e.key % 2 ^ 24, f))

/-- COMMIT_APPLY (R55, R56): every object or none. COMMIT_SEQ stays at its largest value (log entry 113). -/
def Dev.commitApply (d : Dev) (n : Nat) : Dev :=
  let x := d.session n
  if x.state ≠ 2 || d.now < x.commitAt then d
  else match d.commitFault d.now x.staged with
    | some (o, r) => d.setSession n { x with staged := [], state := 4, failObject := o, failReason := r }
    | none =>
      let t := d.now
      let d := d.applyStaged x.staged
      d.setSession n { d.session n with staged := [], state := 3, appliedTick := t, seq := min (x.seq + 1) (2 ^ 32 - 1) }

end Sys2Proof.Machine
end

