-- ==== Sys2Proof/Machine/Mgmt.lean ====
section
/-! DEFINITION. The management port: its address, MCTP control, SPDM and the measurements (R64, R506, R509, R510). Codes and
layouts that the manual leaves to the DMTF standards are log entry 38's. -/
namespace Sys2Proof.Machine

/-- Sends an MCTP message on the management port. -/
def State.say (s : State) (bs : List Nat) : State := { s with sec := { s.sec with out := s.sec.out ++ packetsOf 64 bs } }

/-- ENTDAA (R64): a target without a dynamic address takes one. -/
def State.entdaa (s : State) (address : Nat) : State :=
  if s.stopped || s.sec.i3cAddr ≠ 0 then s else { s with sec := { s.sec with i3cAddr := address % 128 } }

/-- MCTP_CONTROL (R64, R506): endpoint identifier, version and message types; other commands are unsupported. -/
def State.mctpControl (s : State) (request : List Nat) : State :=
  if !(s.served || (!s.stopped && s.dev.recovery)) then s
  else
    let cmd := request.getD 1 0
    let hd := [0, request.getD 0 0 % 128, cmd]
    match cmd with
    | 1 =>
      let e := request.getD 3 0 % 256
      ({ s with sec := { s.sec with eid := e } } : State).say (hd ++ [0, 0, e, 0])
    | 2 => s.say (hd ++ [0, s.sec.eid, 0, 0])
    | 4 => s.say (hd ++ [0, 1, 0xF1, 0xF3, 0xF1, 0])
    | 5 => s.say (hd ++ (if s.dev.recovery then [0, 1, 0] else [0, 3, 0, 5, 0x7F]))
    | _ => s.say (hd ++ [5])

/-! ## SPDM (R509) -/

/-- A message of the responder: version, code, two parameters, payload. -/
def spdmMsg (ver code p1 p2 : Nat) (body : List Nat) : List Nat := [5, ver, code, p1, p2] ++ body

/-- An ERROR response. -/
def State.spdmError (s : State) (code : Nat) : State := s.say (spdmMsg 0x13 0x7F code 0 [])

/-- A request that needs the connection at a stage; other versions and orders answer ERROR. -/
def State.spdmAt (s : State) (version stage : Nat) (f : State → State) : State :=
  if !s.served then s
  else if version ≠ 0x13 then s.spdmError 0x41
  else if s.sec.spdm < stage then s.spdmError 4
  else f s

/-- Sends a response and notes request and response in the transcript, moving the connection on. -/
def State.spdmStep (s : State) (stage : Nat) (req resp : List Nat) : State :=
  ({ s with sec := { s.sec with spdm := stage, transcript := s.sec.transcript ++ req.drop 1 ++ resp.drop 1 } } : State).say resp

/-- GET_VERSION: a new connection; version 1.3 only. -/
def State.getVersion (s : State) (version : Nat) : State :=
  if !s.served then s
  else if version ≠ 0x10 then s.spdmError 0x41
  else ({ s with sec := { s.sec with transcript := [] } } : State).spdmStep 1 (spdmMsg 0x10 0x84 0 0 []) (spdmMsg 0x10 4 0 0 ([0, 1] ++ toLE 2 0x1300))

/-- GET_CAPABILITIES: CERT_CAP, CHAL_CAP, MEAS_CAP with signatures; timing and sizes are free values (log entry 38). -/
def State.getCapabilities (s : State) (version : Nat) : State :=
  s.spdmAt version 1 (fun (s : State) =>
    let (ct, d) := s.dev.draw 8
    let (a, d) := d.draw 32
    let (b, d) := d.draw 32
    (s.setDev d).spdmStep 2 (spdmMsg 0x13 0xE1 0 0 []) (spdmMsg 0x13 0x61 0 0 ([0, ct, 0, 0] ++ toLE 4 0x16 ++ toLE 4 a ++ toLE 4 b)))

/-- NEGOTIATE_ALGORITHMS: SM2 on P256 and SM3; a requester that lacks one gets an ERROR. -/
def State.negotiateAlgorithms (s : State) (version baseAsym baseHash measHash : Nat) : State :=
  s.spdmAt version 2 (fun (s : State) =>
    if !bit baseAsym 9 || !bit baseHash 6 || !bit measHash 7 then s.spdmError 1
    else
      let alg (m : Nat) (a h : Nat) : List Nat := toLE 2 36 ++ [1, 0] ++ toLE 4 m ++ toLE 4 a ++ toLE 4 h ++ List.replicate 16 0
      s.spdmStep 3 (spdmMsg 0x13 0xE3 0 0 (alg measHash baseAsym baseHash)) (spdmMsg 0x13 0x63 0 0 (alg 0x80 0x200 0x40)))

/-- The certificate chain of slot 0, its first two bytes giving its length (R500, R508, log entry 38). -/
def Sec.chain (x : Sec) : List Nat := x.bytes 0x140000 (ofLE (x.bytes 0x140000 2))

/-- GET_DIGESTS. -/
def State.getDigests (s : State) (version : Nat) : State :=
  s.spdmAt version 3 (fun (s : State) => s.say (spdmMsg 0x13 1 0 1 (toLE 32 (Config.sm3 s.sec.chain))))

/-- GET_CERTIFICATE. -/
def State.getCertificate (s : State) (version slot offset length : Nat) : State :=
  s.spdmAt version 3 (fun (s : State) =>
    let c := s.sec.chain
    if slot ≠ 0 || c.length ≤ offset then s.spdmError 1
    else
      let p := (c.drop offset).take length
      s.say (spdmMsg 0x13 2 0 0 (toLE 2 p.length ++ toLE 2 (c.length - offset - p.length) ++ p)))

/-- A response signed with the identity key over the transcript, the request and itself. -/
def State.signed (s : State) (req resp : List Nat) : State :=
  s.say (resp ++ toLE 64 (Config.sm2Sign (s.sec.transcript ++ req.drop 1 ++ resp.drop 1)))

/-- CHALLENGE. -/
def State.challenge (s : State) (version slot nonce : Nat) : State :=
  s.spdmAt version 3 (fun (s : State) =>
    if slot ≠ 0 then s.spdmError 1
    else
      let (own, d) := s.dev.draw 256
      (s.setDev d).signed (spdmMsg 0x13 0x83 0 0 (toLE 32 nonce))
        (spdmMsg 0x13 3 0 1 (toLE 32 (Config.sm3 s.sec.chain) ++ toLE 32 own ++ [0, 0])))

/-! ## Measurements (R510) -/

/-- What block 0x10 + p digests. -/
def Dev.partBytes (d : Dev) (p : Nat) : List Nat :=
  [d.get (K.PART_CLASS p), d.get (K.PART_SLOTS p)] ++ toLE 8 (d.get (K.CORE_MASK p)) ++ (List.range 320).map d.owner ++
    (List.range 4).map (fun q => (List.range 16).countP (fun w => d.get (K.SC_WAY_OWNER q w) == p)) ++
    toLE 8 (maskOf 64 (fun l => d.get (K.LNK_OWNER l) == p)) ++ toLE 8 (d.part p).born

/-- A measurement block's value type and digest; none where it is not given. -/
def State.measure (s : State) (i : Nat) : Option (Nat × Nat) :=
  let d := s.dev
  match i with
  | 1 => some (0, Map.get s.sec.digests 0 1)
  | 2 => some (1, Map.get s.sec.digests 0 2)
  | 3 => some (3, Map.get s.sec.digests 0 3)
  | 4 => some (3, Map.get s.sec.digests 0 4)
  | 5 => some (2, Map.get s.sec.digests 0 5)
  | 6 => some (5, Config.sm3 ([d.get K.DEBUG_LEVEL, d.get K.DEBUGGED] ++ toLE 8 (d.get K.FENCE_MASK) ++
      [d.get K.DEVICE_HEALTH, d.bootState]))
  | 7 => some (7, Config.sm3 [d.get K.IMAGE_SVN, d.get K.SVN_MIN])
  | i => if 0x10 ≤ i && i < 0x20 && d.get (K.PART_STATE (i - 0x10)) == 1 then some (2, Config.sm3 (d.partBytes (i - 0x10))) else none

/-- A block as it travels. -/
def State.block (s : State) (i : Nat) : List Nat :=
  match s.measure i with
  | some (t, v) => [i, 1] ++ toLE 2 35 ++ [t] ++ toLE 2 32 ++ toLE 32 v
  | none => []

/-- GET_MEASUREMENTS: block 0 asks for their number, 0xFF for all of them. -/
def State.getMeasurements (s : State) (version nonce block : Nat) : State :=
  s.spdmAt version 3 (fun (s : State) =>
    let all := (List.range 0x20).filter (fun i => (s.measure i).isSome)
    let is := if block = 0 then [] else if block = 0xFF then all else all.filter (· == block)
    if block ≠ 0 && is.isEmpty then s.spdmError 1
    else
      let (own, d) := s.dev.draw 256
      let rec' := is.flatMap s.block
      (s.setDev d).signed (spdmMsg 0x13 0xE0 1 block (toLE 32 nonce))
        (spdmMsg 0x13 0x60 (if block = 0 then all.length else 0) 0 ([is.length] ++ toLE 3 rec'.length ++ rec' ++ toLE 32 own ++ [0, 0])))

end Sys2Proof.Machine
end

