-- ==== Sys2Proof/Machine/Lift.lean ====
section
/-! DEFINITION. What every meaning has in common: a unit that does not exist is a fault, a device held in reset does
nothing; and the tick of fabric time that passes while no command waits (log entry 1). -/
namespace Sys2Proof.Machine

/-- The answer of a meaning. -/
abbrev Out := Host.Outcome State Fault Refusal

/-- A meaning on the whole state; nothing happens while the device is held in reset or halted (R489, R494). -/
def onState (ok : Bool) (f : State → State) (s : State) : Out :=
  if !ok then .fault .noSuchUnit else if s.stopped then .next s else .next (f s)

/-- A meaning on the device, of a unit that must exist. -/
def onUnit (ok : Bool) (f : Dev → Dev) (s : State) : Out := onState ok (fun s => s.setDev (f s.dev)) s

/-- A meaning on the device. -/
def onDev (f : Dev → Dev) (s : State) : Out := onUnit true f s

/-- The engine that a code, a number and a partition name. -/
def engAt (k n p : Nat) : Eng := if k ≤ 4 then eng k n else { k := k, n := n, p := p }

/-! ## The tick -/

/-- Core cycles of a quadrant by the end of this tick: 16 ns at its clock, in thousandths (log entry 6). -/
def Dev.advance1 (d : Dev) : Dev :=
  { d with now := (d.now + 1) % 2 ^ 64,
           cyc := (List.range 4).foldl (fun m q => Map.set m 0 q (Map.get m 0 q + 16 * d.get (K.FREQ_MHZ q))) d.cyc }

/-- Cycles of the `n` after cycle `from'` that an engine spends executing: to the end of a vector command or of the last pass,
all of them for a command whose end is not known beforehand. -/
def Dev.busyCycles (d : Dev) (e : Eng) (from' n : Nat) : Nat :=
  let span (a b : Nat) : Nat := min (from' + n) b - max from' a
  if (d.inFlight e).isEmpty then 0
  else if e.k = 1 then
    match (d.core e.n).passes with
    | [] => 0
    | p :: r => span (max (d.ctx e).till p.fl.start) ((p :: r).foldl (fun m p => max m (p.fl.start + p.dur)) 0)
  else if e.k = 2 then ((d.ctx e).busy.map (fun f => span f.start (f.start + f.cost))).sum
  else n

/-- The messages of a channel that wait for credit, or for room in the link's queue (R345, R346). -/
def Link.stuck (k : Link) (v : Nat) : List Msg :=
  Map.get k.held [] v ++ (if Map.get k.cred 0 v = 0 then Map.get k.txq [] v else [])

/-- A transfer of an engine's command waits for credit on a link (R42): a reference to another device, or a ring message. -/
def Dev.linkWaits (d : Dev) (e : Eng) : Bool :=
  let me := d.get K.DEVICE_NUMBER
  d.links.any (fun (x : Nat × Link) =>
    (x.2.stuck 3).any (fun m => m.src == me && (match Map.look d.remote m.id with
      | some r => r.k == e.k && r.n == e.n && (e.isCore || r.p == e.p) && !r.list
      | none => false)) ||
    (e.k == 6 && (x.2.stuck 2).any (fun m => m.src == me && d.chans.any (fun ch => match ch.2.op with
      | some o => o.eng == e.n && o.part == e.p && d.get (K.CH_RING_ID ch.1) == (ringHdr m.payload).id
      | none => false))))

/-- The cause that keeps a command in flight from executing (R42): a link's credit, or a reservation of the array (R145), with the
core whose array reserves; 0 for none. -/
def Dev.flightCause (d : Dev) (e : Eng) : Nat :=
  if (d.inFlight e).isEmpty then 0
  else if d.linkWaits e then 6
  else if e.k = 2 && (d.core e.n).vxHeld then heldWhy e.n
  else if e.k = 3 || e.k = 4 then
    match d.planOf e with
    | some p => (match d.planHeld p with | some c => heldWhy c | none => 0)
    | none => 0
  else 0

/-- Counts `n` cycles under a cause; those that a reservation holds count at the array that reserves too (R145, R159). -/
def Dev.countCause (d : Dev) (e : Eng) (s n : Nat) : Dev :=
  let d := d.engCount e (s % 256) n
  if 256 ≤ s then d.cnt (K.MXA_HELD_CYCLES (s / 256 - 1)) n else d

/-- Counts the cycles of a tick for an engine (R42, R68, R69), but for those counted as they passed: under PREEMPT while its core
switches, as executing while a command is in flight, or under what holds it, under the cause of its stall while a command waits, but
for one that R291 will end. -/
def Dev.countEngine (d : Dev) (e : Eng) (from' n : Nat) : Dev :=
  let x := d.ctx e
  let d := if x.spent = 0 then d else d.setCtx e { x with spent := 0 }
  if !x.fetched || n = 0 then d
  else if e.isCore && d.switching e.n then d.engCount e 1 n
  else
  let why := d.flightCause e
  let b := if why = 0 then min (d.busyCycles e from' n) (n - x.spent) else 0
  let d := if b = 0 then d else d.engCount e 10 b
  let n := n - b - x.spent
  if n = 0 then d
  else if why ≠ 0 then d.countCause e why n
  else
    let again := e.k = 1 && !(d.core e.n).reruns.isEmpty
    if !again && (x.index = 0 || x.count < x.index || (if e.isCore then !d.flag (K.ENGINE_RUN e.n (e.k - 1)) else !d.running e)) then d
    else if !again && d.headStopped e then d
    else d.countCause e (d.stallCause e) n

/-- Counts the cycles of a tick; `b` is the device before it. -/
def Dev.countCycles (d b : Dev) : Dev :=
  let n (q : Nat) : Nat := d.cycles q - b.cycles q
  let d := d.cores.foldl (fun (d : Dev) (c : Nat × Core) =>
    [1, 2, 3, 4].foldl (fun (d : Dev) k => d.countEngine (eng k c.1) (b.cycles (quadOf c.1)) (n (quadOf c.1))) d) d
  d.parts.foldl (fun (d : Dev) (p : Nat × Part) =>
    let d := p.2.up.foldl (fun (d : Dev) (x : Nat × EngCtx) => d.countEngine (upe x.1 p.1) (b.cycles (x.1 / 5)) (n (x.1 / 5))) d
    p.2.rd.foldl (fun (d : Dev) (x : Nat × EngCtx) => d.countEngine (rde x.1 p.1) (b.cycles (x.1 / 2)) (n (x.1 / 2))) d) d

/-- A core's slot is charged for the tick (R428, R458). -/
def Dev.chargeCore (d : Dev) (c : Nat) : Dev :=
  let p := d.get (K.CORE_OWNER c)
  if 16 ≤ p then d
  else
    let d := d.charge p 0 1
    d.setPwr { d.pwr with res := Map.set d.pwr.res 0 (32 * c + p) (Map.get d.pwr.res 0 (32 * c + p) + 1) }

/-- HELD_TICKS grows while a slot of a best-effort partition is not resident (R92). -/
def Dev.heldTick (d : Dev) (p : Nat) : Dev :=
  if d.get (K.PART_STATE p) = 1 && d.get (K.PART_CLASS p) = 1 && d.holds p && !d.allResident p then d.hold p 1 else d

/-- What falls due in the present tick at an exact time is done by its end (R443, R446, R537): passes that no PASS_COMPLETE completed,
vector commands whose cycles and largest yield have passed, domains whose return is over, voltage ramps that are. -/
def Dev.dueNow (d : Dev) : Dev :=
  let d := d.cores.foldl (fun (d : Dev) (c : Nat × Core) =>
    let d := c.2.passes.foldl (fun (d : Dev) _ => d.passComplete c.1) d
    match (d.core c.1).vx with
    | some j => d.vxComplete c.1 j.allowance
    | none => d) d
  let d := d.pwr.waking.foldl (fun (d : Dev) (x : Nat × Nat) => d.domainReturnDone x.1 []) d
  d.pwr.ramp.foldl (fun (d : Dev) (x : Nat × Nat) => d.opRampDone x.1) d

/-- A core's commands in flight go on by the `n` cycles of a tick. -/
def Dev.coreTick (d : Dev) (b : Dev) (c : Nat) : Dev :=
  (d.vxTick c (d.cycles (quadOf c) - b.cycles (quadOf c))).plansGo c

/-- One tick of fabric time. -/
def Dev.tick (d : Dev) : Dev :=
  let d := d.dueNow
  let b := d
  let d := d.advance1.countCycles b
  let d := d.cores.foldl (fun (d : Dev) (c : Nat × Core) => d.coreTick b c.1) d
  let d := (List.range 64).foldl Dev.chargeCore d
  ((List.range 16).foldl Dev.heldTick d).capDue.sendDue.holdStart.stainTick.slewTick.paceTick

/-- What the block does while no command waits: a tick passes, but for a device held in reset, halted or off. Cores whose release falls
in the present tick are released by its end (R495). -/
def State.idle (s : State) : State :=
  if s.stopped then s
  else
    let s := s.coreRelease
    { s with sec := { s.sec with boot := s.sec.boot + 1 }, dev := s.dev.tick }

end Sys2Proof.Machine
end

