-- ==== Sys2Proof/Machine/ExecArray.lean ====
section
/-! DEFINITION. The commands of the matrix and vector engines: one meaning for each command. -/
namespace Sys2Proof.Machine

/-- MX_NOP (R174). -/
def execMxNop (c : Nat) (s : State) : Out :=
  onUnit (c < 64) (fun d => d.issue (eng 1 c) (· == 0) (fun d cmd _ => d.relay (eng 1 c) cmd)) s

/-- MX_QUIESCE (R175). -/
def execMxQuiesce (c : Nat) (s : State) : Out :=
  onUnit (c < 64) (fun d => d.mxQuiesce c) s

/-- MX_PASS (R134). -/
def execMxPass (c : Nat) (s : State) : Out :=
  onUnit (c < 64) (fun d => d.mxPass c) s

/-- MX_GANG (R171). -/
def execMxGang (c : Nat) (s : State) : Out :=
  onUnit (c < 64) (fun d => d.mxGang c) s

/-- MX_EXT (R173). -/
def execMxExt (c : Nat) (s : State) : Out :=
  onUnit (c < 64) (fun d => d.extSlot (eng 1 c)) s

/-- PASS_COMPLETE (R135). -/
def execPassComplete (c : Nat) (s : State) : Out :=
  onUnit (c < 64) (fun d => d.passComplete c) s

/-- INTERLOCK_STOP (R148). -/
def execInterlockStop (c : Nat) (syndrome : Nat) (s : State) : Out :=
  onUnit (c < 64) (fun d => d.interlockStop c syndrome) s

/-- VX_NOP (R219). -/
def execVxNop (c : Nat) (s : State) : Out :=
  onUnit (c < 64) (fun d => d.vxNop c) s

/-- VX_SETLEN (R219). -/
def execVxSetlen (c : Nat) (s : State) : Out :=
  onUnit (c < 64) (fun d => d.vxSetlen c) s

/-- VX_EP (R220). -/
def execVxEp (c : Nat) (s : State) : Out :=
  onUnit (c < 64) (fun d => d.vxEp c) s

/-- VX_CVT (R222). -/
def execVxCvt (c : Nat) (s : State) : Out :=
  onUnit (c < 64) (fun d => d.vxCvt c) s

/-- VX_EXT (R221). -/
def execVxExt (c : Nat) (s : State) : Out :=
  onUnit (c < 64) (fun d => d.extSlot (eng 2 c)) s

/-- VX_COMPLETE (R225). -/
def execVxComplete (c : Nat) (yields : Nat) (s : State) : Out :=
  onUnit (c < 64) (fun d => d.vxComplete c yields) s

end Sys2Proof.Machine
end

