-- ==== Sys2Proof/Machine/ExecBoot.lean ====
section
/-! DEFINITION. Reset, boot, pins and the management port: one meaning for each command. -/
namespace Sys2Proof.Machine

/-- ENTDAA (R64). -/
def execEntdaa (address : Nat) (s : State) : Out :=
  onState true (fun s => s.entdaa address) s

/-- MCTP_CONTROL (R64). -/
def execMctpControl (request : List Nat) (s : State) : Out :=
  onState true (fun s => s.mctpControl request) s

/-- GET_VERSION (R509). -/
def execGetVersion (version : Nat) (s : State) : Out :=
  onState true (fun s => s.getVersion version) s

/-- GET_CAPABILITIES (R509). -/
def execGetCapabilities (version : Nat) (s : State) : Out :=
  onState true (fun s => s.getCapabilities version) s

/-- NEGOTIATE_ALGORITHMS (R509). -/
def execNegotiateAlgorithms (version : Nat) (baseAsym : Nat) (baseHash : Nat) (measHash : Nat) (s : State) : Out :=
  onState true (fun s => s.negotiateAlgorithms version baseAsym baseHash measHash) s

/-- GET_DIGESTS (R509). -/
def execGetDigests (version : Nat) (s : State) : Out :=
  onState true (fun s => s.getDigests version) s

/-- GET_CERTIFICATE (R509). -/
def execGetCertificate (version : Nat) (slot : Nat) (offset : Nat) (length : Nat) (s : State) : Out :=
  onState true (fun s => s.getCertificate version slot offset length) s

/-- CHALLENGE (R509). -/
def execChallenge (version : Nat) (slot : Nat) (nonce : Nat) (s : State) : Out :=
  onState true (fun s => s.challenge version slot nonce) s

/-- GET_MEASUREMENTS (R510). -/
def execGetMeasurements (version : Nat) (nonce : Nat) (block : Nat) (s : State) : Out :=
  onState true (fun s => s.getMeasurements version nonce block) s

/-- WAKE_N (R442). -/
def execWakeN (e : BootEnv) (s : State) : Out :=
  .next (s.wakeN e)

/-- POWER_ON_RESET (R488). -/
def execPowerOnReset (vbkp : Bool) (e : BootEnv) (s : State) : Out :=
  .next (s.powerOnReset vbkp e)

/-- RESET_N_ASSERT (R489). -/
def execResetNAssert (s : State) : Out :=
  .next s.resetNAssert

/-- RESET_N_RELEASE (R494). -/
def execResetNRelease (e : BootEnv) (s : State) : Out :=
  .next (s.resetNRelease e)

/-- CORE_RELEASE (R495). -/
def execCoreRelease (s : State) : Out :=
  .next s.coreRelease

/-- PATTERN_CHECK_DONE (R502). -/
def execPatternCheckDone (ok : Bool) (s : State) : Out :=
  onDev (fun d => d.patternCheckDone ok) s

/-- RECOVERY_FLASH_WRITE (R506). -/
def execRecoveryFlashWrite (l : Nat) (s : State) : Out :=
  onState (l < 8) (fun s => s.recoveryFlashWrite l) s

/-- RECOVERY_FLASH_READ (R506). -/
def execRecoveryFlashRead (l : Nat) (s : State) : Out :=
  onState (l < 8) (fun s => s.recoveryFlashRead l) s

/-- RECOVERY_VERIFY (R506). -/
def execRecoveryVerify (l : Nat) (e : BootEnv) (s : State) : Out :=
  onState (l < 8) (fun s => s.recoveryVerify l e) s

/-- BUS_HANG (R499). -/
def execBusHang (unit : Nat) (s : State) : Out :=
  onDev (fun d => d.busHang unit) s

/-- RAIL_FAULT (R524). -/
def execRailFault (rail : Nat) (s : State) : Out :=
  .next (s.railFault rail)

/-- THERMTRIP (R528). -/
def execThermtrip (s : State) : Out :=
  .next s.thermtrip

/-- ALERT_EXPIRE (R528). -/
def execAlertExpire (s : State) : Out :=
  onDev (fun d => d.alertExpire) s

/-- TAP_INSTRUCTION (R529). -/
def execTapInstruction (i : TapInstr) (s : State) : Out :=
  .next (s.tapInstruction i)

end Sys2Proof.Machine
end

