-- ==== Sys2Proof/Machine/ExecDict.lean ====
section
/-! DEFINITION. The requests of the object dictionary, each of them one request to the server, and the events that end what they begin: one meaning for each command. -/
namespace Sys2Proof.Machine

/-- DICT_READ (R61). -/
def execDictRead (q : Req) (s : State) : Out :=
  onState (q.hdr.port < 66) (fun s => s.serve opREAD q) s

/-- DICT_WRITE (R47). -/
def execDictWrite (q : Req) (s : State) : Out :=
  onState (q.hdr.port < 66) (fun s => s.serve opWRITE q) s

/-- READ_STAGED (R59). -/
def execReadStaged (q : Req) (s : State) : Out :=
  onState (q.hdr.port < 66) (fun s => s.serve opSTAGED q) s

/-- SEGMENT_READ (R60). -/
def execSegmentRead (q : Req) (s : State) : Out :=
  onState (q.hdr.port < 66) (fun s => s.serve opSEGREAD q) s

/-- SEGMENT_WRITE (R60). -/
def execSegmentWrite (q : Req) (s : State) : Out :=
  onState (q.hdr.port < 66) (fun s => s.serve opSEGWRITE q) s

/-- SEGMENT_CLOSE (R60). -/
def execSegmentClose (q : Req) (s : State) : Out :=
  onState (q.hdr.port < 66) (fun s => s.serve opSEGWRITE { q with data := [] }) s

/-- NEGOTIATE (R67). -/
def execNegotiate (h : Hdr) (lo : Nat) (hi : Nat) (s : State) : Out :=
  onState (h.port < 66) (fun s => s.serve opNEGOTIATE { hdr := h, index := 0, sub := 0, data := toLE 2 lo ++ toLE 2 hi, offset := 0, length := 4 }) s

/-- COMMIT_ASAP (R55). -/
def execCommitAsap (h : Hdr) (s : State) : Out :=
  onState (h.port < 66) (fun s => s.serveWrite h (0x1F00) 1 1 1) s

/-- COMMIT_AT_TICK (R55). -/
def execCommitAtTick (h : Hdr) (s : State) : Out :=
  onState (h.port < 66) (fun s => s.serveWrite h (0x1F00) 1 1 2) s

/-- COMMIT_DISCARD (R57). -/
def execCommitDiscard (h : Hdr) (s : State) : Out :=
  onState (h.port < 66) (fun s => s.serveWrite h (0x1F00) 1 1 3) s

/-- COMMIT_APPLY (R56). -/
def execCommitApply (session : Nat) (s : State) : Out :=
  onUnit (session < 64) (fun d => d.commitApply session) s

/-- FORCE_DISCARD (R54). -/
def execForceDiscard (h : Hdr) (session : Nat) (s : State) : Out :=
  onState (h.port < 66) (fun s => s.serveWrite h (0x1F01) 1 1 session) s

/-- SESSION_OPEN (R65). -/
def execSessionOpen (h : Hdr) (session : Nat) (s : State) : Out :=
  onState (h.port < 66 && session < 64) (fun s => s.serveWrite h (0x1200 + session) 1 1 1) s

/-- SESSION_CLOSE (R65). -/
def execSessionClose (h : Hdr) (session : Nat) (s : State) : Out :=
  onState (h.port < 66 && session < 64) (fun s => s.serveWrite h (0x1200 + session) 1 1 0) s

/-- SNAPSHOT_ASAP (R70). -/
def execSnapshotAsap (h : Hdr) (s : State) : Out :=
  onState (h.port < 66) (fun s => s.serveWrite h (0xA800) 1 1 1) s

/-- SNAPSHOT_AT_TICK (R70). -/
def execSnapshotAtTick (h : Hdr) (s : State) : Out :=
  onState (h.port < 66) (fun s => s.serveWrite h (0xA800) 1 1 2) s

/-- SNAPSHOT_TAKE (R70). -/
def execSnapshotTake (s : State) : Out :=
  onDev (fun d => d.snapshotTake) s

/-- CLEAR (R70). -/
def execClear (h : Hdr) (s : State) : Out :=
  onState (h.port < 66) (fun s => s.serveWrite h (0xA800) 4 1 1) s

/-- CLEAR_APPLY (R70). -/
def execClearApply (s : State) : Out :=
  onDev (fun d => d.clearApply) s

/-- ZEROISE (R247). -/
def execZeroise (h : Hdr) (c : Nat) (s : State) : Out :=
  onState (h.port < 66 && c < 64) (fun s => s.serveWrite h (0x3016 + 0x40 * c) 3 1 1) s

/-- RESOLVE_COMMIT (R306). -/
def execResolveCommit (h : Hdr) (p : Nat) (s : State) : Out :=
  onState (h.port < 66 && p < 16) (fun s => s.serveWrite h (0x2300 + p) 20 1 1) s

/-- RESOLVE_ABANDON (R306). -/
def execResolveAbandon (h : Hdr) (p : Nat) (value : Nat) (s : State) : Out :=
  onState (h.port < 66 && p < 16) (fun s => s.serveWrite h (0x2300 + p) 20 1 value) s

/-- JOB_DAMAGED (R311). -/
def execJobDamaged (h : Hdr) (p : Nat) (s : State) : Out :=
  onState (h.port < 66 && p < 16) (fun s => s.serveWrite h (0x2300 + p) 21 1 0) s

/-- FT_SET (R75). -/
def execFtSet (h : Hdr) (value : Nat) (s : State) : Out :=
  onState (h.port < 66) (fun s => s.serveWrite h (0x2000) 8 8 value) s

/-- PWR_WAIT_SET (R438). -/
def execPwrWaitSet (h : Hdr) (c : Nat) (s : State) : Out :=
  onState (h.port < 66 && c < 64) (fun s => s.serveWrite h (0x301B + 0x40 * c) 2 1 1) s

/-- PWR_WAIT_CANCEL (R438). -/
def execPwrWaitCancel (h : Hdr) (c : Nat) (s : State) : Out :=
  onState (h.port < 66 && c < 64) (fun s => s.serveWrite h (0x301B + 0x40 * c) 2 1 0) s

/-- CORE_CLASS (R474). -/
def execCoreClass (h : Hdr) (c : Nat) (value : Nat) (s : State) : Out :=
  onState (h.port < 66 && c < 64) (fun s => s.serveWrite h (0x301C + 0x40 * c) 4 1 value) s

/-- FENCE_REQ (R477). -/
def execFenceReq (h : Hdr) (c : Nat) (s : State) : Out :=
  onState (h.port < 66) (fun s => s.serveWrite h (0x8020) 1 1 c) s

/-- SCAN_REQ (R476). -/
def execScanReq (h : Hdr) (c : Nat) (s : State) : Out :=
  onState (h.port < 66) (fun s => s.serveWrite h (0x8020) 2 1 c) s

/-- UNIT_FAULT (R479). -/
def execUnitFault (h : Hdr) (unit : Nat) (s : State) : Out :=
  onState (h.port < 66) (fun s => s.serveWrite h (0x8020) 5 2 unit) s

/-- SVN_COMMIT (R503). -/
def execSvnCommit (h : Hdr) (s : State) : Out :=
  onState (h.port < 66) (fun s => s.serveWrite h (0x9000) 7 1 1) s

/-- DBG_CHALLENGE (R512). -/
def execDbgChallenge (h : Hdr) (s : State) : Out :=
  onState (h.port < 66) (fun s => s.serve opREAD { hdr := h, index := 0x9000, sub := 12, data := [], offset := 0, length := 0 }) s

/-- DBG_REQUEST (R512). -/
def execDbgRequest (h : Hdr) (level : Nat) (s : State) : Out :=
  onState (h.port < 66) (fun s => s.serveWrite h (0x9000) 13 1 level) s

/-- DBG_LOCK (R512). -/
def execDbgLock (h : Hdr) (s : State) : Out :=
  onState (h.port < 66) (fun s => s.serveWrite h (0x9000) 13 1 0) s

/-- DBG_RESPONSE (R512). -/
def execDbgResponse (h : Hdr) (signature : Nat) (s : State) : Out :=
  onState (h.port < 66) (fun s => s.serveWrite h (0x9000) 14 64 signature) s

/-- DEBUG_FULL_ENTER (R512). -/
def execDebugFullEnter (s : State) : Out :=
  onState true (fun s => s.debugFullEnter) s

/-- SANITISE (R513). -/
def execSanitise (h : Hdr) (value : Nat) (s : State) : Out :=
  onState (h.port < 66) (fun s => s.serveWrite h (0x9000) 15 1 value) s

/-- FLASH_ERASE (R507). -/
def execFlashErase (h : Hdr) (s : State) : Out :=
  onState (h.port < 66) (fun s => s.serveWrite h (0x9010) 3 1 1) s

/-- FLASH_PROGRAM (R507). -/
def execFlashProgram (h : Hdr) (s : State) : Out :=
  onState (h.port < 66) (fun s => s.serveWrite h (0x9010) 3 1 2) s

/-- FLASH_READ (R507). -/
def execFlashRead (h : Hdr) (s : State) : Out :=
  onState (h.port < 66) (fun s => s.serveWrite h (0x9010) 3 1 3) s

/-- FLASH_OP_DONE (R507). -/
def execFlashOpDone (ok : Bool) (s : State) : Out :=
  onState true (fun s => s.flashOpDone ok) s

/-- BLK_RESET (R497). -/
def execBlkReset (h : Hdr) (c : Nat) (value : Nat) (s : State) : Out :=
  onState (h.port < 66 && c < 64) (fun s => s.serveWrite h (0x301D + 0x40 * c) 1 1 value) s

/-- PORT_RESET (R497). -/
def execPortReset (h : Hdr) (port : Nat) (s : State) : Out :=
  onState (h.port < 66 && port < 8) (fun s => s.serveWrite h (0x5060 + port) 1 1 1) s

/-- LNK_ENABLE (R370). -/
def execLnkEnable (h : Hdr) (l : Nat) (on : Bool) (s : State) : Out :=
  onState (h.port < 66 && l < 64) (fun s => s.serveWrite h (0x5000 + l) 2 1 (ofBool on)) s

/-- CAP_W (R452). -/
def execCapW (h : Hdr) (watts : Nat) (s : State) : Out :=
  onState (h.port < 66) (fun s => s.serveWrite h (0x7000) 1 2 watts) s

/-- CTRL_MODE (R456). -/
def execCtrlMode (h : Hdr) (s : State) : Out :=
  onState (h.port < 66) (fun s => s.serveWrite h (0x7000) 5 1 0) s

/-- SANITISE_COMPLETE (R513). -/
def execSanitiseComplete (s : State) : Out :=
  onState true (fun s => s.sanitiseComplete) s

end Sys2Proof.Machine
end

