-- ==== Sys2Proof/Machine/ExecLink.lean ====
section
/-! DEFINITION. The events of the links: one meaning for each command. -/
namespace Sys2Proof.Machine

/-- FLIT_SLOT (R346). -/
def execFlitSlot (l : Nat) (s : State) : Out :=
  onUnit (l < 64) (fun d => d.flitSlot l) s

/-- NULL (R342). -/
def execNull (l : Nat) (f : Flit) (s : State) : Out :=
  onUnit (l < 64) (fun d => d.null l f) s

/-- FLIT_DATA_RECEIVE (R350). -/
def execFlitDataReceive (l : Nat) (f : Flit) (e : Fec) (s : State) : Out :=
  onUnit (l < 64) (fun d => d.flitDataReceive l f e) s

/-- FRAMING_RETRAIN (R339). -/
def execFramingRetrain (l : Nat) (s : State) : Out :=
  onUnit (l < 64) (fun d => d.framingRetrain l) s

/-- ACK_DEADLINE_EXPIRE (R351). -/
def execAckDeadlineExpire (l : Nat) (s : State) : Out :=
  onUnit (l < 64) (fun d => d.ackDeadlineExpire l) s

/-- LINK_FAIL (R366). -/
def execLinkFail (l : Nat) (reason : Nat) (s : State) : Out :=
  onUnit (l < 64) (fun d => d.linkFail l reason) s

/-- MESSAGE_REASSEMBLY_TIMEOUT (R343). -/
def execMessageReassemblyTimeout (l : Nat) (vc : Nat) (s : State) : Out :=
  onUnit (l < 64) (fun d => d.messageReassemblyTimeout l vc) s

/-- READ_REQ (R347). -/
def execReadReq (l : Nat) (s : State) : Out :=
  onUnit (l < 64) (fun d => d.readReq l) s

/-- READ_DATA (R347). -/
def execReadData (l : Nat) (s : State) : Out :=
  onUnit (l < 64) (fun d => d.readData l) s

/-- WRITE (R347). -/
def execWrite (l : Nat) (s : State) : Out :=
  onUnit (l < 64) (fun d => d.write l) s

/-- WRITE_ACK (R348). -/
def execWriteAck (l : Nat) (s : State) : Out :=
  onUnit (l < 64) (fun d => d.writeAck l) s

/-- ERROR (R348). -/
def execError (l : Nat) (s : State) : Out :=
  onUnit (l < 64) (fun d => d.errorResponse l) s

/-- REMOTE_TIMEOUT (R348). -/
def execRemoteTimeout (msgid : Nat) (s : State) : Out :=
  onDev (fun d => d.remoteTimeout msgid) s

/-- LINK_TRAIN (R353). -/
def execLinkTrain (l : Nat) (s : State) : Out :=
  onUnit (l < 64) (fun d => d.linkTrain l) s

/-- TRAINING_TIMEOUT (R353). -/
def execTrainingTimeout (l : Nat) (s : State) : Out :=
  onUnit (l < 64) (fun d => d.trainingTimeout l) s

/-- FAILED_RETRY (R353). -/
def execFailedRetry (l : Nat) (s : State) : Out :=
  onUnit (l < 64) (fun d => d.failedRetry l) s

/-- OFFER (R355). -/
def execOffer (l : Nat) (n : Nego) (s : State) : Out :=
  onUnit (l < 64) (fun d => d.offer l n) s

/-- ACCEPT (R355). -/
def execAccept (l : Nat) (n : Nego) (s : State) : Out :=
  onUnit (l < 64) (fun d => d.accept l n) s

/-- REFUSE (R355). -/
def execRefuse (l : Nat) (n : Nego) (s : State) : Out :=
  onUnit (l < 64) (fun d => d.refuse l n) s

/-- OFFER_SEND (R355). -/
def execOfferSend (l : Nat) (s : State) : Out :=
  onUnit (l < 64) (fun d => d.offerSend l) s

/-- ROUTE_RETURN (R367). -/
def execRouteReturn (l : Nat) (s : State) : Out :=
  onUnit (l < 64) (fun d => d.routeReturn l) s

/-- STANDBY_REQ (R361). -/
def execStandbyReq (l : OnLink) (s : State) : Out :=
  onUnit (l.l < 64) (fun d => d.standbyReq l.l l.f) s

/-- STANDBY_ACK (R361). -/
def execStandbyAck (l : OnLink) (s : State) : Out :=
  onUnit (l.l < 64) (fun d => d.standbyAck l.l l.f) s

/-- STANDBY_NAK (R361). -/
def execStandbyNak (l : OnLink) (s : State) : Out :=
  onUnit (l.l < 64) (fun d => d.standbyNak l.l l.f) s

/-- STANDBY_START (R361). -/
def execStandbyStart (l : Nat) (s : State) : Out :=
  onUnit (l < 64) (fun d => d.standbyStart l) s

/-- LANE_WAKE (R362). -/
def execLaneWake (l : Nat) (s : State) : Out :=
  onUnit (l < 64) (fun d => d.laneWake l) s

end Sys2Proof.Machine
end

