-- ==== Sys2Proof/Machine/ExecMove.lean ====
section
/-! DEFINITION. The commands of the move, gather and update engines: one meaning for each command. -/
namespace Sys2Proof.Machine

/-- MV_NOP (R248). -/
def execMvNop (c : Nat) (s : State) : Out :=
  onUnit (c < 64) (fun d => d.mvNop c) s

/-- MV_FENCE (R254). -/
def execMvFence (c : Nat) (s : State) : Out :=
  onUnit (c < 64) (fun d => d.mvFence c) s

/-- MV_COPY (R249). -/
def execMvCopy (c : Nat) (s : State) : Out :=
  onUnit (c < 64) (fun d => d.mvCopy c) s

/-- MV_COPY2D (R251). -/
def execMvCopy2d (c : Nat) (s : State) : Out :=
  onUnit (c < 64) (fun d => d.mvCopy2d c) s

/-- MV_TLOAD (R252). -/
def execMvTload (c : Nat) (s : State) : Out :=
  onUnit (c < 64) (fun d => d.mvTload c) s

/-- MV_SPLOAD (R190). -/
def execMvSpload (c : Nat) (s : State) : Out :=
  onUnit (c < 64) (fun d => d.mvSpload c) s

/-- MV_EXT (R248). -/
def execMvExt (c : Nat) (s : State) : Out :=
  onUnit (c < 64) (fun d => d.extSlot (eng 3 c)) s

/-- MOVE_COMPLETE (R256). -/
def execMoveComplete (c : Nat) (badGranules : List Nat) (s : State) : Out :=
  onUnit (c < 64) (fun d => d.moveComplete c badGranules) s

/-- RUN_AHEAD_READ (R261). -/
def execRunAheadRead (c : Nat) (s : State) : Out :=
  onUnit (c < 64) (fun d => d.runAheadRead c) s

/-- GT_NOP (R266). -/
def execGtNop (c : Nat) (s : State) : Out :=
  onUnit (c < 64) (fun d => d.gtNop c) s

/-- GT_ROWS (R267). -/
def execGtRows (c : Nat) (s : State) : Out :=
  onUnit (c < 64) (fun d => d.gtRows c) s

/-- GT_EXT (R266). -/
def execGtExt (c : Nat) (s : State) : Out :=
  onUnit (c < 64) (fun d => d.extSlot (eng 4 c)) s

/-- GATHER_COMPLETE (R268). -/
def execGatherComplete (c : Nat) (s : State) : Out :=
  onUnit (c < 64) (fun d => d.gatherComplete c) s

/-- UP_NOP (R315). -/
def execUpNop (u : Nat) (p : Nat) (s : State) : Out :=
  onUnit (u < 20 && p < 16) (fun d => d.upNop u p) s

/-- UP_APPLY (R316). -/
def execUpApply (u : Nat) (p : Nat) (s : State) : Out :=
  onUnit (u < 20 && p < 16) (fun d => d.upApply u p) s

/-- UP_DERIVE (R327). -/
def execUpDerive (u : Nat) (p : Nat) (s : State) : Out :=
  onUnit (u < 20 && p < 16) (fun d => d.upDerive u p) s

/-- UP_EXT (R315). -/
def execUpExt (u : Nat) (p : Nat) (s : State) : Out :=
  onUnit (u < 20 && p < 16) (fun d => d.extSlot (upe u p)) s

/-- UPDATE_COMPLETE (R329). -/
def execUpdateComplete (u : Nat) (p : Nat) (s : State) : Out :=
  onUnit (u < 20 && p < 16) (fun d => d.updateComplete u p) s

end Sys2Proof.Machine
end

