-- ==== Sys2Proof/Machine/ExecPlace.lean ====
section
/-! DEFINITION. Placement, partitions, storage events and scans: one meaning for each command. -/
namespace Sys2Proof.Machine

/-- PARTITION_RELEASED (R427). -/
def execPartitionReleased (p : Nat) (s : State) : Out :=
  onUnit (p < 16) (fun d => d.partitionReleased p) s

/-- CHANNEL_ZEROISED (R334). -/
def execChannelZeroised (k : Nat) (s : State) : Out :=
  onUnit (k < 320) (fun d => d.channelZeroised k) s

/-- WAY_DRAINED (R283). -/
def execWayDrained (q : Nat) (w : Nat) (s : State) : Out :=
  onUnit (q < 4 && w < 16) (fun d => d.wayDrained q w) s

/-- ACC_AREA_LOCKED (R284). -/
def execAccAreaLocked (q : Nat) (s : State) : Out :=
  onUnit (q < 4) (fun d => d.accAreaLocked q) s

/-- SCAN_START (R476). -/
def execScanStart (c : Nat) (s : State) : Out :=
  onUnit (c < 64) (fun d => d.scanStart c) s

/-- SCAN_COMPLETE (R475). -/
def execScanComplete (c : Nat) (passed : Bool) (s : State) : Out :=
  onUnit (c < 64) (fun d => d.scanComplete c passed) s

/-- SCAN_ABANDON (R476). -/
def execScanAbandon (c : Nat) (s : State) : Out :=
  onUnit (c < 64) (fun d => d.scanAbandon c) s

/-- SCAN_PERIOD_EXPIRE (R476). -/
def execScanPeriodExpire (s : State) : Out :=
  onDev (fun d => d.scanPeriodExpire) s

/-- SWITCH_REQUEST (R417). -/
def execSwitchRequest (c : Nat) (s : State) : Out :=
  onUnit (c < 64) (fun d => d.switchRequest c) s

/-- SWITCH_DONE (R417). -/
def execSwitchDone (c : Nat) (s : State) : Out :=
  onUnit (c < 64) (fun d => d.switchDone c) s

/-- SW_LINK_LIMIT_EXPIRE (R420). -/
def execSwLinkLimitExpire (c : Nat) (s : State) : Out :=
  onUnit (c < 64) (fun d => d.swLinkLimitExpire c) s

/-- BE_ADMISSION (R415). -/
def execBeAdmission (p : Nat) (s : State) : Out :=
  onUnit (p < 16) (fun d => d.beAdmission p) s

/-- QUANTUM_EXPIRE (R415). -/
def execQuantumExpire (p : Nat) (s : State) : Out :=
  onUnit (p < 16) (fun d => d.quantumExpire p) s

/-- PREEMPT_FORCE (R424). -/
def execPreemptForce (slot : Nat) (s : State) : Out :=
  onUnit (slot < 16) (fun d => d.preemptForce slot) s

/-- STAIN_STOP (R73). -/
def execStainStop (slot : Nat) (s : State) : Out :=
  onUnit (slot < 16) (fun d => d.stainOver slot) s

/-- TRACKER_ADMIT (R288). -/
def execTrackerAdmit (q : Nat) (s : State) : Out :=
  onUnit (q < 4) (fun d => d.trackerAdmit q) s

/-- PARTITION_CREATED (R406). -/
def execPartitionCreated (p : Nat) (s : State) : Out :=
  onUnit (p < 16) (fun d => d.partitionCreated p) s

/-- ACC_AREA_UNLOCKED (R284). -/
def execAccAreaUnlocked (q : Nat) (s : State) : Out :=
  onUnit (q < 4) (fun d => d.accAreaUnlocked q) s

end Sys2Proof.Machine
end

