-- ==== Sys2Proof/Machine/ExecPower.lean ====
section
/-! DEFINITION. Power, energy and the upkeep of storage: one meaning for each command. -/
namespace Sys2Proof.Machine

/-- METER_UPDATE (R428). -/
def execMeterUpdate (s : State) : Out :=
  onDev (fun d => d.meterUpdate) s

/-- LEDGER_WINDOW_END (R458). -/
def execLedgerWindowEnd (measured : List Nat) (estimate : Nat) (shares : List Nat) (s : State) : Out :=
  onDev (fun d => d.ledgerWindowEnd measured estimate shares) s

/-- PEAK_EVALUATE (R453). -/
def execPeakEvaluate (sum : Nat) (without : Nat) (s : State) : Out :=
  onDev (fun d => d.peakEvaluate sum without) s

/-- SEGMENT_BEGIN (R454). -/
def execSegmentBegin (p : Nat) (s : State) : Out :=
  onUnit (p < 16) (fun d => d.segmentBegin p) s

/-- OP_RAMP_DONE (R446). -/
def execOpRampDone (q : Nat) (s : State) : Out :=
  onUnit (q < 4) (fun d => d.opRampDone q) s

/-- DROOP_DETECT (R447). -/
def execDroopDetect (q : Nat) (s : State) : Out :=
  onUnit (q < 4) (fun d => d.droopDetect q) s

/-- DROOP_RELEASE (R447). -/
def execDroopRelease (q : Nat) (s : State) : Out :=
  onUnit (q < 4) (fun d => d.droopRelease q) s

/-- SLACK_SHORT (R448). -/
def execSlackShort (q : Nat) (s : State) : Out :=
  onUnit (q < 4) (fun d => d.slackShort q) s

/-- CORE_POWER_ENTRY (R438). -/
def execCorePowerEntry (c : Nat) (s : State) : Out :=
  onUnit (c < 64) (fun d => d.corePowerEntry c) s

/-- DOMAIN_POWER_ENTRY (R439). -/
def execDomainPowerEntry (d : Nat) (s : State) : Out :=
  onUnit (d < 77) (fun x => x.domainPowerEntry d) s

/-- POWER_ENTRY_ABANDON (R441). -/
def execPowerEntryAbandon (d : Nat) (s : State) : Out :=
  onUnit (d < 77) (fun x => x.powerEntryAbandon d) s

/-- DOMAIN_WAKE (R442). -/
def execDomainWake (d : Nat) (s : State) : Out :=
  onUnit (d < 77) (fun x => x.domainWake d) s

/-- DOMAIN_RETURN_DONE (R443). -/
def execDomainReturnDone (d : Nat) (found : List (Nat × Nat)) (s : State) : Out :=
  onUnit (d < 77) (fun x => x.domainReturnDone d found) s

/-- SCRUB_READ (R242). -/
def execScrubRead (c : Nat) (space : Nat) (word : Nat) (found : Finding) (s : State) : Out :=
  onUnit (c < 64 && space < 4) (fun d => d.scrubRead c space word found) s

/-- PATROL_SCRUB (R277). -/
def execPatrolScrub (k : Nat) (line : Nat) (found : Finding) (s : State) : Out :=
  onUnit (k < 320 && line < chLines) (fun d => d.patrolScrub k line found) s

/-- HBM_REFRESH (R276). -/
def execHbmRefresh (stack : Nat) (management : Bool) (s : State) : Out :=
  onUnit (stack < 20) (fun d => d.hbmRefresh stack management) s

/-- HBM_TEMP_READ (R274). -/
def execHbmTempRead (stack : Nat) (temp : Nat) (s : State) : Out :=
  onUnit (stack < 20) (fun d => d.hbmTempRead stack temp) s

/-- AVS_TIMEOUT (R522). -/
def execAvsTimeout (q : Nat) (s : State) : Out :=
  onUnit (q < 4) (fun d => d.avsTimeout q) s

/-- POWER_ENTRY_COMPLETE (R440). -/
def execPowerEntryComplete (d : Nat) (s : State) : Out :=
  onUnit (d < 77) (fun x => x.powerEntryComplete d) s

/-- STAGE_CACHE_SCRUB (R281). -/
def execStageCacheScrub (q : Nat) (line : Nat) (found : Finding) (s : State) : Out :=
  onUnit (q < 4) (fun d => d.stageCacheScrub q line found) s

/-- AVSBUS_ANSWER (R522). -/
def execAvsbusAnswer (q : Nat) (s : State) : Out :=
  onUnit (q < 4) (fun d => d.avsbusAnswer q) s

/-- THERMAL_OBJECTS_UPDATE (R533). -/
def execThermalObjectsUpdate (temps : List Nat) (s : State) : Out :=
  onDev (fun d => d.thermalUpdate temps) s

end Sys2Proof.Machine
end

