-- ==== Sys2Proof/Machine/ExecRing.lean ====
section
/-! DEFINITION. The commands of the reduction engines, the vote and the swatch exchange: one meaning for each command. -/
namespace Sys2Proof.Machine

/-- RD_NOP (R378). -/
def execRdNop (r : Nat) (p : Nat) (s : State) : Out :=
  onUnit (r < 8 && p < 16) (fun d => d.rdNop r p) s

/-- RD_BUCKET (R379). -/
def execRdBucket (r : Nat) (p : Nat) (s : State) : Out :=
  onUnit (r < 8 && p < 16) (fun d => d.rdBucket r p) s

/-- RD_REPASS (R391). -/
def execRdRepass (r : Nat) (p : Nat) (s : State) : Out :=
  onUnit (r < 8 && p < 16) (fun d => d.rdRepass r p) s

/-- RD_EXT (R378). -/
def execRdExt (r : Nat) (p : Nat) (s : State) : Out :=
  onUnit (r < 8 && p < 16) (fun d => d.extSlot (rde r p)) s

/-- CONTRIBUTION_READY (R394). -/
def execContributionReady (ch : Nat) (s : State) : Out :=
  onUnit (ch < 32) (fun d => d.contributionReady ch) s

/-- CONTRIB_DEADLINE (R395). -/
def execContribDeadline (ch : Nat) (s : State) : Out :=
  onUnit (ch < 32) (fun d => d.contribDeadline ch) s

/-- HOLD_LIMIT_EXPIRE (R395). -/
def execHoldLimitExpire (ch : Nat) (s : State) : Out :=
  onUnit (ch < 32) (fun d => d.holdLimitExpire ch) s

/-- LATE_CONTRIBUTION (R396). -/
def execLateContribution (ch : Nat) (s : State) : Out :=
  onUnit (ch < 32) (fun d => d.lateContribution ch) s

/-- SCALE (R386). -/
def execScale (l : Nat) (s : State) : Out :=
  onUnit (l < 64) (fun d => d.ringReceive l 1) s

/-- RS (R387). -/
def execRs (l : Nat) (s : State) : Out :=
  onUnit (l < 64) (fun d => d.ringReceive l 2) s

/-- AG (R388). -/
def execAg (l : Nat) (s : State) : Out :=
  onUnit (l < 64) (fun d => d.ringReceive l 3) s

/-- LIST (R391). -/
def execList (l : Nat) (s : State) : Out :=
  onUnit (l < 64) (fun d => d.ringReceive l 4) s

/-- REPASS_RS (R391). -/
def execRepassRs (l : Nat) (s : State) : Out :=
  onUnit (l < 64) (fun d => d.ringReceive l 5) s

/-- REPASS_AG (R391). -/
def execRepassAg (l : Nat) (s : State) : Out :=
  onUnit (l < 64) (fun d => d.ringReceive l 6) s

/-- ABORT (R399). -/
def execAbort (l : Nat) (s : State) : Out :=
  onUnit (l < 64) (fun d => d.ringReceive l 7) s

/-- BUCKET_COMPLETE (R388). -/
def execBucketComplete (ch : Nat) (s : State) : Out :=
  onUnit (ch < 32) (fun d => d.bucketComplete ch) s

/-- VOTE (R303). -/
def execVote (l : Nat) (s : State) : Out :=
  onUnit (l < 64) (fun d => d.vote l) s

/-- VOTE_CLOSE (R301). -/
def execVoteClose (p : Nat) (s : State) : Out :=
  onUnit (p < 16) (fun d => d.voteClose p) s

/-- DECISION_IN_DOUBT (R305). -/
def execDecisionInDoubt (p : Nat) (s : State) : Out :=
  onUnit (p < 16) (fun d => d.decisionInDoubt p) s

/-- SWATCH (R470). -/
def execSwatch (l : Nat) (s : State) : Out :=
  onUnit (l < 64) (fun d => d.swatch l) s

/-- SWATCH_EXCHANGE (R470). -/
def execSwatchExchange (p : Nat) (s : State) : Out :=
  onUnit (p < 16) (fun d => d.swatchExchange p) s

end Sys2Proof.Machine
end

