-- ==== Sys2Proof/Machine/ExecTime.lean ====
section
/-! DEFINITION. Lists, schedules and fabric time: one meaning for each command. -/
namespace Sys2Proof.Machine

/-- LIST_FETCH (R23). -/
def execListFetch (k : Nat) (n : Nat) (p : Nat) (s : State) : Out :=
  onUnit (engAt k n p).ok (fun d => d.fetchList (engAt k n p)) s

/-- COMMAND_SLOT_UNREADABLE (R535). -/
def execCommandSlotUnreadable (k : Nat) (n : Nat) (p : Nat) (s : State) : Out :=
  onUnit (engAt k n p).ok (fun d => d.slotUnreadable (engAt k n p)) s

/-- COMMAND_LATE (R97). -/
def execCommandLate (k : Nat) (n : Nat) (p : Nat) (s : State) : Out :=
  onUnit (engAt k n p).ok (fun d => d.commandLate (engAt k n p)) s

/-- SCHEDULE_START (R87). -/
def execScheduleStart (p : Nat) (s : State) : Out :=
  onUnit (p < 16) (fun d => d.scheduleStart p) s

/-- ATTEMPT_END (R89). -/
def execAttemptEnd (p : Nat) (s : State) : Out :=
  onUnit (p < 16) (fun d => d.capAgain (d.attemptEnd p)) s

/-- SEGMENT_END (R91). -/
def execSegmentEnd (p : Nat) (s : State) : Out :=
  onUnit (p < 16) (fun d => d.capAgain (d.segmentEnd p)) s

/-- SCHEDULE_RESUME (R91). -/
def execScheduleResume (p : Nat) (s : State) : Out :=
  onUnit (p < 16) (fun d => d.scheduleResume p) s

/-- TIMEMARK (R359). -/
def execTimemark (l : Nat) (m : MarkFlit) (s : State) : Out :=
  onUnit (l < 64) (fun d => d.timemark l m.f m.m) s

/-- TIMEMARK_SEND (R358). -/
def execTimemarkSend (l : Nat) (s : State) : Out :=
  onUnit (l < 64) (fun d => d.timemarkSend l) s

/-- MARK_TIMEOUT (R358). -/
def execMarkTimeout (s : State) : Out :=
  onDev (fun d => d.markTimeout) s

/-- FTREF_LOSS (R79). -/
def execFtrefLoss (s : State) : Out :=
  onDev (fun d => d.ftrefLoss) s

/-- REFERENCE_LOCK (R79). -/
def execReferenceLock (s : State) : Out :=
  onDev (fun d => d.referenceLock) s

/-- HOLDOVER_EXPIRE (R79). -/
def execHoldoverExpire (s : State) : Out :=
  onDev (fun d => d.holdoverExpire) s

/-- FTPPS_EDGE (R80). -/
def execFtppsEdge (phase : Int) (s : State) : Out :=
  onDev (fun d => d.ftppsEdge phase) s

end Sys2Proof.Machine
end

