-- ==== Sys2Proof/Machine/Dispatch.lean ====
section
/-! DEFINITION. The dispatch: one arm per command, each one call of its meaning. -/
namespace Sys2Proof.Machine

/-- A command's effect on everything but the queue. -/
def exec (i : Instr) (s : State) : Host.Outcome State Fault Refusal :=
  match i with
  | .mxNop c => Sys2Proof.Machine.execMxNop c s
  | .mxQuiesce c => Sys2Proof.Machine.execMxQuiesce c s
  | .mxPass c => Sys2Proof.Machine.execMxPass c s
  | .mxGang c => Sys2Proof.Machine.execMxGang c s
  | .mxExt c => Sys2Proof.Machine.execMxExt c s
  | .passComplete c => Sys2Proof.Machine.execPassComplete c s
  | .interlockStop c syndrome => Sys2Proof.Machine.execInterlockStop c syndrome s
  | .vxNop c => Sys2Proof.Machine.execVxNop c s
  | .vxSetlen c => Sys2Proof.Machine.execVxSetlen c s
  | .vxEp c => Sys2Proof.Machine.execVxEp c s
  | .vxCvt c => Sys2Proof.Machine.execVxCvt c s
  | .vxExt c => Sys2Proof.Machine.execVxExt c s
  | .vxComplete c yields => Sys2Proof.Machine.execVxComplete c yields s
  | .mvNop c => Sys2Proof.Machine.execMvNop c s
  | .mvFence c => Sys2Proof.Machine.execMvFence c s
  | .mvCopy c => Sys2Proof.Machine.execMvCopy c s
  | .mvCopy2d c => Sys2Proof.Machine.execMvCopy2d c s
  | .mvTload c => Sys2Proof.Machine.execMvTload c s
  | .mvSpload c => Sys2Proof.Machine.execMvSpload c s
  | .mvExt c => Sys2Proof.Machine.execMvExt c s
  | .moveComplete c badGranules => Sys2Proof.Machine.execMoveComplete c badGranules s
  | .runAheadRead c => Sys2Proof.Machine.execRunAheadRead c s
  | .gtNop c => Sys2Proof.Machine.execGtNop c s
  | .gtRows c => Sys2Proof.Machine.execGtRows c s
  | .gtExt c => Sys2Proof.Machine.execGtExt c s
  | .gatherComplete c => Sys2Proof.Machine.execGatherComplete c s
  | .upNop u p => Sys2Proof.Machine.execUpNop u p s
  | .upApply u p => Sys2Proof.Machine.execUpApply u p s
  | .upDerive u p => Sys2Proof.Machine.execUpDerive u p s
  | .upExt u p => Sys2Proof.Machine.execUpExt u p s
  | .updateComplete u p => Sys2Proof.Machine.execUpdateComplete u p s
  | .rdNop r p => Sys2Proof.Machine.execRdNop r p s
  | .rdBucket r p => Sys2Proof.Machine.execRdBucket r p s
  | .rdRepass r p => Sys2Proof.Machine.execRdRepass r p s
  | .rdExt r p => Sys2Proof.Machine.execRdExt r p s
  | .contributionReady ch => Sys2Proof.Machine.execContributionReady ch s
  | .contribDeadline ch => Sys2Proof.Machine.execContribDeadline ch s
  | .holdLimitExpire ch => Sys2Proof.Machine.execHoldLimitExpire ch s
  | .lateContribution ch => Sys2Proof.Machine.execLateContribution ch s
  | .scale l => Sys2Proof.Machine.execScale l s
  | .rs l => Sys2Proof.Machine.execRs l s
  | .ag l => Sys2Proof.Machine.execAg l s
  | .list l => Sys2Proof.Machine.execList l s
  | .repassRs l => Sys2Proof.Machine.execRepassRs l s
  | .repassAg l => Sys2Proof.Machine.execRepassAg l s
  | .abort l => Sys2Proof.Machine.execAbort l s
  | .bucketComplete ch => Sys2Proof.Machine.execBucketComplete ch s
  | .vote l => Sys2Proof.Machine.execVote l s
  | .voteClose p => Sys2Proof.Machine.execVoteClose p s
  | .decisionInDoubt p => Sys2Proof.Machine.execDecisionInDoubt p s
  | .swatch l => Sys2Proof.Machine.execSwatch l s
  | .swatchExchange p => Sys2Proof.Machine.execSwatchExchange p s
  | .listFetch k n p => Sys2Proof.Machine.execListFetch k n p s
  | .commandSlotUnreadable k n p => Sys2Proof.Machine.execCommandSlotUnreadable k n p s
  | .commandLate k n p => Sys2Proof.Machine.execCommandLate k n p s
  | .scheduleStart p => Sys2Proof.Machine.execScheduleStart p s
  | .attemptEnd p => Sys2Proof.Machine.execAttemptEnd p s
  | .segmentEnd p => Sys2Proof.Machine.execSegmentEnd p s
  | .scheduleResume p => Sys2Proof.Machine.execScheduleResume p s
  | .dictRead q => Sys2Proof.Machine.execDictRead q s
  | .dictWrite q => Sys2Proof.Machine.execDictWrite q s
  | .readStaged q => Sys2Proof.Machine.execReadStaged q s
  | .segmentRead q => Sys2Proof.Machine.execSegmentRead q s
  | .segmentWrite q => Sys2Proof.Machine.execSegmentWrite q s
  | .segmentClose q => Sys2Proof.Machine.execSegmentClose q s
  | .negotiate h lo hi => Sys2Proof.Machine.execNegotiate h lo hi s
  | .commitAsap h => Sys2Proof.Machine.execCommitAsap h s
  | .commitAtTick h => Sys2Proof.Machine.execCommitAtTick h s
  | .commitDiscard h => Sys2Proof.Machine.execCommitDiscard h s
  | .commitApply session => Sys2Proof.Machine.execCommitApply session s
  | .partitionReleased p => Sys2Proof.Machine.execPartitionReleased p s
  | .channelZeroised k => Sys2Proof.Machine.execChannelZeroised k s
  | .wayDrained q w => Sys2Proof.Machine.execWayDrained q w s
  | .accAreaLocked q => Sys2Proof.Machine.execAccAreaLocked q s
  | .forceDiscard h session => Sys2Proof.Machine.execForceDiscard h session s
  | .sessionOpen h session => Sys2Proof.Machine.execSessionOpen h session s
  | .sessionClose h session => Sys2Proof.Machine.execSessionClose h session s
  | .snapshotAsap h => Sys2Proof.Machine.execSnapshotAsap h s
  | .snapshotAtTick h => Sys2Proof.Machine.execSnapshotAtTick h s
  | .snapshotTake => Sys2Proof.Machine.execSnapshotTake s
  | .clear h => Sys2Proof.Machine.execClear h s
  | .clearApply => Sys2Proof.Machine.execClearApply s
  | .zeroise h c => Sys2Proof.Machine.execZeroise h c s
  | .resolveCommit h p => Sys2Proof.Machine.execResolveCommit h p s
  | .resolveAbandon h p value => Sys2Proof.Machine.execResolveAbandon h p value s
  | .jobDamaged h p => Sys2Proof.Machine.execJobDamaged h p s
  | .ftSet h value => Sys2Proof.Machine.execFtSet h value s
  | .pwrWaitSet h c => Sys2Proof.Machine.execPwrWaitSet h c s
  | .pwrWaitCancel h c => Sys2Proof.Machine.execPwrWaitCancel h c s
  | .coreClass h c value => Sys2Proof.Machine.execCoreClass h c value s
  | .fenceReq h c => Sys2Proof.Machine.execFenceReq h c s
  | .scanReq h c => Sys2Proof.Machine.execScanReq h c s
  | .scanStart c => Sys2Proof.Machine.execScanStart c s
  | .scanComplete c passed => Sys2Proof.Machine.execScanComplete c passed s
  | .scanAbandon c => Sys2Proof.Machine.execScanAbandon c s
  | .scanPeriodExpire => Sys2Proof.Machine.execScanPeriodExpire s
  | .unitFault h unit => Sys2Proof.Machine.execUnitFault h unit s
  | .svnCommit h => Sys2Proof.Machine.execSvnCommit h s
  | .dbgChallenge h => Sys2Proof.Machine.execDbgChallenge h s
  | .dbgRequest h level => Sys2Proof.Machine.execDbgRequest h level s
  | .dbgLock h => Sys2Proof.Machine.execDbgLock h s
  | .dbgResponse h signature => Sys2Proof.Machine.execDbgResponse h signature s
  | .debugFullEnter => Sys2Proof.Machine.execDebugFullEnter s
  | .sanitise h value => Sys2Proof.Machine.execSanitise h value s
  | .flashErase h => Sys2Proof.Machine.execFlashErase h s
  | .flashProgram h => Sys2Proof.Machine.execFlashProgram h s
  | .flashRead h => Sys2Proof.Machine.execFlashRead h s
  | .flashOpDone ok => Sys2Proof.Machine.execFlashOpDone ok s
  | .blkReset h c value => Sys2Proof.Machine.execBlkReset h c value s
  | .portReset h port => Sys2Proof.Machine.execPortReset h port s
  | .lnkEnable h l on => Sys2Proof.Machine.execLnkEnable h l on s
  | .capW h watts => Sys2Proof.Machine.execCapW h watts s
  | .ctrlMode h => Sys2Proof.Machine.execCtrlMode h s
  | .entdaa address => Sys2Proof.Machine.execEntdaa address s
  | .mctpControl request => Sys2Proof.Machine.execMctpControl request s
  | .getVersion version => Sys2Proof.Machine.execGetVersion version s
  | .getCapabilities version => Sys2Proof.Machine.execGetCapabilities version s
  | .negotiateAlgorithms version baseAsym baseHash measHash => Sys2Proof.Machine.execNegotiateAlgorithms version baseAsym baseHash measHash s
  | .getDigests version => Sys2Proof.Machine.execGetDigests version s
  | .getCertificate version slot offset length => Sys2Proof.Machine.execGetCertificate version slot offset length s
  | .challenge version slot nonce => Sys2Proof.Machine.execChallenge version slot nonce s
  | .getMeasurements version nonce block => Sys2Proof.Machine.execGetMeasurements version nonce block s
  | .flitSlot l => Sys2Proof.Machine.execFlitSlot l s
  | .null l f => Sys2Proof.Machine.execNull l f s
  | .flitDataReceive l f e => Sys2Proof.Machine.execFlitDataReceive l f e s
  | .framingRetrain l => Sys2Proof.Machine.execFramingRetrain l s
  | .ackDeadlineExpire l => Sys2Proof.Machine.execAckDeadlineExpire l s
  | .linkFail l reason => Sys2Proof.Machine.execLinkFail l reason s
  | .messageReassemblyTimeout l vc => Sys2Proof.Machine.execMessageReassemblyTimeout l vc s
  | .readReq l => Sys2Proof.Machine.execReadReq l s
  | .readData l => Sys2Proof.Machine.execReadData l s
  | .write l => Sys2Proof.Machine.execWrite l s
  | .writeAck l => Sys2Proof.Machine.execWriteAck l s
  | .error l => Sys2Proof.Machine.execError l s
  | .remoteTimeout msgid => Sys2Proof.Machine.execRemoteTimeout msgid s
  | .linkTrain l => Sys2Proof.Machine.execLinkTrain l s
  | .trainingTimeout l => Sys2Proof.Machine.execTrainingTimeout l s
  | .failedRetry l => Sys2Proof.Machine.execFailedRetry l s
  | .offer l n => Sys2Proof.Machine.execOffer l n s
  | .accept l n => Sys2Proof.Machine.execAccept l n s
  | .refuse l n => Sys2Proof.Machine.execRefuse l n s
  | .offerSend l => Sys2Proof.Machine.execOfferSend l s
  | .routeReturn l => Sys2Proof.Machine.execRouteReturn l s
  | .standbyReq l => Sys2Proof.Machine.execStandbyReq l s
  | .standbyAck l => Sys2Proof.Machine.execStandbyAck l s
  | .standbyNak l => Sys2Proof.Machine.execStandbyNak l s
  | .standbyStart l => Sys2Proof.Machine.execStandbyStart l s
  | .laneWake l => Sys2Proof.Machine.execLaneWake l s
  | .timemark l m => Sys2Proof.Machine.execTimemark l m s
  | .timemarkSend l => Sys2Proof.Machine.execTimemarkSend l s
  | .markTimeout => Sys2Proof.Machine.execMarkTimeout s
  | .ftrefLoss => Sys2Proof.Machine.execFtrefLoss s
  | .referenceLock => Sys2Proof.Machine.execReferenceLock s
  | .holdoverExpire => Sys2Proof.Machine.execHoldoverExpire s
  | .ftppsEdge phase => Sys2Proof.Machine.execFtppsEdge phase s
  | .switchRequest c => Sys2Proof.Machine.execSwitchRequest c s
  | .switchDone c => Sys2Proof.Machine.execSwitchDone c s
  | .swLinkLimitExpire c => Sys2Proof.Machine.execSwLinkLimitExpire c s
  | .beAdmission p => Sys2Proof.Machine.execBeAdmission p s
  | .quantumExpire p => Sys2Proof.Machine.execQuantumExpire p s
  | .preemptForce slot => Sys2Proof.Machine.execPreemptForce slot s
  | .stainStop slot => Sys2Proof.Machine.execStainStop slot s
  | .meterUpdate => Sys2Proof.Machine.execMeterUpdate s
  | .ledgerWindowEnd measured estimate shares => Sys2Proof.Machine.execLedgerWindowEnd measured estimate shares s
  | .peakEvaluate sum without => Sys2Proof.Machine.execPeakEvaluate sum without s
  | .segmentBegin p => Sys2Proof.Machine.execSegmentBegin p s
  | .opRampDone q => Sys2Proof.Machine.execOpRampDone q s
  | .droopDetect q => Sys2Proof.Machine.execDroopDetect q s
  | .droopRelease q => Sys2Proof.Machine.execDroopRelease q s
  | .slackShort q => Sys2Proof.Machine.execSlackShort q s
  | .corePowerEntry c => Sys2Proof.Machine.execCorePowerEntry c s
  | .domainPowerEntry d => Sys2Proof.Machine.execDomainPowerEntry d s
  | .powerEntryAbandon d => Sys2Proof.Machine.execPowerEntryAbandon d s
  | .domainWake d => Sys2Proof.Machine.execDomainWake d s
  | .domainReturnDone d found => Sys2Proof.Machine.execDomainReturnDone d found s
  | .wakeN e => Sys2Proof.Machine.execWakeN e s
  | .scrubRead c space word found => Sys2Proof.Machine.execScrubRead c space word found s
  | .patrolScrub k line found => Sys2Proof.Machine.execPatrolScrub k line found s
  | .hbmRefresh stack management => Sys2Proof.Machine.execHbmRefresh stack management s
  | .hbmTempRead stack temp => Sys2Proof.Machine.execHbmTempRead stack temp s
  | .trackerAdmit q => Sys2Proof.Machine.execTrackerAdmit q s
  | .powerOnReset vbkp e => Sys2Proof.Machine.execPowerOnReset vbkp e s
  | .resetNAssert => Sys2Proof.Machine.execResetNAssert s
  | .resetNRelease e => Sys2Proof.Machine.execResetNRelease e s
  | .coreRelease => Sys2Proof.Machine.execCoreRelease s
  | .patternCheckDone ok => Sys2Proof.Machine.execPatternCheckDone ok s
  | .recoveryFlashWrite l => Sys2Proof.Machine.execRecoveryFlashWrite l s
  | .recoveryFlashRead l => Sys2Proof.Machine.execRecoveryFlashRead l s
  | .recoveryVerify l e => Sys2Proof.Machine.execRecoveryVerify l e s
  | .busHang unit => Sys2Proof.Machine.execBusHang unit s
  | .railFault rail => Sys2Proof.Machine.execRailFault rail s
  | .thermtrip => Sys2Proof.Machine.execThermtrip s
  | .avsTimeout q => Sys2Proof.Machine.execAvsTimeout q s
  | .alertExpire => Sys2Proof.Machine.execAlertExpire s
  | .partitionCreated p => Sys2Proof.Machine.execPartitionCreated p s
  | .powerEntryComplete d => Sys2Proof.Machine.execPowerEntryComplete d s
  | .sanitiseComplete => Sys2Proof.Machine.execSanitiseComplete s
  | .accAreaUnlocked q => Sys2Proof.Machine.execAccAreaUnlocked q s
  | .stageCacheScrub q line found => Sys2Proof.Machine.execStageCacheScrub q line found s
  | .avsbusAnswer q => Sys2Proof.Machine.execAvsbusAnswer q s
  | .tapInstruction t => Sys2Proof.Machine.execTapInstruction t s
  | .thermalObjectsUpdate temps => Sys2Proof.Machine.execThermalObjectsUpdate temps s

end Sys2Proof.Machine
end

