-- ==== Sys2Proof/Safety.lean ====
section
/-! DEFINITION. What counts as a safe run, and the properties of states that statements are made of. -/
namespace Sys2Proof.Machine

/-! ## Runs -/

/-- A step that answers a next state. -/
def Goes (o : Out) : Prop := ∃ t, o = .next t

/-- No prefix of a run of `n` steps stops. -/
def Safe (n : Nat) (s : State) : Prop :=
  match n with
  | 0 => True
  | k + 1 => ∃ t, step s = .next t ∧ Safe k t

/-! ## Memory -/

/-- Every memory that is held by address is in its canonical form: the flash, the bytes of HBM (rising; what an unlisted byte
of an owned channel reads as is open), what the stacks hold of the free channels, the accumulation areas, the scratchpads. -/
def Memory.wf (s : State) : Bool :=
  Map.wf 0xFF s.sec.flash && Map.rising 0 s.dev.mem.cells && Map.wf 0 s.dev.mem.raw && Map.wf 0 s.dev.mem.acc &&
  s.dev.cores.all (fun (e : Nat × Core) => Map.wf 0 e.2.sp)

/-- The flash in its canonical form: offsets rising and within the flash, no erased byte listed. -/
def FlashOk (x : Sec) : Prop := Map.wf 0xFF x.flash = true ∧ ∀ e ∈ x.flash, e.1 < flashSize

/-- The byte of the flash at an offset. -/
def Sec.byte (x : Sec) (a : Nat) : Byte := Map.get x.flash 0xFF a

/-! ## Kinds of commands -/

/-- Commands that act while the device is held in reset: the pins, the rails and the test port (R489, R493). -/
def pinCommand (i : Instr) : Bool :=
  match i with
  | .powerOnReset .. => true
  | .resetNAssert => true
  | .resetNRelease .. => true
  | .railFault .. => true
  | .thermtrip => true
  | .tapInstruction .. => true
  | _ => false

/-- Requests of the dictionary. -/
def dictCommand (i : Instr) : Bool :=
  match i with
  | .dictRead .. => true | .dictWrite .. => true | .readStaged .. => true | .segmentRead .. => true | .segmentWrite .. => true
  | .segmentClose .. => true | .negotiate .. => true | .commitAsap .. => true | .commitAtTick .. => true | .commitDiscard .. => true
  | .forceDiscard .. => true | .sessionOpen .. => true | .sessionClose .. => true | .snapshotAsap .. => true
  | .snapshotAtTick .. => true | .clear .. => true | .zeroise .. => true | .resolveCommit .. => true | .resolveAbandon .. => true
  | .jobDamaged .. => true | .ftSet .. => true | .pwrWaitSet .. => true | .pwrWaitCancel .. => true | .coreClass .. => true
  | .fenceReq .. => true | .scanReq .. => true | .unitFault .. => true | .svnCommit .. => true | .dbgChallenge .. => true
  | .dbgRequest .. => true | .dbgLock .. => true | .dbgResponse .. => true | .sanitise .. => true | .flashErase .. => true
  | .flashProgram .. => true | .flashRead .. => true | .blkReset .. => true | .portReset .. => true | .lnkEnable .. => true
  | .capW .. => true | .ctrlMode .. => true
  | _ => false

/-- Commands that act on boot and security beside the device: pins, the boot order, recovery, the flash, the debug level, the
management port. -/
def secCommand (i : Instr) : Bool :=
  pinCommand i || dictCommand i ||
  match i with
  | .debugFullEnter => true | .flashOpDone .. => true | .sanitiseComplete => true | .entdaa .. => true | .mctpControl .. => true
  | .getVersion .. => true | .getCapabilities .. => true | .negotiateAlgorithms .. => true | .getDigests .. => true
  | .getCertificate .. => true | .challenge .. => true | .getMeasurements .. => true | .wakeN .. => true
  | .recoveryFlashWrite .. => true | .recoveryFlashRead .. => true | .recoveryVerify .. => true
  | _ => false

/-! ## Links -/

/-- What a link holds comes from other devices: losing it completes no command here. -/
def Dev.foreignLoad (d : Dev) (l : Nat) : Prop :=
  ∀ m : Msg, (∃ e ∈ (d.link l).buf, e.msg = m) ∨ (∃ e ∈ (d.link l).txq, m ∈ e.2) ∨ (∃ e ∈ (d.link l).held, m ∈ e.2) →
    m.src ≠ d.get K.DEVICE_NUMBER

/-! ## Engines -/

/-- The command `c` of `n` slots at the head of an engine's list comes to its issue, with opcode `op` (R27), and no delay of
R73 holds it; `d` is the device then, with the handle that it waited for popped. -/
structure Issues (s : State) (e : Eng) (op : Nat) (c : Cmd) (n : Nat) (d : Dev) : Prop where
  live : s.stopped = false
  unit : e.ok = true
  head : ∃ d', s.dev.head e (· == op) = .go c n d' ∧ d = { d' with memDelay := 0 }
  free : (d.ctx e).hold = none
  calm : d.stainsOn 2 e.unit (d.engPart e) = []

/-- A command that ends at its issue: its slots are behind it, and its handle, with status OK where it is not late, has its place in
its signal queue (R31); every other queue stands. The queues of a shared engine are those of the core of its slot, while that slot is
resident and not fenced in this attempt. -/
structure Passed (d t : Dev) (e : Eng) (c : Cmd) (n : Nat) (h : Handle) : Prop where
  index : (t.ctx e).index = (d.ctx e).index + n
  popped : (t.ctx e).popped = none
  idle : (d.ctx e).busy = [] → (t.ctx e).busy = []
  handle : ∀ x, d.queueCore e = some x → e.isCore = true ∨ (d.sched e.p).fencedSlots.contains (d.ctx e).bound = false →
    c.sigQ < 32 → (d.hq x c.sigQ).length < 16 → (d.ctx e).late = false → d.pastEnd e (c.w 1) = false →
    ∃ v cy, t.hq x c.sigQ = insHandle (d.hq x c.sigQ) { h with status := stOK, vis := v, cyc := cy, rank := e.rank }
  others : ∀ x, d.queueCore e = some x → (d.hq x c.sigQ).length < 16 → ∀ k q, ¬(k = x ∧ q = c.sigQ) → t.hq k q = d.hq k q

/-- A command in flight behind its slots: the engine holds it, with what it names, until it completes. -/
structure Started (d t : Dev) (e : Eng) (c : Cmd) (n : Nat) (f : InFlight) : Prop where
  index : (t.ctx e).index = (d.ctx e).index + n
  popped : (t.ctx e).popped = none
  busy : (t.ctx e).busy = [f]
  names : f.index = c.index ∧ f.op = c.op ∧ f.tick = c.w 1 ∧ f.sig = (if c.sigQ < 32 then c.sigQ else 255)

/-- An issued command that completes: the handle `h`, with the status that the command has then, has its place in its signal queue
(R31); where its attempt has ended, no handle is pushed. -/
structure Completed (d t : Dev) (e : Eng) (f : InFlight) (h : Handle) : Prop where
  handle : ∀ x, d.queueCore e = some x → e.isCore = true ∨ (d.sched e.p).fencedSlots.contains (d.ctx e).bound = false →
    f.sig < 32 → 16 ≤ d.engPart e ∨ f.attempt = d.get (K.ATTEMPT (d.engPart e)) → (d.hq x f.sig).length < 16 →
    ∃ v cy, t.hq x f.sig = insHandle (d.hq x f.sig) { h with status := d.finalStatus e f, vis := v, cyc := cy, rank := e.rank }
  gone : d.engPart e < 16 → f.attempt ≠ d.get (K.ATTEMPT (d.engPart e)) → ∀ c q, t.hq c q = d.hq c q

/-! ## Schedules -/

/-- Nothing but the decision stands between a running attempt of partition `p` and the next: it has no list and no channel, its
slots stay where they are, no fence waits, nothing was asked of any schedule by the power manager or of its own, its time is locked, its vote is closed. -/
structure Quiet (d : Dev) (p : Nat) : Prop where
  part : p < 16
  state : d.get (K.SCHED_STATE p) = 3
  train : d.get (K.VOTE_TICK p) ≠ 0
  lists : d.schedEngs p = []
  slots : (d.sched p).slots ≤ 64
  stay : ∀ n, n < (d.sched p).slots → d.get (K.SLOT_CORE p n) < 64 ∧
    d.coreUsable (d.get (K.SLOT_CORE p n)) = true ∧ bit (d.get (K.CORE_MASK p)) (d.get (K.SLOT_CORE p n)) = true
  chans : ∀ ch, ch < 32 → d.get (K.CH_PART ch) ≠ p
  fences : d.fenceWait = []
  asked : (d.sched p).endReq = false ∧ (d.sched p).suspendReq = false ∧ (d.sched p).lostEnd = false
  stop : d.get (K.STOP_AFTER p) = 0
  time : d.get K.FT_STATE = 2
  voted : (d.sched p).voted = true
  sure : (d.sched p).doubted = false
  alone : d.get (K.SWX_ENABLE p) = 0
  power : d.pwr.asked = []

/-- A ring message of kind `kind` is the next of VC2 on link `l`, and its engine takes it now; `d` is the device with it taken from its
buffer (R372). -/
def Arrives (s : State) (l kind : Nat) (m : Msg) (d : Dev) : Prop :=
  l < 64 ∧ s.stopped = false ∧ s.dev.takeRing l kind = some (m, d)

/-! ## Requests of the dictionary -/

/-- A request reaches session `n` (R61 to R65): the dictionary is served, no request that came before it waits, no foreign host
sends it, its bytes are not those of a kept TAG. -/
structure Reaches (s : State) (op : Nat) (q : Req) (n : Nat) : Prop where
  port : q.hdr.port < 66
  live : s.stopped = false
  served : s.served = true
  first : s.dev.earlier op q = []
  host : s.dev.foreignHost q.hdr = false
  session : s.dev.sessionFor q.hdr = some n
  fresh : (s.dev.session n).tags.find? (fun e => e.1 == reqBytes op q) = none

/-- A request is executed in session `n` (R47 step 1): it reaches the session, which is negotiated in the version that the
request names. -/
structure Admitted (s : State) (op : Nat) (q : Req) (n : Nat) : Prop where
  reaches : Reaches s op q n
  isOpen : s.dev.get (K.SESSION_STATE n) = 2
  version : q.hdr.version = s.dev.get (K.SESSION_VERSION n)

/-- The state with the request's message out of its link's buffer. -/
def State.taken (s : State) (op : Nat) (q : Req) : State := s.setDev (s.dev.takeReq q.hdr (reqBytes op q)).2

/-- The message. -/
def State.carrier (s : State) (op : Nat) (q : Req) : Option Msg := (s.dev.takeReq q.hdr (reqBytes op q)).1

/-- The state after a request that `f` carries out in session `n` and answers with `a`. -/
def State.answered (s : State) (op : Nat) (q : Req) (n : Nat) (a : Reply) (f : State → State) : State :=
  (f (s.taken op q)).conclude op q n (s.carrier op q) a

/-- The write of `w` bytes that a command stands for. -/
def writeOf (h : Hdr) (ix sub w v : Nat) : Req :=
  { hdr := h, index := ix, sub := sub, data := toLE w v, offset := 0, length := w }

/-- A write passes steps 1 to 6 of R47 in session `n`: it is executed there, its principal may write the object, the value
fits the object's size and lies in its range. -/
structure Granted (s : State) (h : Hdr) (ix sub w v n : Nat) : Prop where
  admitted : Admitted s opWRITE (writeOf h ix sub w v) n
  size : v < 256 ^ w
  target : ∃ t, (s.taken opWRITE (writeOf h ix sub w v)).dev.find n ix sub true = .ok t ∧
    (s.taken opWRITE (writeOf h ix sub w v)).dev.rangeOk t.row ix sub v = true

/-- The state after a live write that changes the device by `f`. -/
def State.wrote (s : State) (h : Hdr) (ix sub w v n : Nat) (f : Dev → Dev) : State :=
  s.answered opWRITE (writeOf h ix sub w v) n okReply (fun (t : State) => t.setDev (f t.dev))

/-- The state after a write that is refused at its last check, with a reason and nothing changed. -/
def State.refusedWrite (s : State) (h : Hdr) (ix sub w v n : Nat) (a : Reply) : State :=
  s.answered opWRITE (writeOf h ix sub w v) n a id

end Sys2Proof.Machine
end

