-- ==== Sys2Proof/Certificates/Slice0/Obligations.lean ====
section
/-! DEFINITION. Statements for the provers. -/

open Sys2Proof Sys2Proof.Machine


/-! ## The machine -/

/-- Step: the command in front of the queue, on the queue's rest. -/
def Obligations.StepTakesFront : Prop :=
  ∀ (c : Instr) (r : List Instr) (s : State), s.pending = c :: r → step s = exec c { s with pending := r }

/-- Model's choice (log entry 1): with an empty queue a tick of fabric time passes, but for a device that is held in reset or halted. -/
def Obligations.EmptyQueueTicks : Prop :=
  ∀ s : State, s.pending = [] →
    (s.stopped = true → step s = .next s) ∧
    (s.stopped = false → ∃ t, step s = .next t ∧ t.pending = [] ∧ t.dev.now = (s.dev.now + 1) % 2 ^ 64 ∧
      t.sec = { s.sec with boot := s.sec.boot + 1 })

/-- Commands leave the queue in the order in which they came, one for each step; none of them adds to it. -/
def Obligations.QueueInOrder : Prop :=
  ∀ (k : Nat) (s t : State), Sys2Proof.core.run k s = .next t → t.pending = s.pending.drop k

/-- Every command that names units of the package answers a next state, with the queue as it was.

No command is refused, and the machine stops only on a command that names no unit of the package. -/
def Obligations.EveryCommandAnswers : Prop :=
  (∀ (i : Instr) (s : State), i.wf = true → ∃ t, exec i s = .next t ∧ t.pending = s.pending) ∧
  (∀ (i : Instr) (s : State), (∀ r, exec i s ≠ .refused r) ∧ (∀ f, exec i s = .fault f → f = .noSuchUnit ∧ i.wf = false))

/-- While the device is held in reset or halted, nothing but the pins, the rails and the test port changes its state.

Commands of the engines, lists, links, rings, partitions, power and storage change nothing of boot and security.

The bytes of the flash change through the end of a flash operation, a recovery write and requests alone, and of the requests
through a write or SANITISE alone where no other request waits in a link's inbox. -/
def Obligations.BootFrames : Prop :=
  (∀ (i : Instr) (s : State), s.stopped = true → i.wf = true → pinCommand i = false → exec i s = .next s) ∧
  (∀ (i : Instr) (s t : State), secCommand i = false → exec i s = .next t → t.sec = s.sec) ∧
  (∀ (i : Instr) (s t : State), exec i s = .next t → (∀ ok, i ≠ .flashOpDone ok) → (∀ l, i ≠ .recoveryFlashWrite l) →
    (∀ h v, i ≠ .sanitise h v) → (∀ q, i ≠ .dictWrite q) →
    dictCommand i = false ∨ (∀ e ∈ s.dev.links, Map.get e.2.inbox [] 0 = []) → t.sec.flash = s.sec.flash)

/-! ## Flash, reset and boot -/

/-- Every step keeps the flash in its canonical form and within its 2 Gib. -/
def Obligations.FlashFormKept : Prop :=
  ∀ s t : State, FlashOk s.sec → step s = .next t → FlashOk t.sec

/-- FLASH_ERASE, FLASH_PROGRAM and FLASH_READ queue an operation with the address and data of that moment, in the order in which they come.

FLASH_OP_DONE ends the operation in front of the queue, of at most 4,096 bytes. A good erase leaves its 64-KiB sector erased, a good program
ands its bytes in (log entry 36), a good read fills FLASH_DATA; every other byte of the flash stands. A failed operation, and
one beyond the flash, changes no byte. FLASH_STATUS reads 1 while another waits, else 2 for a good end and 3 for a failed one. -/
def Obligations.FlashOperations : Prop :=
  (∀ (s : State) (h : Hdr) (n op : Nat) (i : Instr),
    (op = 1 ∧ i = .flashErase h) ∨ (op = 2 ∧ i = .flashProgram h) ∨ (op = 3 ∧ i = .flashRead h) → Granted s h 0x9010 3 1 op n →
    exec i s = .next (s.answered opWRITE (writeOf h 0x9010 3 1 op) n okReply (fun (x : State) => { x with
      sec := { x.sec with flashQ := x.sec.flashQ ++ [(op, x.dev.get K.FLASH_ADDR, Map.get x.dev.doms [] flashKey)] },
      dev := x.dev.put K.FLASH_STATUS 1 }))) ∧
  (∀ (s : State) (ok : Bool) (op a : Nat) (data : List Nat) (r : List (Nat × Nat × List Nat)),
    s.stopped = false → s.sec.flashQ = (op, a, data) :: r → data.length ≤ 4096 →
    ∃ t, exec (.flashOpDone ok) s = .next t ∧ t.pending = s.pending ∧ t.sec.flashQ = r ∧
      t.dev.get K.FLASH_STATUS = (if !r.isEmpty then 1 else if ok && a < flashSize then 2 else 3) ∧
      (ok = false ∨ flashSize ≤ a → t.sec.flash = s.sec.flash ∧ t.dev.doms = s.dev.doms) ∧
      (ok = true → a < flashSize → op = 1 → t.dev.doms = s.dev.doms ∧
        ∀ x, t.sec.byte x = if x / 65536 = a / 65536 then 0xFF else s.sec.byte x) ∧
      (ok = true → a < flashSize → op = 2 → t.dev.doms = s.dev.doms ∧
        ∀ x, t.sec.byte x = if a ≤ x ∧ x < a + data.length ∧ x < flashSize
          then s.sec.byte x &&& BitVec.ofNat 8 (data.getD (x - a) 0) else s.sec.byte x) ∧
      (ok = true → a < flashSize → op = 3 → t.sec.flash = s.sec.flash ∧
        Map.get t.dev.doms [] flashKey = s.sec.bytes a (min 4096 (flashSize - a))))

/-- The state after reset, as the spec and the model's log entries 3 and 8 give it: no command waits, fabric time and BOOT_STATE are 0, no core
has an owner or a slot, RING_SIZE is 256, no engine runs, no channel has an owner, no partition exists and no schedule is loaded,
links are down; every memory and the flash are in their canonical form. -/
def Obligations.ResetState : Prop :=
  (State.reset.pending = [] ∧ State.reset.dev.now = 0 ∧ State.reset.dev.get K.BOOT_STATE = 0 ∧
  (∀ c, c < 64 → State.reset.dev.get (K.CORE_OWNER c) = 0xFF ∧ State.reset.dev.get (K.CORE_SLOT c) = 0xFF) ∧
  (∀ c k, c < 64 → k < 4 → State.reset.dev.get (K.RING_SIZE c k) = 256 ∧ State.reset.dev.get (K.ENGINE_RUN c k) = 0) ∧
  (∀ k, k < 320 → State.reset.dev.owner k = 0xFF) ∧
  (∀ p, p < 16 → State.reset.dev.get (K.PART_STATE p) = 0 ∧ State.reset.dev.get (K.SCHED_STATE p) = 0) ∧
  (∀ l, l < 64 → State.reset.dev.get (K.LNK_STATE l) = 0)) ∧
  (Memory.wf State.reset = true ∧ FlashOk State.reset.sec)

/-- RESET_N, a failed rail and THERMTRIP hold the device: it takes its state after reset at once, the flash kept, and the pins hold their
levels. RESET_N at a device that a rail or THERMTRIP holds already changes the pin alone.

What a reset keeps: of the objects the backup domain's and SVN_MIN in a warm reset, SVN_MIN alone at power-on; every other object reads
its value at reset; scratchpads, memory, links, sessions and the error log are as at reset, the backup domain's last records kept in a
warm reset. -/
def Obligations.Resets : Prop :=
  ((∀ s : State, s.sec.resetN = false → s.sec.railBad = false → s.sec.thermtrip = false →
    ∃ t, exec .resetNAssert s = .next t ∧ t.pending = s.pending ∧ t.stopped = true ∧ t.sec.resetN = true ∧
      t.dev = s.dev.afterReset false ∧ t.sec.flash = s.sec.flash ∧ t.sec.alertPin = s.alertN ∧ t.sec.faultPin = s.faultN) ∧
  (∀ (s : State) (r : Nat), s.sec.resetN = false → s.sec.railBad = false → s.sec.thermtrip = false →
    ∃ t, exec (.railFault r) s = .next t ∧ t.pending = s.pending ∧ t.stopped = true ∧ t.sec.railBad = true ∧
      t.dev = s.dev.afterReset false ∧ t.sec.flash = s.sec.flash ∧ t.sec.alertPin = s.alertN ∧ t.sec.faultPin = s.faultN) ∧
  (∀ s : State, s.sec.resetN = false → s.sec.railBad = false → s.sec.thermtrip = false →
    ∃ t, exec .thermtrip s = .next t ∧ t.pending = s.pending ∧ t.stopped = true ∧ t.sec.thermtrip = true ∧
      t.dev = s.dev.afterReset false ∧ t.sec.flash = s.sec.flash ∧ t.sec.alertPin = s.alertN ∧ t.sec.faultPin = s.faultN) ∧
  (∀ s : State, s.sec.resetN = false → s.sec.railBad || s.sec.thermtrip →
    exec .resetNAssert s = .next { s with sec := { s.sec with resetN := true } })) ∧
  ((∀ (d : Dev) (o : Obj), keptObj o.key = true → (d.afterReset false).get o = d.get o) ∧
  (∀ (d : Dev) (o : Obj), keptObj o.key = false → (d.afterReset false).get o = Dev.init.get o) ∧
  (∀ (d : Dev) (o : Obj), o.key ≠ K.SVN_MIN.key → (d.afterReset true).get o = Dev.init.get o) ∧
  (∀ (d : Dev) (cold : Bool), (d.afterReset cold).now = 0 ∧ (d.afterReset cold).cores = [] ∧ (d.afterReset cold).mem = Mem.init ∧
    (d.afterReset cold).links = [] ∧ (d.afterReset cold).sessions = [] ∧ (d.afterReset cold).log.recs = [] ∧
    (d.afterReset cold).log.bkp = if cold then [] else d.log.bkp))

/-- The rise of RESET_N, the backup domain whole: with the PUF lost the device halts (BOOT_STATE 0xFF, FAULT_N); with the recovery strap low
or an image that fails its check it is in recovery mode (0x80), RESET_CAUSE 2 and RESET_COUNT one higher, and with the strap low its
first eight links are in LNK_MODE 2; with a good image and factory part it comes to step 6 (BOOT_STATE 6), or is degraded (0x81) where
a stack fails training, whose HBM_STATE reads 3.

A power-on reset with RESET_N low takes the state after a cold reset and waits; with RESET_N high and the strap low it is in recovery
mode, RESET_CAUSE 1 or 4 and RESET_COUNT 0, the flash kept. THERMTRIP_N holds it while a sensor is hot. WAKE_N of a package that is OFF
starts the order again with RESET_CAUSE 3; with an image that fails its check it ends in recovery mode.

CORE_RELEASE, at 1,600 ms or at LOCKED where that comes later, puts the device in service: BOOT_STATE 8, BOOT_MS the milliseconds since
t = 0, every usable core released where no regulator has failed and no core waits for a scan. -/
def Obligations.BootOrder : Prop :=
  (∀ (s : State) (e : BootEnv), s.sec.resetN = true → s.sec.railBad = false → s.sec.thermtrip = false → s.sec.coldCause = 0 →
    e.backupCrcOk = true →
    ∃ t, exec (.resetNRelease e) s = .next t ∧ t.pending = s.pending ∧ t.sec.resetN = false ∧ t.sec.flash = s.sec.flash ∧
      (e.pufOk = false → t.dev.bootState = 0xFF ∧ t.faultN = true ∧ t.stopped = true) ∧
      (e.pufOk = true → e.rcvrLow = true → t.dev.bootState = 0x80 ∧ ∀ l, l < 8 → t.dev.get (K.LNK_MODE l) = 2) ∧
      (e.pufOk = true → (e.rcvrLow = true ∨ s.sec.imageFault (s.dev.get K.SVN_MIN) ≠ none) → t.dev.bootState = 0x80 ∧
        t.dev.get K.RESET_CAUSE = 2 ∧ t.dev.get K.RESET_COUNT = addSat 32 (s.dev.get K.RESET_COUNT) 1) ∧
      (e.pufOk = true → e.rcvrLow = false → s.sec.imageFault (s.dev.get K.SVN_MIN) = none →
        ∀ body es, s.sec.cfgPart 0x100000 1 (s.dev.get K.DEVICE_ID) (Config.romKey 1) = some (body, es) →
          es.all (cfgTypeOk false) = true →
          t.dev.bootState = (if (List.range 20).any (bit e.failStacks) then 0x81 else 6) ∧
          ∀ i, i < 20 → t.dev.get (K.HBM_STATE i) = if bit e.failStacks i then 3 else 1)) ∧
  ((∀ (s : State) (b : Bool) (e : BootEnv), s.sec.resetN = true → s.sec.thermtrip = false →
    ∃ t, exec (.powerOnReset b e) s = .next t ∧ t.pending = s.pending ∧ t.dev = s.dev.afterReset true ∧
      t.sec.coldCause = (if b then 4 else 1) ∧ t.sec.flash = s.sec.flash ∧ t.stopped = true) ∧
  (∀ (s : State) (b : Bool) (e : BootEnv), s.sec.resetN = false → s.sec.thermtrip = false → e.pufOk = true → e.rcvrLow = true →
    e.backupCrcOk = true →
    ∃ t, exec (.powerOnReset b e) s = .next t ∧ t.pending = s.pending ∧ t.dev.bootState = 0x80 ∧
      t.dev.get K.RESET_CAUSE = (if b then 4 else 1) ∧ t.dev.get K.RESET_COUNT = 0 ∧ t.sec.flash = s.sec.flash ∧
      t.sec.railBad = false) ∧
  (∀ (s : State) (b : Bool) (e : BootEnv), s.sec.thermtrip = true → e.cool = false → exec (.powerOnReset b e) s = .next s) ∧
  (∀ (s : State) (e : BootEnv), s.halted = false → s.dev.get (K.DOM_STATE 76) = 4 → e.pufOk = true → e.backupCrcOk = true →
    s.sec.imageFault (s.dev.get K.SVN_MIN) ≠ none →
    ∃ t, exec (.wakeN e) s = .next t ∧ t.pending = s.pending ∧ t.dev.bootState = 0x80 ∧ t.dev.get K.RESET_CAUSE = 3 ∧
      t.sec.flash = s.sec.flash)) ∧
  (∀ s : State, s.stopped = false → s.dev.bootState = 6 → 100000000 ≤ s.sec.boot → s.dev.get K.FT_STATE = 2 →
    ∃ t, exec .coreRelease s = .next t ∧ t.pending = s.pending ∧ t.sec = s.sec ∧ t.dev.bootState = 8 ∧
      t.dev.get K.BOOT_MS = s.sec.boot / 62500 ∧ t.dev.scanFrom = s.dev.now ∧
      ∀ c, c < 64 → s.dev.coreUsable c = true → s.dev.avs = [] → s.dev.scanHold = [] → bit t.dev.released c = true)

/-- PATTERN_CHECK_DONE records what the check of the pattern set found. BUS_HANG of a management unit counts and has its record. AVS_TIMEOUT
notes a regulator that does not answer, where its clock is at its floor; its answer before service takes the note away. ALERT_EXPIRE
releases ALERT_N after its millisecond. THERMAL_OBJECTS_UPDATE shows the greatest temperature of each quadrant, of the service die
and of all since reset. TAP_INSTRUCTION loads the test port: IDCODE always, memory access at debug level FULL, EXTEST while RESET_N is low,
BYPASS in their place. -/
def Obligations.BootEvents : Prop :=
  (∀ s : State, s.stopped = false → s.dev.get K.PATTERN_OK = 0 → s.dev.recovery = false → 4 ≤ s.dev.bootState →
    exec (.patternCheckDone true) s = .next (s.setDev (s.dev.put K.PATTERN_OK 1)) ∧
    exec (.patternCheckDone false) s = .next (s.setDev ((s.dev.put K.PATTERN_OK 2).file (bootRec 6 s.dev.bootStep 0 0 0x7000)))) ∧
  (∀ (s : State) (u : Nat), s.stopped = false → u / 4096 = 5 ∨ u / 4096 = 6 →
    exec (.busHang u) s = .next (s.setDev ((s.dev.put K.HANG_COUNT (addSat 32 (s.dev.get K.HANG_COUNT) 1)).file
      (bootRec 0xA s.dev.bootStep 0 0 u)))) ∧
  (∀ (s : State) (q : Nat), s.stopped = false → q < 4 → s.dev.avs.contains q = false → s.dev.get (K.FLOOR_MHZ q) ≤ s.dev.get (K.FREQ_MHZ q) →
    exec (.avsTimeout q) s = .next (s.setDev { s.dev with avs := s.dev.avs ++ [q] })) ∧
  (∀ (s : State) (q : Nat), s.stopped = false → q < 4 → s.dev.bootState ≠ 8 →
    exec (.avsbusAnswer q) s = .next (s.setDev { s.dev with avs := s.dev.avs.erase q })) ∧
  (∀ s : State, s.stopped = false → s.dev.log.alert = true → s.dev.log.alertAt + 62500 ≤ s.dev.now →
    exec .alertExpire s = .next (s.setDev { s.dev with log := { s.dev.log with alert := false } })) ∧
  (∀ (s : State) (temps : List Nat), s.stopped = false →
    ∃ t, exec (.thermalObjectsUpdate temps) s = .next t ∧ t.pending = s.pending ∧ t.sec = s.sec ∧
      (∀ q, q < 4 → t.dev.get (K.TJ_QUAD q) = (((temps.drop (24 * q)).take 24).map (· % 2 ^ 16)).foldl max 0) ∧
      t.dev.get K.TJ_SVC = (((temps.drop 96).take 4).map (· % 2 ^ 16)).foldl max 0 ∧
      t.dev.get K.TJ_PEAK = max (s.dev.get K.TJ_PEAK) (((temps.take 100).map (· % 2 ^ 16)).foldl max 0) ∧
      t.dev.cores = s.dev.cores ∧ t.dev.mem = s.dev.mem ∧ t.dev.parts = s.dev.parts) ∧
  (∀ s : State, exec (.tapInstruction .idcode) s = .next { s with sec := { s.sec with tap := .idcode } } ∧
    (s.dev.get K.DEBUG_LEVEL ≠ 2 → exec (.tapInstruction .memoryAccess) s = .next { s with sec := { s.sec with tap := .bypass } }) ∧
    (s.dev.get K.DEBUG_LEVEL = 2 → exec (.tapInstruction .memoryAccess) s = .next { s with sec := { s.sec with tap := .memoryAccess } }) ∧
    (s.sec.resetN = false → exec (.tapInstruction .extest) s = .next { s with sec := { s.sec with tap := .bypass } }) ∧
    (s.sec.resetN = true → exec (.tapInstruction .extest) s = .next { s with sec := { s.sec with tap := .extest } }))

/-- In recovery mode the oldest VC4 WRITE of a link programs flash bytes. The first write into a 64-KiB sector erases it; no other byte
changes; the answer goes out on the link. Outside the flash it is an ERROR with RANGE.

A VC4 READ answers flash bytes, or of the eight bytes at 0x2FF_0000_0000 BOOT_STATE, the failure's KIND and SVN_MIN; every other offset
answers ERROR with RANGE; nothing else changes.

Eight bytes of 0x01 at 0x2FF_0000_0008 check the image as in step 3. A bad one leaves recovery mode in place with the failure's KIND; a
good one is started, and with the PUF, the backup domain, the factory part and the stacks good it comes to BOOT_STATE 6. -/
def Obligations.RecoveryMode : Prop :=
  ((∀ (s : State) (l : Nat) (m : Msg) (d : Dev), l < 8 → s.stopped = false → s.dev.recovery = true →
    s.dev.takeMsg l 4 (fun m => m.payload.getD 12 0 == 3 && !recIsVerify m) = some (m, d) →
    recFlash ≤ recOffset m → recLen m ≠ 0 → recOffset m - recFlash + recLen m ≤ flashSize →
    ∃ t, exec (.recoveryFlashWrite l) s = .next t ∧ t.pending = s.pending ∧ t.dev = d.recAnswer l m 4 stOK [] ∧
      t.sec = { s.sec with flash := t.sec.flash, recErased := t.sec.recErased } ∧
      ∀ x, t.sec.byte x =
        (let a := recOffset m - recFlash
         let old : Byte := if a / 65536 ≤ x / 65536 ∧ x / 65536 ≤ (a + recLen m - 1) / 65536 ∧ x / 65536 ∉ s.sec.recErased
           then 0xFF else s.sec.byte x
         if a ≤ x ∧ x - a < min (recLen m) (m.payload.length - 16)
           then old &&& BitVec.ofNat 8 (m.payload.getD (16 + (x - a)) 0) else old)) ∧
  (∀ (s : State) (l : Nat) (m : Msg) (d : Dev), l < 8 → s.stopped = false → s.dev.recovery = true →
    s.dev.takeMsg l 4 (fun m => m.payload.getD 12 0 == 3 && !recIsVerify m) = some (m, d) →
    recOffset m < recFlash ∨ recLen m = 0 ∨ flashSize < recOffset m - recFlash + recLen m →
    exec (.recoveryFlashWrite l) s = .next (s.setDev (d.recAnswer l m 6 stRANGE [])))) ∧
  (∀ (s : State) (l : Nat) (m : Msg) (d : Dev), l < 8 → s.stopped = false → s.dev.recovery = true →
    s.dev.takeMsg l 4 (fun m => m.payload.getD 12 0 == 1) = some (m, d) →
    (recFlash ≤ recOffset m → recLen m ≠ 0 → recOffset m - recFlash + recLen m ≤ flashSize →
      exec (.recoveryFlashRead l) s = .next (s.setDev (d.recAnswer l m 2 stOK
        ((List.range (recLen m)).map (fun i => (s.sec.byte (recOffset m - recFlash + i)).toNat))))) ∧
    (recStatus ≤ recOffset m → recLen m ≠ 0 → recOffset m + recLen m ≤ recStatus + 8 →
      exec (.recoveryFlashRead l) s = .next (s.setDev (d.recAnswer l m 2 stOK
        ((([s.dev.bootState, s.sec.failKind, 0, 0] ++ toLE 4 (s.dev.get K.SVN_MIN)).drop (recOffset m - recStatus)).take (recLen m))))) ∧
    (¬ (recFlash ≤ recOffset m ∧ recOffset m - recFlash + recLen m ≤ flashSize) →
      ¬ (recStatus ≤ recOffset m ∧ recOffset m + recLen m ≤ recStatus + 8) ∨ recLen m = 0 →
      exec (.recoveryFlashRead l) s = .next (s.setDev (d.recAnswer l m 6 stRANGE [])))) ∧
  (∀ (s : State) (l : Nat) (e : BootEnv) (m : Msg) (d : Dev), l < 8 → s.stopped = false → s.dev.recovery = true →
    s.dev.takeMsg l 4 (fun m => m.payload.getD 12 0 == 3 && recIsVerify m) = some (m, d) → recLen m = 8 →
    (m.payload.drop 16).take 8 = List.replicate 8 1 →
    (∀ k v, s.sec.imageFault (s.dev.get K.SVN_MIN) = some (k, v) →
      exec (.recoveryVerify l e) s = .next { s with sec := { s.sec with failKind := k }, dev := d.recAnswer l m 4 stOK [] }) ∧
    (s.sec.imageFault (s.dev.get K.SVN_MIN) = none → e.pufOk = true → e.backupCrcOk = true →
      ∀ body es, s.sec.cfgPart 0x100000 1 (s.dev.get K.DEVICE_ID) (Config.romKey 1) = some (body, es) →
        es.all (cfgTypeOk false) = true → (List.range 20).any (bit e.failStacks) = false →
        ∃ t, exec (.recoveryVerify l e) s = .next t ∧ t.pending = s.pending ∧ t.sec.flash = s.sec.flash ∧ t.dev.bootState = 6))

/-- ENTDAA gives a target without one its address. MCTP control sets and answers the endpoint identifier, the version and the message types,
in packets of 64 bytes; another request is answered as not supported; recovery mode serves MCTP control alone. Codes are log entry 38's.

SPDM from step 4: GET_VERSION starts a connection with an empty transcript, GET_CAPABILITIES and NEGOTIATE_ALGORITHMS follow in order;
SM2 on P256 and SM3 alone. A requester without these algorithms, or out of order, is answered with an ERROR and stays unnegotiated.

SPDM on a negotiated connection: GET_DIGESTS and GET_CERTIFICATE give slot 0, CHALLENGE and GET_MEASUREMENTS of one block are answered
signed, with a free nonce; a slot other than 0 and a block that is not given answer ERROR. A partition's block is given while it is active. -/
def Obligations.ManagementPort : Prop :=
  ((∀ (s : State) (a : Nat), s.stopped = false →
    exec (.entdaa a) s = .next { s with sec := { s.sec with i3cAddr := if s.sec.i3cAddr = 0 then a % 128 else s.sec.i3cAddr } }) ∧
  (∀ (s : State) (r : List Nat), s.served = true ∨ (s.stopped = false ∧ s.dev.recovery = true) →
    ∃ t, exec (.mctpControl r) s = .next t ∧ t.pending = s.pending ∧ t.dev = s.dev ∧
      t.sec.eid = (if r.getD 1 0 = 1 then r.getD 3 0 % 256 else s.sec.eid) ∧ t.sec.flash = s.sec.flash ∧
      t.sec.spdm = s.sec.spdm ∧
      ∃ a, t.sec.out = s.sec.out ++ packetsOf 64 ([0, r.getD 0 0 % 128, r.getD 1 0] ++ a) ∧
        (r.getD 1 0 = 1 → a = [0, 0, r.getD 3 0 % 256, 0]) ∧
        (r.getD 1 0 = 2 → a = [0, s.sec.eid, 0, 0]) ∧
        (r.getD 1 0 = 4 → a = [0, 1, 0xF1, 0xF3, 0xF1, 0]) ∧
        (r.getD 1 0 ∉ [1, 2, 4, 5] → a = [5]) ∧
        (r.getD 1 0 = 5 → a = if s.dev.recovery then [0, 1, 0] else [0, 3, 0, 5, 0x7F]))) ∧
  ((∀ s : State, s.served = true →
    exec (.getVersion 0x10) s = .next (({ s with sec := { s.sec with transcript := [] } } : State).spdmStep 1
      (spdmMsg 0x10 0x84 0 0 []) (spdmMsg 0x10 4 0 0 [0, 1, 0, 0x13]))) ∧
  (∀ s : State, s.served = true → 1 ≤ s.sec.spdm →
    ∃ ct a b, exec (.getCapabilities 0x13) s = .next ((s.setDev { s.dev with free := s.dev.free + 3 }).spdmStep 2
      (spdmMsg 0x13 0xE1 0 0 []) (spdmMsg 0x13 0x61 0 0 ([0, ct, 0, 0] ++ toLE 4 0x16 ++ toLE 4 a ++ toLE 4 b)))) ∧
  (∀ (s : State) (a h m : Nat), s.served = true → 2 ≤ s.sec.spdm → bit a 9 = true → bit h 6 = true → bit m 7 = true →
    ∃ req resp, exec (.negotiateAlgorithms 0x13 a h m) s = .next (s.spdmStep 3 (spdmMsg 0x13 0xE3 0 0 req) (spdmMsg 0x13 0x63 0 0 resp)) ∧
      resp = toLE 2 36 ++ [1, 0] ++ toLE 4 0x80 ++ toLE 4 0x200 ++ toLE 4 0x40 ++ List.replicate 16 0) ∧
  (∀ (s : State) (a h m : Nat), s.served = true → 2 ≤ s.sec.spdm → bit a 9 = false ∨ bit h 6 = false ∨ bit m 7 = false →
    exec (.negotiateAlgorithms 0x13 a h m) s = .next (s.spdmError 1)) ∧
  (∀ (s : State) (a h m : Nat), s.served = true → s.sec.spdm < 2 →
    exec (.negotiateAlgorithms 0x13 a h m) s = .next (s.spdmError 4)) ∧
  (∀ (s : State) (v : Nat), s.served = true → v ≠ 0x13 → exec (.getCapabilities v) s = .next (s.spdmError 0x41)) ∧
  (∀ (s : State) (v a h m : Nat), s.served = false → exec (.getVersion v) s = .next s ∧ exec (.getCapabilities v) s = .next s ∧
    exec (.negotiateAlgorithms v a h m) s = .next s ∧ exec (.getDigests v) s = .next s ∧ exec (.getCertificate v a h m) s = .next s ∧
    exec (.challenge v a h) s = .next s ∧ exec (.getMeasurements v a h) s = .next s)) ∧
  ((∀ s : State, s.served = true → 3 ≤ s.sec.spdm →
    exec (.getDigests 0x13) s = .next (s.say (spdmMsg 0x13 1 0 1 (toLE 32 (Config.sm3 s.sec.chain))))) ∧
  (∀ (s : State) (o n : Nat), s.served = true → 3 ≤ s.sec.spdm → o < s.sec.chain.length →
    exec (.getCertificate 0x13 0 o n) s = .next (s.say (spdmMsg 0x13 2 0 0
      (toLE 2 (min n (s.sec.chain.length - o)) ++ toLE 2 (s.sec.chain.length - o - min n (s.sec.chain.length - o)) ++
        (s.sec.chain.drop o).take n)))) ∧
  (∀ (s : State) (k o n x : Nat), s.served = true → 3 ≤ s.sec.spdm → k ≠ 0 →
    exec (.getCertificate 0x13 k o n) s = .next (s.spdmError 1) ∧ exec (.challenge 0x13 k x) s = .next (s.spdmError 1)) ∧
  (∀ (s : State) (x : Nat), s.served = true → 3 ≤ s.sec.spdm →
    ∃ t own, exec (.challenge 0x13 0 x) s = .next t ∧ t = (s.setDev { s.dev with free := s.dev.free + 1 }).signed
      (spdmMsg 0x13 0x83 0 0 (toLE 32 x)) (spdmMsg 0x13 3 0 1 (toLE 32 (Config.sm3 s.sec.chain) ++ toLE 32 own ++ [0, 0]))) ∧
  (∀ (s : State) (x b : Nat), s.served = true → 3 ≤ s.sec.spdm → b < 32 → b ≠ 0 → (s.measure b).isSome = true →
    ∃ t own, exec (.getMeasurements 0x13 x b) s = .next t ∧ t = (s.setDev { s.dev with free := s.dev.free + 1 }).signed
      (spdmMsg 0x13 0xE0 1 b (toLE 32 x))
      (spdmMsg 0x13 0x60 0 0 ([1] ++ toLE 3 (s.block b).length ++ s.block b ++ toLE 32 own ++ [0, 0]))) ∧
  (∀ (s : State) (x b : Nat), s.served = true → 3 ≤ s.sec.spdm → b ≠ 0 → b ≠ 0xFF → (s.measure b).isSome = false ∨ 32 ≤ b →
    exec (.getMeasurements 0x13 x b) s = .next (s.spdmError 1)) ∧
  (∀ (s : State) (p : Nat), p < 16 →
    (s.measure (0x10 + p)).isSome = (s.dev.get (K.PART_STATE p) == 1)) ∧
  (∀ s : State, s.measure 7 = some (7, Config.sm3 [s.dev.get K.IMAGE_SVN, s.dev.get K.SVN_MIN])))

/-! ## The object dictionary -/

/-- READ answers the live value; READ_STAGED the session's own staged value where it has one, else the live one; neither changes an object
but its session's count. A READ that steps 2 to 4 of R47 refuse answers the refusal. (The two objects whose read acts, LOG_RECORD and
DBG_CHALLENGE, apart.) -/
def Obligations.ReadsAnswer : Prop :=
  ∀ (s : State) (q : Req) (n : Nat),
    (∀ t w, Admitted s opREAD q n → (s.taken opREAD q).dev.find n q.index q.sub false = .ok t → t.row.type.bytes = some w →
      t.key ≠ K.LOG_RECORD.key → t.key ≠ K.DBG_CHALLENGE.key →
      exec (.dictRead q) s = .next (s.answered opREAD q n (okData (toLE w ((s.taken opREAD q).dev.liveVal n t))) id)) ∧
    (∀ a, Admitted s opREAD q n → (s.taken opREAD q).dev.find n q.index q.sub false = .error a →
      exec (.dictRead q) s = .next (s.answered opREAD q n a id)) ∧
    (∀ t w e, Admitted s opSTAGED q n → (s.taken opSTAGED q).dev.find n q.index q.sub false = .ok t → t.row.type.bytes = some w →
      t.key ≠ K.LOG_RECORD.key → t.key ≠ K.DBG_CHALLENGE.key → (s.dev.stagedOf n t = some e) →
      exec (.readStaged q) s = .next (s.answered opSTAGED q n (okData (toLE w e.val)) id)) ∧
    (∀ t w, Admitted s opSTAGED q n → (s.taken opSTAGED q).dev.find n q.index q.sub false = .ok t → t.row.type.bytes = some w →
      t.key ≠ K.LOG_RECORD.key → t.key ≠ K.DBG_CHALLENGE.key → s.dev.stagedOf n t = none →
      exec (.readStaged q) s = .next (s.answered opSTAGED q n (okData (toLE w ((s.taken opSTAGED q).dev.liveVal n t))) id))

/-- WRITE under the right RWS: the value joins the session's staging set in place of an earlier one for the object, and no
object changes. A pending commit, another session's staged value and a 257th object refuse it; so do a wrong length and a value
out of range. -/
def Obligations.WritesStage : Prop :=
  ∀ (s : State) (q : Req) (n : Nat) (t : Target), Admitted s opWRITE q n →
    (s.taken opWRITE q).dev.find n q.index q.sub true = .ok t →
    (t.row.type.bytes = some q.data.length → (s.taken opWRITE q).dev.rangeOk t.row q.index q.sub (ofLE q.data) = true →
      t.row.right (s.dev.principal n) = .rws →
      ((s.dev.session n).state ≠ 2 → s.dev.heldElsewhere n t.key = false →
        ((s.dev.session n).staged.filter (fun y => y.key != t.key)).length < 256 →
        exec (.dictWrite q) s = .next (s.answered opWRITE q n okReply (fun (x : State) => x.setDev (x.dev.setSession n
          { x.dev.session n with
            state := 1,
            staged := (x.dev.session n).staged.filter (fun y => y.key != t.key) ++ [{ key := t.key, val := ofLE q.data, dom := none }] })))) ∧
      ((s.dev.session n).state = 2 → exec (.dictWrite q) s = .next (s.answered opWRITE q n (noAccess rsPENDING) id)) ∧
      ((s.dev.session n).state ≠ 2 → s.dev.heldElsewhere n t.key = true →
        exec (.dictWrite q) s = .next (s.answered opWRITE q n (noAccess rsELSE) id)) ∧
      ((s.dev.session n).state ≠ 2 → s.dev.heldElsewhere n t.key = false →
        256 ≤ ((s.dev.session n).staged.filter (fun y => y.key != t.key)).length →
        ∃ r, exec (.dictWrite q) s = .next (s.answered opWRITE q n (noRange r) id))) ∧
    (t.row.type.bytes ≠ some q.data.length → exec (.dictWrite q) s = .next (s.answered opWRITE q n (noRange rsLENGTH) id)) ∧
    (t.row.type.bytes = some q.data.length → (s.taken opWRITE q).dev.rangeOk t.row q.index q.sub (ofLE q.data) = false →
      exec (.dictWrite q) s = .next (s.answered opWRITE q n (noRange rsVALUE) id))

/-- A write refused at the management port or the test port changes no object but its session's count of requests (R47, R65). -/
def Obligations.RefusedChangesNothing : Prop :=
  ∀ (s : State) (q : Req) (n : Nat) (a : Reply), Admitted s opWRITE q n → q.hdr.port ≥ 64 →
    (s.taken opWRITE q).dev.find n q.index q.sub true = .error a →
    ∃ t, exec (.dictWrite q) s = .next t ∧ t.pending = s.pending ∧ t.sec = { s.sec with out := t.sec.out } ∧
      (∀ o : Obj, o.key ≠ (K.SESSION_REQUESTS n).key → t.dev.get o = s.dev.get o) ∧
      t.dev.get (K.SESSION_REQUESTS n) = addSat 64 (s.dev.get (K.SESSION_REQUESTS n)) 1 ∧
      (t.dev.session n).staged = (s.dev.session n).staged ∧ t.dev.doms = s.dev.doms ∧ t.dev.cores = s.dev.cores ∧
      t.dev.mem = s.dev.mem ∧ t.dev.parts = s.dev.parts ∧ t.dev.links = s.dev.links

/-- A request before which none waits: under a kept TAG, bytes the same, it is answered from its kept response and not executed again. A
WRITE that reaches no open session is refused with ACCESS and reason SESSION, as is one in an unnegotiated session or of another version.
A request that no kept TAG answers is performed once, and its response is kept with the fifteen before it. -/
def Obligations.RequestsOnce : Prop :=
  ∀ (s : State) (q : Req) (n : Nat), q.hdr.port < 66 → s.served = true → s.dev.foreignHost q.hdr = false →
    s.dev.earlier opWRITE q = [] →
    (∀ e, s.dev.sessionFor q.hdr = some n → (s.dev.session n).tags.find? (fun e => e.1 == reqBytes opWRITE q) = some e →
      exec (.dictWrite q) s = .next ((s.taken opWRITE q).reply q.hdr (s.carrier opWRITE q) e.2)) ∧
    (s.dev.sessionFor q.hdr = none →
      exec (.dictWrite q) s = .next ((s.taken opWRITE q).reply q.hdr (s.carrier opWRITE q)
        (respOf opWRITE q q.hdr.session q.hdr.version (noAccess rsSESSION)))) ∧
    (Reaches s opWRITE q n → s.dev.get (K.SESSION_STATE n) ≠ 2 ∨ q.hdr.version ≠ s.dev.get (K.SESSION_VERSION n) →
      exec (.dictWrite q) s = .next (s.answered opWRITE q n (noAccess rsSESSION) id)) ∧
    (∀ op : Nat, s.dev.sessionFor q.hdr = some n → s.dev.earlier op q = [] →
      (∀ e, (s.dev.session n).tags.find? (fun e => e.1 == reqBytes op q) = some e →
        s.serve op q = (s.taken op q).reply q.hdr (s.carrier op q) e.2) ∧
      ((s.dev.session n).tags.find? (fun e => e.1 == reqBytes op q) = none →
        s.serve op q = ((s.taken op q).perform n op q).2.conclude op q n (s.carrier op q) ((s.taken op q).perform n op q).1)) ∧
    (∀ (op : Nat) (m : Option Msg) (a : Reply), s.dev.get (K.SESSION_STATE n) ≠ 0 →
      ((s.conclude op q n m a).dev.session n).tags =
        ((reqBytes op q, respOf op q n (s.dev.get (K.SESSION_VERSION n)) a) ::
          (s.dev.session n).tags.filter (fun e => e.2.tag != q.hdr.tag)).take 16)

/-- NEGOTIATE: the highest common version, recorded; with none it is refused with VERSION and the session stays as it is; a negotiated
session answers its version and keeps it.

SESSION_OPEN and SESSION_CLOSE: a closed session of 1 to 62 opens, empty and unnegotiated, an X session only at debug level TEST or
FULL; an open one stays; closing leaves it as new. The close of sessions 0 and 63 is refused with RANGE. -/
def Obligations.Sessions : Prop :=
  (∀ (s : State) (h : Hdr) (lo hi n : Nat) (q : Req),
    q = { hdr := h, index := 0, sub := 0, data := toLE 2 lo ++ toLE 2 hi, offset := 0, length := 4 } →
    lo < 65536 → hi < 65536 → Reaches s opNEGOTIATE q n →
    (s.dev.get (K.SESSION_STATE n) = 2 →
      exec (.negotiate h lo hi) s = .next (s.answered opNEGOTIATE q n (okData (toLE 2 (s.dev.get (K.SESSION_VERSION n)))) id)) ∧
    (s.dev.get (K.SESSION_STATE n) ≠ 2 → max lo (s.dev.get K.DICT_VER_MIN) ≤ min hi (s.dev.get K.DICT_VER_MAX) →
      exec (.negotiate h lo hi) s = .next (s.answered opNEGOTIATE q n (okData (toLE 2 (min hi (s.dev.get K.DICT_VER_MAX))))
        (fun (x : State) => x.setDev ((x.dev.put (K.SESSION_STATE n) 2).put (K.SESSION_VERSION n) (min hi (s.dev.get K.DICT_VER_MAX)))))) ∧
    (s.dev.get (K.SESSION_STATE n) ≠ 2 → min hi (s.dev.get K.DICT_VER_MAX) < max lo (s.dev.get K.DICT_VER_MIN) →
      exec (.negotiate h lo hi) s = .next (s.answered opNEGOTIATE q n (noRange rsVERSION) id))) ∧
  (∀ (s : State) (h : Hdr) (k n : Nat), k < 64 →
    (Granted s h (0x1200 + k) 1 1 1 n → 1 ≤ k → k ≤ 62 → s.dev.get (K.SESSION_STATE k) = 0 →
      s.dev.principal k ≠ 4 ∨ s.dev.get K.DEBUG_LEVEL ≠ 0 →
      exec (.sessionOpen h k) s = .next (s.wrote h (0x1200 + k) 1 1 1 n (fun d =>
        (d.setSession k Session.init).put (K.SESSION_STATE k) 1))) ∧
    (Granted s h (0x1200 + k) 1 1 1 n → 1 ≤ k → k ≤ 62 → s.dev.get (K.SESSION_STATE k) = 0 →
      s.dev.principal k = 4 → s.dev.get K.DEBUG_LEVEL = 0 →
      exec (.sessionOpen h k) s = .next (s.refusedWrite h (0x1200 + k) 1 1 1 n (noAccess rsNORIGHT))) ∧
    (Granted s h (0x1200 + k) 1 1 1 n → 1 ≤ k → k ≤ 62 → s.dev.get (K.SESSION_STATE k) ≠ 0 →
      exec (.sessionOpen h k) s = .next (s.wrote h (0x1200 + k) 1 1 1 n id)) ∧
    (Granted s h (0x1200 + k) 1 1 0 n → 1 ≤ k → k ≤ 62 →
      exec (.sessionClose h k) s = .next (s.wrote h (0x1200 + k) 1 1 0 n (fun d =>
        ((d.setSession k Session.init).put (K.SESSION_STATE k) 0).put (K.SESSION_VERSION k) 0))) ∧
    (Granted s h (0x1200 + k) 1 1 0 n → k = 0 ∨ k = 63 →
      exec (.sessionClose h k) s = .next (s.refusedWrite h (0x1200 + k) 1 1 0 n (noRange rsVALUE))))

/-- Segments. SEGMENT_WRITE puts its bytes at OFFSET of the session's buffer, bytes of a gap at 0; SEGMENT_READ answers bytes of the
live value. The close of a buffer that is as long as its OFFSET and within the object's range makes it the live value, or
under RWS a staged one in place of an earlier one for the object; a pending commit, and a value that another session has staged,
refuse that. A buffer of another length, or out of range, is refused with VALUE. -/
def Obligations.Segments : Prop :=
  ∀ (s : State) (q : Req) (n : Nat) (t : Target), t.row.type = .domain →
    (Admitted s opSEGREAD q n → (s.taken opSEGREAD q).dev.find n q.index q.sub false = .ok t → q.length ≤ 224 →
      exec (.segmentRead q) s = .next (s.answered opSEGREAD q n
        (okData (((s.dev.domBytes t.key).drop q.offset).take q.length)) id)) ∧
    (Admitted s opSEGWRITE q n → (s.taken opSEGWRITE q).dev.find n q.index q.sub true = .ok t → q.data ≠ [] →
      q.data.length ≤ 224 → q.offset + q.data.length ≤ domMax t.key →
      ∃ bs, exec (.segmentWrite q) s = .next (s.answered opSEGWRITE q n okReply
          (fun (x : State) => x.setDev (x.dev.setSession n { x.dev.session n with buf := some (t.key, bs) }))) ∧
        bs.length = max (((s.dev.session n).bufOf t.key).getD []).length (q.offset + q.data.length) ∧
        ∀ i, bs.getD i 0 = if q.offset ≤ i ∧ i < q.offset + q.data.length then q.data.getD (i - q.offset) 0 % 256
          else (((s.dev.session n).bufOf t.key).getD []).getD i 0) ∧
    (Admitted s opSEGWRITE { q with data := [] } n →
      (s.taken opSEGWRITE { q with data := [] }).dev.find n q.index q.sub true = .ok t →
      (q.offset ≠ (((s.dev.session n).bufOf t.key).getD []).length ∨
          domRangeOk t.key (((s.dev.session n).bufOf t.key).getD []) = false →
        exec (.segmentClose q) s = .next (s.answered opSEGWRITE { q with data := [] } n (noRange rsVALUE) id)) ∧
      (q.offset = (((s.dev.session n).bufOf t.key).getD []).length →
      domRangeOk t.key (((s.dev.session n).bufOf t.key).getD []) = true →
      (t.row.right (s.dev.principal n) ≠ .rws →
        exec (.segmentClose q) s = .next (s.answered opSEGWRITE { q with data := [] } n okReply
          (fun (x : State) => x.setDev (({ x.dev with doms := Map.set x.dev.doms [] t.key (((s.dev.session n).bufOf t.key).getD []) } : Dev).setSession n
            { x.dev.session n with buf := none })))) ∧
      (t.row.right (s.dev.principal n) = .rws → (s.dev.session n).state ≠ 2 → s.dev.heldElsewhere n t.key = false →
        ((s.dev.session n).staged.filter (fun y => y.key != t.key)).length < 256 →
        exec (.segmentClose q) s = .next (s.answered opSEGWRITE { q with data := [] } n okReply
          (fun (x : State) => x.setDev (let d := x.dev.setSession n { x.dev.session n with
              state := 1,
              staged := (x.dev.session n).staged.filter (fun y => y.key != t.key) ++
                [{ key := t.key, val := 0, dom := some (((s.dev.session n).bufOf t.key).getD []) }] }
            d.setSession n { d.session n with buf := none })))) ∧
      (t.row.right (s.dev.principal n) = .rws → (s.dev.session n).state = 2 →
        exec (.segmentClose q) s = .next (s.answered opSEGWRITE { q with data := [] } n (noAccess rsPENDING) id)) ∧
      (t.row.right (s.dev.principal n) = .rws → (s.dev.session n).state ≠ 2 → s.dev.heldElsewhere n t.key = true →
        exec (.segmentClose q) s = .next (s.answered opSEGWRITE { q with data := [] } n (noAccess rsELSE) id))))

/-- COMMIT. Mode 0x01 applies at receipt + 4, mode 0x02 at COMMIT_TICK, which is not below receipt + 4, and both are refused while a commit is
pending; 0x03 discards the set; FORCE_DISCARD empties a session's set, its COMMIT_STATE 0x04.

A commit takes all its objects or none: at its tick, where a staged object fails, every object keeps its value and the first
that failed is named; else the set is applied at once, its tick recorded and COMMIT_SEQ one higher, up to the greatest of 32 bits (log
entry 113). Before its tick nothing happens. -/
def Obligations.Commits : Prop :=
  ((∀ (s : State) (h : Hdr) (n : Nat), Granted s h 0x1F00 1 1 1 n → (s.dev.session n).state ≠ 2 →
    exec (.commitAsap h) s = .next (s.wrote h 0x1F00 1 1 1 n (fun d => d.setSession n
      { d.session n with state := 2, mode := 1, commitAt := d.now + 4 }))) ∧
  (∀ (s : State) (h : Hdr) (n : Nat), Granted s h 0x1F00 1 1 1 n → (s.dev.session n).state = 2 →
    exec (.commitAsap h) s = .next (s.refusedWrite h 0x1F00 1 1 1 n (noAccess rsPENDING))) ∧
  (∀ (s : State) (h : Hdr) (n : Nat), Granted s h 0x1F00 1 1 2 n → (s.dev.session n).state ≠ 2 →
    s.dev.now + 4 ≤ (s.dev.session n).commitTick →
    exec (.commitAtTick h) s = .next (s.wrote h 0x1F00 1 1 2 n (fun d => d.setSession n
      { d.session n with state := 2, mode := 2, commitAt := (d.session n).commitTick }))) ∧
  (∀ (s : State) (h : Hdr) (n : Nat), Granted s h 0x1F00 1 1 2 n → (s.dev.session n).state ≠ 2 →
    (s.dev.session n).commitTick < s.dev.now + 4 →
    exec (.commitAtTick h) s = .next (s.refusedWrite h 0x1F00 1 1 2 n (noRange rsPAST))) ∧
  (∀ (s : State) (h : Hdr) (n : Nat), Granted s h 0x1F00 1 1 3 n →
    exec (.commitDiscard h) s = .next (s.wrote h 0x1F00 1 1 3 n (fun d => d.setSession n
      { d.session n with staged := [], state := 0 }))) ∧
  (∀ (s : State) (h : Hdr) (k n : Nat), k < 64 → Granted s h 0x1F01 1 1 k n →
    exec (.forceDiscard h k) s = .next (s.wrote h 0x1F01 1 1 k n (fun d => d.setSession k
      { d.session k with staged := [], state := 4 })))) ∧
  (∀ (s : State) (n : Nat), n < 64 → s.stopped = false → (s.dev.session n).state = 2 →
    (s.dev.now < (s.dev.session n).commitAt → exec (.commitApply n) s = .next s) ∧
    ((s.dev.session n).commitAt ≤ s.dev.now →
      (∀ o r, s.dev.commitFault s.dev.now (s.dev.session n).staged = some (o, r) →
        ∃ t, exec (.commitApply n) s = .next t ∧ t.pending = s.pending ∧ t.sec = s.sec ∧
          t.dev = { s.dev with sessions := t.dev.sessions } ∧
          (∀ k, k ≠ n → t.dev.session k = s.dev.session k) ∧
          t.dev.session n = { s.dev.session n with staged := [], state := 4, failObject := o, failReason := r }) ∧
      (s.dev.commitFault s.dev.now (s.dev.session n).staged = none →
        ∃ t, exec (.commitApply n) s = .next t ∧ t.pending = s.pending ∧ t.sec = s.sec ∧
          t.dev = (s.dev.applyStaged (s.dev.session n).staged).setSession n (t.dev.session n) ∧
          (t.dev.session n).staged = [] ∧ (t.dev.session n).state = 3 ∧ (t.dev.session n).appliedTick = s.dev.now ∧
          (t.dev.session n).seq = min ((s.dev.session n).seq + 1) (2 ^ 32 - 1))))

/-- SNAPSHOT and CLEAR act four ticks after receipt, or at SNAPSHOT_TICK, which is not below that; a tenant's snapshot is of its
partition's record alone.

A snapshot that is due copies the objects of 0xA000 to 0xA3FF and every counter of other groups, a tenant's those of its partition's record alone; a clear
that is due puts the counters of 0xA000 to 0xA1FF, and nothing else, back to their defaults. -/
def Obligations.Snapshots : Prop :=
  (∀ (s : State) (h : Hdr) (n who : Nat),
    who = (if s.dev.principal n = 2 then s.dev.get (K.SESSION_PARTITION n) else 255) →
    (Granted s h 0xA800 1 1 1 n → exec (.snapshotAsap h) s = .next (s.wrote h 0xA800 1 1 1 n (fun d =>
      { d with snapPend := d.snapPend ++ [(d.now + 4, who)] }))) ∧
    (Granted s h 0xA800 1 1 2 n → s.dev.now + 4 ≤ s.dev.get K.SNAPSHOT_TICK →
      exec (.snapshotAtTick h) s = .next (s.wrote h 0xA800 1 1 2 n (fun d =>
        { d with snapPend := d.snapPend ++ [(d.get K.SNAPSHOT_TICK, who)] }))) ∧
    (Granted s h 0xA800 1 1 2 n → s.dev.get K.SNAPSHOT_TICK < s.dev.now + 4 →
      exec (.snapshotAtTick h) s = .next (s.refusedWrite h 0xA800 1 1 2 n (noRange rsPAST))) ∧
    (Granted s h 0xA800 4 1 1 n → exec (.clear h) s = .next (s.wrote h 0xA800 4 1 1 n (fun d =>
      { d with clearAt := d.clearAt ++ [d.now + 4] })))) ∧
  ((∀ (s : State) (at' who : Nat), s.stopped = false → s.dev.snapPend = [(at', who)] → at' ≤ s.dev.now →
    ∃ t, exec .snapshotTake s = .next t ∧ t.pending = s.pending ∧ t.sec = s.sec ∧
      t.dev = { s.dev with snapPend := [], snap := t.dev.snap, objs := t.dev.objs } ∧
      (who = 255 → t.dev.get K.SNAPSHOT_TAKEN = s.dev.now) ∧ (who ≠ 255 → t.dev.objs = s.dev.objs) ∧
      (∀ o : Obj, o.key ≠ K.SNAPSHOT_TAKEN.key → t.dev.get o = s.dev.get o) ∧
      (∀ k v, snapKey who k = true → v ≠ 0 → (k, v) ∈ s.dev.objs → (∀ e ∈ s.dev.objs, e.1 = k → e.2 = v) → Map.get t.dev.snap 0 k = v) ∧
      (∀ k, snapKey who k = true → (∀ e ∈ s.dev.objs, e.1 ≠ k) → Map.get t.dev.snap 0 k = 0) ∧
      (∀ k, snapKey who k = false → Map.get t.dev.snap 0 k = Map.get s.dev.snap 0 k)) ∧
  (∀ s : State, s.stopped = false → (∃ x ∈ s.dev.clearAt, x ≤ s.dev.now) →
    ∃ t, exec .clearApply s = .next t ∧ t.pending = s.pending ∧ t.sec = s.sec ∧
      t.dev = { s.dev with clearAt := s.dev.clearAt.filter (fun x => s.dev.now < x), objs := t.dev.objs } ∧
      ∀ o : Obj, t.dev.get o = if 0xA000 ≤ o.key / 256 ∧ o.key / 256 < 0xA200 then o.dflt else s.dev.get o))

/-- Live writes that act on a partition: RESOLVE acts on a decision in doubt alone; 0x01 commits, the scale and the ledger following, 0x02 to 0x04
abandon the attempt; JOB_DAMAGED is cleared in suspension alone. -/
def Obligations.PartitionWrites : Prop :=
  ∀ (s : State) (h : Hdr) (p n : Nat), p < 16 →
    (Granted s h (0x2300 + p) 20 1 1 n → s.dev.get (K.DECISION p) = 3 →
      exec (.resolveCommit h p) s = .next (s.wrote h (0x2300 + p) 20 1 1 n (fun d =>
        (((d.put (K.DECISION p) 4).put (K.DECISION_CAUSE p) 0).adjustScale p false true).1.ledgerClose p (d.get (K.ATTEMPT p))))) ∧
    (Granted s h (0x2300 + p) 20 1 1 n → s.dev.get (K.DECISION p) ≠ 3 →
      exec (.resolveCommit h p) s = .next (s.refusedWrite h (0x2300 + p) 20 1 1 n (noRange rsVALUE))) ∧
    (∀ v, 2 ≤ v → v ≤ 4 → Granted s h (0x2300 + p) 20 1 v n → s.dev.get (K.DECISION p) = 3 →
      exec (.resolveAbandon h p v) s = .next (s.wrote h (0x2300 + p) 20 1 v n (fun d => d.resolveAbandon p v))) ∧
    (∀ v, 2 ≤ v → v ≤ 4 → Granted s h (0x2300 + p) 20 1 v n → s.dev.get (K.DECISION p) ≠ 3 →
      exec (.resolveAbandon h p v) s = .next (s.refusedWrite h (0x2300 + p) 20 1 v n (noRange rsVALUE))) ∧
    (Granted s h (0x2300 + p) 21 1 0 n → s.dev.get (K.SCHED_STATE p) = 4 →
      exec (.jobDamaged h p) s = .next (s.wrote h (0x2300 + p) 21 1 0 n (fun d => d.put (K.JOB_DAMAGED p) 0))) ∧
    (Granted s h (0x2300 + p) 21 1 0 n → s.dev.get (K.SCHED_STATE p) ≠ 4 →
      exec (.jobDamaged h p) s = .next (s.refusedWrite h (0x2300 + p) 21 1 0 n (noAccess rsACTIVE)))

/-- Live writes that act on a core: ZEROISE and BLK_RESET while it does not run alone, else they are refused; PWR_WAIT 0x01 asks for an entry unless the
depth is RUN, 0x00 ends the wait or wakes; CORE_CLASS files a candidate event.

What they leave. Zeroisation: every byte of the core's scratchpads 0, queues and length register empty, one more
ZEROISE_COUNT, other cores and the memories as they were. A candidate event of class 0x01: one more CAND_COUNT, its tick, the class; no
fence. -/
def Obligations.CoreWrites : Prop :=
  (∀ (s : State) (h : Hdr) (c n : Nat), c < 64 →
    (Granted s h (0x3016 + 0x40 * c) 3 1 1 n → s.dev.coreState c ≠ 2 →
      exec (.zeroise h c) s = .next (s.wrote h (0x3016 + 0x40 * c) 3 1 1 n (fun d => d.zeroise c))) ∧
    (Granted s h (0x3016 + 0x40 * c) 3 1 1 n → s.dev.coreState c = 2 →
      exec (.zeroise h c) s = .next (s.refusedWrite h (0x3016 + 0x40 * c) 3 1 1 n (noAccess rsACTIVE))) ∧
    (Granted s h (0x301B + 0x40 * c) 2 1 1 n → s.dev.domDepth c ≠ 0 → s.dev.get (K.PWR_WAIT c) ≠ 2 →
      exec (.pwrWaitSet h c) s = .next (s.wrote h (0x301B + 0x40 * c) 2 1 1 n (fun d => d.put (K.PWR_WAIT c) 1))) ∧
    (Granted s h (0x301B + 0x40 * c) 2 1 1 n → s.dev.domDepth c = 0 →
      exec (.pwrWaitSet h c) s = .next (s.wrote h (0x301B + 0x40 * c) 2 1 1 n id)) ∧
    (Granted s h (0x301B + 0x40 * c) 2 1 0 n →
      exec (.pwrWaitCancel h c) s = .next (s.wrote h (0x301B + 0x40 * c) 2 1 0 n (fun d =>
        if s.dev.get (K.PWR_WAIT c) = 2 then d.wakeDom c else d.put (K.PWR_WAIT c) 0))) ∧
    (∀ v, Granted s h (0x301C + 0x40 * c) 4 1 v n → 1 ≤ v → v ≤ 3 →
      exec (.coreClass h c v) s = .next (s.wrote h (0x301C + 0x40 * c) 4 1 v n (fun d => d.coreClass c v))) ∧
    (∀ v, v < 32 → Granted s h (0x301D + 0x40 * c) 1 1 v n → s.dev.coreState c ≠ 2 →
      exec (.blkReset h c v) s = .next (s.wrote h (0x301D + 0x40 * c) 1 1 v n (fun d => d.blkReset c v))) ∧
    (∀ v, v < 32 → Granted s h (0x301D + 0x40 * c) 1 1 v n → s.dev.coreState c = 2 →
      exec (.blkReset h c v) s = .next (s.refusedWrite h (0x301D + 0x40 * c) 1 1 v n (noAccess rsACTIVE)))) ∧
  (∀ (d : Dev) (c : Nat), c < 64 →
    (∀ m o, ((d.zeroise c).core c).byte m o = 0 ∧ ((d.zeroise c).core c).bad m o = false) ∧
    (∀ q, Map.get ((d.zeroise c).core c).hq [] q = []) ∧ ((d.zeroise c).core c).vlen = 0 ∧
    ((d.zeroise c).core c).eng = (d.core c).eng ∧ (∀ k, k ≠ c → (d.zeroise c).core k = d.core k) ∧
    (d.zeroise c).mem = d.mem ∧ (d.zeroise c).get (K.ZEROISE_COUNT c) = addSat 64 (d.get (K.ZEROISE_COUNT c)) 1 ∧
    (d.coreClass c 1).get (K.CAND_COUNT c) = addSat 16 (d.get (K.CAND_COUNT c)) 1 ∧
    (d.coreClass c 1).get (K.CAND_TICK c) = d.now ∧ (d.coreClass c 1).get (K.LAST_CLASS c) = 1 ∧
    (d.coreClass c 1).get K.FENCE_MASK = d.get K.FENCE_MASK)

/-- Live writes that act on the device: FENCE_REQ, SCAN_REQ and UNIT_FAULT; a link that is off enabled, a link disabled; the power cap, in force
at the next window; the controller back at the estimate; a port's reset; SVN_MIN raised to the running image's number, never
lowered; FT_SET only where a step is permitted, at a root of role 1 with the next pulse.

A fence of a free core: its bit of FENCE_MASK and no other, DEVICE_HEALTH at least degraded, its domain off, CORE_STATE
fenced. -/
def Obligations.DeviceWrites : Prop :=
  (∀ (s : State) (h : Hdr) (n v : Nat),
    (v < 64 → Granted s h 0x8020 1 1 v n →
      exec (.fenceReq h v) s = .next (s.wrote h 0x8020 1 1 v n (fun d => d.fence v 4))) ∧
    (v < 64 → Granted s h 0x8020 2 1 v n → s.dev.scanQ.contains v = false → s.dev.scanning v = false →
      exec (.scanReq h v) s = .next (s.wrote h 0x8020 2 1 v n (fun d =>
        ({ d with scanQ := d.scanQ ++ [v] } : Dev).put (K.SCAN_STATE v) 1))) ∧
    (Granted s h 0x8020 5 2 v n →
      exec (.unitFault h v) s = .next (s.wrote h 0x8020 5 2 v n (fun d => (d.put K.DEVICE_HEALTH 2).file
        { cls := 7, syndrome := 0x80FFFF00, aux := 0, unit := v, index := 0, opcode := 0xFF, status := 0, part := 0xFF }))) ∧
    (v < 64 → Granted s h (0x5000 + v) 2 1 1 n → s.dev.get (K.LNK_STATE v) = 6 →
      exec (.lnkEnable h v true) s = .next (s.wrote h (0x5000 + v) 2 1 1 n (fun d =>
        (d.put (K.LNK_ENABLE v) 1).put (K.LNK_STATE v) 0))) ∧
    (v < 64 → Granted s h (0x5000 + v) 2 1 0 n →
      exec (.lnkEnable h v false) s = .next (s.wrote h (0x5000 + v) 2 1 0 n (fun d => (d.put (K.LNK_ENABLE v) 0).linkStop v 6))) ∧
    (Granted s h 0x7000 1 2 v n →
      exec (.capW h v) s = .next (s.wrote h 0x7000 1 2 v n (fun d =>
        (d.put K.CAP_W v).setPwr { d.pwr with capNew := some (v, (d.now / 625 + 1) * 625) }))) ∧
    (Granted s h 0x7000 5 1 0 n → s.dev.get K.CTRL_MODE ≠ 0 →
      exec (.ctrlMode h) s = .next (s.wrote h 0x7000 5 1 0 n (fun d =>
        (((d.put K.CTRL_MODE 0).put K.GUARD_PCT 97).setPwr { d.pwr with agree := 0 }).pwrRecord 6 0xF 0 0))) ∧
    (v < 8 → Granted s h (0x5060 + v) 1 1 1 n →
      exec (.portReset h v) s = .next (s.wrote h (0x5060 + v) 1 1 1 n (fun d => d.portReset v))) ∧
    (Granted s h 0x9000 7 1 1 n → s.dev.get K.SVN_MIN ≤ s.dev.get K.IMAGE_SVN →
      exec (.svnCommit h) s = .next (s.wrote h 0x9000 7 1 1 n (fun d => d.put K.SVN_MIN (d.get K.IMAGE_SVN)))) ∧
    (Granted s h 0x9000 7 1 1 n → s.dev.get K.IMAGE_SVN < s.dev.get K.SVN_MIN →
      exec (.svnCommit h) s = .next (s.refusedWrite h 0x9000 7 1 1 n (noRange rsVALUE))) ∧
    (Granted s h 0x2000 8 8 v n → s.dev.mayStep = true → s.dev.get K.FT_ROLE ≠ 1 →
      exec (.ftSet h v) s = .next (s.wrote h 0x2000 8 8 v n (fun d => { d with now := v % 2 ^ 64 }))) ∧
    (Granted s h 0x2000 8 8 v n → s.dev.mayStep = true → s.dev.get K.FT_ROLE = 1 →
      exec (.ftSet h v) s = .next (s.wrote h 0x2000 8 8 v n (fun d => { d with ft := { d.ft with pend := some v } }))) ∧
    (Granted s h 0x2000 8 8 v n → s.dev.mayStep = false →
      exec (.ftSet h v) s = .next (s.refusedWrite h 0x2000 8 8 v n (noAccess rsACTIVE)))) ∧
  (∀ (d : Dev) (c : Nat), c < 64 → bit (d.get K.CORE_PRESENT) c = true → bit (d.get K.FENCE_MASK) c = false →
    d.get (K.CORE_OWNER c) = 0xFF → d.swOf c = none → d.scanning c = false →
    bit ((d.fence c 4).get K.FENCE_MASK) c = true ∧ 1 ≤ (d.fence c 4).get K.DEVICE_HEALTH ∧
      (d.fence c 4).get (K.DOM_STATE c) = 4 ∧ (d.fence c 4).coreState c = 3 ∧ (d.fence c 4).coreUsable c = false ∧
      ∀ k, k < 64 → k ≠ c → bit ((d.fence c 4).get K.FENCE_MASK) k = bit (d.get K.FENCE_MASK) k)

/-- A read of DBG_CHALLENGE answers a free value and keeps it. A good response to a request of TEST raises the level to TEST; one to a request of
FULL releases every partition, and FULL follows when all are released, not before, DEBUGGED set. DBG_LOCK locks at once. A response that
no key verifies, or without a request, changes no level and has its record.

SANITISE releases every partition, erases the operator part, FLASH_DATA and the backup domain's records; its end, once every
partition is gone and no channel is zeroising, has its record. -/
def Obligations.DebugAndSanitise : Prop :=
  (∀ (s : State) (h : Hdr) (n : Nat),
    (∀ q : Req, q = { hdr := h, index := 0x9000, sub := 12, data := [], offset := 0, length := 0 } →
      ∀ t, Admitted s opREAD q n → (s.taken opREAD q).dev.find n 0x9000 12 false = .ok t →
      ∃ v, exec (.dbgChallenge h) s = .next (s.answered opREAD q n (okData (toLE 32 v)) (fun (x : State) =>
        { x with sec := { x.sec with challenge := v }, dev := { x.dev with free := x.dev.free + 1 } }))) ∧
    (∀ v, v < 256 → v ≠ 0 → Granted s h 0x9000 13 1 v n →
      exec (.dbgRequest h v) s = .next (s.answered opWRITE (writeOf h 0x9000 13 1 v) n okReply (fun (x : State) =>
        { x with sec := { x.sec with dbgWant := v } }))) ∧
    (Granted s h 0x9000 13 1 0 n →
      exec (.dbgLock h) s = .next (s.answered opWRITE (writeOf h 0x9000 13 1 0) n okReply (fun (x : State) =>
        { x with sec := { x.sec with dbgWant := 0, pendingFull := false }, dev := x.dev.setDebug 0 }))) ∧
    (∀ g msg, Granted s h 0x9000 14 64 g n → msg = toLE 32 s.sec.challenge ++ toLE 32 (s.dev.get K.DEVICE_ID) ++ [s.sec.dbgWant] →
      s.sec.dbgWant = 1 → Config.sm2Verify (Config.romKey 2) msg g = true →
      exec (.dbgResponse h g) s = .next (s.answered opWRITE (writeOf h 0x9000 14 64 g) n okReply (fun (x : State) =>
        { x with sec := { x.sec with pendingFull := false }, dev := x.dev.setDebug 1 }))) ∧
    (∀ g msg, Granted s h 0x9000 14 64 g n → msg = toLE 32 s.sec.challenge ++ toLE 32 (s.dev.get K.DEVICE_ID) ++ [s.sec.dbgWant] →
      2 ≤ s.sec.dbgWant → Config.sm2Verify (Config.romKey 2) msg g = true →
      exec (.dbgResponse h g) s = .next (s.answered opWRITE (writeOf h 0x9000 14 64 g) n okReply (fun (x : State) =>
        { x with sec := { x.sec with pendingFull := true }, dev := x.dev.releaseAll }))) ∧
    (∀ g, Granted s h 0x9000 14 64 g n → s.sec.dbgWant = 0 →
      exec (.dbgResponse h g) s = .next (s.answered opWRITE (writeOf h 0x9000 14 64 g) n okReply (fun (x : State) =>
        x.setDev (x.dev.bootRecord 9 0 0)))) ∧
    (∀ g msg, Granted s h 0x9000 14 64 g n → msg = toLE 32 s.sec.challenge ++ toLE 32 (s.dev.get K.DEVICE_ID) ++ [s.sec.dbgWant] →
      s.sec.dbgWant ≠ 0 → Config.sm2Verify (Config.romKey 2) msg g = false →
      s.sec.dbgWant ≠ 1 ∨ s.dev.get K.DEBUG_KEY = 0 ∨ Config.sm2Verify (s.dev.get K.DEBUG_KEY) msg g = false →
      exec (.dbgResponse h g) s = .next (s.answered opWRITE (writeOf h 0x9000 14 64 g) n okReply (fun (x : State) =>
        x.setDev (x.dev.bootRecord 9 0 0)))) ∧
    (s.stopped = false → s.sec.pendingFull = true → s.dev.allReleased = true →
      ∃ t, exec .debugFullEnter s = .next t ∧ t.pending = s.pending ∧ t.dev.get K.DEBUG_LEVEL = 2 ∧ t.dev.get K.DEBUGGED = 1 ∧
        t.sec = { s.sec with pendingFull := false }) ∧
    (s.stopped = false → s.sec.pendingFull = true → s.dev.allReleased = false → exec .debugFullEnter s = .next s)) ∧
  (∀ (s : State) (h : Hdr) (n : Nat),
    (Granted s h 0x9000 15 1 0x5A n →
      exec (.sanitise h 0x5A) s = .next (s.answered opWRITE (writeOf h 0x9000 15 1 0x5A) n okReply (fun (x : State) =>
        { x with
          sec := { x.sec with flash := Map.delRange x.sec.flash 0x120000 0x130000, sanitising := true },
          dev := { x.dev.releaseAll with log := { x.dev.releaseAll.log with bkp := [] },
                                         doms := Map.del x.dev.releaseAll.doms flashKey } }))) ∧
    (s.stopped = false → s.sec.sanitising = true → s.dev.allReleased = true →
      exec .sanitiseComplete s = .next { s with sec := { s.sec with sanitising := false },
                                                dev := s.dev.file (bootRec 0xD s.dev.bootStep 0 0 0x7000) }) ∧
    (s.stopped = false → s.sec.sanitising = true → s.dev.allReleased = false → exec .sanitiseComplete s = .next s))

/-! ## Fabric time, power, upkeep -/

/-- Time marks of the upstream with DEPTH below 15. FT_DEPTH is one more than the mark's; FT_OFFSET takes the estimate. ACQUIRING
locks with the sixteenth mark in a row within 64, HOLDOVER with one within 512, LOCKED is lost beyond 512, FREE and LOST acquire anew.

A mark of DEPTH 15 or more moves no time in LOCKED and HOLDOVER; the first of a run of them has its record (log entry 127). A mark that
is not the upstream's moves no time: the link notes when it came and what it echoes, and its delay. One whose reserved bytes are not
zero is discarded but for its header, and one on a link that is not UP altogether.

Events of the time unit: a mark every 64 ticks; HOLDOVER 192 ticks after the last mark of the upstream, or when a root
loses its reference; LOST after FT_HOLDOVER_LIMIT; the reference brings a root back; a pulse records its phase and loads FT_SET. -/
def Obligations.FabricTime : Prop :=
  (∀ (s : State) (l : Nat) (f : Flit) (m : Mark) (w e : Int) (d : Dev), l < 64 → s.stopped = false → s.dev.get (K.LNK_STATE l) = 3 →
    s.dev.controlIn l f = (true, d) →
    m.reservedZero = true → m.source = true → m.echoValid = true → s.dev.get K.FT_ROLE = 0 → s.dev.get K.FT_UPSTREAM = l →
    w = (((m.rx : Int) - m.echo) - m.echoHold) / 2 + toSigned 16 (s.dev.get (K.LNK_ASYM l)) →
    e = m.offset + ((m.rx : Int) - (m.tx + w)) → -(2 : Int) ^ 31 ≤ e → e < 2 ^ 31 →
    (m.depth < 15 → ∃ t, exec (.timemark l ⟨f, m⟩) s = .next t ∧ t.pending = s.pending ∧ t.sec = s.sec ∧
      t.dev.get K.FT_DEPTH = m.depth + 1 ∧ t.dev.ft.mark = s.dev.now ∧
      (s.dev.get K.FT_STATE = 2 → t.dev.now = s.dev.now ∧ t.dev.ftOffset = e ∧ t.dev.get K.FT_STATE = if 512 < e.natAbs then 4 else 2) ∧
      (s.dev.get K.FT_STATE = 3 → t.dev.now = s.dev.now ∧ t.dev.ftOffset = e ∧ t.dev.get K.FT_STATE = if e.natAbs ≤ 512 then 2 else 3) ∧
      (s.dev.get K.FT_STATE = 1 → s.dev.ft.stepped = true → t.dev.now = s.dev.now ∧ t.dev.ftOffset = e ∧
        t.dev.get K.FT_STATE = if e.natAbs ≤ 64 ∧ 15 ≤ s.dev.ft.good then 2 else 1) ∧
      (s.dev.get K.FT_STATE = 0 ∨ s.dev.get K.FT_STATE = 4 → t.dev.get K.FT_STATE = 1)) ∧
    (∀ d1 d2 : Dev, 15 ≤ m.depth → s.dev.get K.FT_STATE = 2 ∨ s.dev.get K.FT_STATE = 3 →
      d1 = (d.setLink l { d.link l with markRx := some (m.tx, m.rx) }).put (K.LNK_DELAY l) (min w.toNat (2 ^ 32 - 1)) →
      d2 = (if s.dev.ft.deep = true then d1 else d1.linkRecord l 6 0 0) →
      exec (.timemark l ⟨f, m⟩) s = .next (s.setDev { d2 with ft := { d2.ft with deep := true } }))) ∧
  (∀ (s : State) (l : Nat) (f : Flit) (m : Mark) (w : Int) (d d1 : Dev), l < 64 → s.stopped = false → s.dev.get (K.LNK_STATE l) = 3 →
    s.dev.controlIn l f = (true, d) →
    (m.reservedZero = false → exec (.timemark l ⟨f, m⟩) s = .next (s.setDev d)) ∧
    (m.reservedZero = true → s.dev.get K.FT_ROLE ≠ 0 ∨ s.dev.get K.FT_UPSTREAM ≠ l ∨ m.source = false →
      w = (((m.rx : Int) - m.echo) - m.echoHold) / 2 + toSigned 16 (s.dev.get (K.LNK_ASYM l)) →
      d1 = d.setLink l { d.link l with markRx := some (m.tx, m.rx) } →
      exec (.timemark l ⟨f, m⟩) s = .next (s.setDev (if m.echoValid = true then d1.put (K.LNK_DELAY l) (min w.toNat (2 ^ 32 - 1)) else d1)))) ∧
  (∀ (s : State) (l : Nat) (f : Flit) (m : Mark), l < 64 → s.dev.get (K.LNK_STATE l) ≠ 3 → exec (.timemark l ⟨f, m⟩) s = .next s) ∧
  ((∀ (s : State) (l : Nat), l < 64 → s.stopped = false → s.dev.get (K.LNK_STATE l) = 3 → (s.dev.link l).markDue ≤ s.dev.now →
    ∃ t m, exec (.timemarkSend l) s = .next t ∧
      t = s.setDev (s.dev.setLink l { s.dev.link l with markOut := some m, markDue := s.dev.now + 64 }) ∧
      m.tx = 256 * s.dev.now ∧ m.depth = s.dev.get K.FT_DEPTH ∧ m.offset = s.dev.ftOffset ∧
      m.source = (bit (s.dev.get K.FT_DOWNSTREAM) l && (s.dev.get K.FT_STATE == 2 || s.dev.get K.FT_STATE == 3))) ∧
  (∀ s : State, s.stopped = false → s.dev.get K.FT_STATE = 2 →
    (s.dev.get K.FT_ROLE = 0 → s.dev.ft.mark + 192 ≤ s.dev.now →
      ∃ t, exec .markTimeout s = .next t ∧ t.pending = s.pending ∧ t.sec = s.sec ∧ t.dev.get K.FT_STATE = 3 ∧ t.dev.now = s.dev.now ∧
        t.dev.ft.since = s.dev.now) ∧
    (s.dev.ft.mark + 192 > s.dev.now → exec .markTimeout s = .next s) ∧
    (s.dev.get K.FT_ROLE = 1 ∨ s.dev.get K.FT_ROLE = 2 →
      ∃ t, exec .ftrefLoss s = .next t ∧ t.pending = s.pending ∧ t.sec = s.sec ∧ t.dev.get K.FT_STATE = 3 ∧ t.dev.now = s.dev.now)) ∧
  (∀ s : State, s.stopped = false → s.dev.get K.FT_STATE = 3 → s.dev.ft.since + s.dev.get K.FT_HOLDOVER_LIMIT ≤ s.dev.now →
    ∃ t, exec .holdoverExpire s = .next t ∧ t.pending = s.pending ∧ t.sec = s.sec ∧ t.dev.get K.FT_STATE = 4 ∧ t.dev.now = s.dev.now) ∧
  (∀ s : State, s.stopped = false → s.dev.get K.FT_ROLE = 1 ∨ s.dev.get K.FT_ROLE = 2 →
    ∃ t, exec .referenceLock s = .next t ∧ t.pending = s.pending ∧ t.sec = s.sec ∧ t.dev.now = s.dev.now ∧
      t.dev.get K.FT_OFFSET = 0 ∧ t.dev.get K.FT_DEPTH = 0 ∧
      t.dev.get K.FT_STATE = if s.dev.get K.FT_STATE = 4 then 1 else 2) ∧
  (∀ (s : State) (x : Int), s.stopped = false → s.dev.get K.FT_ROLE = 1 → (s.dev.ppsError x).natAbs ≤ 256 → s.dev.ft.pend = none →
    exec (.ftppsEdge x) s = .next (s.setDev (s.dev.put K.FT_PPS_ERROR (ofSigned 32 (s.dev.ppsError x))))) ∧
  (∀ (s : State) (x : Int) (v : Nat), s.stopped = false → s.dev.get K.FT_ROLE = 1 → s.dev.ft.pend = some v → s.dev.mayStep = true →
    ∃ t, exec (.ftppsEdge x) s = .next t ∧ t.pending = s.pending ∧ t.sec = s.sec ∧ t.dev.now = v % 2 ^ 64 ∧ t.dev.ft.pend = none))

/-- The pulse at a root of role 1: its phase is recorded, one beyond a tick files a record, and while a schedule is armed the
counter is not moved, whatever waits in FT_SET. -/
def Obligations.PulseEdges : Prop :=
  ∀ (s : State) (x : Int) (d1 d2 : Dev), s.stopped = false → s.dev.get K.FT_ROLE = 1 →
    d1 = s.dev.put K.FT_PPS_ERROR (ofSigned 32 (s.dev.ppsError x)) →
    d2 = (if 256 < (s.dev.ppsError x).natAbs then d1.file
      { cls := 8, syndrome := syn8 5 0, aux := ofSigned 32 (s.dev.ppsError x), unit := 0x7002, index := 0, opcode := 0xFF,
        status := 0, part := 0xFF } else d1) →
    (s.dev.ft.pend = none ∨ s.dev.anyArmed = true → exec (.ftppsEdge x) s = .next (s.setDev d2)) ∧
    d2.now = s.dev.now ∧ d2.get K.FT_PPS_ERROR = ofSigned 32 (s.dev.ppsError x)

/-- METER_UPDATE: at each multiple of 62,500 ticks a partition's record takes what was metered since the last; at other ticks nothing changes.

LEDGER_WINDOW_END: the rails' and the device's energy are accounted, fractions carried; a window whose estimate differs from its measure by
more than 15 per cent of it counts on DISAGREE_RUN, another puts it to 0; at eight the controller goes from the estimate into
measured-only mode at GUARD_PCT 90. -/
def Obligations.Metering : Prop :=
  (∀ s : State, s.stopped = false →
    (s.dev.now % 62500 ≠ 0 → exec .meterUpdate s = .next s) ∧
    (s.dev.now % 62500 = 0 → ∃ t, exec .meterUpdate s = .next t ∧ t.pending = s.pending ∧ t.sec = s.sec ∧
      t.dev = { s.dev with objs := t.dev.objs, parts := t.dev.parts, pwr := t.dev.pwr } ∧
      ∀ p, p < 16 →
        t.dev.get (K.METER_TICK p) = s.dev.now ∧ (t.dev.part p).meters = [] ∧
        t.dev.get (K.CORE_TICKS p) = addSat 64 (s.dev.get (K.CORE_TICKS p)) (Map.get (s.dev.part p).meters 0 0) ∧
        t.dev.get (K.ENERGY_MJ p) = addSat 64 (s.dev.get (K.ENERGY_MJ p))
          ((Map.get s.dev.pwr.carry 0 (100 + p) + Map.get (s.dev.part p).meters 0 1) / 1000) ∧
        t.dev.get (K.HBM_RD_BYTES p) = addSat 64 (s.dev.get (K.HBM_RD_BYTES p)) (Map.get (s.dev.part p).meters 0 2) ∧
        t.dev.get (K.HBM_WR_BYTES p) = addSat 64 (s.dev.get (K.HBM_WR_BYTES p)) (Map.get (s.dev.part p).meters 0 3) ∧
        t.dev.get (K.LINK_TX_BYTES p) = addSat 64 (s.dev.get (K.LINK_TX_BYTES p)) (Map.get (s.dev.part p).meters 0 4))) ∧
  (∀ (s : State) (m : List Nat) (e : Nat) (sh : List Nat) (em : Nat), s.stopped = false → s.dev.now % 62500 = 0 → s.dev.now ≠ 0 →
    s.dev.get K.WIN_TICK ≠ s.dev.now → em = ((List.range 7).map (fun i => m.getD i 0)).sum →
    ∃ t, exec (.ledgerWindowEnd m e sh) s = .next t ∧ t.pending = s.pending ∧ t.sec = s.sec ∧ t.dev.now = s.dev.now ∧
      t.dev.get K.WIN_TICK = s.dev.now ∧ t.dev.get K.WIN_MEAS_MJ = min (em / 1000) (2 ^ 32 - 1) ∧
      t.dev.get K.WIN_EST_MJ = min (e / 1000) (2 ^ 32 - 1) ∧ t.dev.get K.POWER_1MS = min (em / 1000) 0xFFFF ∧
      (∀ i, i < 7 → t.dev.get (K.RAIL_MJ i) = addSat 64 (s.dev.get (K.RAIL_MJ i)) ((Map.get s.dev.pwr.carry 0 i + m.getD i 0) / 1000)) ∧
      t.dev.get K.DISAGREE_RUN = (if 15 * em < 100 * (if em < e then e - em else em - e)
        then addSat 16 (s.dev.get K.DISAGREE_RUN) 1 else 0) ∧
      (s.dev.get K.CTRL_MODE = 0 → t.dev.get K.DISAGREE_RUN < 8 → t.dev.get K.CTRL_MODE = 0) ∧
      (s.dev.get K.CTRL_MODE = 0 → 8 ≤ t.dev.get K.DISAGREE_RUN → t.dev.get K.CTRL_MODE = 1 ∧ t.dev.get K.GUARD_PCT = 90) ∧
      t.dev.cores = s.dev.cores ∧ t.dev.mem = s.dev.mem)

/-- PEAK_EVALUATE, every 25 ticks. A projection above GUARD_PCT of PEAK_W gates the cores that hold best-effort slots, and
every core where those do not suffice, with its record; one below it opens every gate.

SEGMENT_BEGIN: each quadrant goes to its floor, or to what an OP_HOLD stain asks where the cap allows it: a
lower point at once, a higher one when the voltage is there; at OP_RAMP_DONE, not before the ramp's time has passed, the point applies and
V_SET_MV follows.

DROOP_DETECT steps the clock by 1/16 until DROOP_RELEASE, no sooner than 1 µs later, unless the guard is in force or the step would fall below the floor; SLACK_SHORT
raises the trim by 5 mV, up to 40, but not within 100 ms of the last rise; at +40 mV it lowers OP_MAX. -/
def Obligations.PowerLimits : Prop :=
  (∀ (s : State) (sum wo gate : Nat), s.stopped = false →
    (s.dev.now % 25 ≠ 0 → exec (.peakEvaluate sum wo) s = .next s) ∧
    (s.dev.now % 25 = 0 → 100 * sum < s.dev.get K.GUARD_PCT * s.dev.get K.PEAK_W →
      exec (.peakEvaluate sum wo) s = .next (s.setDev (s.dev.put K.GATE 0))) ∧
    (s.dev.now % 25 = 0 → s.dev.get K.GUARD_PCT * s.dev.get K.PEAK_W < 100 * sum →
      gate = s.dev.get K.GATE |||
        (if s.dev.get K.GUARD_PCT * s.dev.get K.PEAK_W < 100 * wo then s.dev.get K.CORE_PRESENT else s.dev.beMask) →
      (gate = s.dev.get K.GATE → exec (.peakEvaluate sum wo) s = .next s) ∧
      (gate ≠ s.dev.get K.GATE → exec (.peakEvaluate sum wo) s = .next (s.setDev
        (((s.dev.put K.GATE gate).cnt K.GATE_EVENTS 1).pwrRecord 3 0xF
          (if s.dev.get K.GUARD_PCT * s.dev.get K.PEAK_W < 100 * wo then 2 else 1) sum))))) ∧
  ((∀ (s : State) (p : Nat) (wish floors : List Nat), p < 16 → s.stopped = false →
    floors = (List.range 4).map s.dev.floorOp →
    wish = (List.range 4).map (fun q => min (max (s.dev.floorOp q) (s.dev.opHold q)) (s.dev.get (K.OP_MAX q))) →
    ∃ t, exec (.segmentBegin p) s = .next t ∧ t.pending = s.pending ∧ t.sec = s.sec ∧
      ∀ q, q < 4 → t.dev.get (K.FLOOR_MHZ q) = s.dev.floorMHz q ∧
        (∀ op, op = (if s.dev.capOk wish then wish else floors).getD q 0 →
          t.dev.get (K.OP_NOW q) = min op (s.dev.get (K.OP_NOW q)) ∧
          Map.get t.dev.pwr.ramp 0 q = if op = s.dev.get (K.OP_NOW q) ∧ Map.get s.dev.pwr.ramp 0 q ≠ op + 1 then 0 else op + 1)) ∧
  (∀ (s : State) (q op : Nat), q < 4 → s.stopped = false → Map.get s.dev.pwr.ramp 0 q = op + 1 →
    (s.dev.now < Map.get s.dev.pwr.rampAt 0 q → exec (.opRampDone q) s = .next s) ∧
    (Map.get s.dev.pwr.rampAt 0 q ≤ s.dev.now →
      ∃ t, exec (.opRampDone q) s = .next t ∧ t.pending = s.pending ∧ t.sec = s.sec ∧ Map.get t.dev.pwr.ramp 0 q = 0 ∧
      t.dev.get (K.OP_NOW q) = max op (s.dev.get (K.OP_NOW q)) ∧ t.dev.get (K.V_SET_MV q) = t.dev.voltage q op ∧
      t.dev.cores = s.dev.cores ∧ t.dev.mem = s.dev.mem ∧ t.dev.parts = s.dev.parts ∧ t.dev.log = s.dev.log))) ∧
  (∀ (s : State) (q : Nat), q < 4 → s.stopped = false →
    (s.dev.flag (K.DROOP_GUARD q) = false → 16 * s.dev.get (K.FLOOR_MHZ q) ≤ 15 * opMHz (s.dev.get (K.OP_NOW q)) → q ∉ s.dev.pwr.droop →
      exec (.droopDetect q) s = .next (s.setDev (((s.dev.setPwr
        { s.dev.pwr with droop := s.dev.pwr.droop ++ [q], droopAt := Map.set s.dev.pwr.droopAt 0 q (s.dev.now + 63) }).cnt (K.DROOP_STEPS q) 1).put (K.FREQ_MHZ q) (opMHz (s.dev.get (K.OP_NOW q)) * 15 / 16)))) ∧
    (s.dev.flag (K.DROOP_GUARD q) = true ∨ 15 * opMHz (s.dev.get (K.OP_NOW q)) < 16 * s.dev.get (K.FLOOR_MHZ q) →
      exec (.droopDetect q) s = .next s) ∧
    (s.dev.now < Map.get s.dev.pwr.droopAt 0 q → exec (.droopRelease q) s = .next s) ∧
    (q ∉ s.dev.pwr.droop.erase q → Map.get s.dev.pwr.droopAt 0 q ≤ s.dev.now →
      exec (.droopRelease q) s = .next (s.setDev ((s.dev.setPwr { s.dev.pwr with droop := s.dev.pwr.droop.erase q }).put
        (K.FREQ_MHZ q) (opMHz (s.dev.get (K.OP_NOW q)))))) ∧
    (s.dev.get (K.TRIM_MV q) < 40 → Map.get s.dev.pwr.trimAt 0 q ≠ 0 → s.dev.now < Map.get s.dev.pwr.trimAt 0 q - 1 + 6250000 →
      exec (.slackShort q) s = .next s) ∧
    (s.dev.get (K.TRIM_MV q) < 40 → Map.get s.dev.pwr.trimAt 0 q = 0 ∨ Map.get s.dev.pwr.trimAt 0 q - 1 + 6250000 ≤ s.dev.now →
      ∃ t, exec (.slackShort q) s = .next t ∧ t.pending = s.pending ∧ t.sec = s.sec ∧
        Map.get t.dev.pwr.trimAt 0 q = s.dev.now + 1 ∧ t.dev.get (K.TRIM_MV q) = min 40 (s.dev.get (K.TRIM_MV q) + 5) ∧
        t.dev.get (K.V_SET_MV q) = t.dev.voltage q (s.dev.get (K.OP_NOW q)) ∧ t.dev.get (K.OP_MAX q) = s.dev.get (K.OP_MAX q)) ∧
    (40 ≤ s.dev.get (K.TRIM_MV q) →
      ∃ t, exec (.slackShort q) s = .next t ∧ t.pending = s.pending ∧ t.sec = s.sec ∧
        t.dev.get (K.TRIM_MV q) = s.dev.get (K.TRIM_MV q) ∧ t.dev.get (K.OP_MAX q) = s.dev.get (K.OP_MAX q) - 1))

/-- Entry (CORE_POWER_ENTRY, DOMAIN_POWER_ENTRY) begins where the depth is beyond the state: a core's with PWR_WAIT pending and its engines idle,
any other domain's without; at POWER_ENTRY_COMPLETE the domain has the state, a core's entries counted. A core keeps all in SLEEP and
its scratchpads in the next state, in DEEP the retention list's line-rows alone, in OFF nothing; with the device every core is OFF and empty.

A wake event during entry abandons it (POWER_ENTRY_ABANDON) at one of the state's abort points, which one is open (log entry 42): the domain
keeps its state. DOMAIN_WAKE from a state beyond the depth, and LANE_WAKE of a port that sleeps, start the return, which takes the time of
R443; at DOMAIN_RETURN_DONE a core serves again, from DEEP with the listed line-rows, and a quadrant's stacks are trained. -/
def Obligations.PowerDomains : Prop :=
  ((∀ (s : State) (c : Nat), c < 64 → s.stopped = false → s.dev.get (K.PWR_WAIT c) = 1 → s.dev.coreQuiet c = true →
    s.dev.get (K.DOM_STATE c) < s.dev.domDepth c → Map.get s.dev.pwr.waking 0 c = 0 →
    exec (.corePowerEntry c) s = .next (s.setDev ((s.dev.setPwr { s.dev.pwr with
      entering := Map.set s.dev.pwr.entering 0 c (s.dev.domDepth c + 1) }).put (K.PWR_WAIT c) 2))) ∧
  (∀ (s : State) (x : Nat), 64 ≤ x → x < 76 → s.stopped = false → s.dev.get (K.DOM_STATE x) < s.dev.domDepth x →
    Map.get s.dev.pwr.entering 0 x = 0 → Map.get s.dev.pwr.waking 0 x = 0 →
    exec (.domainPowerEntry x) s = .next (s.setDev (s.dev.setPwr { s.dev.pwr with
      entering := Map.set s.dev.pwr.entering 0 x (s.dev.domDepth x + 1) }))) ∧
  (∀ (s : State) (c st : Nat), c < 64 → s.stopped = false → Map.get s.dev.pwr.entering 0 c = st + 1 → c ∉ s.dev.pwr.wakeReq →
    ∃ t, exec (.powerEntryComplete c) s = .next t ∧ t.pending = s.pending ∧ t.sec = s.sec ∧ t.dev.get (K.DOM_STATE c) = st ∧
      t.dev.get (K.DOM_ENTRIES c) = addSat 64 (s.dev.get (K.DOM_ENTRIES c)) 1 ∧ Map.get t.dev.pwr.entering 0 c = 0 ∧
      t.dev.get (K.PWR_LAST c) = 1 ∧ t.dev.get (K.PWR_WAIT c) = 0 ∧ t.dev.mem = s.dev.mem ∧ t.dev.parts = s.dev.parts ∧
      (st = 1 → t.dev.core c = s.dev.core c) ∧ (st = 2 → (t.dev.core c).sp = (s.dev.core c).sp) ∧
      (st = 3 → ∀ m o, m < 4 → o < 0x100000 → (t.dev.core c).byte m o =
        if m * 256 + o / 4096 ∈ s.dev.retained c then (s.dev.core c).byte m o else 0) ∧
      (3 < st → t.dev.core c = Core.init)) ∧
  (∀ (s : State) (x st : Nat), 64 ≤ x → x < 77 → s.stopped = false → Map.get s.dev.pwr.entering 0 x = st + 1 →
    (68 ≤ x → x < 76 → 2 ≤ st → s.dev.portIdle (x - 68) = true) → (∀ l, 68 + l / 8 = x → s.dev.foreignLoad l) →
    ∃ t, exec (.powerEntryComplete x) s = .next t ∧ t.pending = s.pending ∧ t.sec = s.sec ∧ t.dev.get (K.DOM_STATE x) = st ∧
      Map.get t.dev.pwr.entering 0 x = 0 ∧ (x < 68 → t.dev.cores = s.dev.cores) ∧
      (x = 76 → (∀ c, t.dev.core c = Core.init) ∧
        ∀ c, c < 64 → bit (s.dev.get K.CORE_PRESENT) c = true → t.dev.get (K.DOM_STATE c) = 4))) ∧
  ((∀ (s : State) (x st : Nat), x < 77 → s.stopped = false → Map.get s.dev.pwr.entering 0 x = st + 1 → x ∈ s.dev.pwr.wakeReq →
    ∃ t, exec (.powerEntryAbandon x) s = .next t ∧ t.pending = s.pending ∧ t.sec = s.sec ∧ Map.get t.dev.pwr.entering 0 x = 0 ∧
      t.dev.get (K.DOM_STATE x) = s.dev.get (K.DOM_STATE x) ∧ t.dev.mem.cells = s.dev.mem.cells ∧ t.dev.parts = s.dev.parts ∧
      (x < 64 ∨ 68 ≤ x ∨ st < 3 → t.dev.mem = s.dev.mem) ∧
      (x < 64 → t.dev.get (K.PWR_WAIT x) = 0 ∧ t.dev.get (K.PWR_ABANDONED x) = addSat 32 (s.dev.get (K.PWR_ABANDONED x)) 1 ∧
        0x11 ≤ t.dev.get (K.PWR_LAST x) ∧ t.dev.get (K.PWR_LAST x) ≤ 0x10 + abortPoints x st ∧
        (t.dev.core x).sp = (s.dev.core x).sp)) ∧
  (∀ (s : State) (x : Nat), x < 76 → s.stopped = false → Map.get s.dev.pwr.entering 0 x = 0 → s.dev.get (K.DOM_STATE 76) ≠ 4 →
    s.dev.domDepth x < s.dev.get (K.DOM_STATE x) → Map.get s.dev.pwr.waking 0 x = 0 →
    exec (.domainWake x) s = .next (s.setDev ((s.dev.setPwr { s.dev.pwr with waking := Map.set s.dev.pwr.waking 0 x (s.dev.now + wakeTicks x (s.dev.get (K.DOM_STATE x))) }).put (K.DOM_LAST_WAKE x) s.dev.now))) ∧
  (∀ (s : State) (l x : Nat), l < 64 → x = 68 + l / 8 → s.stopped = false → s.dev.get (K.DOM_STATE x) ≠ 4 →
    s.dev.get (K.DOM_STATE 76) ≠ 4 → Map.get s.dev.pwr.entering 0 x = 0 → s.dev.get (K.DOM_STATE x) ≠ 0 →
    Map.get s.dev.pwr.waking 0 x = 0 →
    exec (.laneWake l) s = .next (s.setDev ((s.dev.setPwr { s.dev.pwr with waking := Map.set s.dev.pwr.waking 0 x (s.dev.now + wakeTicks x (s.dev.get (K.DOM_STATE x))) }).put (K.DOM_LAST_WAKE x) s.dev.now))) ∧
  (∀ (s : State) (c : Nat) (f : List (Nat × Nat)), c < 64 → s.stopped = false → Map.get s.dev.pwr.waking 0 c ≠ 0 →
    Map.get s.dev.pwr.waking 0 c ≤ s.dev.now →
    ∃ t, exec (.domainReturnDone c f) s = .next t ∧ t.pending = s.pending ∧ t.sec = s.sec ∧ t.dev.get (K.DOM_STATE c) = 0 ∧
      Map.get t.dev.pwr.waking 0 c = 0 ∧ (s.dev.get (K.DOM_STATE c) < 3 → t.dev.core c = s.dev.core c) ∧
      (s.dev.get (K.DOM_STATE c) = 3 → ∀ m o, m < 4 → o < 0x100000 → (t.dev.core c).byte m o =
        if m * 256 + o / 4096 ∈ s.dev.retained c then (s.dev.core c).byte m o else 0)) ∧
  (∀ (s : State) (q : Nat) (f : List (Nat × Nat)), q < 4 → s.stopped = false → Map.get s.dev.pwr.waking 0 (64 + q) ≠ 0 →
    Map.get s.dev.pwr.waking 0 (64 + q) ≤ s.dev.now → 3 ≤ s.dev.get (K.DOM_STATE (64 + q)) →
    ∃ t, exec (.domainReturnDone (64 + q) f) s = .next t ∧ t.pending = s.pending ∧ t.sec = s.sec ∧
      t.dev.get (K.DOM_STATE (64 + q)) = 0 ∧ (∀ i, i < 5 → t.dev.get (K.HBM_STATE (5 * q + i)) = 1) ∧ t.dev.cores = s.dev.cores))

/-- SCRUB_READ reads the next line-row of a scratchpad whose words bear no other error, no sooner than its interval after the last.
An uncorrectable word is poisoned, counted and shown; a corrected one is counted; a checksum that does not match clears its
granule's resident bit. No byte of a scratchpad changes; a clean row changes the scrubber's place alone.

PATROL_SCRUB of an owned channel's line: what is uncorrectable poisons the line and is counted, what the code or the stack's own corrected is
counted; no byte changes. A channel that no partition owns is not scrubbed. STAGE_CACHE_SCRUB: an uncorrectable word of a cached line or of
a line of an accumulation area poisons that line; no other finding changes anything. -/
def Obligations.Scrubbing : Prop :=
  (∀ (s : State) (c mem word row w : Nat), c < 64 → mem < 4 → s.stopped = false → bit (s.dev.get K.CORE_PRESENT) c = true →
    s.dev.flag (K.SCRUB_ENABLE c) = true → s.dev.get (K.DOM_STATE c) < 2 → s.dev.zeroising c = false →
    row = Map.get (s.dev.core c).scrubLine 0 mem → row < spSize mem / 4096 → w = 512 * row + word % 512 →
    (∀ f, s.dev.cyclesEnd (quadOf c) < Map.get (s.dev.core c).scrubAt 0 mem → exec (.scrubRead c mem word f) s = .next s) ∧
    (Map.get (s.dev.core c).scrubAt 0 mem ≤ s.dev.cyclesEnd (quadOf c) →
      (s.dev.core c).poison = [] → (s.dev.core c).flaw = [] → (s.dev.core c).crcOff = [] →
      (∀ f, ∃ t, exec (.scrubRead c mem word f) s = .next t ∧ t.pending = s.pending ∧ t.sec = s.sec ∧
        (t.dev.core c).sp = (s.dev.core c).sp ∧ t.dev.mem = s.dev.mem ∧
        Map.get (t.dev.core c).scrubLine 0 mem = (if row + 1 < spSize mem / 4096 then row + 1 else 0) ∧
        Map.get (t.dev.core c).scrubAt 0 mem =
          max (Map.get (s.dev.core c).scrubAt 0 mem) (s.dev.cycles (quadOf c)) + s.dev.get (K.SCRUB_INTERVAL c) ∧
        (f = .uncorrectable → (t.dev.core c).bad mem (8 * w) = true ∧
          t.dev.get (K.SP_UNCORR c) = addSat 64 (s.dev.get (K.SP_UNCORR c)) 1 ∧ t.dev.get (K.LAST_SYNDROME c) / 256 = spSyn mem 2 w 0 / 256) ∧
        (f = .corrected → t.dev.get (K.SP_CORRECTED c) = addSat 64 (s.dev.get (K.SP_CORRECTED c)) 1) ∧
        (f = .checksum → mem = 0 → Map.get (s.dev.core c).resident false (w / 256) = true →
          (s.dev.core c).reserved.contains (w / 256) = false →
          Map.get (t.dev.core c).resident false (w / 256) = false ∧
          t.dev.get (K.WM_CRC_FAIL c) = addSat 32 (s.dev.get (K.WM_CRC_FAIL c)) 1)) ∧
      (row + 1 < spSize mem / 4096 →
        ∃ t k, exec (.scrubRead c mem word .clean) s = .next t ∧ t.pending = s.pending ∧ t.sec = s.sec ∧
          t.dev = { s.dev with cores := t.dev.cores } ∧ (∀ x, x ≠ c → t.dev.core x = s.dev.core x) ∧
          t.dev.core c = { s.dev.core c with scrubLine := Map.set (s.dev.core c).scrubLine 0 mem (row + 1),
                                             scrubAt := Map.set (s.dev.core c).scrubAt 0 mem k }))) ∧
  ((∀ (s : State) (k line ln : Nat), k < 320 → s.stopped = false → s.dev.owner k < 16 → ln = k * chLines + line % chLines →
    ∀ f, ∃ t, exec (.patrolScrub k line f) s = .next t ∧ t.pending = s.pending ∧ t.sec = s.sec ∧ t.dev.cores = s.dev.cores ∧
      t.dev.mem.cells = s.dev.mem.cells ∧ t.dev.mem.acc = s.dev.mem.acc ∧ t.dev.mem.tags = s.dev.mem.tags ∧
      (f = .uncorrectable ∨ f = .parity ∨ f = .onDieUncorrectable → Map.get t.dev.mem.poison false ln = true ∧
        t.dev.get (K.HBM_UNCORR (k / 16)) = addSat 64 (s.dev.get (K.HBM_UNCORR (k / 16))) 1) ∧
      (f = .corrected → t.dev.get (K.HBM_CORRECTED (k / 16)) = addSat 64 (s.dev.get (K.HBM_CORRECTED (k / 16))) 1) ∧
      (f = .onDieCorrected → t.dev.get (K.HBM_ODECC (k / 16)) = addSat 64 (s.dev.get (K.HBM_ODECC (k / 16))) 1)) ∧
  (∀ (s : State) (k line : Nat) (f : Finding), k < 320 → s.stopped = false → 16 ≤ s.dev.owner k →
    exec (.patrolScrub k line f) s = .next s) ∧
  (∀ (s : State) (q line w : Nat), q < 4 → s.stopped = false → s.dev.cacheWay q line = some w →
    ∃ t, exec (.stageCacheScrub q line .uncorrectable) s = .next t ∧ t.pending = s.pending ∧ t.sec = s.sec ∧
      Map.get t.dev.mem.poison false line = true ∧ t.dev.mem.cells = s.dev.mem.cells ∧ t.dev.cores = s.dev.cores ∧
      Map.get t.dev.mem.tags CLine.none (q * 2 ^ 20 + setOf line * 16 + w) = CLine.none) ∧
  (∀ (s : State) (q n line : Nat), q < 4 → s.stopped = false → line = 320 * chLines + n → s.dev.cacheWay q line = none →
    n / 16384 < s.dev.get (K.SC_ACC_PAGES q) → s.dev.accLocking q = false →
    ∃ t, exec (.stageCacheScrub q line .uncorrectable) s = .next t ∧ t.pending = s.pending ∧ t.sec = s.sec ∧
      t.dev.mem = { s.dev.mem with accBad := Map.set s.dev.mem.accBad false (q * 65536 + n) true } ∧ t.dev.cores = s.dev.cores) ∧
  (∀ (s : State) (q line : Nat) (f : Finding), q < 4 → s.stopped = false → f ≠ .uncorrectable →
    exec (.stageCacheScrub q line f) s = .next s))

/-- A stack in service: HBM_REFRESH of a bank that has reached the threshold is its refresh-management command, which is counted; a refresh is
taken when its interval has passed and not before; HBM_TEMP_READ shows its temperature. TRACKER_ADMIT: the first request that waits for a
transaction tracker goes on once its class has room.

WAY_DRAINED: the way is empty, its dirty lines written back. ACC_AREA_LOCKED, with no record waiting: no line of the cache is left in the area's
ways; ACC_AREA_UNLOCKED ends its drain and its part of a release. CHANNEL_ZEROISED: the channel is free, reads as zeros and is readable, counted, its
part of every release ended; a channel that is not zeroising is left as it is. -/
def Obligations.StacksAndDrains : Prop :=
  ((∀ (s : State) (k : Nat), k < 20 → s.stopped = false → s.dev.get (K.HBM_STATE k) = 1 →
    (s.dev.rfmDue k = [] → exec (.hbmRefresh k true) s = .next s) ∧
    (∀ b r, s.dev.rfmDue k = b :: r → exec (.hbmRefresh k true) s = .next (s.setDev
      (({ s.dev with mem := { s.dev.mem with acts := Map.set s.dev.mem.acts 0 b 0 } } : Dev).cnt (K.HBM_RFM k) 1))) ∧
    (s.dev.now < Map.get s.dev.mem.refreshed 0 k + s.dev.refreshEvery k → exec (.hbmRefresh k false) s = .next s) ∧
    (Map.get s.dev.mem.refreshed 0 k + s.dev.refreshEvery k ≤ s.dev.now → exec (.hbmRefresh k false) s = .next (s.setDev
      { s.dev with mem := { s.dev.mem with refreshed := Map.set s.dev.mem.refreshed 0 k s.dev.now } })) ∧
    ∀ v, exec (.hbmTempRead k v) s = .next (s.setDev (s.dev.put (K.HBM_TEMP k) (v % 2 ^ 16)))) ∧
  (∀ (s : State) (q w : Nat) (r : List Nat), q < 4 → s.stopped = false → Map.get s.dev.mem.trkWait [] q = w :: r →
    s.dev.trkFull q (if w / 4096 ≤ 4 then s.dev.get (K.CORE_OWNER (w / 32 % 128)) else w % 32) = false →
    exec (.trackerAdmit q) s = .next (s.setDev { s.dev with mem := { s.dev.mem with trkWait := Map.set s.dev.mem.trkWait [] q r } }))) ∧
  ((∀ (s : State) (q w : Nat), q < 4 → w < 16 → s.stopped = false → (0, 16 * q + w) ∈ s.dev.mem.drain →
    ∃ t, exec (.wayDrained q w) s = .next t ∧ t.pending = s.pending ∧ t.sec = s.sec ∧ (0, 16 * q + w) ∉ t.dev.mem.drain ∧
      (∀ e, e ∈ t.dev.mem.tags ↔ e ∈ s.dev.mem.tags ∧ ¬(e.1 / 2 ^ 20 = q ∧ e.1 % 16 = w)) ∧
      (∀ n, n = s.dev.mem.tags.countP (fun e => e.1 / 2 ^ 20 == q && e.1 % 16 == w && e.2.dirty) →
        t.dev.get (K.SC_WRITEBACKS q) = if n = 0 then s.dev.get (K.SC_WRITEBACKS q) else addSat 64 (s.dev.get (K.SC_WRITEBACKS q)) n) ∧
      t.dev.mem.cells = s.dev.mem.cells ∧ t.dev.cores = s.dev.cores) ∧
  (∀ (s : State) (q : Nat), q < 4 → s.stopped = false → s.dev.accLocking q = true → s.dev.mem.recWait = [] →
    ∃ t, exec (.accAreaLocked q) s = .next t ∧ t.pending = s.pending ∧ t.sec = s.sec ∧ t.dev.accLocking q = false ∧
      (∀ e ∈ t.dev.mem.tags, e.1 / 2 ^ 20 = q → lockedUnit (s.dev.get (K.SC_ACC_PAGES q)) (e.2.line % 3) (e.1 % 16) = false) ∧
      t.dev.mem.cells = s.dev.mem.cells ∧ t.dev.mem.acc = s.dev.mem.acc) ∧
  (∀ (s : State) (q : Nat), q < 4 → s.stopped = false →
    ∃ t, exec (.accAreaUnlocked q) s = .next t ∧ t.pending = s.pending ∧ t.sec = s.sec ∧ t.dev.objs = s.dev.objs ∧
      t.dev.mem = { s.dev.mem with drain := s.dev.mem.drain.filter (fun e => !(e.1 == 2 && e.2 / 16 == q)) } ∧
      ∀ p, 2000 + q ∉ (t.dev.part p).releasing) ∧
  (∀ (s : State) (k : Nat), k < 320 → s.stopped = false → s.dev.owner k = 0xFD →
    ∃ t, exec (.channelZeroised k) s = .next t ∧ t.pending = s.pending ∧ t.sec = s.sec ∧ t.dev.owner k = 0xFF ∧
      t.dev.get (K.UP_ZEROISED (k / 16)) = addSat 64 (s.dev.get (K.UP_ZEROISED (k / 16))) 1 ∧
      (∀ x, Map.get t.dev.mem.cells 0 x = if x / chBytes = k then 0 else Map.get s.dev.mem.cells 0 x) ∧
      (∀ x, Map.get t.dev.mem.raw 0 x = if x / chBytes = k then 0 else Map.get s.dev.mem.raw 0 x) ∧
      (∀ x, x / chLines = k → Map.get t.dev.mem.poison false x = false) ∧ (∀ p, k ∉ (t.dev.part p).releasing) ∧
      t.dev.cores = s.dev.cores ∧ t.dev.mem.acc = s.dev.mem.acc) ∧
  (∀ (s : State) (k : Nat), k < 320 → s.stopped = false → s.dev.owner k ≠ 0xFD → exec (.channelZeroised k) s = .next s))

/-- PARTITION_CREATED: a partition in creation becomes active. PARTITION_RELEASED: a released one is gone, its key pair destroyed, once every
action of its release has completed, not before. STAIN_STOP: a stain, but for kind 7, whose STOP_TICK is reached is disarmed, not before.
PREEMPT_FORCE, at each PERIOD of its stain: every resident slot of its target is switched out, to be placed again; a switch under way
stays as it is; the stain counts. -/
def Obligations.PartitionEvents : Prop :=
  (∀ (s : State) (p : Nat), p < 16 → s.stopped = false →
    ((s.dev.part p).creating = true →
      exec (.partitionCreated p) s = .next (s.setDev ((s.dev.setPart p { s.dev.part p with creating := false }).put (K.PART_STATE p) 1))) ∧
    ((s.dev.part p).creating = false → exec (.partitionCreated p) s = .next s) ∧
    (s.dev.get (K.PART_STATE p) = 2 → (s.dev.part p).releasing = [] →
      exec (.partitionReleased p) s = .next (s.setDev ((s.dev.setPart p { s.dev.part p with keys := (0, 0) }).put (K.PART_STATE p) 0))) ∧
    ((s.dev.part p).releasing ≠ [] → exec (.partitionReleased p) s = .next s)) ∧
  (∀ (s : State) (k : Nat), k < 16 → s.stopped = false → s.dev.flag (K.STAIN_ARM k) = true →
    (s.dev.get (K.STAIN_STOP_TICK k) ≤ s.dev.now → s.dev.get (K.STAIN_KIND k) ≠ 7 →
      exec (.stainStop k) s = .next (s.setDev (s.dev.put (K.STAIN_ARM k) 0))) ∧
    (s.dev.now < s.dev.get (K.STAIN_STOP_TICK k) → exec (.stainStop k) s = .next s)) ∧
  (∀ (s : State) (k p : Nat), k < 16 → s.stopped = false → s.dev.stainActs k 8 = true → p = s.dev.get (K.STAIN_PARTITION k) → p < 16 →
    (s.dev.now - s.dev.get (K.STAIN_START_TICK k)) % max 1 (s.dev.get (K.STAIN_PERIOD k)) = 0 →
    ∃ t, exec (.preemptForce k) s = .next t ∧ t.pending = s.pending ∧ t.sec = s.sec ∧
      t.dev.get (K.STAIN_APPLIED k) = addSat 64 (s.dev.get (K.STAIN_APPLIED k)) 1 ∧
      (∀ c n, (c, n) ∈ s.dev.slotCores p → s.dev.swOf c = none → t.dev.swOf c = some
        { out := some (p, n), inn := none, back := true, req := s.dev.now, started := false, saved := false, link := 0 }) ∧
      (∀ c, s.dev.swOf c ≠ none → t.dev.swOf c = s.dev.swOf c) ∧ t.dev.cores = s.dev.cores ∧ t.dev.mem = s.dev.mem)

/-- SCAN_START: one core at a time, with a verified pattern set, on a core that is free, fenced or held back from release. SCAN_COMPLETE, 230 ms
after and with no best-effort partition waiting: the result stands, the core is zeroised and free, a failed one is fenced. SCAN_PERIOD_EXPIRE
queues a scan of every usable core that is not being scanned. SCAN_ABANDON: a placement that needs the core ends the scan and
queues it again.

INTERLOCK_STOP with passes in flight ends them, stops the array and notes the syndrome and the candidate event with its reproduction; a scan
is queued; a core that had a reproduction before is fenced (stated of one that no partition holds). -/
def Obligations.ScansAndStops : Prop :=
  ((∀ (s : State) (c : Nat), c < 64 → s.stopped = false → c ∈ s.dev.scanQ → s.dev.flag K.PATTERN_OK = true →
    (List.range 64).any s.dev.scanning = false → s.dev.swOf c = none →
    s.dev.coreState c = 1 ∨ s.dev.coreState c = 3 ∨ c ∈ s.dev.scanHold →
    exec (.scanStart c) s = .next (s.setDev (((({ s.dev with scanQ := s.dev.scanQ.erase c, scanAt := s.dev.now } : Dev).put
      (K.SCAN_STATE c) 2).put (K.CORE_OWNER c) 0xFE).put (K.DOM_STATE c) 0))) ∧
  (∀ (s : State) (c : Nat), c < 64 → s.stopped = false → s.dev.flag K.PATTERN_OK = false ∨ c ∉ s.dev.scanQ ∨
    (List.range 64).any s.dev.scanning = true → exec (.scanStart c) s = .next s) ∧
  (∀ (s : State) (c : Nat) (ok : Bool), c < 64 → s.stopped = false → s.dev.scanning c = true → s.dev.scanAt + 14375000 ≤ s.dev.now →
    (∀ p, p < 16 → s.dev.beWaits p = false) → bit (s.dev.get K.CORE_PRESENT) c = true → s.dev.swOf c = none →
    s.dev.get (K.CORE_OWNER c) = 0xFE →
    ∃ t, exec (.scanComplete c ok) s = .next t ∧ t.pending = s.pending ∧ t.sec = s.sec ∧
      t.dev.get (K.SCAN_STATE c) = (if ok then 3 else 4) ∧ t.dev.get (K.SCAN_LAST c) = s.dev.now ∧
      t.dev.get (K.SCANS c) = addSat 64 (s.dev.get (K.SCANS c)) 1 ∧ t.dev.get (K.CORE_OWNER c) = 0xFF ∧
      (∀ m o, (t.dev.core c).byte m o = 0) ∧
      (ok = false → bit (t.dev.get K.FENCE_MASK) c = true ∧ t.dev.get (K.DOM_STATE c) = 4) ∧
      (ok = true → t.dev.get K.FENCE_MASK = s.dev.get K.FENCE_MASK)) ∧
  (∀ (s : State) (c : Nat) (w : Switch), c < 64 → s.stopped = false → s.dev.scanning c = true → s.dev.swOf c = some w → w.inn ≠ none →
    ∃ t, exec (.scanAbandon c) s = .next t ∧ t.pending = s.pending ∧ t.sec = s.sec ∧ t.dev.get (K.SCAN_STATE c) = 5 ∧
      t.dev.scanQ = s.dev.scanQ ++ [c] ∧ t.dev.get (K.CORE_OWNER c) = 0xFF ∧ t.dev.swOf c = some w ∧
      (∀ m o, (t.dev.core c).byte m o = 0)) ∧
  (∀ s : State, s.stopped = false → s.dev.get K.SCAN_PERIOD ≠ 0 → s.dev.scanFrom + 62500000 * s.dev.get K.SCAN_PERIOD ≤ s.dev.now →
    ∃ t, exec .scanPeriodExpire s = .next t ∧ t.pending = s.pending ∧ t.sec = s.sec ∧ t.dev.scanFrom = s.dev.now ∧
      (∀ c, c < 64 → s.dev.coreUsable c = true → s.dev.scanning c = false → c ∈ t.dev.scanQ) ∧
      t.dev.cores = s.dev.cores ∧ t.dev.mem = s.dev.mem)) ∧
  (∀ (s : State) (c syn : Nat), c < 64 → s.stopped = false → 1 ≤ syn → syn ≤ 5 → (s.dev.core c).passes ≠ [] →
    (s.dev.get (K.REPRO_COUNT c) = 0 →
      ∃ t, exec (.interlockStop c syn) s = .next t ∧ t.pending = s.pending ∧ t.sec = s.sec ∧ (t.dev.core c).passes = [] ∧
        (t.dev.core c).mxStop = true ∧ t.dev.get (K.MXA_LAST_SYNDROME c) = syn ∧ t.dev.get (K.REPRO_COUNT c) = 1 ∧
        t.dev.get (K.CAND_TICK c) = s.dev.now ∧ (s.dev.scanning c = false → c ∈ t.dev.scanQ)) ∧
    (1 ≤ s.dev.get (K.REPRO_COUNT c) → s.dev.get (K.REPRO_COUNT c) < 255 → s.dev.get (K.CORE_OWNER c) = 0xFF → s.dev.swOf c = none →
      bit (s.dev.get K.CORE_PRESENT) c = true → bit (s.dev.get K.FENCE_MASK) c = false → s.dev.scanning c = false →
      ∃ t, exec (.interlockStop c syn) s = .next t ∧ t.pending = s.pending ∧ t.sec = s.sec ∧ (t.dev.core c).passes = [] ∧
        t.dev.get (K.MXA_LAST_SYNDROME c) = syn ∧ bit (t.dev.get K.FENCE_MASK) c = true ∧ t.dev.get (K.DOM_STATE c) = 4 ∧
        c ∈ t.dev.scanQ))

/-- SWITCH_REQUEST: the engines of the leaving slot stop, and unless it still waits for another device its image is saved and the core
emptied; with the array and the vector engine empty the image's scratchpads are the core's. SW_LINK_LIMIT_EXPIRE: what is unanswered is
abandoned and the image saved all the same.

SWITCH_DONE, once the image is saved and not before: the core takes the coming slot with the scratchpads of its image; without one it is
zeroised and free. PART_SWITCHES counts, and the measures of R429 are kept.

BE_ADMISSION: a best-effort partition of one slot that finds a free core, the first in rotation that does, is admitted; one that does not wait is
not. QUANTUM_EXPIRE: where no partition waits it is only noted; where another waits for those cores, every slot of it is switched out. -/
def Obligations.Switches : Prop :=
  ((∀ (s : State) (c p n : Nat) (w : Switch), c < 64 → p < 16 → n < 64 → s.stopped = false → s.dev.swOf c = some w → w.started = false →
    w.saved = false → w.out = some (p, n) →
    ∃ t w', exec (.switchRequest c) s = .next t ∧ t.pending = s.pending ∧ t.sec = s.sec ∧ t.dev.swOf c = some w' ∧
      w'.started = true ∧ w'.req = s.dev.now ∧ w'.out = w.out ∧ w'.inn = w.inn ∧
      (s.dev.refsOut c = true → w'.saved = false) ∧
      (s.dev.refsOut c = false → w'.saved = true ∧ t.dev.core c = Core.init ∧ t.dev.get (K.CORE_SLOT c) = 0xFF ∧
        t.dev.get (K.SLOT_CORE p n) = 0xFE ∧
        ((s.dev.core c).passes = [] → (s.dev.core c).vx = none → s.dev.flag (K.FORERUNNER_COMPAT p) = false →
          (Map.get (t.dev.part p).images Image.init n).core.sp = (s.dev.core c).sp))) ∧
  (∀ (s : State) (c p n : Nat) (w : Switch), c < 64 → p < 16 → n < 64 → s.stopped = false → s.dev.swOf c = some w → w.started = true →
    w.saved = false → w.out = some (p, n) → w.req + s.dev.get (K.SW_LINK_LIMIT p) ≤ s.dev.now →
    ∃ t w', exec (.swLinkLimitExpire c) s = .next t ∧ t.pending = s.pending ∧ t.sec = s.sec ∧ t.dev.swOf c = some w' ∧
      w'.saved = true ∧ t.dev.core c = Core.init ∧ t.dev.get (K.SLOT_CORE p n) = 0xFE)) ∧
  ((∀ (s : State) (c p n : Nat) (w : Switch), c < 64 → p < 16 → n < 64 → s.stopped = false → s.dev.swOf c = some w → w.saved = true →
    s.dev.scanning c = false → w.inn = some (p, n) → w.out = none → s.dev.flag (K.FORERUNNER_COMPAT p) = false →
    ∃ t, exec (.switchDone c) s = .next t ∧ t.pending = s.pending ∧ t.sec = s.sec ∧ t.dev.swOf c = none ∧
      t.dev.get (K.CORE_OWNER c) = p ∧ t.dev.get (K.CORE_SLOT c) = n ∧ t.dev.get (K.SLOT_CORE p n) = c ∧
      t.dev.get (K.PART_SWITCHES p) = addSat 64 (s.dev.get (K.PART_SWITCHES p)) 1 ∧
      (t.dev.core c).sp = (Map.get (s.dev.part p).images Image.init n).core.sp) ∧
  (∀ (s : State) (c p n : Nat) (w : Switch), c < 64 → p < 16 → n < 64 → s.stopped = false → s.dev.swOf c = some w → w.saved = true →
    s.dev.scanning c = false → w.inn = none → w.back = false → w.out = some (p, n) → (∀ q, q < 16 → s.dev.beWaits q = false) →
    (∀ q, q < 16 → s.dev.get (K.CORE_OWNER c) = q → s.dev.get (K.CORE_SLOT c) = 0xFF) →
    ∃ t, exec (.switchDone c) s = .next t ∧ t.pending = s.pending ∧ t.sec = s.sec ∧ t.dev.swOf c = none ∧
      t.dev.get (K.CORE_OWNER c) = 0xFF ∧ (∀ m o, (t.dev.core c).byte m o = 0) ∧
      t.dev.get (K.PART_SWITCHES p) = addSat 64 (s.dev.get (K.PART_SWITCHES p)) 1 ∧
      t.dev.get (K.LAST_SWITCH p) = min (s.dev.now - w.req) (2 ^ 32 - 1) ∧ t.dev.get (K.LAST_LINK_WAIT p) = w.link) ∧
  (∀ (s : State) (c : Nat) (w : Switch), c < 64 → s.stopped = false → s.dev.swOf c = some w → w.started = false → w.saved = false →
    exec (.switchDone c) s = .next s)) ∧
  ((∀ (s : State) (p : Nat), p < 16 → s.stopped = false → s.dev.beWaits p = true → s.dev.fits p [] = true →
    s.dev.rotation.find? (fun q => s.dev.beWaits q && s.dev.fits q []) = some p → (s.dev.sched p).slots = 1 →
    s.dev.flag (K.FORERUNNER_COMPAT p) = false →
    ∃ t c, exec (.beAdmission p) s = .next t ∧ t.pending = s.pending ∧ t.sec = s.sec ∧ c ∈ s.dev.maskCores p ∧ s.dev.coreState c = 1 ∧
      t.dev.get (K.CORE_OWNER c) = p ∧ t.dev.get (K.CORE_SLOT c) = 0 ∧ t.dev.get (K.SLOT_CORE p 0) = c ∧ t.dev.lastBe = p) ∧
  (∀ (s : State) (p : Nat), p < 16 → s.stopped = false → s.dev.beWaits p = false → exec (.beAdmission p) s = .next s) ∧
  (∀ (s : State) (p : Nat), p < 16 → s.stopped = false → s.dev.get (K.PART_CLASS p) = 1 → s.dev.allResident p = true →
    s.dev.slotCores p ≠ [] → (s.dev.part p).admitted + s.dev.get K.BE_QUANTUM ≤ s.dev.now →
    ((∀ q, q < 16 → s.dev.beWaits q = false) →
      exec (.quantumExpire p) s = .next (s.setDev (s.dev.setPart p { s.dev.part p with quantumUp := true }))) ∧
    (∀ q, q < 16 → q ≠ p → s.dev.beWaits q = true → s.dev.fits q [] = false → s.dev.fits q ((s.dev.slotCores p).map Prod.fst) = true →
      ∃ t, exec (.quantumExpire p) s = .next t ∧ t.pending = s.pending ∧ t.sec = s.sec ∧ (t.dev.part p).quantumUp = true ∧
        ∀ c n, (c, n) ∈ s.dev.slotCores p → ∃ w, t.dev.swOf c = some w)))

/-! ## Links -/

/-- LINK_TRAIN: a link that is enabled, DOWN, and whose port serves begins to train; once 64 groups in a row have matched it negotiates; from STANDBY it
comes back UP. TRAINING_TIMEOUT, after 10 ms, starts it again; after three restarts in a row it is FAILED, and FAILED_RETRY lets it try again after
a second and not before.

Standby of a link that is UP. STANDBY_START: one whose port sleeps asks; STANDBY_REQ is acknowledged with nothing in flight, waits while
something is, and is refused while there are messages; STANDBY_ACK in time begins the sixteen closing slots; STANDBY_NAK leaves the link UP.

LINK_FAIL of a link that is UP: FAILED, counted, what was queued on it gone. ACK_DEADLINE_EXPIRE replays from the
oldest flit until REPLAY_LIMIT; FRAMING_RETRAIN, at four groups in a row without their framing, fails a link that is UP and starts a training
again; ROUTE_RETURN gives the routes back a millisecond after the link. -/
def Obligations.LinkStates : Prop :=
  (∀ (s : State) (l : Nat), l < 64 → s.stopped = false →
    (s.dev.portOn l = true → s.dev.flag (K.LNK_ENABLE l) = true → s.dev.recovery = false →
      (s.dev.get (K.LNK_STATE l) = 0 →
        exec (.linkTrain l) s = .next (s.setDev ((s.dev.setLink l { s.dev.link l with
          trainAt := s.dev.now, neg := none, chosen := 0, sentAcc := false, gotAcc := false, offered := none, offerAt := 0,
          rxCount := none, rxSlot := 0, goodGroups := 0, badGroups := 0 }).put (K.LNK_STATE l) 1))) ∧
      (s.dev.get (K.LNK_STATE l) = 1 → (s.dev.link l).goodGroups < 64 → exec (.linkTrain l) s = .next s) ∧
      (s.dev.get (K.LNK_STATE l) = 2 ∨ s.dev.get (K.LNK_STATE l) = 3 ∨ 5 ≤ s.dev.get (K.LNK_STATE l) →
        exec (.linkTrain l) s = .next s) ∧
      (s.dev.get (K.LNK_STATE l) = 1 → 64 ≤ (s.dev.link l).goodGroups → s.dev.flag K.NUM_ASSIGNED = true ∨ s.dev.get K.CFG_NUMBER = 0xFFFF →
        exec (.linkTrain l) s = .next (s.setDev (s.dev.put (K.LNK_STATE l) 2))) ∧
      (s.dev.get (K.LNK_STATE l) = 1 → 64 ≤ (s.dev.link l).goodGroups → s.dev.flag K.NUM_ASSIGNED = false → s.dev.get K.CFG_NUMBER ≠ 0xFFFF →
        exec (.linkTrain l) s = .next (s.setDev (((s.dev.put K.DEVICE_NUMBER (s.dev.get K.CFG_NUMBER)).put K.NUM_ASSIGNED 1).put
          (K.LNK_STATE l) 2))) ∧
      (∀ n, s.dev.get (K.LNK_STATE l) = 4 → (s.dev.link l).offered = some n →
        ∃ t, exec (.linkTrain l) s = .next t ∧ t.pending = s.pending ∧ t.sec = s.sec ∧ t.dev.get (K.LNK_STATE l) = 3 ∧
          (t.dev.link l).seq = 0 ∧ (t.dev.link l).ack = 4095 ∧ (t.dev.link l).buf = []) ∧
      (s.dev.get (K.LNK_STATE l) = 5 → (s.dev.link l).trainAt + 62500000 ≤ s.dev.now →
        ∃ t, exec (.failedRetry l) s = .next t ∧ t.pending = s.pending ∧ t.sec = s.sec ∧ t.dev.get (K.LNK_STATE l) = 1 ∧
          (t.dev.link l).trainAt = s.dev.now) ∧
      (s.dev.now < (s.dev.link l).trainAt + 62500000 → exec (.failedRetry l) s = .next s)) ∧
    (s.dev.flag (K.LNK_ENABLE l) = false ∨ s.dev.portOn l = false → exec (.linkTrain l) s = .next s) ∧
    (s.dev.get (K.LNK_STATE l) = 1 ∨ s.dev.get (K.LNK_STATE l) = 2 → (s.dev.link l).trainAt + 625000 ≤ s.dev.now →
      s.dev.foreignLoad l →
      ∃ t, exec (.trainingTimeout l) s = .next t ∧ t.pending = s.pending ∧ t.sec = s.sec ∧
        t.dev.get (K.NEG_RESTARTS l) = addSat 32 (s.dev.get (K.NEG_RESTARTS l)) 1 ∧
        t.dev.get (K.LNK_STATE l) = (if 2 ≤ (s.dev.link l).restarts then 5 else 1) ∧
        t.dev.get (K.FAILURES l) = (if 2 ≤ (s.dev.link l).restarts then addSat 32 (s.dev.get (K.FAILURES l)) 1 else s.dev.get (K.FAILURES l))) ∧
    (s.dev.now < (s.dev.link l).trainAt + 625000 → exec (.trainingTimeout l) s = .next s)) ∧
  (∀ (s : State) (l : Nat), l < 64 → s.stopped = false → s.dev.get (K.LNK_STATE l) = 3 →
    (s.dev.timePath l = false → s.dev.portSleeps l = true → (s.dev.link l).buf = [] → (s.dev.link l).queued = false →
      (s.dev.link l).standby ≤ 1 → (s.dev.link l).sbTick = 0 →
      exec (.standbyStart l) s = .next (s.setDev (s.dev.setLink l { s.dev.link l with
        ctl := (s.dev.link l).ctl ++ [1], standby := 1, sbTick := s.dev.now + 1 }))) ∧
    (∀ (f : Flit) (d : Dev), s.dev.controlIn l f = (true, d) →
      ((d.link l).queued = true ∨ d.timePath l = true ∨ d.get (K.DOM_STATE (68 + l / 8)) = 0 →
        exec (.standbyReq ⟨l, f⟩) s = .next (s.setDev (d.setLink l { d.link l with ctl := (d.link l).ctl ++ [3] }))) ∧
      ((d.link l).queued = false → d.timePath l = false → d.get (K.DOM_STATE (68 + l / 8)) ≠ 0 → (d.link l).buf = [] →
        exec (.standbyReq ⟨l, f⟩) s = .next (s.setDev (d.setLink l { d.link l with
          ctl := (d.link l).ctl ++ [2], standby := 2, sbSlots := 16 }))) ∧
      ((d.link l).queued = false → d.timePath l = false → d.get (K.DOM_STATE (68 + l / 8)) ≠ 0 → (d.link l).buf ≠ [] →
        exec (.standbyReq ⟨l, f⟩) s = .next (s.setDev (d.setLink l { d.link l with standby := 4 }))) ∧
      ((d.link l).standby = 1 → d.now ≤ (d.link l).sbTick - 1 + 125 → (d.link l).queued = false →
        exec (.standbyAck ⟨l, f⟩) s = .next (s.setDev (d.setLink l { d.link l with standby := 2, sbSlots := 16 }))) ∧
      ((d.link l).standby ≠ 1 ∨ (d.link l).sbTick - 1 + 125 < d.now ∨ (d.link l).queued = true →
        exec (.standbyAck ⟨l, f⟩) s = .next (s.setDev d)) ∧
      ((d.link l).standby = 1 → exec (.standbyNak ⟨l, f⟩) s = .next (s.setDev (d.setLink l { d.link l with standby := 0 }))) ∧
      ((d.link l).standby ≠ 1 → exec (.standbyNak ⟨l, f⟩) s = .next (s.setDev d)))) ∧
  (∀ (s : State) (l : Nat), l < 64 → s.stopped = false →
    (∀ r, s.dev.get (K.LNK_STATE l) = 3 → s.dev.foreignLoad l →
      r = 3 ∨ (r = 4 ∧ 4 ≤ (s.dev.link l).badGroups) ∨ (r = 2 ∧ (s.dev.link l).lastRx + 125 ≤ s.dev.now) ∨ (r = 1 ∧ s.dev.replayDead (s.dev.link l) = true) →
      ∃ t, exec (.linkFail l r) s = .next t ∧ t.pending = s.pending ∧ t.sec = s.sec ∧ t.dev.get (K.LNK_STATE l) = 5 ∧
        t.dev.get (K.FAILURES l) = addSat 32 (s.dev.get (K.FAILURES l)) 1 ∧ (t.dev.link l).buf = [] ∧ (t.dev.link l).txq = [] ∧
        (t.dev.link l).away = true) ∧
    (s.dev.now < (s.dev.link l).lastRx + 125 → exec (.linkFail l 2) s = .next s) ∧
    ((s.dev.link l).badGroups < 4 → exec (.framingRetrain l) s = .next s ∧ exec (.linkFail l 4) s = .next s) ∧
    (s.dev.get (K.LNK_STATE l) = 3 → 4 ≤ (s.dev.link l).badGroups → s.dev.foreignLoad l → ∃ t, exec (.framingRetrain l) s = .next t ∧ t.pending = s.pending ∧ t.sec = s.sec ∧
      t.dev.get (K.LNK_STATE l) = 5) ∧
    (s.dev.get (K.LNK_STATE l) = 2 → 4 ≤ (s.dev.link l).badGroups →
      exec (.framingRetrain l) s = .next (s.setDev ((s.dev.setLink l { s.dev.link l with
        offered := none, sentAcc := false, gotAcc := false, neg := none, rxCount := none, goodGroups := 0, badGroups := 0 }).put
        (K.LNK_STATE l) 1))) ∧
    (s.dev.get (K.LNK_STATE l) = 3 → (∃ f ∈ (s.dev.link l).buf, f.last + 125 ≤ s.dev.now) → s.dev.replayDead (s.dev.link l) = false →
      exec (.ackDeadlineExpire l) s = .next (s.setDev (s.dev.setLink l { s.dev.link l with replay := some 0 }))) ∧
    (s.dev.get (K.LNK_STATE l) = 3 → (∃ f ∈ (s.dev.link l).buf, f.last + 125 ≤ s.dev.now ∧ s.dev.get K.REPLAY_LIMIT ≤ f.tries) → s.dev.foreignLoad l →
      ∃ t, exec (.ackDeadlineExpire l) s = .next t ∧ t.pending = s.pending ∧ t.sec = s.sec ∧ t.dev.get (K.LNK_STATE l) = 5) ∧
    (s.dev.get (K.LNK_STATE l) = 3 → (s.dev.link l).away = true → (s.dev.link l).upAt + 62500 ≤ s.dev.now →
      exec (.routeReturn l) s = .next (s.setDev ((s.dev.setLink l { s.dev.link l with away := false }).linkRecord l 4 0 0))))

/-- Negotiation, with NEGOTIATE flits whose group and codeword are whole. OFFER_SEND, once a microsecond and not more often, sends OFFER until
the peer's is accepted, then ACCEPT. OFFER is refused for its version, an own DEVICE_ID, the role and the number, in this order, else
ACCEPT answers it; ACCEPT with the version chosen on both sides brings the link UP with the peer's credits, and the number that a host assigns is
taken; a REFUSE sent or received is a failure. -/
def Obligations.LinkNegotiates : Prop :=
  ∀ (s : State) (l : Nat) (n : Nego) (b : Dev), l < 64 → s.stopped = false → s.dev.get (K.LNK_STATE l) = 2 → s.dev.negoIn l = (false, b) →
    ((s.dev.link l).offerAt ≠ 0 → 2 * s.dev.now < 2 * ((s.dev.link l).offerAt - 1) + 125 → exec (.offerSend l) s = .next s) ∧
    ((s.dev.link l).offerAt = 0 ∨ 2 * ((s.dev.link l).offerAt - 1) + 125 ≤ 2 * s.dev.now → ∃ t f, exec (.offerSend l) s = .next t ∧ t.pending = s.pending ∧ t.sec = s.sec ∧ (t.dev.link l).out = some f ∧ f.ftype = 4 ∧
      f.crc = flitSum f ∧ t.dev.get (K.LNK_STATE l) = 2 ∧
      f.payload = (if (s.dev.link l).sentAcc then negoBytes (s.dev.negoOf 0 (s.dev.link l).chosen) 2 else negoBytes (s.dev.negoOf 0 0) 1)) ∧
    (max n.verMin (s.dev.get K.LINK_VER_MIN) ≤ min n.verMax (s.dev.get K.LINK_VER_MAX) → n.deviceId ≠ s.dev.get K.DEVICE_ID →
      n.role = s.dev.get (K.LNK_MODE l) → s.dev.assignClash n = false →
      ∃ t f, exec (.offer l n) s = .next t ∧ t.pending = s.pending ∧ t.sec = s.sec ∧ (t.dev.link l).sentAcc = true ∧
        (t.dev.link l).chosen = min n.verMax (s.dev.get K.LINK_VER_MAX) ∧ (t.dev.link l).offered = some n ∧
        (t.dev.link l).out = some f ∧ f.ftype = 4 ∧
        f.payload = negoBytes (s.dev.negoOf 0 (min n.verMax (s.dev.get K.LINK_VER_MAX))) 2 ∧ t.dev.get (K.LNK_STATE l) = 2) ∧
    (∀ r, r = (if min n.verMax (s.dev.get K.LINK_VER_MAX) < max n.verMin (s.dev.get K.LINK_VER_MIN) then 1
        else if n.deviceId = s.dev.get K.DEVICE_ID then 4 else if n.role ≠ s.dev.get (K.LNK_MODE l) then 3
        else if s.dev.assignClash n then 2 else 0) → r ≠ 0 → s.dev.foreignLoad l →
      ∃ t f, exec (.offer l n) s = .next t ∧ t.pending = s.pending ∧ t.sec = s.sec ∧ (t.dev.link l).out = some f ∧ f.ftype = 4 ∧
        f.payload = negoBytes (s.dev.negoOf r 0) 3 ∧ t.dev.get (K.LNK_STATE l) = 5 ∧
        t.dev.get (K.FAILURES l) = addSat 32 (s.dev.get (K.FAILURES l)) 1) ∧
    ((s.dev.link l).offered ≠ none → n.chosen = (s.dev.link l).chosen → s.dev.assignClash n = false →
      ∃ t, exec (.accept l n) s = .next t ∧ t.pending = s.pending ∧ t.sec = s.sec ∧ t.dev.get (K.LNK_STATE l) = 3 ∧
        t.dev.get (K.LNK_VERSION l) = n.chosen ∧ t.dev.get (K.LNK_PEER_GEN l) = n.generation ∧ (t.dev.link l).seq = 0 ∧
        (t.dev.link l).ack = 4095 ∧ Map.get (t.dev.link l).cred 0 0 = n.credVc0 ∧ Map.get (t.dev.link l).cred 0 2 = n.credVc2 ∧
        Map.get (t.dev.link l).cred 0 3 = n.credVc3 ∧ Map.get (t.dev.link l).cred 0 4 = n.credVc4 ∧ (t.dev.link l).mask = n.vcmask ∧
        (n.role = 2 → n.assign ≠ 0xFFFF → s.dev.flag K.NUM_ASSIGNED = false → s.dev.get K.CFG_NUMBER = 0xFFFF → s.dev.recovery = false →
          t.dev.get K.DEVICE_NUMBER = n.assign % 4096 ∧ t.dev.flag K.NUM_ASSIGNED = true)) ∧
    (s.dev.foreignLoad l → ∃ t, exec (.refuse l n) s = .next t ∧ t.pending = s.pending ∧ t.sec = s.sec ∧ t.dev.get (K.LNK_STATE l) = 5 ∧
      t.dev.get (K.FAILURES l) = addSat 32 (s.dev.get (K.FAILURES l)) 1)

/-- The line coding. A group's framing bits are the constant and its counter; the 257-bit blocks of a codeword's message are those of its
twenty places; a codeword is its message with 30 symbols of parity behind it. Each codeword has 136 symbols on every lane; a burst of
`n` consecutive symbols of one lane reaches no codeword more often than n / 4, rounded up; what the lanes carry gives the codewords
back. The tenth flit of a group completes it: the group's counter has counted on.

Receipt. A flit in which nothing is found is not discarded, and ten of them in a row from a group's start are one more good group. A group
whose framing does not match is discarded whole, and a flit in which a codeword begins that could not be corrected is discarded. -/
def Obligations.LineCoding : Prop :=
  (∀ c, framing c % 2 ^ 32 = 0x5C3A96F1 ∧ framing c / 2 ^ 32 = c % 2 ^ 48) ∧
  (∀ (c : Nat) (fl : List (List Nat)) (j i : Nat), (∀ f ∈ fl, ∀ b ∈ f, b < 256) → i < 20 →
    groupMessage c fl j / 2 ^ (257 * i) % 2 ^ 257 = block c fl (20 * j + i)) ∧
  (∀ m : List Nat, (codeword m).length = m.length + 30 ∧ (codeword m).take m.length = m) ∧
  (∀ l j, l < 4 → j < 4 → (List.range 544).countP (fun p => laneWord l p == j) = 136) ∧
  (∀ l p n j, l < 4 → (List.range n).countP (fun i => laneWord l (p + i) == j) ≤ ceilDiv n 4) ∧
  (∀ (ws : List (List Nat)) (j : Nat) (w : List Nat), j < 4 → ws[j]? = some w → w.length = 544 → wordFromLanes (laneSymbols ws) j = w) ∧
  (∀ (k : Link) (f : Flit),
    (k.txGrp.length < 9 → k.putFlit f = { k with txGrp := k.txGrp ++ [f] }) ∧
    (k.txGrp.length = 9 → (k.putFlit f).txGrp = [] ∧ (k.putFlit f).txCount = (k.txCount + 1) % 2 ^ 48 ∧
      ∀ j w, (groupWords k.txCount ((k.txGrp ++ [f]).map flitBytes))[j]? = some w → wordFromLanes (k.putFlit f).lanes j = w)) ∧
  (∀ (k : Link) (up : Bool), k.rxCount.getD 0 < 2 ^ 48 →
    (k.rxSlot = 0 → (k.arrive up k.cleanFec).1 = false ∧ (k.arrive up k.cleanFec).2.grpBad = false) ∧
    (∀ e : Fec, k.rxSlot = 0 → e.uncorrectable = false → k.framed e.frame = true →
      ((List.range 10).foldl (fun (x : Link) _ => (x.arrive up e).2) k).goodGroups = k.goodGroups + 1 ∧
      ((List.range 10).foldl (fun (x : Link) _ => (x.arrive up e).2) k).badGroups = 0 ∧
      ((List.range 10).foldl (fun (x : Link) _ => (x.arrive up e).2) k).rxSlot = 0) ∧
    (∀ e : Fec, k.rxSlot = 0 → k.framed e.frame = false → (k.arrive up e).1 = true ∧ (k.arrive up e).2.grpBad = true) ∧
    (∀ e : Fec, k.rxSlot ≠ 0 → k.grpBad = true → (k.arrive up e).1 = true) ∧
    (∀ e : Fec, k.wordStarts = true → e.uncorrectable = true → (k.arrive up e).1 = true ∧ (k.arrive up e).2.cwBad = true))

/-- FLIT_SLOT of a link that is UP. With nothing to send it is a NULL; a ready VC2 message of one flit, with no mark and no VC0 message before it, goes
out numbered, takes a credit and stays in the replay buffer; a replay goes before everything and counts; the NULL and the message carry their CRC. -/
def Obligations.FlitsSent : Prop :=
  ∀ (s : State) (l : Nat), l < 64 → s.stopped = false → s.dev.get (K.LNK_STATE l) = 3 →
    ((s.dev.link l).replay = none → (s.dev.link l).markOut = none → (s.dev.link l).ctl = [] → (s.dev.link l).standby = 0 →
      (∀ v, Map.get (s.dev.link l).txq [] v = []) → (s.dev.link l).queued = false →
      ∃ t f, exec (.flitSlot l) s = .next t ∧ t.pending = s.pending ∧ t.sec = s.sec ∧ (t.dev.link l).out = some f ∧ f.ftype = 0 ∧
        f.ack = (s.dev.link l).ack ∧ f.crc = flitSum f ∧ t.dev.objs = s.dev.objs) ∧
    (∀ m r, (s.dev.link l).replay = none → (s.dev.link l).markOut = none →
      (7 ≤ (s.dev.link l).gap && (s.dev.link l).ready 0) = false → (s.dev.link l).ready 2 = true →
      Map.get (s.dev.link l).txq [] 2 = m :: r → Map.get (s.dev.link l).off 0 2 = 0 → m.payload.length ≤ 240 →
      ∃ t f, exec (.flitSlot l) s = .next t ∧ t.pending = s.pending ∧ t.sec = s.sec ∧ (t.dev.link l).out = some f ∧
        f.ftype = 1 ∧ f.vc = 2 ∧ f.last = true ∧ f.seq = (s.dev.link l).seq ∧ f.payload = m.payload ∧ f.len = m.payload.length ∧
        f.dest = m.dest % 4096 ∧ f.src = m.src % 4096 ∧ f.msgid = m.id ∧ f.crc = flitSum f ∧
        (t.dev.link l).seq = ((s.dev.link l).seq + 1) % 4096 ∧
        Map.get (t.dev.link l).cred 0 2 = Map.get (s.dev.link l).cred 0 2 - 1 ∧
        (t.dev.link l).buf.length = (s.dev.link l).buf.length + 1 ∧
        t.dev.get (K.FLITS_TX l) = addSat 64 (s.dev.get (K.FLITS_TX l)) 1) ∧
    (∀ i e, (s.dev.link l).replay = some i → (s.dev.link l).buf[i]? = some e →
      ∃ t f, exec (.flitSlot l) s = .next t ∧ t.pending = s.pending ∧ t.sec = s.sec ∧ (t.dev.link l).out = some f ∧
        f.ftype = e.flit.ftype ∧ f.seq = e.flit.seq ∧ f.payload = e.flit.payload ∧
        t.dev.get (K.REPLAYS l) = addSat 64 (s.dev.get (K.REPLAYS l)) 1)

/-- Flits received, with no stain on the link, past the coding of their group. A DATA flit of VC2 in order that is a whole message is
acknowledged and its message kept, but for one of a reserved KIND, which is discarded and counted; one that came before is not taken again; one ahead of order asks for a replay. A flit whose CRC fails is counted and asks for a replay, now or once 64 ticks have passed;
one of a codeword that could not be corrected asks for one; a flit of a group without its framing is discarded; one of a reserved type is
counted, and shows that the peer sends. A NULL's header is acted on. While a link trains its groups alone count.

MESSAGE_REASSEMBLY_TIMEOUT: a message whose flits stop for 125 ticks is given up and its credits are given back; before that nothing happens. -/
def Obligations.FlitsReceived : Prop :=
  (∀ (s : State) (l : Nat) (f : Flit) (e : Fec) (d : Dev), l < 64 → s.stopped = false →
    (s.dev.get (K.LNK_STATE l) = 1 ∨ s.dev.get (K.LNK_STATE l) = 2 →
      exec (.flitDataReceive l f e) s = .next (s.setDev (s.dev.arrived l e).2)) ∧
    (s.dev.get (K.LNK_STATE l) = 3 → s.dev.arrived l e = (true, d) → d.stainsOn 5 (0x3000 + l) f.part = [] →
      ((d.link l).grpBad = true → exec (.flitDataReceive l f e) s = .next (s.setDev d)) ∧
      ((d.link l).grpBad = false → exec (.flitDataReceive l f e) s = .next (s.setDev (d.setLink l ((d.link l).ask d.now)))))) ∧
  (∀ (s : State) (l : Nat) (f : Flit) (e : Fec) (d : Dev), l < 64 → s.stopped = false → s.dev.get (K.LNK_STATE l) = 3 →
    s.dev.arrived l e = (false, d) → d.stainsOn 5 (0x3000 + l) f.part = [] →
    (f.crc = flitSum f → f.ftype = 0 → e = (s.dev.link l).cleanFec →
      exec (.null l f) s = .next (s.setDev (d.setLink l ((d.link l).takeHeader f d.now)))) ∧
    (f.crc = flitSum f → f.ftype = 1 → f.vc = 2 → f.last = true → f.seq < 4096 → f.seq = ((d.link l).ack + 1) % 4096 →
      d.get (K.LNK_MODE l) ≠ 2 → d.flag K.NUM_ASSIGNED = true → d.recovery = false →
      f.dest = d.get K.DEVICE_NUMBER → Map.get (d.link l).rx none 2 = none → ∀ m : Msg,
      m = { vc := 2, dest := f.dest, src := f.src, part := f.part, priv := f.priv, id := f.msgid, payload := f.payload.take f.len } →
      ∃ t, exec (.flitDataReceive l f e) s = .next t ∧ t.pending = s.pending ∧ t.sec = s.sec ∧ (t.dev.link l).ack = f.seq ∧
        (t.dev.link l).nak = false ∧ (t.dev.link l).nakWant = false ∧
        t.dev.get (K.FLITS_RX l) = addSat 64 (d.get (K.FLITS_RX l)) 1 ∧
        Map.get (t.dev.link l).inbox [] 2 = Map.get (d.link l).inbox [] 2 ++ (if ringReserved m then [] else [m]) ∧
        ∀ ch, ringReserved m = true → d.msgChannel m = some ch →
          t.dev.get (K.CH_DISCARDS ch) = addSat 64 (d.get (K.CH_DISCARDS ch)) 1) ∧
    (f.crc = flitSum f → f.ftype = 1 → f.seq < 4096 → 2048 ≤ (f.seq + 4096 - ((d.link l).ack + 1) % 4096) % 4096 →
      ∃ t, exec (.flitDataReceive l f e) s = .next t ∧ t.pending = s.pending ∧ t.sec = s.sec ∧ (t.dev.link l).ack = (d.link l).ack ∧
        (t.dev.link l).inbox = (d.link l).inbox ∧ t.dev.objs = d.objs) ∧
    (f.crc = flitSum f → f.ftype = 1 → f.seq < 4096 → 1 ≤ (f.seq + 4096 - ((d.link l).ack + 1) % 4096) % 4096 →
      (f.seq + 4096 - ((d.link l).ack + 1) % 4096) % 4096 < 2048 →
      ∃ t, exec (.flitDataReceive l f e) s = .next t ∧ t.pending = s.pending ∧ t.sec = s.sec ∧ (t.dev.link l).ack = (d.link l).ack ∧
        (t.dev.link l).inbox = (d.link l).inbox ∧
        (if (d.link l).nak = true ∨ (d.link l).nakTick ≤ d.now then (t.dev.link l).nak = true else (t.dev.link l).nakWant = true)) ∧
    (f.crc = flitSum f → 5 ≤ f.ftype →
      ∃ t, exec (.flitDataReceive l f e) s = .next t ∧ t.pending = s.pending ∧ t.sec = s.sec ∧
        t.dev.get (K.RESERVED_DROPS l) = addSat 64 (d.get (K.RESERVED_DROPS l)) 1 ∧ (t.dev.link l).lastRx = d.now ∧
        (t.dev.link l).ack = (d.link l).ack ∧ (t.dev.link l).inbox = (d.link l).inbox) ∧
    (f.crc ≠ flitSum f → (d.link l).nak = false → (d.link l).nakTick ≤ d.now →
      exec (.flitDataReceive l f e) s = .next (s.setDev ((d.cnt (K.CRC_ERR l) 1).setLink l
        { d.link l with nak := true, nakTick := d.now + 64 }))) ∧
    (f.crc ≠ flitSum f → (d.link l).nak = false → d.now < (d.link l).nakTick →
      exec (.flitDataReceive l f e) s = .next (s.setDev ((d.cnt (K.CRC_ERR l) 1).setLink l { d.link l with nakWant := true })))) ∧
  (∀ (s : State) (l : Nat), l < 64 → s.stopped = false →
    (∀ vc p, Map.get (s.dev.link l).rx none vc = some p → p.dead = false → p.last + 125 ≤ s.dev.now →
      exec (.messageReassemblyTimeout l vc) s = .next (s.setDev (s.dev.setLink l
        { (s.dev.link l).free vc (max 1 (ceilDiv p.msg.payload.length 240)) with
          rx := Map.set (s.dev.link l).rx none vc (some { p with dead := true }) }))) ∧
    (∀ vc p, Map.get (s.dev.link l).rx none vc = some p → p.dead = true ∨ s.dev.now < p.last + 125 →
      exec (.messageReassemblyTimeout l vc) s = .next s))

/-- Requests of other devices. READ_REQ is answered with the bytes at its places, WRITE when it is visible; one that may not reach its
bytes is answered with an ERROR and its status, with nothing read or written.

READ_DATA, WRITE_ACK and ERROR: one that answers a waiting reference of a command that has more to come brings its status to the engine; one that
answers none is only taken. REMOTE_TIMEOUT: a reference unanswered for REMOTE_TIMEOUT ticks, and not before, ends with status LINK_TIMEOUT. -/
def Obligations.RemoteReferences : Prop :=
  (∀ (s : State) (l : Nat) (m : Msg) (d : Dev), l < 64 → s.stopped = false → s.dev.recovery = false →
    (∀ ls, s.dev.takeTx l 1 = some (m, d) → d.txPlaces (txReq m) false = .ok ls → s.dev.txWait (txReq m) ls = none →
      ∃ t r, exec (.readReq l) s = .next t ∧ t.pending = s.pending ∧ t.sec = s.sec ∧
        r = Dev.readRun { d with memDelay := 0 } { part := (txReq m).part, index := 0, op := 0xFF, alloc := true } 0 ls ∧
        t.dev = r.2.2.answer m 2 (if r.2.1 then stECC else stOK) (ls.map (fun x => (d.peek x).toNat)) ∧
        (d.fixWords ls = [] → t.dev.cores = s.dev.cores)) ∧
    (∀ st, s.dev.takeTx l 1 = some (m, d) → d.txPlaces (txReq m) false = .error st →
      exec (.readReq l) s = .next (s.setDev (d.answer m 6 st []))) ∧
    (∀ ls, s.dev.takeTx l 3 = some (m, d) → d.txPlaces (txReq m) true = .ok ls → s.dev.txWait (txReq m) ls = none →
      ∃ t r, exec (.write l) s = .next t ∧ t.pending = s.pending ∧ t.sec = s.sec ∧
        r = Dev.writeRun { d with memDelay := 0 } { part := (txReq m).part, index := 0, op := 0xFF, alloc := true } 0
          (ls.zip (((m.payload.drop 16).take (txReq m).len).map (BitVec.ofNat 8))) ∧
        t.dev = r.2.answer m 4 (if r.1 then stECC else stOK) []) ∧
    (∀ st, s.dev.takeTx l 3 = some (m, d) → d.txPlaces (txReq m) true = .error st →
      exec (.write l) s = .next (s.setDev (d.answer m 6 st [])))) ∧
  ((∀ (s : State) (l op : Nat) (i : Instr) (m : Msg) (d : Dev), l < 64 → s.stopped = false →
    (op = 2 ∧ i = .readData l) ∨ (op = 4 ∧ i = .writeAck l) ∨ (op = 6 ∧ i = .error l) → s.dev.takeTx l op = some (m, d) →
    (Map.look d.remote m.id = none → exec i s = .next (s.setDev d)) ∧
    (∀ r f a more, Map.look d.remote m.id = some r → r.list = false → bits r.addr 63 52 = m.src →
      d.flight { k := r.k, n := r.n, p := r.p } = some f → f.outs = m.id :: a :: more →
      ∃ t, exec i s = .next t ∧ t.pending = s.pending ∧ t.sec = s.sec ∧ t.dev.mem = d.mem ∧ t.dev.objs = d.objs ∧
        t.dev.remote = Map.del d.remote m.id ∧
        t.dev.flight { k := r.k, n := r.n, p := r.p } =
          some { f with outs := a :: more, status := stWorst f.status (m.payload.getD 13 0) })) ∧
  (∀ (s : State) (id : Nat) (r : Remote), s.stopped = false → Map.look s.dev.remote id = some r →
    (s.dev.now < r.sent + s.dev.get K.REMOTE_TIMEOUT → exec (.remoteTimeout id) s = .next s) ∧
    (r.sent + s.dev.get K.REMOTE_TIMEOUT ≤ s.dev.now →
      exec (.remoteTimeout id) s = .next (s.setDev (s.dev.remoteAnswer id r [] stLINK)))))

/-! ## Lists, schedules, votes -/

/-- LIST_FETCH: an engine that runs with a new list reads its header. A good one starts the list at its first slot; a bad one, or one
that cannot be read, refuses the list. A list once fetched or refused is not fetched again. A slot that is still to come from another device, or
that lies where an accumulation area locks, is asked for.

COMMAND_SLOT_UNREADABLE passes a slot that cannot be read, and leaves one that can. COMMAND_LATE, where the engine of a partition has nothing in
flight, marks a head late and files the engine's record once LATE_SLACK after its release tick is over, and not while that and its segment's
END are to come. -/
def Obligations.ListHeads : Prop :=
  (∀ (s : State) (k n p : Nat) (e : Eng) (d : Dev), e = engAt k n p → e.ok = true → s.stopped = false →
    s.dev.running e = true → s.dev.listBase e ≠ 0 →
    (∀ ws d1, (s.dev.ctx e).fetched = false → (s.dev.ctx e).refused = false → s.dev.slot e 0 = (.ok ws, d) → d.headerFault e ws = none →
      d1 = d.setCtx e { d.ctx e with fetched := true, count := ws.getD 1 0, bound := bits (ws.getD 2 0) 7 0, index := 1 } →
      ((d1.slot e 1).1 ≠ .error stWAIT → exec (.listFetch k n p) s = .next (s.setDev d1)) ∧
      (∀ d2, d1.slot e 1 = (.error stWAIT, d2) → exec (.listFetch k n p) s = .next (s.setDev (d2.askSlot e 1)))) ∧
    (∀ ws st, (s.dev.ctx e).fetched = false → (s.dev.ctx e).refused = false → s.dev.slot e 0 = (.ok ws, d) → d.headerFault e ws = some st →
      exec (.listFetch k n p) s = .next (s.setDev (d.refuseList e st)) ∧ ((d.refuseList e st).ctx e).refused = true) ∧
    (∀ st, (s.dev.ctx e).fetched = false → (s.dev.ctx e).refused = false → s.dev.slot e 0 = (.error st, d) → st ≠ stWAIT →
      exec (.listFetch k n p) s = .next (s.setDev (d.refuseList e st)) ∧ ((d.refuseList e st).ctx e).refused = true) ∧
    ((s.dev.ctx e).fetched = false → (s.dev.ctx e).refused = false → s.dev.slot e 0 = (.error stWAIT, d) →
      exec (.listFetch k n p) s = .next (s.setDev (d.askSlot e 0))) ∧
    ((s.dev.ctx e).fetched = true ∨ (s.dev.ctx e).refused = true → exec (.listFetch k n p) s = .next s)) ∧
  (∀ (s : State) (k n p : Nat) (e : Eng), e = engAt k n p → e.ok = true → s.stopped = false →
    s.dev.running e = true → (s.dev.ctx e).fetched = true → 1 ≤ (s.dev.ctx e).index → (s.dev.ctx e).index ≤ (s.dev.ctx e).count →
    (∀ d, s.dev.slot e (s.dev.ctx e).index = (.error stWAIT, d) →
      exec (.commandSlotUnreadable k n p) s = .next (s.setDev (d.askSlot e (s.dev.ctx e).index))) ∧
    (∀ st d, s.dev.slot e (s.dev.ctx e).index = (.error st, d) → st ≠ stWAIT →
      ∃ t, exec (.commandSlotUnreadable k n p) s = .next t ∧ t.pending = s.pending ∧ t.sec = s.sec ∧
        (t.dev.ctx e).index = (s.dev.ctx e).index + 1 ∧ (t.dev.ctx e).popped = none ∧ (t.dev.ctx e).late = false ∧
        (t.dev.ctx e).busy = (s.dev.ctx e).busy ∧ ∀ c q, t.dev.hq c q = s.dev.hq c q) ∧
    (∀ ws d, s.dev.slot e (s.dev.ctx e).index = (.ok ws, d) → exec (.commandSlotUnreadable k n p) s = .next s) ∧
    (∀ ws d, s.dev.engPart e < 16 → s.dev.inFlight e = [] → s.dev.slot e (s.dev.ctx e).index = (.ok ws, d) → (s.dev.ctx e).late = false →
      (e.k = 1 → (s.dev.core e.n).mxQuiet = 0) →
      (s.dev.release e (ws.getD 1 0) + (s.dev.sched (s.dev.engPart e)).slack < s.dev.now →
        ∃ t, exec (.commandLate k n p) s = .next t ∧ t.pending = s.pending ∧ t.sec = s.sec ∧ (t.dev.ctx e).late = true ∧
          (t.dev.ctx e).index = (s.dev.ctx e).index ∧ (t.dev.ctx e).lateFiled = true) ∧
      (s.dev.now ≤ s.dev.release e (ws.getD 1 0) + (s.dev.sched (s.dev.engPart e)).slack → s.dev.pastEnd e (ws.getD 1 0) = false →
        exec (.commandLate k n p) s = .next s)))

/-- The order in which a head of a core engine comes to its issue. The epoch is BASE_EPOCH plus ATTEMPT periods plus HELD_TICKS; the release
tick is the epoch plus word 1. A word 1 of PERIOD or more ends the command with RANGE. It does not issue before its release tick, nor, within
LATE_SLACK and its segment, before a handle is in the queue that it waits for, bound to its engine, which it then takes; without a
queue it issues in its engine's next free cycle; a handle of another status than OK ends the command unissued; a handle of the
same cycle is not seen yet. -/
def Obligations.IssueOrder : Prop :=
  (∀ (d : Dev) (p n : Nat), p < 16 →
    (d.beginAttempt p).get (K.EPOCH_NOW p) = d.get (K.BASE_EPOCH p) + d.get (K.ATTEMPT p) * d.get (K.PERIOD p) + d.get (K.HELD_TICKS p) ∧
    (d.get (K.SCHED_STATE p) = 3 → (d.hold p n).get (K.EPOCH_NOW p) =
      d.get (K.BASE_EPOCH p) + d.get (K.ATTEMPT p) * d.get (K.PERIOD p) + (d.hold p n).get (K.HELD_TICKS p)) ∧
    (∀ (e : Eng) (w : Nat), d.engPart e = p → d.release e w = d.get (K.EPOCH_NOW p) + w)) ∧
  (∀ (d : Dev) (e : Eng) (acc : Nat → Bool) (ws : List Nat) (d' : Dev) (c : Cmd),
    c = { index := (d.ctx e).index, words := ws, handle := none } → e.isCore = true →
    d.running e = true → (d.ctx e).fetched = true → 1 ≤ (d.ctx e).index → (d.ctx e).index ≤ (d.ctx e).count →
    (e.k = 1 → (d.core e.n).reruns = []) → d.slot e (d.ctx e).index = (.ok ws, d') → opKnown e.k c.op = true → acc c.op = true →
    (d.engPart e < 16 → d.get (K.PERIOD (d.engPart e)) ≤ c.w 1 →
      d.head e acc = .wait (d.reject e c (d.ownedSlots e c).1 stRANGE)) ∧
    ((d.engPart e < 16 → c.w 1 < d.get (K.PERIOD (d.engPart e))) → d.inDoubt e (c.w 1) = false →
    (d.now < d.release e (c.w 1) → d.head e acc = .wait d) ∧
    (d.release e (c.w 1) ≤ d.now → d.now ≤ d.release e (c.w 1) + (d.sched (d.engPart e)).slack →
      d.pastEnd e (c.w 1) = false → c.sigQ < 32 ∨ c.sigQ = 255 → d.commitGate e (c.w 1) = none → d.issuable e c = true →
      (c.waitQ = 255 → d.head e acc = if d.issueCycle e none < d.cyclesEnd e.quad then .go c (slotsOf e.k c.op (c.w 2)) d else .wait d) ∧
      (c.waitQ < 32 → d.get (K.HQ_BIND e.n c.waitQ) = e.k → (d.ctx e).popped = none →
        (d.hq e.n c.waitQ = [] → d.head e acc = .wait d) ∧
        (∀ h r, d.hq e.n c.waitQ = h :: r → h.vis < d.cyclesEnd (quadOf e.n) → d.issueCycle e (some h) < d.cyclesEnd e.quad →
          h.status = stOK →
          ∃ t, d.head e acc = .go { c with handle := some h } (slotsOf e.k c.op (c.w 2)) t ∧ t.hq e.n c.waitQ = r ∧
            (t.ctx e).popped = some h) ∧
        (∀ h r, d.hq e.n c.waitQ = h :: r → h.vis < d.cyclesEnd (quadOf e.n) → d.issueCycle e (some h) < d.cyclesEnd e.quad →
          h.status ≠ stOK →
          ∃ t, d.head e acc = .wait t ∧ (t.ctx e).index = (d.ctx e).index + slotsOf e.k c.op (c.w 2)) ∧
        (∀ h r, d.hq e.n c.waitQ = h :: r → d.cyclesEnd (quadOf e.n) ≤ h.vis → d.head e acc = .wait d)))))

/-- Relays and fences end at their issue. MX_NOP, VX_NOP, MV_NOP, GT_NOP, UP_NOP and RD_NOP push the handle that they popped, or a token; MX_QUIESCE
waits for an empty array; the others but RD_NOP and MX_NOP for an idle engine; MV_FENCE empties the run-ahead buffer; VX_SETLEN sets the length
register to 1 to 65,536, and another length ends it with the register as it was.

An extension slot that comes to the head of a list as a command ends with RANGE under its own index, on every engine. -/
def Obligations.RelaysPass : Prop :=
  ((∀ (s : State) (i : Instr) (e : Eng) (c : Cmd) (n : Nat) (d : Dev), Issues s e 0 c n d →
    (∃ k, (i = .mxNop k ∧ e = eng 1 k) ∨ (i = .vxNop k ∧ e = eng 2 k ∧ (d.ctx e).busy = []) ∨
      (i = .mvNop k ∧ e = eng 3 k ∧ (d.ctx e).busy = []) ∨ (i = .gtNop k ∧ e = eng 4 k ∧ (d.ctx e).busy = []) ∨
      ∃ p, (i = .upNop k p ∧ e = upe k p ∧ (d.ctx e).busy = []) ∨ (i = .rdNop k p ∧ e = rde k p)) →
    ∃ t, exec i s = .next t ∧ t.pending = s.pending ∧ t.sec = s.sec ∧ Passed d t.dev e c 1 (c.handle.getD (token 0))) ∧
  (∀ (s : State) (k : Nat) (c : Cmd) (n : Nat) (d : Dev), Issues s (eng 1 k) 1 c n d →
    ((d.core k).passes = [] →
      ∃ t, exec (.mxQuiesce k) s = .next t ∧ t.pending = s.pending ∧ t.sec = s.sec ∧ Passed d t.dev (eng 1 k) c n (token 0)) ∧
    ((d.core k).passes ≠ [] → exec (.mxQuiesce k) s = .next (s.setDev (d.setCore k { d.core k with mxQuiet := c.index })))) ∧
  (∀ (s : State) (k : Nat) (c : Cmd) (n : Nat) (d : Dev), Issues s (eng 3 k) 1 c n d → (d.ctx (eng 3 k)).busy = [] →
    ∃ t, exec (.mvFence k) s = .next t ∧ t.pending = s.pending ∧ t.sec = s.sec ∧ Passed d t.dev (eng 3 k) c n (token 0) ∧
      (t.dev.core k).ra = []) ∧
  (∀ (s : State) (k : Nat) (c : Cmd) (n : Nat) (d : Dev), Issues s (eng 2 k) 8 c n d → (d.ctx (eng 2 k)).busy = [] →
    (1 ≤ bits (c.w 2) 16 0 → bits (c.w 2) 16 0 ≤ 65536 →
      ∃ t, exec (.vxSetlen k) s = .next t ∧ t.pending = s.pending ∧ t.sec = s.sec ∧ Passed d t.dev (eng 2 k) c n (token 0) ∧
        (t.dev.core k).vlen = bits (c.w 2) 16 0) ∧
    (bits (c.w 2) 16 0 = 0 ∨ 65536 < bits (c.w 2) 16 0 →
      ∃ t, exec (.vxSetlen k) s = .next t ∧ t.pending = s.pending ∧ t.sec = s.sec ∧
        (t.dev.ctx (eng 2 k)).index = (d.ctx (eng 2 k)).index + n ∧ (t.dev.core k).vlen = (d.core k).vlen))) ∧
  (∀ (s : State) (i : Instr) (e : Eng) (c : Cmd) (n : Nat) (d : Dev), s.stopped = false → e.ok = true →
    (∃ k, (i = .mxExt k ∧ e = eng 1 k) ∨ (i = .vxExt k ∧ e = eng 2 k) ∨ (i = .mvExt k ∧ e = eng 3 k) ∨ (i = .gtExt k ∧ e = eng 4 k) ∨
      ∃ p, (i = .upExt k p ∧ e = upe k p) ∨ (i = .rdExt k p ∧ e = rde k p)) →
    s.dev.ready e (· == 0x12) = .go c n d → c.op = 0x12 →
    exec i s = .next (s.setDev (d.reject e c n stRANGE)) ∧
    ((d.reject e c n stRANGE).ctx e).index = (d.ctx e).index + n ∧ ((d.reject e c n stRANGE).ctx e).busy = (d.ctx e).busy)

/-- SCHEDULE_START: an armed schedule without a request to end starts at BASE_EPOCH and not before. ATTEMPT_END, of a schedule with nothing else
pending: a committed attempt leaves STEP and ATTEMPT one higher and the next begins one period later; an abandoned one leaves STEP; one
without a decision is in doubt, and the schedule is suspended. Before the end tick nothing happens. -/
def Obligations.AttemptsEnd : Prop :=
  (∀ (s : State) (p : Nat), p < 16 → s.stopped = false → s.dev.get (K.SCHED_STATE p) = 2 →
    (s.dev.now < s.dev.get (K.BASE_EPOCH p) → exec (.scheduleStart p) s = .next s) ∧
    (s.dev.get (K.BASE_EPOCH p) ≤ s.dev.now → (s.dev.sched p).endReq = false →
      ∃ t, exec (.scheduleStart p) s = .next t ∧ t.pending = s.pending ∧ t.sec = s.sec ∧ t.dev.get (K.SCHED_STATE p) = 3 ∧
        t.dev.get (K.EPOCH_NOW p) = s.dev.epochOf p ∧ (t.dev.sched p).votes = [] ∧ (t.dev.sched p).decided = false ∧
        (t.dev.sched p).seg = 0)) ∧
  (∀ (s : State) (p : Nat), p < 16 → s.stopped = false → s.dev.get (K.SCHED_STATE p) = 3 →
    s.dev.now < s.dev.get (K.EPOCH_NOW p) + s.dev.get (K.PERIOD p) → exec (.attemptEnd p) s = .next s) ∧
  (∀ (s : State) (p : Nat), s.stopped = false → Quiet s.dev p → s.dev.get (K.EPOCH_NOW p) + s.dev.get (K.PERIOD p) ≤ s.dev.now →
    ∃ t, exec (.attemptEnd p) s = .next t ∧ t.pending = s.pending ∧ t.sec = s.sec ∧
      ((s.dev.sched p).decided = true → s.dev.get (K.DECISION p) = 1 → (s.dev.sched p).failCommit = 0 →
        (s.dev.sched p).votes.any VoteRec.nf = false →
        t.dev.get (K.ATTEMPT p) = s.dev.get (K.ATTEMPT p) + 1 ∧ t.dev.get (K.STEP p) = s.dev.get (K.STEP p) + 1 ∧
        t.dev.get (K.FAILED_RUN p) = 0 ∧ t.dev.get (K.SCHED_STATE p) = 3 ∧
        t.dev.get (K.EPOCH_NOW p) = s.dev.epochOf p + s.dev.get (K.PERIOD p)) ∧
      ((s.dev.sched p).decided = true → s.dev.get (K.DECISION p) = 2 →
        t.dev.get (K.ATTEMPT p) = s.dev.get (K.ATTEMPT p) + 1 ∧ t.dev.get (K.STEP p) = s.dev.get (K.STEP p)) ∧
      ((s.dev.sched p).decided = false →
        t.dev.get (K.DECISION p) = 3 ∧ t.dev.get (K.DECISION_CAUSE p) = stLINK ∧ t.dev.get (K.SCHED_STATE p) = 4 ∧
        t.dev.get (K.ATTEMPT p) = s.dev.get (K.ATTEMPT p) ∧ t.dev.get (K.STEP p) = s.dev.get (K.STEP p)))

/-- SEGMENT_END, not before its tick: the next segment; a requested suspension waits for the end of a BOUNDARY segment. SCHEDULE_RESUME, not
before its tick nor in doubt, with every slot on a usable core of the partition: the schedule goes on as though it had never stopped, HELD_TICKS grown by
what passed since, and the epoch with it. -/
def Obligations.SuspendsResumes : Prop :=
  (∀ (s : State) (p : Nat) (g : Seg), p < 16 → s.stopped = false → (s.dev.sched p).segs[(s.dev.sched p).seg]? = some g →
    s.dev.get (K.SCHED_STATE p) = 3 → g.stop ≠ s.dev.get (K.PERIOD p) →
    (s.dev.now < s.dev.get (K.EPOCH_NOW p) + g.stop → exec (.segmentEnd p) s = .next s) ∧
    (s.dev.get (K.EPOCH_NOW p) + g.stop ≤ s.dev.now → g.boundary = false ∨ (s.dev.sched p).suspendReq = false →
      exec (.segmentEnd p) s = .next (s.setDev (s.dev.setSched p { s.dev.sched p with seg := (s.dev.sched p).seg + 1 }))) ∧
    (s.dev.get (K.EPOCH_NOW p) + g.stop ≤ s.dev.now → g.boundary = true → (s.dev.sched p).suspendReq = true →
      ∃ t, exec (.segmentEnd p) s = .next t ∧ t.pending = s.pending ∧ t.sec = s.sec ∧ t.dev.get (K.SCHED_STATE p) = 4 ∧
        (t.dev.sched p).seg = (s.dev.sched p).seg + 1 ∧ (t.dev.sched p).suspTick = s.dev.get (K.EPOCH_NOW p) + g.stop ∧
        (t.dev.sched p).suspendReq = false)) ∧
  (∀ (s : State) (p r : Nat), p < 16 → s.stopped = false → (s.dev.sched p).resumeAt = some r → s.dev.get (K.SCHED_STATE p) = 4 →
    (s.dev.now < r → exec (.scheduleResume p) s = .next s) ∧
    (s.dev.get (K.DECISION p) = 3 → exec (.scheduleResume p) s = .next s) ∧
    (r ≤ s.dev.now → s.dev.get (K.DECISION p) ≠ 3 → s.dev.get (K.DECISION p) ≠ 4 →
      (s.dev.sched p).slots ≤ 64 → (∀ n, n < (s.dev.sched p).slots → s.dev.get (K.SLOT_CORE p n) < 64 ∧
        s.dev.coreUsable (s.dev.get (K.SLOT_CORE p n)) = true ∧ bit (s.dev.get (K.CORE_MASK p)) (s.dev.get (K.SLOT_CORE p n)) = true) →
      ∃ t, exec (.scheduleResume p) s = .next t ∧ t.pending = s.pending ∧ t.sec = s.sec ∧ t.dev.get (K.SCHED_STATE p) = 3 ∧
        (t.dev.sched p).resumeAt = none ∧
        t.dev.get (K.HELD_TICKS p) = addSat 64 (s.dev.get (K.HELD_TICKS p)) (r - (s.dev.sched p).suspTick) ∧
        t.dev.get (K.EPOCH_NOW p) = s.dev.get (K.BASE_EPOCH p) + s.dev.get (K.ATTEMPT p) * s.dev.get (K.PERIOD p) +
          addSat 64 (s.dev.get (K.HELD_TICKS p)) (r - (s.dev.sched p).suspTick)))

/-- VOTE_CLOSE, at VOTE_TICK and not before, with every command before it ended and no other cause: with one device, the decision is COMMIT where
nothing failed, else ABANDON with the first cause in R41's order; with more, the device waits for their records.

A completion after the close changes no vote that is closed, nor what it counted; after a decision to commit, a commit-segment
command that did not end OK fails the commit.

VOTE of the ring. A record of this attempt is kept once; the one that completes the set decides: COMMIT where every record is
clean, else ABANDON. DECISION_IN_DOUBT: where the set is not complete by the limit, and not before, the device is in doubt.

SWATCH_EXCHANGE, at SWX_TICK of an attempt that exchanges: the device sends one record of the new step, keeping its own. SWATCH: a record that
arrives is kept once. -/
def Obligations.VotesAndSwatches : Prop :=
  (∀ (s : State) (p : Nat), p < 16 → s.stopped = false → s.dev.get (K.SCHED_STATE p) = 3 → s.dev.get (K.VOTE_TICK p) ≠ 0 →
    (s.dev.sched p).voted = false → (s.dev.sched p).decided = false → (s.dev.sched p).votes = [] →
    s.dev.get (K.VOTE_CHANNEL p) < 32 →
    (s.dev.now < s.dev.get (K.EPOCH_NOW p) + s.dev.get (K.VOTE_TICK p) → exec (.voteClose p) s = .next s) ∧
    (s.dev.get (K.EPOCH_NOW p) + s.dev.get (K.VOTE_TICK p) ≤ s.dev.now →
      (∀ e ∈ s.dev.schedEngs p, s.dev.openCauses e (s.dev.get (K.VOTE_TICK p)) = []) → s.dev.absentSlots p = [] →
      s.dev.get (K.SCREEN_COUNT p) = 0 →
      (s.dev.sched p).unlocked = false → s.dev.get K.FT_STATE = 2 → (s.dev.sched p).fenced = false → (s.dev.sched p).recFail = 0 →
      ∃ t v, exec (.voteClose p) s = .next t ∧ t.pending = s.pending ∧ t.sec = s.sec ∧ (t.dev.sched p).voted = true ∧
        (t.dev.sched p).votes = [v] ∧ v.cause = firstCause (s.dev.sched p).causes ∧
        v.clean = decide (firstCause (s.dev.sched p).causes = 0) ∧ v.attempt = s.dev.get (K.ATTEMPT p) ∧
        (s.dev.jobSize p = 1 → firstCause (s.dev.sched p).causes = 0 →
          t.dev.get (K.DECISION p) = 1 ∧ t.dev.get (K.DECISION_CAUSE p) = 0 ∧ (t.dev.sched p).decided = true) ∧
        (s.dev.jobSize p = 1 → firstCause (s.dev.sched p).causes ≠ 0 →
          t.dev.get (K.DECISION p) = 2 ∧ t.dev.get (K.DECISION_CAUSE p) = firstCause (s.dev.sched p).causes ∧
          (t.dev.sched p).decided = true) ∧
        (2 ≤ s.dev.jobSize p → (t.dev.sched p).decided = false ∧ t.dev.get (K.DECISION p) = s.dev.get (K.DECISION p)))) ∧
  (∀ (d : Dev) (e : Eng) (w1 st att sig p : Nat) (quiet : Bool), e.ok = true → p = d.engPart e → p < 16 →
    ((d.account e w1 st att sig quiet).sched p).votes = (d.sched p).votes ∧
    ((d.account e w1 st att sig quiet).sched p).voted = (d.sched p).voted ∧
    ((d.sched p).voted = true → ((d.account e w1 st att sig quiet).sched p).causes = (d.sched p).causes) ∧
    ((d.sched p).decided = true → d.get (K.DECISION p) = 1 → d.get (K.DECIDE_TICK p) ≤ w1 → quiet = false →
      att = d.get (K.ATTEMPT p) → st ≠ stOK →
      (st = stLATE → e.isCore = true → (d.sched p).excused.contains (d.excuseKey e sig) = false) →
      ((d.account e w1 st att sig quiet).sched p).failCommit = if (d.sched p).failCommit = 0 then st else (d.sched p).failCommit)) ∧
  ((∀ (s : State) (l ch p : Nat) (m : Msg) (d : Dev) (v : VoteRec), Arrives s l 8 m d → d.msgChannel m = some ch →
    p = d.get (K.CH_PART ch) → d.get (K.VOTE_CHANNEL p) < 32 → (ringHdr m.payload).count = 1 → v = voteOf ((m.payload.drop 16).take 16) →
    (d.get (K.SCHED_STATE p) < 3 → exec (.vote l) s = .next (s.setDev d)) ∧
    (3 ≤ d.get (K.SCHED_STATE p) → v.attempt = d.get (K.ATTEMPT p) → v.step = d.get (K.STEP p) % 2 ^ 32 →
      ((d.sched p).votes.any (fun x => x.device == v.device) = true → v.good = true → exec (.vote l) s = .next (s.setDev d)) ∧
      ((d.sched p).votes.any (fun x => x.device == v.device) = false → (d.sched p).decided = false →
        ∃ t, exec (.vote l) s = .next t ∧ t.pending = s.pending ∧ t.sec = s.sec ∧ (t.dev.sched p).votes = (d.sched p).votes ++ [v] ∧
          ((d.sched p).voted = true → (d.sched p).votes.length + 1 = d.jobSize p →
            (t.dev.sched p).decided = true ∧
            t.dev.get (K.DECISION p) = if ((d.sched p).votes ++ [v]).all VoteRec.good then 1 else 2) ∧
          ((d.sched p).voted = false ∨ (d.sched p).votes.length + 1 < d.jobSize p →
            (t.dev.sched p).decided = false ∧ t.dev.get (K.DECISION p) = d.get (K.DECISION p))))) ∧
  (∀ (s : State) (p lim : Nat), p < 16 → s.stopped = false → s.dev.get (K.SCHED_STATE p) = 3 → (s.dev.sched p).decided = false →
    (s.dev.sched p).voted = true → s.dev.get (K.DECIDE_TICK p) ≠ 0 →
    lim = s.dev.get (K.EPOCH_NOW p) + min (s.dev.get (K.DECIDE_TICK p) + s.dev.get (K.VOTE_HOLD_LIMIT p)) (s.dev.get (K.PERIOD p)) →
    (s.dev.now < lim → exec (.decisionInDoubt p) s = .next s) ∧
    (lim ≤ s.dev.now → ∃ t, exec (.decisionInDoubt p) s = .next t ∧ t.pending = s.pending ∧ t.sec = s.sec ∧
      t.dev.get (K.DECISION p) = 3 ∧ t.dev.get (K.DECISION_CAUSE p) = stLINK ∧
      t.dev.get (K.DECISION_ATTEMPT p) = s.dev.get (K.ATTEMPT p) ∧ (t.dev.sched p).decided = true))) ∧
  ((∀ (s : State) (p : Nat), p < 16 → s.stopped = false → s.dev.get (K.SCHED_STATE p) = 3 →
    (s.dev.now < s.dev.get (K.EPOCH_NOW p) + s.dev.get (K.SWX_TICK p) ∨ s.dev.exchanges p = false ∨ (s.dev.sched p).swxSent = true →
      exec (.swatchExchange p) s = .next s) ∧
    (s.dev.get (K.EPOCH_NOW p) + s.dev.get (K.SWX_TICK p) ≤ s.dev.now → s.dev.exchanges p = true → (s.dev.sched p).swxSent = false →
      ∃ t r, exec (.swatchExchange p) s = .next t ∧ t.pending = s.pending ∧ t.sec = s.sec ∧ (t.dev.sched p).swxSent = true ∧
        (t.dev.sched p).swx = (s.dev.sched p).swx ++ [r] ∧ r.step = s.dev.get (K.STEP p) + 1 ∧ r.replica = s.dev.get (K.SWX_INDEX p) ∧
        r.swatch = (List.range 16).map (fun i => Map.get (s.dev.part p).swatch 0 i))) ∧
  (∀ (s : State) (l ch p : Nat) (m : Msg) (d : Dev) (r : SwxRec), Arrives s l 9 m d → d.msgChannel m = some ch →
    p = d.get (K.CH_PART ch) → r = swxOf (m.payload.drop 16) →
    ((d.sched p).swx.any (fun x => x.step == r.step && x.device == r.device) = true → exec (.swatch l) s = .next (s.setDev d)) ∧
    ((d.sched p).swx.any (fun x => x.step == r.step && x.device == r.device) = false →
      ∃ t, exec (.swatch l) s = .next t ∧ t.pending = s.pending ∧ t.sec = s.sec ∧ (t.dev.sched p).swx = (d.sched p).swx ++ [r])))

/-! ## Engines -/

/-- MX_PASS and MX_GANG of the head of a list, with no abandoned pass before it, issue once the array accepts them, their operands are resident and the
gate is open: the pass is the last in flight, with the problems, mode and duration that its slots give it. An MX_PASS of one problem
that breaks a rule ends unissued. -/
def Obligations.PassesIssue : Prop :=
  (∀ (s : State) (k : Nat) (c : Cmd) (n : Nat) (d : Dev) (q : Prob) (rate : Nat), Issues s (eng 1 k) 0x10 c n d →
    (s.dev.core k).reruns = [] → (d.core k).reruns = [] →
    decodeProb 0 (c.pair 2) (c.pair 4) (c.pair 6) c.waitQ c.handle = some q → rateOf q.wFmt q.sFmt = some rate →
    ((bits (c.w 0) 10 8 = 0 ∧ passValid 0 rate (c.flag 13) (c.flag 12) [q] = true) →
      (readGrans (c.flag 13) [q]).all (fun x => Map.get (d.core k).resident false x) = true →
      (d.core k).accepts (c.flag 15) 0 rate q.sparse (d.cyclesEnd (quadOf k)) = true → bit (d.get K.GATE) k = false →
      ∃ t p, exec (.mxPass k) s = .next t ∧ t.pending = s.pending ∧ t.sec = s.sec ∧
        (t.dev.core k).passes = (d.core k).passes ++ [p] ∧
        p = { fl := p.fl, gang := 0, rate := rate, acc := c.flag 14, tfeed := c.flag 13, tdrain := c.flag 12, drain := c.flag 15,
              mmax := q.m, dur := passDur 0 rate q.m, done := 0, probs := [q] } ∧
        p.fl.index = c.index ∧ p.fl.space = 2 ∧ p.fl.offset = 4 * q.dest ∧
        (t.dev.ctx (eng 1 k)).index = (d.ctx (eng 1 k)).index + n) ∧
    ((bits (c.w 0) 10 8 ≠ 0 ∨ passValid 0 rate (c.flag 13) (c.flag 12) [q] = false) →
      ∃ t, exec (.mxPass k) s = .next t ∧ t.pending = s.pending ∧ t.sec = s.sec ∧ (t.dev.core k).passes = (d.core k).passes ∧
        (t.dev.ctx (eng 1 k)).index = (d.ctx (eng 1 k)).index + n)) ∧
  (∀ (s : State) (k : Nat) (c : Cmd) (n : Nat) (d : Dev) (es : List (List Nat)) (q : Prob) (r : List Prob) (rate g : Nat),
    Issues s (eng 1 k) 0x11 c n d → (s.dev.core k).reruns = [] → (d.core k).reruns = [] → d.exts (eng 1 k) c n = (.ok es, d) →
    es.filterMap (fun ws => decodeProb (bits (ws.getD 0 0) 11 8)
      (Cmd.pair { index := 0, words := ws, handle := none } 2) (Cmd.pair { index := 0, words := ws, handle := none } 4)
      (Cmd.pair { index := 0, words := ws, handle := none } 6) c.waitQ c.handle) = q :: r →
    (q :: r).length = es.length → rateOf q.wFmt q.sFmt = some rate → g = bits (c.w 0) 10 8 → g ≤ 4 →
    (q :: r).length ≤ gangProblems g → passValid g rate (c.flag 13) (c.flag 12) (q :: r) = true →
    (readGrans (c.flag 13) (q :: r)).all (fun x => Map.get (d.core k).resident false x) = true →
    (d.core k).accepts (c.flag 15) g rate q.sparse (d.cyclesEnd (quadOf k)) = true → bit (d.get K.GATE) k = false →
    ∃ t p, exec (.mxGang k) s = .next t ∧ t.pending = s.pending ∧ t.sec = s.sec ∧
      (t.dev.core k).passes = (d.core k).passes ++ [p] ∧ p.probs = q :: r ∧ p.gang = g ∧ p.rate = rate ∧
      p.mmax = ((q :: r).map Prob.m).foldl max 0 ∧ p.dur = passDur g rate p.mmax ∧ p.done = 0 ∧
      (t.dev.ctx (eng 1 k)).index = (d.ctx (eng 1 k)).index + n)

/-- What a pass of one problem leaves when it has drained to its last cycle: each output holds the rounded sum of the products of
its row and column, added to what was there under ACC; no other byte of the scratchpads changes. -/
def Obligations.PassComputes : Prop :=
  ∀ (k : Core) (p : Pass) (q : Prob), k.passes = [p] → p.probs = [q] → p.gang = 0 → p.done = 0 → p.dur = passDur 0 p.rate q.m →
    q.j = 0 → q.valid 0 p.rate p.tfeed p.tdrain = true → k.poison = [] → k.flaw = [] → k.reruns = [] →
    (∀ m n, m < q.m → n < q.n →
      ((k.drainTo (p.fl.start + p.dur)).1.word32 2 (4 * (if p.tdrain then q.dest + n * q.dPitch + m else q.dest + m * q.dPitch + n)) =
        if p.acc then f32Add (k.word32 2 (4 * q.entry p.tdrain m n)) (k.outVal q 0 p.rate p.tfeed m n)
        else k.outVal q 0 p.rate p.tfeed m n)) ∧
    (∀ mem o, o < spSize mem → (mem = 2 → ∀ m n, m < q.m → n < q.n →
        o / 4 ≠ if p.tdrain then q.dest + n * q.dPitch + m else q.dest + m * q.dPitch + n) →
      (k.drainTo (p.fl.start + p.dur)).1.byte mem o = k.byte mem o) ∧
    (if p.tdrain then q.m ≤ q.dPitch else q.n ≤ q.dPitch)

/-- Ends of issued commands (PASS_COMPLETE, VX_COMPLETE, MOVE_COMPLETE, GATHER_COMPLETE, UPDATE_COMPLETE). Before its last cycle a pass
or a vector command stands, as does a vector command that a reservation holds; a move or a gather stands while a reference of it is
unanswered or a part of its plan is to be done. Then it leaves its engine, and its handle comes with its status: for a pass or a vector
command on a core without unreadable words, for a move whose granules of WM match their checksums. A vector command has then run
its last beat. A move of which a granule of WM does not match counts and carries ECC_UNCORR. -/
def Obligations.IssuedCommandsEnd : Prop :=
  (∀ (s : State) (c : Nat) (p : Pass) (r : List Pass), c < 64 → s.stopped = false → (s.dev.core c).passes = p :: r →
    (s.dev.cyclesEnd (quadOf c) < p.fl.start + p.dur → exec (.passComplete c) s = .next s) ∧
    (p.fl.start + p.dur ≤ s.dev.cyclesEnd (quadOf c) → (s.dev.core c).poison = [] → (s.dev.core c).flaw = [] →
      ∃ t, exec (.passComplete c) s = .next t ∧ t.pending = s.pending ∧ t.sec = s.sec ∧
        (t.dev.core c).passes.length = r.length ∧ t.dev.get (K.MXA_PASSES c) = addSat 64 (s.dev.get (K.MXA_PASSES c)) 1 ∧
        Completed s.dev t.dev (eng 1 c) p.fl { status := 0, space := 2, offset := p.fl.offset })) ∧
  (∀ (s : State) (c y : Nat) (f : InFlight) (r : List InFlight) (j : VxJob), c < 64 → s.stopped = false →
    (s.dev.ctx (eng 2 c)).busy = f :: r → (s.dev.core c).vx = some j →
    (s.dev.cyclesEnd (quadOf c) < f.start + f.cost + min y j.allowance ∨ (s.dev.core c).vxHeld = true →
      exec (.vxComplete c y) s = .next s) ∧
    (f.start + f.cost + min y j.allowance ≤ s.dev.cyclesEnd (quadOf c) → (s.dev.core c).vxHeld = false →
      (s.dev.core c).poison = [] → (s.dev.core c).flaw = [] →
      ∃ t, exec (.vxComplete c y) s = .next t ∧ t.pending = s.pending ∧ t.sec = s.sec ∧ (t.dev.ctx (eng 2 c)).busy = r ∧
        (t.dev.core c).vx = none ∧
        (t.dev.core c).sp = (((List.range j.steps).drop j.next).foldl j.step (VxRun.start (s.dev.core c) j.part)).core.sp ∧
        (s.dev.finalStatus (eng 2 c) f = stOK → f.sig = 255 ∨ (s.dev.hq c f.sig).length < 16 →
          ∀ g ∈ f.grans, g < 1024 → Map.get (t.dev.core c).resident false g = true) ∧
        Completed s.dev t.dev (eng 2 c) f { status := 0, space := f.space, offset := f.offset })) ∧
  (∀ (s : State) (c : Nat) (f : InFlight) (r : List InFlight), c < 64 → s.stopped = false → (s.dev.ctx (eng 3 c)).busy = f :: r →
    (f.outs ≠ [] ∨ s.dev.planOf (eng 3 c) ≠ none → ∀ bad, exec (.moveComplete c bad) s = .next s) ∧
    (f.outs = [] → s.dev.planOf (eng 3 c) = none → f.hold ≤ s.dev.now →
      (∀ g ∈ f.grans, g % 1024 < 192 → (s.dev.core (granOf c g).1).mismatch (granOf c g).2 = false) →
      (∃ t, exec (.moveComplete c []) s = .next t ∧ t.pending = s.pending ∧ t.sec = s.sec ∧ (t.dev.ctx (eng 3 c)).busy = r ∧
        (s.dev.finalStatus (eng 3 c) f = stOK → f.sig = 255 ∨ (s.dev.hq c f.sig).length < 16 →
          ∀ g ∈ f.grans, g < 1024 → Map.get (t.dev.core c).resident false g = true) ∧
        Completed s.dev t.dev (eng 3 c) f { status := 0, space := f.space, offset := f.offset }) ∧
      (∀ g, f.grans.Nodup → (∀ x ∈ f.grans, x < 192) → g ∈ f.grans →
        ∃ t, exec (.moveComplete c [g]) s = .next t ∧ t.pending = s.pending ∧ t.sec = s.sec ∧ (t.dev.ctx (eng 3 c)).busy = r ∧
          t.dev.get (K.WM_CRC_FAIL c) = addSat 32 (s.dev.get (K.WM_CRC_FAIL c)) 1 ∧
          Completed s.dev t.dev (eng 3 c) { f with status := stWorst f.status stECC }
            { status := 0, space := f.space, offset := f.offset }))) ∧
  (∀ (s : State) (c : Nat) (f : InFlight) (r : List InFlight), c < 64 → s.stopped = false → (s.dev.ctx (eng 4 c)).busy = f :: r →
    (f.outs ≠ [] ∨ s.dev.planOf (eng 4 c) ≠ none → exec (.gatherComplete c) s = .next s) ∧
    (f.outs = [] → s.dev.planOf (eng 4 c) = none → f.hold ≤ s.dev.now →
      ∃ t, exec (.gatherComplete c) s = .next t ∧ t.pending = s.pending ∧ t.sec = s.sec ∧ (t.dev.ctx (eng 4 c)).busy = r ∧
        (s.dev.finalStatus (eng 4 c) f = stOK → f.sig = 255 ∨ (s.dev.hq c f.sig).length < 16 →
          ∀ g ∈ f.grans, g < 1024 → Map.get (t.dev.core c).resident false g = true) ∧
        Completed s.dev t.dev (eng 4 c) f { status := 0, space := f.space, offset := f.offset })) ∧
  (∀ (s : State) (u p : Nat) (f : InFlight) (r : List InFlight), u < 20 → p < 16 → s.stopped = false →
    (s.dev.ctx (upe u p)).busy = f :: r →
    (s.dev.now < f.hold → exec (.updateComplete u p) s = .next s) ∧
    (f.hold ≤ s.dev.now →
      ∃ t, exec (.updateComplete u p) s = .next t ∧ t.pending = s.pending ∧ t.sec = s.sec ∧ (t.dev.ctx (upe u p)).busy = r ∧
        (s.dev.finalStatus (upe u p) f ≠ stOK → ∀ g ∈ f.grans, Map.get (t.dev.part p).swatch 0 (16 + g) = 1) ∧
        Completed s.dev t.dev (upe u p) f (token 0)))

/-- VX_EP and VX_CVT issue while the vector engine is idle and the array reserves nothing of theirs; while it does, they wait. They are
then in flight, with their length and what their words spell kept, no beat run and no byte written; an element program takes the cycles
of its beats, a conversion those of its grid. One that breaks a rule, or whose program cannot be read, ends unissued with no byte
written. -/
def Obligations.VectorIssues : Prop :=
  (∀ (s : State) (k : Nat) (c : Cmd) (n : Nat) (d : Dev) (es : List (List Nat)), Issues s (eng 2 k) 0x10 c n d →
    (d.ctx (eng 2 k)).busy = [] → d.exts (eng 2 k) c n = (.ok es, d) →
    (∀ x, (d.core k).epDecode c es = .ok x →
      ((d.core k).holds (epReads x.ops x.prog (d.core k).vlen x.rows) (epWrites x.ops x.prog (d.core k).vlen x.rows) = true →
        exec (.vxEp k) s = .next (s.setDev (d.setWhy (eng 2 k) (heldWhy k)))) ∧
      ((d.core k).holds (epReads x.ops x.prog (d.core k).vlen x.rows) (epWrites x.ops x.prog (d.core k).vlen x.rows) = false →
        ∃ t f j, exec (.vxEp k) s = .next t ∧ t.pending = s.pending ∧ t.sec = s.sec ∧ Started d t.dev (eng 2 k) c n f ∧
          f.cost = epCost x.ops x.prog x.f (d.core k).vlen x.rows ∧ (t.dev.core k).sp = (d.core k).sp ∧
          (t.dev.core k).vx = some j ∧ j.call = .ep x ∧ j.next = 0 ∧ j.part = [] ∧ j.vlen = (d.core k).vlen)) ∧
    (∀ st o, (d.core k).epDecode c es = .error (st, o) →
      ∃ t, exec (.vxEp k) s = .next t ∧ t.pending = s.pending ∧ t.sec = s.sec ∧ (t.dev.core k).sp = (d.core k).sp ∧
        (t.dev.ctx (eng 2 k)).index = (d.ctx (eng 2 k)).index + n ∧ (t.dev.ctx (eng 2 k)).busy = [])) ∧
  (∀ (s : State) (k : Nat) (c : Cmd) (n : Nat) (d : Dev), Issues s (eng 2 k) 0x20 c n d → (d.ctx (eng 2 k)).busy = [] →
    (∀ x, cvtDecode (d.core k).vlen c = some x →
      ((d.core k).holds (x.src.spans x.rows (d.core k).vlen) (x.dst.spans x.rows (d.core k).vlen) = true →
        exec (.vxCvt k) s = .next (s.setDev (d.setWhy (eng 2 k) (heldWhy k)))) ∧
      ((d.core k).holds (x.src.spans x.rows (d.core k).vlen) (x.dst.spans x.rows (d.core k).vlen) = false →
        ∃ t f j, exec (.vxCvt k) s = .next t ∧ t.pending = s.pending ∧ t.sec = s.sec ∧ Started d t.dev (eng 2 k) c n f ∧
          f.space = x.dst.space ∧ f.offset = x.dst.base ∧
          f.cost = 16 + 2 * (x.grid (d.core k).vlen).1 * ceilDiv (x.grid (d.core k).vlen).2 256 ∧
          (t.dev.core k).sp = (d.core k).sp ∧ (t.dev.core k).vx = some j ∧ j.next = 0 ∧ j.vlen = (d.core k).vlen)) ∧
    (cvtDecode (d.core k).vlen c = none →
      ∃ t, exec (.vxCvt k) s = .next t ∧ t.pending = s.pending ∧ t.sec = s.sec ∧ (t.dev.core k).sp = (d.core k).sp ∧
        (t.dev.ctx (eng 2 k)).index = (d.ctx (eng 2 k)).index + n ∧ (t.dev.ctx (eng 2 k)).busy = []))

/-- MV_COPY, MV_COPY2D, MV_TLOAD, MV_SPLOAD and GT_ROWS issue while their engine is idle, once their places are valid and none of them
sleeps, waits for a tracker entry or lies in a locking area: the engine holds the command until it completes. Where all its places are
on this device and the array reserves none of them, nothing of it remains to be read or written; where the array reserves one, its
bytes stand and its plan waits. A command that the checks of R255 refuse ends unissued with no byte of the core's scratchpads
written.

RUN_AHEAD_READ with an empty buffer. It stops, and counts it, at a fence, at a command that orders itself, at one that is too far ahead
and at a depth of 0, in this order; else the buffer takes up the next command of the list with at most 128 KiB of its source, and no
handle and no byte of the core's scratchpads changes. -/
def Obligations.MovesIssue : Prop :=
  ((∀ (s : State) (i : Instr) (k op : Nat) (c : Cmd) (n : Nat) (d : Dev) (es : List (List Nat)) (x : Cmd) (r : Except Nat (Plan × Nat)),
    x = { index := 0, words := es.headD [], handle := none } →
    ((i = .mvCopy k ∧ op = 0x10 ∧ r = d.planCopy (eng 3 k) c) ∨ (i = .mvCopy2d k ∧ op = 0x11 ∧ r = d.planCopy2d (eng 3 k) c x) ∨
      (i = .mvTload k ∧ op = 0x13 ∧ r = d.planTload (eng 3 k) c x) ∨ (i = .mvSpload k ∧ op = 0x18 ∧ r = d.planSpload (eng 3 k) c x)) →
    Issues s (eng 3 k) op c n d → (d.ctx (eng 3 k)).busy = [] → d.exts (eng 3 k) c n = (.ok es, d) →
    (∀ plan off, r = .ok (plan, off) → d.memWait (eng 3 k) (plan.runs.flatten ++ plan.writes) = none →
      ∃ t f, exec i s = .next t ∧ t.pending = s.pending ∧ t.sec = s.sec ∧ Started d t.dev (eng 3 k) c n f ∧
        ((∀ x ∈ plan.runs.flatten ++ plan.writes, ∀ a, x.2 ≠ .far a) →
          (d.planHeld plan = none → f.outs = [] ∧ t.dev.planOf (eng 3 k) = none) ∧
          (d.planHeld plan ≠ none → f.outs = [] ∧ (t.dev.planOf (eng 3 k)).isSome = true ∧ (t.dev.core k).sp = (d.core k).sp ∧
            t.dev.mem.cells = d.mem.cells ∧ t.dev.mem.acc = d.mem.acc))) ∧
    (∀ st, r = .error st →
      ∃ t, exec i s = .next t ∧ t.pending = s.pending ∧ t.sec = s.sec ∧ (t.dev.core k).sp = (d.core k).sp ∧
        (t.dev.ctx (eng 3 k)).index = (d.ctx (eng 3 k)).index + n ∧ (t.dev.ctx (eng 3 k)).busy = [])) ∧
  (∀ (s : State) (k : Nat) (c : Cmd) (n : Nat) (d : Dev) (es : List (List Nat)) (r : Except Nat GtCall), Issues s (eng 4 k) 0x10 c n d →
    (d.ctx (eng 4 k)).busy = [] → d.exts (eng 4 k) c n = (.ok es, d) →
    r = gtCheck d k c { index := 0, words := es.headD [], handle := none } →
    (∀ x g, r = .ok x → g = (d.gather k c x).1 → d.memWait (eng 4 k) (g.runs.flatten ++ g.writes) = none →
      ∃ t f, exec (.gtRows k) s = .next t ∧ t.pending = s.pending ∧ t.sec = s.sec ∧ Started d t.dev (eng 4 k) c n f ∧
        t.dev.get (K.GT_ROWS k) = addSat 64 (d.get (K.GT_ROWS k)) g.rows ∧
        ((∀ y ∈ g.runs.flatten ++ g.writes, ∀ a, y.2 ≠ .far a) →
          d.planHeld { runs := g.runs, xform := .copy, writes := g.writes, fill := g.fill, got := [], src := none } = none →
          f.outs = [] ∧ t.dev.planOf (eng 4 k) = none)) ∧
    (∀ st, r = .error st →
      ∃ t, exec (.gtRows k) s = .next t ∧ t.pending = s.pending ∧ t.sec = s.sec ∧ (t.dev.core k).sp = (d.core k).sp ∧
        (t.dev.ctx (eng 4 k)).index = (d.ctx (eng 4 k)).index + n ∧ (t.dev.ctx (eng 4 k)).busy = []))) ∧
  (∀ (s : State) (k i : Nat) (ws : List Nat) (d : Dev) (c : Cmd) (stops : Nat → Prop), k < 64 → s.stopped = false →
    s.dev.running (eng 3 k) = true → (s.dev.ctx (eng 3 k)).fetched = true → i = (s.dev.ctx (eng 3 k)).index → 1 ≤ i →
    i ≤ (s.dev.ctx (eng 3 k)).count → s.dev.flag (K.RA_ENABLE k) = true → (s.dev.core k).ra = [] → (s.dev.core k).raStop = 0 →
    s.dev.slot (eng 3 k) i = (.ok ws, d) → c = { index := i, words := ws, handle := none } →
    stops = (fun reason => ∃ t, exec (.runAheadRead k) s = .next t ∧ t.pending = s.pending ∧ t.sec = s.sec ∧ (t.dev.core k).ra = [] ∧
      t.dev.get (K.RA_STOPS k (reason - 1)) = addSat 64 (s.dev.get (K.RA_STOPS k (reason - 1))) 1) →
    (c.op = 1 → stops 5) ∧
    (c.op ≠ 1 → c.op ≠ 0 ∧ c.flag 15 = true → stops 6) ∧
    (c.op ≠ 1 → c.op = 0 ∨ c.flag 15 = false → s.dev.now + s.dev.get (K.RA_WINDOW k) < s.dev.release (eng 3 k) (c.w 1) → stops 7) ∧
    (c.op ≠ 1 → c.op = 0 ∨ c.flag 15 = false → s.dev.release (eng 3 k) (c.w 1) ≤ s.dev.now + s.dev.get (K.RA_WINDOW k) →
      (s.dev.get (K.RA_DEPTH k) = 0 → stops 8) ∧
      (0 < s.dev.get (K.RA_DEPTH k) →
        ∃ t y, exec (.runAheadRead k) s = .next t ∧ t.pending = s.pending ∧ t.sec = s.sec ∧ (t.dev.core k).ra = [y] ∧
          y.index = i ∧ y.next = i + slotsOf 3 c.op (c.w 2) ∧ y.bytes.length ≤ 131072 ∧
          (∀ q, t.dev.hq k q = s.dev.hq k q) ∧ (t.dev.core k).sp = (s.dev.core k).sp)))

/-- MV_COPY and MV_COPY2D between scratchpads of their core, which has no unreadable word, and none of whose granules that they reach is
reserved: the destination, row for row, holds the source's bytes as they were, and no other byte of the core's scratchpads changes. -/
def Obligations.CopyCopies : Prop :=
  (∀ (s : State) (k : Nat) (c : Cmd) (n : Nat) (d : Dev) (ss ds sa da len : Nat), Issues s (eng 3 k) 0x10 c n d →
    (d.ctx (eng 3 k)).busy = [] → (d.core k).poison = [] → (d.core k).flaw = [] → d.get (K.DOM_STATE k) = 0 → n = 1 →
    ss = bits (c.w 2) 31 28 → ds = bits (c.w 2) 27 24 → sa = c.pair 4 → da = c.pair 6 → len = bits (c.w 3) 23 0 + 1 →
    c.flag 14 = false → c.flag 13 = false → ss < 4 → ds < 4 → sa + len ≤ spSize ss → da + len ≤ spSize ds →
    ss ≠ ds ∨ sa + len ≤ da ∨ da + len ≤ sa →
    (∀ i, i < len → (d.core k).heldRead ss (sa + i) = false ∧ (d.core k).heldWrite ds (da + i) = false) →
    ∃ t, exec (.mvCopy k) s = .next t ∧ t.pending = s.pending ∧ t.sec = s.sec ∧
      (∀ i, i < len → (t.dev.core k).byte ds (da + i) = (d.core k).byte ss (sa + i)) ∧
      (∀ m o, o < spSize m → ¬(m = ds ∧ da ≤ o ∧ o < da + len) → (t.dev.core k).byte m o = (d.core k).byte m o) ∧
      t.dev.mem.cells = d.mem.cells ∧ t.dev.mem.acc = d.mem.acc) ∧
  (∀ (s : State) (k : Nat) (c : Cmd) (n : Nat) (d : Dev) (es : List (List Nat)) (x : Cmd) (ss ds sa da len rows sp dp : Nat),
    Issues s (eng 3 k) 0x11 c n d → (d.ctx (eng 3 k)).busy = [] → d.exts (eng 3 k) c n = (.ok es, d) →
    x = { index := 0, words := es.headD [], handle := none } →
    (d.core k).poison = [] → (d.core k).flaw = [] → d.get (K.DOM_STATE k) = 0 →
    ss = bits (c.w 2) 31 28 → ds = bits (c.w 2) 27 24 → sa = c.pair 4 → da = c.pair 6 → len = bits (c.w 3) 23 0 + 1 →
    rows = bits (x.w 2) 31 16 + 1 → sp = x.w 4 → dp = x.w 5 →
    c.flag 14 = false → c.flag 13 = false → ss < 4 → ds < 4 →
    (∀ i, i < rows → sa + i * sp + len ≤ spSize ss ∧ da + i * dp + len ≤ spSize ds) →
    (∀ i j, i < j → j < rows → da + i * dp + len ≤ da + j * dp ∨ da + j * dp + len ≤ da + i * dp) →
    ss ≠ ds ∨ (∀ i j, i < rows → j < rows → sa + i * sp + len ≤ da + j * dp ∨ da + j * dp + len ≤ sa + i * sp) →
    (∀ i a, i < rows → a < len → (d.core k).heldRead ss (sa + i * sp + a) = false ∧ (d.core k).heldWrite ds (da + i * dp + a) = false) →
    ∃ t, exec (.mvCopy2d k) s = .next t ∧ t.pending = s.pending ∧ t.sec = s.sec ∧
      (∀ i a, i < rows → a < len → (t.dev.core k).byte ds (da + i * dp + a) = (d.core k).byte ss (sa + i * sp + a)) ∧
      (∀ m o, o < spSize m → ¬(m = ds ∧ ∃ i, i < rows ∧ da + i * dp ≤ o ∧ o < da + i * dp + len) →
        (t.dev.core k).byte m o = (d.core k).byte m o) ∧
      t.dev.mem.cells = d.mem.cells ∧ t.dev.mem.acc = d.mem.acc)

/-- UP_APPLY and UP_DERIVE issue while their context is idle, once their operands are valid, in places of their own, awake and with a
tracker entry. UP_APPLY runs the optimiser that it names, a program's words read first, over its elements; the context holds the
command until it completes; with its parameters unreadable it ends unissued. UP_DERIVE counts the elements of a copy of kind 0 or 1
that it derives, and is held likewise in every kind. -/
def Obligations.UpdatesIssue : Prop :=
  (∀ (s : State) (u p : Nat) (c : Cmd) (n : Nat) (d d' : Dev) (es : List (List Nat)) (a : Apply) (rd wr : List (List Loc)) (hy rs : List Loc)
    (bad : Bool), Issues s (upe u p) 0x10 c n d → (d.ctx (upe u p)).busy = [] → d.exts (upe u p) c n = (.ok es, d) →
    a = decodeApply c es → a.fieldsOk = true → d.beforeDecide (upe u p) (c.w 1) = false →
    d.upSpans (upe u p) ((if a.reads 0 then [(a.grad, 68 * ceilDiv a.n 32)] else []) ++
      (if a.masked then [(a.mask, 4 * ceilDiv a.n 32)] else [])) = .ok rd →
    d.upSpans (upe u p) ((if a.reads 1 then [(a.master, 4 * a.n)] else []) ++ a.slots.map (fun b => (b, a.ssz * a.n)) ++ a.workSpans) = .ok wr →
    d.upSpan (upe u p) a.hyper 64 = .ok hy →
    d.memWait (upe u p) ((rd.flatten ++ wr.flatten ++ hy).map (fun l => (0, l))) = none →
    d.upRead (upe u p) c.index c.op hy = (bad, d') →
    rs = rd.flatten ++ (wr.take ((if a.reads 1 then 1 else 0) + a.slots.length)).flatten →
    (a.opt ≠ 3 → anyMeet wr = false → bad = false → ∃ t f, exec (.upApply u p) s = .next t ∧ t.pending = s.pending ∧ t.sec = s.sec ∧
      t.dev = (d'.applyRun (upe u p) c n a (d'.hyper (upe u p) a.hyper) [] rs).holdIssued (upe u p) c.index ∧
      Started d t.dev (upe u p) c n f) ∧
    (∀ (h : Hyper) (pl : List Loc) (d2 : Dev) (wl : List (List Loc)), a.opt = 3 → bad = false → h = d'.hyper (upe u p) a.hyper →
      h.prog ≠ 0 → 1 ≤ h.plen → h.plen ≤ 32 → d'.upSpan (upe u p) h.prog (4 * h.plen) = .ok pl →
      d'.upRead (upe u p) c.index c.op pl = (false, d2) →
      d2.upSpans (upe u p) ((a.written (d2.upProgram (upe u p) h)).map (fun k => (a.base k, 4 * a.n)) ++ a.workSpans) = .ok wl →
      (d2.upProgram (upe u p) h).all (upUopOk a.has) = true → anyMeet wl = false →
      ∃ t f, exec (.upApply u p) s = .next t ∧ t.pending = s.pending ∧ t.sec = s.sec ∧
        t.dev = (d2.applyRun (upe u p) c n a h (d2.upProgram (upe u p) h) rs).holdIssued (upe u p) c.index ∧
        Started d t.dev (upe u p) c n f) ∧
    (a.opt = 3 ∨ anyMeet wr = false → bad = true → ∃ t, exec (.upApply u p) s = .next t ∧ t.pending = s.pending ∧ t.sec = s.sec ∧
      (t.dev.ctx (upe u p)).index = (d.ctx (upe u p)).index + n ∧ (t.dev.ctx (upe u p)).busy = [])) ∧
  (∀ (s : State) (u p : Nat) (c : Cmd) (n : Nat) (d : Dev) (es : List (List Nat)) (v : Derive) (ml bl el sl : List Loc),
    Issues s (upe u p) 0x20 c n d → (d.ctx (upe u p)).busy = [] → d.exts (upe u p) c n = (.ok es, d) → v = decodeDerive c es →
    isMx v.fmt = true → (if 2 ≤ v.kind then v.sparse ≠ 0 ∧ v.mask ≠ 0 else v.sparse = 0) → v.master ≠ 0 → v.dst ≠ 0 → v.dscale ≠ 0 →
    d.beforeDecide (upe u p) (c.w 1) = false →
    d.upSpan (upe u p) v.master (4 * v.m * v.k) = .ok ml → d.upSpan (upe u p) v.spans.2.2.1 v.spans.2.2.2 = .ok bl →
    d.upSpan (upe u p) v.spans.1.1 v.spans.1.2 = .ok el → d.upSpan (upe u p) v.spans.2.1.1 v.spans.2.1.2 = .ok sl →
    locsMeet el sl = false → d.memWait (upe u p) ((ml ++ bl ++ el ++ sl).map (fun l => (0, l))) = none →
    ∃ t f, exec (.upDerive u p) s = .next t ∧ t.pending = s.pending ∧ t.sec = s.sec ∧ Started d t.dev (upe u p) c n f ∧
      (v.kind < 2 → t.dev.get (K.UP_ELEMENTS u) = addSat 64 (d.get (K.UP_ELEMENTS u)) (v.m * v.k)))

/-- RD_BUCKET and RD_REPASS issue on a free channel of their engine and partition, in sequence, the SEQ not aborted: the channel holds
the operation, and CH_NEXT_SEQ counts on. A bucket without a ready queue, where no ledger is replayed, is included at once; one with a
ready queue waits for its decision.

BUCKET_COMPLETE, within the attempt and with no message lost. A bucket completes when its contribution is decided, every item has come
and gone, and nothing that it sent is unacknowledged; a re-pass when its last round is over. The channel is then free. While
something is unacknowledged or undecided nothing happens. -/
def Obligations.Buckets : Prop :=
  ((∀ (s : State) (r p : Nat) (c : Cmd) (n : Nat) (d : Dev) (es : List (List Nat)) (x : Cmd) (ch : Nat) (b : Bucket) (ls : List Loc),
    Issues s (rde r p) 0x10 c n d → d.exts (rde r p) c n = (.ok es, d) → x = { index := 0, words := es.headD [], handle := none } →
    ch = bits (c.w 0) 12 8 → b = decodeBucket c x → d.bucketChecks (rde r p) c x ch b = .ok ls → (d.chan ch).op = none →
    d.memWait (rde r p) (ls.map (fun l => (0, l))) = none → (d.chan ch).aborted.contains b.seq = false →
    d.get (K.REPLAY_BASE p) = 0 →
    ∃ t o, exec (.rdBucket r p) s = .next t ∧ t.pending = s.pending ∧ t.sec = s.sec ∧ (t.dev.chan ch).op = some o ∧
      o.bk.seq = b.seq ∧ o.bk.n = b.n ∧ o.bk.src = b.src ∧ o.bk.dst = b.dst ∧ o.repass = false ∧ o.eng = r ∧ o.part = p ∧
      o.fate = (if bits (c.w 2) 15 8 = 255 then some true else none) ∧
      t.dev.get (K.CH_NEXT_SEQ ch) = (b.seq + 1) % 2 ^ 16 ∧ t.dev.get (K.CH_STATE ch) = 1 ∧
      (t.dev.ctx (rde r p)).index = (d.ctx (rde r p)).index + n) ∧
  (∀ (s : State) (r p : Nat) (c : Cmd) (n : Nat) (d : Dev) (ch seq : Nat), Issues s (rde r p) 0x11 c n d →
    ch = bits (c.w 0) 12 8 → seq = bits (c.w 2) 31 16 → d.repassChecks (rde r p) c = .ok () → (d.chan ch).op = none →
    (d.chan ch).aborted.contains seq = false →
    ∃ t o, exec (.rdRepass r p) s = .next t ∧ t.pending = s.pending ∧ t.sec = s.sec ∧ (t.dev.chan ch).op = some o ∧
      o.bk.seq = seq ∧ o.repass = true ∧ t.dev.get (K.CH_NEXT_SEQ ch) = (seq + 1) % 2 ^ 16 ∧ t.dev.get (K.CH_STATE ch) = 2 ∧
      (t.dev.ctx (rde r p)).index = (d.ctx (rde r p)).index + n)) ∧
  (∀ (s : State) (ch : Nat) (o : RingOp), ch < 32 → s.stopped = false → (s.dev.chan ch).op = some o → o.part < 16 → o.eng < 8 →
    o.lost = false → o.ended = false →
    (s.dev.sentAll ch o.bk.seq = false → exec (.bucketComplete ch) s = .next s) ∧
    (s.dev.sentAll ch o.bk.seq = true → o.fl.hold ≤ s.dev.now → o.repass = false → o.fate.isSome = true → s.dev.bucketDone ch o = true →
      ∃ t, exec (.bucketComplete ch) s = .next t ∧ t.pending = s.pending ∧ t.sec = s.sec ∧ (t.dev.chan ch).op = none ∧
        (t.dev.chan ch).done = o.bk.seq + 1 ∧ (t.dev.chan ch).buckets = (s.dev.chan ch).buckets ++ [o.bk] ∧
        t.dev.get (K.CH_STATE ch) = 0 ∧ t.dev.get (K.CH_BUCKETS ch) = addSat 64 (s.dev.get (K.CH_BUCKETS ch)) 1) ∧
    (s.dev.sentAll ch o.bk.seq = true → o.fl.hold ≤ s.dev.now → o.repass = false → o.fate = none → exec (.bucketComplete ch) s = .next s) ∧
    (s.dev.sentAll ch o.bk.seq = true → o.fl.hold ≤ s.dev.now → o.repass = true → o.stage = 2 →
      ∃ t, exec (.bucketComplete ch) s = .next t ∧ t.pending = s.pending ∧ t.sec = s.sec ∧ (t.dev.chan ch).op = none ∧
        (t.dev.chan ch).done = o.bk.seq + 1 ∧ t.dev.get (K.CH_STATE ch) = 0 ∧ t.dev.get (K.CH_OWED ch) = 0))

/-- CONTRIBUTION_READY: a bucket's own contribution is included with an OK or LATE handle of its ready queue, excluded with another; without a
handle nothing happens. CONTRIB_DEADLINE, not before it: the contribution is held in a schedule of mode 0 and excluded in the others, and is
then late. HOLD_LIMIT_EXPIRE, not before it: a held one is excluded. LATE_CONTRIBUTION takes the handle of the oldest late one; one that was lost
is only taken, another leaves the list. -/
def Obligations.ContributionsDecided : Prop :=
  ∀ (s : State) (ch : Nat) (o : RingOp), ch < 32 → s.stopped = false → (s.dev.chan ch).op = some o → o.part < 16 → o.eng < 8 →
    s.dev.get (K.CH_PART ch) = o.part → s.dev.get (K.CH_RDE ch) = o.eng →
    (∀ h d, o.repass = false → o.fate = none → o.readyQ ≠ 255 → (s.dev.chan ch).late = [] →
      s.dev.popReady o.part o.bound o.readyQ = some (h, d) →
      ∃ t o', exec (.contributionReady ch) s = .next t ∧ t.pending = s.pending ∧ t.sec = s.sec ∧ (t.dev.chan ch).op = some o' ∧
        o'.fate = some (decide (h.status = stOK ∨ h.status = stLATE)) ∧ o'.bk.seq = o.bk.seq) ∧
    (s.dev.popReady o.part o.bound o.readyQ = none → exec (.contributionReady ch) s = .next s) ∧
    (o.repass = false → o.fate = none → o.holding = false → o.replay = none →
      (s.dev.now < s.dev.get (K.EPOCH_NOW o.part) + o.contrib → exec (.contribDeadline ch) s = .next s) ∧
      (s.dev.get (K.EPOCH_NOW o.part) + o.contrib ≤ s.dev.now → s.dev.get (K.MODE o.part) = 0 →
        ∃ t o', exec (.contribDeadline ch) s = .next t ∧ t.pending = s.pending ∧ t.sec = s.sec ∧ (t.dev.chan ch).op = some o' ∧
          o' = { o with holding := true, bk := { o.bk with held := true } } ∧ t.dev.get (K.CH_STATE ch) = 3 ∧
          t.dev.get (K.CH_HELD ch) = addSat 64 (s.dev.get (K.CH_HELD ch)) 1) ∧
      (s.dev.get (K.EPOCH_NOW o.part) + o.contrib ≤ s.dev.now → s.dev.get (K.MODE o.part) ≠ 0 →
        ∃ t o', exec (.contribDeadline ch) s = .next t ∧ t.pending = s.pending ∧ t.sec = s.sec ∧ (t.dev.chan ch).op = some o' ∧
          o'.fate = some false ∧ (t.dev.chan ch).late.length = (s.dev.chan ch).late.length + 1)) ∧
    (o.holding = true →
      (s.dev.now < s.dev.get (K.EPOCH_NOW o.part) + (o.contrib + s.dev.get (K.CH_HOLD_LIMIT ch)) →
        exec (.holdLimitExpire ch) s = .next s) ∧
      (s.dev.get (K.EPOCH_NOW o.part) + (o.contrib + s.dev.get (K.CH_HOLD_LIMIT ch)) ≤ s.dev.now →
        ∃ t o', exec (.holdLimitExpire ch) s = .next t ∧ t.pending = s.pending ∧ t.sec = s.sec ∧ (t.dev.chan ch).op = some o' ∧
          o'.fate = some false ∧ o'.holding = false)) ∧
    (∀ x r h d, (s.dev.chan ch).late = x :: r → s.dev.popReady o.part x.bound x.readyQ = some (h, d) → x.lost = true →
      exec (.lateContribution ch) s = .next (s.setDev d)) ∧
    (∀ x r h d, (s.dev.chan ch).late = x :: r → s.dev.popReady o.part x.bound x.readyQ = some (h, d) → x.lost = false →
      ∃ t, exec (.lateContribution ch) s = .next t ∧ t.pending = s.pending ∧ t.sec = s.sec ∧ (t.dev.chan ch).late = r ∧
        (t.dev.chan ch).op = some o)

/-- Messages of the ring (SCALE, RS, AG, LIST, REPASS_RS, REPASS_AG, ABORT). One that no channel takes is recorded; one of another attempt, or
behind the channel, is discarded and counted; one that comes before its operation is held; one for the operation in flight, with none waiting
before it, is taken up at once and counted; an ABORT ends the operation and frees the channel. -/
def Obligations.RingReceives : Prop :=
  ∀ (s : State) (l kind : Nat) (i : Instr) (m : Msg) (d : Dev) (h : RingHdr), Arrives s l kind m d → h = ringHdr m.payload →
    ((i = .scale l ∧ kind = 1) ∨ (i = .rs l ∧ kind = 2) ∨ (i = .ag l ∧ kind = 3) ∨ (i = .list l ∧ kind = 4) ∨
      (i = .repassRs l ∧ kind = 5) ∨ (i = .repassAg l ∧ kind = 6) ∨ (i = .abort l ∧ kind = 7)) →
    (d.msgChannel m = none → exec i s = .next (s.setDev (d.strayMsg l m))) ∧
    (∀ ch c, d.msgChannel m = some ch → c = d.chan ch → d.get (K.CH_RDE ch) < 8 →
      (h.att ≠ d.get (K.ATTEMPT (d.get (K.CH_PART ch))) % 256 ∨ h.seq < c.done ∨ c.aborted.contains h.seq = true →
        ∃ t, exec i s = .next t ∧ t.pending = s.pending ∧ t.sec = s.sec ∧ t.dev.chans = d.chans ∧
          t.dev.get (K.CH_DISCARDS ch) = addSat 64 (d.get (K.CH_DISCARDS ch)) 1) ∧
      (h.att = d.get (K.ATTEMPT (d.get (K.CH_PART ch))) % 256 → c.done ≤ h.seq → c.aborted.contains h.seq = false →
        (kind ≠ 7 → h.seq ≤ c.done + 1 → c.rxBytes + m.payload.length ≤ d.get (K.CH_RX_BYTES ch) →
          (c.op = none → ∃ t, exec i s = .next t ∧ t.pending = s.pending ∧ t.sec = s.sec ∧ (t.dev.chan ch).rx = c.rx ++ [m] ∧
            (t.dev.chan ch).op = none) ∧
          (∀ o, c.op = some o → o.ended = false → o.repass = false → o.fate.isSome = true → h.seq = o.bk.seq → c.rx = [] → kind ≤ 3 →
            ∃ t o', exec i s = .next t ∧ t.pending = s.pending ∧ t.sec = s.sec ∧ (t.dev.chan ch).rx = [] ∧
              (t.dev.chan ch).op = some o' ∧ o'.scaleN = o.scaleN + (if kind = 1 then max 1 h.count else 0) ∧
              o'.rsN = o.rsN + (if kind = 2 then max 1 h.count else 0) ∧ o'.agN = o.agN + (if kind = 3 then max 1 h.count else 0) ∧
              t.dev.get (K.RD_MESSAGES (d.get (K.CH_RDE ch))) = addSat 64 (d.get (K.RD_MESSAGES (d.get (K.CH_RDE ch)))) 1) ∧
          (∀ o, c.op = some o → o.ended = false → o.repass = true → h.round = o.round → h.seq = o.bk.seq → c.rx = [] →
            (kind = 4 ∧ o.stage = 0) ∨ (4 < kind ∧ o.stage = 1) →
            ∃ t o', exec i s = .next t ∧ t.pending = s.pending ∧ t.sec = s.sec ∧ (t.dev.chan ch).rx = [] ∧
              (t.dev.chan ch).op = some o' ∧ o'.bk.seq = o.bk.seq ∧
              t.dev.get (K.RD_MESSAGES (d.get (K.CH_RDE ch))) = addSat 64 (d.get (K.RD_MESSAGES (d.get (K.CH_RDE ch)))) 1)) ∧
        (kind = 7 → h.seq ≤ c.done + 1 → ∀ o, c.op = some o → o.ended = false → o.part < 16 → o.eng < 8 → h.seq = o.bk.seq →
          ∃ t, exec i s = .next t ∧ t.pending = s.pending ∧ t.sec = s.sec ∧ (t.dev.chan ch).op = none ∧
            (t.dev.chan ch).aborted = c.aborted ++ [h.seq] ∧ t.dev.get (K.CH_STATE ch) = 0)))

/-! ## Memories, records, numbers -/

/-- Memories read what was written. A scratchpad write of distinct bytes changes them alone; one into a part of an unreadable word
makes the word readable, the rest of it zero, and is reported; a byte of HBM reads as it was stored, an accumulation area adds words. -/
def Obligations.MemoriesHold : Prop :=
  (∀ (k : Core) (mem : Nat) (bs : List (Nat × Byte)), mem < 4 → (∀ e ∈ bs, e.1 < spSize mem) → (bs.map Prod.fst).Nodup →
    k.poison = [] → k.flaw = [] →
    (∀ e ∈ bs, (k.write mem bs).1.byte mem e.1 = e.2) ∧
    (∀ m o, m < 4 → o < spSize m → ¬(m = mem ∧ o ∈ bs.map Prod.fst) → (k.write mem bs).1.byte m o = k.byte m o) ∧
    (k.write mem bs).2 = [] ∧ (k.write mem bs).1.poison = []) ∧
  (∀ (k : Core) (mem o : Nat) (b : Byte), mem < 4 → mem ≠ 2 → o < spSize mem → k.bad mem o = true →
    (k.write mem [(o, b)]).2 = [o / 8] ∧ (k.write mem [(o, b)]).1.bad mem o = false ∧ (k.write mem [(o, b)]).1.byte mem o = b ∧
    ∀ i, i / 8 = o / 8 → i ≠ o → (k.write mem [(o, b)]).1.byte mem i = 0) ∧
  (∀ (d : Dev) (x : Nat) (b : Byte), d.tableAt x = none →
    (d.setHbmByte x b).hbmByte x = b ∧ ∀ y, y ≠ x → (d.setHbmByte x b).hbmByte y = d.hbmByte y) ∧
  (∀ (d : Dev) (o v : Nat), o % 4 = 0 → v < 2 ^ 32 → Map.get d.mem.accBad false (o / 128) = false →
    ofLE ((List.range 4).map (fun i => (Map.get (d.writeAcc true ((List.range 4).map (fun i => (o + i, BitVec.ofNat 8 (v / 256 ^ i))))).mem.acc
      0 (o + i)).toNat)) = f32Add (ofLE ((List.range 4).map (fun i => (Map.get d.mem.acc 0 (o + i)).toNat))) v)

/-- A completion record on this device: sixteen bytes at the ring's position, which then moves on by one within the ring. They give the command's
index, its status, the engine's code and the tick.

The error log: a record is the newest of the log, numbered by LOG_COUNT, with the time of its event, and ALERT_N goes low; of more
than 64 in a millisecond the others are counted alone. -/
def Obligations.RecordsKept : Prop :=
  (∀ (d d' : Dev) (e : Eng) (index op status gen a : Nat) (xs : List Nat), e.ok = true → ¬(e.k = 3 ∧ op = 0x18) →
    gen = (d.ctx e.home).gen → index < 2 ^ 32 → d.now < 2 ^ 64 → status < 256 → d.ringSlot e gen = (a, d') →
    d.ringLater e gen = [] → bits a 63 52 = d.get K.DEVICE_NUMBER →
    d'.xlateRun (d'.engWho e) a 16 = .ok (xs.map Loc.hbm) → xs.Nodup → d'.mem.poison = [] → (∀ x ∈ xs, d'.tableAt x = none) →
    a = d.get (Dev.ringObjs e).1 + 16 * d.get (Dev.ringObjs e).2.2 ∧
    (∀ i x, xs[i]? = some x → ((d.record e index op status gen).hbmByte x).toNat =
      (toLE 4 index ++ [status, e.k, 0, 0] ++ toLE 8 d.now).getD i 0) ∧
    (d.record e index op status gen).get (Dev.ringObjs e).2.2 =
      (d.get (Dev.ringObjs e).2.2 + 1) % max 1 (d.get (Dev.ringObjs e).2.1)) ∧
  (∀ (d : Dev) (i : RecInfo), i.part = 255 ∨ i.part < 16 →
    ((d.log.ms = d.now / 62500 → d.log.inMs < 64) →
      ∃ r, (d.file i).log.recs = (r :: d.log.recs).take 4096 ∧ (d.file i).log.bkp = (r :: d.log.bkp).take 64 ∧ r.seq = d.get K.LOG_COUNT ∧
        r.tick = d.now ∧ r.cls = i.cls ∧ r.syndrome = i.syndrome ∧ r.aux = i.aux ∧ r.unit = i.unit ∧ r.status = i.status ∧
        (d.file i).get K.LOG_COUNT = addSat 64 (d.get K.LOG_COUNT) 1 ∧ (d.file i).log.alert = true) ∧
    (d.log.ms = d.now / 62500 → 64 ≤ d.log.inMs →
      (d.file i).log.recs = d.log.recs ∧ (d.file i).get K.LOG_DROPPED = addSat 64 (d.get K.LOG_DROPPED) 1 ∧
      (d.file i).get K.LOG_COUNT = d.get K.LOG_COUNT))

/-- Numbers. FP32 bits are the value that they name, whatever it is but NaN, and NaN becomes the canonical one; a sum does not
depend on the order of its two operands; a hop of the ring adds nothing for +0, nor for what is too small, and stays within 15 bits, without
a flag where its sum is 0; a Madder-16 element is
exact in FP32; a block scale is a power of two, and 0xFF makes a block NaN. -/
def Obligations.NumbersExact : Prop :=
  (∀ w, w < 2 ^ 32 → f32 w ≠ .nan → toF32 (f32 w) = w) ∧ (∀ w, f32 w = .nan → toF32 (f32 w) = 0x7FC00000) ∧
  (∀ w, w < 2 ^ 16 → bf16 w ≠ .nan → toBf16 (bf16 w) = w ∧ toF32 (bf16 w) = 2 ^ 16 * w) ∧
  (∀ a b, f32Add a b = f32Add b a) ∧
  (∀ (e q : Int), -32767 ≤ q → q ≤ 32767 → madderHop e 0 q = (q, false, false)) ∧
  (∀ (e q : Int) (g : Nat), -32767 ≤ (madderHop e g q).1 ∧ (madderHop e g q).1 ≤ 32767) ∧
  (∀ e q : Int, -112 ≤ e → e ≤ 112 → -32767 ≤ q → q ≤ 32767 →
    (f32 (madderVal e q)).eq (.num (decide (q < 0)) q.natAbs (e - 15)) = true) ∧
  (∀ (e : Int) (g : Nat) (s : Bool) (m : Nat) (x : Int), f32 g = .num s m x → (Fv.num false m x).lt (.num false 1 (e - 32)) = true →
    madderIn e g = (0, false, false)) ∧ (∀ a q : Int, (madderOut a q).1 = 0 → (madderOut a q).2 = false) ∧
  (∀ x, x ≤ 254 → scaleVal x = .num false 1 ((x : Int) - 127)) ∧ (∀ fmt w, mxVal fmt w 255 = .nan) ∧
  (∀ rm fmt vs, vs.any Fv.nonfinite = true → quantBlock rm fmt vs = (255, vs.map (fun _ => 0)))
end

