-- ==== Sys2Proof/Laws/Map.lean ====
section
/-! SUPPORT. What a write to sparse data does to a read, and that writes keep the canonical form. -/
namespace Sys2Proof.Machine

variable {β : Type}

@[simp] theorem Map.get_nil (d : β) (k : Nat) : Map.get ([] : Map β) d k = d := rfl

theorem Map.get_ins_self (m : Map β) (d v : β) (k : Nat) : Map.get (Map.ins m k v) d k = v := by
  induction m <;> grind [Map.ins, Map.get]

theorem Map.get_ins_ne (m : Map β) (d v : β) {k j : Nat} (h : j ≠ k) : Map.get (Map.ins m k v) d j = Map.get m d j := by
  induction m <;> grind [Map.ins, Map.get]

theorem Map.get_filter_of_false (m : Map β) (d : β) (k : Nat) (f : Nat × β → Bool)
    (h : ∀ v, f (k, v) = false) : Map.get (m.filter f) d k = d := by
  induction m <;> grind [Map.get]

theorem Map.get_filter_of_true (m : Map β) (d : β) (k : Nat) (f : Nat × β → Bool)
    (h : ∀ v, f (k, v) = true) : Map.get (m.filter f) d k = Map.get m d k := by
  induction m <;> grind [Map.get]

@[simp] theorem Map.get_del_self (m : Map β) (d : β) (k : Nat) : Map.get (Map.del m k) d k = d :=
  Map.get_filter_of_false m d k _ (by simp)

theorem Map.get_del_ne (m : Map β) (d : β) {k j : Nat} (h : j ≠ k) : Map.get (Map.del m k) d j = Map.get m d j :=
  Map.get_filter_of_true m d j _ (by simp [h])

theorem Map.get_delRange_in (m : Map β) (d : β) {lo hi k : Nat} (h : lo ≤ k) (h' : k < hi) :
    Map.get (Map.delRange m lo hi) d k = d :=
  Map.get_filter_of_false m d k _ (by simp; omega)

theorem Map.get_delRange_out (m : Map β) (d : β) {lo hi k : Nat} (h : k < lo ∨ hi ≤ k) :
    Map.get (Map.delRange m lo hi) d k = Map.get m d k :=
  Map.get_filter_of_true m d k _ (by simp; omega)

@[simp] theorem Map.get_set_self [DecidableEq β] (m : Map β) (d v : β) (k : Nat) : Map.get (Map.set m d k v) d k = v := by
  unfold Map.set
  split
  · rename_i h; subst h; simp
  · exact Map.get_ins_self m d v k

theorem Map.get_set_ne [DecidableEq β] (m : Map β) (d v : β) {d' : β} {k j : Nat} (h : j ≠ k) :
    Map.get (Map.set m d k v) d' j = Map.get m d' j := by
  grind [Map.set, Map.del, Map.get_ins_ne, Map.get_filter_of_true]

/-! ## The canonical form -/

theorem Map.rising_mono {m : Map β} {a b : Nat} (h : Map.rising b m = true) (hab : a ≤ b) : Map.rising a m = true := by
  cases m <;> grind [Map.rising]

theorem Map.rising_filter (f : Nat × β → Bool) {m : Map β} {a : Nat} (h : Map.rising a m = true) :
    Map.rising a (m.filter f) = true := by
  induction m generalizing a with
  | nil => rfl
  | cons e r ih => grind [Map.rising, Map.rising_mono]

theorem Map.rising_ins {m : Map β} {a k : Nat} (v : β) (h : Map.rising a m = true) (hk : a ≤ k) :
    Map.rising a (Map.ins m k v) = true := by
  induction m generalizing a <;> grind [Map.ins, Map.rising]

theorem Map.rising_set [DecidableEq β] {m : Map β} (d v : β) (k : Nat) (h : Map.rising 0 m = true) :
    Map.rising 0 (Map.set m d k v) = true := by
  unfold Map.set
  split
  · exact Map.rising_filter _ h
  · exact Map.rising_ins v h (Nat.zero_le k)

theorem Map.mem_ins {m : Map β} {k : Nat} {v : β} {e : Nat × β} (h : e ∈ Map.ins m k v) : e = (k, v) ∨ e ∈ m := by
  induction m <;> grind [Map.ins]

theorem Map.mem_set [DecidableEq β] {m : Map β} {d v : β} {k : Nat} {e : Nat × β} (h : e ∈ Map.set m d k v) :
    (e = (k, v) ∧ v ≠ d) ∨ e ∈ m := by
  grind [Map.set, Map.del, Map.mem_ins]

theorem Map.wf_iff [DecidableEq β] (d : β) (m : Map β) :
    Map.wf d m = true ↔ Map.rising 0 m = true ∧ ∀ e ∈ m, e.2 ≠ d := by
  simp [Map.wf]

theorem Map.wf_set [DecidableEq β] {d : β} {m : Map β} (k : Nat) (v : β) (h : Map.wf d m = true) :
    Map.wf d (Map.set m d k v) = true := by
  rw [Map.wf_iff] at h ⊢
  refine ⟨Map.rising_set d v k h.1, fun e he => ?_⟩
  rcases Map.mem_set he with ⟨rfl, hv⟩ | he
  · exact hv
  · exact h.2 e he

theorem Map.wf_filter [DecidableEq β] {d : β} {m : Map β} (f : Nat × β → Bool) (h : Map.wf d m = true) :
    Map.wf d (m.filter f) = true := by
  rw [Map.wf_iff] at h ⊢
  exact ⟨Map.rising_filter f h.1, fun e he => h.2 e (List.mem_filter.mp he).1⟩

theorem Map.wf_del [DecidableEq β] {d : β} {m : Map β} (k : Nat) (h : Map.wf d m = true) : Map.wf d (Map.del m k) = true :=
  Map.wf_filter _ h

theorem Map.wf_delRange [DecidableEq β] {d : β} {m : Map β} (lo hi : Nat) (h : Map.wf d m = true) :
    Map.wf d (Map.delRange m lo hi) = true := Map.wf_filter _ h

end Sys2Proof.Machine
end

