-- ==== Sys2Proof/Laws/State.lean ====
section
/-! SUPPORT. What an update of the state leaves, field by field, and what a read of what was written gives. -/
namespace Sys2Proof.Machine

variable (d : Dev) (s : State)

/-! ## The state -/

@[simp] theorem State.setDev_pending (x : Dev) : (s.setDev x).pending = s.pending := rfl
@[simp] theorem State.setDev_sec (x : Dev) : (s.setDev x).sec = s.sec := rfl
@[simp] theorem State.setDev_dev (x : Dev) : (s.setDev x).dev = x := rfl
@[simp] theorem State.setSec_pending (x : Sec) : (s.setSec x).pending = s.pending := rfl
@[simp] theorem State.setSec_sec (x : Sec) : (s.setSec x).sec = x := rfl
@[simp] theorem State.setSec_dev (x : Sec) : (s.setSec x).dev = s.dev := rfl
@[simp] theorem State.setDev_setDev (x y : Dev) : (s.setDev x).setDev y = s.setDev y := rfl
@[simp] theorem State.setDev_self : s.setDev s.dev = s := rfl

/-! ## Objects -/

@[simp] theorem Dev.get_put_self (o : Obj) (v : Nat) : (d.put o v).get o = v := by simp [Dev.get, Dev.put]

theorem Dev.get_put_ne {o o' : Obj} (v : Nat) (h : o'.key ≠ o.key) : (d.put o v).get o' = d.get o' := by
  simp [Dev.get, Dev.put, Map.get_set_ne _ _ _ h]

/-- A read of an object after a write of one. -/
theorem Dev.get_put (o o' : Obj) (v : Nat) :
    (d.put o v).get o' = if o'.key = o.key then Map.get (Map.set d.objs o.dflt o.key v) o'.dflt o'.key else d.get o' := by
  split
  · simp [Dev.get, Dev.put]
  · rename_i h; exact Dev.get_put_ne d v h

/-! ## The device's fields -/

@[simp] theorem Dev.put_free (o : Obj) (v : Nat) : (d.put o v).free = d.free := rfl
@[simp] theorem Dev.put_now (o : Obj) (v : Nat) : (d.put o v).now = d.now := rfl
@[simp] theorem Dev.put_cyc (o : Obj) (v : Nat) : (d.put o v).cyc = d.cyc := rfl
@[simp] theorem Dev.put_doms (o : Obj) (v : Nat) : (d.put o v).doms = d.doms := rfl
@[simp] theorem Dev.put_sessions (o : Obj) (v : Nat) : (d.put o v).sessions = d.sessions := rfl
@[simp] theorem Dev.put_snap (o : Obj) (v : Nat) : (d.put o v).snap = d.snap := rfl
@[simp] theorem Dev.put_cores (o : Obj) (v : Nat) : (d.put o v).cores = d.cores := rfl
@[simp] theorem Dev.put_mem (o : Obj) (v : Nat) : (d.put o v).mem = d.mem := rfl
@[simp] theorem Dev.put_parts (o : Obj) (v : Nat) : (d.put o v).parts = d.parts := rfl
@[simp] theorem Dev.put_log (o : Obj) (v : Nat) : (d.put o v).log = d.log := rfl
@[simp] theorem Dev.put_links (o : Obj) (v : Nat) : (d.put o v).links = d.links := rfl
@[simp] theorem Dev.put_msgId (o : Obj) (v : Nat) : (d.put o v).msgId = d.msgId := rfl
@[simp] theorem Dev.put_remote (o : Obj) (v : Nat) : (d.put o v).remote = d.remote := rfl
@[simp] theorem Dev.put_chans (o : Obj) (v : Nat) : (d.put o v).chans = d.chans := rfl
@[simp] theorem Dev.put_sw (o : Obj) (v : Nat) : (d.put o v).sw = d.sw := rfl
@[simp] theorem Dev.put_lastBe (o : Obj) (v : Nat) : (d.put o v).lastBe = d.lastBe := rfl
@[simp] theorem Dev.put_pwr (o : Obj) (v : Nat) : (d.put o v).pwr = d.pwr := rfl
@[simp] theorem Dev.put_ft (o : Obj) (v : Nat) : (d.put o v).ft = d.ft := rfl
@[simp] theorem Dev.put_stainN (o : Obj) (v : Nat) : (d.put o v).stainN = d.stainN := rfl
@[simp] theorem Dev.put_fenceWait (o : Obj) (v : Nat) : (d.put o v).fenceWait = d.fenceWait := rfl
@[simp] theorem Dev.put_scanQ (o : Obj) (v : Nat) : (d.put o v).scanQ = d.scanQ := rfl
@[simp] theorem Dev.put_scanAt (o : Obj) (v : Nat) : (d.put o v).scanAt = d.scanAt := rfl
@[simp] theorem Dev.put_scanFrom (o : Obj) (v : Nat) : (d.put o v).scanFrom = d.scanFrom := rfl
@[simp] theorem Dev.put_released (o : Obj) (v : Nat) : (d.put o v).released = d.released := rfl
@[simp] theorem Dev.put_avs (o : Obj) (v : Nat) : (d.put o v).avs = d.avs := rfl
@[simp] theorem Dev.put_scanHold (o : Obj) (v : Nat) : (d.put o v).scanHold = d.scanHold := rfl
@[simp] theorem Dev.put_snapPend (o : Obj) (v : Nat) : (d.put o v).snapPend = d.snapPend := rfl
@[simp] theorem Dev.put_clearAt (o : Obj) (v : Nat) : (d.put o v).clearAt = d.clearAt := rfl
@[simp] theorem Dev.put_memDelay (o : Obj) (v : Nat) : (d.put o v).memDelay = d.memDelay := rfl
@[simp] theorem Dev.put_delayed (o : Obj) (v : Nat) : (d.put o v).delayed = d.delayed := rfl
@[simp] theorem Dev.put_rdTurn (o : Obj) (v : Nat) : (d.put o v).rdTurn = d.rdTurn := rfl

@[simp] theorem Dev.setCore_free (c : Nat) (x : Core) : (d.setCore c x).free = d.free := rfl
@[simp] theorem Dev.setCore_now (c : Nat) (x : Core) : (d.setCore c x).now = d.now := rfl
@[simp] theorem Dev.setCore_cyc (c : Nat) (x : Core) : (d.setCore c x).cyc = d.cyc := rfl
@[simp] theorem Dev.setCore_objs (c : Nat) (x : Core) : (d.setCore c x).objs = d.objs := rfl
@[simp] theorem Dev.setCore_doms (c : Nat) (x : Core) : (d.setCore c x).doms = d.doms := rfl
@[simp] theorem Dev.setCore_sessions (c : Nat) (x : Core) : (d.setCore c x).sessions = d.sessions := rfl
@[simp] theorem Dev.setCore_snap (c : Nat) (x : Core) : (d.setCore c x).snap = d.snap := rfl
@[simp] theorem Dev.setCore_mem (c : Nat) (x : Core) : (d.setCore c x).mem = d.mem := rfl
@[simp] theorem Dev.setCore_parts (c : Nat) (x : Core) : (d.setCore c x).parts = d.parts := rfl
@[simp] theorem Dev.setCore_log (c : Nat) (x : Core) : (d.setCore c x).log = d.log := rfl
@[simp] theorem Dev.setCore_links (c : Nat) (x : Core) : (d.setCore c x).links = d.links := rfl
@[simp] theorem Dev.setCore_msgId (c : Nat) (x : Core) : (d.setCore c x).msgId = d.msgId := rfl
@[simp] theorem Dev.setCore_remote (c : Nat) (x : Core) : (d.setCore c x).remote = d.remote := rfl
@[simp] theorem Dev.setCore_chans (c : Nat) (x : Core) : (d.setCore c x).chans = d.chans := rfl
@[simp] theorem Dev.setCore_sw (c : Nat) (x : Core) : (d.setCore c x).sw = d.sw := rfl
@[simp] theorem Dev.setCore_lastBe (c : Nat) (x : Core) : (d.setCore c x).lastBe = d.lastBe := rfl
@[simp] theorem Dev.setCore_pwr (c : Nat) (x : Core) : (d.setCore c x).pwr = d.pwr := rfl
@[simp] theorem Dev.setCore_ft (c : Nat) (x : Core) : (d.setCore c x).ft = d.ft := rfl
@[simp] theorem Dev.setCore_stainN (c : Nat) (x : Core) : (d.setCore c x).stainN = d.stainN := rfl
@[simp] theorem Dev.setCore_fenceWait (c : Nat) (x : Core) : (d.setCore c x).fenceWait = d.fenceWait := rfl
@[simp] theorem Dev.setCore_scanQ (c : Nat) (x : Core) : (d.setCore c x).scanQ = d.scanQ := rfl
@[simp] theorem Dev.setCore_scanAt (c : Nat) (x : Core) : (d.setCore c x).scanAt = d.scanAt := rfl
@[simp] theorem Dev.setCore_scanFrom (c : Nat) (x : Core) : (d.setCore c x).scanFrom = d.scanFrom := rfl
@[simp] theorem Dev.setCore_released (c : Nat) (x : Core) : (d.setCore c x).released = d.released := rfl
@[simp] theorem Dev.setCore_avs (c : Nat) (x : Core) : (d.setCore c x).avs = d.avs := rfl
@[simp] theorem Dev.setCore_scanHold (c : Nat) (x : Core) : (d.setCore c x).scanHold = d.scanHold := rfl
@[simp] theorem Dev.setCore_snapPend (c : Nat) (x : Core) : (d.setCore c x).snapPend = d.snapPend := rfl
@[simp] theorem Dev.setCore_clearAt (c : Nat) (x : Core) : (d.setCore c x).clearAt = d.clearAt := rfl
@[simp] theorem Dev.setCore_memDelay (c : Nat) (x : Core) : (d.setCore c x).memDelay = d.memDelay := rfl
@[simp] theorem Dev.setCore_delayed (c : Nat) (x : Core) : (d.setCore c x).delayed = d.delayed := rfl
@[simp] theorem Dev.setCore_rdTurn (c : Nat) (x : Core) : (d.setCore c x).rdTurn = d.rdTurn := rfl

@[simp] theorem Dev.setPart_free (p : Nat) (x : Part) : (d.setPart p x).free = d.free := rfl
@[simp] theorem Dev.setPart_now (p : Nat) (x : Part) : (d.setPart p x).now = d.now := rfl
@[simp] theorem Dev.setPart_cyc (p : Nat) (x : Part) : (d.setPart p x).cyc = d.cyc := rfl
@[simp] theorem Dev.setPart_objs (p : Nat) (x : Part) : (d.setPart p x).objs = d.objs := rfl
@[simp] theorem Dev.setPart_doms (p : Nat) (x : Part) : (d.setPart p x).doms = d.doms := rfl
@[simp] theorem Dev.setPart_sessions (p : Nat) (x : Part) : (d.setPart p x).sessions = d.sessions := rfl
@[simp] theorem Dev.setPart_snap (p : Nat) (x : Part) : (d.setPart p x).snap = d.snap := rfl
@[simp] theorem Dev.setPart_cores (p : Nat) (x : Part) : (d.setPart p x).cores = d.cores := rfl
@[simp] theorem Dev.setPart_mem (p : Nat) (x : Part) : (d.setPart p x).mem = d.mem := rfl
@[simp] theorem Dev.setPart_log (p : Nat) (x : Part) : (d.setPart p x).log = d.log := rfl
@[simp] theorem Dev.setPart_links (p : Nat) (x : Part) : (d.setPart p x).links = d.links := rfl
@[simp] theorem Dev.setPart_msgId (p : Nat) (x : Part) : (d.setPart p x).msgId = d.msgId := rfl
@[simp] theorem Dev.setPart_remote (p : Nat) (x : Part) : (d.setPart p x).remote = d.remote := rfl
@[simp] theorem Dev.setPart_chans (p : Nat) (x : Part) : (d.setPart p x).chans = d.chans := rfl
@[simp] theorem Dev.setPart_sw (p : Nat) (x : Part) : (d.setPart p x).sw = d.sw := rfl
@[simp] theorem Dev.setPart_lastBe (p : Nat) (x : Part) : (d.setPart p x).lastBe = d.lastBe := rfl
@[simp] theorem Dev.setPart_pwr (p : Nat) (x : Part) : (d.setPart p x).pwr = d.pwr := rfl
@[simp] theorem Dev.setPart_ft (p : Nat) (x : Part) : (d.setPart p x).ft = d.ft := rfl
@[simp] theorem Dev.setPart_stainN (p : Nat) (x : Part) : (d.setPart p x).stainN = d.stainN := rfl
@[simp] theorem Dev.setPart_fenceWait (p : Nat) (x : Part) : (d.setPart p x).fenceWait = d.fenceWait := rfl
@[simp] theorem Dev.setPart_scanQ (p : Nat) (x : Part) : (d.setPart p x).scanQ = d.scanQ := rfl
@[simp] theorem Dev.setPart_scanAt (p : Nat) (x : Part) : (d.setPart p x).scanAt = d.scanAt := rfl
@[simp] theorem Dev.setPart_scanFrom (p : Nat) (x : Part) : (d.setPart p x).scanFrom = d.scanFrom := rfl
@[simp] theorem Dev.setPart_released (p : Nat) (x : Part) : (d.setPart p x).released = d.released := rfl
@[simp] theorem Dev.setPart_avs (p : Nat) (x : Part) : (d.setPart p x).avs = d.avs := rfl
@[simp] theorem Dev.setPart_scanHold (p : Nat) (x : Part) : (d.setPart p x).scanHold = d.scanHold := rfl
@[simp] theorem Dev.setPart_snapPend (p : Nat) (x : Part) : (d.setPart p x).snapPend = d.snapPend := rfl
@[simp] theorem Dev.setPart_clearAt (p : Nat) (x : Part) : (d.setPart p x).clearAt = d.clearAt := rfl
@[simp] theorem Dev.setPart_memDelay (p : Nat) (x : Part) : (d.setPart p x).memDelay = d.memDelay := rfl
@[simp] theorem Dev.setPart_delayed (p : Nat) (x : Part) : (d.setPart p x).delayed = d.delayed := rfl
@[simp] theorem Dev.setPart_rdTurn (p : Nat) (x : Part) : (d.setPart p x).rdTurn = d.rdTurn := rfl

@[simp] theorem Dev.setLink_free (l : Nat) (x : Link) : (d.setLink l x).free = d.free := rfl
@[simp] theorem Dev.setLink_now (l : Nat) (x : Link) : (d.setLink l x).now = d.now := rfl
@[simp] theorem Dev.setLink_cyc (l : Nat) (x : Link) : (d.setLink l x).cyc = d.cyc := rfl
@[simp] theorem Dev.setLink_objs (l : Nat) (x : Link) : (d.setLink l x).objs = d.objs := rfl
@[simp] theorem Dev.setLink_doms (l : Nat) (x : Link) : (d.setLink l x).doms = d.doms := rfl
@[simp] theorem Dev.setLink_sessions (l : Nat) (x : Link) : (d.setLink l x).sessions = d.sessions := rfl
@[simp] theorem Dev.setLink_snap (l : Nat) (x : Link) : (d.setLink l x).snap = d.snap := rfl
@[simp] theorem Dev.setLink_cores (l : Nat) (x : Link) : (d.setLink l x).cores = d.cores := rfl
@[simp] theorem Dev.setLink_mem (l : Nat) (x : Link) : (d.setLink l x).mem = d.mem := rfl
@[simp] theorem Dev.setLink_parts (l : Nat) (x : Link) : (d.setLink l x).parts = d.parts := rfl
@[simp] theorem Dev.setLink_log (l : Nat) (x : Link) : (d.setLink l x).log = d.log := rfl
@[simp] theorem Dev.setLink_msgId (l : Nat) (x : Link) : (d.setLink l x).msgId = d.msgId := rfl
@[simp] theorem Dev.setLink_remote (l : Nat) (x : Link) : (d.setLink l x).remote = d.remote := rfl
@[simp] theorem Dev.setLink_chans (l : Nat) (x : Link) : (d.setLink l x).chans = d.chans := rfl
@[simp] theorem Dev.setLink_sw (l : Nat) (x : Link) : (d.setLink l x).sw = d.sw := rfl
@[simp] theorem Dev.setLink_lastBe (l : Nat) (x : Link) : (d.setLink l x).lastBe = d.lastBe := rfl
@[simp] theorem Dev.setLink_pwr (l : Nat) (x : Link) : (d.setLink l x).pwr = d.pwr := rfl
@[simp] theorem Dev.setLink_ft (l : Nat) (x : Link) : (d.setLink l x).ft = d.ft := rfl
@[simp] theorem Dev.setLink_stainN (l : Nat) (x : Link) : (d.setLink l x).stainN = d.stainN := rfl
@[simp] theorem Dev.setLink_fenceWait (l : Nat) (x : Link) : (d.setLink l x).fenceWait = d.fenceWait := rfl
@[simp] theorem Dev.setLink_scanQ (l : Nat) (x : Link) : (d.setLink l x).scanQ = d.scanQ := rfl
@[simp] theorem Dev.setLink_scanAt (l : Nat) (x : Link) : (d.setLink l x).scanAt = d.scanAt := rfl
@[simp] theorem Dev.setLink_scanFrom (l : Nat) (x : Link) : (d.setLink l x).scanFrom = d.scanFrom := rfl
@[simp] theorem Dev.setLink_released (l : Nat) (x : Link) : (d.setLink l x).released = d.released := rfl
@[simp] theorem Dev.setLink_avs (l : Nat) (x : Link) : (d.setLink l x).avs = d.avs := rfl
@[simp] theorem Dev.setLink_scanHold (l : Nat) (x : Link) : (d.setLink l x).scanHold = d.scanHold := rfl
@[simp] theorem Dev.setLink_snapPend (l : Nat) (x : Link) : (d.setLink l x).snapPend = d.snapPend := rfl
@[simp] theorem Dev.setLink_clearAt (l : Nat) (x : Link) : (d.setLink l x).clearAt = d.clearAt := rfl
@[simp] theorem Dev.setLink_memDelay (l : Nat) (x : Link) : (d.setLink l x).memDelay = d.memDelay := rfl
@[simp] theorem Dev.setLink_delayed (l : Nat) (x : Link) : (d.setLink l x).delayed = d.delayed := rfl
@[simp] theorem Dev.setLink_rdTurn (l : Nat) (x : Link) : (d.setLink l x).rdTurn = d.rdTurn := rfl

@[simp] theorem Dev.setPwr_free (x : Pwr) : (d.setPwr x).free = d.free := rfl
@[simp] theorem Dev.setPwr_now (x : Pwr) : (d.setPwr x).now = d.now := rfl
@[simp] theorem Dev.setPwr_cyc (x : Pwr) : (d.setPwr x).cyc = d.cyc := rfl
@[simp] theorem Dev.setPwr_objs (x : Pwr) : (d.setPwr x).objs = d.objs := rfl
@[simp] theorem Dev.setPwr_doms (x : Pwr) : (d.setPwr x).doms = d.doms := rfl
@[simp] theorem Dev.setPwr_sessions (x : Pwr) : (d.setPwr x).sessions = d.sessions := rfl
@[simp] theorem Dev.setPwr_snap (x : Pwr) : (d.setPwr x).snap = d.snap := rfl
@[simp] theorem Dev.setPwr_cores (x : Pwr) : (d.setPwr x).cores = d.cores := rfl
@[simp] theorem Dev.setPwr_mem (x : Pwr) : (d.setPwr x).mem = d.mem := rfl
@[simp] theorem Dev.setPwr_parts (x : Pwr) : (d.setPwr x).parts = d.parts := rfl
@[simp] theorem Dev.setPwr_log (x : Pwr) : (d.setPwr x).log = d.log := rfl
@[simp] theorem Dev.setPwr_links (x : Pwr) : (d.setPwr x).links = d.links := rfl
@[simp] theorem Dev.setPwr_msgId (x : Pwr) : (d.setPwr x).msgId = d.msgId := rfl
@[simp] theorem Dev.setPwr_remote (x : Pwr) : (d.setPwr x).remote = d.remote := rfl
@[simp] theorem Dev.setPwr_chans (x : Pwr) : (d.setPwr x).chans = d.chans := rfl
@[simp] theorem Dev.setPwr_sw (x : Pwr) : (d.setPwr x).sw = d.sw := rfl
@[simp] theorem Dev.setPwr_lastBe (x : Pwr) : (d.setPwr x).lastBe = d.lastBe := rfl
@[simp] theorem Dev.setPwr_ft (x : Pwr) : (d.setPwr x).ft = d.ft := rfl
@[simp] theorem Dev.setPwr_stainN (x : Pwr) : (d.setPwr x).stainN = d.stainN := rfl
@[simp] theorem Dev.setPwr_fenceWait (x : Pwr) : (d.setPwr x).fenceWait = d.fenceWait := rfl
@[simp] theorem Dev.setPwr_scanQ (x : Pwr) : (d.setPwr x).scanQ = d.scanQ := rfl
@[simp] theorem Dev.setPwr_scanAt (x : Pwr) : (d.setPwr x).scanAt = d.scanAt := rfl
@[simp] theorem Dev.setPwr_scanFrom (x : Pwr) : (d.setPwr x).scanFrom = d.scanFrom := rfl
@[simp] theorem Dev.setPwr_released (x : Pwr) : (d.setPwr x).released = d.released := rfl
@[simp] theorem Dev.setPwr_avs (x : Pwr) : (d.setPwr x).avs = d.avs := rfl
@[simp] theorem Dev.setPwr_scanHold (x : Pwr) : (d.setPwr x).scanHold = d.scanHold := rfl
@[simp] theorem Dev.setPwr_snapPend (x : Pwr) : (d.setPwr x).snapPend = d.snapPend := rfl
@[simp] theorem Dev.setPwr_clearAt (x : Pwr) : (d.setPwr x).clearAt = d.clearAt := rfl
@[simp] theorem Dev.setPwr_memDelay (x : Pwr) : (d.setPwr x).memDelay = d.memDelay := rfl
@[simp] theorem Dev.setPwr_delayed (x : Pwr) : (d.setPwr x).delayed = d.delayed := rfl
@[simp] theorem Dev.setPwr_rdTurn (x : Pwr) : (d.setPwr x).rdTurn = d.rdTurn := rfl

@[simp] theorem Dev.setSession_free (n : Nat) (x : Session) : (d.setSession n x).free = d.free := rfl
@[simp] theorem Dev.setSession_now (n : Nat) (x : Session) : (d.setSession n x).now = d.now := rfl
@[simp] theorem Dev.setSession_cyc (n : Nat) (x : Session) : (d.setSession n x).cyc = d.cyc := rfl
@[simp] theorem Dev.setSession_objs (n : Nat) (x : Session) : (d.setSession n x).objs = d.objs := rfl
@[simp] theorem Dev.setSession_doms (n : Nat) (x : Session) : (d.setSession n x).doms = d.doms := rfl
@[simp] theorem Dev.setSession_snap (n : Nat) (x : Session) : (d.setSession n x).snap = d.snap := rfl
@[simp] theorem Dev.setSession_cores (n : Nat) (x : Session) : (d.setSession n x).cores = d.cores := rfl
@[simp] theorem Dev.setSession_mem (n : Nat) (x : Session) : (d.setSession n x).mem = d.mem := rfl
@[simp] theorem Dev.setSession_parts (n : Nat) (x : Session) : (d.setSession n x).parts = d.parts := rfl
@[simp] theorem Dev.setSession_log (n : Nat) (x : Session) : (d.setSession n x).log = d.log := rfl
@[simp] theorem Dev.setSession_links (n : Nat) (x : Session) : (d.setSession n x).links = d.links := rfl
@[simp] theorem Dev.setSession_msgId (n : Nat) (x : Session) : (d.setSession n x).msgId = d.msgId := rfl
@[simp] theorem Dev.setSession_remote (n : Nat) (x : Session) : (d.setSession n x).remote = d.remote := rfl
@[simp] theorem Dev.setSession_chans (n : Nat) (x : Session) : (d.setSession n x).chans = d.chans := rfl
@[simp] theorem Dev.setSession_sw (n : Nat) (x : Session) : (d.setSession n x).sw = d.sw := rfl
@[simp] theorem Dev.setSession_lastBe (n : Nat) (x : Session) : (d.setSession n x).lastBe = d.lastBe := rfl
@[simp] theorem Dev.setSession_pwr (n : Nat) (x : Session) : (d.setSession n x).pwr = d.pwr := rfl
@[simp] theorem Dev.setSession_ft (n : Nat) (x : Session) : (d.setSession n x).ft = d.ft := rfl
@[simp] theorem Dev.setSession_stainN (n : Nat) (x : Session) : (d.setSession n x).stainN = d.stainN := rfl
@[simp] theorem Dev.setSession_fenceWait (n : Nat) (x : Session) : (d.setSession n x).fenceWait = d.fenceWait := rfl
@[simp] theorem Dev.setSession_scanQ (n : Nat) (x : Session) : (d.setSession n x).scanQ = d.scanQ := rfl
@[simp] theorem Dev.setSession_scanAt (n : Nat) (x : Session) : (d.setSession n x).scanAt = d.scanAt := rfl
@[simp] theorem Dev.setSession_scanFrom (n : Nat) (x : Session) : (d.setSession n x).scanFrom = d.scanFrom := rfl
@[simp] theorem Dev.setSession_released (n : Nat) (x : Session) : (d.setSession n x).released = d.released := rfl
@[simp] theorem Dev.setSession_avs (n : Nat) (x : Session) : (d.setSession n x).avs = d.avs := rfl
@[simp] theorem Dev.setSession_scanHold (n : Nat) (x : Session) : (d.setSession n x).scanHold = d.scanHold := rfl
@[simp] theorem Dev.setSession_snapPend (n : Nat) (x : Session) : (d.setSession n x).snapPend = d.snapPend := rfl
@[simp] theorem Dev.setSession_clearAt (n : Nat) (x : Session) : (d.setSession n x).clearAt = d.clearAt := rfl
@[simp] theorem Dev.setSession_memDelay (n : Nat) (x : Session) : (d.setSession n x).memDelay = d.memDelay := rfl
@[simp] theorem Dev.setSession_delayed (n : Nat) (x : Session) : (d.setSession n x).delayed = d.delayed := rfl
@[simp] theorem Dev.setSession_rdTurn (n : Nat) (x : Session) : (d.setSession n x).rdTurn = d.rdTurn := rfl

@[simp] theorem Dev.setSw_free (c : Nat) (w : Option Switch) : (d.setSw c w).free = d.free := rfl
@[simp] theorem Dev.setSw_now (c : Nat) (w : Option Switch) : (d.setSw c w).now = d.now := rfl
@[simp] theorem Dev.setSw_cyc (c : Nat) (w : Option Switch) : (d.setSw c w).cyc = d.cyc := rfl
@[simp] theorem Dev.setSw_objs (c : Nat) (w : Option Switch) : (d.setSw c w).objs = d.objs := rfl
@[simp] theorem Dev.setSw_doms (c : Nat) (w : Option Switch) : (d.setSw c w).doms = d.doms := rfl
@[simp] theorem Dev.setSw_sessions (c : Nat) (w : Option Switch) : (d.setSw c w).sessions = d.sessions := rfl
@[simp] theorem Dev.setSw_snap (c : Nat) (w : Option Switch) : (d.setSw c w).snap = d.snap := rfl
@[simp] theorem Dev.setSw_cores (c : Nat) (w : Option Switch) : (d.setSw c w).cores = d.cores := rfl
@[simp] theorem Dev.setSw_mem (c : Nat) (w : Option Switch) : (d.setSw c w).mem = d.mem := rfl
@[simp] theorem Dev.setSw_parts (c : Nat) (w : Option Switch) : (d.setSw c w).parts = d.parts := rfl
@[simp] theorem Dev.setSw_log (c : Nat) (w : Option Switch) : (d.setSw c w).log = d.log := rfl
@[simp] theorem Dev.setSw_links (c : Nat) (w : Option Switch) : (d.setSw c w).links = d.links := rfl
@[simp] theorem Dev.setSw_msgId (c : Nat) (w : Option Switch) : (d.setSw c w).msgId = d.msgId := rfl
@[simp] theorem Dev.setSw_remote (c : Nat) (w : Option Switch) : (d.setSw c w).remote = d.remote := rfl
@[simp] theorem Dev.setSw_chans (c : Nat) (w : Option Switch) : (d.setSw c w).chans = d.chans := rfl
@[simp] theorem Dev.setSw_lastBe (c : Nat) (w : Option Switch) : (d.setSw c w).lastBe = d.lastBe := rfl
@[simp] theorem Dev.setSw_pwr (c : Nat) (w : Option Switch) : (d.setSw c w).pwr = d.pwr := rfl
@[simp] theorem Dev.setSw_ft (c : Nat) (w : Option Switch) : (d.setSw c w).ft = d.ft := rfl
@[simp] theorem Dev.setSw_stainN (c : Nat) (w : Option Switch) : (d.setSw c w).stainN = d.stainN := rfl
@[simp] theorem Dev.setSw_fenceWait (c : Nat) (w : Option Switch) : (d.setSw c w).fenceWait = d.fenceWait := rfl
@[simp] theorem Dev.setSw_scanQ (c : Nat) (w : Option Switch) : (d.setSw c w).scanQ = d.scanQ := rfl
@[simp] theorem Dev.setSw_scanAt (c : Nat) (w : Option Switch) : (d.setSw c w).scanAt = d.scanAt := rfl
@[simp] theorem Dev.setSw_scanFrom (c : Nat) (w : Option Switch) : (d.setSw c w).scanFrom = d.scanFrom := rfl
@[simp] theorem Dev.setSw_released (c : Nat) (w : Option Switch) : (d.setSw c w).released = d.released := rfl
@[simp] theorem Dev.setSw_avs (c : Nat) (w : Option Switch) : (d.setSw c w).avs = d.avs := rfl
@[simp] theorem Dev.setSw_scanHold (c : Nat) (w : Option Switch) : (d.setSw c w).scanHold = d.scanHold := rfl
@[simp] theorem Dev.setSw_snapPend (c : Nat) (w : Option Switch) : (d.setSw c w).snapPend = d.snapPend := rfl
@[simp] theorem Dev.setSw_clearAt (c : Nat) (w : Option Switch) : (d.setSw c w).clearAt = d.clearAt := rfl
@[simp] theorem Dev.setSw_memDelay (c : Nat) (w : Option Switch) : (d.setSw c w).memDelay = d.memDelay := rfl
@[simp] theorem Dev.setSw_delayed (c : Nat) (w : Option Switch) : (d.setSw c w).delayed = d.delayed := rfl
@[simp] theorem Dev.setSw_rdTurn (c : Nat) (w : Option Switch) : (d.setSw c w).rdTurn = d.rdTurn := rfl

@[simp] theorem Dev.core_put (o : Obj) (v : Nat) (i : Nat) : (d.put o v).core i = d.core i := rfl
@[simp] theorem Dev.part_put (o : Obj) (v : Nat) (i : Nat) : (d.put o v).part i = d.part i := rfl
@[simp] theorem Dev.link_put (o : Obj) (v : Nat) (i : Nat) : (d.put o v).link i = d.link i := rfl
@[simp] theorem Dev.session_put (o : Obj) (v : Nat) (i : Nat) : (d.put o v).session i = d.session i := rfl
@[simp] theorem Dev.swOf_put (o : Obj) (v : Nat) (i : Nat) : (d.put o v).swOf i = d.swOf i := rfl
@[simp] theorem Dev.get_setCore (c : Nat) (x : Core) (o : Obj) : (d.setCore c x).get o = d.get o := rfl
@[simp] theorem Dev.part_setCore (c : Nat) (x : Core) (i : Nat) : (d.setCore c x).part i = d.part i := rfl
@[simp] theorem Dev.link_setCore (c : Nat) (x : Core) (i : Nat) : (d.setCore c x).link i = d.link i := rfl
@[simp] theorem Dev.session_setCore (c : Nat) (x : Core) (i : Nat) : (d.setCore c x).session i = d.session i := rfl
@[simp] theorem Dev.swOf_setCore (c : Nat) (x : Core) (i : Nat) : (d.setCore c x).swOf i = d.swOf i := rfl
@[simp] theorem Dev.get_setPart (p : Nat) (x : Part) (o : Obj) : (d.setPart p x).get o = d.get o := rfl
@[simp] theorem Dev.core_setPart (p : Nat) (x : Part) (i : Nat) : (d.setPart p x).core i = d.core i := rfl
@[simp] theorem Dev.link_setPart (p : Nat) (x : Part) (i : Nat) : (d.setPart p x).link i = d.link i := rfl
@[simp] theorem Dev.session_setPart (p : Nat) (x : Part) (i : Nat) : (d.setPart p x).session i = d.session i := rfl
@[simp] theorem Dev.swOf_setPart (p : Nat) (x : Part) (i : Nat) : (d.setPart p x).swOf i = d.swOf i := rfl
@[simp] theorem Dev.get_setLink (l : Nat) (x : Link) (o : Obj) : (d.setLink l x).get o = d.get o := rfl
@[simp] theorem Dev.core_setLink (l : Nat) (x : Link) (i : Nat) : (d.setLink l x).core i = d.core i := rfl
@[simp] theorem Dev.part_setLink (l : Nat) (x : Link) (i : Nat) : (d.setLink l x).part i = d.part i := rfl
@[simp] theorem Dev.session_setLink (l : Nat) (x : Link) (i : Nat) : (d.setLink l x).session i = d.session i := rfl
@[simp] theorem Dev.swOf_setLink (l : Nat) (x : Link) (i : Nat) : (d.setLink l x).swOf i = d.swOf i := rfl
@[simp] theorem Dev.get_setPwr (x : Pwr) (o : Obj) : (d.setPwr x).get o = d.get o := rfl
@[simp] theorem Dev.core_setPwr (x : Pwr) (i : Nat) : (d.setPwr x).core i = d.core i := rfl
@[simp] theorem Dev.part_setPwr (x : Pwr) (i : Nat) : (d.setPwr x).part i = d.part i := rfl
@[simp] theorem Dev.link_setPwr (x : Pwr) (i : Nat) : (d.setPwr x).link i = d.link i := rfl
@[simp] theorem Dev.session_setPwr (x : Pwr) (i : Nat) : (d.setPwr x).session i = d.session i := rfl
@[simp] theorem Dev.swOf_setPwr (x : Pwr) (i : Nat) : (d.setPwr x).swOf i = d.swOf i := rfl
@[simp] theorem Dev.get_setSession (n : Nat) (x : Session) (o : Obj) : (d.setSession n x).get o = d.get o := rfl
@[simp] theorem Dev.core_setSession (n : Nat) (x : Session) (i : Nat) : (d.setSession n x).core i = d.core i := rfl
@[simp] theorem Dev.part_setSession (n : Nat) (x : Session) (i : Nat) : (d.setSession n x).part i = d.part i := rfl
@[simp] theorem Dev.link_setSession (n : Nat) (x : Session) (i : Nat) : (d.setSession n x).link i = d.link i := rfl
@[simp] theorem Dev.swOf_setSession (n : Nat) (x : Session) (i : Nat) : (d.setSession n x).swOf i = d.swOf i := rfl
@[simp] theorem Dev.get_setSw (c : Nat) (w : Option Switch) (o : Obj) : (d.setSw c w).get o = d.get o := rfl
@[simp] theorem Dev.core_setSw (c : Nat) (w : Option Switch) (i : Nat) : (d.setSw c w).core i = d.core i := rfl
@[simp] theorem Dev.part_setSw (c : Nat) (w : Option Switch) (i : Nat) : (d.setSw c w).part i = d.part i := rfl
@[simp] theorem Dev.link_setSw (c : Nat) (w : Option Switch) (i : Nat) : (d.setSw c w).link i = d.link i := rfl
@[simp] theorem Dev.session_setSw (c : Nat) (w : Option Switch) (i : Nat) : (d.setSw c w).session i = d.session i := rfl

/-! ## Cores, partitions, links, sessions, switches -/

@[simp] theorem Dev.core_setCore_self (c : Nat) (x : Core) : (d.setCore c x).core c = x := by simp [Dev.core, Dev.setCore]
theorem Dev.core_setCore_ne {c c' : Nat} (x : Core) (h : c' ≠ c) : (d.setCore c x).core c' = d.core c' := by
  simp [Dev.core, Dev.setCore, Map.get_set_ne _ _ _ h]
@[simp] theorem Dev.part_setPart_self (p : Nat) (x : Part) : (d.setPart p x).part p = x := by simp [Dev.part, Dev.setPart]
theorem Dev.part_setPart_ne {p p' : Nat} (x : Part) (h : p' ≠ p) : (d.setPart p x).part p' = d.part p' := by
  simp [Dev.part, Dev.setPart, Map.get_set_ne _ _ _ h]
@[simp] theorem Dev.link_setLink_self (l : Nat) (x : Link) : (d.setLink l x).link l = x := by simp [Dev.link, Dev.setLink]
theorem Dev.link_setLink_ne {l l' : Nat} (x : Link) (h : l' ≠ l) : (d.setLink l x).link l' = d.link l' := by
  simp [Dev.link, Dev.setLink, Map.get_set_ne _ _ _ h]
@[simp] theorem Dev.session_setSession_self (n : Nat) (x : Session) : (d.setSession n x).session n = x := by
  simp [Dev.session, Dev.setSession]
theorem Dev.session_setSession_ne {n n' : Nat} (x : Session) (h : n' ≠ n) : (d.setSession n x).session n' = d.session n' := by
  simp [Dev.session, Dev.setSession, Map.get_set_ne _ _ _ h]
@[simp] theorem Dev.swOf_setSw_self (c : Nat) (w : Option Switch) : (d.setSw c w).swOf c = w := by simp [Dev.swOf, Dev.setSw]
@[simp] theorem Dev.setPwr_pwr (x : Pwr) : (d.setPwr x).pwr = x := rfl

/-! ## Contexts and queues -/

theorem Dev.ctx_setCtx_self (e : Eng) (x : EngCtx) : (d.setCtx e x).ctx e = x := by
  unfold Dev.ctx Dev.setCtx
  split
  · simp
  · split <;> simp

theorem Dev.hq_setHq_self (c q : Nat) (l : List Handle) : (d.setHq c q l).hq c q = l := by simp [Dev.hq, Dev.setHq]

end Sys2Proof.Machine
end

