-- ==== Sys2Proof/Laws/Dict.lean ====
section
/-! SUPPORT. The dictionary's server: what an admitted request does, what a live write does, what reading bytes back gives. -/
namespace Sys2Proof.Machine

/-! ## Bytes -/

theorem toLE_length (w v : Nat) : (toLE w v).length = w := by
  induction w generalizing v with
  | zero => rfl
  | succ k ih => simp [toLE, ih]

theorem ofLE_toLE (w v : Nat) (h : v < 256 ^ w) : ofLE (toLE w v) = v := by
  induction w generalizing v with
  | zero => simp at h; simp [toLE, ofLE, h]
  | succ k ih =>
    simp only [toLE, ofLE]
    rw [ih]
    · omega
    · rw [Nat.pow_succ] at h; omega

/-! ## Taking a request out of its buffer -/

theorem get_objs {a b : Dev} (h : a.objs = b.objs) (o : Obj) : a.get o = b.get o := by simp [Dev.get, h]

@[simp] theorem takeReq_sessions (d : Dev) (h : Hdr) (bs : List Nat) : (d.takeReq h bs).2.sessions = d.sessions := by
  unfold Dev.takeReq; split; rfl; dsimp only; split <;> rfl
@[simp] theorem takeReq_objs (d : Dev) (h : Hdr) (bs : List Nat) : (d.takeReq h bs).2.objs = d.objs := by
  unfold Dev.takeReq; split; rfl; dsimp only; split <;> rfl
@[simp] theorem takeReq_now (d : Dev) (h : Hdr) (bs : List Nat) : (d.takeReq h bs).2.now = d.now := by
  unfold Dev.takeReq; split; rfl; dsimp only; split <;> rfl

@[simp] theorem taken_get (s : State) (op : Nat) (q : Req) (o : Obj) : (s.taken op q).dev.get o = s.dev.get o :=
  get_objs (takeReq_objs ..) o
@[simp] theorem taken_session (s : State) (op : Nat) (q : Req) (n : Nat) : (s.taken op q).dev.session n = s.dev.session n := by
  simp [State.taken, State.setDev, Dev.session]
@[simp] theorem taken_now (s : State) (op : Nat) (q : Req) : (s.taken op q).dev.now = s.dev.now := takeReq_now ..
@[simp] theorem taken_sec (s : State) (op : Nat) (q : Req) : (s.taken op q).sec = s.sec := rfl
@[simp] theorem taken_pending (s : State) (op : Nat) (q : Req) : (s.taken op q).pending = s.pending := rfl

theorem sessionFor_objs {a b : Dev} (h : a.objs = b.objs) (x : Hdr) : a.sessionFor x = b.sessionFor x := by
  simp [Dev.sessionFor, get_objs h]

/-! ## The server -/

/-- A request that reaches its session is performed there and concluded. -/
theorem serve_reaches (s : State) (op : Nat) (q : Req) (n : Nat) (h : Reaches s op q n) :
    s.serve op q =
      ((s.taken op q).perform n op q).2.conclude op q n (s.carrier op q) ((s.taken op q).perform n op q).1 := by
  unfold State.serve
  rw [h.served, h.first]
  simp only [Bool.not_true, Bool.false_eq_true, if_false, List.foldl_nil]
  unfold State.serveOne
  rw [h.host]
  simp only [Bool.false_eq_true, if_false]
  rw [sessionFor_objs (takeReq_objs ..), h.session]
  have : (Dev.session (s.dev.takeReq q.hdr (reqBytes op q)).2 n) = s.dev.session n := by simp [Dev.session]
  simp only [this, h.fresh]
  rfl

theorem perform_write (s : State) (n : Nat) (q : Req) (h : s.dev.get (K.SESSION_STATE n) = 2)
    (hv : q.hdr.version = s.dev.get (K.SESSION_VERSION n)) : s.perform n opWRITE q = s.writeReq n q := by
  simp [State.perform, opWRITE, opNEGOTIATE, opREAD, opSTAGED, h, hv]

theorem perform_read (s : State) (n : Nat) (q : Req) (h : s.dev.get (K.SESSION_STATE n) = 2)
    (hv : q.hdr.version = s.dev.get (K.SESSION_VERSION n)) : s.perform n opREAD q = s.readReq n q false := by
  simp [State.perform, opREAD, opNEGOTIATE, h, hv]

theorem perform_staged (s : State) (n : Nat) (q : Req) (h : s.dev.get (K.SESSION_STATE n) = 2)
    (hv : q.hdr.version = s.dev.get (K.SESSION_VERSION n)) : s.perform n opSTAGED q = s.readReq n q true := by
  simp [State.perform, opREAD, opSTAGED, opNEGOTIATE, h, hv]

/-- The object that the server finds is the table's. -/
theorem find_row {d : Dev} {n ix sub : Nat} {w : Bool} {t : Target} (h : d.find n ix sub w = .ok t) :
    rowOf ix sub = some t.row := by
  unfold Dev.find at h
  split at h
  · cases h
  · rename_i t' ht
    have hr : rowOf ix sub = some t'.row := by
      unfold Dev.target at ht
      split at ht
      · extract_lets at ht
        split at ht
        · cases hx : rowOf ix sub with
          | none => simp [hx] at ht
          | some r => simp [hx] at ht; rw [← ht]
        · cases ht
      · unfold Dev.row at ht
        extract_lets at ht
        split at ht
        · cases ht
        · cases hx : rowOf ix sub with
          | none => simp [hx] at ht
          | some r => simp [hx] at ht; rw [← ht]
    extract_lets at h
    by_cases h1 : (!if w = true then (t'.row.right (d.principal n)).writes else (t'.row.right (d.principal n)).reads) = true
    · rw [if_pos h1] at h; cases h
    · rw [if_neg h1] at h
      split at h
      · cases h
      · split at h
        · cases h
        · cases h; exact hr

/-- A granted write of an object that no principal stages is carried out live. -/
theorem serveWrite_granted {s : State} {h : Hdr} {ix sub w v n : Nat} {r : Row} (g : Granted s h ix sub w v n)
    (hr : rowOf ix sub = some r) (hw : r.type.bytes = some w) (hn : ∀ p, r.right p ≠ .rws) :
    s.serveWrite h ix sub w v =
      ((s.taken opWRITE (writeOf h ix sub w v)).liveWrite n r ix sub v).2.conclude opWRITE (writeOf h ix sub w v) n
        (s.carrier opWRITE (writeOf h ix sub w v)) ((s.taken opWRITE (writeOf h ix sub w v)).liveWrite n r ix sub v).1 := by
  unfold State.serveWrite
  have ha := g.admitted
  have hq : ({ hdr := h, index := ix, sub := sub, data := toLE w v, offset := 0, length := w } : Req) = writeOf h ix sub w v := rfl
  rw [hq, serve_reaches _ _ _ _ ha.reaches]
  obtain ⟨t, hf, hg⟩ := g.target
  have hrow : t.row = r := by have := find_row hf; rw [hr] at this; exact (Option.some.inj this).symm
  rw [perform_write _ _ _ (by rw [taken_get]; exact ha.isOpen) (by rw [taken_get]; exact ha.version)]
  unfold State.writeReq
  have h1 : (writeOf h ix sub w v).index = ix := rfl
  have h2 : (writeOf h ix sub w v).sub = sub := rfl
  have h3 : (writeOf h ix sub w v).data = toLE w v := rfl
  rw [h1, h2, hf]
  simp only [h3, ofLE_toLE _ _ g.size, hrow, toLE_length, hw, ne_eq, not_true_eq_false, if_false]
  rw [hrow] at hg
  rw [hg]
  simp [hn]

end Sys2Proof.Machine
end

