-- ==== Sys2Proof/Laws/Side.lean ====
section
/-! SUPPORT. What the operations of record keeping leave alone: counters, records, messages, lookups and metering change no
engine's context, no queue, no schedule, no switch, no channel, no session and not the time. -/
namespace Sys2Proof.Machine

/-- A core but for the contents and marks of its scratchpads. -/
def Core.frame (k : Core) : Core := { k with sp := [], poison := [], flaw := [], once := [], resident := [], dirty := [], src := [] }

/-- A partition's record but for what is metered. -/
def Part.frame (p : Part) : Part := { p with meters := [] }

/-- `b` is `a` but for objects, the log, links, power, memory and scratchpad contents, free values and stains. -/
structure Dev.Side (a b : Dev) : Prop where
  now : b.now = a.now
  cyc : b.cyc = a.cyc
  sessions : b.sessions = a.sessions
  doms : b.doms = a.doms
  chans : b.chans = a.chans
  sw : b.sw = a.sw
  ft : b.ft = a.ft
  core : ∀ c, (b.core c).frame = (a.core c).frame
  part : ∀ p, (b.part p).frame = (a.part p).frame

namespace Dev.Side

variable {a b c : Dev}

theorem refl (a : Dev) : Dev.Side a a := ⟨rfl, rfl, rfl, rfl, rfl, rfl, rfl, fun _ => rfl, fun _ => rfl⟩

theorem trans (h : Dev.Side a b) (g : Dev.Side b c) : Dev.Side a c :=
  ⟨g.now.trans h.now, g.cyc.trans h.cyc, g.sessions.trans h.sessions, g.doms.trans h.doms, g.chans.trans h.chans, g.sw.trans h.sw,
   g.ft.trans h.ft, fun i => (g.core i).trans (h.core i), fun i => (g.part i).trans (h.part i)⟩

theorem symm (h : Dev.Side a b) : Dev.Side b a :=
  ⟨h.now.symm, h.cyc.symm, h.sessions.symm, h.doms.symm, h.chans.symm, h.sw.symm, h.ft.symm, fun i => (h.core i).symm,
   fun i => (h.part i).symm⟩

/-- Steps that change none of the fields that `Side` names. -/
theorem of_eq (h1 : b.now = a.now) (h2 : b.cyc = a.cyc) (h3 : b.sessions = a.sessions) (h4 : b.doms = a.doms)
    (h5 : b.chans = a.chans) (h6 : b.sw = a.sw) (h7 : b.ft = a.ft) (h8 : b.cores = a.cores) (h9 : b.parts = a.parts) :
    Dev.Side a b :=
  ⟨h1, h2, h3, h4, h5, h6, h7, fun i => by simp [Dev.core, h8], fun i => by simp [Dev.part, h9]⟩

theorem foldl {β : Type} (f : Dev → β → Dev) (l : List β) (h : ∀ d x, Dev.Side d (f d x)) (d : Dev) :
    Dev.Side d (l.foldl f d) := List.foldlRecOn l f (refl d) (fun b hb x _ => hb.trans (h b x))

/-- The same of a fold that carries more than the device. -/
theorem foldl_of {α β : Type} (g : α → Dev) (f : α → β → α) (l : List β) (h : ∀ x y, Dev.Side (g x) (g (f x y))) (x : α) :
    Dev.Side (g x) (g (l.foldl f x)) :=
  List.foldlRecOn (motive := fun y => Dev.Side (g x) (g y)) l f (refl _) (fun y hy z _ => hy.trans (h y z))

theorem eng (h : Dev.Side a b) (i : Nat) : (b.core i).eng = (a.core i).eng := by
  have := congrArg Core.eng (h.core i); simpa [Core.frame] using this
theorem hqs (h : Dev.Side a b) (i : Nat) : (b.core i).hq = (a.core i).hq := by
  have := congrArg Core.hq (h.core i); simpa [Core.frame] using this
theorem passes (h : Dev.Side a b) (i : Nat) : (b.core i).passes = (a.core i).passes := by
  have := congrArg Core.passes (h.core i); simpa [Core.frame] using this
theorem reruns (h : Dev.Side a b) (i : Nat) : (b.core i).reruns = (a.core i).reruns := by
  have := congrArg Core.reruns (h.core i); simpa [Core.frame] using this
theorem vlen (h : Dev.Side a b) (i : Nat) : (b.core i).vlen = (a.core i).vlen := by
  have := congrArg Core.vlen (h.core i); simpa [Core.frame] using this
theorem plan (h : Dev.Side a b) (i : Nat) : (b.core i).plan = (a.core i).plan := by
  have := congrArg Core.plan (h.core i); simpa [Core.frame] using this
theorem ra (h : Dev.Side a b) (i : Nat) : (b.core i).ra = (a.core i).ra := by
  have := congrArg Core.ra (h.core i); simpa [Core.frame] using this
theorem up (h : Dev.Side a b) (p : Nat) : (b.part p).up = (a.part p).up := by
  have := congrArg Part.up (h.part p); simpa [Part.frame] using this
theorem rd (h : Dev.Side a b) (p : Nat) : (b.part p).rd = (a.part p).rd := by
  have := congrArg Part.rd (h.part p); simpa [Part.frame] using this
theorem sched (h : Dev.Side a b) (p : Nat) : b.sched p = a.sched p := by
  have := congrArg Part.sched (h.part p); simpa [Part.frame, Dev.sched] using this
theorem window (h : Dev.Side a b) (p : Nat) : (b.part p).window = (a.part p).window := by
  have := congrArg Part.window (h.part p); simpa [Part.frame] using this
theorem heldHq (h : Dev.Side a b) (p : Nat) : (b.part p).heldHq = (a.part p).heldHq := by
  have := congrArg Part.heldHq (h.part p); simpa [Part.frame] using this

/-- Engine contexts stand as they were. -/
theorem ctx (h : Dev.Side a b) (e : Eng) : b.ctx e = a.ctx e := by
  unfold Dev.ctx
  rw [h.eng, h.up, h.rd]

/-- Handle queues stand as they were. -/
theorem hq (h : Dev.Side a b) (i q : Nat) : b.hq i q = a.hq i q := by
  unfold Dev.hq
  rw [h.hqs]

theorem chan (h : Dev.Side a b) (i : Nat) : b.chan i = a.chan i := by
  unfold Dev.chan
  rw [h.chans]

theorem swOf (h : Dev.Side a b) (i : Nat) : b.swOf i = a.swOf i := by
  unfold Dev.swOf
  rw [h.sw]

end Dev.Side

/-- A core's frame is all that a change of it must keep. -/
theorem Dev.Side.setCore {d : Dev} {c : Nat} {x : Core} (h : x.frame = (d.core c).frame) : Dev.Side d (d.setCore c x) := by
  refine ⟨rfl, rfl, rfl, rfl, rfl, rfl, rfl, fun i => ?_, fun _ => rfl⟩
  by_cases hi : i = c
  · subst hi; simp [h]
  · simp [Dev.core_setCore_ne _ _ hi]

theorem Dev.Side.setPart {d : Dev} {p : Nat} {x : Part} (h : x.frame = (d.part p).frame) : Dev.Side d (d.setPart p x) := by
  refine ⟨rfl, rfl, rfl, rfl, rfl, rfl, rfl, fun _ => rfl, fun i => ?_⟩
  by_cases hi : i = p
  · subst hi; simp [h]
  · simp [Dev.part_setPart_ne _ _ hi]

/-! ## Objects, links, messages, records -/

theorem Dev.put_side (d : Dev) (o : Obj) (v : Nat) : Dev.Side d (d.put o v) := .of_eq rfl rfl rfl rfl rfl rfl rfl rfl rfl
theorem Dev.bump_side (w : Nat) (d : Dev) (o : Obj) (n : Nat) : Dev.Side d (Dev.bump w d o n) := d.put_side _ _
theorem Dev.cnt_side (d : Dev) (o : Obj) (n : Nat) : Dev.Side d (d.cnt o n) := d.put_side _ _
theorem Dev.setLink_side (d : Dev) (l : Nat) (x : Link) : Dev.Side d (d.setLink l x) := .of_eq rfl rfl rfl rfl rfl rfl rfl rfl rfl
theorem Dev.setPwr_side (d : Dev) (x : Pwr) : Dev.Side d (d.setPwr x) := .of_eq rfl rfl rfl rfl rfl rfl rfl rfl rfl

theorem Dev.wakeDom_side (d : Dev) (x : Nat) : Dev.Side d (d.wakeDom x) := by
  simp only [Dev.wakeDom]
  split
  · split
    · exact .refl d
    · exact .of_eq rfl rfl rfl rfl rfl rfl rfl rfl rfl
  · split
    · exact .refl d
    · exact .of_eq rfl rfl rfl rfl rfl rfl rfl rfl rfl

theorem Dev.enqueue_side (d : Dev) (l : Nat) (m : Msg) : Dev.Side d (d.enqueue l m) := by
  simp only [Dev.enqueue]
  split <;> exact (d.wakeDom_side _).trans (Dev.setLink_side _ _ _)

theorem Dev.send_side (d : Dev) (m : Msg) (f : Bool) : Dev.Side d (d.send m f).1 := by
  unfold Dev.send
  split
  · exact d.enqueue_side _ _
  · exact .refl d

theorem Dev.notify_side (d : Dev) (ev st ix sub p : Nat) : Dev.Side d (d.notify ev st ix sub p) :=
  .trans (b := { d with msgId := d.msgId + 1 }) (.of_eq rfl rfl rfl rfl rfl rfl rfl rfl rfl) (Dev.send_side _ _ _)

theorem Dev.post_side (d : Dev) (t : Nat) (m : Msg) : Dev.Side d (d.post t m).1 := by
  simp only [Dev.post]
  split
  · exact Dev.send_side _ _ _
  · exact .of_eq rfl rfl rfl rfl rfl rfl rfl rfl rfl

theorem Dev.file_side (d : Dev) (i : RecInfo) : Dev.Side d (d.file i) := by
  unfold Dev.file
  extract_lets ms n
  split
  · exact .of_eq rfl rfl rfl rfl rfl rfl rfl rfl rfl
  · rename_i d1 d2 d3 _
    refine Dev.Side.trans ?_ (Dev.notify_side _ _ _ _ _ _)
    unfold d3
    split <;> exact .of_eq rfl rfl rfl rfl rfl rfl rfl rfl rfl

theorem Dev.stain_side (d : Dev) (kind unit p : Nat) : Dev.Side d (d.stain kind unit p).2.2 := by
  unfold Dev.stain
  refine Dev.Side.foldl_of (fun a : Nat × Nat × Dev => a.2.2) _ _ (fun x y => ?_) (0, 0, d)
  dsimp only
  split <;> exact .of_eq rfl rfl rfl rfl rfl rfl rfl rfl rfl

theorem Dev.engCount_side (d : Dev) (e : Eng) (sub n : Nat) : Dev.Side d (d.engCount e sub n) := by
  simp only [Dev.engCount]
  split
  · exact (d.cnt_side _ _).trans (Dev.cnt_side _ _ _)
  · exact d.cnt_side _ _

/-! ## Memory -/

theorem Dev.charge_side (d : Dev) (p i n : Nat) : Dev.Side d (d.charge p i n) := by
  simp only [Dev.charge]
  split
  · exact .refl d
  · have h : Dev.Side d (d.setPart p { d.part p with meters := Map.set (d.part p).meters 0 i (Map.get (d.part p).meters 0 i + n) }) :=
      .setPart rfl
    split
    · exact h.trans (.of_eq rfl rfl rfl rfl rfl rfl rfl rfl rfl)
    · split
      · exact h.trans (.of_eq rfl rfl rfl rfl rfl rfl rfl rfl rfl)
      · exact h

theorem Dev.meter_side (d : Dev) (p : Nat) (w : Bool) (n : Nat) : Dev.Side d (d.meter p w n) := by
  unfold Dev.meter
  split
  · exact .refl d
  · exact d.charge_side _ _ _

theorem Dev.setMem_side (d : Dev) (m : Mem) : Dev.Side d { d with mem := m } := .of_eq rfl rfl rfl rfl rfl rfl rfl rfl rfl

theorem Dev.activate_side (d : Dev) (line : Nat) : Dev.Side d (d.activate line) := d.setMem_side _

/-- The end of a lookup that misses: a line may take a way, and a dirty victim is written back. -/
theorem Dev.Side.allocate {d x : Dev} (h : Dev.Side d x) (no back : Bool) (line q : Nat) (f : Dev → Mem) :
    Dev.Side d (if no = true then x else
      let y := if back = true then (x.activate line).cnt (K.SC_WRITEBACKS q) 1 else x
      { y with mem := f y }) := by
  cases no
  · refine Dev.Side.trans ?_ (Dev.setMem_side _ _)
    cases back
    · exact h
    · exact h.trans ((Dev.activate_side _ _).trans (Dev.cnt_side _ _ _))
  · exact h

theorem Dev.cacheTouch_side (d : Dev) (line : Nat) (w al : Bool) (m : Nat) : Dev.Side d (d.cacheTouch line w al m) := by
  unfold Dev.cacheTouch
  dsimp only
  split
  · exact .refl d
  split
  · exact (Dev.setMem_side _ _).trans (Dev.cnt_side _ _ _)
  · refine Dev.Side.allocate ?_ _ _ _ _ (fun y => { y.mem with tags := _, plru := _ })
    split
    · exact d.cnt_side _ _
    · exact (d.cnt_side _ _).trans (Dev.activate_side _ _)

theorem Dev.hbmRecord_side (d : Dev) (kind x st p idx op : Nat) : Dev.Side d (d.hbmRecord kind x st p idx op) := by
  simp only [Dev.hbmRecord]
  exact (d.put_side _ _).trans (Dev.file_side _ _)

theorem Dev.memDelay_side (d : Dev) (n : Nat) : Dev.Side d { d with memDelay := n } := .of_eq rfl rfl rfl rfl rfl rfl rfl rfl rfl

theorem Dev.lineCorrected_side (d : Dev) (line p idx op : Nat) : Dev.Side d (d.lineCorrected line p idx op) := by
  simp only [Dev.lineCorrected]
  split
  · exact ((d.cnt_side _ _).trans (Dev.setMem_side _ _)).trans (Dev.hbmRecord_side _ _ _ _ _ _ _)
  · exact ((d.cnt_side _ _).trans (Dev.setMem_side _ _)).trans (Dev.setMem_side _ _)

theorem Dev.lineLost_side (d : Dev) (line kind p idx op : Nat) : Dev.Side d (d.lineLost line kind p idx op) :=
  (d.setMem_side _).trans ((Dev.cnt_side _ _ _).trans (Dev.hbmRecord_side _ _ _ _ _ _ _))

theorem Dev.lineMet_side (d : Dev) (line p idx op : Nat) (f : Finding) : Dev.Side d (d.lineMet line p idx op f).2 := by
  unfold Dev.lineMet
  split
  · exact d.lineLost_side _ _ _ _ _
  split
  · exact d.lineLost_side _ _ _ _ _
  split
  · exact d.lineCorrected_side _ _ _ _
  · exact d.cnt_side _ _
  · exact .refl d

theorem Dev.readLine_side (d : Dev) (s : Iss) (line : Nat) : Dev.Side d (d.readLine s line).2 :=
  ((d.cacheTouch_side _ _ _ _).trans (Dev.stain_side _ _ _ _)).trans ((Dev.memDelay_side _ _).trans (Dev.lineMet_side _ _ _ _ _ _))

theorem Dev.spRecordEcc_side (d : Dev) (c mem kind word e idx op ecc : Nat) :
    Dev.Side d (d.spRecordEcc c mem kind word e idx op ecc) := by
  simp only [Dev.spRecordEcc]
  refine Dev.Side.trans (Dev.Side.trans ?_ (Dev.file_side _ _)) (Dev.put_side _ _ _)
  split
  · exact Dev.cnt_side _ _ _
  · exact .refl d

theorem Dev.spRecord_side (d : Dev) (c mem kind word e idx op : Nat) : Dev.Side d (d.spRecord c mem kind word e idx op) :=
  d.spRecordEcc_side _ _ _ _ _ _ _ _

theorem Dev.spMet_side (d : Dev) (s : Iss) (e : Nat) (ws : List (Nat × Nat × Nat)) : Dev.Side d (d.spMet s e ws) :=
  Dev.Side.foldl _ _ (fun d _ => d.spRecord_side _ _ _ _ _ _ _) d

theorem Dev.spRecords_side (d : Dev) (c mem e idx op : Nat) (ws : List Nat) : Dev.Side d (d.spRecords c mem e idx op ws) :=
  Dev.Side.foldl _ _ (fun d _ => d.spRecord_side _ _ _ _ _ _ _) d

theorem Dev.readLines_side (d : Dev) (s : Iss) (ls : List Loc) : Dev.Side d (d.readLines s ls).2.2 := by
  unfold Dev.readLines
  dsimp only
  refine Dev.Side.trans ?_ (Dev.meter_side _ _ _ _)
  refine Dev.Side.foldl_of (fun a : Bool × Dev => a.2) _ _ (fun x y => ?_) (false, d)
  exact x.2.readLine_side s y

theorem Dev.draw_side (d : Dev) (w : Nat) : Dev.Side d (d.draw w).2 := .of_eq rfl rfl rfl rfl rfl rfl rfl rfl rfl

theorem Dev.spCorrected_side (d : Dev) (c mem word : Nat) : Dev.Side d (d.spCorrected c mem word) := by
  have h : ∀ x : Core, x.frame = (d.core c).frame → Dev.Side d ((d.setCore c x).cnt (K.SP_CORRECTED c) 1) :=
    fun _ hx => (Dev.Side.setCore hx).trans (Dev.cnt_side _ _ _)
  unfold Dev.spCorrected
  dsimp only
  generalize hx : ({ d.core c with flaw := _, once := _ } : Core) = x
  have hf : x.frame = (d.core c).frame := by subst hx; rfl
  split
  · exact (h x hf).trans ((Dev.draw_side _ 8).trans (Dev.spRecordEcc_side _ _ _ _ _ _ _ _ _))
  · exact h x hf

theorem Dev.readRun_side (d : Dev) (s : Iss) (e : Nat) (ls : List Loc) : Dev.Side d (d.readRun s e ls).2.2 :=
  ((d.readLines_side s ls).trans (Dev.spMet_side _ _ _ _)).trans (Dev.Side.foldl _ _ (fun d _ => d.spCorrected_side _ _ _) _)

theorem Dev.setHbmByte_side (d : Dev) (x : Nat) (b : Byte) : Dev.Side d (d.setHbmByte x b) := by
  unfold Dev.setHbmByte
  split <;> exact d.setMem_side _

theorem Dev.setBytes_side {β : Type} (f : β → Nat) (g : β → Byte) (l : List β) (d : Dev) :
    Dev.Side d (l.foldl (fun d b => d.setHbmByte (f b) (g b)) d) :=
  Dev.Side.foldl _ l (fun d _ => d.setHbmByte_side _ _) d

theorem Dev.writeLine_side (d : Dev) (s : Iss) (line : Nat) (bs : List (Nat × Byte)) : Dev.Side d (d.writeLine s line bs).2 := by
  simp only [Dev.writeLine]
  refine Dev.Side.trans ?_ (Dev.memDelay_side _ _)
  refine Dev.Side.trans ?_ (Dev.stain_side _ _ _ _)
  refine Dev.Side.trans ?_ (Dev.cacheTouch_side _ _ _ _ _)
  refine Dev.Side.trans ?_ (Dev.setBytes_side _ _ _ _)
  split
  · exact (Dev.setMem_side _ _).trans (Dev.setBytes_side _ _ _ _)
  · exact Dev.setMem_side _ _

theorem Core.touch_frame (k : Core) (mem off : Nat) : (k.touch mem off).frame = k.frame := rfl
theorem Core.poke_frame (k : Core) (mem off : Nat) (b : Byte) : (k.poke mem off b).frame = k.frame := rfl

theorem Core.foldl_frame {β : Type} (f : Core → β → Core) (l : List β) (h : ∀ k x, (f k x).frame = k.frame) (k : Core) :
    (l.foldl f k).frame = k.frame := by
  induction l generalizing k with
  | nil => rfl
  | cons x r ih => exact (ih (f k x)).trans (h k x)

theorem Core.writeWord_frame (k : Core) (mem w : Nat) (bs : List (Nat × Byte)) : (k.writeWord mem w bs).1.frame = k.frame := by
  simp only [Core.writeWord]
  refine (Core.foldl_frame _ _ (fun k e => k.poke_frame _ _ _) _).trans ?_
  have h1 := Core.foldl_frame (fun (k : Core) (e : Nat × Byte) => k.touch mem e.1) bs (fun k e => k.touch_frame _ _) k
  split
  · exact (Core.foldl_frame _ _ (fun k e => k.poke_frame _ _ _) _).trans h1
  · exact h1

/-- A write of scratchpad bytes leaves all of the core but contents and marks. -/
theorem Core.write_frame (k : Core) (mem : Nat) (bs : List (Nat × Byte)) : (k.write mem bs).1.frame = k.frame := by
  unfold Core.write
  generalize groupBy (fun e : Nat × Byte => e.1 / 8) bs = gs
  suffices h : ∀ a : Core × List Nat, (gs.foldl (fun (a : Core × List Nat) g =>
      let (k', b) := a.1.writeWord mem g.1 g.2
      (k', if b then a.2 ++ [g.1] else a.2)) a).1.frame = a.1.frame from h (k, [])
  induction gs with
  | nil => intro a; rfl
  | cons g r ih => intro a; exact (ih _).trans (a.1.writeWord_frame mem g.1 g.2)

theorem Dev.writeAcc_side (d : Dev) (add : Bool) (bs : List (Nat × Byte)) : Dev.Side d (d.writeAcc add bs) :=
  .of_eq rfl rfl rfl rfl rfl rfl rfl rfl rfl

theorem Dev.writeRun_side (d : Dev) (s : Iss) (e : Nat) (bs : List (Loc × Byte)) : Dev.Side d (d.writeRun s e bs).2 := by
  simp only [Dev.writeRun]
  refine Dev.Side.trans ?_ (Dev.meter_side _ _ _ _)
  refine Dev.Side.foldl_of (fun a : Bool × Dev => a.2) _ _ (fun x y => ?_) (false, d)
  cases y with
  | line n g => exact x.2.writeLine_side s n g
  | acc v g => exact x.2.writeAcc_side v g
  | sp c m g => exact (Dev.Side.setCore (Core.write_frame _ _ _)).trans (Dev.spRecords_side _ _ _ _ _ _ _)
  | far => exact .refl _

theorem Dev.readWin_side (d : Dev) (s : Iss) (w : Who) (a n : Nat) : Dev.Side d (d.readWin s w a n).2 := by
  unfold Dev.readWin
  split
  · exact .refl d
  · split
    · exact .refl d
    · exact d.readRun_side _ _ _

theorem Dev.writeWin_side (d : Dev) (s : Iss) (w : Who) (a : Nat) (bs : List Nat) : Dev.Side d (d.writeWin s w a bs).2 := by
  unfold Dev.writeWin
  split
  · exact .refl d
  · split
    · exact .refl d
    · exact d.writeRun_side _ _ _

theorem Dev.requestFor_side (d : Dev) (e : Eng) (l : Bool) (i at' : Nat) (w : Bool) (a n : Nat) (bs : List Nat) :
    Dev.Side d (d.requestFor e l i at' w a n bs).2 := by
  unfold Dev.requestFor
  dsimp only
  generalize hm : txMsg _ _ _ _ _ _ _ _ _ _ _ = m
  have h := d.send_side m false
  generalize d.send m false = r at h ⊢
  obtain ⟨d', ok⟩ := r
  cases ok
  · exact h
  · exact h.trans (.of_eq rfl rfl rfl rfl rfl rfl rfl rfl rfl)

theorem Dev.moveEntry_side (d : Dev) (w : Who) (a : Nat) (bs : List Nat) : Dev.Side d (d.moveEntry w a bs) := by
  unfold Dev.moveEntry
  split
  · exact .refl d
  · refine Dev.Side.foldl _ _ (fun d b => ?_) d
    split
    · exact d.setHbmByte_side _ _
    · exact d.setMem_side _
    · exact .refl d

/-! ## Lists -/

theorem Dev.slot_side (d : Dev) (e : Eng) (i : Nat) : Dev.Side d (d.slot e i).2 := by
  unfold Dev.slot
  split
  · exact .refl d
  split
  · exact .refl d
  · exact d.readWin_side _ _ _ _

theorem Dev.takeSlots_side (d : Dev) (e : Eng) (n : Nat) : Dev.Side d (d.takeSlots e n) :=
  Dev.Side.foldl _ _ (fun d _ => d.slot_side e _) d

theorem Dev.nfRecord_side (d : Dev) (e : Eng) (index op st : Nat) : Dev.Side d (d.nfRecord e index op st) := by
  unfold Dev.nfRecord
  split
  · exact d.file_side _
  · exact Dev.Side.refl d

theorem Dev.overflowRecord_side (d : Dev) (e : Eng) (q index op : Nat) : Dev.Side d (d.overflowRecord e q index op) := d.file_side _

/-! ## Ring messages (R372) -/

theorem Dev.ringTaken_side (d : Dev) (r l kind : Nat) : Dev.Side d (d.ringTaken r l kind) := by
  unfold Dev.ringTaken
  extract_lets t n d1 d2
  have h1 : Dev.Side d d1 := .of_eq rfl rfl rfl rfl rfl rfl rfl rfl rfl
  have h2 : Dev.Side d1 d2 := by
    unfold d2
    split
    · exact .refl d1
    · exact d1.cnt_side _ _
  split
  · exact (h1.trans h2).trans (d2.cnt_side _ _)
  · exact h1.trans h2

/-- A ring message that its engine takes is the next of its link, at its source's turn; the engine's rotation moves on to it. -/
theorem Dev.takeRing_cases {d t : Dev} {l kind : Nat} {m : Msg} (h : d.takeRing l kind = some (m, t)) :
    ∃ x, d.takeMsg l 2 (fun y => (ringHdr y.payload).kind == kind) = some (m, x) ∧ d.ringTurn (d.msgEngine l m) l = true ∧
      t = x.ringTaken (d.msgEngine l m) l kind := by
  unfold Dev.takeRing at h
  split at h
  · cases h
  · rename_i y x e
    dsimp only at h
    split at h
    · cases h
      exact ⟨x, e, ‹_›, rfl⟩
    · cases h

end Sys2Proof.Machine
end

