-- ==== Sys2Proof/Laws/Engine.lean ====
section
/-! SUPPORT. What the shared operations of the engines do to the engines' contexts and to the handle queues. -/
namespace Sys2Proof.Machine

/-- A context but for its rings that are no longer in force, the mark that its LATE record is filed, the handle it has popped and
the cycle of its next issue. -/
def EngCtx.plain (x : EngCtx) : EngCtx := { x with rings := [], lateFiled := false, popped := none, nxt := 0 }

/-- Contexts but for those, and queues, stand as they were. -/
structure Dev.Calm (a b : Dev) : Prop where
  ctx : ∀ e, (b.ctx e).plain = (a.ctx e).plain
  hq : ∀ c q, b.hq c q = a.hq c q
  now : b.now = a.now
  cyc : b.cyc = a.cyc

namespace Dev.Calm

variable {a b c : Dev}

theorem refl (a : Dev) : Dev.Calm a a := ⟨fun _ => rfl, fun _ _ => rfl, rfl, rfl⟩
theorem trans (h : Dev.Calm a b) (g : Dev.Calm b c) : Dev.Calm a c :=
  ⟨fun e => (g.ctx e).trans (h.ctx e), fun i q => (g.hq i q).trans (h.hq i q), g.now.trans h.now, g.cyc.trans h.cyc⟩
theorem of_side (h : Dev.Side a b) : Dev.Calm a b := ⟨fun e => by rw [h.ctx], h.hq, h.now, h.cyc⟩
theorem foldl {β : Type} (f : Dev → β → Dev) (l : List β) (h : ∀ d x, Dev.Calm d (f d x)) (d : Dev) :
    Dev.Calm d (l.foldl f d) := List.foldlRecOn l f (refl d) (fun b hb x _ => hb.trans (h b x))

theorem index (h : Dev.Calm a b) (e : Eng) : (b.ctx e).index = (a.ctx e).index := by
  have := congrArg EngCtx.index (h.ctx e); simpa [EngCtx.plain] using this
theorem busy (h : Dev.Calm a b) (e : Eng) : (b.ctx e).busy = (a.ctx e).busy := by
  have := congrArg EngCtx.busy (h.ctx e); simpa [EngCtx.plain] using this
theorem count (h : Dev.Calm a b) (e : Eng) : (b.ctx e).count = (a.ctx e).count := by
  have := congrArg EngCtx.count (h.ctx e); simpa [EngCtx.plain] using this
theorem fetched (h : Dev.Calm a b) (e : Eng) : (b.ctx e).fetched = (a.ctx e).fetched := by
  have := congrArg EngCtx.fetched (h.ctx e); simpa [EngCtx.plain] using this
theorem bound (h : Dev.Calm a b) (e : Eng) : (b.ctx e).bound = (a.ctx e).bound := by
  have := congrArg EngCtx.bound (h.ctx e); simpa [EngCtx.plain] using this
theorem gen (h : Dev.Calm a b) (e : Eng) : (b.ctx e).gen = (a.ctx e).gen := by
  have := congrArg EngCtx.gen (h.ctx e); simpa [EngCtx.plain] using this
theorem late (h : Dev.Calm a b) (e : Eng) : (b.ctx e).late = (a.ctx e).late := by
  have := congrArg EngCtx.late (h.ctx e); simpa [EngCtx.plain] using this

end Dev.Calm

/-- Engines whose contexts are stored in different places. -/
def Eng.slot (e : Eng) : Nat × Nat × Nat := if e.isCore then (e.k, e.n, 0) else (if e.k = 5 then 5 else 6, e.n, e.p + 1)

theorem Dev.ctx_setCtx_ne (d : Dev) {e f : Eng} (x : EngCtx) (h : f.slot ≠ e.slot) : (d.setCtx e x).ctx f = d.ctx f := by
  unfold Dev.ctx Dev.setCtx
  unfold Eng.slot at h
  by_cases he : e.isCore = true <;> by_cases hf : f.isCore = true <;> simp only [he, hf, if_true, if_false, Bool.false_eq_true] at h ⊢
  · by_cases hn : f.n = e.n
    · have hk : f.k ≠ e.k := fun hk => h (by rw [hk, hn])
      rw [hn, Dev.core_setCore_self, Map.get_set_ne _ _ _ hk]
    · rw [Dev.core_setCore_ne _ _ hn]
  · simp
  · split <;> simp
  · by_cases hp : f.p = e.p
    · by_cases h5 : e.k = 5 <;> by_cases g5 : f.k = 5 <;> simp only [h5, g5, if_true, if_false] at h ⊢
      · have hn : f.n ≠ e.n := fun hn => h (by rw [hp, hn])
        rw [hp, Dev.part_setPart_self, Map.get_set_ne _ _ _ hn]
      · rw [hp, Dev.part_setPart_self]
      · rw [hp, Dev.part_setPart_self]
      · have hn : f.n ≠ e.n := fun hn => h (by rw [hp, hn])
        rw [hp, Dev.part_setPart_self, Map.get_set_ne _ _ _ hn]
    · by_cases h5 : e.k = 5 <;> simp only [h5, if_true, if_false, Dev.part_setPart_ne _ _ hp]

theorem Eng.slot_ctx {e f : Eng} (d : Dev) (h : f.slot = e.slot) : d.ctx f = d.ctx e := by
  unfold Eng.slot at h
  unfold Dev.ctx
  by_cases he : e.isCore = true <;> by_cases hf : f.isCore = true <;> simp only [he, hf, if_true, if_false, Bool.false_eq_true] at h ⊢
  · simp only [Prod.mk.injEq, and_true] at h
    rw [h.1, h.2]
  · simp at h
  · simp at h
  · simp only [Prod.mk.injEq] at h
    obtain ⟨h1, h2, h3⟩ := h
    have hp : f.p = e.p := by omega
    rw [hp, h2]
    by_cases h5 : e.k = 5 <;> by_cases g5 : f.k = 5 <;> simp [h5, g5] at h1 ⊢

theorem Dev.hq_setCtx (d : Dev) (e : Eng) (x : EngCtx) (c q : Nat) : (d.setCtx e x).hq c q = d.hq c q := by
  unfold Dev.hq Dev.setCtx
  split
  · by_cases hc : c = e.n
    · subst hc; simp
    · rw [Dev.core_setCore_ne _ _ hc]
  · split <;> rfl

theorem Dev.setCtx_now (d : Dev) (e : Eng) (x : EngCtx) : (d.setCtx e x).now = d.now := by
  unfold Dev.setCtx; split
  · rfl
  · split <;> rfl
theorem Dev.setCtx_cyc (d : Dev) (e : Eng) (x : EngCtx) : (d.setCtx e x).cyc = d.cyc := by
  unfold Dev.setCtx; split
  · rfl
  · split <;> rfl
theorem Dev.setCtx_objs (d : Dev) (e : Eng) (x : EngCtx) : (d.setCtx e x).objs = d.objs := by
  unfold Dev.setCtx; split
  · rfl
  · split <;> rfl
theorem Dev.get_setCtx (d : Dev) (e : Eng) (x : EngCtx) (o : Obj) : (d.setCtx e x).get o = d.get o := by
  unfold Dev.get; rw [Dev.setCtx_objs]

/-- A context set to one that differs in its rings and its mark alone. -/
theorem Dev.setCtx_calm (d : Dev) (e : Eng) (x : EngCtx) (h : x.plain = (d.ctx e).plain) : Dev.Calm d (d.setCtx e x) := by
  refine ⟨fun f => ?_, d.hq_setCtx e x, d.setCtx_now e x, d.setCtx_cyc e x⟩
  by_cases hs : f.slot = e.slot
  · rw [Eng.slot_ctx _ hs, Eng.slot_ctx d hs, Dev.ctx_setCtx_self, h]
  · rw [Dev.ctx_setCtx_ne _ _ hs]

theorem Dev.setPart_calm (d : Dev) (p : Nat) (x : Part) (h : x.up = (d.part p).up) (h' : x.rd = (d.part p).rd) :
    Dev.Calm d (d.setPart p x) := by
  refine ⟨fun e => ?_, fun _ _ => rfl, rfl, rfl⟩
  unfold Dev.ctx
  by_cases hp : e.p = p
  · subst hp; simp [h, h']
  · simp [Dev.part_setPart_ne _ _ hp]

theorem Dev.setSched_calm (d : Dev) (p : Nat) (x : Sched) : Dev.Calm d (d.setSched p x) := d.setPart_calm _ _ rfl rfl

theorem Dev.ringSlot_calm (d : Dev) (e : Eng) (gen : Nat) : Dev.Calm d (d.ringSlot e gen).2 := by
  unfold Dev.ringSlot
  dsimp only
  split
  · exact .of_side (d.put_side _ _)
  · exact d.setCtx_calm _ _ rfl

theorem Dev.noteRing_calm (d : Dev) (e : Eng) (gen : Nat) (l : List Nat) (r : List RingEntry) : Dev.Calm d (d.noteRing e gen l r) := by
  unfold Dev.noteRing
  split
  · exact .refl d
  · exact d.setPart_calm _ _ rfl rfl

theorem Dev.writeEntry_calm (d : Dev) (e : Eng) (index op a b : Nat) (bs : List Nat) :
    Dev.Calm d (if bits a 63 52 = d.get K.DEVICE_NUMBER then d.writeWin (d.iss e index op) (d.engWho e) b bs
      else match d.requestFor e true index 0 true b 16 bs with
        | (some _, d) => (stOK, d)
        | (none, d) => (stLINK, d)).2 := by
  split
  · exact .of_side (d.writeWin_side _ _ _ _)
  · have h := Dev.Calm.of_side (d.requestFor_side e true index 0 true b 16 bs)
    generalize d.requestFor e true index 0 true b 16 bs = r at h ⊢
    obtain ⟨x, d'⟩ := r
    cases x <;> exact h

/-- A completion record leaves contexts and queues. -/
theorem Dev.record_calm (d : Dev) (e : Eng) (index op status gen : Nat) : Dev.Calm d (d.record e index op status gen) := by
  unfold Dev.record
  have h1 : Dev.Calm d (if e.k = 3 && op = 0x18 then
      (d.cnt (K.SPL_LOADS e.n) 1).cnt (K.SPL_REFUSED e.n) (if status = stSPARSE then 1 else 0) else d) := by
    split
    · exact .of_side ((d.cnt_side _ _).trans (Dev.cnt_side _ _ _))
    · exact .refl d
  generalize (if e.k = 3 && op = 0x18 then
      (d.cnt (K.SPL_LOADS e.n) 1).cnt (K.SPL_REFUSED e.n) (if status = stSPARSE then 1 else 0) else d) = d1 at h1
  dsimp only
  have h2 := h1.trans (d1.ringSlot_calm e gen)
  generalize d1.ringSlot e gen = r at h2 ⊢
  obtain ⟨a, d2⟩ := r
  dsimp only at h2 ⊢
  generalize d2.ringLater e gen = rest
  generalize rest.map RingEntry.addr ++ [a] = slots
  generalize toLE 4 index ++ [status, e.k, 0, 0] ++ toLE 8 d2.now = bytes
  have h3 := h2.trans (d2.noteRing_calm e gen slots ({ tick := d2.now, gen := gen, eng := e.n, addr := a, bytes := bytes } :: rest))
  generalize d2.noteRing e gen slots ({ tick := d2.now, gen := gen, eng := e.n, addr := a, bytes := bytes } :: rest) = d3 at h3 ⊢
  split
  · exact h3.trans (.of_side (d3.setMem_side _))
  · have h4 := h3.trans (d3.writeEntry_calm e index op a (slots.headD a) bytes)
    generalize (if bits a 63 52 = d3.get K.DEVICE_NUMBER then d3.writeWin (d3.iss e index op) (d3.engWho e) (slots.headD a) bytes
      else match d3.requestFor e true index 0 true (slots.headD a) 16 bytes with
        | (some _, d) => (stOK, d)
        | (none, d) => (stLINK, d)) = w at h4 ⊢
    obtain ⟨st, d4⟩ := w
    dsimp only at h4 ⊢
    have h5 := h4.trans (Dev.Calm.of_side (Dev.Side.foldl
      (fun d (x : Nat × RingEntry) => d.moveEntry (d.engWho e) x.1 x.2.bytes) (slots.tail.zip rest) (fun d _ => d.moveEntry_side _ _ _) d4))
    split
    · exact h5
    · exact h5.trans (.of_side (Dev.file_side _ _))

/-- The record of a late completion leaves contexts, but for its mark, and queues. -/
theorem Dev.lateCompletion_calm (d : Dev) (e : Eng) (index op w1 cause st : Nat) :
    Dev.Calm d (d.lateCompletion e index op w1 cause st) := by
  unfold Dev.lateCompletion
  split
  · unfold Dev.lateRecord
    dsimp only
    split
    · exact .refl d
    · exact (d.setCtx_calm e { d.ctx e with lateFiled := true } rfl).trans (.of_side (Dev.file_side _ _))
  · exact .refl d

theorem Dev.damage_calm (d : Dev) (p st : Nat) : Dev.Calm d (d.damage p st) := by
  unfold Dev.damage
  dsimp only
  split
  · exact .refl d
  · exact (d.setSched_calm _ _).trans (.of_side ((Dev.put_side _ _ _).trans (Dev.file_side _ _)))

theorem Dev.account_calm (d : Dev) (e : Eng) (w1 st at' sig : Nat) (quiet : Bool) : Dev.Calm d (d.account e w1 st at' sig quiet) := by
  unfold Dev.account
  extract_lets p d1 d2 d3 s
  have h1 : Dev.Calm d d1 := by
    unfold d1; split
    · exact .of_side (d.engCount_side _ _ _)
    · exact .refl d
  have h2 : Dev.Calm d d2 := by
    unfold d2; split
    · exact h1.trans (.of_side (d1.put_side _ _))
    · exact h1
  split
  · exact h2
  have h3 : Dev.Calm d d3 := by
    unfold d3; split
    · exact h2.trans (.of_side (d2.cnt_side _ _))
    · exact h2
  split
  · exact h3
  split
  · exact h3.trans (d3.setSched_calm _ _)
  split
  · exact h3.trans (d3.damage_calm _ _)
  split
  · exact h3
  · exact h3.trans (d3.setSched_calm _ _)

/-! ## Queues -/

theorem Dev.setHq_ctx (d : Dev) (c q : Nat) (l : List Handle) (e : Eng) : (d.setHq c q l).ctx e = d.ctx e := by
  unfold Dev.ctx Dev.setHq
  by_cases h : e.n = c
  · subst h; simp
  · simp [Dev.core_setCore_ne _ _ h]

theorem Dev.hq_setHq_ne (d : Dev) {c q c' q' : Nat} (l : List Handle) (h : ¬(c' = c ∧ q' = q)) : (d.setHq c q l).hq c' q' = d.hq c' q' := by
  unfold Dev.hq Dev.setHq
  by_cases hc : c' = c
  · subst hc
    have hq : q' ≠ q := fun hq => h ⟨rfl, hq⟩
    simp [Map.get_set_ne _ _ _ hq]
  · rw [Dev.core_setCore_ne _ _ hc]

/-- Contexts, but for rings no longer in force and marks of LATE records, and the time stand as they were. -/
structure Dev.Same (a b : Dev) : Prop where
  ctx : ∀ e, (b.ctx e).plain = (a.ctx e).plain
  now : b.now = a.now
  cyc : b.cyc = a.cyc

theorem Dev.Calm.same {a b : Dev} (h : Dev.Calm a b) : Dev.Same a b := ⟨h.ctx, h.now, h.cyc⟩
theorem Dev.Same.refl (a : Dev) : Dev.Same a a := ⟨fun _ => rfl, rfl, rfl⟩
theorem Dev.Same.trans {a b c : Dev} (h : Dev.Same a b) (g : Dev.Same b c) : Dev.Same a c :=
  ⟨fun e => (g.ctx e).trans (h.ctx e), g.now.trans h.now, g.cyc.trans h.cyc⟩
theorem Dev.Same.calm {a b : Dev} (h : Dev.Same a b) (g : ∀ c q, b.hq c q = a.hq c q) : Dev.Calm a b := ⟨h.ctx, g, h.now, h.cyc⟩

theorem Dev.setCtx_same (d : Dev) (e : Eng) (x : EngCtx) (h : x.plain = (d.ctx e).plain) : Dev.Same d (d.setCtx e x) :=
  (d.setCtx_calm e x h).same

theorem Dev.setHq_same (d : Dev) (c q : Nat) (l : List Handle) : Dev.Same d (d.setHq c q l) :=
  ⟨fun f => by rw [Dev.setHq_ctx], rfl, rfl⟩

/-- Taking a handle changes of the contexts only what they have popped. -/
theorem Dev.popFor_same {d d' : Dev} {e : Eng} {q : Nat} {h : Option Handle} (g : d.popFor e q = some (h, d')) : Dev.Same d d' := by
  unfold Dev.popFor at g
  dsimp only at g
  split at g
  · cases g; exact .refl d
  split at g
  · cases g; exact .refl d
  split at g
  · cases g
  split at g
  · cases g
  split at g
  · cases g
  · cases g
    exact (d.setHq_same _ _ _).trans (Dev.setCtx_same _ _ _ rfl)

theorem Dev.popFirst_same (d : Dev) (c q : Nat) : Dev.Same d (d.popFirst c q) := by
  unfold Dev.popFirst
  split
  · split
    · rename_i g; exact Dev.popFor_same g
    · exact .refl d
  · exact .refl d

/-- A push leaves every context but for what it has popped. -/
theorem Dev.push_same (d : Dev) (e : Eng) (q : Nat) (h : Handle) : Dev.Same d (d.push e q h).1 := by
  unfold Dev.push
  split
  · exact .refl d
  have hs : Dev.Same d (if e.isCore = true then d.stain 1 e.unit (d.engPart e) else (0, 0, d)).2.2 := by
    split
    · exact (Dev.Calm.of_side (d.stain_side _ _ _)).same
    · exact .refl d
  revert hs
  generalize (if e.isCore = true then d.stain 1 e.unit (d.engPart e) else (0, 0, d)) = r
  obtain ⟨n, t, d2⟩ := r
  intro hs
  dsimp only at hs ⊢
  split
  · rename_i c _
    have hw : Dev.Same d (if d2.get (K.DOM_STATE c) ≤ 2 then d2.wakeDom c else d2) := by
      split
      · exact hs.trans (Dev.Calm.of_side (d2.wakeDom_side _)).same
      · exact hs
    generalize (if d2.get (K.DOM_STATE c) ≤ 2 then d2.wakeDom c else d2) = d3 at hw ⊢
    split
    · exact hw.trans (d3.setHq_same _ _ _)
    split
    · exact (hw.trans (d3.popFirst_same _ _)).trans (Dev.setHq_same _ _ _ _)
    · exact hw
  · split
    · exact hs
    · exact hs.trans (Dev.Calm.same (by apply Dev.setPart_calm <;> rfl))

/-- A core engine's push into a queue with room puts the handle in its place there, and nothing anywhere else (R31). -/
theorem Dev.push_hq (d : Dev) (e : Eng) (q : Nat) (h : Handle) (he : e.isCore = true) (hq : q ≠ 255)
    (room : (d.hq e.n q).length < 16) :
    (d.push e q h).2 = true ∧
    ∃ v, (d.push e q h).1.hq e.n q = insHandle (d.hq e.n q) { h with vis := v, rank := e.rank } ∧
      ∀ c' q', ¬(c' = e.n ∧ q' = q) → (d.push e q h).1.hq c' q' = d.hq c' q' := by
  unfold Dev.push
  simp only [he, hq, decide_false, Bool.not_true, Bool.false_and, Bool.or_self, Bool.false_eq_true, if_true, if_false]
  have hs := Dev.Calm.of_side (d.stain_side 1 e.unit (d.engPart e))
  revert hs
  generalize d.stain 1 e.unit (d.engPart e) = r
  obtain ⟨n, t, d2⟩ := r
  intro hs
  dsimp only at hs ⊢
  have hc : d2.queueCore e = some e.n := by simp [Dev.queueCore, he]
  rw [hc]
  dsimp only
  have hw : Dev.Calm d (if d2.get (K.DOM_STATE e.n) ≤ 2 then d2.wakeDom e.n else d2) := by
    split
    · exact hs.trans (.of_side (d2.wakeDom_side _))
    · exact hs
  generalize (if d2.get (K.DOM_STATE e.n) ≤ 2 then d2.wakeDom e.n else d2) = d3 at hw ⊢
  have hr : (d3.hq e.n q).length < 16 := by rw [hw.hq]; exact room
  rw [if_pos hr]
  refine ⟨rfl, _, by rw [Dev.hq_setHq_self, hw.hq], fun c' q' hne => ?_⟩
  rw [Dev.hq_setHq_ne _ _ hne, hw.hq]

/-! ## The end of a command at the head of its list -/

/-- A command that ends at the head of its list takes its slots with it and leaves no popped handle; the other contexts stand. -/
theorem Dev.endHead_ctx (d : Dev) (e : Eng) (c : Cmd) (n st : Nat) (quiet : Bool) (h : Handle) :
    ((d.endHead e c n st quiet h).ctx e).plain =
      { (d.ctx e).plain with index := (d.ctx e).index + n, late := false, gated := false, why := 0, hold := none } ∧
    ((d.endHead e c n st quiet h).ctx e).popped = none ∧
    (∀ f, f.slot ≠ e.slot → ((d.endHead e c n st quiet h).ctx f).plain = (d.ctx f).plain) ∧
    (d.endHead e c n st quiet h).now = d.now ∧ (d.endHead e c n st quiet h).cyc = d.cyc := by
  unfold Dev.endHead
  have h1 : Dev.Same d (d.takeSlots e n) := (Dev.Calm.of_side (d.takeSlots_side e n)).same
  generalize d.takeSlots e n = d1 at h1 ⊢
  dsimp only
  generalize (if (!quiet && ((d1.ctx e).late || d1.pastEnd e (c.w 1))) = true then
    stWorst st (if (d1.ctx e).gated = true then stCAP else stLATE) else st) = st1
  generalize d1.issueCycle e c.handle = cy
  have h2 := h1.trans (d1.push_same e (if c.sigQ < 32 then c.sigQ else 255) { h with status := st1, cyc := cy })
  generalize d1.push e (if c.sigQ < 32 then c.sigQ else 255) { h with status := st1, cyc := cy } = r at h2 ⊢
  obtain ⟨d2, ok⟩ := r
  dsimp only at h2 ⊢
  have h3 : Dev.Same d (if ok = true then d2 else d2.overflowRecord e c.sigQ c.index c.op) := by
    split
    · exact h2
    · exact h2.trans (Dev.Calm.of_side (d2.overflowRecord_side _ _ _ _)).same
  generalize (if ok = true then d2 else d2.overflowRecord e c.sigQ c.index c.op) = d3 at h3 ⊢
  generalize (if ok = true then st1 else stRANGE) = st2
  generalize (d1.ctx e).gen = gen
  generalize (if quiet = true then stOK else st2) = own
  have h4 := h3.trans ((d3.record_calm e c.index c.op st2 gen).trans
    (.of_side (Dev.nfRecord_side (d3.record e c.index c.op st2 gen) e c.index c.op own))).same
  replace h4 := h4.trans (Dev.lateCompletion_calm _ e c.index c.op (c.w 1) 4 own).same
  generalize ((d3.record e c.index c.op st2 gen).nfRecord e c.index c.op own).lateCompletion e c.index c.op (c.w 1) 4 own = d4 at h4 ⊢
  have h5 := h4.trans (Dev.account_calm d4 e (c.w 1) st2 (d4.get (K.ATTEMPT (d4.engPart e))) c.sigQ quiet).same
  generalize d4.account e (c.w 1) st2 (d4.get (K.ATTEMPT (d4.engPart e))) c.sigQ quiet = d5 at h5 ⊢
  have hp := h5.ctx e
  refine ⟨?_, by rw [Dev.ctx_setCtx_self], fun f hf => ?_, ?_, ?_⟩
  · rw [Dev.ctx_setCtx_self]
    have hi : (d5.ctx e).index = (d.ctx e).index := by
      have := congrArg EngCtx.index hp; simpa [EngCtx.plain] using this
    rw [hi, ← hp]
    rfl
  · rw [Dev.ctx_setCtx_ne _ _ hf, h5.ctx]
  · rw [Dev.setCtx_now, h5.now]
  · rw [Dev.setCtx_cyc, h5.cyc]

theorem Dev.endHead_index (d : Dev) (e : Eng) (c : Cmd) (n st : Nat) (quiet : Bool) (h : Handle) :
    ((d.endHead e c n st quiet h).ctx e).index = (d.ctx e).index + n := by
  have := congrArg EngCtx.index (d.endHead_ctx e c n st quiet h).1; simpa [EngCtx.plain] using this

theorem Dev.reject_index (d : Dev) (e : Eng) (c : Cmd) (n st : Nat) : ((d.reject e c n st).ctx e).index = (d.ctx e).index + n :=
  d.endHead_index _ _ _ _ _ _

/-- An issued command takes its slots with it. -/
theorem Dev.advance_ctx (d : Dev) (e : Eng) (n : Nat) :
    ((d.advance e n).ctx e).plain =
      { (d.ctx e).plain with index := (d.ctx e).index + n, late := false, gated := false, why := 0, hold := none } ∧
    ((d.advance e n).ctx e).popped = none ∧
    (∀ f, f.slot ≠ e.slot → (d.advance e n).ctx f = d.ctx f) := by
  unfold Dev.advance
  extract_lets d1 x
  have h1 : Dev.Side d d1 := d.takeSlots_side e n
  refine ⟨?_, ?_, fun f hf => ?_⟩
  · rw [(Dev.engCount_side _ e 11 1).ctx, Dev.ctx_setCtx_self]
    unfold x
    rw [h1.ctx]
    rfl
  · rw [(Dev.engCount_side _ e 11 1).ctx, Dev.ctx_setCtx_self]
  · rw [(Dev.engCount_side _ e 11 1).ctx, Dev.ctx_setCtx_ne _ _ hf, h1.ctx]

theorem Dev.advance_hq (d : Dev) (e : Eng) (n c q : Nat) : (d.advance e n).hq c q = d.hq c q := by
  unfold Dev.advance
  rw [(Dev.engCount_side _ e 11 1).hq, Dev.hq_setCtx, (d.takeSlots_side e n).hq]

/-- A command that completes in its issue cycle takes its slots with it. -/
theorem Dev.instant_index (d : Dev) (e : Eng) (c : Cmd) (n : Nat) (h : Handle) : ((d.instant e c n h).ctx e).index = (d.ctx e).index + n := by
  unfold Dev.instant
  have h1 : (((d.endHead e c n stOK false h).engCount e 11 1).ctx e).index = (d.ctx e).index + n := by
    rw [(Dev.engCount_side _ e 11 1).ctx, Dev.endHead_index]
  dsimp only
  split
  · exact h1
  · rw [(Dev.engCount_side _ e 10 1).ctx, Dev.ctx_setCtx_self]
    exact h1

theorem Dev.relay_index (d : Dev) (e : Eng) (c : Cmd) : ((d.relay e c).ctx e).index = (d.ctx e).index + 1 := d.instant_index _ _ _ _

end Sys2Proof.Machine
end

