-- ==== Sys2Proof/Laws/Exec.lean ====
section
/-! SUPPORT. What the common forms of the meanings do, and that no meaning touches the queue. -/
namespace Sys2Proof.Machine

/-! ## The forms -/

theorem onState_next {ok : Bool} {f : State → State} {s : State} (h : ok = true) (hs : s.stopped = false) :
    onState ok f s = .next (f s) := by simp [onState, h, hs]

theorem onState_held {ok : Bool} {f : State → State} {s : State} (h : ok = true) (hs : s.stopped = true) :
    onState ok f s = .next s := by simp [onState, h, hs]

theorem onState_fault {ok : Bool} (f : State → State) (s : State) (h : ok = false) : onState ok f s = .fault .noSuchUnit := by
  simp [onState, h]

theorem onUnit_next {ok : Bool} {f : Dev → Dev} {s : State} (h : ok = true) (hs : s.stopped = false) :
    onUnit ok f s = .next (s.setDev (f s.dev)) := onState_next h hs

theorem onUnit_held {ok : Bool} {f : Dev → Dev} {s : State} (h : ok = true) (hs : s.stopped = true) :
    onUnit ok f s = .next s := onState_held h hs

theorem onUnit_fault {ok : Bool} (f : Dev → Dev) (s : State) (h : ok = false) : onUnit ok f s = .fault .noSuchUnit :=
  onState_fault _ s h

theorem onDev_next {f : Dev → Dev} {s : State} (hs : s.stopped = false) : onDev f s = .next (s.setDev (f s.dev)) :=
  onUnit_next rfl hs

/-- Everything that a meaning on the whole state can answer. -/
theorem onState_cases {ok : Bool} {f : State → State} {s : State} {o : Out} (h : onState ok f s = o) :
    (ok = false ∧ o = .fault .noSuchUnit) ∨ (ok = true ∧ s.stopped = true ∧ o = .next s) ∨
    (ok = true ∧ s.stopped = false ∧ o = .next (f s)) := by
  subst h
  unfold onState
  cases ok <;> cases hs : s.stopped <;> simp

/-- A meaning on the device keeps the queue and the part of boot and security. -/
theorem onUnit_keeps {ok : Bool} {f : Dev → Dev} {s t : State} (h : onUnit ok f s = .next t) :
    t.pending = s.pending ∧ t.sec = s.sec := by
  rcases onState_cases h with ⟨-, h⟩ | ⟨-, -, h⟩ | ⟨-, -, h⟩
  · cases h
  · cases h; exact ⟨rfl, rfl⟩
  · cases h; exact ⟨rfl, rfl⟩

theorem onDev_keeps {f : Dev → Dev} {s t : State} (h : onDev f s = .next t) : t.pending = s.pending ∧ t.sec = s.sec := onUnit_keeps h

/-- A meaning that exists answers, with the queue as it was wherever its effect leaves the queue. -/
theorem onState_answers {ok : Bool} {f : State → State} {s : State} (h : ok = true) (hf : (f s).pending = s.pending) :
    ∃ t, onState ok f s = .next t ∧ t.pending = s.pending := by
  cases hs : s.stopped
  · exact ⟨_, onState_next h hs, hf⟩
  · exact ⟨_, onState_held h hs, rfl⟩

theorem onUnit_answers {ok : Bool} {f : Dev → Dev} {s : State} (h : ok = true) :
    ∃ t, onUnit ok f s = .next t ∧ t.pending = s.pending := onState_answers h rfl

theorem onDev_answers {f : Dev → Dev} {s : State} : ∃ t, onDev f s = .next t ∧ t.pending = s.pending := onUnit_answers rfl

/-! ## The queue: operations on the whole state -/

variable (s : State)

theorem State.reply_pending (h : Hdr) (m : Option Msg) (r : Resp) : (s.reply h m r).pending = s.pending := by
  simp only [State.reply]
  split <;> rfl

theorem State.readReq_pending (n : Nat) (q : Req) (b : Bool) : (s.readReq n q b).2.pending = s.pending := by
  unfold State.readReq
  dsimp only
  generalize s.dev.find n q.index q.sub false = x
  cases x with
  | error e => rfl
  | ok t =>
    dsimp only
    generalize t.row.type.bytes = w
    cases w with
    | none => rfl
    | some w =>
      dsimp only
      split
      · rfl
      · split <;> rfl

theorem State.flashOp_pending (v : Nat) : (s.flashOp v).pending = s.pending := rfl
theorem State.dbgRequestW_pending (v : Nat) : (s.dbgRequestW v).pending = s.pending := by unfold State.dbgRequestW; split <;> rfl
theorem State.dbgResponseW_pending (v : Nat) : (s.dbgResponseW v).pending = s.pending := by
  simp only [State.dbgResponseW]
  split
  · rfl
  · split <;> rfl
theorem State.sanitiseW_pending : s.sanitiseW.pending = s.pending := rfl

theorem State.liveWrite_pending (n : Nat) (r : Row) (ix sub v : Nat) : (s.liveWrite n r ix sub v).2.pending = s.pending := by
  unfold State.liveWrite
  split
  · exact s.dbgRequestW_pending v
  · exact s.dbgResponseW_pending v
  · rfl
  · rfl
  · rfl

theorem State.writeReq_pending (n : Nat) (q : Req) : (s.writeReq n q).2.pending = s.pending := by
  unfold State.writeReq
  split
  · rfl
  · dsimp only
    split
    · rfl
    · split
      · rfl
      · split
        · rfl
        · exact s.liveWrite_pending _ _ _ _ _

theorem State.segReadReq_pending (n : Nat) (q : Req) : (s.segReadReq n q).2.pending = s.pending := by
  unfold State.segReadReq
  split
  · rfl
  · split <;> rfl

theorem State.segWriteReq_pending (n : Nat) (q : Req) : (s.segWriteReq n q).2.pending = s.pending := by
  unfold State.segWriteReq
  split
  · rfl
  · dsimp only
    split
    · rfl
    · split <;> rfl

theorem State.segCloseReq_pending (n : Nat) (q : Req) : (s.segCloseReq n q).2.pending = s.pending := by
  unfold State.segCloseReq
  split
  · rfl
  · dsimp only
    split
    · rfl
    · split
      · rfl
      · split <;> rfl

theorem State.negotiateReq_pending (n : Nat) (q : Req) : (s.negotiateReq n q).2.pending = s.pending := by
  simp only [State.negotiateReq]
  split
  · rfl
  · split
    · rfl
    · split <;> rfl

/-- A request leaves the queue. -/
theorem State.perform_pending (n op : Nat) (q : Req) : (s.perform n op q).2.pending = s.pending := by
  unfold State.perform
  split
  · exact s.negotiateReq_pending n q
  split
  · rfl
  split
  · exact s.readReq_pending n q _
  split
  · exact s.readReq_pending n q _
  split
  · exact s.writeReq_pending n q
  split
  · exact s.segReadReq_pending n q
  split
  · exact s.segCloseReq_pending n q
  · exact s.segWriteReq_pending n q

theorem State.conclude_pending (op : Nat) (q : Req) (n : Nat) (m : Option Msg) (a : Reply) :
    (s.conclude op q n m a).pending = s.pending := by
  unfold State.conclude
  rw [State.reply_pending]
  rfl

theorem State.serveOne_pending (op : Nat) (q : Req) : (s.serveOne op q).pending = s.pending := by
  unfold State.serveOne
  split
  · rfl
  · dsimp only
    split
    · rw [State.reply_pending]; rfl
    · split
      · rw [State.reply_pending]; rfl
      · rw [State.conclude_pending, State.perform_pending]; rfl

theorem State.serveAll_pending (l : List (Nat × Req)) :
    (l.foldl (fun (s : State) r => s.serveOne r.1 r.2) s).pending = s.pending := by
  induction l generalizing s with
  | nil => rfl
  | cons r l ih => rw [List.foldl_cons, ih, State.serveOne_pending]

/-- The server leaves the queue. -/
theorem State.serve_pending (op : Nat) (q : Req) : (s.serve op q).pending = s.pending := by
  unfold State.serve
  split
  · rfl
  · rw [State.serveOne_pending, State.serveAll_pending]

theorem State.serveWrite_pending (h : Hdr) (ix sub w v : Nat) : (s.serveWrite h ix sub w v).pending = s.pending := s.serve_pending _ _

theorem State.bootOn_pending (e : BootEnv) (fac : List Nat) (es : List CfgEntry) (lost : Bool) :
    (s.bootOn e fac es lost).pending = s.pending := rfl

theorem State.recover_pending (kind step v : Nat) : (s.recover kind step v).pending = s.pending := rfl

theorem State.bootSteps_pending (cause : Nat) (count : Bool) (e : BootEnv) : (s.bootSteps cause count e).pending = s.pending := by
  unfold State.bootSteps
  dsimp only
  split
  · rfl
  split
  · rfl
  split
  · rfl
  split
  · rfl
  split <;> rfl

theorem State.hold_pending (x : Sec) : (s.hold x).pending = s.pending := by unfold State.hold; split <;> rfl

theorem State.powerOnReset_pending (b : Bool) (e : BootEnv) : (s.powerOnReset b e).pending = s.pending := by
  unfold State.powerOnReset
  dsimp only
  split
  · rfl
  · split
    · rfl
    · rw [State.bootSteps_pending]

theorem State.resetNAssert_pending : s.resetNAssert.pending = s.pending := by
  unfold State.resetNAssert; split
  · rfl
  · exact s.hold_pending _

theorem State.resetNRelease_pending (e : BootEnv) : (s.resetNRelease e).pending = s.pending := by
  unfold State.resetNRelease
  split
  · rfl
  · dsimp only
    split
    · rfl
    · rw [State.bootSteps_pending]

theorem State.wakeN_pending (e : BootEnv) : (s.wakeN e).pending = s.pending := by
  unfold State.wakeN
  split
  · rfl
  · rw [State.bootSteps_pending]

theorem State.coreRelease_pending : s.coreRelease.pending = s.pending := by unfold State.coreRelease; split <;> rfl

theorem State.flashOpDone_pending (ok : Bool) : (s.flashOpDone ok).pending = s.pending := by
  unfold State.flashOpDone
  split
  · rfl
  · dsimp only
    split
    · rfl
    · split <;> rfl

theorem State.recoveryFlashWrite_pending (l : Nat) : (s.recoveryFlashWrite l).pending = s.pending := by
  unfold State.recoveryFlashWrite
  split
  · rfl
  · split
    · rfl
    · dsimp only; split <;> rfl

theorem State.recoveryFlashRead_pending (l : Nat) : (s.recoveryFlashRead l).pending = s.pending := by
  unfold State.recoveryFlashRead
  split
  · rfl
  · split
    · rfl
    · dsimp only
      split
      · rfl
      · split <;> rfl

theorem State.recoveryVerify_pending (l : Nat) (e : BootEnv) : (s.recoveryVerify l e).pending = s.pending := by
  unfold State.recoveryVerify
  split
  · rfl
  · split
    · rfl
    · split
      · rfl
      · split
        · rfl
        · rw [State.bootSteps_pending]

theorem State.debugFullEnter_pending : s.debugFullEnter.pending = s.pending := by unfold State.debugFullEnter; split <;> rfl
theorem State.sanitiseComplete_pending : s.sanitiseComplete.pending = s.pending := by unfold State.sanitiseComplete; split <;> rfl
theorem State.entdaa_pending (a : Nat) : (s.entdaa a).pending = s.pending := by unfold State.entdaa; split <;> rfl

theorem State.mctpControl_pending (r : List Nat) : (s.mctpControl r).pending = s.pending := by
  unfold State.mctpControl
  split
  · rfl
  · dsimp only; split <;> rfl

theorem State.spdmAt_pending (v stage : Nat) (f : State → State) (hf : (f s).pending = s.pending) :
    (s.spdmAt v stage f).pending = s.pending := by
  unfold State.spdmAt
  split
  · rfl
  split
  · rfl
  split
  · rfl
  · exact hf

theorem State.getVersion_pending (v : Nat) : (s.getVersion v).pending = s.pending := by
  unfold State.getVersion
  split
  · rfl
  split <;> rfl

theorem State.getCapabilities_pending (v : Nat) : (s.getCapabilities v).pending = s.pending := s.spdmAt_pending _ _ _ rfl
theorem State.negotiateAlgorithms_pending (v a b m : Nat) : (s.negotiateAlgorithms v a b m).pending = s.pending := by
  refine s.spdmAt_pending _ _ _ ?_
  dsimp only; split <;> rfl
theorem State.getDigests_pending (v : Nat) : (s.getDigests v).pending = s.pending := s.spdmAt_pending _ _ _ rfl
theorem State.getCertificate_pending (v sl o l : Nat) : (s.getCertificate v sl o l).pending = s.pending := by
  refine s.spdmAt_pending _ _ _ ?_
  dsimp only; split <;> rfl
theorem State.challenge_pending (v sl n : Nat) : (s.challenge v sl n).pending = s.pending := by
  refine s.spdmAt_pending _ _ _ ?_
  dsimp only; split <;> rfl
theorem State.getMeasurements_pending (v n b : Nat) : (s.getMeasurements v n b).pending = s.pending := by
  refine s.spdmAt_pending _ _ _ ?_
  extract_lets all is
  split <;> rfl

end Sys2Proof.Machine
end

