-- ==== Sys2Proof/Laws/Memory.lean ====
section
/-! SUPPORT. Every operation on a memory keeps its canonical form; the memory after reset has it. -/

namespace Sys2Proof.Machine

/-- A fold keeps what each of its steps keeps. -/
theorem foldl_keeps {α β : Type} (P : α → Prop) (f : α → β → α) (l : List β) (h : ∀ a b, P a → P (f a b)) (a : α) (ha : P a) :
    P (l.foldl f a) := List.foldlRecOn l f ha (fun x hx y _ => h x y hx)

/-! ## The flash -/

theorem Sec.erase_wf (x : Sec) (a b : Nat) (h : Map.wf 0xFF x.flash = true) : Map.wf 0xFF (x.erase a b).flash = true :=
  Map.wf_delRange a b h

theorem Sec.program_wf (x : Sec) (a : Nat) (bs : List Nat) (h : Map.wf 0xFF x.flash = true) :
    Map.wf 0xFF (x.program a bs).flash = true := by
  refine foldl_keeps (fun m => Map.wf 0xFF m = true) _ _ (fun m b hm => ?_) _ h
  split
  · exact Map.wf_set _ _ hm
  · exact hm

/-! ## Scratchpads -/

@[simp] theorem Core.touch_sp (k : Core) (mem off : Nat) : (k.touch mem off).sp = k.sp := rfl

theorem Core.poke_wf (k : Core) (mem off : Nat) (b : Byte) (h : Map.wf 0 k.sp = true) : Map.wf 0 (k.poke mem off b).sp = true :=
  Map.wf_set _ _ h

theorem Core.writeWord_wf (k : Core) (mem w : Nat) (bs : List (Nat × Byte)) (h : Map.wf 0 k.sp = true) :
    Map.wf 0 (k.writeWord mem w bs).1.sp = true := by
  unfold Core.writeWord
  extract_lets bad whole k1 k2 k3
  have h1 : Map.wf 0 k1.sp = true := foldl_keeps (fun k : Core => Map.wf 0 k.sp = true) (fun k (e : Nat × Byte) => k.touch mem e.1) bs (fun _ _ hk => hk) k h
  have h3 : Map.wf 0 k3.sp = true := by
    show Map.wf 0 (if bad && !whole then _ else k2 : Core).sp = true
    split
    · exact foldl_keeps (fun k : Core => Map.wf 0 k.sp = true) _ _ (fun k i hk => Core.poke_wf _ _ _ _ hk) k2 h1
    · exact h1
  exact foldl_keeps (fun k : Core => Map.wf 0 k.sp = true) _ _ (fun k i hk => Core.poke_wf _ _ _ _ hk) _ h3

theorem Core.write_wf (k : Core) (mem : Nat) (bs : List (Nat × Byte)) (h : Map.wf 0 k.sp = true) :
    Map.wf 0 (k.write mem bs).1.sp = true :=
  foldl_keeps (fun a : Core × List Nat => Map.wf 0 a.1.sp = true) _ _ (fun a g ha => Core.writeWord_wf a.1 mem g.1 g.2 ha) _ h

/-! ## HBM and the accumulation areas -/

/-- A byte of an owned channel is listed as its owner wrote it; one of a free channel goes to the stack's contents. -/
theorem Dev.setHbmByte_mem (d : Dev) (x : Nat) (b : Byte) : (d.setHbmByte x b).mem =
    (if d.owner (x / chBytes) < 16 then { d.mem with cells := Map.ins d.mem.cells x b }
     else { d.mem with raw := Map.set d.mem.raw 0 x b }) := by
  unfold Dev.setHbmByte
  split <;> rfl

theorem Dev.setHbmByte_rising (d : Dev) (x : Nat) (b : Byte) (h : Map.rising 0 d.mem.cells = true) :
    Map.rising 0 (d.setHbmByte x b).mem.cells = true := by
  rw [Dev.setHbmByte_mem]
  split
  · exact Map.rising_ins b h (Nat.zero_le x)
  · exact h

theorem Dev.setHbmByte_raw (d : Dev) (x : Nat) (b : Byte) (h : Map.wf 0 d.mem.raw = true) :
    Map.wf 0 (d.setHbmByte x b).mem.raw = true := by
  rw [Dev.setHbmByte_mem]
  split
  · exact h
  · exact Map.wf_set x b h

theorem Dev.setHbmByte_acc (d : Dev) (x : Nat) (b : Byte) : (d.setHbmByte x b).mem.acc = d.mem.acc := by
  rw [Dev.setHbmByte_mem]
  split <;> rfl

theorem Dev.writeAcc_wf (d : Dev) (add : Bool) (bs : List (Nat × Byte)) (h : Map.wf 0 d.mem.acc = true) :
    Map.wf 0 (d.writeAcc add bs).mem.acc = true := by
  unfold Dev.writeAcc
  extract_lets hit clear d' st rd acc
  have h' : Map.wf 0 d'.mem.acc = true :=
    foldl_keeps (fun m : Mem => Map.wf 0 m.acc = true) clear hit (fun m n hm => Map.wf_delRange _ _ hm) d.mem h
  have hst : ∀ m o v, Map.wf 0 m = true → Map.wf 0 (st m o v) = true := fun m o v hm =>
    foldl_keeps (fun m : Map Byte => Map.wf 0 m = true) _ _ (fun m i hm => Map.wf_set _ _ hm) _ hm
  show Map.wf 0 (if add then _ else _) = true
  split
  · exact foldl_keeps (fun m : Map Byte => Map.wf 0 m = true) _ _ (fun m g hm => hst _ _ _ hm) _ h'
  · exact foldl_keeps (fun m : Map Byte => Map.wf 0 m = true) _ _ (fun m g hm => Map.wf_set _ _ hm) _ h'

/-- Writing an accumulation area leaves the bytes of the channels. -/
theorem Dev.writeAcc_cells (d : Dev) (add : Bool) (bs : List (Nat × Byte)) :
    (d.writeAcc add bs).mem.cells = d.mem.cells ∧ (d.writeAcc add bs).mem.raw = d.mem.raw := by
  unfold Dev.writeAcc
  extract_lets hit clear d' st rd acc
  exact foldl_keeps (fun m : Mem => m.cells = d.mem.cells ∧ m.raw = d.mem.raw) clear hit (fun m n hm => hm) d.mem ⟨rfl, rfl⟩

/-! ## Reset -/

/-- The memory after reset has the form. -/
theorem reset_memory_wf : Memory.wf State.reset = true := by decide +kernel

end Sys2Proof.Machine
end

