-- ==== Sys2Proof/Laws/PerInstr.lean ====
section
/-! SUPPORT. What every command's syntax says of the core that it names: one lemma for each constructor. -/
namespace Sys2Proof.Laws.Units

set_option Elab.async false

/-- The core that a command names, if it names one. -/
def coreOf (i : Instr) : Option Nat :=
  match i with
  | .mxNop c => some c
  | .mxQuiesce c => some c
  | .mxPass c => some c
  | .mxGang c => some c
  | .mxExt c => some c
  | .passComplete c => some c
  | .interlockStop c _ => some c
  | .vxNop c => some c
  | .vxSetlen c => some c
  | .vxEp c => some c
  | .vxCvt c => some c
  | .vxExt c => some c
  | .vxComplete c _ => some c
  | .mvNop c => some c
  | .mvFence c => some c
  | .mvCopy c => some c
  | .mvCopy2d c => some c
  | .mvTload c => some c
  | .mvSpload c => some c
  | .mvExt c => some c
  | .moveComplete c _ => some c
  | .runAheadRead c => some c
  | .gtNop c => some c
  | .gtRows c => some c
  | .gtExt c => some c
  | .gatherComplete c => some c
  | .zeroise _ c => some c
  | .pwrWaitSet _ c => some c
  | .pwrWaitCancel _ c => some c
  | .coreClass _ c _ => some c
  | .scanStart c => some c
  | .scanComplete c _ => some c
  | .scanAbandon c => some c
  | .blkReset _ c _ => some c
  | .switchRequest c => some c
  | .switchDone c => some c
  | .swLinkLimitExpire c => some c
  | .corePowerEntry c => some c
  | .scrubRead c _ _ _ => some c
  | _ => none

/-- A well-formed command names a core of the package. -/
def Statement (i : Instr) : Prop := i.wf = true → ∀ c, coreOf i = some c → c < 64

theorem mxNop (x0 : Nat) : Statement (.mxNop x0) := by
  intro h c hc; cases hc; simp_all [Instr.wf]
theorem mxQuiesce (x0 : Nat) : Statement (.mxQuiesce x0) := by
  intro h c hc; cases hc; simp_all [Instr.wf]
theorem mxPass (x0 : Nat) : Statement (.mxPass x0) := by
  intro h c hc; cases hc; simp_all [Instr.wf]
theorem mxGang (x0 : Nat) : Statement (.mxGang x0) := by
  intro h c hc; cases hc; simp_all [Instr.wf]
theorem mxExt (x0 : Nat) : Statement (.mxExt x0) := by
  intro h c hc; cases hc; simp_all [Instr.wf]
theorem passComplete (x0 : Nat) : Statement (.passComplete x0) := by
  intro h c hc; cases hc; simp_all [Instr.wf]
theorem interlockStop (x0 : Nat) (x1 : Nat) : Statement (.interlockStop x0 x1) := by
  intro h c hc; cases hc; simp_all [Instr.wf]
theorem vxNop (x0 : Nat) : Statement (.vxNop x0) := by
  intro h c hc; cases hc; simp_all [Instr.wf]
theorem vxSetlen (x0 : Nat) : Statement (.vxSetlen x0) := by
  intro h c hc; cases hc; simp_all [Instr.wf]
theorem vxEp (x0 : Nat) : Statement (.vxEp x0) := by
  intro h c hc; cases hc; simp_all [Instr.wf]
theorem vxCvt (x0 : Nat) : Statement (.vxCvt x0) := by
  intro h c hc; cases hc; simp_all [Instr.wf]
theorem vxExt (x0 : Nat) : Statement (.vxExt x0) := by
  intro h c hc; cases hc; simp_all [Instr.wf]
theorem vxComplete (x0 : Nat) (x1 : Nat) : Statement (.vxComplete x0 x1) := by
  intro h c hc; cases hc; simp_all [Instr.wf]
theorem mvNop (x0 : Nat) : Statement (.mvNop x0) := by
  intro h c hc; cases hc; simp_all [Instr.wf]
theorem mvFence (x0 : Nat) : Statement (.mvFence x0) := by
  intro h c hc; cases hc; simp_all [Instr.wf]
theorem mvCopy (x0 : Nat) : Statement (.mvCopy x0) := by
  intro h c hc; cases hc; simp_all [Instr.wf]
theorem mvCopy2d (x0 : Nat) : Statement (.mvCopy2d x0) := by
  intro h c hc; cases hc; simp_all [Instr.wf]
theorem mvTload (x0 : Nat) : Statement (.mvTload x0) := by
  intro h c hc; cases hc; simp_all [Instr.wf]
theorem mvSpload (x0 : Nat) : Statement (.mvSpload x0) := by
  intro h c hc; cases hc; simp_all [Instr.wf]
theorem mvExt (x0 : Nat) : Statement (.mvExt x0) := by
  intro h c hc; cases hc; simp_all [Instr.wf]
theorem moveComplete (x0 : Nat) (x1 : List Nat) : Statement (.moveComplete x0 x1) := by
  intro h c hc; cases hc; simp_all [Instr.wf]
theorem runAheadRead (x0 : Nat) : Statement (.runAheadRead x0) := by
  intro h c hc; cases hc; simp_all [Instr.wf]
theorem gtNop (x0 : Nat) : Statement (.gtNop x0) := by
  intro h c hc; cases hc; simp_all [Instr.wf]
theorem gtRows (x0 : Nat) : Statement (.gtRows x0) := by
  intro h c hc; cases hc; simp_all [Instr.wf]
theorem gtExt (x0 : Nat) : Statement (.gtExt x0) := by
  intro h c hc; cases hc; simp_all [Instr.wf]
theorem gatherComplete (x0 : Nat) : Statement (.gatherComplete x0) := by
  intro h c hc; cases hc; simp_all [Instr.wf]
theorem upNop (x0 : Nat) (x1 : Nat) : Statement (.upNop x0 x1) := fun _ _ hc => nomatch hc
theorem upApply (x0 : Nat) (x1 : Nat) : Statement (.upApply x0 x1) := fun _ _ hc => nomatch hc
theorem upDerive (x0 : Nat) (x1 : Nat) : Statement (.upDerive x0 x1) := fun _ _ hc => nomatch hc
theorem upExt (x0 : Nat) (x1 : Nat) : Statement (.upExt x0 x1) := fun _ _ hc => nomatch hc
theorem updateComplete (x0 : Nat) (x1 : Nat) : Statement (.updateComplete x0 x1) := fun _ _ hc => nomatch hc
theorem rdNop (x0 : Nat) (x1 : Nat) : Statement (.rdNop x0 x1) := fun _ _ hc => nomatch hc
theorem rdBucket (x0 : Nat) (x1 : Nat) : Statement (.rdBucket x0 x1) := fun _ _ hc => nomatch hc
theorem rdRepass (x0 : Nat) (x1 : Nat) : Statement (.rdRepass x0 x1) := fun _ _ hc => nomatch hc
theorem rdExt (x0 : Nat) (x1 : Nat) : Statement (.rdExt x0 x1) := fun _ _ hc => nomatch hc
theorem contributionReady (x0 : Nat) : Statement (.contributionReady x0) := fun _ _ hc => nomatch hc
theorem contribDeadline (x0 : Nat) : Statement (.contribDeadline x0) := fun _ _ hc => nomatch hc
theorem holdLimitExpire (x0 : Nat) : Statement (.holdLimitExpire x0) := fun _ _ hc => nomatch hc
theorem lateContribution (x0 : Nat) : Statement (.lateContribution x0) := fun _ _ hc => nomatch hc
theorem scale (x0 : Nat) : Statement (.scale x0) := fun _ _ hc => nomatch hc
theorem rs (x0 : Nat) : Statement (.rs x0) := fun _ _ hc => nomatch hc
theorem ag (x0 : Nat) : Statement (.ag x0) := fun _ _ hc => nomatch hc
theorem list (x0 : Nat) : Statement (.list x0) := fun _ _ hc => nomatch hc
theorem repassRs (x0 : Nat) : Statement (.repassRs x0) := fun _ _ hc => nomatch hc
theorem repassAg (x0 : Nat) : Statement (.repassAg x0) := fun _ _ hc => nomatch hc
theorem abort (x0 : Nat) : Statement (.abort x0) := fun _ _ hc => nomatch hc
theorem bucketComplete (x0 : Nat) : Statement (.bucketComplete x0) := fun _ _ hc => nomatch hc
theorem vote (x0 : Nat) : Statement (.vote x0) := fun _ _ hc => nomatch hc
theorem voteClose (x0 : Nat) : Statement (.voteClose x0) := fun _ _ hc => nomatch hc
theorem decisionInDoubt (x0 : Nat) : Statement (.decisionInDoubt x0) := fun _ _ hc => nomatch hc
theorem swatch (x0 : Nat) : Statement (.swatch x0) := fun _ _ hc => nomatch hc
theorem swatchExchange (x0 : Nat) : Statement (.swatchExchange x0) := fun _ _ hc => nomatch hc
theorem listFetch (x0 : Nat) (x1 : Nat) (x2 : Nat) : Statement (.listFetch x0 x1 x2) := fun _ _ hc => nomatch hc
theorem commandSlotUnreadable (x0 : Nat) (x1 : Nat) (x2 : Nat) : Statement (.commandSlotUnreadable x0 x1 x2) := fun _ _ hc => nomatch hc
theorem commandLate (x0 : Nat) (x1 : Nat) (x2 : Nat) : Statement (.commandLate x0 x1 x2) := fun _ _ hc => nomatch hc
theorem scheduleStart (x0 : Nat) : Statement (.scheduleStart x0) := fun _ _ hc => nomatch hc
theorem attemptEnd (x0 : Nat) : Statement (.attemptEnd x0) := fun _ _ hc => nomatch hc
theorem segmentEnd (x0 : Nat) : Statement (.segmentEnd x0) := fun _ _ hc => nomatch hc
theorem scheduleResume (x0 : Nat) : Statement (.scheduleResume x0) := fun _ _ hc => nomatch hc
theorem dictRead (x0 : Req) : Statement (.dictRead x0) := fun _ _ hc => nomatch hc
theorem dictWrite (x0 : Req) : Statement (.dictWrite x0) := fun _ _ hc => nomatch hc
theorem readStaged (x0 : Req) : Statement (.readStaged x0) := fun _ _ hc => nomatch hc
theorem segmentRead (x0 : Req) : Statement (.segmentRead x0) := fun _ _ hc => nomatch hc
theorem segmentWrite (x0 : Req) : Statement (.segmentWrite x0) := fun _ _ hc => nomatch hc
theorem segmentClose (x0 : Req) : Statement (.segmentClose x0) := fun _ _ hc => nomatch hc
theorem negotiate (x0 : Hdr) (x1 : Nat) (x2 : Nat) : Statement (.negotiate x0 x1 x2) := fun _ _ hc => nomatch hc
theorem commitAsap (x0 : Hdr) : Statement (.commitAsap x0) := fun _ _ hc => nomatch hc
theorem commitAtTick (x0 : Hdr) : Statement (.commitAtTick x0) := fun _ _ hc => nomatch hc
theorem commitDiscard (x0 : Hdr) : Statement (.commitDiscard x0) := fun _ _ hc => nomatch hc
theorem commitApply (x0 : Nat) : Statement (.commitApply x0) := fun _ _ hc => nomatch hc
theorem partitionReleased (x0 : Nat) : Statement (.partitionReleased x0) := fun _ _ hc => nomatch hc
theorem channelZeroised (x0 : Nat) : Statement (.channelZeroised x0) := fun _ _ hc => nomatch hc
theorem wayDrained (x0 : Nat) (x1 : Nat) : Statement (.wayDrained x0 x1) := fun _ _ hc => nomatch hc
theorem accAreaLocked (x0 : Nat) : Statement (.accAreaLocked x0) := fun _ _ hc => nomatch hc
theorem forceDiscard (x0 : Hdr) (x1 : Nat) : Statement (.forceDiscard x0 x1) := fun _ _ hc => nomatch hc
theorem sessionOpen (x0 : Hdr) (x1 : Nat) : Statement (.sessionOpen x0 x1) := fun _ _ hc => nomatch hc
theorem sessionClose (x0 : Hdr) (x1 : Nat) : Statement (.sessionClose x0 x1) := fun _ _ hc => nomatch hc
theorem snapshotAsap (x0 : Hdr) : Statement (.snapshotAsap x0) := fun _ _ hc => nomatch hc
theorem snapshotAtTick (x0 : Hdr) : Statement (.snapshotAtTick x0) := fun _ _ hc => nomatch hc
theorem snapshotTake : Statement .snapshotTake := fun _ _ hc => nomatch hc
theorem clear (x0 : Hdr) : Statement (.clear x0) := fun _ _ hc => nomatch hc
theorem clearApply : Statement .clearApply := fun _ _ hc => nomatch hc
theorem zeroise (x0 : Hdr) (x1 : Nat) : Statement (.zeroise x0 x1) := by
  intro h c hc; cases hc; simp_all [Instr.wf]
theorem resolveCommit (x0 : Hdr) (x1 : Nat) : Statement (.resolveCommit x0 x1) := fun _ _ hc => nomatch hc
theorem resolveAbandon (x0 : Hdr) (x1 : Nat) (x2 : Nat) : Statement (.resolveAbandon x0 x1 x2) := fun _ _ hc => nomatch hc
theorem jobDamaged (x0 : Hdr) (x1 : Nat) : Statement (.jobDamaged x0 x1) := fun _ _ hc => nomatch hc
theorem ftSet (x0 : Hdr) (x1 : Nat) : Statement (.ftSet x0 x1) := fun _ _ hc => nomatch hc
theorem pwrWaitSet (x0 : Hdr) (x1 : Nat) : Statement (.pwrWaitSet x0 x1) := by
  intro h c hc; cases hc; simp_all [Instr.wf]
theorem pwrWaitCancel (x0 : Hdr) (x1 : Nat) : Statement (.pwrWaitCancel x0 x1) := by
  intro h c hc; cases hc; simp_all [Instr.wf]
theorem coreClass (x0 : Hdr) (x1 : Nat) (x2 : Nat) : Statement (.coreClass x0 x1 x2) := by
  intro h c hc; cases hc; simp_all [Instr.wf]
theorem fenceReq (x0 : Hdr) (x1 : Nat) : Statement (.fenceReq x0 x1) := fun _ _ hc => nomatch hc
theorem scanReq (x0 : Hdr) (x1 : Nat) : Statement (.scanReq x0 x1) := fun _ _ hc => nomatch hc
theorem scanStart (x0 : Nat) : Statement (.scanStart x0) := by
  intro h c hc; cases hc; simp_all [Instr.wf]
theorem scanComplete (x0 : Nat) (x1 : Bool) : Statement (.scanComplete x0 x1) := by
  intro h c hc; cases hc; simp_all [Instr.wf]
theorem scanAbandon (x0 : Nat) : Statement (.scanAbandon x0) := by
  intro h c hc; cases hc; simp_all [Instr.wf]
theorem scanPeriodExpire : Statement .scanPeriodExpire := fun _ _ hc => nomatch hc
theorem unitFault (x0 : Hdr) (x1 : Nat) : Statement (.unitFault x0 x1) := fun _ _ hc => nomatch hc
theorem svnCommit (x0 : Hdr) : Statement (.svnCommit x0) := fun _ _ hc => nomatch hc
theorem dbgChallenge (x0 : Hdr) : Statement (.dbgChallenge x0) := fun _ _ hc => nomatch hc
theorem dbgRequest (x0 : Hdr) (x1 : Nat) : Statement (.dbgRequest x0 x1) := fun _ _ hc => nomatch hc
theorem dbgLock (x0 : Hdr) : Statement (.dbgLock x0) := fun _ _ hc => nomatch hc
theorem dbgResponse (x0 : Hdr) (x1 : Nat) : Statement (.dbgResponse x0 x1) := fun _ _ hc => nomatch hc
theorem debugFullEnter : Statement .debugFullEnter := fun _ _ hc => nomatch hc
theorem sanitise (x0 : Hdr) (x1 : Nat) : Statement (.sanitise x0 x1) := fun _ _ hc => nomatch hc
theorem flashErase (x0 : Hdr) : Statement (.flashErase x0) := fun _ _ hc => nomatch hc
theorem flashProgram (x0 : Hdr) : Statement (.flashProgram x0) := fun _ _ hc => nomatch hc
theorem flashRead (x0 : Hdr) : Statement (.flashRead x0) := fun _ _ hc => nomatch hc
theorem flashOpDone (x0 : Bool) : Statement (.flashOpDone x0) := fun _ _ hc => nomatch hc
theorem blkReset (x0 : Hdr) (x1 : Nat) (x2 : Nat) : Statement (.blkReset x0 x1 x2) := by
  intro h c hc; cases hc; simp_all [Instr.wf]
theorem portReset (x0 : Hdr) (x1 : Nat) : Statement (.portReset x0 x1) := fun _ _ hc => nomatch hc
theorem lnkEnable (x0 : Hdr) (x1 : Nat) (x2 : Bool) : Statement (.lnkEnable x0 x1 x2) := fun _ _ hc => nomatch hc
theorem capW (x0 : Hdr) (x1 : Nat) : Statement (.capW x0 x1) := fun _ _ hc => nomatch hc
theorem ctrlMode (x0 : Hdr) : Statement (.ctrlMode x0) := fun _ _ hc => nomatch hc
theorem entdaa (x0 : Nat) : Statement (.entdaa x0) := fun _ _ hc => nomatch hc
theorem mctpControl (x0 : List Nat) : Statement (.mctpControl x0) := fun _ _ hc => nomatch hc
theorem getVersion (x0 : Nat) : Statement (.getVersion x0) := fun _ _ hc => nomatch hc
theorem getCapabilities (x0 : Nat) : Statement (.getCapabilities x0) := fun _ _ hc => nomatch hc
theorem negotiateAlgorithms (x0 : Nat) (x1 : Nat) (x2 : Nat) (x3 : Nat) : Statement (.negotiateAlgorithms x0 x1 x2 x3) := fun _ _ hc => nomatch hc
theorem getDigests (x0 : Nat) : Statement (.getDigests x0) := fun _ _ hc => nomatch hc
theorem getCertificate (x0 : Nat) (x1 : Nat) (x2 : Nat) (x3 : Nat) : Statement (.getCertificate x0 x1 x2 x3) := fun _ _ hc => nomatch hc
theorem challenge (x0 : Nat) (x1 : Nat) (x2 : Nat) : Statement (.challenge x0 x1 x2) := fun _ _ hc => nomatch hc
theorem getMeasurements (x0 : Nat) (x1 : Nat) (x2 : Nat) : Statement (.getMeasurements x0 x1 x2) := fun _ _ hc => nomatch hc
theorem flitSlot (x0 : Nat) : Statement (.flitSlot x0) := fun _ _ hc => nomatch hc
theorem null (x0 : Nat) (x1 : Flit) : Statement (.null x0 x1) := fun _ _ hc => nomatch hc
theorem flitDataReceive (x0 : Nat) (x1 : Flit) (x2 : Fec) : Statement (.flitDataReceive x0 x1 x2) := fun _ _ hc => nomatch hc
theorem framingRetrain (x0 : Nat) : Statement (.framingRetrain x0) := fun _ _ hc => nomatch hc
theorem ackDeadlineExpire (x0 : Nat) : Statement (.ackDeadlineExpire x0) := fun _ _ hc => nomatch hc
theorem linkFail (x0 : Nat) (x1 : Nat) : Statement (.linkFail x0 x1) := fun _ _ hc => nomatch hc
theorem messageReassemblyTimeout (x0 : Nat) (x1 : Nat) : Statement (.messageReassemblyTimeout x0 x1) := fun _ _ hc => nomatch hc
theorem readReq (x0 : Nat) : Statement (.readReq x0) := fun _ _ hc => nomatch hc
theorem readData (x0 : Nat) : Statement (.readData x0) := fun _ _ hc => nomatch hc
theorem write (x0 : Nat) : Statement (.write x0) := fun _ _ hc => nomatch hc
theorem writeAck (x0 : Nat) : Statement (.writeAck x0) := fun _ _ hc => nomatch hc
theorem error (x0 : Nat) : Statement (.error x0) := fun _ _ hc => nomatch hc
theorem remoteTimeout (x0 : Nat) : Statement (.remoteTimeout x0) := fun _ _ hc => nomatch hc
theorem linkTrain (x0 : Nat) : Statement (.linkTrain x0) := fun _ _ hc => nomatch hc
theorem trainingTimeout (x0 : Nat) : Statement (.trainingTimeout x0) := fun _ _ hc => nomatch hc
theorem failedRetry (x0 : Nat) : Statement (.failedRetry x0) := fun _ _ hc => nomatch hc
theorem offer (x0 : Nat) (x1 : Nego) : Statement (.offer x0 x1) := fun _ _ hc => nomatch hc
theorem accept (x0 : Nat) (x1 : Nego) : Statement (.accept x0 x1) := fun _ _ hc => nomatch hc
theorem refuse (x0 : Nat) (x1 : Nego) : Statement (.refuse x0 x1) := fun _ _ hc => nomatch hc
theorem offerSend (x0 : Nat) : Statement (.offerSend x0) := fun _ _ hc => nomatch hc
theorem routeReturn (x0 : Nat) : Statement (.routeReturn x0) := fun _ _ hc => nomatch hc
theorem standbyReq (x0 : OnLink) : Statement (.standbyReq x0) := fun _ _ hc => nomatch hc
theorem standbyAck (x0 : OnLink) : Statement (.standbyAck x0) := fun _ _ hc => nomatch hc
theorem standbyNak (x0 : OnLink) : Statement (.standbyNak x0) := fun _ _ hc => nomatch hc
theorem standbyStart (x0 : Nat) : Statement (.standbyStart x0) := fun _ _ hc => nomatch hc
theorem laneWake (x0 : Nat) : Statement (.laneWake x0) := fun _ _ hc => nomatch hc
theorem timemark (x0 : Nat) (x1 : MarkFlit) : Statement (.timemark x0 x1) := fun _ _ hc => nomatch hc
theorem timemarkSend (x0 : Nat) : Statement (.timemarkSend x0) := fun _ _ hc => nomatch hc
theorem markTimeout : Statement .markTimeout := fun _ _ hc => nomatch hc
theorem ftrefLoss : Statement .ftrefLoss := fun _ _ hc => nomatch hc
theorem referenceLock : Statement .referenceLock := fun _ _ hc => nomatch hc
theorem holdoverExpire : Statement .holdoverExpire := fun _ _ hc => nomatch hc
theorem ftppsEdge (x0 : Int) : Statement (.ftppsEdge x0) := fun _ _ hc => nomatch hc
theorem switchRequest (x0 : Nat) : Statement (.switchRequest x0) := by
  intro h c hc; cases hc; simp_all [Instr.wf]
theorem switchDone (x0 : Nat) : Statement (.switchDone x0) := by
  intro h c hc; cases hc; simp_all [Instr.wf]
theorem swLinkLimitExpire (x0 : Nat) : Statement (.swLinkLimitExpire x0) := by
  intro h c hc; cases hc; simp_all [Instr.wf]
theorem beAdmission (x0 : Nat) : Statement (.beAdmission x0) := fun _ _ hc => nomatch hc
theorem quantumExpire (x0 : Nat) : Statement (.quantumExpire x0) := fun _ _ hc => nomatch hc
theorem preemptForce (x0 : Nat) : Statement (.preemptForce x0) := fun _ _ hc => nomatch hc
theorem stainStop (x0 : Nat) : Statement (.stainStop x0) := fun _ _ hc => nomatch hc
theorem meterUpdate : Statement .meterUpdate := fun _ _ hc => nomatch hc
theorem ledgerWindowEnd (x0 : List Nat) (x1 : Nat) (x2 : List Nat) : Statement (.ledgerWindowEnd x0 x1 x2) := fun _ _ hc => nomatch hc
theorem peakEvaluate (x0 : Nat) (x1 : Nat) : Statement (.peakEvaluate x0 x1) := fun _ _ hc => nomatch hc
theorem segmentBegin (x0 : Nat) : Statement (.segmentBegin x0) := fun _ _ hc => nomatch hc
theorem opRampDone (x0 : Nat) : Statement (.opRampDone x0) := fun _ _ hc => nomatch hc
theorem droopDetect (x0 : Nat) : Statement (.droopDetect x0) := fun _ _ hc => nomatch hc
theorem droopRelease (x0 : Nat) : Statement (.droopRelease x0) := fun _ _ hc => nomatch hc
theorem slackShort (x0 : Nat) : Statement (.slackShort x0) := fun _ _ hc => nomatch hc
theorem corePowerEntry (x0 : Nat) : Statement (.corePowerEntry x0) := by
  intro h c hc; cases hc; simp_all [Instr.wf]
theorem domainPowerEntry (x0 : Nat) : Statement (.domainPowerEntry x0) := fun _ _ hc => nomatch hc
theorem powerEntryAbandon (x0 : Nat) : Statement (.powerEntryAbandon x0) := fun _ _ hc => nomatch hc
theorem domainWake (x0 : Nat) : Statement (.domainWake x0) := fun _ _ hc => nomatch hc
theorem domainReturnDone (x0 : Nat) (x1 : List (Nat × Nat)) : Statement (.domainReturnDone x0 x1) := fun _ _ hc => nomatch hc
theorem wakeN (x0 : BootEnv) : Statement (.wakeN x0) := fun _ _ hc => nomatch hc
theorem scrubRead (x0 : Nat) (x1 : Nat) (x2 : Nat) (x3 : Finding) : Statement (.scrubRead x0 x1 x2 x3) := by
  intro h c hc; cases hc; simp_all [Instr.wf]
theorem patrolScrub (x0 : Nat) (x1 : Nat) (x2 : Finding) : Statement (.patrolScrub x0 x1 x2) := fun _ _ hc => nomatch hc
theorem hbmRefresh (x0 : Nat) (x1 : Bool) : Statement (.hbmRefresh x0 x1) := fun _ _ hc => nomatch hc
theorem hbmTempRead (x0 : Nat) (x1 : Nat) : Statement (.hbmTempRead x0 x1) := fun _ _ hc => nomatch hc
theorem trackerAdmit (x0 : Nat) : Statement (.trackerAdmit x0) := fun _ _ hc => nomatch hc
theorem powerOnReset (x0 : Bool) (x1 : BootEnv) : Statement (.powerOnReset x0 x1) := fun _ _ hc => nomatch hc
theorem resetNAssert : Statement .resetNAssert := fun _ _ hc => nomatch hc
theorem resetNRelease (x0 : BootEnv) : Statement (.resetNRelease x0) := fun _ _ hc => nomatch hc
theorem coreRelease : Statement .coreRelease := fun _ _ hc => nomatch hc
theorem patternCheckDone (x0 : Bool) : Statement (.patternCheckDone x0) := fun _ _ hc => nomatch hc
theorem recoveryFlashWrite (x0 : Nat) : Statement (.recoveryFlashWrite x0) := fun _ _ hc => nomatch hc
theorem recoveryFlashRead (x0 : Nat) : Statement (.recoveryFlashRead x0) := fun _ _ hc => nomatch hc
theorem recoveryVerify (x0 : Nat) (x1 : BootEnv) : Statement (.recoveryVerify x0 x1) := fun _ _ hc => nomatch hc
theorem busHang (x0 : Nat) : Statement (.busHang x0) := fun _ _ hc => nomatch hc
theorem railFault (x0 : Nat) : Statement (.railFault x0) := fun _ _ hc => nomatch hc
theorem thermtrip : Statement .thermtrip := fun _ _ hc => nomatch hc
theorem avsTimeout (x0 : Nat) : Statement (.avsTimeout x0) := fun _ _ hc => nomatch hc
theorem alertExpire : Statement .alertExpire := fun _ _ hc => nomatch hc
theorem partitionCreated (x0 : Nat) : Statement (.partitionCreated x0) := fun _ _ hc => nomatch hc
theorem powerEntryComplete (x0 : Nat) : Statement (.powerEntryComplete x0) := fun _ _ hc => nomatch hc
theorem sanitiseComplete : Statement .sanitiseComplete := fun _ _ hc => nomatch hc
theorem accAreaUnlocked (x0 : Nat) : Statement (.accAreaUnlocked x0) := fun _ _ hc => nomatch hc
theorem stageCacheScrub (x0 : Nat) (x1 : Nat) (x2 : Finding) : Statement (.stageCacheScrub x0 x1 x2) := fun _ _ hc => nomatch hc
theorem avsbusAnswer (x0 : Nat) : Statement (.avsbusAnswer x0) := fun _ _ hc => nomatch hc
theorem tapInstruction (x0 : TapInstr) : Statement (.tapInstruction x0) := fun _ _ hc => nomatch hc
theorem thermalObjectsUpdate (x0 : List Nat) : Statement (.thermalObjectsUpdate x0) := fun _ _ hc => nomatch hc

end Sys2Proof.Laws.Units
end

