-- ==== Sys2Proof/Tests/Slice0.lean ====
section
/-! SUPPORT. The author's tests: well-formedness, the hypotheses of the statements met by concrete states, single steps. -/

namespace Sys2Proof.Tests
open Sys2Proof Sys2Proof.Machine

set_option Elab.async false
set_option maxRecDepth 20000

/-! ## Small states -/

/-- The device at reset with some objects set. -/
def devWith (l : List (Obj × Nat)) : Dev := l.foldl (fun (d : Dev) e => d.put e.1 e.2) Dev.init

/-- A device in service with some objects set. -/
def on (l : List (Obj × Nat)) : State := { State.reset with dev := devWith ((K.BOOT_STATE, 8) :: l) }

/-- The state with its device changed. -/
def dv (s : State) (f : Dev → Dev) : State := { s with dev := f s.dev }

/-- The state after a command, the same where it stops. -/
def after (i : Instr) (s : State) : State := match exec i s with | .next t => t | _ => s

/-- Headers: the firmware's internal session (K), and the operator's at the management port. -/
def hk : Hdr := { port := 65, session := 63, tag := 7, version := 1, src := 0 }
/-- The operator's. -/
def ho : Hdr := { port := 64, session := 0, tag := 7, version := 1, src := 0 }
/-- A request with nothing in it. -/
def rq : Req := { hdr := hk, index := 0, sub := 0, data := [], offset := 0, length := 0 }
/-- An empty flit. -/
def fl : Flit := { ftype := 0, vc := 0, last := false, seq := 0, ack := 0, nak := false, cvc := 0, credit := 0, len := 0, dest := 0,
                   src := 0, part := 0, priv := false, msgid := 0, crc := 0, payload := [] }
/-- What the codewords of a flit tell: nothing found. -/
def fe0 : Fec := { corrected := 0, uncorrectable := false, frame := 0 }
/-- A negotiation payload. -/
def ng : Nego := { verMin := 0, verMax := 0, generation := 0, role := 0, reason := 0, number := 0, assign := 0, chosen := 0,
                   vcmask := 0, credVc0 := 0, credVc2 := 0, credVc3 := 0, credVc4 := 0, deviceId := 0 }
/-- A time mark. -/
def mk0 : Mark := { tx := 0, depth := 0, source := true, echoValid := false, offset := 0, echo := 0, echoHold := 0, rx := 0,
                    reservedZero := true }
/-- What a good boot meets. -/
def env : BootEnv := { rcvrLow := false, pufOk := true, backupCrcOk := true, failStacks := 0, trims := [], cool := true }
/-- A message at the head of a virtual channel of a link. -/
def inbox (s : State) (l : Nat) (m : Msg) : State :=
  dv s (fun (d : Dev) => d.setLink l { d.link l with inbox := Map.set (d.link l).inbox [] m.vc [m] })
/-- The tick of the fabric counter. -/
def atTick (n : Nat) (s : State) : State := dv s (fun (d : Dev) => { d with now := n })
/-- The state with every core released. -/
def free (s : State) : State := dv s (fun (d : Dev) => { d with released := 2 ^ 64 - 1 })
/-- A partition's record changed. -/
def part (s : State) (p : Nat) (f : Part → Part) : State := dv s (fun (d : Dev) => d.setPart p (f (d.part p)))
/-- A double word as two. -/
def ww (x : Nat) : List Nat := [x % 2 ^ 32, x / 2 ^ 32]

/-! ## Decidable forms of the named hypotheses -/

/-- `Reaches` as a check. -/
def reachesB (s : State) (op : Nat) (q : Req) (n : Nat) : Bool :=
  q.hdr.port < 66 && !s.stopped && s.served && (s.dev.earlier op q).isEmpty && !s.dev.foreignHost q.hdr && s.dev.sessionFor q.hdr == some n &&
  ((s.dev.session n).tags.find? (fun e => e.1 == reqBytes op q)).isNone

theorem reaches_of {s : State} {op : Nat} {q : Req} {n : Nat} (h : reachesB s op q n = true) : Reaches s op q n := by
  simp only [reachesB, Bool.and_eq_true, decide_eq_true_eq, Bool.not_eq_true', beq_iff_eq, Option.isNone_iff_eq_none,
    List.isEmpty_iff] at h
  obtain ⟨⟨⟨⟨⟨⟨a, b⟩, c⟩, g⟩, d⟩, e⟩, f⟩ := h
  exact ⟨a, b, c, g, d, e, f⟩

/-- `Admitted` as a check. -/
def admittedB (s : State) (op : Nat) (q : Req) (n : Nat) : Bool :=
  reachesB s op q n && s.dev.get (K.SESSION_STATE n) == 2 && q.hdr.version == s.dev.get (K.SESSION_VERSION n)

theorem admitted_of {s : State} {op : Nat} {q : Req} {n : Nat} (h : admittedB s op q n = true) : Admitted s op q n := by
  simp only [admittedB, Bool.and_eq_true, beq_iff_eq] at h
  exact ⟨reaches_of h.1.1, h.1.2, h.2⟩

/-- `Granted` as a check. -/
def grantedB (s : State) (h : Hdr) (ix sub w v n : Nat) : Bool :=
  admittedB s opWRITE (writeOf h ix sub w v) n && decide (v < 256 ^ w) &&
  match (s.taken opWRITE (writeOf h ix sub w v)).dev.find n ix sub true with
  | .ok t => (s.taken opWRITE (writeOf h ix sub w v)).dev.rangeOk t.row ix sub v
  | .error _ => false

theorem granted_of {s : State} {h : Hdr} {ix sub w v n : Nat} (g : grantedB s h ix sub w v n = true) : Granted s h ix sub w v n := by
  simp only [grantedB, Bool.and_eq_true, decide_eq_true_eq] at g
  obtain ⟨⟨a, b⟩, c⟩ := g
  refine ⟨admitted_of a, b, ?_⟩
  split at c
  · exact ⟨_, ‹_›, c⟩
  · cases c

/-- A command at the head of an engine's list, with its slots and the device then, where `Issues` holds. -/
def headOf (s : State) (e : Eng) (op : Nat) : Option (Cmd × Nat × Dev) :=
  match s.dev.head e (· == op) with
  | .go c n d => if !s.stopped && e.ok && (d.ctx e).hold.isNone && (d.stainsOn 2 e.unit (d.engPart e)).isEmpty
      then some (c, n, { d with memDelay := 0 }) else none
  | .wait _ => none

theorem issues_of {s : State} {e : Eng} {op : Nat} {c : Cmd} {n : Nat} {d : Dev} (h : headOf s e op = some (c, n, d)) :
    Issues s e op c n d := by
  unfold headOf at h
  split at h
  · split at h
    · rename_i hc
      cases h
      simp only [Bool.and_eq_true, Bool.not_eq_true', Option.isNone_iff_eq_none, List.isEmpty_iff] at hc
      obtain ⟨⟨⟨a, b⟩, f⟩, g⟩ := hc
      exact ⟨a, b, ⟨_, ‹_›, rfl⟩, f, g⟩
    · cases h
  · cases h

/-- A command comes to its issue in `s` with what `P` says of it. -/
def issuesB (s : State) (e : Eng) (op : Nat) (P : Cmd → Nat → Dev → Bool) : Bool :=
  match headOf s e op with
  | some (c, n, d) => P c n d
  | none => false

theorem issuesB_of {s : State} {e : Eng} {op : Nat} {P : Cmd → Nat → Dev → Bool} (h : issuesB s e op P = true) :
    ∃ c n d, Issues s e op c n d ∧ P c n d = true := by
  unfold issuesB at h
  split at h
  · exact ⟨_, _, _, issues_of ‹_›, h⟩
  · cases h

theorem foreignLoad_of {d : Dev} {l : Nat} (h : (d.link l).buf = [] ∧ (d.link l).txq = [] ∧ (d.link l).held = []) :
    d.foreignLoad l := by
  intro m hm
  rw [h.1, h.2.1, h.2.2] at hm
  simp at hm

/-! ## Well-formedness: a well-formed term of each command with a check, an ill-formed one for each check -/

/-- Well-formed terms, part 0. -/
def good0 : List Instr :=
  [.mxNop 0, .mxQuiesce 0, .mxPass 0, .mxGang 0, .mxExt 0, .passComplete 0, .interlockStop 0 1, .vxNop 0, .vxSetlen 0,
   .vxEp 0, .vxCvt 0, .vxExt 0, .vxComplete 0 0, .mvNop 0, .mvFence 0, .mvCopy 0, .mvCopy2d 0, .mvTload 0, .mvSpload 0,
   .mvExt 0, .moveComplete 0 [], .runAheadRead 0, .gtNop 0, .gtRows 0, .gtExt 0, .gatherComplete 0, .upNop 0 0,
   .upApply 0 0, .upDerive 0 0, .upExt 0 0, .updateComplete 0 0, .rdNop 0 0, .rdBucket 0 0, .rdRepass 0 0, .rdExt 0 0,
   .contributionReady 0, .contribDeadline 0, .holdLimitExpire 0, .lateContribution 0, .scale 0]

/-- Well-formed terms, part 1. -/
def good1 : List Instr :=
  [.rs 0, .ag 0, .list 0, .repassRs 0, .repassAg 0, .abort 0, .bucketComplete 0, .vote 0, .voteClose 0, .decisionInDoubt 0,
   .swatch 0, .swatchExchange 0, .listFetch 1 0 0, .commandSlotUnreadable 1 0 0, .commandLate 1 0 0, .scheduleStart 0,
   .attemptEnd 0, .segmentEnd 0, .scheduleResume 0, .dictRead rq, .dictWrite rq, .readStaged rq, .segmentRead rq,
   .segmentWrite { rq with data := [1] }, .segmentClose rq, .negotiate hk 0 0, .commitAsap hk, .commitAtTick hk,
   .commitDiscard hk, .commitApply 0, .partitionReleased 0, .channelZeroised 0, .wayDrained 0 0, .accAreaLocked 0,
   .forceDiscard hk 0, .sessionOpen hk 0, .sessionClose hk 0, .snapshotAsap hk, .snapshotAtTick hk, .clear hk]

/-- Well-formed terms, part 2. -/
def good2 : List Instr :=
  [.zeroise hk 0, .resolveCommit hk 0, .resolveAbandon hk 0 0, .jobDamaged hk 0, .ftSet hk 0, .pwrWaitSet hk 0,
   .pwrWaitCancel hk 0, .coreClass hk 0 0, .fenceReq hk 0, .scanReq hk 0, .scanStart 0, .scanComplete 0 false,
   .scanAbandon 0, .unitFault hk 0, .svnCommit hk, .dbgChallenge hk, .dbgRequest hk 0, .dbgLock hk, .dbgResponse hk 0,
   .sanitise hk 0, .flashErase hk, .flashProgram hk, .flashRead hk, .blkReset hk 0 0, .portReset hk 0,
   .lnkEnable hk 0 false, .capW hk 0, .ctrlMode hk, .entdaa 0, .mctpControl [], .challenge 0 0 0, .getMeasurements 0 0 0,
   .flitSlot 0, .null 0 fl, .flitDataReceive 0 fl fe0, .framingRetrain 0,
   .ackDeadlineExpire 0, .linkFail 0 1, .messageReassemblyTimeout 0 0, .readReq 0]

/-- Well-formed terms, part 3. -/
def good3 : List Instr :=
  [.readData 0, .write 0, .writeAck 0, .error 0, .remoteTimeout 0, .linkTrain 0, .trainingTimeout 0, .failedRetry 0,
   .offer 0 ng, .accept 0 ng, .refuse 0 ng, .offerSend 0, .routeReturn 0, .standbyReq ⟨0, fl⟩, .standbyAck ⟨0, fl⟩, .standbyNak ⟨0, fl⟩,
   .standbyStart 0, .laneWake 0, .timemark 0 ⟨fl, mk0⟩, .timemarkSend 0, .switchRequest 0, .switchDone 0, .swLinkLimitExpire 0,
   .beAdmission 0, .quantumExpire 0, .preemptForce 0, .stainStop 0, .ledgerWindowEnd [] 0 [], .segmentBegin 0,
   .opRampDone 0, .droopDetect 0, .droopRelease 0, .slackShort 0, .corePowerEntry 0, .domainPowerEntry 0,
   .powerEntryAbandon 0, .domainWake 0, .domainReturnDone 0 [], .scrubRead 0 0 0 .clean, .patrolScrub 0 0 .clean]

/-- Well-formed terms, part 4. -/
def good4 : List Instr :=
  [.hbmRefresh 0 false, .hbmTempRead 0 0, .trackerAdmit 0, .recoveryFlashWrite 0, .recoveryFlashRead 0,
   .recoveryVerify 0 env, .busHang 0x5000, .railFault 0, .avsTimeout 0, .partitionCreated 0, .powerEntryComplete 0,
   .accAreaUnlocked 0, .stageCacheScrub 0 0 .clean, .avsbusAnswer 0, .thermalObjectsUpdate (List.replicate 100 0)]

theorem test_wf_good0 : good0.all Instr.wf = true := by decide +kernel
theorem test_wf_good1 : good1.all Instr.wf = true := by decide +kernel
theorem test_wf_good2 : good2.all Instr.wf = true := by decide +kernel
theorem test_wf_good3 : good3.all Instr.wf = true := by decide +kernel
theorem test_wf_good4 : good4.all Instr.wf = true := by decide +kernel

/-- Ill-formed terms, one for each check of a command, part 0. -/
def bad0 : List Instr :=
  [.mxNop 64, .mxQuiesce 64, .mxPass 64, .mxGang 64, .mxExt 64, .passComplete 64, .interlockStop 64 1, .interlockStop 0 0,
   .interlockStop 0 6, .vxNop 64, .vxSetlen 64, .vxEp 64, .vxCvt 64, .vxExt 64, .vxComplete 64 0, .mvNop 64, .mvFence 64,
   .mvCopy 64, .mvCopy2d 64, .mvTload 64, .mvSpload 64, .mvExt 64, .moveComplete 64 [], .runAheadRead 64, .gtNop 64,
   .gtRows 64, .gtExt 64, .gatherComplete 64, .upNop 20 0, .upNop 0 16, .upApply 20 0, .upApply 0 16, .upDerive 20 0,
   .upDerive 0 16, .upExt 20 0, .upExt 0 16, .updateComplete 20 0, .updateComplete 0 16, .rdNop 8 0, .rdNop 0 16]

/-- Ill-formed terms, one for each check of a command, part 1. -/
def bad1 : List Instr :=
  [.rdBucket 8 0, .rdBucket 0 16, .rdRepass 8 0, .rdRepass 0 16, .rdExt 8 0, .rdExt 0 16, .contributionReady 32,
   .contribDeadline 32, .holdLimitExpire 32, .lateContribution 32, .scale 64, .rs 64, .ag 64, .list 64, .repassRs 64,
   .repassAg 64, .abort 64, .bucketComplete 32, .vote 64, .voteClose 16, .decisionInDoubt 16, .swatch 64,
   .swatchExchange 16, .listFetch 7 0 0, .listFetch 1 64 0, .listFetch 5 20 0, .listFetch 5 0 16, .listFetch 6 8 0,
   .listFetch 6 0 16, .commandSlotUnreadable 7 0 0, .commandSlotUnreadable 1 64 0, .commandSlotUnreadable 5 20 0,
   .commandSlotUnreadable 5 0 16, .commandSlotUnreadable 6 8 0, .commandSlotUnreadable 6 0 16, .commandLate 7 0 0,
   .commandLate 1 64 0, .commandLate 5 20 0, .commandLate 5 0 16, .commandLate 6 8 0]

/-- Ill-formed terms, one for each check of a command, part 2. -/
def bad2 : List Instr :=
  [.commandLate 6 0 16, .scheduleStart 16, .attemptEnd 16, .segmentEnd 16, .scheduleResume 16,
   .dictRead { rq with index := 65536 }, .dictWrite { rq with index := 65536 }, .readStaged { rq with index := 65536 },
   .segmentRead { rq with index := 65536 }, .segmentWrite { rq with index := 65536, data := [1] }, .segmentWrite rq,
   .segmentClose { rq with index := 65536 }, .segmentClose { rq with data := [1] }, .negotiate { hk with port := 66 } 0 0,
   .negotiate hk 65536 0, .negotiate hk 0 65536, .commitAsap { hk with port := 66 }, .commitAtTick { hk with port := 66 },
   .commitDiscard { hk with port := 66 }, .commitApply 64, .partitionReleased 16, .channelZeroised 320, .wayDrained 4 0,
   .wayDrained 0 16, .accAreaLocked 4, .forceDiscard { hk with port := 66 } 0, .forceDiscard hk 256,
   .sessionOpen { hk with port := 66 } 0, .sessionOpen hk 64, .sessionClose { hk with port := 66 } 0, .sessionClose hk 64,
   .snapshotAsap { hk with port := 66 }, .snapshotAtTick { hk with port := 66 }, .clear { hk with port := 66 },
   .zeroise { hk with port := 66 } 0, .zeroise hk 64, .resolveCommit { hk with port := 66 } 0, .resolveCommit hk 16,
   .resolveAbandon { hk with port := 66 } 0 0, .resolveAbandon hk 16 0]

/-- Ill-formed terms, one for each check of a command, part 3. -/
def bad3 : List Instr :=
  [.resolveAbandon hk 0 256, .jobDamaged { hk with port := 66 } 0, .jobDamaged hk 16, .ftSet { hk with port := 66 } 0,
   .ftSet hk (2 ^ 64), .pwrWaitSet { hk with port := 66 } 0, .pwrWaitSet hk 64, .pwrWaitCancel { hk with port := 66 } 0,
   .pwrWaitCancel hk 64, .coreClass { hk with port := 66 } 0 0, .coreClass hk 64 0, .coreClass hk 0 256,
   .fenceReq { hk with port := 66 } 0, .fenceReq hk 256, .scanReq { hk with port := 66 } 0, .scanReq hk 256, .scanStart 64,
   .scanComplete 64 false, .scanAbandon 64, .unitFault { hk with port := 66 } 0, .unitFault hk 65536,
   .svnCommit { hk with port := 66 }, .dbgChallenge { hk with port := 66 }, .dbgRequest { hk with port := 66 } 0,
   .dbgRequest hk 256, .dbgLock { hk with port := 66 }, .dbgResponse { hk with port := 66 } 0, .dbgResponse hk (2 ^ 512),
   .sanitise { hk with port := 66 } 0, .sanitise hk 256, .flashErase { hk with port := 66 },
   .flashProgram { hk with port := 66 }, .flashRead { hk with port := 66 }, .blkReset { hk with port := 66 } 0 0,
   .blkReset hk 64 0, .blkReset hk 0 256, .portReset { hk with port := 66 } 0, .portReset hk 8,
   .lnkEnable { hk with port := 66 } 0 false, .lnkEnable hk 64 false]

/-- Ill-formed terms, one for each check of a command, part 4. -/
def bad4 : List Instr :=
  [.capW { hk with port := 66 } 0, .capW hk 65536, .ctrlMode { hk with port := 66 }, .entdaa 128, .mctpControl [256],
   .challenge 0 0 (2 ^ 256), .getMeasurements 0 (2 ^ 256) 0, .getMeasurements 0 0 256, .flitSlot 64, .null 64 fl,
   .null 0 { fl with seq := 4096 }, .flitDataReceive 64 fl fe0,
   .flitDataReceive 0 { fl with seq := 4096 } fe0, .framingRetrain 64,
   .ackDeadlineExpire 64, .linkFail 64 1, .linkFail 0 0, .linkFail 0 5, .messageReassemblyTimeout 64 0,
   .messageReassemblyTimeout 0 8, .readReq 64, .readData 64, .write 64, .writeAck 64, .error 64, .remoteTimeout (2 ^ 15),
   .linkTrain 64, .trainingTimeout 64, .failedRetry 64, .offer 64 ng, .offer 0 { ng with role := 256 }, .accept 64 ng,
   .accept 0 { ng with role := 256 }, .refuse 64 ng, .refuse 0 { ng with role := 256 }, .offerSend 64, .routeReturn 64,
   .standbyReq ⟨64, fl⟩, .standbyAck ⟨64, fl⟩, .standbyNak ⟨64, fl⟩]

/-- Ill-formed terms, one for each check of a command, part 5. -/
def bad5 : List Instr :=
  [.standbyStart 64, .laneWake 64, .timemark 64 ⟨fl, mk0⟩, .timemarkSend 64, .switchRequest 64, .switchDone 64,
   .swLinkLimitExpire 64, .beAdmission 16, .quantumExpire 16, .preemptForce 16, .stainStop 16,
   .ledgerWindowEnd (List.replicate 8 0) 0 [], .segmentBegin 16, .opRampDone 4, .droopDetect 4, .droopRelease 4,
   .slackShort 4, .corePowerEntry 64, .domainPowerEntry 77, .powerEntryAbandon 77, .domainWake 77, .domainReturnDone 77 [],
   .scrubRead 64 0 0 .clean, .scrubRead 0 4 0 .clean, .patrolScrub 320 0 .clean, .patrolScrub 0 25165824 .clean,
   .hbmRefresh 20 false, .hbmTempRead 20 0, .hbmTempRead 0 65536, .trackerAdmit 4, .recoveryFlashWrite 8,
   .recoveryFlashRead 8, .recoveryVerify 8 env, .busHang 0x5004, .busHang 0x6004, .busHang 0x4FFF, .railFault 32,
   .avsTimeout 4, .partitionCreated 16, .powerEntryComplete 77]

/-- Ill-formed terms, one for each check of a command, part 6. -/
def bad6 : List Instr :=
  [.accAreaUnlocked 4, .stageCacheScrub 4 0 .clean, .avsbusAnswer 4, .thermalObjectsUpdate (List.replicate 99 0),
   .thermalObjectsUpdate (List.replicate 100 65536)]

theorem test_wf_bad0 : bad0.all (fun i => !i.wf) = true := by decide +kernel
theorem test_wf_bad1 : bad1.all (fun i => !i.wf) = true := by decide +kernel
theorem test_wf_bad2 : bad2.all (fun i => !i.wf) = true := by decide +kernel
theorem test_wf_bad3 : bad3.all (fun i => !i.wf) = true := by decide +kernel
theorem test_wf_bad4 : bad4.all (fun i => !i.wf) = true := by decide +kernel
theorem test_wf_bad5 : bad5.all (fun i => !i.wf) = true := by decide +kernel
theorem test_wf_bad6 : bad6.all (fun i => !i.wf) = true := by decide +kernel

theorem test_wf_Hdr : hk.wf = true ∧
    [{ hk with port := 66 }, { hk with session := 256 }, { hk with tag := 65536 }, { hk with version := 256 }, { hk with src := 65536 }].all (fun x : Hdr => !x.wf) = true := by decide +kernel

theorem test_wf_Req : rq.wf = true ∧
    [{ rq with index := 65536 }, { rq with sub := 256 }, { rq with data := List.replicate 225 0 }, { rq with data := [256] }, { rq with offset := 2 ^ 32 }, { rq with length := 65536 }].all (fun x : Req => !x.wf) = true := by decide +kernel

theorem test_wf_Flit : fl.wf = true ∧
    [{ fl with ftype := 16 }, { fl with vc := 8 }, { fl with seq := 4096 }, { fl with ack := 4096 }, { fl with cvc := 8 }, { fl with credit := 256 }, { fl with len := 256 }, { fl with dest := 4096 }, { fl with src := 4096 }, { fl with part := 16 }, { fl with msgid := 2 ^ 15 }, { fl with crc := 2 ^ 32 }, { fl with payload := List.replicate 241 0 }, { fl with payload := [256] }].all (fun x : Flit => !x.wf) = true := by decide +kernel

theorem test_wf_Nego : ng.wf = true ∧
    [{ ng with verMin := 65536 }, { ng with verMax := 65536 }, { ng with generation := 256 }, { ng with role := 256 }, { ng with reason := 256 }, { ng with number := 65536 }, { ng with assign := 65536 }, { ng with chosen := 65536 }, { ng with vcmask := 256 }, { ng with deviceId := 2 ^ 256 }].all (fun x : Nego => !x.wf) = true := by decide +kernel
/-! ## The machine, flash, reset and boot -/

theorem wit_StepTakesFront : ({ on [] with pending := [.coreRelease] } : State).pending = .coreRelease :: [] := rfl

theorem wit_EmptyQueueTicks : (on []).pending = [] ∧ (on []).stopped = false ∧ (on [(K.BOOT_STATE, 0xFF)]).stopped = true := by
  decide +kernel

theorem wit_QueueInOrder : (match Sys2Proof.core.run 2 { on [] with pending := [.markTimeout, .clearApply, .alertExpire] } with
    | .next t => t.pending == [.alertExpire] | _ => false) = true := by decide +kernel

theorem wit_EveryCommandAnswers : (Instr.mxNop 63).wf = true ∧ (Instr.mxNop 64).wf = false ∧
    (match exec (.mxNop 64) (on []) with | .fault f => f == .noSuchUnit | _ => false) = true := by decide +kernel

theorem wit_BootFrames : (on [(K.BOOT_STATE, 0xFF)]).stopped = true ∧ pinCommand (.mxNop 0) = false ∧ secCommand (.mxNop 0) = false ∧
    (match exec (.mxNop 0) (on []) with | .next _ => true | _ => false) = true := by decide +kernel

theorem wit_FlashFormKept : FlashOk (on []).sec ∧ ∃ t, step (on []) = .next t := ⟨⟨by decide, by decide⟩, _, rfl⟩

/-- A device with one flash operation in front: code, address, data. -/
def flashOp (op a : Nat) (data : List Nat) : State := { on [] with sec := { Sec.init with flashQ := [(op, a, data)] } }

theorem wit_FlashOperations : grantedB (on []) hk 0x9010 3 1 1 63 = true ∧ grantedB (on []) hk 0x9010 3 1 2 63 = true ∧
    grantedB (on []) hk 0x9010 3 1 3 63 = true ∧ (flashOp 2 0 [0x55]).sec.flashQ = (2, 0, [0x55]) :: [] ∧
    (flashOp 2 0 [0x55]).stopped = false := by decide +kernel

theorem test_flash_programs : (after (.flashOpDone true) (flashOp 2 (flashSize - 1) [0x55, 0xAA])).sec.flash = [(flashSize - 1, 0x55)] ∧
    (after (.flashOpDone true) (flashOp 2 flashSize [0x55])).dev.get K.FLASH_STATUS = 3 ∧
    (after (.flashOpDone false) (flashOp 2 0 [0x55])).sec.flash = [] := by decide +kernel

/-- Held in reset by RESET_N. -/
def held : State := { on [] with sec := { Sec.init with resetN := true } }

theorem wit_Resets : (on []).sec.resetN = false ∧ (on []).sec.railBad = false ∧ (on []).sec.thermtrip = false ∧
    ({ on [] with sec := { Sec.init with railBad := true } } : State).sec.railBad = true ∧ keptObj K.RESET_COUNT.key = true ∧
    keptObj K.CAP_W.key = false ∧ K.CAP_W.key ≠ K.SVN_MIN.key := by decide +kernel

theorem test_warm_reset_keeps : (after .resetNAssert (on [(K.RESET_COUNT, 3), (K.CAP_W, 1500)])).dev.get K.RESET_COUNT = 3 ∧
    (after .resetNAssert (on [(K.RESET_COUNT, 3), (K.CAP_W, 1500)])).dev.get K.CAP_W = Dev.init.get K.CAP_W := by decide +kernel

theorem wit_BootOrder : held.sec.resetN = true ∧ held.sec.railBad = false ∧ held.sec.thermtrip = false ∧ held.sec.coldCause = 0 ∧
    env.backupCrcOk = true ∧ (on []).sec.resetN = false ∧ (on []).sec.thermtrip = false ∧ held.sec.imageFault 0 ≠ none ∧
    (on [(K.DOM_STATE 76, 4)]).dev.get (K.DOM_STATE 76) = 4 ∧ (on [(K.DOM_STATE 76, 4)]).halted = false := by decide +kernel

theorem test_warm_reset_counts : (after (.resetNRelease { env with rcvrLow := true }) held).dev.bootState = 0x80 ∧
    (after (.resetNRelease { env with rcvrLow := true }) held).dev.get K.RESET_COUNT = 1 ∧
    (after (.resetNRelease { env with pufOk := false }) held).dev.bootState = 0xFF := by decide +kernel

theorem test_power_on_clears : (after (.powerOnReset true { env with rcvrLow := true }) (on [(K.RESET_COUNT, 3)])).dev.get K.RESET_COUNT = 0 ∧
    (after (.powerOnReset true { env with rcvrLow := true }) (on [])).dev.get K.RESET_CAUSE = 4 := by decide +kernel

/-- At the last step of the reset order, LOCKED, the boot counter at its tick or one before. -/
def lastStep (t : Nat) : State :=
  { on [(K.BOOT_STATE, 6), (K.FT_STATE, 2)] with sec := { Sec.init with boot := t } }

theorem wit_BootOrder_release : (lastStep 100000000).stopped = false ∧ (lastStep 100000000).dev.bootState = 6 ∧
    100000000 ≤ (lastStep 100000000).sec.boot ∧ (lastStep 100000000).dev.get K.FT_STATE = 2 := by decide +kernel

theorem test_core_release : (after .coreRelease (lastStep 100000000)).dev.bootState = 8 ∧
    (after .coreRelease (lastStep 99999999)).dev.bootState = 6 ∧
    (after .coreRelease (lastStep 100000000)).dev.get K.BOOT_MS = 1600 := by decide +kernel

theorem wit_BootEvents : (on []).dev.get K.PATTERN_OK = 0 ∧ (on []).dev.recovery = false ∧ 4 ≤ (on []).dev.bootState ∧
    0x5003 / 4096 = 5 ∧ (on []).dev.avs.contains 3 = false ∧ (on []).dev.get (K.FLOOR_MHZ 3) ≤ (on []).dev.get (K.FREQ_MHZ 3) ∧
    (on [(K.BOOT_STATE, 6)]).dev.bootState ≠ 8 ∧ (on []).dev.get K.DEBUG_LEVEL ≠ 2 ∧
    (on [(K.DEBUG_LEVEL, 2)]).dev.get K.DEBUG_LEVEL = 2 ∧ held.sec.resetN = true := by decide +kernel

/-- ALERT_N low since tick 0. -/
def alertAt (now : Nat) : State := dv (on []) (fun (d : Dev) => { d with now := now, log := { d.log with alert := true } })

theorem test_alert_expires : (alertAt 62500).dev.log.alert = true ∧ (alertAt 62500).dev.log.alertAt + 62500 ≤ (alertAt 62500).dev.now ∧
    (after .alertExpire (alertAt 62500)).dev.log.alert = false ∧ (after .alertExpire (alertAt 62499)).dev.log.alert = true := by decide +kernel

theorem test_temperatures : (after (.thermalObjectsUpdate ((List.range 100).map (· + 300))) (on [])).dev.get (K.TJ_QUAD 3) = 395 ∧
    (after (.thermalObjectsUpdate ((List.range 100).map (· + 300))) (on [])).dev.get K.TJ_SVC = 399 := by decide +kernel

/-- A device in recovery mode with a VC4 request on link 7. -/
def recReq (op len addr : Nat) (data : List Nat) : State :=
  inbox (on [(K.BOOT_STATE, 0x80)]) 7 (txMsg 4 0 1 0 false 5 op 0 len addr data)

theorem wit_RecoveryMode : (recReq 3 2 (recFlash + 0xFFFF) [1, 2]).dev.recovery = true ∧
    ((recReq 3 2 (recFlash + 0xFFFF) [1, 2]).dev.takeMsg 7 4 (fun m => m.payload.getD 12 0 == 3 && !recIsVerify m)).isSome = true ∧
    ((recReq 1 8 recStatus []).dev.takeMsg 7 4 (fun m => m.payload.getD 12 0 == 1)).isSome = true ∧
    recLen (txMsg 4 0 1 0 false 5 3 0 2 recFlash [1, 2]) = 2 ∧ recOffset (txMsg 4 0 1 0 false 5 1 0 8 recStatus []) = recStatus ∧
    ((recReq 3 8 (recStatus + 8) (List.replicate 8 1)).dev.takeMsg 7 4 (fun m => m.payload.getD 12 0 == 3 && recIsVerify m)).isSome = true ∧
    ((recReq 3 8 (recStatus + 8) []).sec.imageFault 0).isSome = true := by decide +kernel

theorem test_recovery_writes : (after (.recoveryFlashWrite 7) (recReq 3 2 (recFlash + 0xFFFF) [1, 2])).sec.flash = [(0xFFFF, 1), (0x10000, 2)] ∧
    (after (.recoveryFlashWrite 7) (recReq 3 0 recFlash [])).sec.flash = [] := by decide +kernel

theorem wit_ManagementPort : (on []).served = true ∧ ({ on [] with sec := { Sec.init with spdm := 3 } } : State).served = true ∧
    bit 0x200 9 = true ∧ bit 0x40 6 = true ∧ bit 0x80 7 = true ∧ ((on []).measure 7).isSome = true ∧
    ((on []).measure 0x1F).isSome = false := by decide +kernel

theorem test_mctp_endpoint : (after (.mctpControl [0x80, 1, 0, 9]) (on [])).sec.eid = 9 ∧ (after (.entdaa 0x55) (on [])).sec.i3cAddr = 0x55 ∧
    (after (.getVersion 0x10) (on [])).sec.spdm = 1 := by decide +kernel

/-! ## The object dictionary -/

/-- A device in service whose operator session is negotiated in version 1. -/
def op (l : List (Obj × Nat)) : State := on ([(K.SESSION_STATE 0, 2), (K.SESSION_VERSION 0, 1)] ++ l)

/-- A request of the operator. -/
def oreq (ix sub : Nat) (data : List Nat) : Req := { rq with hdr := ho, index := ix, sub := sub, data := data, length := data.length }

/-- The session with its state changed. -/
def sess (s : State) (n : Nat) (f : Session → Session) : State := dv s (fun (d : Dev) => d.setSession n (f (d.session n)))

/-- A request finds its object. -/
def finds (s : State) (o : Nat) (q : Req) (n : Nat) (w : Bool) (P : Target → Bool) : Bool :=
  admittedB s o q n && match (s.taken o q).dev.find n q.index q.sub w with | .ok t => P t | .error _ => false

theorem finds_of {s : State} {o : Nat} {q : Req} {n : Nat} {w : Bool} {P : Target → Bool} (h : finds s o q n w P = true) :
    ∃ t, Admitted s o q n ∧ (s.taken o q).dev.find n q.index q.sub w = .ok t ∧ P t = true := by
  simp only [finds, Bool.and_eq_true] at h
  obtain ⟨a, b⟩ := h
  split at b
  · exact ⟨_, admitted_of a, ‹_›, b⟩
  · cases b

/-- FT_ROLE staged by the operator. -/
def staged : State := sess (op []) 0 (fun (x : Session) => { x with state := 1, staged := [{ key := K.FT_ROLE.key, val := 1, dom := none }] })

theorem wit_ReadsAnswer :
    finds (op []) opREAD (oreq 0x2000 2 []) 0 false (fun t => t.row.type.bytes == some 1 && t.key != K.LOG_RECORD.key && t.key != K.DBG_CHALLENGE.key) = true ∧
    finds staged opSTAGED (oreq 0x2000 2 []) 0 false (fun t => t.row.type.bytes == some 1 && (staged.dev.stagedOf 0 t).isSome) = true ∧
    finds (op []) opSTAGED (oreq 0x2000 2 []) 0 false (fun t => t.row.type.bytes == some 1 && ((op []).dev.stagedOf 0 t).isNone) = true ∧
    (admittedB (op []) opREAD (oreq 0x2000 200 []) 0 &&
      (match ((op []).taken opREAD (oreq 0x2000 200 [])).dev.find 0 0x2000 200 false with | .ok _ => false | .error _ => true)) = true := by
  decide +kernel

/-- 256 objects staged, none of them FT_ROLE. -/
def full : State := sess (op []) 0 (fun (x : Session) => { x with
  state := 1, staged := (List.range 256).map (fun i => ({ key := 0x71000 + i, val := 0, dom := none } : Staged)) })

theorem wit_WritesStage :
    finds (op []) opWRITE (oreq 0x2000 2 [1]) 0 true (fun t => t.row.type.bytes == some 1 && t.row.right 1 == .rws &&
      ((op []).taken opWRITE (oreq 0x2000 2 [1])).dev.rangeOk t.row 0x2000 2 1 && !(op []).dev.heldElsewhere 0 t.key) = true ∧
    finds full opWRITE (oreq 0x2000 2 [1]) 0 true (fun t => t.row.right 1 == .rws && !full.dev.heldElsewhere 0 t.key &&
      decide (256 ≤ ((full.dev.session 0).staged.filter (fun y => y.key != t.key)).length)) = true ∧
    finds (sess (op []) 5 (fun (x : Session) => { x with staged := [{ key := K.FT_ROLE.key, val := 1, dom := none }] })) opWRITE
      (oreq 0x2000 2 [1]) 0 true (fun t => (sess (op []) 5 (fun (x : Session) => { x with
        staged := [{ key := K.FT_ROLE.key, val := 1, dom := none }] })).dev.heldElsewhere 0 t.key) = true ∧
    finds (sess (op []) 0 (fun (x : Session) => { x with state := 2 })) opWRITE (oreq 0x2000 2 [1]) 0 true (fun _ => true) = true ∧
    finds (op []) opWRITE (oreq 0x2000 2 [1, 0]) 0 true (fun t => t.row.type.bytes != some 2) = true ∧
    finds (op []) opWRITE (oreq 0x2000 2 [3]) 0 true
      (fun t => !((op []).taken opWRITE (oreq 0x2000 2 [3])).dev.rangeOk t.row 0x2000 2 3) = true := by
  decide +kernel

theorem test_write_stages : (after (.dictWrite (oreq 0x2000 2 [1])) (op [])).dev.get K.FT_ROLE = 0 ∧
    ((after (.dictWrite (oreq 0x2000 2 [1])) (op [])).dev.session 0).staged = [{ key := K.FT_ROLE.key, val := 1, dom := none }] := by
  decide +kernel

theorem wit_RefusedChangesNothing : admittedB (op []) opWRITE (oreq 0x2000 5 [1]) 0 = true ∧
    (match ((op []).taken opWRITE (oreq 0x2000 5 [1])).dev.find 0 0x2000 5 true with | .ok _ => false | .error _ => true) = true := by
  decide +kernel

/-- The operator's write of FT_ROLE, answered and kept. -/
def kept : State := after (.dictWrite (oreq 0x2000 2 [1])) (op [])

theorem wit_RequestsOnce : kept.served = true ∧ kept.dev.foreignHost ho = false ∧ kept.dev.sessionFor ho = some 0 ∧
    ((kept.dev.session 0).tags.find? (fun e => e.1 == reqBytes opWRITE (oreq 0x2000 2 [1]))).isSome = true ∧
    (kept.dev.session 0).tags.find? (fun e => e.1 == reqBytes opWRITE (oreq 0x2000 2 [0])) = none ∧
    (on []).dev.sessionFor { hk with session := 9 } = none ∧ reachesB (on []) opWRITE (oreq 0x2000 2 [1]) 0 = true ∧
    (on []).dev.get (K.SESSION_STATE 0) ≠ 2 ∧ kept.dev.get (K.SESSION_STATE 0) ≠ 0 := by decide +kernel

theorem test_tag_once : (after (.dictWrite (oreq 0x2000 2 [1])) kept).dev.get (K.SESSION_REQUESTS 0) = 1 ∧
    (after (.dictWrite (oreq 0x2000 2 [0])) kept).dev.get (K.SESSION_REQUESTS 0) = 2 ∧
    ((after (.dictWrite (oreq 0x2000 2 [0])) kept).dev.session 0).tags.length = 1 := by decide +kernel

theorem wit_Sessions : reachesB (op []) opNEGOTIATE (oreq 0 0 (toLE 2 1 ++ toLE 2 1)) 0 = true ∧
    reachesB (on []) opNEGOTIATE (oreq 0 0 (toLE 2 1 ++ toLE 2 0xFFFF)) 0 = true ∧
    max 1 ((on []).dev.get K.DICT_VER_MIN) ≤ min 0xFFFF ((on []).dev.get K.DICT_VER_MAX) ∧
    min 0 ((on []).dev.get K.DICT_VER_MAX) < max 0 ((on []).dev.get K.DICT_VER_MIN) ∧
    grantedB (op []) ho 0x1201 1 1 1 0 = true ∧ grantedB (op []) ho 0x123E 1 1 1 0 = true ∧ (op []).dev.get (K.SESSION_STATE 1) = 0 ∧
    grantedB (op [(K.SESSION_PRINCIPAL 62, 4)]) ho 0x123E 1 1 1 0 = true ∧ (op []).dev.get K.DEBUG_LEVEL = 0 ∧
    (op [(K.SESSION_STATE 1, 1)]).dev.get (K.SESSION_STATE 1) ≠ 0 ∧ grantedB (op []) ho 0x123E 1 1 0 0 = true ∧
    grantedB (op []) ho 0x1200 1 1 0 0 = true ∧ grantedB (op []) ho 0x123F 1 1 0 0 = true := by decide +kernel

theorem test_session_opens : (after (.sessionOpen ho 62) (op [])).dev.get (K.SESSION_STATE 62) = 1 ∧
    (after (.sessionClose ho 63) (op [])).dev.get (K.SESSION_STATE 63) = 2 ∧
    (after (.sessionOpen ho 62) (op [(K.SESSION_PRINCIPAL 62, 4)])).dev.get (K.SESSION_STATE 62) = 0 := by decide +kernel

/-- A segment request of the operator for ROUTE. -/
def seg (off len : Nat) (data : List Nat) : Req := { oreq 0x5040 1 data with offset := off, length := len }

/-- The operator's session with an open buffer of an object. -/
def buffered (key : Nat) (bs : List Nat) (f : Session → Session) : State := sess (op []) 0 (fun (x : Session) => f { x with buf := some (key, bs) })
/-- The close of a buffer of ROUTE is admitted, its object and buffer being as given. -/
def closes (s : State) (ix sub off : Nat) (P : Target → List Nat → Bool) : Bool :=
  finds s opSEGWRITE { oreq ix sub [] with offset := off } 0 true (fun t => t.row.type == .domain && P t (((s.dev.session 0).bufOf t.key).getD []))

theorem wit_Segments : finds (op []) opSEGREAD (seg 0 224 []) 0 false (fun t => t.row.type == .domain) = true ∧
    finds (op []) opSEGWRITE (seg 3 0 [1, 2]) 0 true (fun t => t.row.type == .domain && decide (3 + 2 ≤ domMax t.key)) = true ∧
    closes (buffered (0x5040 * 256 + 1) [63, 255] id) 0x5040 1 2 (fun t bs => t.row.right 1 == .rws && domRangeOk t.key bs && decide (2 = bs.length) &&
      !(op []).dev.heldElsewhere 0 t.key) = true ∧
    closes (buffered (0x5040 * 256 + 1) [64] id) 0x5040 1 1 (fun t bs => !domRangeOk t.key bs) = true ∧
    closes (buffered (0x5040 * 256 + 1) [63] id) 0x5040 1 2 (fun _ bs => decide (2 ≠ bs.length)) = true ∧
    closes (buffered flashKey [7] id) 0x9010 2 1 (fun t bs => t.row.right 1 != .rws && domRangeOk t.key bs && decide (1 = bs.length)) = true ∧
    closes (buffered (0x5040 * 256 + 1) [63] (fun (x : Session) => { x with state := 2 })) 0x5040 1 1
      (fun t bs => t.row.right 1 == .rws && domRangeOk t.key bs) = true ∧
    closes (sess (buffered (0x5040 * 256 + 1) [63] id) 5 (fun (x : Session) => { x with staged := [{ key := 0x5040 * 256 + 1, val := 0, dom := some [1] }] }))
      0x5040 1 1 (fun t bs => t.row.right 1 == .rws && domRangeOk t.key bs && (sess (buffered (0x5040 * 256 + 1) [63] id) 5 (fun (x : Session) =>
        { x with staged := [{ key := 0x5040 * 256 + 1, val := 0, dom := some [1] }] })).dev.heldElsewhere 0 t.key) = true := by decide +kernel

theorem test_segment_gap : ((after (.segmentWrite (seg 3 0 [1, 2])) (op [])).dev.session 0).buf.map Prod.snd = some [0, 0, 0, 1, 2] ∧
    ((after (.segmentClose (seg 2 0 [])) (buffered (0x5040 * 256 + 1) [63, 255] id)).dev.session 0).staged.map Staged.dom = [some [63, 255]] := by
  decide +kernel

/-- A commit pending in the operator's session. -/
def committing (now : Nat) (st : List Staged) : State :=
  dv (sess (op []) 0 (fun (x : Session) => { x with state := 2, mode := 1, commitAt := 100, staged := st })) (fun (d : Dev) => { d with now := now })

theorem wit_Commits : grantedB staged ho 0x1F00 1 1 1 0 = true ∧ (staged.dev.session 0).state ≠ 2 ∧
    grantedB staged ho 0x1F00 1 1 3 0 = true ∧ grantedB staged ho 0x1F01 1 1 63 0 = true ∧
    grantedB staged ho 0x1F00 1 1 2 0 = true ∧ (staged.dev.session 0).commitTick < staged.dev.now + 4 ∧
    (let s := sess staged 0 (fun (x : Session) => { x with commitTick := 4 })
     grantedB s ho 0x1F00 1 1 2 0 && decide ((s.dev.session 0).state ≠ 2) && decide (s.dev.now + 4 ≤ (s.dev.session 0).commitTick)) = true ∧
    grantedB (committing 99 []) ho 0x1F00 1 1 1 0 = true ∧ ((committing 99 []).dev.session 0).state = 2 ∧ (committing 99 []).stopped = false ∧
    (committing 99 []).dev.now < ((committing 99 []).dev.session 0).commitAt ∧
    ((committing 100 []).dev.session 0).commitAt ≤ (committing 100 []).dev.now ∧
    (committing 100 []).dev.commitFault (committing 100 []).dev.now ((committing 100 []).dev.session 0).staged = none ∧
    ((committing 100 [{ key := 0x200002, val := 9, dom := none }]).dev.commitFault 100
      ((committing 100 [{ key := 0x200002, val := 9, dom := none }]).dev.session 0).staged).isSome = true := by decide +kernel

theorem test_commit_at_four : ((after (.commitAsap ho) staged).dev.session 0).commitAt = staged.dev.now + 4 ∧
    (after (.commitApply 0) (committing 100 [{ key := K.FT_ROLE.key, val := 1, dom := none }])).dev.get K.FT_ROLE = 1 ∧
    (after (.commitApply 0) (committing 99 [{ key := K.FT_ROLE.key, val := 1, dom := none }])).dev.get K.FT_ROLE = 0 ∧
    (after (.commitApply 0) (committing 100 [{ key := K.FT_ROLE.key, val := 9, dom := none }])).dev.get K.FT_ROLE = 0 := by
  decide +kernel

theorem wit_Snapshots : grantedB (op []) ho 0xA800 1 1 1 0 = true ∧ grantedB (op []) ho 0xA800 4 1 1 0 = true ∧
    grantedB (op [(K.SNAPSHOT_TICK, 4)]) ho 0xA800 1 1 2 0 = true ∧
    (op [(K.SNAPSHOT_TICK, 4)]).dev.now + 4 ≤ (op [(K.SNAPSHOT_TICK, 4)]).dev.get K.SNAPSHOT_TICK ∧
    grantedB (op [(K.SNAPSHOT_TICK, 3)]) ho 0xA800 1 1 2 0 = true ∧
    (op [(K.SNAPSHOT_TICK, 3)]).dev.get K.SNAPSHOT_TICK < (op [(K.SNAPSHOT_TICK, 3)]).dev.now + 4 ∧
    snapKey 255 0xA00001 = true ∧ snapKey 255 0x200002 = false := by decide +kernel

/-- A counter of engine 0, a snapshot and a clear that are due. -/
def counted : State := dv (op [(⟨0xA00001, 0⟩, 5), (⟨0xA20301, 0⟩, 6)]) (fun (d : Dev) => { d with now := 4, snapPend := [(4, 255)], clearAt := [4, 5] })

theorem test_snapshot_clear : Map.get (after .snapshotTake counted).dev.snap 0 0xA00001 = 5 ∧
    (after .clearApply counted).dev.get ⟨0xA00001, 0⟩ = 0 ∧ (after .clearApply counted).dev.get ⟨0xA20301, 0⟩ = 6 ∧
    (after .clearApply counted).dev.clearAt = [5] := by decide +kernel

theorem wit_PartitionWrites : grantedB (op [(K.DECISION 15, 3)]) ho 0x230F 20 1 1 0 = true ∧
    grantedB (op [(K.DECISION 15, 3)]) ho 0x230F 20 1 4 0 = true ∧ (op [(K.DECISION 15, 3)]).dev.get (K.DECISION 15) = 3 ∧
    grantedB (op []) ho 0x230F 20 1 1 0 = true ∧ grantedB (op []) ho 0x230F 20 1 2 0 = true ∧ (op []).dev.get (K.DECISION 15) ≠ 3 ∧
    grantedB (op [(K.SCHED_STATE 15, 4)]) ho 0x230F 21 1 0 0 = true ∧ (op [(K.SCHED_STATE 15, 4)]).dev.get (K.SCHED_STATE 15) = 4 ∧
    grantedB (op []) ho 0x230F 21 1 0 0 = true ∧ (op []).dev.get (K.SCHED_STATE 15) ≠ 4 := by decide +kernel

theorem test_resolve : (after (.resolveCommit ho 15) (op [(K.DECISION 15, 3)])).dev.get (K.DECISION 15) = 4 ∧
    (after (.jobDamaged ho 15) (op [(K.JOB_DAMAGED 15, 1)])).dev.get (K.JOB_DAMAGED 15) = 1 ∧
    (after (.jobDamaged ho 15) (op [(K.JOB_DAMAGED 15, 1), (K.SCHED_STATE 15, 4)])).dev.get (K.JOB_DAMAGED 15) = 0 := by decide +kernel

/-- A core in use by partition 0. -/
def inUse (c : Nat) : List (Obj × Nat) := [(K.CORE_OWNER c, 0), (K.CORE_SLOT c, 0), (K.SLOT_CORE 0 0, c), (K.PART_STATE 0, 1)]

/-- A core whose depth is not RUN. -/
def deep63 (w : Nat) : State := op [(K.PWR_MODE 63, 2), (K.VOTE_FW 63, 4), (K.PWR_WAIT 63, w)]

theorem wit_CoreWrites : grantedB (op []) ho (0x3016 + 0x40 * 63) 3 1 1 0 = true ∧ (op []).dev.coreState 63 ≠ 2 ∧
    grantedB (free (op (inUse 63))) ho (0x3016 + 0x40 * 63) 3 1 1 0 = true ∧ (free (op (inUse 63))).dev.coreState 63 = 2 ∧
    grantedB (deep63 0) ho (0x301B + 0x40 * 63) 2 1 1 0 = true ∧ (deep63 0).dev.domDepth 63 ≠ 0 ∧ (deep63 0).dev.get (K.PWR_WAIT 63) ≠ 2 ∧
    grantedB (op []) ho (0x301B + 0x40 * 63) 2 1 1 0 = true ∧ (op []).dev.domDepth 63 = 0 ∧
    grantedB (deep63 2) ho (0x301B + 0x40 * 63) 2 1 0 0 = true ∧ (deep63 2).dev.get (K.PWR_WAIT 63) = 2 ∧
    grantedB (op []) ho (0x301C + 0x40 * 63) 4 1 3 0 = true ∧ grantedB (op []) ho (0x301D + 0x40 * 63) 1 1 31 0 = true ∧
    grantedB (free (op (inUse 63))) ho (0x301D + 0x40 * 63) 1 1 31 0 = true := by decide +kernel

theorem test_zeroise : Map.get ((after (.zeroise ho 3) (dv (op []) (fun (d : Dev) => d.setCore 3 { Core.init with sp := [(5, 9)] }))).dev.core 3).sp 0 5 = 0 ∧
    (after (.zeroise ho 3) (op [])).dev.get (K.ZEROISE_COUNT 3) = 1 ∧ (after (.coreClass ho 3 1) (op [])).dev.get (K.CAND_COUNT 3) = 1 := by
  decide +kernel

/-- A device record of the spec's own example (R479). -/
theorem test_core_class_record :
    ((after (.coreClass ho 41 3) (op [(K.CORE_OWNER 41, 2), (K.CORE_SLOT 41, 9)])).dev.log.recs.head?).map ErrRec.syndrome = some 0x73092902 := by
  decide +kernel

theorem wit_DeviceWrites : grantedB (op []) ho 0x8020 1 1 63 0 = true ∧
    grantedB (op [(K.PATTERN_OK, 1)]) ho 0x8020 2 1 63 0 = true ∧ (op [(K.PATTERN_OK, 1)]).dev.scanQ.contains 63 = false ∧
    (op [(K.PATTERN_OK, 1)]).dev.scanning 63 = false ∧ grantedB (on []) hk 0x8020 5 2 0x5003 63 = true ∧
    grantedB (op [(K.LNK_STATE 63, 6)]) ho 0x503F 2 1 1 0 = true ∧ (op [(K.LNK_STATE 63, 6)]).dev.get (K.LNK_STATE 63) = 6 ∧
    grantedB (op []) ho 0x503F 2 1 0 0 = true ∧ grantedB (op []) ho 0x7000 1 2 1200 0 = true ∧
    grantedB (op [(K.CTRL_MODE, 1)]) ho 0x7000 5 1 0 0 = true ∧ (op [(K.CTRL_MODE, 1)]).dev.get K.CTRL_MODE ≠ 0 ∧
    grantedB (op []) ho 0x5067 1 1 1 0 = true ∧ grantedB (op []) ho 0x9000 7 1 1 0 = true ∧
    (op []).dev.get K.SVN_MIN ≤ (op []).dev.get K.IMAGE_SVN ∧ grantedB (op [(K.SVN_MIN, 2), (K.IMAGE_SVN, 1)]) ho 0x9000 7 1 1 0 = true ∧
    (op [(K.SVN_MIN, 2), (K.IMAGE_SVN, 1)]).dev.get K.IMAGE_SVN < (op [(K.SVN_MIN, 2), (K.IMAGE_SVN, 1)]).dev.get K.SVN_MIN := by
  decide +kernel

theorem wit_DeviceWrites_time : grantedB (op []) ho 0x2000 8 8 (2 ^ 64 - 1) 0 = true ∧ (op []).dev.mayStep = true ∧ (op []).dev.get K.FT_ROLE ≠ 1 ∧
    grantedB (op [(K.FT_ROLE, 1)]) ho 0x2000 8 8 7 0 = true ∧ (op [(K.FT_ROLE, 1)]).dev.mayStep = true ∧
    (op [(K.FT_ROLE, 1)]).dev.get K.FT_ROLE = 1 ∧ grantedB (op [(K.FT_STATE, 2)]) ho 0x2000 8 8 7 0 = true ∧
    (op [(K.FT_STATE, 2)]).dev.mayStep = false ∧ bit ((op []).dev.get K.CORE_PRESENT) 63 = true ∧ bit ((op []).dev.get K.FENCE_MASK) 63 = false ∧
    (op []).dev.swOf 63 = none ∧ (op []).dev.get (K.CORE_OWNER 63) = 0xFF ∧ (op []).dev.scanning 63 = false := by decide +kernel

theorem test_fence : (after (.fenceReq ho 63) (op [])).dev.get K.FENCE_MASK = 2 ^ 63 ∧
    (after (.fenceReq ho 63) (op [])).dev.coreState 63 = 3 ∧ (after (.svnCommit ho) (op [(K.SVN_MIN, 2), (K.IMAGE_SVN, 1)])).dev.get K.SVN_MIN = 2 ∧
    (after (.ftSet ho 77) (op [])).dev.now = 77 ∧ (after (.ftSet ho 77) (op [(K.FT_STATE, 2)])).dev.now = 0 := by decide +kernel

/-- The state with the debug and sanitisation state of boot and security given. -/
def secure (s : State) (f : Sec → Sec) : State := { s with sec := f s.sec }

theorem wit_DebugAndSanitise : finds (op []) opREAD (oreq 0x9000 12 []) 0 false (fun _ => true) = true ∧
    grantedB (op []) ho 0x9000 13 1 2 0 = true ∧ grantedB (op []) ho 0x9000 13 1 0 0 = true ∧
    grantedB (op []) ho 0x9000 14 64 (2 ^ 512 - 1) 0 = true ∧ (op []).sec.dbgWant = 0 ∧
    grantedB (secure (op []) (fun (x : Sec) => { x with dbgWant := 1 })) ho 0x9000 14 64 5 0 = true ∧
    grantedB (secure (op []) (fun (x : Sec) => { x with dbgWant := 2 })) ho 0x9000 14 64 5 0 = true ∧ (op []).dev.get K.DEBUG_KEY = 0 ∧
    grantedB (op []) ho 0x9000 15 1 0x5A 0 = true ∧
    (secure (op []) (fun (x : Sec) => { x with pendingFull := true, sanitising := true })).sec.pendingFull = true ∧
    (op []).dev.allReleased = true ∧ (op [(K.PART_STATE 15, 1)]).dev.allReleased = false := by decide +kernel

theorem test_debug_levels : (after .debugFullEnter { op [] with sec := { Sec.init with pendingFull := true } }).dev.get K.DEBUG_LEVEL = 2 ∧
    (after (.dbgLock ho) (op [(K.DEBUG_LEVEL, 2)])).dev.get K.DEBUG_LEVEL = 0 ∧
    (after (.sanitise ho 0x5A) { op [] with sec := { Sec.init with flash := [(0x11FFFF, 0), (0x120000, 0), (0x130000, 0)] } }).sec.flash =
      [(0x11FFFF, 0), (0x130000, 0)] := by decide +kernel

/-! ## Fabric time, power, upkeep -/

/-- A follower over link 5, its link UP, in the time state given. -/
def follower (st : Nat) : State :=
  atTick 1000 (on [(K.LNK_STATE 5, 3), (K.FT_UPSTREAM, 5), (K.FT_STATE, st)])

/-- A mark sent at tick 992, received at tick 1000: 8 ticks of flight, no offset but `x`. -/
def mark (x : Int) : Mark :=
  { mk0 with tx := 256 * 992, rx := 256 * 1000, echo := 256 * 984, echoHold := 0, echoValid := true, offset := x }

/-- The mark `x` comes to the follower in a time state: its header is taken, the estimate is the mark's offset. -/
def marks (s : State) (x : Int) : Bool :=
  (s.dev.controlIn 5 fl).1 && !s.stopped && decide (s.dev.get (K.LNK_STATE 5) = 3 ∧ s.dev.get K.FT_ROLE = 0 ∧ s.dev.get K.FT_UPSTREAM = 5 ∧
    (((mark x).rx : Int) - (mark x).echo - (mark x).echoHold) / 2 + toSigned 16 (s.dev.get (K.LNK_ASYM 5)) = 8 * 256 ∧
    (mark x).offset + (((mark x).rx : Int) - ((mark x).tx + 8 * 256)) = x ∧ -(2 : Int) ^ 31 ≤ x ∧ x < 2 ^ 31)

theorem wit_FabricTime : marks (follower 0) 0 = true ∧ marks (follower 2) 512 = true ∧ marks (follower 3) (-512) = true ∧
    marks (dv (follower 1) (fun (d : Dev) => { d with ft := { d.ft with stepped := true } })) 64 = true ∧ (mark 0).depth < 15 ∧
    (mark 0).reservedZero = true ∧ (mark 0).source = true ∧ (mark 0).echoValid = true ∧ 15 ≤ { mark 0 with depth := 15 }.depth ∧
    { mark 0 with reservedZero := false }.reservedZero = false ∧ { mark 0 with source := false }.source = false ∧
    (on []).dev.get (K.LNK_STATE 5) ≠ 3 ∧ (follower 1).dev.get K.FT_STATE = 1 ∧ (follower 3).dev.get K.FT_STATE = 3 := by decide +kernel

theorem wit_FabricTime_events : ((follower 2).dev.link 5).markDue ≤ (follower 2).dev.now ∧ (follower 2).dev.get K.FT_STATE = 2 ∧
    (follower 2).dev.get K.FT_ROLE = 0 ∧ (follower 2).dev.ft.mark + 192 ≤ (follower 2).dev.now ∧
    (atTick 191 (follower 2)).dev.ft.mark + 192 > (atTick 191 (follower 2)).dev.now ∧
    (on [(K.FT_ROLE, 1), (K.FT_STATE, 2)]).dev.get K.FT_ROLE = 1 ∧ (on [(K.FT_ROLE, 1), (K.FT_STATE, 2)]).dev.get K.FT_STATE = 2 ∧
    (atTick 1875000 (follower 3)).dev.ft.since + (atTick 1875000 (follower 3)).dev.get K.FT_HOLDOVER_LIMIT ≤ (atTick 1875000 (follower 3)).dev.now ∧
    (atTick 62500001 (on [(K.FT_ROLE, 1)])).dev.ppsError 0 = 256 ∧ (atTick 62500001 (on [(K.FT_ROLE, 1)])).dev.ft.pend = none := by decide +kernel

theorem test_mark_bounds : (after (.timemark 5 ⟨fl, mark 512⟩) (follower 2)).dev.get K.FT_STATE = 2 ∧
    (after (.timemark 5 ⟨fl, mark 513⟩) (follower 2)).dev.get K.FT_STATE = 4 ∧
    (after (.timemark 5 ⟨fl, mark (-512)⟩) (follower 3)).dev.get K.FT_STATE = 2 ∧
    (after (.timemark 5 ⟨fl, mark 0⟩) (follower 0)).dev.get K.FT_DEPTH = 1 := by decide +kernel

theorem test_mark_timeout : (after .markTimeout (atTick 192 (follower 2))).dev.get K.FT_STATE = 3 ∧
    (after .markTimeout (atTick 191 (follower 2))).dev.get K.FT_STATE = 2 ∧
    (after .holdoverExpire (atTick 1874999 (follower 3))).dev.get K.FT_STATE = 3 ∧
    (after .ftrefLoss (on [(K.FT_ROLE, 1), (K.FT_STATE, 2)])).dev.get K.FT_STATE = 3 := by decide +kernel

/-- A root of role 1 with FT_SET waiting, at a tick off the second. -/
def root (now armed : Nat) : State :=
  dv (atTick now (on [(K.FT_ROLE, 1), (K.SCHED_STATE 15, armed)])) (fun (d : Dev) => { d with ft := { d.ft with pend := some 7 } })

theorem wit_PulseEdges : (root 62500001 2).stopped = false ∧ (root 62500001 2).dev.get K.FT_ROLE = 1 ∧ (root 62500001 2).dev.ft.pend = some 7 ∧
    (root 62500001 2).dev.anyArmed = true ∧ (root 62500001 2).dev.ppsError 0 = 256 ∧ (root 62499998 2).dev.ppsError 0 = -512 ∧
    (on [(K.FT_ROLE, 1)]).dev.ft.pend = none ∧ (root 62500001 0).dev.mayStep = true ∧ (root 62500001 0).dev.ft.pend = some 7 := by decide +kernel

theorem test_pulse : (after (.ftppsEdge 0) (root 62500001 2)).dev.now = 62500001 ∧ (after (.ftppsEdge 0) (root 62500001 0)).dev.now = 7 ∧
    (after (.ftppsEdge 0) (root 62499998 2)).dev.log.recs.length = 1 ∧ (after (.ftppsEdge 0) (root 62500001 2)).dev.log.recs = [] := by
  decide +kernel

theorem wit_Metering : (atTick 62500 (on [])).dev.now % 62500 = 0 ∧ (atTick 62499 (on [])).dev.now % 62500 ≠ 0 ∧
    (atTick 62500 (on [])).dev.get K.WIN_TICK ≠ (atTick 62500 (on [])).dev.now ∧
    7000 = ((List.range 7).map (fun i => (List.replicate 7 1000).getD i 0)).sum := by decide +kernel

theorem test_ledger_disagrees :
    (after (.ledgerWindowEnd (List.replicate 7 1000) 8051 []) (atTick 62500 (on [(K.DISAGREE_RUN, 7)]))).dev.get K.CTRL_MODE = 1 := by
  decide +kernel

/-- Quadrant 3's voltage ramps to OP3 until tick 9. -/
def ramping (t : Nat) : State := atTick t (dv (on []) (fun (d : Dev) => d.setPwr { d.pwr with ramp := [(3, 4)], rampAt := [(3, 9)] }))
/-- A detector of quadrant 3 has read low at tick 0. -/
def dropped (t : Nat) : State := atTick t (after (.droopDetect 3) (on [(K.OP_NOW 3, 2)]))

theorem wit_PowerLimits : (atTick 25 (on [])).dev.now % 25 = 0 ∧ (atTick 24 (on [])).dev.now % 25 ≠ 0 ∧
    100 * 0 < (on []).dev.get K.GUARD_PCT * (on []).dev.get K.PEAK_W ∧ (on []).dev.get K.GUARD_PCT * (on []).dev.get K.PEAK_W < 100 * 4000 ∧
    (on [(K.GATE, 2 ^ 64 - 1)]).dev.get K.GATE ||| (on []).dev.get K.CORE_PRESENT = (on [(K.GATE, 2 ^ 64 - 1)]).dev.get K.GATE ∧
    (on [(K.OP_NOW 3, 2)]).dev.flag (K.DROOP_GUARD 3) = false ∧ 16 * (on [(K.OP_NOW 3, 2)]).dev.get (K.FLOOR_MHZ 3) ≤ 15 * opMHz 2 ∧
    3 ∉ (on [(K.OP_NOW 3, 2)]).dev.pwr.droop ∧ (on [(K.DROOP_GUARD 3, 1)]).dev.flag (K.DROOP_GUARD 3) = true ∧
    15 * opMHz ((on []).dev.get (K.OP_NOW 3)) < 16 * (on []).dev.get (K.FLOOR_MHZ 3) ∧ 3 ∉ ([3] : List Nat).erase 3 ∧
    (on []).dev.get (K.TRIM_MV 3) < 40 ∧ Map.get (on []).dev.pwr.trimAt 0 3 = 0 ∧ 40 ≤ (on [(K.TRIM_MV 3, 40)]).dev.get (K.TRIM_MV 3) ∧
    (let s := dv (on []) (fun (d : Dev) => d.setPwr { d.pwr with trimAt := [(3, 1)] })
     decide (Map.get s.dev.pwr.trimAt 0 3 ≠ 0 ∧ s.dev.now < Map.get s.dev.pwr.trimAt 0 3 - 1 + 6250000)) = true ∧
    Map.get (dv (on []) (fun (d : Dev) => d.setPwr { d.pwr with ramp := [(3, 4)] })).dev.pwr.ramp 0 3 = 3 + 1 ∧
    Map.get (ramping 9).dev.pwr.rampAt 0 3 ≤ (ramping 9).dev.now ∧ (ramping 8).dev.now < Map.get (ramping 8).dev.pwr.rampAt 0 3 ∧
    (dropped 62).dev.now < Map.get (dropped 62).dev.pwr.droopAt 0 3 ∧ Map.get (dropped 63).dev.pwr.droopAt 0 3 ≤ (dropped 63).dev.now := by
  decide +kernel

theorem test_peak_gates : (after (.peakEvaluate 4000 4000) (atTick 25 (on []))).dev.get K.GATE = 2 ^ 64 - 1 ∧
    (after (.peakEvaluate 0 0) (atTick 25 (on [(K.GATE, 5)]))).dev.get K.GATE = 0 ∧
    (after (.peakEvaluate 4000 4000) (atTick 24 (on []))).dev.get K.GATE = 0 := by decide +kernel

theorem test_ramp_takes_its_time : (after (.opRampDone 3) (ramping 9)).dev.get (K.OP_NOW 3) = 3 ∧ (after (.opRampDone 3) (ramping 8)).dev.get (K.OP_NOW 3) = 0 ∧
    (after (.segmentBegin 0) (on [(K.OP_NOW 3, 1), (K.V_SET_MV 3, 650)])).dev.pwr.rampAt = [(3, 125)] ∧
    (after (.droopRelease 3) (dropped 62)).dev.pwr.droop = [3] ∧ (after (.droopRelease 3) (dropped 63)).dev.pwr.droop = [] := by decide +kernel

theorem test_slack_trims : (after (.slackShort 3) (on [(K.TRIM_MV 3, 38)])).dev.get (K.TRIM_MV 3) = 40 ∧
    (after (.slackShort 3) (on [(K.TRIM_MV 3, 40), (K.OP_MAX 3, 6)])).dev.get (K.OP_MAX 3) = 5 := by decide +kernel

/-- Entry of a domain into a state, with the wake events that came. -/
def entering (x st : Nat) (wake : List Nat) : State :=
  dv (on []) (fun (d : Dev) => d.setPwr { d.pwr with entering := [(x, st + 1)], wakeReq := wake })
/-- A domain in a state, with its return under way. -/
def waking (x st t now : Nat) : State :=
  atTick now (dv (on [(K.DOM_STATE x, st)]) (fun (d : Dev) => d.setPwr { d.pwr with waking := [(x, t)] }))

/-- A core that is to enter a deeper state. -/
def sinking : State := on [(K.PWR_WAIT 63, 1), (K.PWR_MODE 63, 4), (K.VOTE_FW 63, 4)]

theorem wit_PowerDomains : sinking.dev.coreQuiet 63 = true ∧ sinking.dev.get (K.PWR_WAIT 63) = 1 ∧
    sinking.dev.get (K.DOM_STATE 63) < sinking.dev.domDepth 63 ∧ Map.get sinking.dev.pwr.waking 0 63 = 0 ∧
    (on [(K.DOM_TARGET 75, 4), (K.VOTE_FW 75, 4)]).dev.get (K.DOM_STATE 75) < (on [(K.DOM_TARGET 75, 4), (K.VOTE_FW 75, 4)]).dev.domDepth 75 ∧
    Map.get (on []).dev.pwr.entering 0 75 = 0 ∧ Map.get (entering 63 3 []).dev.pwr.entering 0 63 = 3 + 1 ∧ 63 ∉ (entering 63 3 []).dev.pwr.wakeReq ∧
    Map.get (entering 75 4 []).dev.pwr.entering 0 75 = 4 + 1 ∧ (entering 75 4 []).dev.portIdle 7 = true ∧
    63 ∈ (entering 63 3 [63]).dev.pwr.wakeReq ∧ Map.get (entering 63 3 [63]).dev.pwr.entering 0 63 = 3 + 1 ∧
    (on [(K.DOM_STATE 67, 4)]).dev.domDepth 67 < (on [(K.DOM_STATE 67, 4)]).dev.get (K.DOM_STATE 67) ∧
    (on [(K.DOM_STATE 67, 4)]).dev.get (K.DOM_STATE 76) ≠ 4 ∧ (on [(K.DOM_STATE 75, 2)]).dev.get (K.DOM_STATE 75) ≠ 4 ∧
    (on [(K.DOM_STATE 75, 2)]).dev.get (K.DOM_STATE 75) ≠ 0 ∧
    Map.get (waking 63 3 9 9).dev.pwr.waking 0 63 ≤ (waking 63 3 9 9).dev.now ∧ Map.get (waking 63 3 9 9).dev.pwr.waking 0 63 ≠ 0 ∧
    Map.get (waking 67 3 9 9).dev.pwr.waking 0 67 ≠ 0 ∧ Map.get (waking 67 3 9 9).dev.pwr.waking 0 67 ≤ (waking 67 3 9 9).dev.now ∧
    3 ≤ (waking 67 3 9 9).dev.get (K.DOM_STATE 67) := by decide +kernel

theorem wit_PowerDomains_links : ∀ l, 68 + l / 8 = 75 → (entering 75 4 []).dev.foreignLoad l := by
  intro l _
  exact foreignLoad_of ⟨rfl, rfl, rfl⟩

theorem test_power_entry : (after (.powerEntryComplete 63) (entering 63 3 [])).dev.get (K.DOM_STATE 63) = 3 ∧
    (after (.domainReturnDone 67 []) (waking 67 3 9 9)).dev.get (K.DOM_STATE 67) = 0 ∧
    (after (.domainReturnDone 67 []) (waking 67 3 9 8)).dev.get (K.DOM_STATE 67) = 3 ∧
    (after (.powerEntryComplete 76) (entering 76 4 [])).stopped = true := by decide +kernel

/-- A device with a locked page of quadrant 3's accumulation area. -/
def paged : State := on [(K.SC_ACC_PAGES 3, 1)]

theorem wit_Scrubbing : bit ((on []).dev.get K.CORE_PRESENT) 63 = true ∧ (on []).dev.flag (K.SCRUB_ENABLE 63) = true ∧
    (on []).dev.get (K.DOM_STATE 63) < 2 ∧ (on []).dev.zeroising 63 = false ∧ Map.get ((on []).dev.core 63).scrubLine 0 3 + 1 < spSize 3 / 4096 ∧
    Map.get ((on []).dev.core 63).scrubAt 0 3 ≤ (on []).dev.cyclesEnd (quadOf 63) ∧ ((on []).dev.core 63).poison = [] ∧
    ((on []).dev.core 63).flaw = [] ∧ ((on []).dev.core 63).crcOff = [] ∧
    (dv (on []) (fun (d : Dev) => d.setCore 63 { Core.init with scrubAt := [(3, 999)] })).dev.cyclesEnd (quadOf 63) < 999 ∧
    Map.get ({ Core.init with resident := [(0, true)] } : Core).resident false (7 / 256) = true ∧
    (on [(K.CH_OWNER 19 15, 15)]).dev.owner 319 < 16 ∧ 16 ≤ (on []).dev.owner 319 ∧ Finding.clean ≠ .uncorrectable ∧
    paged.dev.cacheWay 3 (320 * chLines + 5) = none ∧ 5 / 16384 < paged.dev.get (K.SC_ACC_PAGES 3) ∧ paged.dev.accLocking 3 = false := by decide +kernel

theorem test_scrub : ((after (.scrubRead 63 1 7 .uncorrectable) (on [])).dev.core 63).bad 1 56 = true ∧
    (after (.scrubRead 63 1 7 .corrected) (on [])).dev.get (K.SP_CORRECTED 63) = 1 ∧
    Map.get ((after (.scrubRead 63 1 7 .clean) (on [])).dev.core 63).scrubLine 0 1 = 1 ∧
    (after (.patrolScrub 319 5 .uncorrectable) (on [(K.CH_OWNER 19 15, 15)])).dev.get (K.HBM_UNCORR 19) = 1 := by
  decide +kernel

/-- Memory with a way draining, an area locking, a request waiting for a tracker, a cached dirty line, a channel zeroising. -/
def busyMem : State := dv (on [(K.HBM_STATE 19, 1), (K.TRK_QUOTA 3 255, 1)]) (fun (d : Dev) => { d with mem := { d.mem with
  drain := [(0, 16 * 3 + 15), (1, 16 * 3 + 14), (2, 16 * 3)], trkWait := [(3, [4096])],
  tags := [(3 * 2 ^ 20 + setOf 77 * 16 + 15, { CLine.none with line := 77, mask := 1, dirty := true })] } })

theorem wit_StacksAndDrains : busyMem.dev.get (K.HBM_STATE 19) = 1 ∧ busyMem.dev.rfmDue 19 = [] ∧ Map.get busyMem.dev.mem.trkWait [] 3 = 4096 :: [] ∧
    busyMem.dev.trkFull 3 (if 4096 / 4096 ≤ 4 then busyMem.dev.get (K.CORE_OWNER (4096 / 32 % 128)) else 4096 % 32) = false ∧
    (0, 16 * 3 + 15) ∈ busyMem.dev.mem.drain ∧ busyMem.dev.accLocking 3 = true ∧ busyMem.dev.mem.recWait = [] ∧ busyMem.dev.cacheWay 3 77 = some 15 ∧
    (on [(K.CH_OWNER 19 15, 0xFD)]).dev.owner 319 = 0xFD ∧ (on []).dev.owner 319 ≠ 0xFD := by decide +kernel

/-- Whatever threshold a stack reports, some count of activations reaches it; and no refresh is due before its interval. -/
theorem wit_StacksAndDrains_refresh :
    ({ Dev.init with mem := { Mem.init with acts := [(19 * 2048, Config.rfmThreshold 19)] } } : Dev).rfmDue 19 = [19 * 2048] ∧
    Map.get Mem.init.refreshed 0 19 + Dev.init.refreshEvery 19 ≤ ({ Dev.init with now := Dev.init.refreshEvery 19 } : Dev).now := by
  constructor
  · simp [Dev.rfmDue]
  · show 0 + Dev.init.refreshEvery 19 ≤ Dev.init.refreshEvery 19
    omega

theorem test_drains : (after (.wayDrained 3 15) busyMem).dev.get (K.SC_WRITEBACKS 3) = 1 ∧ (after (.wayDrained 3 15) busyMem).dev.mem.tags = [] ∧
    (after (.accAreaLocked 3) busyMem).dev.accLocking 3 = false ∧ (after (.trackerAdmit 3) busyMem).dev.mem.trkWait = [] ∧
    (after (.channelZeroised 319) (on [(K.CH_OWNER 19 15, 0xFD)])).dev.owner 319 = 0xFF := by decide +kernel

/-- A stain of slot 15 with a kind, from tick 0 to 100. -/
def stain (kind p : Nat) : List (Obj × Nat) :=
  [(K.STAIN_ARM 15, 1), (K.STAIN_PERMIT, 65535), (K.STAIN_KIND 15, kind), (K.STAIN_START_TICK 15, 0), (K.STAIN_STOP_TICK 15, 100), (K.STAIN_PARTITION 15, p),
   (K.STAIN_PERIOD 15, 10)]

theorem wit_PartitionEvents : ((part (on []) 15 (fun (q : Part) => { q with creating := true })).dev.part 15).creating = true ∧
    ((on []).dev.part 15).creating = false ∧ (on [(K.PART_STATE 15, 2)]).dev.get (K.PART_STATE 15) = 2 ∧
    ((on [(K.PART_STATE 15, 2)]).dev.part 15).releasing = [] ∧
    ((part (on []) 15 (fun (q : Part) => { q with releasing := [3] })).dev.part 15).releasing ≠ [] ∧
    (atTick 100 (on (stain 1 0))).dev.flag (K.STAIN_ARM 15) = true ∧ (atTick 100 (on (stain 1 0))).dev.get (K.STAIN_STOP_TICK 15) ≤ 100 ∧
    (on (stain 1 0)).dev.get (K.STAIN_KIND 15) ≠ 7 ∧ (on (stain 1 0)).dev.now < (on (stain 1 0)).dev.get (K.STAIN_STOP_TICK 15) ∧
    (let s := atTick 20 (on (stain 8 0 ++ inUse 63))
     s.dev.stainActs 15 8 && decide ((s.dev.now - s.dev.get (K.STAIN_START_TICK 15)) % max 1 (s.dev.get (K.STAIN_PERIOD 15)) = 0) &&
       (s.dev.slotCores 0).contains (63, 0) && (s.dev.swOf 63).isNone) = true := by decide +kernel

theorem test_partition_events :
    (after (.partitionCreated 15) (part (on []) 15 (fun (q : Part) => { q with creating := true }))).dev.get (K.PART_STATE 15) = 1 ∧
    (after (.partitionReleased 15) (on [(K.PART_STATE 15, 2)])).dev.get (K.PART_STATE 15) = 0 ∧
    (after (.stainStop 15) (atTick 99 (on (stain 1 0)))).dev.get (K.STAIN_ARM 15) = 1 ∧
    (after (.stainStop 15) (atTick 100 (on (stain 1 0)))).dev.get (K.STAIN_ARM 15) = 0 ∧
    ((after (.preemptForce 15) (atTick 20 (on (stain 8 0 ++ inUse 63)))).dev.swOf 63).isSome = true := by decide +kernel

/-- A core being scanned since tick 0. -/
def scanned (now : Nat) : State := atTick now (on [(K.SCAN_STATE 63, 2), (K.CORE_OWNER 63, 0xFE)])
/-- A core with a switch. -/
def switching (s : State) (c : Nat) (w : Switch) : State := dv s (fun (d : Dev) => d.setSw c (some w))
/-- A switch from slot 5 of partition 15 to nothing. -/
def sw0 : Switch := { out := some (15, 5), inn := none, back := false, req := 0, started := false, saved := false, link := 0 }

/-- A free core that waits for its scan. -/
def toScan : State := dv (free (on [(K.PATTERN_OK, 1)])) (fun (d : Dev) => { d with scanQ := [63] })
/-- A pass in flight on core 63. -/
def passing (l : List (Obj × Nat)) : State := dv (on l) (fun (d : Dev) => d.setCore 63 { Core.init with passes :=
  [{ fl := { index := 1, op := 0x10, tick := 0, sig := 255, status := 0, space := 2, offset := 0, gen := 0, late := false, start := 0, cost := 0,
             grans := [], outs := [], attempt := 0 }, gang := 0, rate := 2, acc := false, tfeed := false, tdrain := false, drain := false, mmax := 1,
     dur := 9, done := 0, probs := [] }] })

theorem wit_ScansAndStops : 63 ∈ toScan.dev.scanQ ∧ toScan.dev.flag K.PATTERN_OK = true ∧ toScan.dev.swOf 63 = none ∧
    toScan.dev.coreState 63 = 1 ∧ (List.range 64).any toScan.dev.scanning = false ∧ 62 ∉ toScan.dev.scanQ ∧
    (scanned 14375000).dev.scanning 63 = true ∧ (scanned 14375000).dev.scanAt + 14375000 ≤ (scanned 14375000).dev.now ∧
    (∀ p, p < 16 → (scanned 14375000).dev.beWaits p = false) ∧ (scanned 14375000).dev.get (K.CORE_OWNER 63) = 0xFE ∧
    bit ((scanned 14375000).dev.get K.CORE_PRESENT) 63 = true ∧ (scanned 14375000).dev.swOf 63 = none ∧
    (switching (scanned 0) 63 { sw0 with inn := some (0, 0) }).dev.swOf 63 = some { sw0 with inn := some (0, 0) } ∧
    (atTick 62500000 (on [(K.SCAN_PERIOD, 1)])).dev.scanFrom + 62500000 * (on [(K.SCAN_PERIOD, 1)]).dev.get K.SCAN_PERIOD ≤ 62500000 ∧
    ((passing []).dev.core 63).passes ≠ [] ∧ (passing []).dev.get (K.REPRO_COUNT 63) = 0 ∧
    (let s := passing [(K.REPRO_COUNT 63, 1)]
     decide (1 ≤ s.dev.get (K.REPRO_COUNT 63) ∧ s.dev.get (K.REPRO_COUNT 63) < 255 ∧ s.dev.get (K.CORE_OWNER 63) = 0xFF ∧
       bit (s.dev.get K.CORE_PRESENT) 63 = true ∧ bit (s.dev.get K.FENCE_MASK) 63 = false ∧ s.dev.scanning 63 = false) && (s.dev.swOf 63).isNone) = true := by
  decide +kernel

theorem test_interlock : ((after (.interlockStop 63 5) (passing [])).dev.core 63).mxStop = true ∧
    (after (.interlockStop 63 5) (passing [])).dev.scanQ = [63] ∧ ((after (.interlockStop 63 5) (passing [])).dev.core 63).passes = [] ∧
    (after (.interlockStop 63 1) (passing [(K.REPRO_COUNT 63, 1)])).dev.get K.FENCE_MASK = 2 ^ 63 := by decide +kernel

theorem test_scans : (after (.scanComplete 63 false) (scanned 14375000)).dev.get K.FENCE_MASK = 2 ^ 63 ∧
    (after (.scanComplete 63 true) (scanned 14375000)).dev.get (K.SCAN_STATE 63) = 3 ∧
    (after (.scanComplete 63 true) (scanned 14374999)).dev.get (K.SCAN_STATE 63) = 2 ∧
    (after (.scanAbandon 63) (switching (scanned 0) 63 { sw0 with inn := some (0, 0) })).dev.scanQ = [63] ∧
    (after .scanPeriodExpire (atTick 62500000 (on [(K.SCAN_PERIOD, 1)]))).dev.scanQ.length = 64 := by decide +kernel

/-- Slot 5 of partition 15 on core 63, with a switch. -/
def leaving (w : Switch) : State :=
  switching (on [(K.CORE_OWNER 63, 15), (K.CORE_SLOT 63, 5), (K.SLOT_CORE 15 5, 63)]) 63 w
/-- A best-effort partition that waits for one core, core 63 its mask. -/
def waits : State := part (free (on [(K.PART_STATE 15, 1), (K.PART_CLASS 15, 1), (K.SCHED_STATE 15, 2), (K.CORE_MASK 15, 2 ^ 63)])) 15
  (fun (q : Part) => { q with sched := { q.sched with slots := 1 } })

theorem wit_Switches : (leaving sw0).dev.swOf 63 = some sw0 ∧ sw0.started = false ∧ sw0.saved = false ∧ sw0.out = some (15, 5) ∧
    (leaving sw0).dev.refsOut 63 = false ∧ ((leaving sw0).dev.core 63).passes = [] ∧ ((leaving sw0).dev.core 63).vx = none ∧
    (leaving sw0).dev.flag (K.FORERUNNER_COMPAT 15) = false ∧
    { sw0 with started := true }.req + (atTick (2 ^ 40) (leaving { sw0 with started := true })).dev.get (K.SW_LINK_LIMIT 15) ≤ 2 ^ 40 ∧
    (leaving { sw0 with saved := true }).dev.scanning 63 = false ∧ { sw0 with saved := true }.inn = none ∧ { sw0 with saved := true }.back = false ∧
    (∀ q, q < 16 → (leaving { sw0 with saved := true }).dev.beWaits q = false) ∧
    (∀ q, q < 16 → (switching (on []) 63 { sw0 with saved := true }).dev.get (K.CORE_OWNER 63) = q →
      (switching (on []) 63 { sw0 with saved := true }).dev.get (K.CORE_SLOT 63) = 0xFF) ∧
    { sw0 with out := none, inn := some (15, 5), saved := true }.out = none := by decide +kernel

/-- A best-effort partition resident on core 63, its quantum over, and another that waits for that core. -/
def crowded : State :=
  atTick (2 ^ 40) (part (part (free (on [(K.PART_STATE 15, 1), (K.PART_CLASS 15, 1), (K.SCHED_STATE 15, 3), (K.CORE_MASK 15, 2 ^ 63), (K.CORE_OWNER 63, 15),
    (K.CORE_SLOT 63, 0), (K.SLOT_CORE 15 0, 63), (K.PART_STATE 3, 1), (K.PART_CLASS 3, 1), (K.SCHED_STATE 3, 2), (K.CORE_MASK 3, 2 ^ 63)])) 15
    (fun (q : Part) => { q with sched := { q.sched with slots := 1 } })) 3 (fun (q : Part) => { q with sched := { q.sched with slots := 1 } }))

theorem wit_Switches_admission : waits.dev.beWaits 15 = true ∧ waits.dev.fits 15 [] = true ∧
    waits.dev.rotation.find? (fun q => waits.dev.beWaits q && waits.dev.fits q []) = some 15 ∧ (waits.dev.sched 15).slots = 1 ∧
    waits.dev.flag (K.FORERUNNER_COMPAT 15) = false ∧ (on []).dev.beWaits 15 = false ∧
    crowded.dev.get (K.PART_CLASS 15) = 1 ∧ crowded.dev.allResident 15 = true ∧ crowded.dev.slotCores 15 = [(63, 0)] ∧
    (crowded.dev.part 15).admitted + crowded.dev.get K.BE_QUANTUM ≤ crowded.dev.now ∧ crowded.dev.beWaits 3 = true ∧ crowded.dev.fits 3 [] = false ∧
    crowded.dev.fits 3 ((crowded.dev.slotCores 15).map Prod.fst) = true := by decide +kernel

theorem test_switches : ((after (.switchRequest 63) (leaving sw0)).dev.swOf 63).map Switch.saved = some true ∧
    (after (.switchDone 63) (leaving { sw0 with started := true, saved := true })).dev.get (K.PART_SWITCHES 15) = 1 ∧
    (after (.switchDone 63) (leaving { sw0 with out := none, inn := some (15, 5), started := true, saved := true })).dev.get (K.CORE_SLOT 63) = 5 ∧
    (after (.beAdmission 15) waits).dev.get (K.SLOT_CORE 15 0) = 63 := by decide +kernel

/-! ## Links -/

/-- Link 63 in a state, with more objects. -/
def lk (st : Nat) (l : List (Obj × Nat)) (f : Link → Link) : State :=
  dv (on ([(K.LNK_STATE 63, st), (K.DEVICE_NUMBER, 0), (K.NUM_ASSIGNED, 1)] ++ l)) (fun (d : Dev) => d.setLink 63 (f (d.link 63)))

/-- A VC2 message. -/
def msg2 (bs : List Nat) : Msg := { vc := 2, dest := 1, src := 0, part := 3, priv := false, id := 9, payload := bs }
/-- A flit of it, numbered, with its CRC. -/
def dataFlit (seq : Nat) : Flit :=
  let f := { fl with ftype := 1, vc := 2, last := true, seq := seq, ack := 4095, len := 2, src := 1, part := 3, msgid := 9, payload := [7, 8] }
  { f with crc := flitSum f }
/-- A flit sent and not acknowledged. -/
def sent0 (tries last : Nat) : Sent := { flit := dataFlit 0, msg := { msg2 [7, 8] with src := 1 }, tries := tries, last := last }

theorem wit_LinkStates : (on []).dev.portOn 63 = true ∧ (on []).dev.flag (K.LNK_ENABLE 63) = true ∧ (on []).dev.get (K.LNK_STATE 63) = 0 ∧
    (lk 4 [] (fun (k : Link) => { k with offered := some ng })).dev.get (K.LNK_STATE 63) = 4 ∧
    ((atTick 62500000 (lk 5 [] id)).dev.link 63).trainAt + 62500000 ≤ (atTick 62500000 (lk 5 [] id)).dev.now ∧
    (on [(K.LNK_ENABLE 63, 0)]).dev.flag (K.LNK_ENABLE 63) = false ∧
    ((atTick 625000 (lk 1 [] id)).dev.link 63).trainAt + 625000 ≤ (atTick 625000 (lk 1 [] id)).dev.now ∧
    (lk 3 [(K.DOM_STATE 75, 2)] id).dev.timePath 63 = false ∧ (lk 3 [(K.DOM_STATE 75, 2)] id).dev.portSleeps 63 = true ∧
    ((lk 3 [] id).dev.link 63).buf = [] ∧ ((lk 3 [] id).dev.link 63).queued = false ∧
    ((lk 3 [] (fun (k : Link) => { k with txq := [(2, [msg2 []])] })).dev.link 63).queued = true ∧
    (lk 3 [] (fun (k : Link) => { k with buf := [sent0 99 0] })).dev.get K.REPLAY_LIMIT ≤ 99 ∧
    (atTick 125 (lk 3 [] (fun (k : Link) => { k with buf := [sent0 99 0] }))).dev.replayDead
      ((lk 3 [] (fun (k : Link) => { k with buf := [sent0 99 0] })).dev.link 63) = true ∧
    (atTick 125 (lk 3 [] (fun (k : Link) => { k with buf := [sent0 0 0] }))).dev.replayDead
      ((lk 3 [] (fun (k : Link) => { k with buf := [sent0 0 0] })).dev.link 63) = false := by decide +kernel

theorem wit_LinkStates_groups :
    (let s := lk 1 [] (fun (k : Link) => { k with goodGroups := 64 })
     decide (s.dev.get (K.LNK_STATE 63) = 1) && decide (64 ≤ (s.dev.link 63).goodGroups) && s.dev.flag K.NUM_ASSIGNED && s.dev.portOn 63) = true ∧
    ((lk 1 [] id).dev.link 63).goodGroups < 64 ∧
    (let s := lk 1 [(K.NUM_ASSIGNED, 0), (K.CFG_NUMBER, 4095)] (fun (k : Link) => { k with goodGroups := 64 })
     !s.dev.flag K.NUM_ASSIGNED && decide (s.dev.get K.CFG_NUMBER ≠ 0xFFFF)) = true ∧
    ((lk 3 [] (fun (k : Link) => { k with badGroups := 4 })).dev.link 63).badGroups = 4 ∧ ((lk 3 [] id).dev.link 63).badGroups < 4 ∧
    ((lk 2 [] (fun (k : Link) => { k with badGroups := 4 })).dev.get (K.LNK_STATE 63)) = 2 ∧
    (∃ f ∈ ((atTick 125 (lk 3 [] (fun (k : Link) => { k with buf := [sent0 0 0] }))).dev.link 63).buf, f.last + 125 ≤ 125) ∧
    ((atTick 62500 (lk 3 [] (fun (k : Link) => { k with away := true }))).dev.link 63).upAt + 62500 ≤ 62500 := by decide +kernel

/-- A control flit that arrives whole leaves the link in a state. -/
def control (s : State) (P : Dev → Bool) : Bool := (s.dev.controlIn 63 fl).1 && P (s.dev.controlIn 63 fl).2

theorem wit_LinkStates_standby :
    control (lk 3 [] (fun (k : Link) => { k with txq := [(2, [msg2 []])] })) (fun (d : Dev) => (d.link 63).queued) = true ∧
    control (lk 3 [(K.DOM_STATE 75, 2)] id) (fun (d : Dev) => !(d.link 63).queued && !d.timePath 63 && decide (d.get (K.DOM_STATE 75) ≠ 0) &&
      (d.link 63).buf.isEmpty && decide ((d.link 63).standby ≠ 1)) = true ∧
    control (lk 3 [(K.DOM_STATE 75, 2)] (fun (k : Link) => { k with buf := [sent0 0 0], ack := 5 })) (fun (d : Dev) => !(d.link 63).queued &&
      !d.timePath 63 && decide (d.get (K.DOM_STATE 75) ≠ 0)) = true ∧
    control (lk 3 [] (fun (k : Link) => { k with standby := 1 })) (fun (d : Dev) => decide ((d.link 63).standby = 1) && !(d.link 63).queued) = true ∧
    control (atTick 126 (lk 3 [] (fun (k : Link) => { k with standby := 1 }))) (fun (d : Dev) => decide ((d.link 63).sbTick - 1 + 125 < d.now)) = true := by
  decide +kernel

theorem wit_foreignLoad : (lk 3 [] id).dev.foreignLoad 63 ∧ (atTick 625000 (lk 1 [] id)).dev.foreignLoad 63 :=
  ⟨foreignLoad_of (by decide +kernel), foreignLoad_of (by decide +kernel)⟩

theorem test_link_training : (after (.linkTrain 63) (on [])).dev.get (K.LNK_STATE 63) = 1 ∧
    (after (.trainingTimeout 63) (atTick 625000 (lk 1 [] (fun (k : Link) => { k with restarts := 2 })))).dev.get (K.LNK_STATE 63) = 5 ∧
    (after (.trainingTimeout 63) (atTick 625000 (lk 1 [] id))).dev.get (K.LNK_STATE 63) = 1 ∧
    (after (.failedRetry 63) (atTick 62499999 (lk 5 [] id))).dev.get (K.LNK_STATE 63) = 5 ∧
    (after (.linkFail 63 2) (atTick 125 (lk 3 [] id))).dev.get (K.LNK_STATE 63) = 5 ∧
    (after (.linkFail 63 2) (atTick 124 (lk 3 [] id))).dev.get (K.LNK_STATE 63) = 3 := by decide +kernel

theorem test_link_replays :
    ((after (.ackDeadlineExpire 63) (atTick 125 (lk 3 [] (fun (k : Link) => { k with buf := [sent0 0 0] })))).dev.link 63).replay = some 0 ∧
    (after (.routeReturn 63) (atTick 62500 (lk 3 [] (fun (k : Link) => { k with away := true })))).dev.log.recs.length = 1 ∧
    ((after (.standbyNak ⟨63, fl⟩) (lk 3 [] (fun (k : Link) => { k with standby := 1 }))).dev.link 63).standby = 0 := by decide +kernel

/-- A negotiation payload that this device accepts. -/
def okNego : Nego := { ng with verMin := 1, verMax := 9, role := 1, number := 5, assign := 0xFFFF, chosen := 1, deviceId := 77,
                               credVc2 := 300, vcmask := 0x1F }

theorem wit_LinkNegotiates : (lk 2 [] id).dev.get (K.LNK_STATE 63) = 2 ∧
    max okNego.verMin ((lk 2 [] id).dev.get K.LINK_VER_MIN) ≤ min okNego.verMax ((lk 2 [] id).dev.get K.LINK_VER_MAX) ∧
    okNego.deviceId ≠ (lk 2 [] id).dev.get K.DEVICE_ID ∧ okNego.role = (lk 2 [] id).dev.get (K.LNK_MODE 63) ∧
    (lk 2 [] id).dev.assignClash okNego = false ∧
    min 0 ((lk 2 [] id).dev.get K.LINK_VER_MAX) < max 0 ((lk 2 [] id).dev.get K.LINK_VER_MIN) ∧
    (lk 2 [] id).dev.assignClash { okNego with role := 2, assign := 3 } = true ∧
    ((lk 2 [] (fun (k : Link) => { k with offered := some okNego, chosen := 1 })).dev.link 63).offered ≠ none := by decide +kernel

theorem wit_LinkNegotiates_whole : ((lk 2 [] id).dev.negoIn 63).1 = false ∧ ((lk 2 [] id).dev.link 63).offerAt = 0 ∧
    ((lk 2 [] (fun (k : Link) => { k with offerAt := 1 })).dev.link 63).offerAt ≠ 0 ∧ 2 * (atTick 62 (lk 2 [] id)).dev.now < 2 * (1 - 1) + 125 ∧
    2 * (1 - 1) + 125 ≤ 2 * (atTick 63 (lk 2 [] id)).dev.now ∧ okNego.chosen = 1 ∧
    (lk 2 [(K.NUM_ASSIGNED, 0), (K.CFG_NUMBER, 0xFFFF)] id).dev.flag K.NUM_ASSIGNED = false := by decide +kernel

/-- A link that has taken a group's first nine flits. -/
def ninth : Link := { Link.init with rxSlot := 9, rxCount := some (2 ^ 48 - 1) }

theorem wit_LineCoding : Link.init.rxCount.getD 0 < 2 ^ 48 ∧ Link.init.rxSlot = 0 ∧ Link.init.framed Link.init.cleanFec.frame = true ∧
    Link.init.framed 0 = false ∧ Link.init.wordStarts = true ∧ Link.init.txGrp.length < 9 ∧ ninth.rxSlot ≠ 0 ∧
    { ninth with grpBad := true }.grpBad = true ∧ ({ Link.init with txGrp := List.replicate 9 fl } : Link).txGrp.length = 9 ∧
    [List.replicate 544 7][0]? = some (List.replicate 544 7) ∧ (List.replicate 544 7).length = 544 := by decide +kernel

theorem test_groups : framing (2 ^ 48 - 1) = 0xFFFFFFFFFFFF5C3A96F1 ∧ (ninth.arrive true ninth.cleanFec).2.rxCount = some 0 ∧
    (ninth.arrive true ninth.cleanFec).2.goodGroups = 1 ∧ ((List.range 8).map (laneWord 1)) = [1, 0, 3, 2, 1, 0, 3, 2] := by decide +kernel

theorem test_negotiation : ((after (.offer 63 okNego) (lk 2 [] id)).dev.link 63).sentAcc = true ∧
    (after (.offer 63 { okNego with deviceId := 0 }) (lk 2 [(K.DEVICE_ID, 0)] id)).dev.get (K.LNK_STATE 63) = 5 ∧
    (after (.accept 63 okNego) (lk 2 [] (fun (k : Link) => { k with offered := some okNego, chosen := 1 }))).dev.get (K.LNK_STATE 63) = 3 ∧
    Map.get ((after (.accept 63 okNego) (lk 2 [] (fun (k : Link) => { k with offered := some okNego, chosen := 1 }))).dev.link 63).cred 0 2 = 300 := by
  decide +kernel

/-- A message ready on VC2. -/
def ready2 (f : Link → Link) : State := lk 3 [] (fun (k : Link) => f { k with txq := [(2, [msg2 [7, 8]])], cred := [(2, 1)], mask := 0x1F })

theorem wit_FlitsSent : ((ready2 id).dev.link 63).ready 2 = true ∧ ((ready2 id).dev.link 63).replay = none ∧
    ((ready2 id).dev.link 63).markOut = none ∧ ((ready2 id).dev.link 63).ready 0 = false ∧ ((lk 3 [] id).dev.link 63).txq = [] ∧
    Map.get ((ready2 id).dev.link 63).txq [] 2 = msg2 [7, 8] :: [] ∧ Map.get ((ready2 id).dev.link 63).off 0 2 = 0 ∧
    ((ready2 (fun (k : Link) => { k with buf := [sent0 0 0], replay := some 0 })).dev.link 63).buf[0]? = some (sent0 0 0) := by decide +kernel

theorem wit_FlitsSent_null : ((lk 3 [] id).dev.link 63).ctl = [] ∧ ((lk 3 [] id).dev.link 63).standby = 0 ∧ ((lk 3 [] id).dev.link 63).queued = false ∧
    (7 ≤ ((ready2 id).dev.link 63).gap && ((ready2 id).dev.link 63).ready 0) = false ∧ (msg2 [7, 8]).payload.length ≤ 240 := by decide +kernel

theorem test_flit_sent : ((after (.flitSlot 63) (ready2 id)).dev.link 63).out.map Flit.payload = some [7, 8] ∧
    Map.get ((after (.flitSlot 63) (ready2 id)).dev.link 63).cred 0 2 = 0 ∧
    ((after (.flitSlot 63) (ready2 (fun (k : Link) => { k with cred := [] }))).dev.link 63).out.map Flit.ftype = some 0 ∧
    (after (.flitSlot 63) (ready2 (fun (k : Link) => { k with buf := [sent0 0 0], replay := some 0 }))).dev.get (K.REPLAYS 63) = 1 := by
  decide +kernel

/-- No error was found. -/
def clean : Fec := Link.init.cleanFec

theorem wit_FlitsReceived : (dataFlit 0).crc = flitSum (dataFlit 0) ∧ (dataFlit 0).seq = (((lk 3 [] id).dev.link 63).ack + 1) % 4096 ∧
    (lk 3 [] id).dev.stainsOn 5 (0x3000 + 63) 3 = [] ∧ (lk 3 [] id).dev.get (K.LNK_MODE 63) ≠ 2 ∧ (dataFlit 0).dest = (lk 3 [] id).dev.get K.DEVICE_NUMBER ∧
    2048 ≤ (4095 + 4096 - (4095 + 1) % 4096) % 4096 ∧ 2048 ≤ (2048 + 4096 - (4095 + 1) % 4096) % 4096 ∧
    (2047 + 4096 - (4095 + 1) % 4096) % 4096 < 2048 ∧ { dataFlit 0 with crc := 0 }.crc ≠ flitSum { dataFlit 0 with crc := 0 } ∧
    ((lk 3 [] (fun (k : Link) => { k with rx := [(2, some { msg := msg2 [1], last := 0, dead := false })] })).dev.link 63).rx ≠ [] := by
  decide +kernel

/-- Whether the next flit is discarded for its coding, and the device then. -/
def arr (s : State) (e : Fec) (lost : Bool) (P : Dev → Bool) : Bool := (s.dev.arrived 63 e).1 == lost && P (s.dev.arrived 63 e).2

theorem wit_FlitsReceived_coding : arr (lk 3 [] id) clean false (fun (d : Dev) => !(d.link 63).nak && decide ((d.link 63).nakTick ≤ d.now) &&
      (Map.get (d.link 63).rx none 2).isNone && decide ((d.link 63).ack = 4095) && (d.stainsOn 5 (0x3000 + 63) 3).isEmpty) = true ∧
    arr (lk 3 [] id) fe0 true (fun (d : Dev) => (d.link 63).grpBad) = true ∧
    arr (lk 3 [] id) { clean with uncorrectable := true } true (fun (d : Dev) => !(d.link 63).grpBad) = true ∧
    arr (lk 3 [] (fun (k : Link) => { k with nakTick := 5 })) clean false (fun (d : Dev) => decide (d.now < (d.link 63).nakTick)) = true ∧
    clean = ((lk 3 [] id).dev.link 63).cleanFec ∧ 5 ≤ { fl with ftype := 5 }.ftype := by decide +kernel

theorem test_flit_received : ((after (.flitDataReceive 63 (dataFlit 0) clean) (lk 3 [] id)).dev.link 63).ack = 0 ∧
    ((after (.flitDataReceive 63 (dataFlit 1) clean) (lk 3 [] id)).dev.link 63).nak = true ∧
    ((after (.flitDataReceive 63 (dataFlit 4095) clean) (lk 3 [] id)).dev.link 63).ack = 4095 ∧
    (after (.flitDataReceive 63 { dataFlit 0 with crc := 0 } clean) (lk 3 [] id)).dev.get (K.CRC_ERR 63) = 1 := by decide +kernel

/-- A whole message of a ring that channel 31 takes, of a kind. -/
def ringFlit (kind : Nat) : Flit :=
  let f := { dataFlit 0 with len := 16, part := 15, payload := toLE 16 (0x77 * 2 ^ 112 + kind * 2 ^ 100) }
  { f with crc := flitSum f }
/-- A link of a device with that channel. -/
def ringLink : State := lk 3 [(K.CH_PART 31, 15), (K.CH_RING_ID 31, 0x77), (K.CH_PRED 31, 1)] id

theorem wit_FlitsReceived_reserved : ringReserved { msg2 (ringFlit 10).payload with dest := 0, src := 1, part := 15 } = true ∧
    ringReserved { msg2 (ringFlit 9).payload with dest := 0, src := 1, part := 15 } = false ∧
    ringLink.dev.msgChannel { msg2 (ringFlit 10).payload with dest := 0, src := 1, part := 15 } = some 31 := by decide +kernel

theorem test_reserved_kind : Map.get ((after (.flitDataReceive 63 (ringFlit 10) clean) ringLink).dev.link 63).inbox [] 2 = [] ∧
    (after (.flitDataReceive 63 (ringFlit 10) clean) ringLink).dev.get (K.CH_DISCARDS 31) = 1 ∧
    (Map.get ((after (.flitDataReceive 63 (ringFlit 9) clean) ringLink).dev.link 63).inbox [] 2).length = 1 := by decide +kernel

/-- A VC4 request of a host on link 63 for physical space. -/
def hostReq (op len addr : Nat) (data : List Nat) : State := inbox (lk 3 [] id) 63 (txMsg 4 0 1 0 true 5 op 0 len addr data)
/-- Its message. -/
def theReq (op len addr : Nat) (data : List Nat) : Msg := txMsg 4 0 1 0 true 5 op 0 len addr data
/-- A write in flight of the move engine of core 63, waiting for two answers. -/
def fly : InFlight := { index := 1, op := 0x10, tick := 0, sig := 255, status := 0, space := 0, offset := 0, gen := 0, late := false,
                        start := 0, cost := 0, grans := [], outs := [5, 6], attempt := 0 }
/-- A device that waits for remote answers, one of them on link 63. -/
def waiting (op st : Nat) : State :=
  dv (inbox (lk 3 [] id) 63 (txMsg 3 0 1 0 false 5 op st 0 (2 ^ 52) [])) (fun (d : Dev) =>
    Dev.setCtx { d with remote := [(5, { Remote.none with k := 3, n := 63, p := 255, index := 1, write := true, addr := 2 ^ 52, sent := 0 })] }
      (eng 3 63) { EngCtx.init with busy := [fly] })

theorem wit_RemoteReferences : ((hostReq 1 4 (2 ^ 51) []).dev.takeTx 63 1).isSome = true ∧
    (match (hostReq 1 4 (2 ^ 51) []).dev.txPlaces (txReq (theReq 1 4 (2 ^ 51) [])) false with
      | .ok ls => ((hostReq 1 4 (2 ^ 51) []).dev.txWait (txReq (theReq 1 4 (2 ^ 51) [])) ls).isNone | .error _ => false) = true ∧
    (match (hostReq 1 0 (2 ^ 51) []).dev.txPlaces (txReq (theReq 1 0 (2 ^ 51) [])) false with | .ok _ => false | .error _ => true) = true ∧
    ((hostReq 3 1 (2 ^ 51) [9]).dev.takeTx 63 3).isSome = true ∧
    (match (hostReq 3 1 (2 ^ 51) [9]).dev.txPlaces (txReq (theReq 3 1 (2 ^ 51) [9])) true with
      | .ok ls => ((hostReq 3 1 (2 ^ 51) [9]).dev.txWait (txReq (theReq 3 1 (2 ^ 51) [9])) ls).isNone | .error _ => false) = true ∧
    (match (hostReq 3 4097 (2 ^ 51) []).dev.txPlaces (txReq (theReq 3 4097 (2 ^ 51) [])) true with | .ok _ => false | .error _ => true) = true ∧
    ((waiting 4 0).dev.takeTx 63 4).isSome = true ∧ ((waiting 2 0).dev.takeTx 63 2).isSome = true ∧ ((waiting 6 4).dev.takeTx 63 6).isSome = true ∧
    Map.look (waiting 4 0).dev.remote 6 = none ∧ (Map.look (waiting 4 0).dev.remote 5).isSome = true ∧
    (waiting 4 0).dev.flight { k := 3, n := 63, p := 255 } = some fly := by decide +kernel

theorem wit_RemoteReferences_answers : ((waiting 4 0).dev.takeTx 63 4).map (fun r => (r.1.id, r.1.src)) = some (5, 1) ∧
    (Map.look (waiting 4 0).dev.remote 5).map (fun r => (r.list, bits r.addr 63 52)) = some (false, 1) ∧ fly.outs = 5 :: 6 :: [] ∧
    Map.look ((inbox (lk 3 [] id) 63 (txMsg 3 0 1 0 false 5 4 0 0 (2 ^ 52) [])).dev).remote 5 = none ∧
    (waiting 4 0).dev.now < 0 + (waiting 4 0).dev.get K.REMOTE_TIMEOUT := by decide +kernel

theorem test_remote : ((after (.write 63) (hostReq 3 1 (2 ^ 51) [9])).dev.hbmByte 0) = 9 ∧
    ((after (.writeAck 63) (waiting 4 0)).dev.flight (eng 3 63)).map InFlight.outs = some [6] ∧
    ((after (.error 63) (waiting 6 4)).dev.flight (eng 3 63)).map InFlight.status = some 4 ∧
    (after (.remoteTimeout 5) (waiting 4 0)).dev.remote.length = 1 := by decide +kernel

/-! ## Lists, schedules, votes -/

/-- Stores bytes in HBM. -/
def store (d : Dev) (a : Nat) (bs : List Nat) : Dev :=
  bs.zipIdx.foldl (fun (d : Dev) b => d.setHbmByte (a + b.2) (BitVec.ofNat 8 b.1)) d

/-- Engine `k` of core 63, which no partition holds, with a list in physical space: its header slot, then its commands, fetched or not. -/
def listed (k : Nat) (fetched : Bool) (l : List (Obj × Nat)) (slots : List (List Nat)) : State :=
  let d := devWith ([(K.BOOT_STATE, 8), (K.DEVICE_NUMBER, 0), (K.LIST_BASE 63 (k - 1), 2 ^ 51), (K.ENGINE_RUN 63 (k - 1), 1)] ++ l)
  let d := slots.zipIdx.foldl (fun (d : Dev) x => store d (32 * x.2) (((x.1 ++ List.replicate 8 0).take 8).flatMap (toLE 4))) d
  let x : EngCtx := if fetched then { EngCtx.init with fetched := true, count := slots.length - 1, index := 1 } else EngCtx.init
  { State.reset with dev := d.setCtx (eng k 63) x }

/-- Word 0 of a command without queues. -/
def cw (op : Nat) : Nat := 0xFFFF0000 + op
/-- Word 0 of a list header. -/
def hw (k : Nat) : Nat := 0x000100FE + 256 * k

theorem wit_ListHeads : (listed 3 false [] [[hw 3, 1, 0]]).dev.running (eng 3 63) = true ∧ (listed 3 false [] [[hw 3, 1, 0]]).dev.listBase (eng 3 63) ≠ 0 ∧
    (match ((listed 3 false [] [[hw 3, 1, 0]]).dev.slot (eng 3 63) 0) with
      | (.ok ws, d) => d.headerFault (eng 3 63) ws == none | _ => false) = true ∧
    (match ((listed 3 false [] [[hw 2, 1, 0]]).dev.slot (eng 3 63) 0) with
      | (.ok ws, d) => d.headerFault (eng 3 63) ws == some stRANGE | _ => false) = true ∧
    (match ((listed 3 false [(K.LIST_BASE 63 2, 2 ^ 51 + 0xF000000000)] []).dev.slot (eng 3 63) 0) with
      | (.error _, _) => true | _ => false) = true ∧
    ((listed 3 true [] [[hw 3, 1, 0], [cw 0]]).dev.ctx (eng 3 63)).fetched = true ∧
    (match ((listed 3 true [(K.LIST_BASE 63 2, 2 ^ 51 + 0xF000000000)] [[], []]).dev.slot (eng 3 63) 1) with
      | (.error _, _) => true | _ => false) = true := by decide +kernel

/-- A slot that is to come from device 1. -/
def farBase : List (Obj × Nat) := [(K.LIST_BASE 63 2, 2 ^ 52)]

theorem wit_ListHeads_wait :
    (match ((listed 3 false farBase []).dev.slot (eng 3 63) 0) with | (.error st, _) => st == stWAIT | _ => false) = true ∧
    (match ((listed 3 true farBase [[], []]).dev.slot (eng 3 63) 1) with | (.error st, _) => st == stWAIT | _ => false) = true ∧
    (match ((listed 3 true [(K.LIST_BASE 63 2, 2 ^ 51 + 0xF000000000)] [[], []]).dev.slot (eng 3 63) 1) with | (.error st, _) => st != stWAIT | _ => false) = true ∧
    (match ((listed 3 false [(K.LIST_BASE 63 2, 2 ^ 51 + 0xF000000000)] []).dev.slot (eng 3 63) 0) with | (.error st, _) => st != stWAIT | _ => false) = true := by decide +kernel

theorem test_list_fetch : ((after (.listFetch 3 63 0) (listed 3 false [] [[hw 3, 5, 0]])).dev.ctx (eng 3 63)).count = 5 ∧
    ((after (.listFetch 3 63 0) (listed 3 false [] [[hw 2, 5, 0]])).dev.ctx (eng 3 63)).refused = true ∧
    ((after (.commandSlotUnreadable 3 63 0) (listed 3 true [(K.LIST_BASE 63 2, 2 ^ 51 + 0xF000000000)] [[], []])).dev.ctx (eng 3 63)).index = 2 := by
  decide +kernel

/-- Partition 15 with a running schedule of period 1,000 whose slot 0 is core 63. -/
def running15 : List (Obj × Nat) :=
  [(K.PART_STATE 15, 1), (K.SCHED_STATE 15, 3), (K.PERIOD 15, 1000), (K.CORE_OWNER 63, 15), (K.CORE_SLOT 63, 0), (K.SLOT_CORE 15 0, 63),
   (K.CORE_MASK 15, 2 ^ 63), (K.WIN_PAGES 15, 1), (K.CH_OWNER 0 0, 15), (K.FT_STATE, 2)]

/-- The list of an engine of that core in the partition's window, page 0 mapped to physical page 0 of channel 0. -/
def parted (k : Nat) (l : List (Obj × Nat)) (slots : List (List Nat)) : State :=
  let s := listed k true (running15 ++ [(K.LIST_BASE 63 (k - 1), 15 * 2 ^ 47 + 64)] ++ l) []
  let d := slots.zipIdx.foldl (fun (d : Dev) x => store d (64 + 32 * x.2) (((x.1 ++ List.replicate 8 0).take 8).flatMap (toLE 4))) s.dev
  let d := d.setPart 15 { d.part 15 with window := [(0, 2 ^ 63)], sched := { (d.part 15).sched with slots := 1, slack := 10, period := 1000 } }
  { s with dev := d.setCtx (eng k 63) { EngCtx.init with fetched := true, count := slots.length - 1, index := 1 } }

theorem wit_CommandLate : (parted 3 [] [[], [cw 0, 5]]).dev.running (eng 3 63) = true ∧ (parted 3 [] [[], [cw 0, 5]]).dev.engPart (eng 3 63) = 15 ∧
    (match ((parted 3 [] [[], [cw 0, 5]]).dev.slot (eng 3 63) 1) with | (.ok ws, _) => ws.getD 1 0 == 5 | _ => false) = true ∧
    ((parted 3 [] [[], [cw 0, 5]]).dev.sched 15).slack = 10 ∧ ((parted 3 [] [[], [cw 0, 5]]).dev.ctx (eng 3 63)).late = false ∧
    (parted 3 [] [[], [cw 0, 5]]).dev.pastEnd (eng 3 63) 5 = false ∧ (parted 3 [] [[], [cw 0, 5]]).dev.inFlight (eng 3 63) = [] := by decide +kernel

theorem test_command_late : ((after (.commandLate 3 63 0) (atTick 16 (parted 3 [] [[], [cw 0, 5]]))).dev.ctx (eng 3 63)).late = true ∧
    ((after (.commandLate 3 63 0) (atTick 15 (parted 3 [] [[], [cw 0, 5]]))).dev.ctx (eng 3 63)).late = false := by decide +kernel

/-- What the head of a list answers. -/
def goes (h : Head) : Bool := match h with | .go .. => true | .wait _ => false

/-- A handle. -/
def hdl (st : Nat) : Handle := { status := st, space := 1, offset := 64 }
/-- Handles in queue 3 of core 63. -/
def queue3 (s : State) (l : List Handle) : State := dv s (fun (d : Dev) => d.setHq 63 3 l)
/-- A relay that waits for queue 3 and signals queue 4. -/
def relay3 : Nat := 0x04030000

theorem wit_IssueOrder : (parted 3 [] [[], [cw 0, 999]]).dev.get (K.PERIOD 15) = 1000 ∧
    goes ((atTick 999 (parted 3 [] [[], [cw 0, 999]])).dev.head (eng 3 63) (· == 0)) = true ∧
    goes ((atTick 998 (parted 3 [] [[], [cw 0, 999]])).dev.head (eng 3 63) (· == 0)) = false ∧
    goes ((atTick 2000 (parted 3 [] [[], [cw 0, 1000]])).dev.head (eng 3 63) (· == 0)) = false ∧
    goes ((queue3 (parted 3 [(K.HQ_BIND 63 3, 3)] [[], [relay3, 0]]) [hdl 0]).dev.head (eng 3 63) (· == 0)) = true ∧
    goes ((queue3 (parted 3 [(K.HQ_BIND 63 3, 3)] [[], [relay3, 0]]) []).dev.head (eng 3 63) (· == 0)) = false ∧
    goes ((queue3 (parted 3 [(K.HQ_BIND 63 3, 3)] [[], [relay3, 0]]) [hdl 4]).dev.head (eng 3 63) (· == 0)) = false := by decide +kernel

theorem wit_IssueOrder_conditions :
    (let d := (queue3 (parted 3 [(K.HQ_BIND 63 3, 3)] [[], [relay3, 0]]) [hdl 0]).dev
     let c : Cmd := { index := 1, words := [relay3, 0, 0, 0, 0, 0, 0, 0], handle := none }
     (match d.slot (eng 3 63) 1 with | (.ok ws, _) => ws == c.words | _ => false) && opKnown 3 c.op && !d.inDoubt (eng 3 63) 0 &&
     decide (d.release (eng 3 63) 0 ≤ d.now) && !d.pastEnd (eng 3 63) 0 && decide (c.sigQ < 32) && (d.commitGate (eng 3 63) 0).isNone &&
     d.issuable (eng 3 63) c && decide (c.waitQ = 3) && decide (d.get (K.HQ_BIND 63 3) = 3) && (d.ctx (eng 3 63)).popped.isNone &&
     decide ((hdl 0).vis < d.cyclesEnd (quadOf 63)) && decide (d.issueCycle (eng 3 63) (some (hdl 0)) < d.cyclesEnd (eng 3 63).quad) &&
     decide (d.issueCycle (eng 3 63) none < d.cyclesEnd (eng 3 63).quad) && decide (d.cyclesEnd (quadOf 63) ≤ 10 ^ 9)) = true := by decide +kernel

theorem test_period_refused : ((after (.mvNop 63) (parted 3 [] [[], [cw 0, 1000]])).dev.ctx (eng 3 63)).index = 2 ∧
    ((after (.mvNop 63) (parted 3 [] [[], [cw 0, 999]])).dev.ctx (eng 3 63)).index = 1 := by decide +kernel

theorem wit_RelaysPass :
    (∃ c n d, Issues (queue3 (listed 1 true [(K.HQ_BIND 63 3, 1)] [[], [relay3]]) [hdl 0]) (eng 1 63) 0 c n d ∧ (c.handle == some (hdl 0)) = true) ∧
    (∃ c n d, Issues (listed 1 true [] [[], [cw 1]]) (eng 1 63) 1 c n d ∧ (decide ((d.core 63).passes = [])) = true) ∧
    (∃ c n d, Issues (listed 3 true [] [[], [cw 1]]) (eng 3 63) 1 c n d ∧ (decide ((d.ctx (eng 3 63)).busy = [])) = true) ∧
    (∃ c n d, Issues (listed 2 true [] [[], [cw 8, 0, 65536]]) (eng 2 63) 8 c n d ∧ (decide (bits (c.w 2) 16 0 = 65536)) = true) ∧
    (∃ c n d, Issues (listed 2 true [] [[], [cw 8, 0, 65537]]) (eng 2 63) 8 c n d ∧ (decide (65536 < bits (c.w 2) 16 0)) = true) :=
  ⟨issuesB_of (by decide +kernel), issuesB_of (by decide +kernel), issuesB_of (by decide +kernel), issuesB_of (by decide +kernel),
   issuesB_of (by decide +kernel)⟩

/-- A pass in flight. -/
def pass0 : Pass := { fl := { fly with outs := [] }, gang := 0, rate := 2, acc := false, tfeed := false, tdrain := false, drain := false, mmax := 1, dur := 9, done := 0,
                      probs := [] }

theorem wit_RelaysPass_more :
    (∃ c n d, Issues (listed 2 true [] [[], [cw 0]]) (eng 2 63) 0 c n d ∧ (decide ((d.ctx (eng 2 63)).busy = [])) = true) ∧
    (∃ c n d, Issues (listed 3 true [] [[], [cw 0]]) (eng 3 63) 0 c n d ∧ (decide ((d.ctx (eng 3 63)).busy = [])) = true) ∧
    (∃ c n d, Issues (listed 4 true [] [[], [cw 0]]) (eng 4 63) 0 c n d ∧ (decide ((d.ctx (eng 4 63)).busy = [])) = true) ∧
    (∃ c n d, Issues (dv (listed 1 true [] [[], [cw 1]]) (fun (d : Dev) => d.setCore 63 { d.core 63 with passes := [pass0] })) (eng 1 63) 1 c n d ∧
      (!(d.core 63).passes.isEmpty) = true) ∧
    (∃ c n d, Issues (listed 2 true [] [[], [cw 8, 0, 0]]) (eng 2 63) 8 c n d ∧ (decide (bits (c.w 2) 16 0 = 0)) = true) :=
  ⟨issuesB_of (by decide +kernel), issuesB_of (by decide +kernel), issuesB_of (by decide +kernel), issuesB_of (by decide +kernel),
   issuesB_of (by decide +kernel)⟩

theorem wit_ExtensionsRefused : goes ((listed 1 true [] [[], [cw 0x12]]).dev.ready (eng 1 63) (· == 0x12)) = true := by decide +kernel

theorem test_relay_passes_handle : ((after (.mxNop 63) (queue3 (listed 1 true [(K.HQ_BIND 63 3, 1)] [[], [relay3]]) [hdl 0])).dev.hq 63 4).map (fun h => (h.status, h.space, h.offset)) = [(0, 1, 64)] ∧
    ((after (.vxSetlen 63) (listed 2 true [] [[], [cw 8, 0, 65536]])).dev.core 63).vlen = 65536 ∧
    ((after (.vxSetlen 63) (listed 2 true [] [[], [cw 8, 0, 65537]])).dev.core 63).vlen = 0 := by decide +kernel

/-- A schedule of partition 15 in a state, changed. -/
def sch (l : List (Obj × Nat)) (f : Sched → Sched) : State :=
  dv (on (running15 ++ l)) (fun (d : Dev) => d.setSched 15 (f (d.sched 15)))

/-- One at its end tick, voted. -/
def ending (decision : Nat) : State :=
  atTick 1000 (sch [(K.VOTE_TICK 15, 500), (K.DECISION 15, decision)] (fun (x : Sched) => { x with slots := 1, voted := true, decided := decide (decision ≠ 0) }))

theorem quiet_ending : Quiet (ending 1).dev 15 :=
  ⟨by decide +kernel, by decide +kernel, by decide +kernel, by decide +kernel, by decide +kernel, by decide +kernel, by decide +kernel,
   by decide +kernel, by decide +kernel, by decide +kernel, by decide +kernel, by decide +kernel, by decide +kernel, by decide +kernel,
   by decide +kernel⟩

theorem wit_AttemptsEnd : Quiet (ending 1).dev 15 ∧ (ending 1).dev.get (K.EPOCH_NOW 15) + (ending 1).dev.get (K.PERIOD 15) ≤ (ending 1).dev.now ∧
    ((ending 1).dev.sched 15).decided = true ∧ ((ending 0).dev.sched 15).decided = false ∧
    (sch [(K.SCHED_STATE 15, 2), (K.BASE_EPOCH 15, 7)] id).dev.now < (sch [(K.SCHED_STATE 15, 2), (K.BASE_EPOCH 15, 7)] id).dev.epochOf 15 ∧
    (atTick 7 (sch [(K.SCHED_STATE 15, 2), (K.BASE_EPOCH 15, 7)] id)).dev.epochOf 15 ≤ 7 := ⟨quiet_ending, by decide +kernel⟩

theorem wit_AttemptsEnd_start :
    (sch [(K.SCHED_STATE 15, 2), (K.BASE_EPOCH 15, 7)] id).dev.now < (sch [(K.SCHED_STATE 15, 2), (K.BASE_EPOCH 15, 7)] id).dev.get (K.BASE_EPOCH 15) ∧
    (atTick 7 (sch [(K.SCHED_STATE 15, 2), (K.BASE_EPOCH 15, 7)] id)).dev.get (K.BASE_EPOCH 15) ≤ 7 ∧
    ((sch [(K.SCHED_STATE 15, 2)] id).dev.sched 15).endReq = false ∧ ((ending 1).dev.sched 15).failCommit = 0 ∧
    ((ending 1).dev.sched 15).votes.any VoteRec.nf = false ∧ (ending 2).dev.get (K.DECISION 15) = 2 := by decide +kernel

theorem wit_AttemptsEnd_others : Quiet (ending 2).dev 15 ∧ Quiet (ending 0).dev 15 :=
  ⟨⟨by decide +kernel, by decide +kernel, by decide +kernel, by decide +kernel, by decide +kernel, by decide +kernel, by decide +kernel,
    by decide +kernel, by decide +kernel, by decide +kernel, by decide +kernel, by decide +kernel, by decide +kernel, by decide +kernel,
    by decide +kernel⟩,
   ⟨by decide +kernel, by decide +kernel, by decide +kernel, by decide +kernel, by decide +kernel, by decide +kernel, by decide +kernel,
    by decide +kernel, by decide +kernel, by decide +kernel, by decide +kernel, by decide +kernel, by decide +kernel, by decide +kernel,
    by decide +kernel⟩⟩

theorem test_attempt_ends : (after (.attemptEnd 15) (ending 1)).dev.get (K.STEP 15) = 1 ∧ (after (.attemptEnd 15) (ending 2)).dev.get (K.STEP 15) = 0 ∧
    (after (.attemptEnd 15) (ending 0)).dev.get (K.SCHED_STATE 15) = 4 ∧ (after (.attemptEnd 15) (atTick 999 (ending 1))).dev.get (K.STEP 15) = 0 ∧
    (after (.scheduleStart 15) (atTick 7 (sch [(K.SCHED_STATE 15, 2), (K.BASE_EPOCH 15, 7)] id))).dev.get (K.EPOCH_NOW 15) = 7 := by
  decide +kernel

/-- A schedule with a BOUNDARY segment ending at tick 400. -/
def segmented (req : Bool) : State :=
  sch [] (fun (x : Sched) => { x with segs := [{ stop := 400, act := 0, boundary := true }, { stop := 1000, act := 0, boundary := false }], suspendReq := req })

theorem wit_SuspendsResumes : ((segmented true).dev.sched 15).segs[((segmented true).dev.sched 15).seg]? = some { stop := 400, act := 0, boundary := true } ∧
    400 ≠ (segmented true).dev.get (K.PERIOD 15) ∧ ((segmented true).dev.sched 15).suspendReq = true ∧
    ((sch [(K.SCHED_STATE 15, 4)] (fun (x : Sched) => { x with resumeAt := some 900, suspTick := 400 })).dev.sched 15).resumeAt = some 900 ∧
    (sch [] id).dev.get (K.DECISION 15) ≠ 3 ∧ (sch [] id).dev.get (K.DECISION 15) ≠ 4 ∧
    (sch [] id).dev.coreUsable 63 = true ∧ bit ((sch [] id).dev.get (K.CORE_MASK 15)) 63 = true := by decide +kernel

/-- A suspended schedule that goes on at tick 900, one slot on core 63. -/
def resuming : State := atTick 900 (sch [(K.SCHED_STATE 15, 4)] (fun (x : Sched) => { x with slots := 1, resumeAt := some 900, suspTick := 400 }))

theorem wit_SuspendsResumes_slots : (resuming.dev.sched 15).slots ≤ 64 ∧ (∀ n, n < 1 → resuming.dev.get (K.SLOT_CORE 15 n) < 64 ∧
      resuming.dev.coreUsable (resuming.dev.get (K.SLOT_CORE 15 n)) = true ∧ bit (resuming.dev.get (K.CORE_MASK 15)) (resuming.dev.get (K.SLOT_CORE 15 n)) = true) ∧
    (resuming.dev.sched 15).resumeAt = some 900 ∧ resuming.dev.get (K.SCHED_STATE 15) = 4 ∧ 900 ≤ resuming.dev.now ∧
    ((segmented false).dev.sched 15).suspendReq = false := by decide +kernel

theorem test_suspend_resume : (after (.segmentEnd 15) (atTick 400 (segmented true))).dev.get (K.SCHED_STATE 15) = 4 ∧
    (after (.segmentEnd 15) (atTick 399 (segmented true))).dev.get (K.SCHED_STATE 15) = 3 ∧
    (after (.scheduleResume 15) (atTick 900 (sch [(K.SCHED_STATE 15, 4)]
      (fun (x : Sched) => { x with resumeAt := some 900, suspTick := 400 })))).dev.get (K.HELD_TICKS 15) = 500 := by decide +kernel

/-- An attempt at its VOTE_TICK, with what failed in it. -/
def voting (causes : List Nat) (size : Nat) : State :=
  atTick 500 (sch [(K.VOTE_TICK 15, 500), (K.DECIDE_TICK 15, 600), (K.VOTE_CHANNEL 15, 31), (K.CH_SIZE 31, size), (K.CH_PART 31, 15),
    (K.CH_RING_ID 31, 0x77), (K.CH_PRED 31, 1)] (fun (x : Sched) => { x with causes := causes }))
/-- A vote record of device 1 for attempt 0, step 0, in a ring message. -/
def voteMsg : Msg :=
  { vc := 2, dest := 0, src := 1, part := 15, priv := false, id := 1,
    payload := toLE 16 (0x77 * 2 ^ 112 + 8 * 2 ^ 100 + 1 * 2 ^ 43) ++ [1, 0, 1, 0] ++ List.replicate 12 0 }
/-- It comes to a device that has closed its own vote. -/
def voted2 : State :=
  inbox (dv (voting [] 2) (fun (d : Dev) => d.setSched 15 { d.sched 15 with
    voted := true, votes := [{ attempt := 0, step := 0, device := 0, cause := 0, clean := true, nf := false }] })) 63 voteMsg

theorem wit_VotesAndSwatches : (voting [] 1).dev.get (K.EPOCH_NOW 15) + (voting [] 1).dev.get (K.VOTE_TICK 15) ≤ (voting [] 1).dev.now ∧
    ((voting [] 1).dev.schedEngs 15).all (fun e => !(voting [] 1).dev.pendingBelow e 500) = true ∧ (voting [] 1).dev.get (K.SCREEN_COUNT 15) = 0 ∧
    (voting [] 1).dev.jobSize 15 = 1 ∧ (voting [] 2).dev.jobSize 15 = 2 ∧ firstCause [stLATE] ≠ 0 ∧ firstCause [] = 0 ∧
    (eng 3 63).ok = true ∧ (voting [] 1).dev.engPart (eng 3 63) = 15 ∧
    (voted2.dev.takeRing 63 8).isSome = true ∧ voted2.dev.msgChannel voteMsg = some 31 ∧
    (ringHdr voteMsg.payload).count = 1 ∧ (voteOf ((voteMsg.payload.drop 16).take 16)).device = 1 ∧
    (voted2.dev.sched 15).votes.length + 1 = voted2.dev.jobSize 15 ∧ (voting [] 1).dev.get (K.DECIDE_TICK 15) ≠ 0 ∧
    (voted2.dev.sched 15).voted = true ∧ (voted2.dev.sched 15).decided = false ∧
    (voting [] 1).dev.exchanges 15 = false ∧
    (sch [(K.SWX_ENABLE 15, 1), (K.SWX_N 15, 1), (K.DECISION 15, 1)] (fun (x : Sched) => { x with decided := true })).dev.exchanges 15 = true := by decide +kernel

theorem wit_VotesAndSwatches_close : (∀ e ∈ (voting [] 1).dev.schedEngs 15, (voting [] 1).dev.openCauses e 500 = []) ∧ (voting [] 1).dev.absentSlots 15 = [] ∧
    ((voting [] 1).dev.sched 15).unlocked = false ∧ (voting [] 1).dev.get K.FT_STATE = 2 ∧ ((voting [] 1).dev.sched 15).fenced = false ∧
    ((voting [] 1).dev.sched 15).recFail = 0 ∧ (voting [] 1).dev.get (K.VOTE_TICK 15) = 500 ∧ (voting [] 1).dev.get (K.VOTE_CHANNEL 15) < 32 ∧
    (voteOf ((voteMsg.payload.drop 16).take 16)).attempt = voted2.dev.get (K.ATTEMPT 15) ∧ voted2.dev.get (K.DECIDE_TICK 15) ≠ 0 ∧
    ((voted2.dev.sched 15).votes.any (fun x => x.device == 1)) = false := by decide +kernel

theorem test_votes : (after (.voteClose 15) (voting [] 1)).dev.get (K.DECISION 15) = 1 ∧
    (after (.voteClose 15) (voting [stLATE] 1)).dev.get (K.DECISION 15) = 2 ∧ (after (.voteClose 15) (voting [] 2)).dev.get (K.DECISION 15) = 0 ∧
    (after (.voteClose 15) (atTick 499 (voting [] 1))).dev.get (K.DECISION 15) = 0 ∧
    (after (.vote 63) voted2).dev.get (K.DECISION 15) = 1 := by decide +kernel

theorem test_in_doubt : (after (.decisionInDoubt 15) (atTick 1000 voted2)).dev.get (K.DECISION 15) = 3 ∧
    ((after (.swatchExchange 15) (sch [(K.SWX_ENABLE 15, 1), (K.SWX_N 15, 1), (K.DECISION 15, 1)]
      (fun (x : Sched) => { x with decided := true }))).dev.sched 15).swx.length = 1 := by decide +kernel

/-! ## The array, the vector unit, moves -/

/-- A core of a state, changed. -/
def core63 (s : State) (f : Core → Core) : State := dv s (fun (d : Dev) => d.setCore 63 (f (d.core 63)))
/-- Bytes in a scratchpad. -/
def holding (mem o : Nat) (bs : List Nat) (k : Core) : Core := (k.write mem (bs.zipIdx.map (fun b => (o + b.2, BitVec.ofNat 8 b.1)))).1
/-- A BF16 problem of one row, one column and K = 2, at the start of the memories. -/
def bfWords : List Nat := ww (8 * 2 ^ 60) ++ ww (8 * 2 ^ 60 + 8 * 2 ^ 10 + 1) ++ ww (2 ^ 31)
/-- A list of the array with it, its granules resident. -/
def arrayList (op : Nat) (ext : List (List Nat)) : State :=
  core63 (listed 1 true [] ([[], [cw op, 0] ++ (if ext = [] then bfWords else [ext.length])] ++ ext)) (fun (k : Core) =>
    { holding 0 0 [0x80, 0x3F, 0, 0x40] (holding 1 0 ([0, 0x40] ++ List.replicate 62 0 ++ [0x40, 0x40]) k) with resident := (List.range 512).map (fun i => (i, true)) })

theorem wit_PassesIssue :
    (∃ c n d, Issues (arrayList 0x10 []) (eng 1 63) 0x10 c n d ∧
      (match decodeProb 0 (c.pair 2) (c.pair 4) (c.pair 6) c.waitQ c.handle with
        | some q => rateOf q.wFmt q.sFmt == some 2 && decide (bits (c.w 0) 10 8 = 0) && passValid 0 2 (c.flag 13) (c.flag 12) [q] &&
            (readGrans (c.flag 13) [q]).all (fun x => Map.get (d.core 63).resident false x) &&
            (d.core 63).accepts (c.flag 15) 0 2 q.sparse (d.cyclesEnd (quadOf 63)) && !bit (d.get K.GATE) 63
        | none => false) = true) ∧
    (∃ c n d, Issues (arrayList 0x110 []) (eng 1 63) 0x10 c n d ∧
      ((decodeProb 0 (c.pair 2) (c.pair 4) (c.pair 6) c.waitQ c.handle).isSome && decide (bits (c.w 0) 10 8 ≠ 0)) = true) ∧
    (∃ c n d, Issues (arrayList 0x11 [[cw 0x12, 0] ++ bfWords]) (eng 1 63) 0x11 c n d ∧
      (match d.exts (eng 1 63) c n with
        | (.ok es, d') => d' == d && es.length == 1 && (match es.filterMap (fun ws => decodeProb (bits (ws.getD 0 0) 11 8)
              (Cmd.pair { index := 0, words := ws, handle := none } 2) (Cmd.pair { index := 0, words := ws, handle := none } 4)
              (Cmd.pair { index := 0, words := ws, handle := none } 6) c.waitQ c.handle) with
            | q :: r => rateOf q.wFmt q.sFmt == some 2 && passValid 0 2 (c.flag 13) (c.flag 12) (q :: r) && decide ((q :: r).length ≤ gangProblems 0) &&
                (readGrans (c.flag 13) (q :: r)).all (fun x => Map.get (d.core 63).resident false x) &&
                (d.core 63).accepts (c.flag 15) 0 2 q.sparse (d.cyclesEnd (quadOf 63)) && !bit (d.get K.GATE) 63
            | [] => false)
        | _ => false) = true) ∧ (arrayList 0x10 []).dev.core 63 = (arrayList 0x10 []).dev.core 63 ∧ ((arrayList 0x10 []).dev.core 63).reruns = [] :=
  ⟨issuesB_of (by decide +kernel), issuesB_of (by decide +kernel), issuesB_of (by decide +kernel), rfl, by decide +kernel⟩

/-- The problem. -/
def bfProb : Prob := { j := 0, wFmt := 8, wSquare := false, sparse := 0, wElem := 0, wScale := 0, wMeta := 0, wPitch := 0, sFmt := 8, sSquare := false,
                       sElem := 0, sScale := 0, sPitch := 64, k := 2, dest := 0, dPitch := 1, m := 1, n := 1 }
/-- A pass of it that starts at cycle 0. -/
def bfPass : Pass := { fl := { fly with op := 0x10, outs := [], space := 2 }, gang := 0, rate := 2, acc := false, tfeed := false, tdrain := false, drain := false,
                       mmax := 1, dur := passDur 0 2 1, done := 0, probs := [bfProb] }
/-- A core that runs it: the row 1, 2 times the column 2, 3. -/
def passCore : Core := { holding 0 0 [0x80, 0x3F, 0, 0x40] (holding 1 0 ([0, 0x40] ++ List.replicate 62 0 ++ [0x40, 0x40]) Core.init) with passes := [bfPass] }

theorem wit_PassComputes : passCore.passes = [bfPass] ∧ bfProb.valid 0 bfPass.rate bfPass.tfeed bfPass.tdrain = true ∧ passCore.poison = [] ∧
    passCore.reruns = [] ∧ bfPass.dur = passDur 0 bfPass.rate bfProb.m := by decide +kernel

theorem wit_PassComputes_flaw : passCore.flaw = [] ∧ bfPass.probs = [bfProb] ∧ bfPass.done = 0 := by decide +kernel

theorem test_pass : decodeProb 0 (8 * 2 ^ 60) (8 * 2 ^ 60 + 8 * 2 ^ 10 + 1) (2 ^ 31) 255 none = some bfProb ∧
    (passCore.drainTo (passDur 0 2 1)).1.word32 2 0 = 0x41000000 := by decide +kernel

theorem test_pass_issued : ((after (.mxPass 63) (arrayList 0x10 [])).dev.core 63).passes.length = 1 ∧
    ((after (.mxGang 63) (arrayList 0x11 [[cw 0x12, 0] ++ bfWords])).dev.core 63).passes.length = 1 := by decide +kernel

/-- A state whose quadrants have counted a thousand cycles. -/
def cycled (s : State) : State := dv s (fun (d : Dev) => { d with cyc := [(0, 1000000), (1, 1000000), (2, 1000000), (3, 1000000)] })
/-- A core of partition 15 with a command in flight. -/
def flies (k : Nat) (f : InFlight) : State := dv (on running15) (fun (d : Dev) => d.setCtx (eng k 63) { EngCtx.init with busy := [f] })

theorem wit_IssuedCommandsEnd :
    ((core63 (on []) (fun (_ : Core) => passCore)).dev.core 63).passes = bfPass :: [] ∧
    (on []).dev.cyclesEnd (quadOf 63) < bfPass.fl.start + bfPass.dur ∧
    bfPass.fl.start + bfPass.dur ≤ (cycled (on [])).dev.cyclesEnd (quadOf 63) ∧ passCore.poison = [] ∧ passCore.flaw = [] ∧
    fly.outs ≠ [] ∧ (flies 3 { fly with outs := [] }).dev.planOf (eng 3 63) = none ∧ (flies 4 { fly with outs := [] }).dev.planOf (eng 4 63) = none ∧
    ((flies 3 { fly with outs := [], grans := [5] }).dev.ctx (eng 3 63)).busy = [{ fly with outs := [], grans := [5] }] ∧ fly.hold ≤ 0 ∧
    (([5] : List Nat).Nodup ∧ ∀ x ∈ [5], x < 192) ∧
    (∀ g ∈ [5], ((flies 3 { fly with outs := [], grans := [5] }).dev.core (granOf 63 g).1).mismatch (granOf 63 g).2 = false) ∧
    ((dv (on running15) (fun (d : Dev) => d.setCtx (upe 0 15) { EngCtx.init with busy := [fly] })).dev.ctx (upe 0 15)).busy = fly :: [] := by
  decide +kernel

theorem test_commands_end :
    ((after (.passComplete 63) (cycled (core63 (on []) (fun (_ : Core) => passCore)))).dev.core 63).passes = [] ∧
    ((after (.passComplete 63) (core63 (on []) (fun (_ : Core) => passCore))).dev.core 63).passes.length = 1 ∧
    ((after (.moveComplete 63 []) (flies 3 fly)).dev.ctx (eng 3 63)).busy = [fly] ∧
    (after (.moveComplete 63 []) (core63 (flies 3 { fly with outs := [], grans := [5] }) (fun (k : Core) => { k with crcOff := [(5, 1)] }))).dev.get
      (K.WM_CRC_FAIL 63) = 1 ∧
    ((after (.gatherComplete 63) (flies 4 { fly with outs := [] })).dev.ctx (eng 4 63)).busy = [] ∧
    ((after (.updateComplete 0 15) (dv (on running15) (fun (d : Dev) => d.setCtx (upe 0 15) { EngCtx.init with busy := [fly] }))).dev.ctx (upe 0 15)).busy = [] := by
  decide +kernel

/-- A list of the vector unit, its program `r9 ← operand 0` at the start of AM, LEN 4. -/
def vectorList (ws : List Nat) : State :=
  core63 (listed 2 true [] [[], ws]) (fun (k : Core) => { holding 1 0 (toLE 4 (9 * 2 ^ 22 + 8 * 2 ^ 18)) k with vlen := 4 })
/-- VX_EP of the constant 1 into VM. -/
def epWords : List Nat := [cw 0x10, 0, 0x100, 2 ^ 30] ++ ww (4 * 2 ^ 60 + 0x3F800000) ++ ww (3 * 2 ^ 58 + 64 * 2 ^ 32)
/-- VX_CVT from FP32 to BF16 in VM. -/
def cvtWords : List Nat := [cw 0x20, 0, 0x9800, 0] ++ ww (3 * 2 ^ 58 + 64 * 2 ^ 32) ++ ww (3 * 2 ^ 58 + 128 * 2 ^ 32)
/-- The same of a core of partition 15, LEN 0. -/
def vectorPart (ws : List Nat) : State := core63 (parted 2 [] [[], ws]) (fun (k : Core) => { k with vlen := 0 })

theorem wit_VectorIssues :
    (∃ c n d, Issues (vectorList epWords) (eng 2 63) 0x10 c n d ∧
      (decide ((d.ctx (eng 2 63)).busy = []) && match d.exts (eng 2 63) c n with
        | (.ok es, d') => d' == d && (match (d.core 63).epDecode c es with
            | .ok x => !(d.core 63).holds (epReads x.ops x.prog (d.core 63).vlen x.rows) (epWrites x.ops x.prog (d.core 63).vlen x.rows) | _ => false)
        | _ => false) = true) ∧
    (∃ c n d, Issues (vectorPart epWords) (eng 2 63) 0x10 c n d ∧
      (decide (d.engPart (eng 2 63) < 16) && match d.exts (eng 2 63) c n with
        | (.ok es, d') => d' == d && (match (d.core 63).epDecode c es with | .error (_, none) => true | _ => false)
        | _ => false) = true) ∧
    (∃ c n d, Issues (vectorList cvtWords) (eng 2 63) 0x20 c n d ∧
      (match cvtDecode (d.core 63).vlen c with
        | some x => !(d.core 63).holds (x.src.spans x.rows (d.core 63).vlen) (x.dst.spans x.rows (d.core 63).vlen) | _ => false) = true) ∧
    (∃ c n d, Issues (vectorPart cvtWords) (eng 2 63) 0x20 c n d ∧ (cvtDecode (d.core 63).vlen c).isNone = true) :=
  ⟨issuesB_of (by decide +kernel), issuesB_of (by decide +kernel), issuesB_of (by decide +kernel), issuesB_of (by decide +kernel)⟩

/-- A core whose array holds the first granule of PM. -/
def heldPM (s : State) : State := core63 s (fun (k : Core) => { k with passes := [{ bfPass with fl := { bfPass.fl with start := 10 ^ 6 } }] })
/-- VX_EP of the constant 1 into PM. -/
def epHeld : List Nat := [cw 0x10, 0, 0x100, 2 ^ 30] ++ ww (4 * 2 ^ 60 + 0x3F800000) ++ ww (2 * 2 ^ 58)
/-- VX_CVT from FP32 in VM to BF16 in PM. -/
def cvtHeld : List Nat := [cw 0x20, 0, 0x9800, 0] ++ ww (3 * 2 ^ 58 + 64 * 2 ^ 32) ++ ww (2 * 2 ^ 58)

theorem wit_VectorIssues_held :
    (∃ c n d, Issues (heldPM (vectorList epHeld)) (eng 2 63) 0x10 c n d ∧
      (decide ((d.ctx (eng 2 63)).busy = []) && match d.exts (eng 2 63) c n with
        | (.ok es, d') => d' == d && (match (d.core 63).epDecode c es with
            | .ok x => (d.core 63).holds (epReads x.ops x.prog (d.core 63).vlen x.rows) (epWrites x.ops x.prog (d.core 63).vlen x.rows) | _ => false)
        | _ => false) = true) ∧
    (∃ c n d, Issues (heldPM (vectorList cvtHeld)) (eng 2 63) 0x20 c n d ∧
      (match cvtDecode (d.core 63).vlen c with
        | some x => (d.core 63).holds (x.src.spans x.rows (d.core 63).vlen) (x.dst.spans x.rows (d.core 63).vlen) | _ => false) = true) ∧
    ((after (.vxEp 63) (vectorList epHeld)).dev.core 63).vxHeld = false ∧
    ((heldPM (after (.vxEp 63) (vectorList epHeld))).dev.core 63).vxHeld = true :=
  ⟨issuesB_of (by decide +kernel), issuesB_of (by decide +kernel), by decide +kernel⟩

/-- A vector command has come to its end. -/
def vxEnd (s : State) : Core := (after (.vxComplete 63 0) (cycled s)).dev.core 63

/-- A vector command that is due or not, that nothing holds. -/
def vxDue (s : State) (due : Bool) : Bool :=
  match (s.dev.ctx (eng 2 63)).busy, (s.dev.core 63).vx with
  | [f], some j => decide (f.start + f.cost + min 0 j.allowance ≤ s.dev.cyclesEnd (quadOf 63)) == due && !(s.dev.core 63).vxHeld &&
      (s.dev.core 63).poison.isEmpty && (s.dev.core 63).flaw.isEmpty
  | _, _ => false

theorem wit_VectorEnds : vxDue (after (.vxEp 63) (vectorList epWords)) false = true ∧
    vxDue (cycled (after (.vxEp 63) (vectorList epWords))) true = true ∧ (core63 (after (.vxEp 63) (vectorList epWords)) (fun (k : Core) =>
      { k with passes := [{ bfPass with tdrain := true, probs := [{ bfProb with sElem := 0 }] }] })).stopped = false := by decide +kernel

theorem test_vector : (vxEnd (after (.vxEp 63) (vectorList epWords))).word32 3 76 = 0x3F800000 ∧
    (vxEnd (after (.vxEp 63) (vectorList epWords))).word32 3 80 = 0 ∧
    ((after (.vxEp 63) (vectorList epWords)).dev.core 63).word32 3 76 = 0 ∧
    (vxEnd (after (.vxCvt 63) (core63 (vectorList cvtWords) (holding 3 64 (toLE 4 0x3F808000 ++ toLE 4 0x40490FDB))))).le 3 128 4 = 0x40493F80 := by
  decide +kernel

/-- A command of the move engine or the gather engine behind its header, with its extension. -/
def moves (k : Nat) (l : List (Obj × Nat)) (ws x : List Nat) : State :=
  core63 (listed k true l ([[], ws] ++ (if x = [] then [] else [x]))) (holding 0 0 [1, 2, 3, 4])
/-- MV_COPY of 4 bytes from WM to VM. -/
def copyWords : List Nat := [cw 0x10, 0, 0x03000000, 3] ++ ww 0 ++ ww 64
/-- MV_COPY2D of two rows of 2 bytes. -/
def copy2Words : List Nat := [cw 0x11, 0, 0x03000000, 1] ++ ww 0 ++ ww 64
/-- MV_TLOAD of 1 by 2 words of 32 bits. -/
def tloadWords : List Nat := [cw 0x13, 0, 0x03900000, 1] ++ ww 0 ++ ww 64
/-- MV_SPLOAD of one block. -/
def sploadWords : List Nat := [cw 0x18, 0, 0x50000000, 31 * 2 ^ 22] ++ ww (2 ^ 51 + 4096) ++ ww (2 ^ 51 + 4160)
/-- Its extension. -/
def sploadExt : List Nat := [cw 0x12, 0] ++ ww (2 ^ 51 + 4128) ++ [8 * 2 ^ 16, 128 * 2 ^ 13]
/-- GT_ROWS of one row of 4 bytes. -/
def rowsWords : List Nat := [cw 0x10, 0, 0, 4] ++ ww (2 ^ 51 + 4096) ++ [1]
/-- A plan that may go on. -/
def planned (d : Dev) (e : Eng) (r : Except Nat (Plan × Nat)) : Bool :=
  match r with
  | .ok (p, _) => (d.memWait e (p.runs.flatten ++ p.writes)).isNone
  | .error _ => false

theorem wit_MovesIssue :
    (∃ c n d, Issues (moves 3 [] copyWords []) (eng 3 63) 0x10 c n d ∧ (planned d (eng 3 63) (d.planCopy (eng 3 63) c) && (d.core 63).passes.isEmpty &&
      decide ((d.ctx (eng 3 63)).busy = [])) = true) ∧
    (∃ c n d, Issues (moves 3 [] copy2Words [cw 0x12, 0, 0x10000, 0, 2, 64]) (eng 3 63) 0x11 c n d ∧ (match d.exts (eng 3 63) c n with
      | (.ok es, d') => d' == d && planned d (eng 3 63) (d.planCopy2d (eng 3 63) c { index := 0, words := es.headD [], handle := none })
      | _ => false) = true) ∧
    (∃ c n d, Issues (moves 3 [] tloadWords [cw 0x12, 0, 8, 4]) (eng 3 63) 0x13 c n d ∧ (match d.exts (eng 3 63) c n with
      | (.ok es, d') => d' == d && planned d (eng 3 63) (d.planTload (eng 3 63) c { index := 0, words := es.headD [], handle := none })
      | _ => false) = true) ∧
    (∃ c n d, Issues (moves 3 [] sploadWords sploadExt) (eng 3 63) 0x18 c n d ∧ (match d.exts (eng 3 63) c n with
      | (.ok es, d') => d' == d && planned d (eng 3 63) (d.planSpload (eng 3 63) c { index := 0, words := es.headD [], handle := none })
      | _ => false) = true) ∧
    (∃ c n d, Issues (parted 3 [] [[], [cw 0x10, 0, 0x03000000, 3] ++ ww 0x7FFFFF]) (eng 3 63) 0x10 c n d ∧ (match d.planCopy (eng 3 63) c with
      | .error _ => decide (d.engPart (eng 3 63) < 16) | .ok _ => false) = true) ∧
    (∃ c n d, Issues (moves 4 [] rowsWords [cw 0x12, 0, 0, 0, 64, 4]) (eng 4 63) 0x10 c n d ∧ (match d.exts (eng 4 63) c n with
      | (.ok es, d') => d' == d && (match gtDecode c { index := 0, words := es.headD [], handle := none } with
          | .ok x => (d.memWait (eng 4 63) ((d.gather 63 c x).1.runs.flatten ++ (d.gather 63 c x).1.writes)).isNone | .error _ => false)
      | _ => false) = true) :=
  ⟨issuesB_of (by decide +kernel), issuesB_of (by decide +kernel), issuesB_of (by decide +kernel), issuesB_of (by decide +kernel),
   issuesB_of (by decide +kernel), issuesB_of (by decide +kernel)⟩

/-- MV_COPY of 4 bytes from WM to PM. -/
def copyHeld : List Nat := [cw 0x10, 0, 0x02000000, 3] ++ ww 0 ++ ww 64

theorem wit_MovesIssue_held :
    (∃ c n d, Issues (heldPM (moves 3 [] copyHeld [])) (eng 3 63) 0x10 c n d ∧ (match d.planCopy (eng 3 63) c with
      | .ok (p, _) => (d.memWait (eng 3 63) (p.runs.flatten ++ p.writes)).isNone && (d.planHeld p).isSome &&
          (p.runs.flatten ++ p.writes).all (fun (x : Place) => match x.2 with | .far _ => false | _ => true)
      | .error _ => false) = true) ∧
    (∃ c n d, Issues (moves 3 [] copyWords []) (eng 3 63) 0x10 c n d ∧ (match d.planCopy (eng 3 63) c with
      | .ok (p, _) => (d.planHeld p).isNone && (p.runs.flatten ++ p.writes).all (fun (x : Place) => match x.2 with | .far _ => false | _ => true)
      | .error _ => false) = true) ∧
    (∃ c n d, Issues (moves 4 [] rowsWords [cw 0x12, 0, 0, 0, 64, 4]) (eng 4 63) 0x10 c n d ∧ (match d.exts (eng 4 63) c n with
      | (.ok es, d') => d' == d && (match gtCheck d 63 c { index := 0, words := es.headD [], handle := none } with
          | .ok x => (let g := (d.gather 63 c x).1
              (d.memWait (eng 4 63) (g.runs.flatten ++ g.writes)).isNone &&
              (d.planHeld { runs := g.runs, xform := .copy, writes := g.writes, fill := g.fill, got := [], src := none }).isNone &&
              (g.runs.flatten ++ g.writes).all (fun (x : Place) => match x.2 with | .far _ => false | _ => true))
          | .error _ => false)
      | _ => false) = true) ∧
    (∃ c n d, Issues (moves 4 [] rowsWords [cw 0x12, 0, 0, 0, 0xFFFFFF, 4]) (eng 4 63) 0x10 c n d ∧ (match d.exts (eng 4 63) c n with
      | (.ok es, d') => d' == d && (match gtCheck d 63 c { index := 0, words := es.headD [], handle := none } with
          | .ok _ => false | .error st => st == stRANGE || st == stACCESS)
      | _ => false) = true) :=
  ⟨issuesB_of (by decide +kernel), issuesB_of (by decide +kernel), issuesB_of (by decide +kernel), issuesB_of (by decide +kernel)⟩

/-- A list that run-ahead reads. -/
def ahead (w0 tick : Nat) : State :=
  listed 3 true [(K.RA_ENABLE 63, 1), (K.RA_DEPTH 63, 1), (K.RA_WINDOW 63, 100)] [[], [w0, tick, 0x83000000, 3] ++ ww (2 ^ 51) ++ ww 64]

theorem wit_runAhead : (ahead (cw 0x10) 50).dev.running (eng 3 63) = true ∧ ((ahead (cw 0x10) 50).dev.ctx (eng 3 63)).index = 1 ∧
    ((ahead (cw 0x10) 50).dev.ctx (eng 3 63)).count = 1 ∧ (ahead (cw 0x10) 50).dev.flag (K.RA_ENABLE 63) = true ∧
    ((ahead (cw 0x10) 50).dev.core 63).ra = [] ∧ ((ahead (cw 0x10) 50).dev.core 63).raStop = 0 ∧ 0 < (ahead (cw 0x10) 50).dev.get (K.RA_DEPTH 63) ∧
    (match (ahead (cw 0x10) 50).dev.slot (eng 3 63) 1 with | (.ok ws, _) => ws.headD 0 == cw 0x10 | _ => false) = true ∧
    (ahead (cw 0x10) 101).dev.now + 100 < (ahead (cw 0x10) 101).dev.release (eng 3 63) 101 := by decide +kernel

theorem wit_runAhead_stops :
    (match (ahead (cw 1) 50).dev.slot (eng 3 63) 1 with | (.ok ws, _) => ws.headD 0 % 256 == 1 | _ => false) = true ∧
    (match (ahead (0xFFFF8010) 50).dev.slot (eng 3 63) 1 with
      | (.ok ws, _) => ({ index := 1, words := ws, handle := none } : Cmd).flag 15 | _ => false) = true ∧
    (ahead (cw 0x10) 50).dev.release (eng 3 63) 50 ≤ (ahead (cw 0x10) 50).dev.now + 100 ∧
    (dv (ahead (cw 0x10) 50) (fun (d : Dev) => d.put (K.RA_DEPTH 63) 0)).dev.get (K.RA_DEPTH 63) = 0 := by decide +kernel

theorem test_run_ahead : ((after (.runAheadRead 63) (ahead (cw 0x10) 50)).dev.core 63).ra.map RaEntry.next = [2] ∧
    (after (.runAheadRead 63) (ahead (cw 0x10) 101)).dev.get (K.RA_STOPS 63 6) = 1 ∧
    (after (.runAheadRead 63) (ahead (cw 1) 50)).dev.get (K.RA_STOPS 63 4) = 1 := by decide +kernel

theorem wit_CopyCopies : (∃ c n d, Issues (moves 3 [] copyWords []) (eng 3 63) 0x10 c n d ∧
    (decide (n = 1) && decide (bits (c.w 2) 31 28 = 0) && decide (bits (c.w 2) 27 24 = 3) && decide (c.pair 4 = 0) && decide (c.pair 6 = 64) &&
     decide (bits (c.w 3) 23 0 + 1 = 4) && !c.flag 14 && !c.flag 13 && (d.core 63).poison.isEmpty && decide (d.get (K.DOM_STATE 63) = 0)) = true) :=
  issuesB_of (by decide +kernel)

/-- The places of the two rows of `copy2Words` and what they need. -/
theorem wit_CopyCopies_rows : (∃ c n d, Issues (moves 3 [] copy2Words [cw 0x12, 0, 0x10000, 0, 2, 64]) (eng 3 63) 0x11 c n d ∧
    (match d.exts (eng 3 63) c n with
      | (.ok es, d') => d' == d && (let x : Cmd := { index := 0, words := es.headD [], handle := none }
          decide (bits (x.w 2) 31 16 + 1 = 2) && decide (x.w 4 = 2) && decide (x.w 5 = 64) && decide (bits (c.w 2) 31 28 = 0) &&
          decide (bits (c.w 2) 27 24 = 3) && decide (bits (c.w 3) 23 0 + 1 = 2) && !c.flag 14 && !c.flag 13 && (d.core 63).flaw.isEmpty &&
          (d.core 63).poison.isEmpty && decide (d.get (K.DOM_STATE 63) = 0) && !(d.core 63).heldRead 0 3 && !(d.core 63).heldWrite 3 129)
      | _ => false) = true) := issuesB_of (by decide +kernel)

theorem test_moves : ((after (.mvCopy 63) (moves 3 [] copyWords [])).dev.core 63).word32 3 64 = 0x04030201 ∧
    ((after (.mvCopy2d 63) (moves 3 [] copy2Words [cw 0x12, 0, 0x10000, 0, 2, 64])).dev.core 63).le 3 128 2 = 0x0403 ∧
    ((after (.mvTload 63) (core63 (moves 3 [] tloadWords [cw 0x12, 0, 8, 4]) (holding 0 4 [5]))).dev.core 63).le 3 64 8 = 0x0000000504030201 ∧
    (after (.gtRows 63) (moves 4 [] rowsWords [cw 0x12, 0, 0, 0, 64, 4])).dev.get (K.GT_ROWS 63) = 1 ∧
    ((after (.mvSpload 63) (moves 3 [] sploadWords sploadExt)).dev.flight (eng 3 63)).map
      InFlight.status = some 0 := by decide +kernel
/-! ## Updates, the ring -/

/-- The list of a shared engine of partition 15 in its window, slot 0 of the partition being core 63. -/
def shared (e : Eng) (l : List (Obj × Nat)) (slots : List (List Nat)) : State :=
  dv (parted 3 l slots) (fun (d : Dev) =>
    Dev.setCtx (d.setSched 15 { d.sched 15 with shared := [{ kind := e.k, num := e.n, base := 15 * 2 ^ 47 + 64 }] })
      e { EngCtx.init with fetched := true, count := slots.length - 1, index := 1 })
/-- Window address of partition 15. -/
def win (x : Nat) : Nat := 15 * 2 ^ 47 + 4096 * x
/-- UP_APPLY of one element without masks. -/
def applySlots : List (List Nat) :=
  [[], [cw 0x10, 0, 0, 0] ++ ww (win 1) ++ ww (win 2), [cw 0x12, 0] ++ ww (win 3) ++ ww (win 4) ++ ww 0, [cw 0x12, 0] ++ ww (win 5)]
/-- UP_DERIVE of one element. -/
def deriveSlots : List (List Nat) :=
  [[], [cw 0x20, 0, 0x40000000, 0] ++ ww (win 1) ++ ww (win 2), [cw 0x12, 0] ++ ww (win 3)]
/-- Units come with their partition's list. -/
def u0 : Eng := upe 0 15

theorem wit_UpdatesIssue :
    (∃ c n d, Issues (shared u0 [] applySlots) u0 0x10 c n d ∧ (match d.exts u0 c n with
      | (.ok es, d') => d' == d && (let a := decodeApply c es
          a.fieldsOk && !d.beforeDecide u0 (c.w 1) && decide (a.opt ≠ 3) && decide ((d.ctx u0).busy = []) &&
          match d.upSpans u0 ([(a.grad, 68 * ceilDiv a.n 32)] ++ (if a.masked then [(a.mask, 4 * ceilDiv a.n 32)] else [])),
            d.upSpans u0 ([(a.master, 4 * a.n)] ++ a.slots.map (fun b => (b, a.ssz * a.n)) ++ a.workSpans), d.upSpan u0 a.hyper 64 with
          | .ok rd, .ok wr, .ok hy => !anyMeet wr && (d.memWait u0 ((rd.flatten ++ wr.flatten ++ hy).map (fun l => (0, l)))).isNone &&
              !(d.upRead u0 c.index c.op hy).1
          | _, _, _ => false)
      | _ => false) = true) ∧
    (∃ c n d, Issues (shared u0 [] deriveSlots) u0 0x20 c n d ∧ (match d.exts u0 c n with
      | (.ok es, d') => d' == d && (let v := decodeDerive c es
          decide (v.kind < 2) && isMx v.fmt && decide (v.sparse = 0) && decide (v.master ≠ 0) && decide (v.dst ≠ 0) && decide (v.dscale ≠ 0) &&
          !d.beforeDecide u0 (c.w 1) &&
          match d.upSpan u0 v.master (4 * v.m * v.k), d.upSpan u0 v.spans.2.2.1 v.spans.2.2.2, d.upSpan u0 v.spans.1.1 v.spans.1.2,
            d.upSpan u0 v.spans.2.1.1 v.spans.2.1.2 with
          | .ok ml, .ok bl, .ok el, .ok sl => !locsMeet el sl && (d.memWait u0 ((ml ++ bl ++ el ++ sl).map (fun l => (0, l)))).isNone
          | _, _, _, _ => false)
      | _ => false) = true) :=
  ⟨issuesB_of (by decide +kernel), issuesB_of (by decide +kernel)⟩

/-- UP_APPLY of a program of one word that writes its operand 1, with the parameters that name it. -/
def progState : State :=
  dv (shared u0 [(K.TRK_QUOTA 0 15, 1)] [[], [cw 0x6010, 0, 0, 0] ++ ww (win 1) ++ ww (win 2), [cw 0x12, 0] ++ ww (win 3) ++ ww (win 4) ++ ww 0,
    [cw 0x12, 0] ++ ww (win 5)]) (fun (d : Dev) =>
      store (store d (5 * 4096 + 52) ([1, 0, 0, 0] ++ toLE 8 (win 6))) (6 * 4096) (toLE 4 (9 * 2 ^ 22 + 8 * 2 ^ 18)))

theorem wit_UpdatesIssue_program :
    (∃ c n d, Issues progState u0 0x10 c n d ∧ (match d.exts u0 c n with
      | (.ok es, d') => d' == d && (let a := decodeApply c es
          a.fieldsOk && decide (a.opt = 3) && !d.beforeDecide u0 (c.w 1) && a.reads 0 && a.reads 1 &&
          match d.upSpan u0 a.hyper 64 with
          | .ok hy => (let r := d.upRead u0 c.index c.op hy
              let h := r.2.hyper u0 a.hyper
              !r.1 && decide (h.prog ≠ 0) && decide (h.plen = 1) && (match r.2.upSpan u0 h.prog (4 * h.plen) with
                | .ok pl => (let r2 := r.2.upRead u0 c.index c.op pl
                    let prog := r2.2.upProgram u0 h
                    !r2.1 && prog.all (upUopOk a.has) && decide (a.written prog = [0]) &&
                    (match r2.2.upSpans u0 ((a.written prog).map (fun k => (a.base k, 4 * a.n)) ++ a.workSpans) with
                      | .ok wl => !anyMeet wl | .error _ => false))
                | .error _ => false))
          | .error _ => false)
      | _ => false) = true) := issuesB_of (by decide +kernel)

theorem wit_UpdatesIssue_derive :
    (∃ c n d, Issues (shared u0 [] [[], [cw 0x20, 0, 0x48000000, 0] ++ ww (win 1) ++ ww (win 2), [cw 0x12, 0] ++ ww (win 3)]) u0 0x20 c n d ∧
      (match d.exts u0 c n with | (.ok es, d') => d' == d && isMx (decodeDerive c es).fmt | _ => false) = true) :=
  issuesB_of (by decide +kernel)

theorem test_updates : (after (.upDerive 0 15)
    (dv (shared u0 [(K.TRK_QUOTA 0 15, 1)] deriveSlots) (fun (d : Dev) => store d 4096 [0, 0, 0x80, 0x3F]))).dev.get (K.UP_ELEMENTS 0) = 1 := by decide +kernel

/-- Channel 31, alone in its ring, for partition 15 and reduction engine 0. -/
def chan31 : List (Obj × Nat) :=
  [(K.CH_PART 31, 15), (K.CH_RDE 31, 0), (K.CH_SIZE 31, 1), (K.CH_MAX_BLOCKS 31, 16), (K.CH_RING_ID 31, 0x77), (K.HQ_BIND 63 5, 6),
   (K.CH_RX_BYTES 31, 4096), (K.CH_HOLD_LIMIT 31, 50)]
/-- RD_BUCKET of one element on it. -/
def bucketSlots : List (List Nat) :=
  [[], [cw 0x10 + 31 * 256, 0, 5 * 256, 0] ++ ww (win 1) ++ ww (win 2), [cw 0x12, 0, 400]]
/-- The reduction engine of partition 15. -/
def r0 : Eng := rde 0 15

theorem wit_Buckets :
    (∃ c n d, Issues (shared r0 chan31 bucketSlots) r0 0x10 c n d ∧ (match d.exts r0 c n with
      | (.ok es, d') => d' == d && (let x : Cmd := { index := 0, words := es.headD [], handle := none }
          let ch := bits (c.w 0) 12 8
          let b := decodeBucket c x
          decide (ch = 31) && decide ((d.chan ch).op = none) && !(d.chan ch).aborted.contains b.seq && decide (d.get (K.REPLAY_BASE 15) = 0) &&
          decide (d.get (K.MODE 15) ≠ 1) && decide (bits (c.w 2) 15 8 < 32) &&
          match d.bucketChecks r0 c x ch b with | .ok ls => (d.memWait r0 (ls.map (fun l => (0, l)))).isNone | .error _ => false)
      | _ => false) = true) ∧
    (∃ c n d, Issues (shared r0 chan31 [[], [cw 0x11 + 31 * 256, 0, 0]]) r0 0x11 c n d ∧
      (match d.repassChecks r0 c with
        | .ok _ => decide ((d.chan 31).op = none) && !(d.chan 31).aborted.contains (bits (c.w 2) 31 16) | .error _ => false) = true) :=
  ⟨issuesB_of (by decide +kernel), issuesB_of (by decide +kernel)⟩

theorem test_bucket_issues : ((after (.rdBucket 0 15) (shared r0 ((K.TRK_QUOTA 0 15, 1) :: chan31) bucketSlots)).dev.chan 31).op.isSome = true ∧
    (after (.rdBucket 0 15) (shared r0 ((K.TRK_QUOTA 0 15, 1) :: chan31) bucketSlots)).dev.get (K.CH_NEXT_SEQ 31) = 1 ∧
    (after (.rdRepass 0 15) (shared r0 chan31 [[], [cw 0x11 + 31 * 256, 0, 0]])).dev.get (K.CH_STATE 31) = 2 := by decide +kernel

/-- A bucket of one element with no carry. -/
def bk0 : Bucket := { seq := 0, n := 1, scatter := true, src := win 1, dst := win 2, carry := 0, entry := 0, cin := false, incl := false, held := false,
                      exps := [], owed := [], count := 0, nf := false, rounds := 0 }
/-- It is in flight, its contribution open. -/
def op0 : RingOp := { repass := false, eng := 0, part := 15, fl := { fly with op := 0x10, outs := [] }, bk := bk0, contrib := 400, readyQ := 5, bound := 0,
                      fate := none, holding := false, replay := none, scaleN := 0, rsN := 0, agN := 0, maxE := [], round := 0, stage := 0,
                      lists := [], kept := [], nfs := [], progR := [], progA := [], lost := false, inh := 0 }
/-- A channel with an operation. -/
def rung (l : List (Obj × Nat)) (c : Chan) : State := dv (shared r0 (chan31 ++ l) bucketSlots) (fun (d : Dev) => { d with chans := Map.set d.chans Chan.init 31 c })
/-- A channel with the operation alone. -/
def oping (o : RingOp) : Chan := { Chan.init with op := some o }
/-- A handle in the ready queue of slot 0. -/
def readied (s : State) (st : Nat) : State := dv s (fun (d : Dev) => d.setHq 63 5 [hdl st])

theorem wit_bucket_completes : ((rung [] (oping op0)).dev.chan 31).op = some op0 ∧ op0.lost = false ∧
    (rung [] (oping op0)).dev.sentAll 31 0 = true ∧ (rung [] (oping { op0 with fate := some true })).dev.bucketDone 31 { op0 with fate := some true } = true ∧
    (dv (rung [] (oping op0)) (fun (d : Dev) => d.setLink 63 { d.link 63 with buf := [sent0 0 0] })).dev.sentAll 31 0 = true := by decide +kernel

theorem wit_bucket_runs : op0.ended = false ∧ op0.part < 16 ∧ op0.eng < 8 ∧ op0.fl.hold ≤ 0 ∧
    ({ op0 with repass := true, stage := 2 } : RingOp).stage = 2 ∧ op0.fate = none := by decide +kernel

theorem test_bucket_completes :
    ((after (.bucketComplete 31) (rung [] (oping { op0 with fate := some true }))).dev.chan 31).done = 1 ∧
    ((after (.bucketComplete 31) (rung [] (oping op0))).dev.chan 31).op = some op0 ∧
    ((after (.bucketComplete 31) (rung [] (oping { op0 with repass := true, stage := 2 }))).dev.chan 31).op = none := by decide +kernel

theorem wit_ContributionsDecided : ((rung [] (oping op0)).dev.chan 31).op = some op0 ∧ (rung [] (oping op0)).dev.get (K.CH_PART 31) = op0.part ∧
    (rung [] (oping op0)).dev.get (K.CH_RDE 31) = op0.eng ∧ ((readied (rung [] (oping op0)) 0).dev.popReady 15 0 5).isSome = true ∧
    ((rung [] (oping op0)).dev.popReady 15 0 5).isNone = true ∧ (rung [] (oping op0)).dev.now < 400 ∧
    (rung [] (oping op0)).dev.get (K.MODE 15) = 0 ∧ (rung [(K.MODE 15, 2)] (oping op0)).dev.get (K.MODE 15) ≠ 0 ∧
    (rung [] (oping op0)).dev.get (K.EPOCH_NOW 15) + (400 + (rung [] (oping op0)).dev.get (K.CH_HOLD_LIMIT 31)) = 450 ∧
    ((readied (rung [] { oping op0 with late := [{ bk := bk0, readyQ := 5, bound := 0, eng := 0, carryOut := false }] }) 0).dev.popReady 15 0 5).isSome = true := by
  decide +kernel

theorem wit_late_contribution : ((rung [] { oping op0 with late := [{ bk := bk0, readyQ := 5, bound := 0, eng := 0, carryOut := false }] }).dev.chan 31).late =
      { bk := bk0, readyQ := 5, bound := 0, eng := 0, carryOut := false } :: [] ∧
    ({ bk := bk0, readyQ := 5, bound := 0, eng := 0, carryOut := false, lost := true } : LateRec).lost = true ∧
    ({ bk := bk0, readyQ := 5, bound := 0, eng := 0, carryOut := false } : LateRec).lost = false ∧
    ((rung [] (oping op0)).dev.chan 31).late = [] ∧ op0.readyQ ≠ 255 ∧ op0.replay = none ∧ op0.holding = false := by decide +kernel

/-- The fate of channel 31's bucket. -/
def fate (s : State) : Option (Option Bool × Bool) := (s.dev.chan 31).op.map (fun o => (o.fate, o.holding))

theorem test_contributions : fate (after (.contributionReady 31)
      (readied (dv (rung [] (oping op0)) (fun (d : Dev) => store d 4096 [0, 0, 0x80, 0x3F])) 0)) = some (some true, false) ∧
    fate (after (.contributionReady 31) (readied (rung [] (oping op0)) 4)) = some (some false, false) ∧
    fate (after (.contribDeadline 31) (atTick 400 (rung [] (oping op0)))) = some (none, true) ∧
    fate (after (.contribDeadline 31) (atTick 399 (rung [] (oping op0)))) = some (none, false) ∧
    fate (after (.contribDeadline 31) (atTick 400 (rung [(K.MODE 15, 2)] (oping op0)))) = some (some false, false) ∧
    fate (after (.holdLimitExpire 31) (atTick 450 (rung [] (oping { op0 with holding := true })))) = some (some false, false) ∧
    fate (after (.holdLimitExpire 31) (atTick 449 (rung [] (oping { op0 with holding := true })))) = some (none, true) ∧
    ((after (.lateContribution 31) (readied (rung [] { oping op0 with late := [{ bk := bk0, readyQ := 5, bound := 0, eng := 0, carryOut := false }] }) 0)).dev.chan
      31).late = [] := by decide +kernel

/-- A ring message of a kind, an attempt, a sequence number, on link 63, for a ring of two. -/
def ringMsg (kind att seq n : Nat) (items : List Nat) : Msg :=
  { vc := 2, dest := 0, src := 1, part := 15, priv := false, id := 1,
    payload := toLE 16 (0x77 * 2 ^ 112 + att * 2 ^ 104 + kind * 2 ^ 100 + seq * 2 ^ 55 + n * 2 ^ 43) ++ items }
/-- It comes to channel 31. -/
def arrives (c : Chan) (m : Msg) : State := inbox (rung [(K.CH_SIZE 31, 2), (K.CH_PRED 31, 1), (K.CH_SUCC 31, 1)] c) 63 m

theorem arrives_of {s : State} {kind : Nat} {m : Msg} (h : s.stopped = false ∧ (s.dev.takeRing 63 kind).map Prod.fst = some m) :
    ∃ d, Arrives s 63 kind m d := by
  obtain ⟨a, b⟩ := h
  cases e : s.dev.takeRing 63 kind with
  | none => rw [e] at b; cases b
  | some r =>
    rw [e] at b
    cases b
    exact ⟨r.2, by decide, a, e⟩

theorem wit_RingReceives : (∃ d, Arrives (arrives Chan.init (ringMsg 1 0 0 1 [0, 0, 0, 0])) 63 1 (ringMsg 1 0 0 1 [0, 0, 0, 0]) d) ∧
    (∃ d, Arrives (arrives (oping op0) (ringMsg 7 0 0 1 [])) 63 7 (ringMsg 7 0 0 1 []) d) ∧
    (arrives Chan.init (ringMsg 1 0 0 1 [0, 0, 0, 0])).dev.msgChannel (ringMsg 1 0 0 1 [0, 0, 0, 0]) = some 31 ∧
    (arrives Chan.init (ringMsg 1 0 0 1 [0, 0, 0, 0])).dev.msgChannel { ringMsg 1 0 0 1 [0, 0, 0, 0] with src := 5 } = none ∧
    (ringHdr (ringMsg 1 0 0 1 [0, 0, 0, 0]).payload).att = (arrives Chan.init (ringMsg 1 0 0 1 [])).dev.get (K.ATTEMPT 15) % 256 ∧
    (ringHdr (ringMsg 1 9 0 1 []).payload).att ≠ (arrives Chan.init (ringMsg 1 0 0 1 [])).dev.get (K.ATTEMPT 15) % 256 ∧
    (ringMsg 1 0 0 1 [0, 0, 0, 0]).payload.length ≤ (arrives Chan.init (ringMsg 1 0 0 1 [])).dev.get (K.CH_RX_BYTES 31) ∧
    (ringHdr (ringMsg 4 0 0 0 []).payload).round = op0.round ∧ (ringHdr (ringMsg 4 0 0 0 []).payload).seq = bk0.seq :=
  ⟨arrives_of (by decide +kernel), arrives_of (by decide +kernel), by decide +kernel⟩

theorem wit_RingReceives_operation :
    (∃ d, Arrives (arrives (oping { op0 with fate := some true }) (ringMsg 2 0 0 1 [])) 63 2 (ringMsg 2 0 0 1 []) d) ∧
    (∃ d, Arrives (arrives (oping { op0 with repass := true }) (ringMsg 4 0 0 0 [])) 63 4 (ringMsg 4 0 0 0 []) d) ∧
    (∃ d, Arrives (arrives (oping { op0 with repass := true, stage := 1 }) (ringMsg 5 0 0 1 [])) 63 5 (ringMsg 5 0 0 1 []) d) ∧
    (∃ d, Arrives (arrives Chan.init (ringMsg 3 9 0 1 [])) 63 3 (ringMsg 3 9 0 1 []) d) ∧
    (arrives Chan.init (ringMsg 1 0 0 1 [])).dev.get (K.CH_RDE 31) < 8 ∧ (arrives (oping op0) (ringMsg 7 0 0 1 [])).dev.get (K.CH_PART 31) = 15 ∧
    op0.ended = false ∧ Chan.init.rx = [] ∧ Chan.init.op = none ∧ Chan.init.aborted = [] ∧ Chan.init.done = 0 :=
  ⟨arrives_of (by decide +kernel), arrives_of (by decide +kernel), arrives_of (by decide +kernel), arrives_of (by decide +kernel), by decide +kernel⟩

theorem test_ring : ((after (.scale 63) (arrives Chan.init (ringMsg 1 0 0 1 [0, 0, 0, 0]))).dev.chan 31).rx.length = 1 ∧
    ((after (.rs 63) (arrives (oping { op0 with fate := some true }) (ringMsg 2 0 0 1 (List.replicate 66 0)))).dev.chan 31).op.map RingOp.rsN = some 1 ∧
    (after (.ag 63) (arrives Chan.init (ringMsg 3 9 0 1 []))).dev.get (K.CH_DISCARDS 31) = 1 ∧
    ((after (.list 63) (arrives (oping { op0 with repass := true }) (ringMsg 4 0 0 0 []))).dev.chan 31).rx = [] ∧
    (after (.repassRs 63) (arrives Chan.init { ringMsg 5 0 0 1 [] with src := 5 })).dev.log.recs.length = 1 ∧
    ((after (.repassAg 63) (arrives Chan.init (ringMsg 6 0 0 1 []))).dev.chan 31).rx.length = 1 ∧
    ((after (.abort 63) (arrives (oping op0) (ringMsg 7 0 0 1 []))).dev.chan 31).aborted = [0] := by decide +kernel

/-- Messages wait on link 0, of the engine's own port, and on link 63, its cross-port input; the engine served source `last` last, and
has taken `n` in this tick. -/
def twoSources (last n : Nat) : State :=
  dv (inbox (arrives Chan.init (ringMsg 2 0 0 1 [])) 0 (ringMsg 1 0 0 1 [])) (fun (d : Dev) =>
    { d with rdTurn := [(0, { last := last, tick := 0, taken := n })] })

theorem test_ring_rotation : ((after (.rs 63) (twoSources 8 0)).dev.chan 31).rx.length = 0 ∧ ((after (.scale 0) (twoSources 8 0)).dev.chan 31).rx.length = 1 ∧
    ((after (.rs 63) (twoSources 0 3)).dev.chan 31).rx.length = 1 ∧ ((after (.rs 63) (twoSources 0 4)).dev.chan 31).rx.length = 0 ∧
    (after (.rs 63) (twoSources 0 0)).dev.get (K.RD_CROSS 0) = 1 ∧ (after (.scale 0) (twoSources 8 0)).dev.get (K.RD_CROSS 0) = 0 := by decide +kernel

/-! ## Memories, records, numbers -/

theorem wit_MemoriesHold : Core.init.poison = [] ∧ (([(4, 1), (9, 2)] : List (Nat × Byte)).map Prod.fst).Nodup ∧
    ({ Core.init with poison := [(spKey 3 8 / 8, true)] } : Core).bad 3 9 = true ∧ (on []).dev.tableAt 5 = none ∧
    ({ Core.init with poison := [(spKey 3 8 / 8, true)] }.write 3 [(9, 7)]).2 = [1] := by decide +kernel

theorem wit_MemoriesHold_words : Core.init.flaw = [] ∧ Map.get (on []).dev.mem.accBad false (124 / 128) = false ∧ 124 % 4 = 0 ∧ 0xFFFFFFFF < 2 ^ 32 := by
  decide +kernel

theorem test_acc : (((on []).dev.writeAcc true ((List.range 4).map (fun i => (i, BitVec.ofNat 8 (0x3FC00000 / 256 ^ i))))).writeAcc true
    ((List.range 4).map (fun i => (i, BitVec.ofNat 8 (0x40000000 / 256 ^ i))))).mem.acc = [(2, 0x60), (3, 0x40)] := by decide +kernel

/-- A ring of two records of core 63's move engine. -/
def ringing : Dev := (parted 3 [(K.RING_BASE 63 2, 15 * 2 ^ 47 + 8192), (K.RING_SIZE 63 2, 2)] []).dev

theorem wit_RecordsKept : (match ringing.ringSlot (eng 3 63) (ringing.ctx (eng 3 63).home).gen with
    | (a, d') => a == 15 * 2 ^ 47 + 8192 && decide (d'.mem.poison = []) && (match d'.xlateRun (d'.engWho (eng 3 63)) a 16 with
      | .ok ls => ls.all (fun l => match l with | .hbm x => (d'.tableAt x).isNone | _ => false) && decide ls.Nodup | .error _ => false)) = true ∧
    (on []).dev.log.inMs < 64 ∧ ({ (on []).dev with log := { (on []).dev.log with inMs := 64 } } : Dev).log.ms = (on []).dev.now / 62500 := by decide +kernel

theorem wit_RecordsKept_here : ringing.ringLater (eng 3 63) (ringing.ctx (eng 3 63).home).gen = [] ∧
    bits (15 * 2 ^ 47 + 8192) 63 52 = ringing.get K.DEVICE_NUMBER ∧ (eng 3 63).ok = true ∧ ringing.now < 2 ^ 64 := by decide +kernel

theorem test_record : ((ringing.record (eng 3 63) 9 0x10 0 0).hbmByte 8192).toNat = 9 ∧
    (ringing.record (eng 3 63) 9 0x10 0 0).get (K.RING_POS 63 2) = 1 ∧
    ((on []).dev.file { cls := 8, syndrome := 1, aux := 2, unit := 3, index := 4, opcode := 5, status := 6, part := 15 }).log.recs.length = 1 := by
  decide +kernel

theorem wit_NumbersExact : f32 0x3F800000 ≠ .nan ∧ f32 0x7F800001 = .nan ∧ bf16 0x3F80 ≠ .nan ∧ f32 0x00000001 = .num false 1 (-149) ∧
    (Fv.num false 1 (-149)).lt (.num false 1 (0 - 32)) = true ∧ (madderOut 0 0).1 = 0 ∧ ([f32 0x7F800000].any Fv.nonfinite) = true := by decide +kernel

theorem test_numbers : f32Add 0x3F800000 0x40000000 = 0x40400000 ∧ f32Add 0x3F800000 0x33800000 = 0x3F800000 ∧
    f32Add 0x3F800001 0x33800000 = 0x3F800002 ∧ toBf16 (f32 0x3F818000) = 0x3F82 ∧ mxVal 4 0x7 127 = .num false 3 1 := by decide +kernel
end Sys2Proof.Tests
end

section
/-! Proofs: how the dictionary's server takes a request, once for each way a request can go (R47, R61 to R65). -/
namespace Sys2Proof.Machine

/-! ## Which requests the server takes, and how -/

theorem State.served_stopped {s : State} (h : s.served = true) : s.stopped = false := by
  simp only [State.served, Bool.and_eq_true, Bool.not_eq_true'] at h
  exact h.1

theorem exec_dictWrite (s : State) (q : Req) :
    exec (.dictWrite q) s = onState (q.hdr.port < 66) (fun s => s.serve opWRITE q) s := by rfl

theorem dictWrite_serve {s : State} {q : Req} (hp : q.hdr.port < 66) (hs : s.stopped = false) :
    exec (.dictWrite q) s = .next (s.serve opWRITE q) := by
  rw [exec_dictWrite, onState_next (decide_eq_true hp) hs]

/-- No request waits before it: the server takes this one alone. -/
theorem serve_first {s : State} {op : Nat} {q : Req} (hs : s.served = true) (hf : s.dev.earlier op q = []) :
    s.serve op q = s.serveOne op q := by
  simp [State.serve, hs, hf]

/-- The session that a request reaches does not depend on the buffer of its link. -/
theorem takeReq_sessionFor (d : Dev) (h : Hdr) (bs : List Nat) (x : Hdr) :
    (d.takeReq h bs).2.sessionFor x = d.sessionFor x :=
  sessionFor_objs (takeReq_objs d h bs) x

@[simp] theorem takeReq_session (d : Dev) (h : Hdr) (bs : List Nat) (n : Nat) :
    (d.takeReq h bs).2.session n = d.session n := by
  simp [Dev.session]

section
variable {s : State} {op : Nat} {q : Req} (hh : s.dev.foreignHost q.hdr = false)
include hh

theorem serveOne_outside (hn : s.dev.sessionFor q.hdr = none) :
    s.serveOne op q = (s.taken op q).reply q.hdr (s.carrier op q)
      (respOf op q q.hdr.session q.hdr.version (noAccess rsSESSION)) := by
  simp [State.serveOne, hh, takeReq_sessionFor, hn, State.taken, State.carrier]

theorem serveOne_kept {n : Nat} {e : List Nat × Resp} (hn : s.dev.sessionFor q.hdr = some n)
    (he : (s.dev.session n).tags.find? (fun e => e.1 == reqBytes op q) = some e) :
    s.serveOne op q = (s.taken op q).reply q.hdr (s.carrier op q) e.2 := by
  simp [State.serveOne, hh, takeReq_sessionFor, hn, he, State.taken, State.carrier]

theorem serveOne_fresh {n : Nat} (hn : s.dev.sessionFor q.hdr = some n)
    (he : (s.dev.session n).tags.find? (fun e => e.1 == reqBytes op q) = none) :
    s.serveOne op q =
      ((s.taken op q).perform n op q).2.conclude op q n (s.carrier op q) ((s.taken op q).perform n op q).1 := by
  simp [State.serveOne, hh, takeReq_sessionFor, hn, he, State.taken, State.carrier]

end

/-! ## A WRITE and its answer -/

/-- What `perform` makes of a WRITE that reaches its session is what the command answers. -/
theorem dictWrite_performed {s : State} {q : Req} {n : Nat} {a : Reply} {f : State → State} (h : Reaches s opWRITE q n)
    (hp : (s.taken opWRITE q).perform n opWRITE q = (a, f (s.taken opWRITE q))) :
    exec (.dictWrite q) s = .next (s.answered opWRITE q n a f) := by
  rw [dictWrite_serve h.port h.live, serve_reaches s opWRITE q n h, hp]
  rfl

/-- What `writeReq` makes of an admitted WRITE is what the command answers. -/
theorem dictWrite_answered {s : State} {q : Req} {n : Nat} {a : Reply} {f : State → State} (h : Admitted s opWRITE q n)
    (hw : (s.taken opWRITE q).writeReq n q = (a, f (s.taken opWRITE q))) :
    exec (.dictWrite q) s = .next (s.answered opWRITE q n a f) := by
  refine dictWrite_performed h.reaches ?_
  rw [perform_write _ _ _ (by rw [taken_get]; exact h.isOpen) (by rw [taken_get]; exact h.version), hw]

/-- Step 1 of R47: a session that is not negotiated, or another version. -/
theorem perform_write_unnegotiated {s : State} {n : Nat} {q : Req}
    (h : s.dev.get (K.SESSION_STATE n) ≠ 2 ∨ q.hdr.version ≠ s.dev.get (K.SESSION_VERSION n)) :
    s.perform n opWRITE q = (noAccess rsSESSION, s) := by
  simp [State.perform, opWRITE, opNEGOTIATE, h]

/-! ## The staging set (R51, R52) -/

/-- Where a staged key lies depends on the objects alone. -/
theorem Dev.resolve_objs {a b : Dev} (h : a.objs = b.objs) (key : Nat) : a.resolve key = b.resolve key := by
  simp [Dev.resolve, Dev.slotPlace, get_objs h]

@[simp] theorem taken_heldElsewhere (s : State) (op : Nat) (q : Req) (n key : Nat) :
    (s.taken op q).dev.heldElsewhere n key = s.dev.heldElsewhere n key := by
  simp [State.taken, Dev.heldElsewhere, Dev.resolve_objs (takeReq_objs ..)]

section
variable {d : Dev} {n : Nat} {e : Staged}

theorem stage_pending (h : (d.session n).state = 2) : d.stage n e = (noAccess rsPENDING, d) := by
  simp [Dev.stage, h]

theorem stage_elsewhere (h : (d.session n).state ≠ 2) (he : d.heldElsewhere n e.key = true) :
    d.stage n e = (noAccess rsELSE, d) := by
  simp [Dev.stage, h, he]

theorem stage_full (h : (d.session n).state ≠ 2) (he : d.heldElsewhere n e.key = false)
    (hl : 256 ≤ ((d.session n).staged.filter (fun y => y.key != e.key)).length) : d.stage n e = (noRange rsNONE, d) := by
  simp only [Dev.stage, if_neg h, he, Bool.false_eq_true, if_false, if_pos hl]

theorem stage_joins (h : (d.session n).state ≠ 2) (he : d.heldElsewhere n e.key = false)
    (hl : ((d.session n).staged.filter (fun y => y.key != e.key)).length < 256) :
    d.stage n e = (okReply, d.setSession n { d.session n with
      state := 1, staged := (d.session n).staged.filter (fun y => y.key != e.key) ++ [e] }) := by
  simp only [Dev.stage, if_neg h, he, Bool.false_eq_true, if_false, if_neg (Nat.not_le.mpr hl)]

end

/-! ## WRITE after steps 2 to 4 of R47 -/

section
variable {s : State} {q : Req} {n : Nat} {t : Target} (hf : s.dev.find n q.index q.sub true = .ok t)
include hf

theorem writeReq_length (hl : t.row.type.bytes ≠ some q.data.length) : s.writeReq n q = (noRange rsLENGTH, s) := by
  simp only [State.writeReq, hf, if_pos hl]

theorem writeReq_value (hl : t.row.type.bytes = some q.data.length)
    (hv : s.dev.rangeOk t.row q.index q.sub (ofLE q.data) = false) : s.writeReq n q = (noRange rsVALUE, s) := by
  simp [State.writeReq, hf, hl, hv]

theorem writeReq_stages {a : Reply} {d : Dev} (hl : t.row.type.bytes = some q.data.length)
    (hv : s.dev.rangeOk t.row q.index q.sub (ofLE q.data) = true) (hr : t.row.right (s.dev.principal n) = .rws)
    (hs : s.dev.stage n { key := t.key, val := ofLE q.data, dom := none } = (a, d)) :
    s.writeReq n q = (a, s.setDev d) := by
  simp [State.writeReq, hf, hl, hv, hr, hs]

end

/-! ## A kept response (R62) -/

@[simp] theorem reply_session (s : State) (h : Hdr) (m : Option Msg) (r : Resp) (n : Nat) :
    (s.reply h m r).dev.session n = s.dev.session n := by
  unfold Dev.session State.reply
  split
  · dsimp only
    split
    · exact congrArg (Map.get · _ n) (s.dev.send_side _ false).sessions
    · exact congrArg (Map.get · _ n) (s.dev.enqueue_side _ _).sessions
  · rfl

theorem cnt_requests_state (d : Dev) (n m k : Nat) :
    (d.cnt (K.SESSION_REQUESTS m) k).get (K.SESSION_STATE n) = d.get (K.SESSION_STATE n) :=
  d.get_put_ne _ (by simp only [K.SESSION_STATE, K.SESSION_REQUESTS]; omega)

/-- The response of an executed request stands before the fifteen latest of other TAGs. -/
theorem conclude_tags {s : State} {n : Nat} (op : Nat) (q : Req) (m : Option Msg) (a : Reply)
    (h : s.dev.get (K.SESSION_STATE n) ≠ 0) :
    ((s.conclude op q n m a).dev.session n).tags =
      ((reqBytes op q, respOf op q n (s.dev.get (K.SESSION_VERSION n)) a) ::
        (s.dev.session n).tags.filter (fun e => e.2.tag != q.hdr.tag)).take 16 := by
  have hs : (s.dev.cnt (K.SESSION_REQUESTS n) 1).session n = s.dev.session n := rfl
  simp only [State.conclude, reply_session, State.setDev_dev, cnt_requests_state, if_neg h, Dev.session_setSession_self, hs]

/-! ## The statements -/

/-- Settles O15: by what the staging set makes of the value, with the refusals of its length and range before it. -/
theorem writesStage : Obligations.WritesStage := by
  unfold Obligations.WritesStage
  intro s q n t hadm hf
  refine ⟨fun hl hv hr => ?_, fun hl => dictWrite_answered hadm (writeReq_length hf hl),
    fun hl hv => dictWrite_answered hadm (writeReq_value hf hl hv)⟩
  have hr' : t.row.right ((s.taken opWRITE q).dev.principal n) = .rws := by simpa [Dev.principal] using hr
  have staged {a : Reply} {f : Dev → Dev}
      (hs : (s.taken opWRITE q).dev.stage n { key := t.key, val := ofLE q.data, dom := none } = (a, f (s.taken opWRITE q).dev)) :
      exec (.dictWrite q) s = .next (s.answered opWRITE q n a (fun x => x.setDev (f x.dev))) :=
    dictWrite_answered hadm (writeReq_stages hf hl hv hr' hs)
  refine ⟨fun h2 he hk => ?joins, fun h2 => ?pending, fun h2 he => ?elsewhere, fun h2 he hk => ⟨rsNONE, ?full⟩⟩
  case joins =>
    exact staged (f := fun d => d.setSession n { d.session n with
      state := 1, staged := (d.session n).staged.filter (fun y => y.key != t.key) ++
        [{ key := t.key, val := ofLE q.data, dom := none }] })
      (stage_joins (by simpa using h2) (by simpa using he) (by simpa using hk))
  case pending => exact staged (f := id) (stage_pending (by simpa using h2))
  case elsewhere => exact staged (f := id) (stage_elsewhere (by simpa using h2) (by simpa using he))
  case full => exact staged (f := id) (stage_full (by simpa using h2) (by simpa using he) (by simpa using hk))

/-- Settles O17: by the three ways of a request that none waits before — a kept TAG, no session, a fresh request. -/
theorem requestsOnce : Obligations.RequestsOnce := by
  unfold Obligations.RequestsOnce
  intro s q n hp hserved hh hfirst
  have hx : exec (.dictWrite q) s = .next (s.serveOne opWRITE q) := by
    rw [dictWrite_serve hp (State.served_stopped hserved), serve_first hserved hfirst]
  refine ⟨fun e hn he => ?kept, fun hn => ?outside, fun hreach hneg => ?unnegotiated,
    fun op hn hop => ⟨fun e he => ?again, fun he => ?once⟩,
    fun op m a hopen => conclude_tags op q m a hopen⟩
  case kept => rw [hx, serveOne_kept hh hn he]
  case outside => rw [hx, serveOne_outside hh hn]
  case unnegotiated => exact dictWrite_performed hreach (perform_write_unnegotiated (by simpa using hneg))
  case again => rw [serve_first hserved hop, serveOne_kept hh hn he]
  case once => rw [serve_first hserved hop, serveOne_fresh hh hn he]

end Sys2Proof.Machine
end

section
/-! Proofs: what record keeping and the writes of a partition's memory leave of the object dictionary, and what follows of
fabric time: the pulse input (R80) and the epoch (R88). -/
namespace Sys2Proof.Machine

/-! ## The objects of fabric time and of schedules -/

/-- Every object below the cores' block reads in `b` as in `a`: those of fabric time (0x2000) and of the schedules (0x2100) lie
there, and no counter, syndrome or log object does. -/
def Dev.LowKept (a b : Dev) : Prop := ∀ o : Obj, o.key < 0x300000 → b.get o = a.get o

namespace Dev.LowKept

variable {a b c : Dev}

theorem of_objs (h : b.objs = a.objs) : Dev.LowKept a b := fun o _ => get_objs h o
theorem refl (a : Dev) : Dev.LowKept a a := of_objs rfl
theorem trans (h : Dev.LowKept a b) (g : Dev.LowKept b c) : Dev.LowKept a c := fun o ho => (g o ho).trans (h o ho)

theorem put (h : Dev.LowKept a b) (o : Obj) (v : Nat) (ho : 0x300000 ≤ o.key) : Dev.LowKept a (b.put o v) :=
  fun o' ho' => (b.get_put_ne v (by omega)).trans (h o' ho')

theorem cnt (h : Dev.LowKept a b) (o : Obj) (n : Nat) (ho : 0x300000 ≤ o.key) : Dev.LowKept a (b.cnt o n) := h.put o _ ho

/-- The same of a fold that carries more than the device. -/
theorem foldl_of {α β : Type} (g : α → Dev) (f : α → β → α) (l : List β) (h : ∀ x y, Dev.LowKept (g x) (g (f x y))) (x : α) :
    Dev.LowKept (g x) (g (l.foldl f x)) :=
  List.foldlRecOn (motive := fun y => Dev.LowKept (g x) (g y)) l f (refl _) (fun y hy z _ => hy.trans (h y z))

end Dev.LowKept

theorem Dev.wakeDom_low (d : Dev) (x : Nat) : Dev.LowKept d (d.wakeDom x) := by
  have hk : 0x300000 ≤ (K.DOM_LAST_WAKE x).key := by simp only [K.DOM_LAST_WAKE]; omega
  simp only [Dev.wakeDom]
  split
  · split
    · exact .refl d
    · exact .put (.of_objs rfl) _ _ hk
  · split
    · exact .refl d
    · exact .put (.of_objs rfl) _ _ hk

theorem Dev.notify_low (d : Dev) (ev st ix sub p : Nat) : Dev.LowKept d (d.notify ev st ix sub p) := by
  have henq : ∀ (x : Dev) l m, Dev.LowKept x (x.enqueue l m) := by
    intro x l m
    simp only [Dev.enqueue]
    split <;> exact (x.wakeDom_low _).trans (.of_objs rfl)
  simp only [Dev.notify, Dev.send]
  split
  · exact .trans (b := { d with msgId := d.msgId + 1 }) (.of_objs rfl) (henq _ _ _)
  · exact .of_objs rfl

/-- An error record moves objects of the log alone, and of the link that its NOTIFY wakes. -/
theorem Dev.file_low (d : Dev) (i : RecInfo) : Dev.LowKept d (d.file i) := by
  unfold Dev.file
  extract_lets ms n
  split
  · exact .cnt (.of_objs rfl) _ _ (by decide)
  · rename_i seq r d1 d2 d3 _
    have h2 : Dev.LowKept d d2 := .cnt (.of_objs rfl) _ _ (by decide)
    refine .trans (b := d3) ?_ (Dev.notify_low _ _ _ _ _ _)
    unfold d3
    split
    · exact h2.put _ _ (by simp only [K.PART_LOG_LAST]; omega)
    · exact h2

/-! ## The pulse (R80) -/

/-- Whether some schedule is armed is read off the schedules' states. -/
theorem Dev.anyArmed_congr {a b : Dev} (h : ∀ p < 16, b.get (K.SCHED_STATE p) = a.get (K.SCHED_STATE p)) :
    b.anyArmed = a.anyArmed := by
  unfold Dev.anyArmed
  rw [Bool.eq_iff_iff, List.any_eq_true, List.any_eq_true]
  refine exists_congr fun p => and_congr_right fun hp => ?_
  rw [h p (List.mem_range.mp hp)]

theorem Dev.mayStep_armed {d : Dev} (h : d.anyArmed = true) : d.mayStep = false := by simp [Dev.mayStep, h]

/-- A device with the phase of a pulse recorded: a phase beyond a tick has its record (R80). -/
def Dev.pulsed (d : Dev) (e : Int) : Dev :=
  let d := d.put K.FT_PPS_ERROR (ofSigned 32 e)
  if 256 < e.natAbs then d.ftRecord 5 0 (ofSigned 32 e) else d

theorem Dev.pulsed_side (d : Dev) (e : Int) : Dev.Side d (d.pulsed e) := by
  unfold Dev.pulsed
  dsimp only
  split
  · exact (d.put_side _ _).trans (Dev.file_side _ _)
  · exact d.put_side _ _

theorem Dev.pulsed_low (d : Dev) (e : Int) : Dev.LowKept (d.put K.FT_PPS_ERROR (ofSigned 32 e)) (d.pulsed e) := by
  unfold Dev.pulsed
  dsimp only
  split
  · exact Dev.file_low _ _
  · exact .refl _

/-- The record of a phase leaves every schedule's state. -/
theorem Dev.pulsed_anyArmed (d : Dev) (e : Int) : (d.pulsed e).anyArmed = d.anyArmed := by
  refine Dev.anyArmed_congr fun p hp => ?_
  rw [d.pulsed_low e _ (by simp only [K.SCHED_STATE]; omega),
    d.get_put_ne _ (by simp only [K.SCHED_STATE, K.FT_PPS_ERROR]; omega)]

/-- A pulse at a root of role 1 that finds nothing in FT_SET, or a schedule armed, records its phase and does no more. -/
theorem Dev.ftppsEdge_pulsed {d : Dev} (x : Int) (hr : d.get K.FT_ROLE = 1) (h : d.ft.pend = none ∨ d.anyArmed = true) :
    d.ftppsEdge x = d.pulsed (d.ppsError x) := by
  have he : d.ftppsEdge x = match (d.pulsed (d.ppsError x)).ft.pend with
      | some v => if (d.pulsed (d.ppsError x)).mayStep
          then ({ d.pulsed (d.ppsError x) with ft := { (d.pulsed (d.ppsError x)).ft with pend := none } } : Dev).stepTo v
          else d.pulsed (d.ppsError x)
      | none => d.pulsed (d.ppsError x) := by
    simp only [Dev.ftppsEdge, hr, ne_eq, not_true_eq_false, if_false]
    rfl
  rw [he, (d.pulsed_side _).ft]
  rcases h with hn | ha
  · rw [hn]
  · rw [Dev.mayStep_armed (by rw [d.pulsed_anyArmed, ha])]
    split <;> rfl

theorem exec_ftppsEdge (x : Int) (s : State) : exec (.ftppsEdge x) s = onDev (fun d => d.ftppsEdge x) s := by rfl

/-- Settles O27: the record of the phase leaves the schedules' states, so that with one armed the counter may not step. -/
theorem pulseEdges : Obligations.PulseEdges := by
  unfold Obligations.PulseEdges
  rintro s x d1 d2 hs hr rfl hd2
  obtain rfl : d2 = s.dev.pulsed (s.dev.ppsError x) := hd2
  refine ⟨fun h => ?_, (s.dev.pulsed_side _).now, ?_⟩
  · rw [exec_ftppsEdge, onDev_next hs, Dev.ftppsEdge_pulsed x hr h]
  · rw [s.dev.pulsed_low _ K.FT_PPS_ERROR (by decide), Dev.get_put_self]

end Sys2Proof.Machine
end

section
/-! Proofs: the epoch of an attempt (R88). What the opening of an attempt writes to its partition's memory moves no object of a
schedule. -/
namespace Sys2Proof.Machine

/-! ## What a write to memory leaves -/

theorem Dev.LowKept.foldl {β : Type} (f : Dev → β → Dev) (l : List β) (h : ∀ d x, Dev.LowKept d (f d x)) (d : Dev) :
    Dev.LowKept d (l.foldl f d) := Dev.LowKept.foldl_of id f l h d

theorem Dev.stain_low (d : Dev) (kind unit p : Nat) : Dev.LowKept d (d.stain kind unit p).2.2 := by
  unfold Dev.stain
  refine Dev.LowKept.foldl_of (fun a : Nat × Nat × Dev => a.2.2) _ _ (fun x y => ?_) (0, 0, d)
  dsimp only
  split
  · exact .cnt (.of_objs rfl) _ _ (by simp only [K.STAIN_APPLIED]; omega)
  · exact .of_objs rfl

theorem Dev.cacheTouch_low (d : Dev) (line : Nat) (w al : Bool) (m : Nat) : Dev.LowKept d (d.cacheTouch line w al m) := by
  have hk : ∀ q, 0x300000 ≤ (K.SC_HITS q).key ∧ 0x300000 ≤ (K.SC_MISSES q).key ∧ 0x300000 ≤ (K.SC_WRITEBACKS q).key := by
    intro q; simp only [K.SC_HITS, K.SC_MISSES, K.SC_WRITEBACKS]; omega
  unfold Dev.cacheTouch
  extract_lets k own q base tree putLine d1 d2 pages allowed free way victim d3
  have h2 : Dev.LowKept d d2 := by
    have h1 : Dev.LowKept d d1 := (Dev.LowKept.refl d).cnt _ _ (hk q).2.1
    unfold d2
    split
    · exact h1
    · exact h1.trans (.of_objs rfl)
  have h3 : Dev.LowKept d d3 := by
    unfold d3
    split
    · exact (h2.trans (.of_objs (b := d2.activate victim.line) rfl)).cnt _ _ (hk q).2.2
    · exact h2
  split
  · exact .refl d
  split
  · exact .cnt (.of_objs rfl) _ _ (hk q).1
  split
  · exact h2
  · exact h3.trans (.of_objs rfl)

theorem Dev.setHbmByte_low (d : Dev) (x : Nat) (b : Byte) : Dev.LowKept d (d.setHbmByte x b) := by
  unfold Dev.setHbmByte
  split <;> exact .of_objs rfl

theorem Dev.setBytes_low {β : Type} (f : β → Nat) (g : β → Byte) (l : List β) (d : Dev) :
    Dev.LowKept d (l.foldl (fun d b => d.setHbmByte (f b) (g b)) d) :=
  .foldl _ l (fun d _ => d.setHbmByte_low _ _) d

theorem Dev.setMem_low (d : Dev) (m : Mem) : Dev.LowKept d { d with mem := m } := .of_objs rfl

theorem Dev.noteDelay_low (d : Dev) (t : Nat) : Dev.LowKept d (d.noteDelay t) := .of_objs rfl

theorem Dev.writeLine_low (d : Dev) (s : Iss) (line : Nat) (bs : List (Nat × Byte)) : Dev.LowKept d (d.writeLine s line bs).2 := by
  simp only [Dev.writeLine]
  refine .trans ?_ (Dev.noteDelay_low _ _)
  refine .trans ?_ (Dev.stain_low _ _ _ _)
  refine .trans ?_ (Dev.cacheTouch_low _ _ _ _ _)
  refine .trans ?_ (Dev.setBytes_low _ _ _ _)
  split
  · exact (Dev.setMem_low _ _).trans (Dev.setBytes_low _ _ _ _)
  · exact Dev.setMem_low _ _

theorem Dev.spRecords_low (d : Dev) (c mem e idx op : Nat) (ws : List Nat) : Dev.LowKept d (d.spRecords c mem e idx op ws) := by
  refine .foldl _ _ (fun d w => ?_) d
  have hk : 0x300000 ≤ (K.SP_UNCORR c).key ∧ 0x300000 ≤ (K.LAST_SYNDROME c).key := by
    simp only [K.SP_UNCORR, K.LAST_SYNDROME]; omega
  exact (((Dev.LowKept.refl d).cnt _ _ hk.1).trans (Dev.file_low _ _)).put _ _ hk.2

theorem Dev.meter_low (d : Dev) (p : Nat) (w : Bool) (n : Nat) : Dev.LowKept d (d.meter p w n) := by
  refine .of_objs ?_
  unfold Dev.meter Dev.charge
  dsimp only
  (repeat' split) <;> rfl

theorem Dev.writeRun_low (d : Dev) (s : Iss) (e : Nat) (bs : List (Loc × Byte)) : Dev.LowKept d (d.writeRun s e bs).2 := by
  simp only [Dev.writeRun]
  refine Dev.LowKept.trans ?_ (Dev.meter_low _ _ _ _)
  refine Dev.LowKept.foldl_of (fun a : Bool × Dev => a.2) _ _ (fun x y => ?_) (false, d)
  cases y with
  | line n g => exact x.2.writeLine_low s n g
  | acc v g => exact .of_objs rfl
  | sp c m g => exact .trans (b := x.2.setCore c _) (.of_objs rfl) (Dev.spRecords_low _ _ _ _ _ _ _)
  | far => exact .refl _

theorem Dev.writeWin_low (d : Dev) (s : Iss) (w : Who) (a : Nat) (bs : List Nat) : Dev.LowKept d (d.writeWin s w a bs).2 := by
  unfold Dev.writeWin
  split
  · exact .refl d
  · split
    · exact .refl d
    · exact d.writeRun_low _ _ _

/-! ## The epoch (R88) -/

theorem Dev.ledgerOpen_low (d : Dev) (p : Nat) : Dev.LowKept d (d.ledgerOpen p) := by
  unfold Dev.ledgerOpen
  extract_lets q d1 hdr
  have h1 : Dev.LowKept d d1 := .of_objs rfl
  split
  · exact h1
  · exact h1.trans (d1.writeWin_low _ _ _ _)

theorem Dev.beginAttempt_epoch (d : Dev) {p : Nat} (hp : p < 16) : (d.beginAttempt p).get (K.EPOCH_NOW p) = d.epochOf p := by
  unfold Dev.beginAttempt
  extract_lets s d1 q d2
  rw [d2.ledgerOpen_low p _ (by simp only [K.EPOCH_NOW]; omega)]
  exact d.get_put_self _ _

/-- HELD_TICKS of a running attempt moves its epoch. -/
theorem Dev.hold_epoch (d : Dev) (p n : Nat) (h : d.get (K.SCHED_STATE p) = 3) :
    (d.hold p n).get (K.EPOCH_NOW p) =
      d.get (K.BASE_EPOCH p) + d.get (K.ATTEMPT p) * d.get (K.PERIOD p) + (d.hold p n).get (K.HELD_TICKS p) := by
  have hne : ∀ o : Obj, o.key ≠ (K.HELD_TICKS p).key → (d.cnt (K.HELD_TICKS p) n).get o = d.get o :=
    fun o ho => d.get_put_ne _ ho
  have hold : d.hold p n = (d.cnt (K.HELD_TICKS p) n).put (K.EPOCH_NOW p) ((d.cnt (K.HELD_TICKS p) n).epochOf p) := by
    unfold Dev.hold
    dsimp only
    rw [hne _ (by simp [K.SCHED_STATE, K.HELD_TICKS]), if_pos h]
  rw [hold, Dev.get_put_self, Dev.get_put_ne _ _ (by simp [K.HELD_TICKS, K.EPOCH_NOW])]
  unfold Dev.epochOf
  rw [hne (K.BASE_EPOCH p) (by simp [K.BASE_EPOCH, K.HELD_TICKS]), hne (K.ATTEMPT p) (by simp [K.ATTEMPT, K.HELD_TICKS]),
    hne (K.PERIOD p) (by simp [K.PERIOD, K.HELD_TICKS])]

theorem Dev.release_of_part {d : Dev} {e : Eng} {p : Nat} (w : Nat) (hp : p < 16) (h : d.engPart e = p) :
    d.release e w = d.get (K.EPOCH_NOW p) + w := by
  simp [Dev.release, h, hp]

end Sys2Proof.Machine
end

section
/-! Proofs: the order in which the head of a core engine's list comes to its issue (R27), a lemma for each way it can go. -/
namespace Sys2Proof.Machine

/-! ## Taking a handle (R30, R31) -/

/-- The device once engine `e` has popped `h` from queue `q` of its core and left `r` there. -/
def Dev.popped (d : Dev) (e : Eng) (q : Nat) (h : Handle) (r : List Handle) : Dev :=
  (d.setHq e.n q r).setCtx e { d.ctx e with popped := some h }

theorem queueCore_core {d : Dev} {e : Eng} (he : e.isCore = true) : d.queueCore e = some e.n := by simp [Dev.queueCore, he]

@[simp] theorem popFor_unqueued (d : Dev) (e : Eng) : d.popFor e 255 = some (none, d) := by simp [Dev.popFor]

section
variable {d : Dev} {e : Eng} {q : Nat} (he : e.isCore = true) (hq : q < 32) (hp : (d.ctx e).popped = none)
include he hq hp

theorem popFor_empty (hl : d.hq e.n q = []) : d.popFor e q = none := by
  simp [Dev.popFor, queueCore_core he, hp, hl, show q ≠ 255 by omega]

theorem popFor_unseen {h : Handle} {r : List Handle} (hl : d.hq e.n q = h :: r) (hv : d.cyclesEnd (quadOf e.n) ≤ h.vis) :
    d.popFor e q = none := by
  simp [Dev.popFor, queueCore_core he, hp, hl, hv, show q ≠ 255 by omega]

theorem popFor_takes {h : Handle} {r : List Handle} (hl : d.hq e.n q = h :: r) (hv : h.vis < d.cyclesEnd (quadOf e.n)) :
    d.popFor e q = some (some h, d.popped e q h r) := by
  simp [Dev.popFor, queueCore_core he, hp, hl, Nat.not_le.mpr hv, show q ≠ 255 by omega, Dev.popped, Dev.setHq_ctx]

end

section
variable (d : Dev) (e : Eng) (q : Nat) (h : Handle) (r : List Handle)

@[simp] theorem popped_get (o : Obj) : (d.popped e q h r).get o = d.get o := Dev.get_setCtx _ _ _ _
@[simp] theorem popped_cyc : (d.popped e q h r).cyc = d.cyc := Dev.setCtx_cyc _ _ _
@[simp] theorem popped_ctx : (d.popped e q h r).ctx e = { d.ctx e with popped := some h } := Dev.ctx_setCtx_self _ _ _
@[simp] theorem popped_engPart : (d.popped e q h r).engPart e = d.engPart e := by simp [Dev.engPart]
@[simp] theorem popped_cyclesEnd (i : Nat) : (d.popped e q h r).cyclesEnd i = d.cyclesEnd i := by simp [Dev.cyclesEnd]

/-- The queue is left with the handles behind the one taken. -/
@[simp] theorem popped_hq : (d.popped e q h r).hq e.n q = r := by
  rw [Dev.popped, Dev.hq_setCtx, Dev.hq_setHq_self]

theorem popped_sched (he : e.isCore = true) (p : Nat) : (d.popped e q h r).sched p = d.sched p := by
  simp [Dev.popped, Dev.setCtx, Dev.setHq, Dev.sched, he]

theorem popped_zeroTill (he : e.isCore = true) : ((d.popped e q h r).core e.n).zeroTill = (d.core e.n).zeroTill := by
  simp [Dev.popped, Dev.setCtx, Dev.setHq, he]

theorem popped_issueCycle (he : e.isCore = true) (x : Option Handle) : (d.popped e q h r).issueCycle e x = d.issueCycle e x := by
  simp [Dev.issueCycle, Dev.cycles, popped_zeroTill, he]

theorem popped_commitGate (he : e.isCore = true) (w : Nat) : (d.popped e q h r).commitGate e w = d.commitGate e w := by
  simp [Dev.commitGate, popped_sched, he]

theorem popped_issuable (c : Cmd) : (d.popped e q h r).issuable e { c with handle := some h } = d.issuable e c := by
  simp [Dev.issuable, Dev.ownedSlots, Cmd.op, Cmd.w]

end

/-! ## The head of a list -/

/-- Command `c`, which an event that accepts the opcodes `acc` may issue, stands at the head of the list of a running engine. -/
structure Dev.AtHead (d : Dev) (e : Eng) (acc : Nat → Bool) (c : Cmd) : Prop where
  running : d.running e = true
  fetched : (d.ctx e).fetched = true
  started : 1 ≤ (d.ctx e).index
  listed : (d.ctx e).index ≤ (d.ctx e).count
  noRerun : e.k = 1 → (d.core e.n).reruns = []
  read : (d.slot e (d.ctx e).index).1 = .ok c.words
  index : c.index = (d.ctx e).index
  fresh : c.handle = none
  known : opKnown e.k c.op = true
  accepted : acc c.op = true

/-- The head is released, and its LATE_SLACK and its segment are not over; nothing but its queue and its engine's cycle keeps it
from its issue. -/
structure Dev.Released (d : Dev) (e : Eng) (acc : Nat → Bool) (c : Cmd) : Prop extends Dev.AtHead d e acc c where
  inPeriod : d.engPart e < 16 → c.w 1 < d.get (K.PERIOD (d.engPart e))
  noDoubt : d.inDoubt e (c.w 1) = false
  due : d.release e (c.w 1) ≤ d.now
  inSlack : d.now ≤ d.release e (c.w 1) + (d.sched (d.engPart e)).slack
  inSegment : d.pastEnd e (c.w 1) = false
  waits : d.waitOk e c = true
  signals : c.signalOk = true
  decided : d.commitGate e (c.w 1) = none

theorem signalOk_iff (c : Cmd) : c.signalOk = true ↔ c.sigQ < 32 ∨ c.sigQ = 255 := by simp [Cmd.signalOk]

theorem waitOk_none {d : Dev} {e : Eng} {c : Cmd} (h : c.waitQ = 255) : d.waitOk e c = true := by simp [Dev.waitOk, h]

theorem waitOk_bound {d : Dev} {e : Eng} {c : Cmd} (he : e.isCore = true) (h : c.waitQ < 32)
    (hb : d.get (K.HQ_BIND e.n c.waitQ) = e.k) : d.waitOk e c = true := by
  simp [Dev.waitOk, h, queueCore_core he, hb]

/-- Within its slack and its segment no head is late (R97). -/
theorem noteLate_intime {d : Dev} {e : Eng} {c : Cmd} (hs : d.now ≤ d.release e (c.w 1) + (d.sched (d.engPart e)).slack)
    (hp : d.pastEnd e (c.w 1) = false) : d.noteLate e c = d := by
  simp [Dev.noteLate, Nat.not_lt.mpr hs, hp]

theorem ownedSlots_whole {d : Dev} {e : Eng} {c : Cmd} (h : (d.ownedSlots e c).2 = true) :
    (d.ownedSlots e c).1 = slotsOf e.k c.op (c.w 2) := by
  unfold Dev.ownedSlots at h ⊢
  dsimp only at h ⊢
  split at h
  · cases h
  · rw [if_neg ‹_›]

theorem issuable_slots {d : Dev} {e : Eng} {c : Cmd} (h : d.issuable e c = true) :
    (d.ownedSlots e c).1 = slotsOf e.k c.op (c.w 2) := by
  simp only [Dev.issuable, Bool.and_eq_true] at h
  exact ownedSlots_whole h.2

section
variable {d : Dev} {e : Eng} {acc : Nat → Bool} {c : Cmd}

theorem Dev.AtHead.cmd_eq (h : d.AtHead e acc c) : { index := (d.ctx e).index, words := c.words, handle := none } = c := by
  rw [← h.index, ← h.fresh]

/-- Nothing stands before the head: neither a list that is not read nor a pass that waits for its reissue. -/
theorem Dev.AtHead.unblocked (h : d.AtHead e acc c) :
    (!d.running e || !(d.ctx e).fetched || decide ((d.ctx e).index = 0) || decide ((d.ctx e).count < (d.ctx e).index) ||
      (decide (e.k = 1) && !(d.core e.n).reruns.isEmpty)) = false := by
  have hi : (d.ctx e).index ≠ 0 := Nat.one_le_iff_ne_zero.mp h.started
  by_cases hk : e.k = 1
  · simp [h.running, h.fetched, hi, h.listed, h.noRerun hk]
  · simp [h.running, h.fetched, hi, h.listed, hk]

theorem Dev.AtHead.slot_eq (h : d.AtHead e acc c) : ∃ x, d.slot e (d.ctx e).index = (.ok c.words, x) := ⟨_, Prod.ext h.read rfl⟩

theorem ready_pastPeriod (h : d.AtHead e acc c) (hp : d.engPart e < 16) (hw : d.get (K.PERIOD (d.engPart e)) ≤ c.w 1) :
    d.ready e acc = .wait (d.reject e c (d.ownedSlots e c).1 stRANGE) := by
  obtain ⟨x, hx⟩ := h.slot_eq
  simp [Dev.ready, h.unblocked, hx, h.cmd_eq, h.accepted, hp, hw]

/-- The test of R88 that a word 1 within its period passes. -/
theorem inPeriod_passes (h : d.engPart e < 16 → c.w 1 < d.get (K.PERIOD (d.engPart e))) :
    (decide (d.engPart e < 16) && decide (d.get (K.PERIOD (d.engPart e)) ≤ c.w 1)) = false := by
  simpa using h

theorem ready_early (h : d.AtHead e acc c) (hp : d.engPart e < 16 → c.w 1 < d.get (K.PERIOD (d.engPart e)))
    (hd : d.inDoubt e (c.w 1) = false) (hr : d.now < d.release e (c.w 1)) : d.ready e acc = .wait d := by
  obtain ⟨x, hx⟩ := h.slot_eq
  simp [Dev.ready, -Bool.and_eq_true, h.unblocked, hx, h.cmd_eq, h.accepted, inPeriod_passes hp, hd, hr]

theorem stopsHead_none (h : d.commitGate e (c.w 1) = none) : d.stopsHead e (c.w 1) = none := by simp [Dev.stopsHead, h]

/-- A released head without its handle waits. -/
theorem ready_unpopped (h : d.Released e acc c) (hq : d.popFor e c.waitQ = none) : d.ready e acc = .wait d := by
  obtain ⟨x, hx⟩ := h.slot_eq
  simp [Dev.ready, -Bool.and_eq_true, h.unblocked, hx, h.cmd_eq, h.accepted, inPeriod_passes h.inPeriod, h.noDoubt,
    Nat.not_lt.mpr h.due, stopsHead_none h.decided, noteLate_intime h.inSlack h.inSegment, h.waits, hq]

/-- A released head with its handle `x`, or with none to wait for, has three ways: its engine's cycle is not free, the handle's
status ends it, or it comes to its issue. -/
theorem ready_popped {x : Option Handle} {t : Dev} (h : d.Released e acc c) (hq : d.popFor e c.waitQ = some (x, t))
    (hg : t.commitGate e (c.w 1) = none) :
    d.ready e acc =
      if t.cyclesEnd e.quad ≤ t.issueCycle e x then .wait t
      else if (x.map Handle.status).getD 0 ≠ 0 then
        .wait ((t.setCtx e { t.ctx e with late := false, gated := false }).reject e { c with handle := x }
          (d.ownedSlots e c).1 ((x.map Handle.status).getD 0))
      else .go { c with handle := x } (d.ownedSlots e c).1 t := by
  obtain ⟨y, hy⟩ := h.slot_eq
  have hc : ({ c with handle := x } : Cmd) = { index := (d.ctx e).index, words := c.words, handle := x } := by rw [← h.index]
  have hw : Cmd.w { index := (d.ctx e).index, words := c.words, handle := x } 1 = c.w 1 := rfl
  have hs : Cmd.signalOk { index := (d.ctx e).index, words := c.words, handle := x } = true := h.signals
  rw [hc]
  simp [Dev.ready, -Bool.and_eq_true, h.unblocked, hy, h.cmd_eq, h.accepted, inPeriod_passes h.inPeriod, h.noDoubt,
    Nat.not_lt.mpr h.due, stopsHead_none h.decided, noteLate_intime h.inSlack h.inSegment, h.waits, hq, hw, hg, hs,
    stopsHead_none]

end

/-! ## The head of a core engine -/

theorem head_wait {d t : Dev} {e : Eng} {acc : Nat → Bool} (h : d.ready e acc = .wait t) : d.head e acc = .wait t := by
  simp [Dev.head, h]

theorem head_go {d t : Dev} {e : Eng} {acc : Nat → Bool} {c : Cmd} {n : Nat} (h : d.ready e acc = .go c n t)
    (hi : t.issuable e c = true) : d.head e acc = .go c n t := by
  simp [Dev.head, h, hi]

section
variable {d : Dev} {e : Eng} {acc : Nat → Bool} {c : Cmd} (h : d.Released e acc c)
include h

/-- A command that waits for no queue issues in its engine's next free cycle. -/
theorem head_unqueued (hi : d.issuable e c = true) (hq : c.waitQ = 255) :
    d.head e acc = if d.issueCycle e none < d.cyclesEnd e.quad then .go c (slotsOf e.k c.op (c.w 2)) d else .wait d := by
  have hr := ready_popped h (hq ▸ popFor_unqueued d e) h.decided
  have hc : { c with handle := none } = c := by rw [← h.fresh]
  by_cases hf : d.issueCycle e none < d.cyclesEnd e.quad
  · rw [if_pos hf]
    rw [if_neg (Nat.not_le.mpr hf), if_neg (show ¬(Option.map Handle.status none).getD 0 ≠ 0 by simp), hc,
      issuable_slots hi] at hr
    exact head_go hr hi
  · rw [if_neg hf]
    rw [if_pos (Nat.not_lt.mp hf)] at hr
    exact head_wait hr

section
variable (he : e.isCore = true) (hq : c.waitQ < 32) (hp : (d.ctx e).popped = none) {x : Handle} {r : List Handle}
  (hl : d.hq e.n c.waitQ = x :: r) (hv : x.vis < d.cyclesEnd (quadOf e.n)) (hf : d.issueCycle e (some x) < d.cyclesEnd e.quad)
  (hi : d.issuable e c = true)
include he hq hp hl hv hf hi

/-- What R27 makes of the handle that a head takes. -/
theorem ready_takes : d.ready e acc =
    if x.status ≠ stOK then
      .wait (((d.popped e c.waitQ x r).setCtx e { (d.popped e c.waitQ x r).ctx e with late := false, gated := false }).reject e
        { c with handle := some x } (slotsOf e.k c.op (c.w 2)) x.status)
    else .go { c with handle := some x } (slotsOf e.k c.op (c.w 2)) (d.popped e c.waitQ x r) := by
  rw [ready_popped h (popFor_takes he hq hp hl hv) (by rw [popped_commitGate _ _ _ _ _ he, h.decided]), if_neg,
    issuable_slots hi]
  · rfl
  · rw [popped_cyclesEnd, popped_issueCycle _ _ _ _ _ he]
    exact Nat.not_le.mpr hf

/-- A handle with status OK is taken, and its command comes to its issue. -/
theorem head_takes (hs : x.status = stOK) :
    d.head e acc = .go { c with handle := some x } (slotsOf e.k c.op (c.w 2)) (d.popped e c.waitQ x r) := by
  refine head_go ?_ ((popped_issuable _ _ _ _ _ _).trans hi)
  rw [ready_takes h he hq hp hl hv hf hi, if_neg (not_not_intro hs)]

/-- A handle with another status ends its command unissued. -/
theorem head_ended (hs : x.status ≠ stOK) :
    ∃ t, d.head e acc = .wait t ∧ (t.ctx e).index = (d.ctx e).index + slotsOf e.k c.op (c.w 2) := by
  refine ⟨_, head_wait ((ready_takes h he hq hp hl hv hf hi).trans (if_pos hs)), ?_⟩
  rw [Dev.reject_index, Dev.ctx_setCtx_self, popped_ctx]

end
end

/-- Settles O43: the epoch by what an attempt's opening and HELD_TICKS write, the head by the ways of a released one. -/
theorem issueOrder : Obligations.IssueOrder := by
  unfold Obligations.IssueOrder
  refine ⟨fun d p n hp => ⟨d.beginAttempt_epoch hp, d.hold_epoch p n, fun e w he => Dev.release_of_part w hp he⟩, ?_⟩
  rintro d e acc ws d' c rfl he hrun hfet hone hcount hrr hslot hknown hacc
  set c : Cmd := { index := (d.ctx e).index, words := ws, handle := none } with hc
  have hh : d.AtHead e acc c := ⟨hrun, hfet, hone, hcount, hrr, by rw [hslot], rfl, rfl, hknown, hacc⟩
  refine ⟨fun hp hw => head_wait (ready_pastPeriod hh hp hw),
    fun hp hd => ⟨fun hn => head_wait (ready_early hh hp hd hn), fun hdue hslack hend hsig hgate hiss => ?released⟩⟩
  have released (hw : d.waitOk e c = true) : d.Released e acc c :=
    ⟨hh, hp, hd, hdue, hslack, hend, hw, (signalOk_iff c).mpr hsig, hgate⟩
  refine ⟨fun hq => head_unqueued (released (waitOk_none hq)) hiss hq, fun hq hbind hpop => ?queued⟩
  have hr := released (waitOk_bound he hq hbind)
  refine ⟨fun hl => ?empty, fun x r hl hv hf hs => ?takes, fun x r hl hv hf hs => ?ended, fun x r hl hv => ?unseen⟩
  case empty => exact head_wait (ready_unpopped hr (popFor_empty he hq hpop hl))
  case takes =>
    exact ⟨_, head_takes hr he hq hpop hl hv hf hiss hs, popped_hq _ _ _ _ _, by rw [popped_ctx]⟩
  case ended => exact head_ended hr he hq hpop hl hv hf hiss hs
  case unseen => exact head_wait (ready_unpopped hr (popFor_unseen he hq hpop hl hv))

end Sys2Proof.Machine
end

section
/-! Proofs: the exactness of the number formats (R108, R113, R119, R127 to R130). A finite number of a format is a significand and a
biased exponent; packing and unpacking are inverse to each other on those, at the format's own width and at a wider one. -/
namespace Sys2Proof.Machine

/-! ## The fields of a format's bits -/

/-- The sign's place in a format with `f` fraction bits. -/
def signBit (f : Nat) (s : Bool) : Nat := if s then 2 ^ (f + 8) else 0

theorem signBit_eq (f : Nat) (s : Bool) : signBit f s = 2 ^ f * (256 * s.toNat) := by
  cases s <;> simp [signBit, pow_add]

theorem toF32_nan : toF32 .nan = 0x7FC00000 := by
  rfl

theorem signBit_widen {f F : Nat} (h : f ≤ F) (s : Bool) : signBit F s = 2 ^ (F - f) * signBit f s := by
  rw [signBit_eq, signBit_eq, ← mul_assoc (2 ^ (F - f)), ← pow_add, Nat.sub_add_cancel h]

theorem pack_num (rm : Rm) (f : Nat) (s : Bool) (m : Nat) (e : Int) :
    pack rm f (.num s m e) = signBit f s + packMag rm f m e := rfl

theorem pack_inf (rm : Rm) (f : Nat) (s : Bool) : pack rm f (.inf s) = signBit f s + 255 * 2 ^ f := by
  rw [← Nat.shiftLeft_eq]
  rfl

/-- Every word of a format is a sign, an exponent field and a fraction. -/
theorem exists_fields {f w : Nat} (hw : w < 2 ^ (f + 9)) :
    ∃ s ex fr, ex < 256 ∧ fr < 2 ^ f ∧ w = signBit f s + (ex * 2 ^ f + fr) := by
  have hv : w / 2 ^ f < 512 := Nat.div_lt_of_lt_mul (by rwa [pow_add] at hw)
  refine ⟨decide (256 ≤ w / 2 ^ f), w / 2 ^ f % 256, w % 2 ^ f, Nat.mod_lt _ (by decide), Nat.mod_lt _ (by positivity), ?_⟩
  have hsplit (v : Nat) (hv : v < 512) : v = 256 * (decide (256 ≤ v)).toNat + v % 256 := by
    by_cases h : 256 ≤ v
    · simp only [h, decide_true, Bool.toNat_true]
      omega
    · simp only [h, decide_false, Bool.toNat_false]
      omega
  calc w = 2 ^ f * (w / 2 ^ f) + w % 2 ^ f := (Nat.div_add_mod w _).symm
    _ = _ := by rw [signBit_eq]; nth_rw 1 [hsplit _ hv]; ring

/-- What the fields of a word name (R108, R110). -/
theorem unpack_fields {f ex fr : Nat} (s : Bool) (hex : ex < 256) (hfr : fr < 2 ^ f) :
    unpack f (signBit f s + (ex * 2 ^ f + fr)) =
      if ex = 255 then (if fr = 0 then .inf s else .nan)
      else if ex = 0 then .num s fr (-126 - (f : Int)) else .num s (fr + 2 ^ f) ((ex : Int) - 127 - f) := by
  have hw : signBit f s + (ex * 2 ^ f + fr) = 2 ^ f * (256 * s.toNat + ex) + fr := by rw [signBit_eq]; ring
  have hdiv : (2 ^ f * (256 * s.toNat + ex) + fr) / 2 ^ f = 256 * s.toNat + ex := by
    rw [Nat.mul_add_div (by positivity), Nat.div_eq_of_lt hfr, add_zero]
  have hfrac : (2 ^ f * (256 * s.toNat + ex) + fr) % 2 ^ f = fr := by rw [Nat.mul_add_mod, Nat.mod_eq_of_lt hfr]
  have hexp : bits (2 ^ f * (256 * s.toNat + ex) + fr) (f + 7) f = ex := by
    rw [bits, Nat.shiftRight_eq_div_pow, hdiv, show f + 7 + 1 - f = 8 by omega]
    omega
  have hsign : bit (2 ^ f * (256 * s.toNat + ex) + fr) (f + 8) = s := by
    rw [bit, Nat.shiftRight_add, Nat.shiftRight_eq_div_pow _ f, hdiv, Nat.shiftRight_eq_div_pow]
    cases s <;> simp <;> omega
  rw [hw, unpack, hfrac, hexp, hsign]

/-! ## Finite numbers of a format -/

/-- `n` and the biased exponent `b` are a finite number n 2^(b - 127 - f) of the format as its bits hold it: its significand has
f + 1 bits, or fewer at the smallest exponent, where the subnormal numbers are. -/
structure FiniteCode (f b n : Nat) : Prop where
  one_le : 1 ≤ b
  le : b ≤ 254
  lt : n < 2 ^ (f + 1)
  normal : b = 1 ∨ 2 ^ f ≤ n

/-- A finite number of a format is one of a wider format, with zeros below its fraction. -/
theorem FiniteCode.widen {f F b n : Nat} (h : FiniteCode f b n) (hF : f ≤ F) : FiniteCode F b (n * 2 ^ (F - f)) where
  one_le := h.one_le
  le := h.le
  lt := by
    rw [show F + 1 = f + 1 + (F - f) by omega, pow_add]
    exact Nat.mul_lt_mul_of_pos_right h.lt (by positivity)
  normal := h.normal.imp_right fun hn => by
    calc 2 ^ F = 2 ^ f * 2 ^ (F - f) := by rw [← pow_add, Nat.add_sub_cancel' hF]
      _ ≤ n * 2 ^ (F - f) := Nat.mul_le_mul_right _ hn

/-- The code of a finite number is below that of an infinity. -/
theorem FiniteCode.code_lt {f b n : Nat} (h : FiniteCode f b n) : (b - 1) * 2 ^ f + n < 255 * 2 ^ f := by
  obtain ⟨-, hle, hlt, -⟩ := h
  have hb : (b - 1) * 2 ^ f ≤ 253 * 2 ^ f := Nat.mul_le_mul_right _ (by omega)
  rw [pow_succ] at hlt
  omega

/-- The number that a finite number's bits name. -/
theorem unpack_finite {f b n : Nat} (s : Bool) (h : FiniteCode f b n) :
    unpack f (signBit f s + ((b - 1) * 2 ^ f + n)) = .num s n ((b : Int) - 127 - f) := by
  obtain ⟨hone, hle, hlt, hnorm⟩ := h
  rw [pow_succ] at hlt
  by_cases hn : 2 ^ f ≤ n
  case pos =>
    have hcode : (b - 1) * 2 ^ f + n = b * 2 ^ f + (n - 2 ^ f) := by
      obtain ⟨c, rfl⟩ := Nat.exists_eq_add_of_le' hone
      rw [Nat.add_sub_cancel, add_mul, one_mul]
      omega
    rw [hcode, unpack_fields s (by omega) (by omega), if_neg (by omega), if_neg (by omega), Nat.sub_add_cancel hn]
  case neg =>
    obtain rfl : b = 1 := hnorm.resolve_right hn
    rw [unpack_fields s (by omega) (by omega), if_neg (by decide), if_pos rfl]
    rfl

/-- A word is NaN, an infinity or a finite number. -/
theorem unpack_cases {f w : Nat} (hw : w < 2 ^ (f + 9)) :
    unpack f w = .nan ∨ (∃ s, w = signBit f s + 255 * 2 ^ f ∧ unpack f w = .inf s) ∨
      ∃ s b n, FiniteCode f b n ∧ w = signBit f s + ((b - 1) * 2 ^ f + n) := by
  obtain ⟨s, ex, fr, hex, hfr, rfl⟩ := exists_fields hw
  by_cases hmax : ex = 255
  · subst hmax
    rw [unpack_fields s hex hfr, if_pos rfl]
    by_cases hzero : fr = 0
    · exact .inr (.inl ⟨s, by rw [hzero, add_zero], if_pos hzero⟩)
    · exact .inl (if_neg hzero)
  refine .inr (.inr ?_)
  cases ex with
  | zero => exact ⟨s, 1, fr, ⟨le_rfl, by decide, by rw [pow_succ]; omega, .inl rfl⟩, rfl⟩
  | succ b =>
    refine ⟨s, b + 1, 2 ^ f + fr, ⟨by omega, by omega, by rw [pow_succ]; omega, .inr (Nat.le_add_right _ _)⟩, ?_⟩
    rw [Nat.add_sub_cancel, add_mul, one_mul, add_assoc (b * 2 ^ f)]

theorem log2_mul_two_pow {m : Nat} (hm : m ≠ 0) (k : Nat) : (m * 2 ^ k).log2 = m.log2 + k := by
  rw [Nat.log2_eq_iff (by positivity), pow_add, add_right_comm, pow_add]
  exact ⟨Nat.mul_le_mul_right _ (Nat.log2_self_le hm), Nat.mul_lt_mul_of_pos_right Nat.lt_log2_self (by positivity)⟩

/-- A value that a format holds, whatever power of two it is written with, has that number's code: nothing is rounded. -/
theorem packMag_finite {rm : Rm} {f b m k : Nat} (h : FiniteCode f b (m * 2 ^ k)) :
    packMag rm f m ((b : Int) - 127 - f + k) = (b - 1) * 2 ^ f + m * 2 ^ k := by
  have hcode := h.code_lt
  obtain ⟨hone, hle, hlt, hnorm⟩ := h
  by_cases hm : m = 0
  · have hb : b = 1 := hnorm.resolve_right (by simp [hm])
    simp [packMag, hm, hb]
  have hn : m * 2 ^ k ≠ 0 := by positivity
  have hlog : m.log2 + k < f + 1 ∧ (2 ^ f ≤ m * 2 ^ k → f ≤ m.log2 + k) := by
    rw [← log2_mul_two_pow hm]
    exact ⟨(Nat.log2_lt hn).mpr hlt, (Nat.le_log2 hn).mpr⟩
  have hunit : max ((m.log2 : Int) + ((b : Int) - 127 - f + k) - f) (-126 - f) = (b : Int) - 127 - f := by
    rcases hnorm with rfl | hn
    · omega
    · have := hlog.2 hn
      omega
  have hgrid : toGrid rm m ((b : Int) - 127 - f + k) ((b : Int) - 127 - f) = m * 2 ^ k := by
    rw [toGrid, if_pos (by omega), Nat.shiftLeft_eq, add_sub_cancel_left, Int.toNat_natCast]
  have hexp : ((b : Int) - 127 - f + f + 127 - 1).toNat = b - 1 := by omega
  simp only [packMag, if_neg hm, hunit, hgrid, hexp, Nat.shiftLeft_eq]
  exact if_neg (by omega)

/-- Unpacking and packing again, into the same format or a wider one, keeps the number exactly. -/
theorem pack_unpack {rm : Rm} {f F w : Nat} (hF : f ≤ F) (hw : w < 2 ^ (f + 9)) (hnan : unpack f w ≠ .nan) :
    pack rm F (unpack f w) = 2 ^ (F - f) * w := by
  have hpow : 2 ^ F = 2 ^ (F - f) * 2 ^ f := by rw [← pow_add, Nat.sub_add_cancel hF]
  obtain hn | ⟨s, hs, hinf⟩ | ⟨s, b, n, hfin, rfl⟩ := unpack_cases hw
  · exact absurd hn hnan
  · rw [hinf, pack_inf, signBit_widen hF, hs, hpow]
    ring
  · have hexp : (b : Int) - 127 - f = (b : Int) - 127 - F + (F - f : Nat) := by omega
    rw [unpack_finite s hfin, pack_num, hexp, packMag_finite (hfin.widen hF), signBit_widen hF, hpow]
    ring

theorem pack_unpack_self {rm : Rm} {f w : Nat} (hw : w < 2 ^ (f + 9)) (hnan : unpack f w ≠ .nan) : pack rm f (unpack f w) = w := by
  rw [pack_unpack le_rfl hw hnan, Nat.sub_self, pow_zero, one_mul]

/-! ## Order and sums of values -/

theorem Dy.add_comm (a b : Dy) : Dy.add a b = Dy.add b a := by
  obtain hlt | heq | hgt := lt_trichotomy a.e b.e
  · simp [Dy.add, hlt.le, hlt.not_ge, Int.add_comm]
  · simp [Dy.add, heq, Int.add_comm]
  · simp [Dy.add, hgt.le, hgt.not_ge, Int.add_comm]

theorem Fv.add_comm (a b : Fv) : a.add b = b.add a := by
  cases a with
  | nan => cases b <;> rfl
  | inf s =>
    cases b with
    | nan | num => rfl
    | inf t => cases s <;> cases t <;> rfl
  | num s m e =>
    cases b with
    | nan | inf => rfl
    | num t n g => simp only [Fv.add, Dy.add_comm ⟨signed t n, g⟩, Bool.and_comm t]

theorem signed_not (s : Bool) (m : Nat) : signed (!s) m = -signed s m := by
  cases s <;> simp [signed]

theorem signed_mul (s : Bool) (m n : Nat) : signed s (m * n) = signed s m * n := by
  cases s <;> simp [signed]

theorem signed_natAbs (q : Int) : signed (decide (q < 0)) q.natAbs = q := by
  by_cases h : q < 0
  · simp only [signed, h, decide_true, if_true]
    omega
  · simp only [signed, h, decide_false, Bool.false_eq_true, if_false]
    omega

/-- A value is equal to itself written with a smaller power of two. -/
theorem Fv.eq_scaled (s : Bool) (m k : Nat) (x : Int) : (Fv.num s (m * 2 ^ k) x).eq (.num s m (x + k)) = true := by
  have hcancel (a b : Int) (hab : b * (2 ^ k : Nat) = -a) : (Dy.add ⟨a, x⟩ ⟨b, x + k⟩).m = 0 := by
    simp only [Dy.add, if_pos (show x ≤ x + k by omega), add_sub_cancel_left, Int.toNat_natCast, hab]
    omega
  have hleft : (Fv.num s (m * 2 ^ k) x).lt (.num s m (x + k)) = false := by
    simp only [Fv.lt]
    rw [hcancel _ _ (by rw [signed_not, signed_mul, neg_mul])]
    rfl
  have hright : (Fv.num s m (x + k)).lt (.num s (m * 2 ^ k) x) = false := by
    simp only [Fv.lt]
    rw [Dy.add_comm, hcancel _ _ (by rw [signed_not, signed_mul, neg_neg])]
    rfl
  rw [Fv.eq, hleft, hright]
  rfl

/-- A magnitude is below a power of two, in whole units of its own. -/
theorem Fv.lt_twoPow_iff (m : Nat) (x y : Int) : (Fv.num false m x).lt (.num false 1 y) = true ↔ m < 2 ^ (y - x).toNat := by
  simp only [Fv.lt, decide_eq_true_eq, signed_not]
  simp only [signed, Dy.add]
  split
  next hxy =>
    simp only [Bool.false_eq_true, if_false]
    omega
  next hxy =>
    rw [Int.toNat_of_nonpos (show y - x ≤ 0 by omega)]
    simp only [Bool.false_eq_true, if_false, ← Nat.cast_mul]
    have hpow : m * 2 ^ (x - y).toNat < 1 ↔ m < 1 := by simp
    omega

theorem Fv.mul_nan (a : Fv) : a.mul .nan = .nan := by
  cases a <;> rfl

/-! ## Rounding to a grid -/

/-- A magnitude below half of the unit rounds to 0. -/
theorem roundShift_small {m k : Nat} (h : 2 * m < 2 ^ k) : roundShift .rne m k = 0 := by
  have hm : m < 2 ^ k := by omega
  simp only [roundShift, Nat.shiftRight_eq_div_pow, Nat.div_eq_of_lt hm, Nat.mod_eq_of_lt hm]
  exact if_neg (by simp; omega)

theorem roundShift_mul_pow (rm : Rm) (n k : Nat) : roundShift rm (n * 2 ^ k) k = n := by
  have hexact : ¬ 0 = 2 ^ k := by positivity
  cases rm <;> simp [roundShift, Nat.shiftRight_eq_div_pow, hexact]

theorem toGrid_zero (rm : Rm) (e q : Int) : toGrid rm 0 e q = 0 := by
  cases rm <;> simp [toGrid, roundShift]

/-- A magnitude m 2^x below 2^y rounds to 0 on the grid of 2^(y + 1) (R130). -/
theorem toGrid_small {m : Nat} {x y : Int} (h : m < 2 ^ (y - x).toNat) : toGrid .rne m (x - y - 1) 0 = 0 := by
  by_cases hxy : x ≤ y
  · rw [toGrid, if_neg (by omega), show (0 - (x - y - 1)).toNat = (y - x).toNat + 1 by omega]
    exact roundShift_small (by rw [pow_succ]; omega)
  · rw [Int.toNat_of_nonpos (by omega)] at h
    rw [Nat.lt_one_iff.mp h, toGrid_zero]

/-! ## Madder-16 -/

/-- A Madder-16 element's magnitude is a finite number of FP32 (R127), a subnormal one only for 1 at the exponent -112. -/
theorem madder_finite {e : Int} {m : Nat} (hlo : -112 ≤ e) (hhi : e ≤ 112) (hm : m ≤ 32767) :
    ∃ b k : Nat, FiniteCode 23 b (m * 2 ^ k) ∧ e - 15 = (b : Int) - 127 - (23 : Nat) + k := by
  obtain ⟨t, rfl⟩ : ∃ t : Nat, e = t - 112 := ⟨(e + 112).toNat, by omega⟩
  by_cases hm0 : m = 0
  · exact ⟨1, t + 22, ⟨le_rfl, by decide, by simp [hm0], .inl rfl⟩, by omega⟩
  have hlog : m.log2 < 15 := (Nat.log2_lt hm0).mpr (by omega)
  by_cases hsub : m.log2 + t = 0
  · obtain ⟨h0, rfl⟩ : m.log2 = 0 ∧ t = 0 := by omega
    have hm1 : m < 2 ^ 1 := (Nat.log2_lt hm0).mp (by omega)
    exact ⟨1, 22, ⟨le_rfl, by decide, by omega, .inl rfl⟩, by omega⟩
  · have hn : m * 2 ^ (23 - m.log2) ≠ 0 := by positivity
    have hbits : (m * 2 ^ (23 - m.log2)).log2 = 23 := by rw [log2_mul_two_pow hm0]; omega
    obtain ⟨hle, hlt⟩ := (Nat.log2_eq_iff hn).mp hbits
    exact ⟨m.log2 + t, 23 - m.log2, ⟨by omega, by omega, hlt, .inr hle⟩, by omega⟩

theorem f32_madderVal_eq {e q : Int} (hlo : -112 ≤ e) (hhi : e ≤ 112) (hq : q.natAbs ≤ 32767) :
    (f32 (madderVal e q)).eq (.num (decide (q < 0)) q.natAbs (e - 15)) = true := by
  obtain ⟨b, k, hfin, hexp⟩ := madder_finite hlo hhi hq
  have hbits : madderVal e q = signBit 23 (decide (q < 0)) + ((b - 1) * 2 ^ 23 + q.natAbs * 2 ^ k) := by
    rw [madderVal, toF32, pack_num, hexp]
    exact congrArg _ (packMag_finite hfin)
  rw [hbits, f32, unpack_finite _ hfin, hexp]
  exact Fv.eq_scaled _ _ _ _

theorem madderOut_inRange {a q : Int} (h : (rneInt (a + q * 65536) 16).natAbs ≤ 32767) :
    madderOut a q = (rneInt (a + q * 65536) 16, false) :=
  if_neg (Nat.not_lt.mpr h)

theorem madderOut_saturated {a q : Int} (h : 32767 < (rneInt (a + q * 65536) 16).natAbs) :
    madderOut a q = (if rneInt (a + q * 65536) 16 < 0 then -32767 else 32767, true) :=
  if_pos h

theorem madderOut_bounds (a q : Int) : -32767 ≤ (madderOut a q).1 ∧ (madderOut a q).1 ≤ 32767 := by
  obtain h | h := Nat.lt_or_ge 32767 (rneInt (a + q * 65536) 16).natAbs
  · rw [madderOut_saturated h]
    dsimp only
    split <;> decide
  · rw [madderOut_inRange h]
    dsimp only
    omega

theorem madderHop_bounds (e : Int) (g : Nat) (q : Int) : -32767 ≤ (madderHop e g q).1 ∧ (madderHop e g q).1 ≤ 32767 :=
  madderOut_bounds (madderIn e g).1 q

/-- Only a saturated sum raises the overflow flag, and it is not 0 (R128, R130). -/
theorem madderOut_flag {a q : Int} (hzero : (madderOut a q).1 = 0) : (madderOut a q).2 = false := by
  obtain h | h := Nat.lt_or_ge 32767 (rneInt (a + q * 65536) 16).natAbs
  · rw [madderOut_saturated h] at hzero
    dsimp only at hzero
    split at hzero <;> cases hzero
  · rw [madderOut_inRange h]

/-- The wire's element passes the adder as it came where nothing is added (R128). -/
theorem madderOut_zero {q : Int} (hq : q.natAbs ≤ 32767) : madderOut 0 q = (q, false) := by
  have hround : rneInt (0 + q * 65536) 16 = q := by
    have hneg : (q * 65536 < 0) ↔ q < 0 := by omega
    rw [rneInt, zero_add, Int.natAbs_mul, show (65536 : Int).natAbs = 2 ^ 16 from rfl, roundShift_mul_pow]
    simp only [hneg, signed_natAbs]
  rw [madderOut_inRange (by rwa [hround]), hround]

/-- A finite contribution that rounds to 0 in the fixed point raises no flag. -/
theorem madderIn_of_toGrid_zero {e : Int} {g : Nat} {s : Bool} {m : Nat} {x : Int} (hg : f32 g = .num s m x)
    (hzero : toGrid .rne m (x + 31 - e) 0 = 0) : madderIn e g = (0, false, false) := by
  simp only [madderIn, hg, hzero]
  cases s <;> rfl

/-- Settles O60: packing is the inverse of unpacking on the numbers that a format holds, and a Madder-16 element is one. -/
theorem numbersExact : Obligations.NumbersExact := by
  unfold Obligations.NumbersExact
  refine ⟨?f32, ?nan, ?bf16, fun a b => ?sum, ?zero, fun e q g => madderHop_bounds e g q, ?exact, ?small,
    fun a q => madderOut_flag, fun x hx => if_neg (by omega), fun fmt w => Fv.mul_nan _, fun rm fmt vs hv => if_pos hv⟩
  case f32 =>
    intro w hw hn
    exact pack_unpack_self hw hn
  case nan =>
    intro w hn
    rw [hn, toF32_nan]
  case bf16 =>
    intro w hw hn
    exact ⟨pack_unpack_self hw hn, pack_unpack (by decide) hw hn⟩
  case sum => rw [f32Add, f32Add, Fv.add_comm]
  case zero =>
    intro e q hlo hhi
    have hin : madderIn e 0 = (0, false, false) := madderIn_of_toGrid_zero (g := 0) rfl (toGrid_zero _ _ _)
    simp only [madderHop, hin, madderOut_zero (show q.natAbs ≤ 32767 by omega), Bool.or_self]
  case exact =>
    intro e q he he' hlo hhi
    exact f32_madderVal_eq he he' (by omega)
  case small =>
    intro e g s m x hg hlt
    refine madderIn_of_toGrid_zero hg ?_
    rw [show x + 31 - e = x - (e - 32) - 1 by omega]
    exact toGrid_small ((Fv.lt_twoPow_iff _ _ _).mp hlt)

end Sys2Proof.Machine
end

section
/-! Proofs: the vote, the decision and the swatch exchange (R300 to R307, R470). First what a record that is filed and a message
that is sent leave of the object dictionary and of the schedules. -/
namespace Sys2Proof.Machine

/-! ## Records and messages -/

/-- Every object below the power domains' block reads in `b` as in `a`: those of schedules (0x2100), jobs (0x2300), cores (0x3000)
and channels (0x5100) lie there, and no mark of a wake (0x7100) and no object of the log (0x8000) does. -/
def Dev.UnitsKept (a b : Dev) : Prop := ∀ o : Obj, o.key < 0x710000 → b.get o = a.get o

namespace Dev.UnitsKept

variable {a b c : Dev}

theorem of_objs (h : b.objs = a.objs) : Dev.UnitsKept a b := fun o _ => get_objs h o
theorem refl (a : Dev) : Dev.UnitsKept a a := of_objs rfl
theorem trans (h : Dev.UnitsKept a b) (g : Dev.UnitsKept b c) : Dev.UnitsKept a c := fun o ho => (g o ho).trans (h o ho)
theorem put (h : Dev.UnitsKept a b) (o : Obj) (v : Nat) (ho : 0x710000 ≤ o.key) : Dev.UnitsKept a (b.put o v) :=
  fun o' ho' => (b.get_put_ne v (by omega)).trans (h o' ho')
theorem cnt (h : Dev.UnitsKept a b) (o : Obj) (n : Nat) (ho : 0x710000 ≤ o.key) : Dev.UnitsKept a (b.cnt o n) := h.put o _ ho
theorem low (h : Dev.UnitsKept a b) : Dev.LowKept a b := fun o ho => h o (by omega)

end Dev.UnitsKept

theorem Dev.wakeDom_units (d : Dev) (x : Nat) : Dev.UnitsKept d (d.wakeDom x) := by
  have hk : 0x710000 ≤ (K.DOM_LAST_WAKE x).key := by simp only [K.DOM_LAST_WAKE]; omega
  simp only [Dev.wakeDom]
  split
  · split
    · exact .refl d
    · exact .put (.of_objs rfl) _ _ hk
  · split
    · exact .refl d
    · exact .put (.of_objs rfl) _ _ hk

theorem Dev.send_units (d : Dev) (m : Msg) (f : Bool) : Dev.UnitsKept d (d.send m f).1 := by
  unfold Dev.send
  split
  · simp only [Dev.enqueue]
    split <;> exact (d.wakeDom_units _).trans (.of_objs rfl)
  · exact .refl d

theorem Dev.post_units (d : Dev) (t : Nat) (m : Msg) : Dev.UnitsKept d (d.post t m).1 := by
  simp only [Dev.post]
  split
  · exact d.send_units _ _
  · exact .of_objs rfl

theorem Dev.notify_units (d : Dev) (ev st ix sub p : Nat) : Dev.UnitsKept d (d.notify ev st ix sub p) :=
  .trans (b := { d with msgId := d.msgId + 1 }) (.of_objs rfl) (Dev.send_units _ _ _)

theorem Dev.file_units (d : Dev) (i : RecInfo) : Dev.UnitsKept d (d.file i) := by
  unfold Dev.file
  extract_lets ms n
  split
  · exact .cnt (.of_objs rfl) _ _ (by decide)
  · rename_i seq r d1 d2 d3 _
    have h2 : Dev.UnitsKept d d2 := .cnt (.of_objs rfl) _ _ (by decide)
    refine .trans (b := d3) ?_ (Dev.notify_units _ _ _ _ _ _)
    unfold d3
    split
    · exact h2.put _ _ (by simp only [K.PART_LOG_LAST]; omega)
    · exact h2

/-- `b` is `a` with records filed and messages sent: those objects and every schedule stand. -/
structure Dev.Noted (a b : Dev) : Prop where
  obj : Dev.UnitsKept a b
  sched : ∀ p, b.sched p = a.sched p

namespace Dev.Noted

variable {a b c : Dev}

theorem of_side (h : Dev.Side a b) (g : Dev.UnitsKept a b) : Dev.Noted a b := ⟨g, h.sched⟩
theorem refl (a : Dev) : Dev.Noted a a := ⟨.refl a, fun _ => rfl⟩
theorem trans (h : Dev.Noted a b) (g : Dev.Noted b c) : Dev.Noted a c :=
  ⟨h.obj.trans g.obj, fun p => (g.sched p).trans (h.sched p)⟩

theorem ite (p : Prop) [Decidable p] (h : Dev.Noted a b) : Dev.Noted a (if p then a else b) := by
  split
  · exact .refl a
  · exact h

end Dev.Noted

theorem Dev.schedRecord_noted (d : Dev) (p ev cause aux st : Nat) : Dev.Noted d (d.schedRecord p ev cause aux st) :=
  .of_side (d.file_side _) (d.file_units _)

theorem Dev.notify_noted (d : Dev) (ev st ix sub p : Nat) : Dev.Noted d (d.notify ev st ix sub p) :=
  .of_side (d.notify_side _ _ _ _ _) (d.notify_units _ _ _ _ _)

/-- A ring message that no stain delays, as a vote or a swatch record, is no more than a message. -/
theorem Dev.ringSend_noted (d : Dev) (ch : Nat) (h : RingHdr) (l : List Nat) (hk : h.kind ≠ 2 ∧ h.kind ≠ 5) :
    Dev.Noted d (d.ringSend ch h l).1 := by
  simp only [Dev.ringSend, hk, decide_false, Bool.or_self, Bool.false_eq_true, if_false]
  exact .trans (b := { d with msgId := d.msgId + 1 }) (.of_side (.of_eq rfl rfl rfl rfl rfl rfl rfl rfl rfl) (.of_objs rfl))
    (.of_side (Dev.post_side _ _ _) (Dev.post_units _ _ _))

theorem Dev.sendVote_noted (d : Dev) (p : Nat) (v : VoteRec) : Dev.Noted d (d.sendVote p v) :=
  d.ringSend_noted _ _ _ ⟨by decide, by decide⟩

theorem Dev.forwardVote_noted (d : Dev) (p : Nat) (v : VoteRec) : Dev.Noted d (d.forwardVote p v) :=
  .ite _ (d.sendVote_noted p v)

theorem Dev.sendSwx_noted (d : Dev) (p : Nat) (r : SwxRec) : Dev.Noted d (d.sendSwx p r) :=
  d.ringSend_noted _ _ _ ⟨by decide, by decide⟩

/-! ## A schedule that is replaced -/

@[simp] theorem Dev.sched_setSched_self (d : Dev) (p : Nat) (x : Sched) : (d.setSched p x).sched p = x := by
  simp [Dev.sched, Dev.setSched]

theorem Dev.sched_setSched_ne (d : Dev) {p q : Nat} (x : Sched) (h : q ≠ p) : (d.setSched p x).sched q = d.sched q := by
  simp [Dev.sched, Dev.setSched, Dev.part_setPart_ne _ _ h]

@[simp] theorem Dev.sched_put (d : Dev) (o : Obj) (v p : Nat) : (d.put o v).sched p = d.sched p := rfl

@[simp] theorem Dev.get_setSched (d : Dev) (p : Nat) (x : Sched) (o : Obj) : (d.setSched p x).get o = d.get o := rfl

/-- A change of a partition's record that leaves its schedule leaves every schedule. -/
theorem Dev.sched_setPart (d : Dev) {p : Nat} {x : Part} (h : x.sched = d.sched p) (q : Nat) : (d.setPart p x).sched q = d.sched q := by
  by_cases hq : q = p
  · subst hq
    simpa [Dev.sched] using h
  · simp [Dev.sched, Dev.part_setPart_ne _ _ hq]

/-- What was recorded before a schedule is replaced may as well be recorded after. -/
theorem Dev.Noted.setSched {a b : Dev} (h : Dev.Noted a b) (p : Nat) (x : Sched) : Dev.Noted (a.setSched p x) (b.setSched p x) := by
  refine ⟨h.obj, fun q => ?_⟩
  by_cases hq : q = p
  · rw [hq, Dev.sched_setSched_self, Dev.sched_setSched_self]
  · rw [Dev.sched_setSched_ne _ _ hq, Dev.sched_setSched_ne _ _ hq, h.sched]

/-! ## The decision (R304) -/

/-- D of a job whose channel exists is read off objects that no record and no message moves. -/
theorem Dev.UnitsKept.jobSize {a b : Dev} (h : Dev.UnitsKept a b) {p : Nat} (hp : p < 16) (hc : a.get (K.VOTE_CHANNEL p) < 32) :
    b.jobSize p = a.jobSize p := by
  unfold Dev.jobSize
  rw [h (K.VOTE_TICK p) (by simp only [K.VOTE_TICK]; omega), h (K.VOTE_CHANNEL p) (by simp only [K.VOTE_CHANNEL]; omega),
    h (K.CH_SIZE _) (by simp only [K.CH_SIZE]; omega)]

section
variable (d : Dev) (p code cause : Nat)

theorem setDecision_sched : (d.setDecision p code cause).sched p = { d.sched p with decided := true } := by
  simp [Dev.setDecision]

theorem setDecision_decision : (d.setDecision p code cause).get (K.DECISION p) = code := by
  simp [Dev.setDecision, Dev.get_put_ne, K.DECISION, K.DECISION_CAUSE, K.DECISION_ATTEMPT, K.DECISION_NF, Dev.get_put_self]

theorem setDecision_cause : (d.setDecision p code cause).get (K.DECISION_CAUSE p) = cause := by
  simp [Dev.setDecision, Dev.get_put_ne, K.DECISION, K.DECISION_CAUSE, K.DECISION_ATTEMPT, K.DECISION_NF]

theorem setDecision_attempt : (d.setDecision p code cause).get (K.DECISION_ATTEMPT p) = d.get (K.ATTEMPT p) := by
  simp [Dev.setDecision, Dev.get_put_ne, K.DECISION, K.DECISION_CAUSE, K.DECISION_ATTEMPT, K.DECISION_NF]

end

/-- The attempt of partition `p` is decided with `code` for `cause`; of its schedule nothing else has changed. -/
structure Dev.Decided (a b : Dev) (p code cause : Nat) : Prop where
  code : b.get (K.DECISION p) = code
  cause : b.get (K.DECISION_CAUSE p) = cause
  sched : b.sched p = { a.sched p with decided := true }

theorem setDecision_decided (d : Dev) (p code cause : Nat) : Dev.Decided d (d.setDecision p code cause) p code cause :=
  ⟨setDecision_decision .., setDecision_cause .., setDecision_sched ..⟩

section
variable {d : Dev} {p : Nat}

/-- Until the device has closed its vote and holds every record it does not decide. -/
theorem tryDecide_waits (h : (d.sched p).voted = false ∨ (d.sched p).votes.length < d.jobSize p) : d.tryDecide p = d := by
  have hw : ((d.sched p).decided || !(d.sched p).voted || decide ((d.sched p).votes.length < d.jobSize p)) = true := by
    obtain h | h := h <;> simp [h]
  simp only [Dev.tryDecide, hw, if_true]

variable (hd : (d.sched p).decided = false) (hv : (d.sched p).voted = true) (hl : d.jobSize p ≤ (d.sched p).votes.length)
include hd hv hl

/-- With every record clean it commits. -/
theorem tryDecide_commits (hg : (d.sched p).votes.all VoteRec.good = true) : Dev.Decided d (d.tryDecide p) p 1 0 := by
  have hbad : ((d.sched p).votes.filter (fun v => !v.good)).isEmpty = true := by
    simpa [List.filter_eq_nil_iff] using hg
  have h := setDecision_decided d p 1 0
  simp only [Dev.tryDecide, hd, hv, Nat.not_lt.mpr hl, hbad, Bool.not_true, decide_false, Bool.or_self, Bool.false_eq_true,
    if_false, if_true]
  split
  · exact h
  · exact ⟨by rw [Dev.get_setPart, h.code], by rw [Dev.get_setPart, h.cause], by rw [Dev.sched_setPart, h.sched]; rfl⟩

/-- With a record that is not clean it abandons the attempt. -/
theorem tryDecide_abandons (hg : (d.sched p).votes.all VoteRec.good = false) :
    Dev.Decided d (d.tryDecide p) p 2 (firstCause (((d.sched p).votes.filter (fun v => !v.good)).map VoteRec.why)) := by
  have hbad : ((d.sched p).votes.filter (fun v => !v.good)).isEmpty = false := by
    simpa [List.filter_eq_nil_iff] using hg
  simp only [Dev.tryDecide, hd, hv, Nat.not_lt.mpr hl, hbad, Bool.not_true, decide_false, Bool.or_self, Bool.false_eq_true,
      if_false]
  exact setDecision_decided _ _ _ _

end
end Sys2Proof.Machine
end

section
/-! Proofs: how the vote is closed, how records of other devices arrive, and the exchange of swatches (R301 to R304, R470). -/
namespace Sys2Proof.Machine

/-! ## A record is held, and the device decides where it can -/

theorem stRank_le (c : Nat) : stRank c ≤ 10 := by
  unfold stRank
  split <;> decide

/-- The first cause of a list is no status, or one of those that R41 ranks. -/
theorem firstCause_ranked (l : List Nat) : firstCause l = stOK ∨ stRank (firstCause l) < 10 := by
  refine List.foldlRecOn (motive := fun c => c = stOK ∨ stRank c < 10) l stWorst (.inl rfl) fun a ha b _ => ?_
  unfold stWorst
  split
  next hb => exact .inr (hb.trans_le (stRank_le a))
  next => exact ha

theorem firstCause_single {c : Nat} (h : c = stOK ∨ stRank c < 10) : firstCause [c] = c := by
  obtain rfl | h := h
  · rfl
  · exact if_pos h

/-- The record of a device that votes as it closes its vote (R303). -/
def Dev.ownVote (d : Dev) (p : Nat) : VoteRec :=
  let c := firstCause (d.sched p).causes
  { attempt := d.get (K.ATTEMPT p), step := d.get (K.STEP p) % 2 ^ 32, device := d.get K.DEVICE_NUMBER % 4096,
    cause := c, clean := c == 0, nf := (d.sched p).nf }

theorem ownVote_good (d : Dev) (p : Nat) : (d.ownVote p).good = decide (firstCause (d.sched p).causes = 0) := by
  simp only [Dev.ownVote, VoteRec.good, Bool.and_self]
  rfl

/-- A schedule with one more record held. -/
def Sched.hold (s : Sched) (v : VoteRec) : Sched := { s with votes := s.votes ++ [v] }

/-- A schedule with the vote closed by a record. -/
def Sched.close (s : Sched) (v : VoteRec) : Sched := { s with voted := true, votes := s.votes ++ [v] }

section
variable {d b : Dev} {p : Nat} {x : Sched} (h : Dev.Noted (d.setSched p x) b)
include h

theorem held_sched : b.sched p = x := by rw [h.sched, Dev.sched_setSched_self]

theorem held_decision (hp : p < 16) : b.get (K.DECISION p) = d.get (K.DECISION p) :=
  h.obj _ (by simp only [K.DECISION]; omega)

theorem held_jobSize (hp : p < 16) (hc : d.get (K.VOTE_CHANNEL p) < 32) : b.jobSize p = d.jobSize p :=
  h.obj.jobSize hp hc

variable (hx : x.decided = false) (hp : p < 16) (hc : d.get (K.VOTE_CHANNEL p) < 32)
include hx hp hc

/-- While the vote is open or records are missing, the attempt stays undecided. -/
theorem held_waits (hw : x.voted = false ∨ x.votes.length < d.jobSize p) :
    ((b.tryDecide p).sched p).decided = false ∧ (b.tryDecide p).get (K.DECISION p) = d.get (K.DECISION p) := by
  rw [tryDecide_waits (by rwa [held_sched h, held_jobSize h hp hc]), held_sched h]
  exact ⟨hx, held_decision h hp⟩

/-- The last record decides: COMMIT where every record is clean. -/
theorem held_commits (hv : x.voted = true) (hl : d.jobSize p ≤ x.votes.length) (hg : x.votes.all VoteRec.good = true) :
    Dev.Decided b (b.tryDecide p) p 1 0 := by
  refine tryDecide_commits ?_ ?_ ?_ ?_ <;> simpa only [held_sched h, held_jobSize h hp hc]

/-- The last record decides: ABANDON where one is not clean. -/
theorem held_abandons (hv : x.voted = true) (hl : d.jobSize p ≤ x.votes.length) (hg : x.votes.all VoteRec.good = false) :
    Dev.Decided b (b.tryDecide p) p 2 (firstCause ((x.votes.filter (fun v => !v.good)).map VoteRec.why)) := by
  rw [← held_sched h]
  refine tryDecide_abandons ?_ ?_ ?_ ?_ <;> simpa only [held_sched h, held_jobSize h hp hc]

theorem held_decides (hv : x.voted = true) (hl : d.jobSize p ≤ x.votes.length) :
    ((b.tryDecide p).sched p).decided = true ∧
    (b.tryDecide p).get (K.DECISION p) = if x.votes.all VoteRec.good = true then 1 else 2 := by
  split
  next hg =>
    have ht := held_commits h hx hp hc hv hl hg
    exact ⟨by rw [ht.sched], ht.code⟩
  next hg =>
    have ht := held_abandons h hx hp hc hv hl (Bool.eq_false_iff.mpr hg)
    exact ⟨by rw [ht.sched], ht.code⟩

/-- Deciding or not, the device keeps the records that it holds. -/
theorem held_kept : ((b.tryDecide p).sched p).votes = x.votes ∧ ((b.tryDecide p).sched p).voted = x.voted := by
  by_cases hw : x.voted = false ∨ x.votes.length < d.jobSize p
  · rw [tryDecide_waits (by rwa [held_sched h, held_jobSize h hp hc]), held_sched h]
    exact ⟨rfl, rfl⟩
  · obtain ⟨hv, hl⟩ := not_or.mp hw
    simp only [Bool.not_eq_false, not_lt] at hv hl
    by_cases hg : x.votes.all VoteRec.good = true
    · rw [(held_commits h hx hp hc hv hl hg).sched, held_sched h]
      exact ⟨rfl, rfl⟩
    · rw [(held_abandons h hx hp hc hv hl (Bool.eq_false_iff.mpr hg)).sched, held_sched h]
      exact ⟨rfl, rfl⟩

end

/-! ## VOTE_CLOSE (R300, R301) -/

/-- No command before VOTE_TICK is open, no screen word is to be read, and nothing but what completions left speaks against the
attempt. -/
structure Dev.VoteClear (d : Dev) (p : Nat) : Prop where
  tick : d.get (K.VOTE_TICK p) ≠ 0
  ended : ∀ e ∈ d.schedEngs p, d.openCauses e (d.get (K.VOTE_TICK p)) = []
  resident : d.absentSlots p = []
  screen : d.get (K.SCREEN_COUNT p) = 0
  locked : (d.sched p).unlocked = false ∧ d.get K.FT_STATE = 2
  unfenced : (d.sched p).fenced = false
  recorded : (d.sched p).recFail = 0
  undecided : (d.sched p).decided = false

theorem screen_none {d : Dev} {p : Nat} (h : d.get (K.SCREEN_COUNT p) = 0) : d.screen p = ([], false, d) := by
  simp [Dev.screen, h]

/-- The device holds its own record and sends it where there are others; one that is not clean is filed. -/
def Dev.castVote (d : Dev) (p : Nat) (v : VoteRec) : Dev :=
  let s := d.sched p
  let d := if v.cause = 0 then d else d.schedRecord p 6 v.cause (d.get (K.ATTEMPT p)) v.cause
  let d := d.setSched p (s.close v)
  if d.jobSize p = 1 then d else d.sendVote p v

theorem castVote_noted (d : Dev) (p : Nat) (v : VoteRec) : Dev.Noted (d.setSched p ((d.sched p).close v)) (d.castVote p v) :=
  ((Dev.Noted.ite _ (d.schedRecord_noted _ _ _ _ _)).setSched p _).trans (.ite _ (Dev.sendVote_noted _ p v))

theorem closeVote_clear {d : Dev} {p : Nat} (h : d.VoteClear p) : d.closeVote p = (d.castVote p (d.ownVote p)).tryDecide p := by
  have hopen : (d.schedEngs p).flatMap (fun e => d.openCauses e (d.get (K.VOTE_TICK p))) = [] := List.flatMap_eq_nil_iff.mpr h.ended
  have hrec (c : Nat) : (if c = 0 then d else d.schedRecord p 6 c (d.get (K.ATTEMPT p)) c).sched p = d.sched p :=
    (Dev.Noted.ite _ (d.schedRecord_noted _ _ _ _ _)).sched p
  simp only [Dev.closeVote, Dev.castVote, Dev.ownVote, Sched.close, h.tick, screen_none h.screen, hopen, h.resident, h.locked.1,
    h.locked.2, h.unfenced, h.recorded, hrec, h.undecided, if_false, List.flatMap_nil, List.append_nil, ne_eq, not_true_eq_false,
    decide_false, Bool.or_self, Bool.or_false, Bool.false_eq_true]
  rfl

theorem exec_voteClose (p : Nat) (s : State) : exec (.voteClose p) s = onUnit (p < 16) (fun d => d.voteClose p) s := by rfl

section
variable {d : Dev} {p : Nat}

theorem voteClose_early (h : d.now < d.get (K.EPOCH_NOW p) + d.get (K.VOTE_TICK p)) : d.voteClose p = d := by
  simp [Dev.voteClose, h]

theorem voteClose_closed (h : (d.sched p).voted = true) : d.voteClose p = d := by simp [Dev.voteClose, h]

theorem voteClose_due (hs : d.get (K.SCHED_STATE p) = 3) (ht : d.get (K.VOTE_TICK p) ≠ 0) (hv : (d.sched p).voted = false)
    (hn : d.get (K.EPOCH_NOW p) + d.get (K.VOTE_TICK p) ≤ d.now) : d.voteClose p = d.closeVote p := by
  simp [Dev.voteClose, hs, ht, hv, hn]

end

/-! ## VOTE of the ring (R303) -/

theorem exec_vote (l : Nat) (s : State) : exec (.vote l) s = onUnit (l < 64) (fun d => d.vote l) s := by rfl

/-- The device holds a record that has come, and passes it on; one that is damaged is filed. -/
def Dev.keepVote (d : Dev) (p : Nat) (v : VoteRec) : Dev :=
  let s := d.sched p
  let d := if v.good || (!v.clean && v.cause != 0) then d else d.schedRecord p 7 0 (d.get (K.ATTEMPT p)) 0
  (d.setSched p (s.hold v)).forwardVote p v

theorem keepVote_noted (d : Dev) (p : Nat) (v : VoteRec) : Dev.Noted (d.setSched p ((d.sched p).hold v)) (d.keepVote p v) :=
  ((Dev.Noted.ite _ (d.schedRecord_noted _ _ _ _ _)).setSched p _).trans (Dev.forwardVote_noted _ p v)

section
variable {d : Dev} {p : Nat} {v : VoteRec}

/-- A record of the device that is held already is discarded. -/
theorem takeVote_again (ha : v.attempt = d.get (K.ATTEMPT p)) (hs : v.step = d.get (K.STEP p) % 2 ^ 32)
    (hh : (d.sched p).votes.any (fun x => x.device == v.device) = true) (hg : v.good = true) : d.takeVote p v = d := by
  simp [Dev.takeVote, ha, hs, hh, hg]

theorem takeVote_new (hp : p < 16) (ha : v.attempt = d.get (K.ATTEMPT p)) (hs : v.step = d.get (K.STEP p) % 2 ^ 32)
    (hh : (d.sched p).votes.any (fun x => x.device == v.device) = false) (hd : (d.sched p).decided = false) :
    d.takeVote p v = (d.keepVote p v).tryDecide p := by
  have hrec : Dev.Noted d (if v.good || (!v.clean && v.cause != 0) then d else d.schedRecord p 7 0 (d.get (K.ATTEMPT p)) 0) :=
    .ite _ (d.schedRecord_noted _ _ _ _ _)
  have ha' := hrec.obj (K.ATTEMPT p) (by simp only [K.ATTEMPT]; omega)
  have hs' := hrec.obj (K.STEP p) (by simp only [K.STEP]; omega)
  simp only [Dev.takeVote, Dev.keepVote, Sched.hold, ha', hs', ha, hs, hh, hd, ne_eq, not_true_eq_false, decide_false, Bool.or_self,
    Bool.false_eq_true, if_false]

end

/-- A record of one vote that its channel's partition takes, where its schedule runs or is suspended. -/
theorem vote_arrives {s : State} {l ch : Nat} {m : Msg} {d : Dev} (h : Arrives s l 8 m d) (hc : d.msgChannel m = some ch)
    (hn : (ringHdr m.payload).count = 1) :
    exec (.vote l) s = .next (s.setDev (if d.get (K.SCHED_STATE (d.get (K.CH_PART ch))) < 3 then d
      else d.takeVote (d.get (K.CH_PART ch)) (voteOf ((m.payload.drop 16).take 16)))) := by
  obtain ⟨hl, hs, ht⟩ := h
  rw [exec_vote, onUnit_next (decide_eq_true hl) hs]
  simp only [Dev.vote, ht, hc, hn]
  rfl

theorem msgChannel_part {d : Dev} {m : Msg} {ch : Nat} (h : d.msgChannel m = some ch) : d.get (K.CH_PART ch) < 16 := by
  have := List.find?_some h
  simp only [Bool.and_eq_true, decide_eq_true_eq] at this
  obtain ⟨⟨⟨hp, -⟩, -⟩, -⟩ := this
  exact hp

/-! ## Swatches (R470) -/

theorem exec_swatchExchange (p : Nat) (s : State) : exec (.swatchExchange p) s = onUnit (p < 16) (fun d => d.swatchExchange p) s := by
  rfl

theorem exec_swatch (l : Nat) (s : State) : exec (.swatch l) s = onUnit (l < 64) (fun d => d.swatch l) s := by rfl

/-- A schedule with one more exchange record held. -/
def Sched.holdSwx (s : Sched) (r : SwxRec) : Sched := { s with swx := s.swx ++ [r] }

section
variable {d : Dev} {p : Nat}

theorem swatchExchange_waits (h : d.now < d.get (K.EPOCH_NOW p) + d.get (K.SWX_TICK p) ∨ d.exchanges p = false ∨
    (d.sched p).swxSent = true) : d.swatchExchange p = d := by
  obtain h | h | h := h <;> simp [Dev.swatchExchange, h]

/-- The device's own record of the new step is held and sent, once. -/
theorem swatchExchange_sends (hs : d.get (K.SCHED_STATE p) = 3) (ht : d.get (K.EPOCH_NOW p) + d.get (K.SWX_TICK p) ≤ d.now)
    (hx : d.exchanges p = true) (hn : (d.sched p).swxSent = false) :
    ∃ r : SwxRec, (d.swatchExchange p).sched p = { (d.sched p).holdSwx r with swxSent := true } ∧
      r.step = d.get (K.STEP p) + 1 ∧ r.replica = d.get (K.SWX_INDEX p) ∧
      r.swatch = (List.range 16).map (fun i => Map.get (d.part p).swatch 0 i) := by
  simp only [Dev.swatchExchange, hs, hx, hn, ne_eq, not_true_eq_false, Nat.not_lt.mpr ht, decide_false, Bool.not_true, Bool.or_self,
    Bool.false_eq_true, if_false, (Dev.sendSwx_noted _ _ _).sched, Dev.sched_setSched_self]
  exact ⟨_, rfl, rfl, rfl, rfl⟩

end

section
variable {s : State} {l ch : Nat} {m : Msg} {d : Dev} (h : Arrives s l 9 m d) (hc : d.msgChannel m = some ch)
include h hc

theorem swatch_again
    (hh : (d.sched (d.get (K.CH_PART ch))).swx.any (fun x => x.step == (swxOf (m.payload.drop 16)).step &&
      x.device == (swxOf (m.payload.drop 16)).device) = true) : exec (.swatch l) s = .next (s.setDev d) := by
  obtain ⟨hl, hs, ht⟩ := h
  rw [exec_swatch, onUnit_next (decide_eq_true hl) hs]
  simp only [Dev.swatch, ht, hc, hh, if_true]

theorem swatch_new
    (hh : (d.sched (d.get (K.CH_PART ch))).swx.any (fun x => x.step == (swxOf (m.payload.drop 16)).step &&
      x.device == (swxOf (m.payload.drop 16)).device) = false) :
    ∃ b, exec (.swatch l) s = .next (s.setDev b) ∧
      b.sched (d.get (K.CH_PART ch)) = (d.sched (d.get (K.CH_PART ch))).holdSwx (swxOf (m.payload.drop 16)) := by
  obtain ⟨hl, hs, ht⟩ := h
  refine ⟨_, by rw [exec_swatch, onUnit_next (decide_eq_true hl) hs], ?_⟩
  simp only [Dev.swatch, ht, hc, hh, Bool.false_eq_true, if_false]
  rw [(Dev.Noted.ite _ (Dev.sendSwx_noted _ _ _)).sched, Dev.sched_setSched_self]
  rfl

end

end Sys2Proof.Machine
end

section
/-! Proofs: what a completion does to the vote and to the commit (R99, R301, R302, R307). -/
namespace Sys2Proof.Machine

/-! ## The counters of a completion (R68) -/

theorem ok_core {e : Eng} (h : e.ok = true) (hc : e.isCore = true) : e.n < 64 := by
  simp only [Eng.ok, hc, if_true, Bool.and_eq_true, decide_eq_true_eq] at h
  exact h.2

/-- The counters of the engine that a status moves. -/
def Dev.tallied (d : Dev) (e : Eng) (st : Nat) : Dev :=
  let p := d.engPart e
  let d := if st ≠ 0 then d.engCount e 12 1 else d
  if e.k = 5 && st ≠ 0 then d.put (K.UP_LAST_PART e.n) p else d

/-- ... and the count of the partition's late completions. -/
def Dev.counted (d : Dev) (e : Eng) (st : Nat) (quiet : Bool) : Dev :=
  if st = stLATE && !quiet then (d.tallied e st).cnt (K.LATE_COUNT (d.engPart e)) 1 else d.tallied e st

theorem engCount_get (d : Dev) (e : Eng) (sub n : Nat) {o : Obj} (ho : o.key < 0xA00000) : (d.engCount e sub n).get o = d.get o := by
  simp only [Dev.engCount]
  split
  · exact (Dev.get_put_ne _ _ (by dsimp only; omega)).trans (Dev.get_put_ne _ _ (by dsimp only; omega))
  · exact Dev.get_put_ne _ _ (by dsimp only; omega)

theorem tallied_side (d : Dev) (e : Eng) (st : Nat) : Dev.Side d (d.tallied e st) := by
  have h : Dev.Side d (if st ≠ 0 then d.engCount e 12 1 else d) := by
    split
    · exact d.engCount_side _ _ _
    · exact .refl d
  unfold Dev.tallied
  dsimp only
  split
  · exact h.trans (Dev.put_side _ _ _)
  · exact h

theorem counted_side (d : Dev) (e : Eng) (st : Nat) (quiet : Bool) : Dev.Side d (d.counted e st quiet) := by
  unfold Dev.counted
  split
  · exact (tallied_side d e st).trans (Dev.cnt_side _ _ _)
  · exact tallied_side d e st

/-- The engine's counters lie above the objects of schedules; the update engine's last partition is no object of a core. -/
theorem tallied_get (d : Dev) (e : Eng) (st : Nat) {o : Obj} (ho : o.key < 0x300000 ∨ o.key < 0xA00000 ∧ e.isCore = true) :
    (d.tallied e st).get o = d.get o := by
  have h : (if st ≠ 0 then d.engCount e 12 1 else d).get o = d.get o := by
    split
    · exact engCount_get d e 12 1 (by omega)
    · rfl
  unfold Dev.tallied
  dsimp only
  split
  next h5 =>
    refine (Dev.get_put_ne _ _ ?_).trans h
    simp only [Eng.isCore, Bool.and_eq_true, decide_eq_true_eq] at h5 ho
    simp only [K.UP_LAST_PART]
    omega
  next => exact h

theorem counted_get (d : Dev) (e : Eng) (st : Nat) (quiet : Bool) {o : Obj}
    (ho : o.key < 0x300000 ∨ o.key < 0xA00000 ∧ e.isCore = true) (hl : o.key % 256 ≠ 0x0F) :
    (d.counted e st quiet).get o = d.get o := by
  unfold Dev.counted
  split
  · exact (Dev.get_put_ne _ _ (by simp only [K.LATE_COUNT]; omega)).trans (tallied_get d e st ho)
  · exact tallied_get d e st ho

/-! ## A failed commit (R307) -/

theorem damage_sched (d : Dev) (p st : Nat) :
    (d.damage p st).sched p = { d.sched p with failCommit := if (d.sched p).failCommit = 0 then st else (d.sched p).failCommit } := by
  unfold Dev.damage
  dsimp only
  by_cases h : (d.sched p).failCommit = 0
  · rw [if_neg (not_not_intro h), (Dev.file_side _ _).sched, Dev.sched_put, Dev.sched_setSched_self, if_pos h]
  · rw [if_pos h, if_neg h]

theorem damage_sched_ne (d : Dev) {p q : Nat} (st : Nat) (h : q ≠ p) : (d.damage p st).sched q = d.sched q := by
  unfold Dev.damage
  dsimp only
  split
  · rfl
  · rw [(Dev.file_side _ _).sched, Dev.sched_put, Dev.sched_setSched_ne _ _ h]

/-- Of the objects of schedules a failed commit moves JOB_DAMAGED alone. -/
theorem damage_get (d : Dev) (p st : Nat) {o : Obj} (ho : o.key < 0x300000) (hj : o.key % 256 ≠ 0x15) :
    (d.damage p st).get o = d.get o := by
  unfold Dev.damage
  dsimp only
  split
  · rfl
  · exact (Dev.file_low _ _ o ho).trans (Dev.get_put_ne _ _ (by simp only [K.JOB_DAMAGED]; omega))

/-! ## The ways of a completion -/

/-- A fugitive contribution that has come is excused no more (R104). -/
def Sched.excuse (s : Sched) (key : Nat) : Sched := { s with excused := s.excused.erase key }

/-- A schedule whose vote will have this cause (R301). -/
def Sched.accuse (s : Sched) (st : Nat) : Sched := { s with causes := s.causes ++ [st], nf := s.nf || st == stNONFIN }

section
variable (d : Dev) (e : Eng) (w1 st att sig : Nat) (quiet : Bool)

/-- All that a completion does beside its counters: it uses up an excuse, fails a commit, or, while the vote is open, gives it a
cause. -/
theorem account_cases :
    16 ≤ d.engPart e ∧ d.account e w1 st att sig quiet = d.tallied e st ∨
    d.engPart e < 16 ∧
    (d.account e w1 st att sig quiet = d.counted e st quiet ∨
      (∃ key, d.account e w1 st att sig quiet =
        (d.counted e st quiet).setSched (d.engPart e) ((d.sched (d.engPart e)).excuse key)) ∨
      d.account e w1 st att sig quiet = (d.counted e st quiet).damage (d.engPart e) st ∨
      (d.sched (d.engPart e)).voted = false ∧ d.account e w1 st att sig quiet =
        (d.counted e st quiet).setSched (d.engPart e) ((d.sched (d.engPart e)).accuse st)) := by
  have hc : (d.counted e st quiet).sched (d.engPart e) = d.sched (d.engPart e) := (counted_side d e st quiet).sched _
  generalize ht : d.account e w1 st att sig quiet = t
  unfold Dev.account at ht
  extract_lets p d1 d2 d3 s at ht
  split at ht
  next hp => exact .inl ⟨hp, ht.symm⟩
  next hp =>
    rw [← hc]
    refine .inr ⟨Nat.not_le.mp hp, ?_⟩
    split at ht
    next => exact .inl ht.symm
    split at ht
    next => exact .inr (.inl ⟨_, ht.symm⟩)
    split at ht
    next => exact .inr (.inr (.inl ht.symm))
    split at ht
    next => exact .inl ht.symm
    next hv => exact .inr (.inr (.inr ⟨Bool.eq_false_iff.mpr hv, ht.symm⟩))

/-- A commit-segment command that does not end OK after a decision to commit fails the commit (R307). -/
theorem account_damages (he : e.ok = true) (hp : d.engPart e < 16) (hd : (d.sched (d.engPart e)).decided = true)
    (hc : d.get (K.DECISION (d.engPart e)) = 1) (ht : d.get (K.DECIDE_TICK (d.engPart e)) ≤ w1)
    (ha : att = d.get (K.ATTEMPT (d.engPart e))) (hst : st ≠ stOK)
    (hx : st = stLATE → e.isCore = true → (d.sched (d.engPart e)).excused.contains (d.excuseKey e sig) = false) :
    d.account e w1 st att sig false = (d.counted e st false).damage (d.engPart e) st := by
  have hsched : (d.counted e st false).sched (d.engPart e) = d.sched (d.engPart e) := (counted_side d e st false).sched _
  have hdec : (d.counted e st false).get (K.DECISION (d.engPart e)) = 1 :=
    (counted_get d e st false (.inl (by simp only [K.DECISION]; omega)) (by simp only [K.DECISION]; omega)).trans hc
  have htick : (d.counted e st false).get (K.DECIDE_TICK (d.engPart e)) ≤ w1 :=
    (counted_get d e st false (.inl (by simp only [K.DECIDE_TICK]; omega)) (by simp only [K.DECIDE_TICK]; omega)).trans_le ht
  have hatt : att = (d.counted e st false).get (K.ATTEMPT (d.engPart e)) :=
    ha.trans (counted_get d e st false (.inl (by simp only [K.ATTEMPT]; omega)) (by simp only [K.ATTEMPT]; omega)).symm
  have hexc : (decide (st = stLATE) && e.isCore &&
      (d.sched (d.engPart e)).excused.contains ((d.counted e st false).excuseKey e sig)) = false := by
    rw [Bool.and_eq_false_imp, Bool.and_eq_true, decide_eq_true_eq]
    rintro ⟨hl, hk⟩
    have hn := ok_core he hk
    rw [Dev.excuseKey, counted_get d e st false (.inr ⟨by simp only [K.CORE_SLOT]; omega, hk⟩) (by simp only [K.CORE_SLOT]; omega)]
    exact hx hl hk
  unfold Dev.account
  extract_lets p d1 d2 d3 s
  have h3 : d3 = d.counted e st false := rfl
  have hs : s = d.sched (d.engPart e) := hsched
  rw [if_neg (Nat.not_le.mpr hp), if_neg, if_neg, if_pos, h3]
  · rw [hs, h3, hd, hdec]
    simpa using htick
  · rw [hs, h3, hexc]
    decide
  · rw [h3, ← hatt]
    simpa [stOK] using hst

/-- What a completion leaves of the schedule of its partition: the vote's records, its mark, and, once it is closed, what it
counted (R302). -/
theorem account_vote (hp : d.engPart e < 16) :
    ((d.account e w1 st att sig quiet).sched (d.engPart e)).votes = (d.sched (d.engPart e)).votes ∧
    ((d.account e w1 st att sig quiet).sched (d.engPart e)).voted = (d.sched (d.engPart e)).voted ∧
    ((d.sched (d.engPart e)).voted = true →
      ((d.account e w1 st att sig quiet).sched (d.engPart e)).causes = (d.sched (d.engPart e)).causes) := by
  have hc : (d.counted e st quiet).sched (d.engPart e) = d.sched (d.engPart e) := (counted_side d e st quiet).sched _
  obtain ⟨h, -⟩ | ⟨-, ht | ⟨key, ht⟩ | ht | ⟨hv, ht⟩⟩ := account_cases d e w1 st att sig quiet
  · omega
  · rw [ht, hc]
    exact ⟨rfl, rfl, fun _ => rfl⟩
  · rw [ht, Dev.sched_setSched_self]
    exact ⟨rfl, rfl, fun _ => rfl⟩
  · rw [ht, damage_sched, hc]
    exact ⟨rfl, rfl, fun _ => rfl⟩
  · rw [ht, Dev.sched_setSched_self]
    exact ⟨rfl, rfl, fun h => absurd h (by rw [hv]; decide)⟩

end

end Sys2Proof.Machine
end

section
/-! Proofs: a device in doubt (R305). The commands of the commit segment that then complete read lists, push handles and write
completion records; none of that moves what was decided. -/
namespace Sys2Proof.Machine

/-! ## What a read of memory leaves -/

/-- A stack's objects lie above those of schedules. -/
theorem hbm_keys (n : Nat) : 0x300000 ≤ (K.HBM_LAST_SYNDROME n).key ∧ 0x300000 ≤ (K.HBM_CORRECTED n).key ∧
    0x300000 ≤ (K.HBM_UNCORR n).key ∧ 0x300000 ≤ (K.HBM_ODECC n).key := by
  simp only [K.HBM_LAST_SYNDROME, K.HBM_CORRECTED, K.HBM_UNCORR, K.HBM_ODECC]; omega

theorem Dev.hbmRecord_low (d : Dev) (kind x st p idx op : Nat) : Dev.LowKept d (d.hbmRecord kind x st p idx op) := by
  simp only [Dev.hbmRecord]
  exact ((Dev.LowKept.refl d).put _ _ (hbm_keys _).1).trans (Dev.file_low _ _)

theorem Dev.lineCorrected_low (d : Dev) (line p idx op : Nat) : Dev.LowKept d (d.lineCorrected line p idx op) := by
  have h : Dev.LowKept d (d.cnt (K.HBM_CORRECTED (line * 128 / chBytes / 16)) 1) :=
    (Dev.LowKept.refl d).cnt _ _ (hbm_keys _).2.1
  simp only [Dev.lineCorrected]
  split
  · exact (h.trans (Dev.setMem_low _ _)).trans (Dev.hbmRecord_low _ _ _ _ _ _ _)
  · exact (h.trans (Dev.setMem_low _ _)).trans (Dev.setMem_low _ _)

theorem Dev.lineLost_low (d : Dev) (line kind p idx op : Nat) : Dev.LowKept d (d.lineLost line kind p idx op) :=
  ((d.setMem_low _).cnt _ _ (hbm_keys _).2.2.1).trans (Dev.hbmRecord_low _ _ _ _ _ _ _)

theorem Dev.lineMet_low (d : Dev) (line p idx op : Nat) (f : Finding) : Dev.LowKept d (d.lineMet line p idx op f).2 := by
  unfold Dev.lineMet
  split
  · exact d.lineLost_low _ _ _ _ _
  split
  · exact d.lineLost_low _ _ _ _ _
  split
  · exact d.lineCorrected_low _ _ _ _
  · exact (Dev.LowKept.refl d).cnt _ _ (hbm_keys _).2.2.2
  · exact .refl d

theorem Dev.readLine_low (d : Dev) (s : Iss) (line : Nat) : Dev.LowKept d (d.readLine s line).2 :=
  ((d.cacheTouch_low _ _ _ _).trans (Dev.stain_low _ _ _ _)).trans ((Dev.noteDelay_low _ _).trans (Dev.lineMet_low _ _ _ _ _ _))

theorem Dev.readLines_low (d : Dev) (s : Iss) (ls : List Loc) : Dev.LowKept d (d.readLines s ls).2.2 := by
  unfold Dev.readLines
  dsimp only
  refine Dev.LowKept.trans ?_ (Dev.meter_low _ _ _ _)
  refine Dev.LowKept.foldl_of (fun a : Bool × Dev => a.2) _ _ (fun x y => ?_) (false, d)
  exact x.2.readLine_low s y

theorem Dev.spRecordEcc_low (d : Dev) (c mem kind word e idx op ecc : Nat) :
    Dev.LowKept d (d.spRecordEcc c mem kind word e idx op ecc) := by
  have hk : 0x300000 ≤ (K.SP_UNCORR c).key ∧ 0x300000 ≤ (K.LAST_SYNDROME c).key := by
    simp only [K.SP_UNCORR, K.LAST_SYNDROME]; omega
  simp only [Dev.spRecordEcc]
  refine Dev.LowKept.put (.trans ?_ (Dev.file_low _ _)) _ _ hk.2
  split
  · exact (Dev.LowKept.refl d).cnt _ _ hk.1
  · exact .refl d

theorem Dev.spMet_low (d : Dev) (s : Iss) (e : Nat) (ws : List (Nat × Nat × Nat)) : Dev.LowKept d (d.spMet s e ws) :=
  .foldl _ _ (fun d _ => d.spRecordEcc_low _ _ _ _ _ _ _ _) d

theorem Dev.spCorrected_low (d : Dev) (c mem word : Nat) : Dev.LowKept d (d.spCorrected c mem word) := by
  have h (x : Core) : Dev.LowKept d ((d.setCore c x).cnt (K.SP_CORRECTED c) 1) :=
    .cnt (.of_objs rfl) _ _ (by simp only [K.SP_CORRECTED]; omega)
  unfold Dev.spCorrected
  dsimp only
  split
  · exact (h _).trans (.trans (.of_objs rfl) (Dev.spRecordEcc_low _ _ _ _ _ _ _ _ _))
  · exact h _

theorem Dev.readRun_low (d : Dev) (s : Iss) (e : Nat) (ls : List Loc) : Dev.LowKept d (d.readRun s e ls).2.2 :=
  ((d.readLines_low s ls).trans (Dev.spMet_low _ _ _ _)).trans (.foldl _ _ (fun d _ => d.spCorrected_low _ _ _) _)

theorem Dev.readWin_low (d : Dev) (s : Iss) (w : Who) (a n : Nat) : Dev.LowKept d (d.readWin s w a n).2 := by
  unfold Dev.readWin
  split
  · exact .refl d
  · split
    · exact .refl d
    · exact d.readRun_low _ _ _

theorem Dev.slot_low (d : Dev) (e : Eng) (i : Nat) : Dev.LowKept d (d.slot e i).2 := by
  unfold Dev.slot
  split
  · exact .refl d
  split
  · exact .refl d
  · exact d.readWin_low _ _ _ _

theorem Dev.requestFor_low (d : Dev) (e : Eng) (l : Bool) (i at' : Nat) (w : Bool) (a n : Nat) (bs : List Nat) :
    Dev.LowKept d (d.requestFor e l i at' w a n bs).2 := by
  unfold Dev.requestFor
  dsimp only
  generalize hm : txMsg _ _ _ _ _ _ _ _ _ _ _ = m
  have h := (d.send_units m false).low
  generalize d.send m false = r at h ⊢
  obtain ⟨d', ok⟩ := r
  cases ok
  · exact h
  · exact h.trans (.of_objs rfl)

theorem Dev.moveEntry_low (d : Dev) (w : Who) (a : Nat) (bs : List Nat) : Dev.LowKept d (d.moveEntry w a bs) := by
  unfold Dev.moveEntry
  split
  · exact .refl d
  · refine .foldl _ _ (fun d b => ?_) d
    split
    · exact d.setHbmByte_low _ _
    · exact d.setMem_low _
    · exact .refl d

/-! ## The ruling on an attempt -/

/-- The ruling on the attempt of a partition: the decision, its cause, the attempt that it is for, and whether it is made (R304,
R305). -/
def Dev.ruling (d : Dev) (p : Nat) : Nat × Nat × Nat × Bool :=
  (d.get (K.DECISION p), d.get (K.DECISION_CAUSE p), d.get (K.DECISION_ATTEMPT p), (d.sched p).decided)

/-- The ruling on every partition's attempt stands. -/
structure Dev.RulingKept (a b : Dev) : Prop where
  ruling : ∀ p < 16, b.ruling p = a.ruling p

namespace Dev.RulingKept

variable {a b c : Dev}

theorem refl (a : Dev) : Dev.RulingKept a a := ⟨fun _ _ => rfl⟩
theorem trans (h : Dev.RulingKept a b) (g : Dev.RulingKept b c) : Dev.RulingKept a c :=
  ⟨fun p hp => (g.ruling p hp).trans (h.ruling p hp)⟩
theorem foldl {β : Type} (f : Dev → β → Dev) (l : List β) (h : ∀ d x, Dev.RulingKept d (f d x)) (d : Dev) :
    Dev.RulingKept d (l.foldl f d) := List.foldlRecOn l f (refl d) (fun b hb x _ => hb.trans (h b x))

/-- The objects of a ruling are none of those that a completion moves, LATE_COUNT and JOB_DAMAGED. -/
theorem of_get (h : ∀ o : Obj, o.key < 0x300000 → o.key % 256 ≠ 0x0F → o.key % 256 ≠ 0x15 → b.get o = a.get o)
    (g : ∀ p, (b.sched p).decided = (a.sched p).decided) : Dev.RulingKept a b := by
  refine ⟨fun p hp => ?_⟩
  simp only [Dev.ruling]
  rw [g, h (K.DECISION p), h (K.DECISION_CAUSE p), h (K.DECISION_ATTEMPT p)]
  all_goals simp only [K.DECISION, K.DECISION_CAUSE, K.DECISION_ATTEMPT]; omega

theorem of_low (h : Dev.LowKept a b) (g : ∀ p, b.sched p = a.sched p) : Dev.RulingKept a b :=
  of_get (fun o ho _ _ => h o ho) (fun p => by rw [g])

theorem of_side (h : Dev.Side a b) (g : Dev.LowKept a b) : Dev.RulingKept a b := of_low g h.sched

theorem of_noted (h : Dev.Noted a b) : Dev.RulingKept a b := of_low h.obj.low h.sched

/-- Objects and partitions hold every ruling. -/
theorem of_eq (h : b.objs = a.objs) (g : b.parts = a.parts) : Dev.RulingKept a b :=
  of_low (.of_objs h) (fun p => by simp only [Dev.sched, Dev.part, g])

end Dev.RulingKept

theorem Dev.file_ruling (d : Dev) (i : RecInfo) : Dev.RulingKept d (d.file i) := .of_side (d.file_side i) (d.file_low i)

theorem Dev.slot_ruling (d : Dev) (e : Eng) (i : Nat) : Dev.RulingKept d (d.slot e i).2 := .of_side (d.slot_side e i) (d.slot_low e i)

theorem Dev.requestFor_ruling (d : Dev) (e : Eng) (l : Bool) (i at' : Nat) (w : Bool) (a n : Nat) (bs : List Nat) :
    Dev.RulingKept d (d.requestFor e l i at' w a n bs).2 := .of_side (d.requestFor_side _ _ _ _ _ _ _ _) (d.requestFor_low _ _ _ _ _ _ _ _)

/-- A change of a partition's record that leaves its schedule. -/
theorem Dev.setPart_ruling (d : Dev) {p : Nat} {x : Part} (h : x.sched = d.sched p) : Dev.RulingKept d (d.setPart p x) :=
  .of_low (.of_objs rfl) (d.sched_setPart h)

theorem Dev.setCtx_ruling (d : Dev) (e : Eng) (x : EngCtx) : Dev.RulingKept d (d.setCtx e x) := by
  unfold Dev.setCtx
  split
  · exact .of_eq rfl rfl
  · split <;> exact d.setPart_ruling rfl

theorem Dev.setHq_ruling (d : Dev) (c q : Nat) (l : List Handle) : Dev.RulingKept d (d.setHq c q l) := .of_eq rfl rfl

/-! ## The end of a command -/

theorem Dev.popFor_ruling {d t : Dev} {e : Eng} {q : Nat} {h : Option Handle} (g : d.popFor e q = some (h, t)) :
    Dev.RulingKept d t := by
  unfold Dev.popFor at g
  dsimp only at g
  split at g
  · cases g; exact .refl d
  split at g
  · cases g; exact .refl d
  split at g
  · cases g
  split at g
  · cases g
  split at g
  · cases g
  · cases g
    exact (d.setHq_ruling _ _ _).trans (Dev.setCtx_ruling _ _ _)

theorem Dev.popFirst_ruling (d : Dev) (c q : Nat) : Dev.RulingKept d (d.popFirst c q) := by
  unfold Dev.popFirst
  split
  · split
    · rename_i g; exact Dev.popFor_ruling g
    · exact .refl d
  · exact .refl d

theorem Dev.push_ruling (d : Dev) (e : Eng) (q : Nat) (h : Handle) : Dev.RulingKept d (d.push e q h).1 := by
  unfold Dev.push
  split
  · exact .refl d
  have hs : Dev.RulingKept d (if e.isCore = true then d.stain 1 e.unit (d.engPart e) else (0, 0, d)).2.2 := by
    split
    · exact .of_side (d.stain_side _ _ _) (d.stain_low _ _ _)
    · exact .refl d
  revert hs
  generalize (if e.isCore = true then d.stain 1 e.unit (d.engPart e) else (0, 0, d)) = r
  obtain ⟨n, t, d2⟩ := r
  intro hs
  dsimp only at hs ⊢
  split
  · rename_i c _
    have hw : Dev.RulingKept d (if d2.get (K.DOM_STATE c) ≤ 2 then d2.wakeDom c else d2) := by
      split
      · exact hs.trans (.of_side (d2.wakeDom_side _) (d2.wakeDom_low _))
      · exact hs
    generalize (if d2.get (K.DOM_STATE c) ≤ 2 then d2.wakeDom c else d2) = d3 at hw ⊢
    split
    · exact hw.trans (d3.setHq_ruling _ _ _)
    split
    · exact (hw.trans (d3.popFirst_ruling _ _)).trans (Dev.setHq_ruling _ _ _ _)
    · exact hw
  · split
    · exact hs
    · exact hs.trans (Dev.setPart_ruling _ rfl)

theorem Dev.ringSlot_ruling (d : Dev) (e : Eng) (gen : Nat) : Dev.RulingKept d (d.ringSlot e gen).2 := by
  have hk : 0x300000 ≤ (Dev.ringObjs e).2.2.key := by
    unfold Dev.ringObjs
    split
    · simp only [K.RING_POS]; omega
    split
    · simp only [K.UP_RING_POS]; omega
    · simp only [K.RD_RING_POS]; omega
  unfold Dev.ringSlot
  dsimp only
  split
  · exact .of_side (d.put_side _ _) ((Dev.LowKept.refl d).put _ _ hk)
  · exact d.setCtx_ruling _ _

theorem Dev.noteRing_ruling (d : Dev) (e : Eng) (gen : Nat) (l : List Nat) (r : List RingEntry) :
    Dev.RulingKept d (d.noteRing e gen l r) := by
  unfold Dev.noteRing
  split
  · exact .refl d
  · exact d.setPart_ruling rfl

/-- Behind a completion record the entries that follow it move up, and one that could not be written is filed (R534, R536). -/
theorem Dev.recordDone_ruling (d : Dev) (e : Eng) (index op st : Nat) (l : List (Nat × RingEntry)) :
    Dev.RulingKept d (let t := l.foldl (fun d x => d.moveEntry (d.engWho e) x.1 x.2.bytes) d
      if st = 0 then t else t.recordLost e index op st) := by
  have h : Dev.RulingKept d (l.foldl (fun d x => d.moveEntry (d.engWho e) x.1 x.2.bytes) d) :=
    .foldl _ l (fun d _ => .of_side (d.moveEntry_side _ _ _) (d.moveEntry_low _ _ _)) d
  dsimp only
  split
  · exact h
  · exact h.trans (Dev.file_ruling _ _)

theorem Dev.record_ruling (d : Dev) (e : Eng) (index op status gen : Nat) : Dev.RulingKept d (d.record e index op status gen) := by
  unfold Dev.record
  extract_lets d0
  have h0 : Dev.RulingKept d d0 := by
    have hk : 0x300000 ≤ (K.SPL_LOADS e.n).key ∧ 0x300000 ≤ (K.SPL_REFUSED e.n).key := by
      simp only [K.SPL_LOADS, K.SPL_REFUSED]; omega
    unfold d0
    split
    · exact .of_side ((d.cnt_side _ _).trans (Dev.cnt_side _ _ _)) (((Dev.LowKept.refl d).cnt _ _ hk.1).cnt _ _ hk.2)
    · exact .refl d
  have h1 := h0.trans (d0.ringSlot_ruling e gen)
  generalize d0.ringSlot e gen = r at h1 ⊢
  obtain ⟨a, d1⟩ := r
  dsimp only at h1 ⊢
  generalize d1.ringLater e gen = rest
  generalize rest.map RingEntry.addr ++ [a] = slots
  generalize toLE 4 index ++ [status, e.k, 0, 0] ++ toLE 8 d1.now = bytes
  have h2 := h1.trans (d1.noteRing_ruling e gen slots ({ tick := d1.now, gen := gen, eng := e.n, addr := a, bytes := bytes } :: rest))
  generalize d1.noteRing e gen slots ({ tick := d1.now, gen := gen, eng := e.n, addr := a, bytes := bytes } :: rest) = d2 at h2 ⊢
  split
  · exact h2.trans (.of_eq rfl rfl)
  · by_cases hdev : bits a 63 52 = d2.get K.DEVICE_NUMBER
    · rw [if_pos hdev]
      have h3 := h2.trans (.of_side (d2.writeWin_side (d2.iss e index op) (d2.engWho e) (slots.headD a) bytes)
        (d2.writeWin_low _ _ _ _))
      exact h3.trans (Dev.recordDone_ruling _ _ _ _ _ _)
    · rw [if_neg hdev]
      have h3 := h2.trans (d2.requestFor_ruling e true index 0 true (slots.headD a) 16 bytes)
      generalize d2.requestFor e true index 0 true (slots.headD a) 16 bytes = r at h3 ⊢
      obtain ⟨x, d3⟩ := r
      cases x <;> exact h3.trans (Dev.recordDone_ruling _ _ _ _ _ _)

theorem Dev.nfRecord_ruling (d : Dev) (e : Eng) (index op st : Nat) : Dev.RulingKept d (d.nfRecord e index op st) := by
  unfold Dev.nfRecord
  split
  · exact d.file_ruling _
  · exact .refl d

theorem Dev.lateCompletion_ruling (d : Dev) (e : Eng) (index op w1 cause st : Nat) :
    Dev.RulingKept d (d.lateCompletion e index op w1 cause st) := by
  unfold Dev.lateCompletion
  split
  · unfold Dev.lateRecord
    dsimp only
    split
    · exact .refl d
    · exact (d.setCtx_ruling e _).trans (Dev.file_ruling _ _)
  · exact .refl d

/-- A schedule that is replaced by one with the same mark. -/
theorem Dev.setSched_ruling (d : Dev) {p : Nat} {x : Sched} (h : x.decided = (d.sched p).decided) :
    Dev.RulingKept d (d.setSched p x) := by
  refine .of_get (fun _ _ _ _ => rfl) fun q => ?_
  by_cases hq : q = p
  · rw [hq, Dev.sched_setSched_self, h]
  · rw [Dev.sched_setSched_ne _ _ hq]

theorem Dev.damage_ruling (d : Dev) (p st : Nat) : Dev.RulingKept d (d.damage p st) := by
  refine .of_get (fun o ho _ hj => damage_get d p st ho hj) fun q => ?_
  by_cases hq : q = p
  · rw [hq, damage_sched]
  · rw [damage_sched_ne d st hq]

theorem Dev.counted_ruling (d : Dev) (e : Eng) (st : Nat) (quiet : Bool) : Dev.RulingKept d (d.counted e st quiet) :=
  .of_get (fun _ ho hl _ => counted_get d e st quiet (.inl ho) hl) fun p => by rw [(counted_side d e st quiet).sched]

/-- A completion fails a commit at most; it decides nothing. -/
theorem Dev.account_ruling (d : Dev) (e : Eng) (w1 st att sig : Nat) (quiet : Bool) :
    Dev.RulingKept d (d.account e w1 st att sig quiet) := by
  have hc := d.counted_ruling e st quiet
  have hs := (counted_side d e st quiet).sched (d.engPart e)
  obtain ⟨-, h⟩ | ⟨-, h | ⟨key, h⟩ | h | ⟨-, h⟩⟩ := account_cases d e w1 st att sig quiet <;> rw [h]
  · exact .of_side (tallied_side d e st) (fun o ho => tallied_get d e st (.inl ho))
  · exact hc
  · exact hc.trans (Dev.setSched_ruling _ (by rw [hs]; rfl))
  · exact hc.trans (Dev.damage_ruling _ _ _)
  · exact hc.trans (Dev.setSched_ruling _ (by rw [hs]; rfl))

theorem Dev.endHead_ruling (d : Dev) (e : Eng) (c : Cmd) (n st : Nat) (quiet : Bool) (h : Handle) :
    Dev.RulingKept d (d.endHead e c n st quiet h) := by
  unfold Dev.endHead
  extract_lets d1 x cy st1
  have h1 : Dev.RulingKept d d1 := .foldl _ _ (fun d _ => d.slot_ruling e _) d
  have h2 := h1.trans (d1.push_ruling e (if c.sigQ < 32 then c.sigQ else 255) { h with status := st1, cyc := cy })
  generalize d1.push e (if c.sigQ < 32 then c.sigQ else 255) { h with status := st1, cyc := cy } = r at h2 ⊢
  obtain ⟨d2, ok⟩ := r
  dsimp -zeta only
  extract_lets d3 st2 own d4 d5
  have h3 : Dev.RulingKept d d3 := by
    unfold d3
    split
    · exact h2
    · exact h2.trans (d2.file_ruling _)
  exact (((h3.trans (Dev.record_ruling ..)).trans (Dev.nfRecord_ruling ..)).trans (Dev.lateCompletion_ruling ..)).trans
    ((d4.account_ruling ..).trans (Dev.setCtx_ruling ..))

/-! ## The lists of an attempt in doubt -/

theorem Dev.askSlot_ruling (d : Dev) (e : Eng) (i : Nat) : Dev.RulingKept d (d.askSlot e i) := by
  have h := d.requestFor_ruling e true i 0 false (d.listBase e + 32 * i) 32 []
  unfold Dev.askSlot
  split
  · exact .refl d
  · split
    next g => rwa [g] at h
    next g =>
      rw [g] at h
      exact h.trans (Dev.setCtx_ruling _ _ _)

theorem Dev.refuseList_ruling (d : Dev) (e : Eng) (st : Nat) : Dev.RulingKept d (d.refuseList e st) := by
  unfold Dev.refuseList
  extract_lets x d1 d2 d3
  exact (((d.setCtx_ruling _ _).trans (d1.record_ruling ..)).trans (d2.account_ruling ..)).trans (d3.file_ruling _)

theorem Dev.readList_ruling (d : Dev) (e : Eng) : Dev.RulingKept d (d.readList e) := by
  have h0 := d.slot_ruling e 0
  unfold Dev.readList
  dsimp only
  split
  · exact .refl d
  split
  next g =>
    rw [g] at h0
    split
    · exact h0.trans (Dev.askSlot_ruling _ _ _)
    · exact h0.trans (Dev.refuseList_ruling _ _ _)
  next d1 g =>
    rw [g] at h0
    split
    · exact h0.trans (Dev.refuseList_ruling _ _ _)
    · generalize hx : ({ d1.ctx e with fetched := _, count := _, bound := _, index := _ } : EngCtx) = x
      have h1 := h0.trans (d1.setCtx_ruling e x)
      have h2 := h1.trans (Dev.slot_ruling _ e 1)
      split
      next g' =>
        rw [g'] at h2
        exact h2.trans (Dev.askSlot_ruling _ _ _)
      next => exact h1

theorem Dev.stopCommit_ruling (d : Dev) (e : Eng) (n : Nat) : Dev.RulingKept d (d.stopCommit e n) := by
  induction n generalizing d with
  | zero => exact .refl d
  | succ k ih =>
    unfold Dev.stopCommit
    dsimp only
    split
    · exact .refl d
    split
    · exact .refl d
    split
    · exact .refl d
    · exact (d.endHead_ruling ..).trans (ih _)

theorem Dev.stopEngine_ruling (d : Dev) (e : Eng) : Dev.RulingKept d (d.stopEngine e) :=
  (d.readList_ruling e).trans (Dev.stopCommit_ruling _ _ _)

theorem Dev.loadSlotObjs_low (d : Dev) (c : Nat) (m : Map Nat) : Dev.LowKept d (d.loadSlotObjs c m) := by
  intro o ho
  refine List.foldlRecOn (motive := fun l => Map.get l o.dflt o.key = d.get o) m _ rfl fun l hl e _ => ?_
  exact (Map.get_set_ne _ _ _ (by omega)).trans hl

theorem Dev.imageView_ruling (d : Dev) (p n : Nat) : Dev.RulingKept d (d.imageView p n) := by
  have hk (c : Nat) : 0x300000 ≤ (K.CORE_OWNER c).key ∧ 0x300000 ≤ (K.CORE_SLOT c).key := by
    simp only [K.CORE_OWNER, K.CORE_SLOT]; omega
  have h1 : Dev.LowKept d (d.setCore (imageCore p) (Map.get (d.part p).images Image.init n).core) := .of_objs rfl
  have h2 := h1.trans (Dev.loadSlotObjs_low _ (imageCore p) (Map.get (d.part p).images Image.init n).objs)
  have hparts : (d.imageView p n).parts = d.parts := rfl
  exact .of_low ((h2.put _ _ (hk _).1).put _ _ (hk _).2) fun _ => by simp only [Dev.sched, Dev.part, hparts]

/-- The context of a slot that is on no core is put under a number that no object of a schedule bears, and taken away again. -/
theorem Dev.withImage_ruling (d : Dev) (p n : Nat) {f : Dev → Nat → Dev} (hf : ∀ x c, Dev.RulingKept x (f x c)) :
    Dev.RulingKept d (d.withImage p n f) := by
  unfold Dev.withImage
  extract_lets c d1 new q d2
  have h2 : Dev.RulingKept d d2 := ((d.imageView_ruling p n).trans (hf _ c)).trans (d1.setPart_ruling rfl)
  refine h2.trans (.of_low (fun o ho => ?_) fun _ => rfl)
  exact Map.get_filter_of_true _ _ _ _ fun _ => by simp; omega

/-- Whatever completes in the commit segment, the attempt stays in doubt. -/
theorem Dev.doubtNow_ruling (d : Dev) (p : Nat) : Dev.RulingKept (d.doubt p) (d.doubtNow p) := by
  unfold Dev.doubtNow
  extract_lets d1
  have h1 : Dev.RulingKept (d.doubt p) d1 := .foldl _ _ Dev.stopEngine_ruling _
  exact h1.trans (.foldl _ _ (fun d n => d.withImage_ruling p n fun _ _ => .foldl _ _ Dev.stopEngine_ruling _) d1)

end Sys2Proof.Machine
end

section
/-! Proofs: the statement on votes and swatches (R300 to R307, R470), from the ways of its events. -/
namespace Sys2Proof.Machine

/-! ## DECISION_IN_DOUBT (R305) -/

theorem exec_decisionInDoubt (p : Nat) (s : State) : exec (.decisionInDoubt p) s = onUnit (p < 16) (fun d => d.decisionInDoubt p) s := by
  rfl

/-- The tick up to which a device that has voted waits for the records of the others. -/
def Dev.doubtTick (d : Dev) (p : Nat) : Nat :=
  d.get (K.EPOCH_NOW p) + min (d.get (K.DECIDE_TICK p) + d.get (K.VOTE_HOLD_LIMIT p)) (d.get (K.PERIOD p))

theorem doubt_ruling (d : Dev) {p : Nat} (hp : p < 16) : (d.doubt p).ruling p = (3, stLINK, d.get (K.ATTEMPT p), true) := by
  unfold Dev.doubt
  extract_lets d1 x d2
  have h2 : Dev.RulingKept d1 d2 := d1.setSched_ruling rfl
  have h := h2.trans (.of_noted ((d2.schedRecord_noted p 9 0 (d2.get (K.ATTEMPT p)) 0).trans
    (Dev.notify_noted _ 3 0 (0x2300 + p) 0x11 p)))
  rw [h.ruling p hp, Dev.ruling, setDecision_decision, setDecision_cause, setDecision_attempt, setDecision_sched]

section
variable {d : Dev} {p : Nat}

theorem decisionInDoubt_early (h : d.now < d.doubtTick p) : d.decisionInDoubt p = d := by
  have hn : d.now < d.get (K.EPOCH_NOW p) + min (d.get (K.DECIDE_TICK p) + d.get (K.VOTE_HOLD_LIMIT p)) (d.get (K.PERIOD p)) := h
  simp [Dev.decisionInDoubt, -lt_inf_iff, hn]

/-- An attempt whose records have not all come by then is in doubt, whatever its commit segment still does. -/
theorem decisionInDoubt_ruling (hp : p < 16) (hs : d.get (K.SCHED_STATE p) = 3) (hd : (d.sched p).decided = false)
    (hv : (d.sched p).voted = true) (ht : d.get (K.DECIDE_TICK p) ≠ 0) (hn : d.doubtTick p ≤ d.now) :
    (d.decisionInDoubt p).ruling p = (3, stLINK, d.get (K.ATTEMPT p), true) := by
  have hlim : ¬ d.now < d.get (K.EPOCH_NOW p) + min (d.get (K.DECIDE_TICK p) + d.get (K.VOTE_HOLD_LIMIT p)) (d.get (K.PERIOD p)) :=
    Nat.not_lt.mpr hn
  have heq : d.decisionInDoubt p = if d.now < d.get (K.EPOCH_NOW p) + d.get (K.PERIOD p) then d.doubtNow p else d.doubt p := by
    simp only [Dev.decisionInDoubt, hs, hd, ht, hlim, voteClose_closed hv, ne_eq, not_true_eq_false, decide_false, Bool.or_self,
      Bool.false_eq_true, if_false]
  rw [heq]
  split
  · rw [(d.doubtNow_ruling p).ruling p hp, doubt_ruling d hp]
  · exact doubt_ruling d hp

end

/-! ## The statement -/

/-- A device alone decides by its own record. -/
theorem closeVote_alone {d : Dev} {p : Nat} (h : d.VoteClear p) (hp : p < 16) (hc : d.get (K.VOTE_CHANNEL p) < 32)
    (hn : (d.sched p).votes = []) (hj : d.jobSize p = 1) :
    Dev.Decided (d.castVote p (d.ownVote p)) (d.closeVote p) p (if firstCause (d.sched p).causes = 0 then 1 else 2)
      (firstCause (d.sched p).causes) := by
  have hnoted := castVote_noted d p (d.ownVote p)
  have hvotes : ((d.sched p).close (d.ownVote p)).votes = [d.ownVote p] := by simp [Sched.close, hn]
  have hl : d.jobSize p ≤ ((d.sched p).close (d.ownVote p)).votes.length := by simp [hvotes, hj]
  have hgood := ownVote_good d p
  rw [closeVote_clear h]
  split
  next hz =>
    rw [hz]
    exact held_commits hnoted h.undecided hp hc rfl hl (by simp [hvotes, hgood, hz])
  next hz =>
    have hab := held_abandons hnoted h.undecided hp hc rfl hl (by simp [hvotes, hgood, hz])
    have hwhy : (d.ownVote p).why = firstCause (d.sched p).causes := if_neg hz
    rwa [hvotes, List.filter_singleton, hgood, decide_eq_false hz, Bool.not_false, cond_true, List.map_singleton, hwhy,
      firstCause_single (firstCause_ranked _)] at hab

/-- Settles O47: the close, by what the device's own record and those it holds decide; a completion, by its ways; a record of the
ring, by whether it is held; doubt, by what leaves the ruling; swatches, by what their two events hold. -/
theorem votesAndSwatches : Obligations.VotesAndSwatches := by
  unfold Obligations.VotesAndSwatches
  refine ⟨?close, ?account, ⟨?ring, ?doubt⟩, ?exchange, ?swatch⟩
  case close =>
    intro s p hp hs hstate htick hv hd hn hc
    rw [exec_voteClose, onUnit_next (decide_eq_true hp) hs]
    refine ⟨fun h => by rw [voteClose_early h, State.setDev_self], fun hdue hended habs hscr hlock hft hfen hrec => ?_⟩
    have hclear : s.dev.VoteClear p := ⟨htick, hended, habs, hscr, ⟨hlock, hft⟩, hfen, hrec, hd⟩
    have hnoted := castVote_noted s.dev p (s.dev.ownVote p)
    obtain ⟨hvotes, hvoted⟩ := held_kept hnoted hd hp hc
    rw [voteClose_due hstate htick hv hdue]
    refine ⟨_, s.dev.ownVote p, rfl, s.setDev_pending _, s.setDev_sec _, ?voted, ?votes, rfl, rfl, rfl, fun hj hz => ?commit, fun hj hz => ?abandon,
      fun hj => ?waits⟩ <;> rw [State.setDev_dev]
    case voted => rw [closeVote_clear hclear, hvoted]; rfl
    case votes => rw [closeVote_clear hclear, hvotes]; simp [Sched.close, hn]
    case commit =>
      have h := closeVote_alone hclear hp hc hn hj
      rw [if_pos hz, hz] at h
      exact ⟨h.code, h.cause, by rw [h.sched]⟩
    case abandon =>
      have h := closeVote_alone hclear hp hc hn hj
      rw [if_neg hz] at h
      exact ⟨h.code, h.cause, by rw [h.sched]⟩
    case waits =>
      rw [closeVote_clear hclear]
      exact held_waits hnoted hd hp hc (.inr (by rw [Sched.close, hn]; exact hj))
  case account =>
    rintro d e w1 st att sig p quiet he rfl hp
    obtain ⟨hvotes, hvoted, hcauses⟩ := account_vote d e w1 st att sig quiet hp
    refine ⟨hvotes, hvoted, hcauses, ?_⟩
    rintro hd hc ht rfl ha hst hx
    rw [account_damages d e w1 st att sig he hp hd hc ht ha hst hx, damage_sched, (counted_side d e st false).sched]
  case ring =>
    rintro s l ch p m d v harr hm rfl hc hcount rfl
    have hp := msgChannel_part hm
    rw [vote_arrives harr hm hcount]
    refine ⟨fun h => by rw [if_pos h], fun h ha hstep => ?_⟩
    rw [if_neg (Nat.not_lt.mpr h)]
    refine ⟨fun hh hg => by rw [takeVote_again ha hstep hh hg], fun hh hd => ?_⟩
    have hnoted := keepVote_noted d (d.get (K.CH_PART ch)) (voteOf ((m.payload.drop 16).take 16))
    rw [takeVote_new hp ha hstep hh hd]
    refine ⟨_, rfl, s.setDev_pending _, s.setDev_sec _, (held_kept hnoted hd hp hc).1, fun hv hl => ?_, fun hw => ?_⟩ <;> rw [State.setDev_dev]
    · exact held_decides hnoted hd hp hc hv (by simp [Sched.hold, hl])
    · exact held_waits hnoted hd hp hc (by simpa [Sched.hold] using hw)
  case doubt =>
    rintro s p lim hp hs hstate hd hv ht rfl
    rw [exec_decisionInDoubt, onUnit_next (decide_eq_true hp) hs]
    refine ⟨fun h => by rw [decisionInDoubt_early h, State.setDev_self], fun h => ⟨_, rfl, s.setDev_pending _, s.setDev_sec _, ?_⟩⟩
    have hr := decisionInDoubt_ruling hp hstate hd hv ht h
    simpa only [State.setDev_dev, Dev.ruling, Prod.mk.injEq] using hr
  case exchange =>
    intro s p hp hs hstate
    rw [exec_swatchExchange, onUnit_next (decide_eq_true hp) hs]
    refine ⟨fun h => by rw [swatchExchange_waits h, State.setDev_self], fun hdue hx hn => ?_⟩
    obtain ⟨r, hsched, hstep, hrep, hsw⟩ := swatchExchange_sends hstate hdue hx hn
    refine ⟨_, r, rfl, s.setDev_pending _, s.setDev_sec _, ?_, ?_, hstep, hrep, hsw⟩ <;> rw [State.setDev_dev, hsched]
    rfl
  case swatch =>
    rintro s l ch p m d r harr hm rfl rfl
    refine ⟨swatch_again harr hm, fun hh => ?_⟩
    obtain ⟨b, hb, hsched⟩ := swatch_new harr hm hh
    refine ⟨_, hb, s.setDev_pending _, s.setDev_sec _, ?_⟩
    rw [State.setDev_dev, hsched]
    rfl

end Sys2Proof.Machine
end

section
/-! Proofs: the queue, the answers of the commands and the form of the flash. Every command is a meaning on the device, a request of
the dictionary, or one of the few that act on boot and security themselves. -/
namespace Sys2Proof.Machine

/-! ## The kinds of commands -/

/-- A meaning that leaves the queue and the part of boot and security, of a unit that exists where the command is well formed (`w`). -/
inductive UnitArm (w : Bool) (s : State) : Out → Prop
  | unit (ok : Bool) (f : Dev → Dev) (h : w = true → ok = true) : UnitArm w s (onUnit ok f s)
  | dev (f : Dev → Dev) : UnitArm w s (onDev f s)
  | release : UnitArm w s (.next s.coreRelease)

/-- One request to the server. -/
inductive RequestArm (w : Bool) (s : State) : Out → Prop
  | request (ok : Bool) (op : Nat) (q : Req) (h : w = true → ok = true) :
      RequestArm w s (onState ok (fun s => s.serve op q) s)

theorem engOk_ok {k n p : Nat} (h : engOk k n p = true) : (engAt k n p).ok = true := by
  simp only [engOk, Bool.or_eq_true, Bool.and_eq_true, decide_eq_true_eq, beq_iff_eq] at h
  rcases h with (⟨⟨hk, hk'⟩, hn⟩ | ⟨⟨rfl, hn⟩, hp⟩) | ⟨⟨rfl, hn⟩, hp⟩
  · simp [engAt, Eng.ok, eng, Eng.isCore, hk, hk', hn]
  · simp [engAt, Eng.ok, Eng.isCore, hn, hp]
  · simp [engAt, Eng.ok, Eng.isCore, hn, hp]

theorem exec_unit {i : Instr} (h : secCommand i = false) (s : State) : UnitArm i.wf s (exec i s) := by
  cases i
  case coreRelease => exact .release
  all_goals simp [secCommand, pinCommand, dictCommand] at h
  all_goals
    dsimp only [exec]
    constructor
  all_goals simp +contextual [Instr.wf, engOk_ok, chLines]

theorem exec_request {i : Instr} (h : dictCommand i = true) (s : State) : RequestArm i.wf s (exec i s) := by
  cases i <;> simp [dictCommand] at h
  all_goals
    dsimp only [exec]
    constructor
  all_goals
    simp +contextual only [Instr.wf, Hdr.wf, Req.wf, Bool.and_eq_true, decide_eq_true_eq, and_self, implies_true]

theorem State.coreRelease_sec (s : State) : s.coreRelease.sec = s.sec := by unfold State.coreRelease; split <;> rfl

theorem UnitArm.keeps {w : Bool} {s t : State} {o : Out} (h : UnitArm w s o) (ho : o = .next t) :
    t.pending = s.pending ∧ t.sec = s.sec := by
  cases h with
  | unit ok f _ => exact onUnit_keeps ho
  | dev f => exact onDev_keeps ho
  | release => cases ho; exact ⟨s.coreRelease_pending, s.coreRelease_sec⟩

/-! ## What a command answers -/

/-- A command answers a next state with the queue as it was; one that names no unit of the package stops the machine. -/
structure Answers (w : Bool) (s : State) (o : Out) : Prop where
  next : w = true → ∃ t, o = .next t ∧ t.pending = s.pending
  refused : ∀ r, o ≠ .refused r
  fault : ∀ f, o = .fault f → f = .noSuchUnit ∧ w = false
  queue : ∀ t, o = .next t → t.pending = s.pending

namespace Answers

variable {w : Bool} {s t : State}

theorem of_next (h : t.pending = s.pending) : Answers w s (.next t) where
  next _ := ⟨t, rfl, h⟩
  refused _ := by simp
  fault _ := by simp
  queue _ ht := by cases ht; exact h

theorem onState {ok : Bool} {f : State → State} (h : w = true → ok = true) (hf : (f s).pending = s.pending) :
    Answers w s (onState ok f s) := by
  rcases onState_cases (rfl : Machine.onState ok f s = _) with ⟨hok, ho⟩ | ⟨-, -, ho⟩ | ⟨-, -, ho⟩ <;> rw [ho]
  · have hw : w = false := by rw [hok] at h; simpa using h
    exact ⟨by simp [hw], by simp, by rintro _ ⟨⟩; exact ⟨rfl, hw⟩, by simp⟩
  · exact of_next rfl
  · exact of_next hf

theorem of_unit {o : Out} (h : UnitArm w s o) : Answers w s o := by
  cases h with
  | unit ok f h => exact onState h rfl
  | dev f => exact onState (f := fun s => s.setDev (f s.dev)) (fun _ => rfl) rfl
  | release => exact of_next s.coreRelease_pending

theorem of_request {o : Out} (h : RequestArm w s o) : Answers w s o := by
  cases h with
  | request ok op q h => exact onState h (s.serve_pending op q)

end Answers

/-- No meaning touches the queue, and only a unit that does not exist is a fault. -/
theorem exec_answers (i : Instr) (s : State) : Answers i.wf s (exec i s) := by
  by_cases hu : secCommand i = true
  case neg => exact .of_unit (exec_unit (by simpa using hu) s)
  by_cases hd : dictCommand i = true
  case pos => exact .of_request (exec_request hd s)
  cases i <;> simp [secCommand, pinCommand, dictCommand] at hu hd <;> dsimp only [exec]
  case powerOnReset v e => exact .of_next (s.powerOnReset_pending v e)
  case resetNAssert => exact .of_next s.resetNAssert_pending
  case resetNRelease e => exact .of_next (s.resetNRelease_pending e)
  case railFault r => exact .of_next (s.hold_pending _)
  case thermtrip => exact .of_next (s.hold_pending _)
  case tapInstruction i => exact .of_next rfl
  case debugFullEnter => exact .onState (fun _ => rfl) s.debugFullEnter_pending
  case flashOpDone ok => exact .onState (fun _ => rfl) (s.flashOpDone_pending ok)
  case sanitiseComplete => exact .onState (fun _ => rfl) s.sanitiseComplete_pending
  case entdaa a => exact .onState (fun _ => rfl) (s.entdaa_pending a)
  case mctpControl r => exact .onState (fun _ => rfl) (s.mctpControl_pending r)
  case getVersion v => exact .onState (fun _ => rfl) (s.getVersion_pending v)
  case getCapabilities v => exact .onState (fun _ => rfl) (s.getCapabilities_pending v)
  case negotiateAlgorithms v a b m => exact .onState (fun _ => rfl) (s.negotiateAlgorithms_pending v a b m)
  case getDigests v => exact .onState (fun _ => rfl) (s.getDigests_pending v)
  case getCertificate v sl o l => exact .onState (fun _ => rfl) (s.getCertificate_pending v sl o l)
  case challenge v sl n => exact .onState (fun _ => rfl) (s.challenge_pending v sl n)
  case getMeasurements v n b => exact .onState (fun _ => rfl) (s.getMeasurements_pending v n b)
  case wakeN e => exact .of_next (s.wakeN_pending e)
  case recoveryFlashWrite l => exact .onState id (s.recoveryFlashWrite_pending l)
  case recoveryFlashRead l => exact .onState id (s.recoveryFlashRead_pending l)
  case recoveryVerify l e => exact .onState id (s.recoveryVerify_pending l e)

/-- Settles O4: by what each kind of command answers. -/
theorem everyCommandAnswers : Obligations.EveryCommandAnswers := by
  unfold Obligations.EveryCommandAnswers
  exact ⟨fun i s => (exec_answers i s).next, fun i s => ⟨(exec_answers i s).refused, (exec_answers i s).fault⟩⟩

/-! ## The step -/

theorem step_cons {c : Instr} {r : List Instr} {s : State} (h : s.pending = c :: r) :
    step s = exec c { s with pending := r } := by
  unfold step
  rw [h]

theorem step_empty {s : State} (h : s.pending = []) : step s = .next s.idle := by
  unfold step
  rw [h]

theorem State.idle_pending (s : State) : s.idle.pending = s.pending := by
  unfold State.idle
  split
  · rfl
  · exact s.coreRelease_pending

theorem step_pending {s t : State} (h : step s = .next t) : t.pending = s.pending.drop 1 := by
  cases hp : s.pending with
  | nil =>
    rw [step_empty hp] at h
    cases h
    rw [State.idle_pending, hp]
    rfl
  | cons c r =>
    rw [step_cons hp] at h
    exact (exec_answers c _).queue t h

/-- Settles O1: by the definition of the step on a queue that is not empty. -/
theorem stepTakesFront : Obligations.StepTakesFront := by
  unfold Obligations.StepTakesFront
  exact fun _ _ _ => step_cons

theorem run_succ {k : Nat} {s t : State} (h : Sys2Proof.core.run (k + 1) s = .next t) :
    ∃ s', step s = .next s' ∧ Sys2Proof.core.run k s' = .next t := by
  replace h := (Host.Core.run.eq_2 Sys2Proof.core s k).symm.trans h
  split at h
  · exact ⟨_, ‹_›, h⟩
  · cases h
  · cases h

/-- Settles O3, by induction on the number of steps: each takes one command and adds none. -/
theorem queueInOrder : Obligations.QueueInOrder := by
  unfold Obligations.QueueInOrder
  intro k
  induction k with
  | zero => rintro s t ⟨⟩; rfl
  | succ k ih =>
    intro s t h
    obtain ⟨s', hstep, hrun⟩ := run_succ h
    rw [ih s' t hrun, step_pending hstep, List.drop_drop, Nat.add_comm]

end Sys2Proof.Machine
end

section
/-! Proofs: the flash. What erasing and programming make of a byte, which operations leave the flash, and that every step keeps its
form (R500, R507). -/
namespace Sys2Proof.Machine

/-! ## Bytes (R507, log entry 36) -/

theorem Sec.byte_erase (x : Sec) (a b i : Nat) :
    (x.erase a b).byte i = if a ≤ i ∧ i < b then 0xFF else x.byte i := by
  unfold Sec.byte Sec.erase
  split
  next h => exact Map.get_delRange_in _ _ h.1 h.2
  next h => exact Map.get_delRange_out _ _ (by omega)

/-- Programming one byte of a list, `b.2` places after offset `a`. -/
def programByte (a : Nat) (m : Map Byte) (b : Nat × Nat) : Map Byte :=
  if a + b.2 < flashSize then Map.set m 0xFF (a + b.2) (Map.get m 0xFF (a + b.2) &&& BitVec.ofNat 8 b.1) else m

theorem programByte_get (a : Nat) (m : Map Byte) (b : Nat × Nat) (i : Nat) :
    Map.get (programByte a m b) 0xFF i =
      if i = a + b.2 ∧ i < flashSize then Map.get m 0xFF i &&& BitVec.ofNat 8 b.1 else Map.get m 0xFF i := by
  unfold programByte
  by_cases hi : i = a + b.2
  · subst hi
    split <;> simp_all
  · split <;> simp [hi, Map.get_set_ne]

/-- Bytes programmed from the place `n` of a list on. -/
theorem programBytes_get (a : Nat) (bs : List Nat) (n : Nat) (m : Map Byte) (i : Nat) :
    Map.get ((bs.zipIdx n).foldl (programByte a) m) 0xFF i =
      if a + n ≤ i ∧ i < a + n + bs.length ∧ i < flashSize then Map.get m 0xFF i &&& BitVec.ofNat 8 (bs.getD (i - (a + n)) 0)
      else Map.get m 0xFF i := by
  induction bs generalizing n m with
  | nil => rw [if_neg (by simp; omega)]; rfl
  | cons b r ih =>
    rw [List.zipIdx_cons, List.foldl_cons, ih, programByte_get]
    by_cases hi : i = a + n
    · subst hi
      by_cases hf : a + n < flashSize <;> simp [hf]
    · by_cases hin : a + n ≤ i ∧ i < a + n + (b :: r).length ∧ i < flashSize
      · rw [if_pos hin, if_pos (by simp at hin ⊢; omega), if_neg (by simp [hi])]
        obtain ⟨j, rfl⟩ : ∃ j, i = a + n + 1 + j := ⟨i - (a + n + 1), by omega⟩
        congr 2
        rw [show a + n + 1 + j - (a + (n + 1)) = j by omega, show a + n + 1 + j - (a + n) = j + 1 by omega, List.getD_cons_succ]
      · rw [if_neg hin, if_neg (by simp at hin ⊢; omega), if_neg (by simp [hi])]

theorem Sec.byte_program (x : Sec) (a : Nat) (bs : List Nat) (i : Nat) :
    (x.program a bs).byte i = if a ≤ i ∧ i < a + bs.length ∧ i < flashSize
      then x.byte i &&& BitVec.ofNat 8 (bs.getD (i - a) 0) else x.byte i :=
  programBytes_get a bs 0 x.flash i

/-! ## The form of the flash -/

theorem FlashOk.of_flash {x y : Sec} (h : FlashOk x) (hf : y.flash = x.flash) : FlashOk y := by
  unfold FlashOk
  rwa [hf]

theorem FlashOk.erase {x : Sec} (h : FlashOk x) (a b : Nat) : FlashOk (x.erase a b) :=
  ⟨Sec.erase_wf x a b h.1, fun e he => h.2 e (List.mem_filter.mp he).1⟩

theorem FlashOk.program {x : Sec} (h : FlashOk x) (a : Nat) (bs : List Nat) : FlashOk (x.program a bs) := by
  refine ⟨Sec.program_wf x a bs h.1, ?_⟩
  refine foldl_keeps (fun m : Map Byte => ∀ e ∈ m, e.1 < flashSize) (programByte a) _ (fun m b hm e he => ?_) _ h.2
  unfold programByte at he
  split at he
  · rcases Map.mem_set he with ⟨rfl, -⟩ | he
    · assumption
    · exact hm e he
  · exact hm e he

/-! ## What leaves the flash: the dictionary's server -/

section
variable (s : State)

theorem State.reply_flash (h : Hdr) (m : Option Msg) (r : Resp) : (s.reply h m r).sec.flash = s.sec.flash := by
  unfold State.reply
  extract_lets
  split <;> rfl

theorem State.conclude_flash (op : Nat) (q : Req) (n : Nat) (m : Option Msg) (a : Reply) :
    (s.conclude op q n m a).sec.flash = s.sec.flash := State.reply_flash _ _ _ _

theorem State.readReq_flash (n : Nat) (q : Req) (b : Bool) : (s.readReq n q b).2.sec.flash = s.sec.flash := by
  unfold State.readReq
  extract_lets
  split
  · rfl
  · extract_lets
    split
    · rfl
    · split
      · rfl
      · split <;> rfl

theorem State.segReadReq_flash (n : Nat) (q : Req) : (s.segReadReq n q).2.sec.flash = s.sec.flash := by
  unfold State.segReadReq
  split
  · rfl
  · split <;> rfl

theorem State.segWriteReq_flash (n : Nat) (q : Req) : (s.segWriteReq n q).2.sec.flash = s.sec.flash := by
  unfold State.segWriteReq
  split
  · rfl
  · extract_lets
    split
    · rfl
    · split <;> rfl

theorem State.segCloseReq_flash (n : Nat) (q : Req) : (s.segCloseReq n q).2.sec.flash = s.sec.flash := by
  unfold State.segCloseReq
  split
  · rfl
  · extract_lets
    split
    · rfl
    · split
      · rfl
      · split <;> rfl

theorem State.negotiateReq_flash (n : Nat) (q : Req) : (s.negotiateReq n q).2.sec.flash = s.sec.flash := by
  unfold State.negotiateReq
  extract_lets
  split
  · rfl
  · split
    · rfl
    · split <;> rfl

theorem State.dbgRequestW_flash (v : Nat) : (s.dbgRequestW v).sec.flash = s.sec.flash := by
  unfold State.dbgRequestW
  split <;> rfl

theorem State.dbgResponseW_flash (v : Nat) : (s.dbgResponseW v).sec.flash = s.sec.flash := by
  unfold State.dbgResponseW
  extract_lets
  split
  · rfl
  · split <;> rfl

variable {s} (h : FlashOk s.sec)
include h

/-- Of the live writes SANITISE alone erases bytes. -/
theorem FlashOk.liveWrite (n : Nat) (r : Row) (ix sub v : Nat) : FlashOk (s.liveWrite n r ix sub v).2.sec := by
  unfold State.liveWrite
  split
  · exact h.of_flash (s.dbgRequestW_flash v)
  · exact h.of_flash (s.dbgResponseW_flash v)
  · exact (h.erase _ _).of_flash rfl
  · exact h.of_flash rfl
  · exact h

theorem FlashOk.writeReq (n : Nat) (q : Req) : FlashOk (s.writeReq n q).2.sec := by
  unfold State.writeReq
  split
  · exact h
  · extract_lets
    split
    · exact h
    · split
      · exact h
      · split
        · exact h
        · exact h.liveWrite _ _ _ _ _

theorem FlashOk.perform (n op : Nat) (q : Req) : FlashOk (s.perform n op q).2.sec := by
  unfold State.perform
  split
  · exact h.of_flash (s.negotiateReq_flash n q)
  split
  · exact h
  split
  · exact h.of_flash (s.readReq_flash n q _)
  split
  · exact h.of_flash (s.readReq_flash n q _)
  split
  · exact h.writeReq n q
  split
  · exact h.of_flash (s.segReadReq_flash n q)
  split
  · exact h.of_flash (s.segCloseReq_flash n q)
  · exact h.of_flash (s.segWriteReq_flash n q)

theorem FlashOk.serveOne (op : Nat) (q : Req) : FlashOk (s.serveOne op q).sec := by
  unfold State.serveOne
  split
  · exact h
  · generalize s.dev.takeReq q.hdr (reqBytes op q) = r
    dsimp only
    have h' : FlashOk (s.setDev r.2).sec := h
    split
    · exact h'.of_flash (State.reply_flash _ _ _ _)
    · split
      · exact h'.of_flash (State.reply_flash _ _ _ _)
      · exact (h'.perform _ op q).of_flash (State.conclude_flash _ _ _ _ _ _)

theorem FlashOk.serve (op : Nat) (q : Req) : FlashOk (s.serve op q).sec := by
  unfold State.serve
  split
  · exact h
  · refine FlashOk.serveOne ?_ op q
    exact foldl_keeps (fun s : State => FlashOk s.sec) _ _ (fun s r hs => hs.serveOne r.1 r.2) s h

end

/-! ## What leaves the flash: reset, the boot order, recovery mode and the management port -/

section
variable (s : State)

theorem State.hold_flash (x : Sec) : (s.hold x).sec.flash = x.flash := by
  unfold State.hold
  split <;> rfl

theorem State.resetNAssert_flash : s.resetNAssert.sec.flash = s.sec.flash := by
  unfold State.resetNAssert
  split
  · rfl
  · exact s.hold_flash _

theorem State.bootSteps_flash (cause : Nat) (count : Bool) (e : BootEnv) :
    (s.bootSteps cause count e).sec.flash = s.sec.flash := by
  unfold State.bootSteps
  extract_lets
  split
  · rfl
  split
  · rfl
  split
  · rfl
  split
  · rfl
  split <;> rfl

theorem State.powerOnReset_flash (v : Bool) (e : BootEnv) : (s.powerOnReset v e).sec.flash = s.sec.flash := by
  unfold State.powerOnReset
  extract_lets
  split
  · rfl
  · split
    · rfl
    · exact State.bootSteps_flash _ _ _ _

theorem State.resetNRelease_flash (e : BootEnv) : (s.resetNRelease e).sec.flash = s.sec.flash := by
  unfold State.resetNRelease
  split
  · rfl
  · extract_lets
    split
    · rfl
    · exact State.bootSteps_flash _ _ _ _

theorem State.wakeN_flash (e : BootEnv) : (s.wakeN e).sec.flash = s.sec.flash := by
  unfold State.wakeN
  split
  · rfl
  · exact State.bootSteps_flash _ _ _ _

theorem State.recoveryFlashRead_flash (l : Nat) : (s.recoveryFlashRead l).sec.flash = s.sec.flash := by
  unfold State.recoveryFlashRead
  split
  · rfl
  · split
    · rfl
    · extract_lets
      split
      · rfl
      · split <;> rfl

theorem State.recoveryVerify_flash (l : Nat) (e : BootEnv) : (s.recoveryVerify l e).sec.flash = s.sec.flash := by
  unfold State.recoveryVerify
  split
  · rfl
  · split
    · rfl
    · split
      · rfl
      · split
        · rfl
        · exact State.bootSteps_flash _ _ _ _

theorem State.debugFullEnter_flash : s.debugFullEnter.sec.flash = s.sec.flash := by
  unfold State.debugFullEnter
  split <;> rfl

theorem State.sanitiseComplete_flash : s.sanitiseComplete.sec.flash = s.sec.flash := by
  unfold State.sanitiseComplete
  split <;> rfl

theorem State.entdaa_flash (a : Nat) : (s.entdaa a).sec.flash = s.sec.flash := by
  unfold State.entdaa
  split <;> rfl

theorem State.mctpControl_flash (r : List Nat) : (s.mctpControl r).sec.flash = s.sec.flash := by
  unfold State.mctpControl
  split
  · rfl
  · dsimp only
    split <;> rfl

theorem State.spdmAt_flash (v stage : Nat) (f : State → State) (hf : (f s).sec.flash = s.sec.flash) :
    (s.spdmAt v stage f).sec.flash = s.sec.flash := by
  unfold State.spdmAt
  split
  · rfl
  split
  · rfl
  split
  · rfl
  · exact hf

theorem State.getVersion_flash (v : Nat) : (s.getVersion v).sec.flash = s.sec.flash := by
  unfold State.getVersion
  split
  · rfl
  split <;> rfl

theorem State.getCapabilities_flash (v : Nat) : (s.getCapabilities v).sec.flash = s.sec.flash := s.spdmAt_flash _ _ _ rfl

theorem State.negotiateAlgorithms_flash (v a b m : Nat) : (s.negotiateAlgorithms v a b m).sec.flash = s.sec.flash := by
  refine s.spdmAt_flash _ _ _ ?_
  dsimp only
  split <;> rfl

theorem State.getDigests_flash (v : Nat) : (s.getDigests v).sec.flash = s.sec.flash := s.spdmAt_flash _ _ _ rfl

theorem State.getCertificate_flash (v sl o l : Nat) : (s.getCertificate v sl o l).sec.flash = s.sec.flash := by
  refine s.spdmAt_flash _ _ _ ?_
  extract_lets
  split <;> rfl

theorem State.challenge_flash (v sl n : Nat) : (s.challenge v sl n).sec.flash = s.sec.flash := by
  refine s.spdmAt_flash _ _ _ ?_
  dsimp only
  split <;> rfl

theorem State.getMeasurements_flash (v n b : Nat) : (s.getMeasurements v n b).sec.flash = s.sec.flash := by
  refine s.spdmAt_flash _ _ _ ?_
  extract_lets
  split <;> rfl

end

/-! ## What changes it -/

section
variable {s t : State} (h : FlashOk s.sec)
include h

theorem FlashOk.flashOpDone (ok : Bool) : FlashOk (s.flashOpDone ok).sec := by
  unfold State.flashOpDone
  split
  · exact h
  · extract_lets x
    have hx : FlashOk x := h.of_flash rfl
    split
    · exact hx
    · split
      · exact hx.erase _ _
      · exact hx.program _ _
      · exact hx

theorem FlashOk.recoveryFlashWrite (l : Nat) : FlashOk (s.recoveryFlashWrite l).sec := by
  unfold State.recoveryFlashWrite
  split
  · exact h
  · split
    · exact h
    · dsimp only
      split
      · exact h
      · refine FlashOk.program ?_ _ _
        exact foldl_keeps FlashOk _ _ (fun x i hx => hx.erase _ _) _ (h.of_flash rfl)

theorem FlashOk.onState {ok : Bool} {f : State → State} (hf : FlashOk (f s).sec) (ht : onState ok f s = .next t) :
    FlashOk t.sec := by
  rcases onState_cases ht with ⟨-, ho⟩ | ⟨-, -, ho⟩ | ⟨-, -, ho⟩ <;> cases ho
  · exact h
  · exact hf

theorem FlashOk.request {w : Bool} {o : Out} (hr : RequestArm w s o) (ht : o = .next t) : FlashOk t.sec := by
  cases hr with
  | request ok op q _ => exact h.onState (h.serve op q) ht

/-- No command takes the flash out of its form. -/
theorem FlashOk.exec (i : Instr) (ht : exec i s = .next t) : FlashOk t.sec := by
  by_cases hu : secCommand i = true
  case neg => exact h.of_flash (congrArg Sec.flash ((exec_unit (by simpa using hu) s).keeps ht).2)
  by_cases hd : dictCommand i = true
  case pos =>
    exact h.request (exec_request hd s) ht
  cases i <;> simp [secCommand, pinCommand, dictCommand] at hu hd <;> dsimp only [Machine.exec] at ht
  case powerOnReset v e => cases ht; exact h.of_flash (s.powerOnReset_flash v e)
  case resetNAssert => cases ht; exact h.of_flash s.resetNAssert_flash
  case resetNRelease e => cases ht; exact h.of_flash (s.resetNRelease_flash e)
  case railFault r => cases ht; exact h.of_flash (s.hold_flash _)
  case thermtrip => cases ht; exact h.of_flash (s.hold_flash _)
  case tapInstruction i => cases ht; exact h.of_flash rfl
  case debugFullEnter => exact h.onState (h.of_flash s.debugFullEnter_flash) ht
  case flashOpDone ok => exact h.onState (h.flashOpDone ok) ht
  case sanitiseComplete => exact h.onState (h.of_flash s.sanitiseComplete_flash) ht
  case entdaa a => exact h.onState (h.of_flash (s.entdaa_flash a)) ht
  case mctpControl r => exact h.onState (h.of_flash (s.mctpControl_flash r)) ht
  case getVersion v => exact h.onState (h.of_flash (s.getVersion_flash v)) ht
  case getCapabilities v => exact h.onState (h.of_flash (s.getCapabilities_flash v)) ht
  case negotiateAlgorithms v a b m => exact h.onState (h.of_flash (s.negotiateAlgorithms_flash v a b m)) ht
  case getDigests v => exact h.onState (h.of_flash (s.getDigests_flash v)) ht
  case getCertificate v sl o l => exact h.onState (h.of_flash (s.getCertificate_flash v sl o l)) ht
  case challenge v sl n => exact h.onState (h.of_flash (s.challenge_flash v sl n)) ht
  case getMeasurements v n b => exact h.onState (h.of_flash (s.getMeasurements_flash v n b)) ht
  case wakeN e => cases ht; exact h.of_flash (s.wakeN_flash e)
  case recoveryFlashWrite l => exact h.onState (h.recoveryFlashWrite l) ht
  case recoveryFlashRead l => exact h.onState (h.of_flash (s.recoveryFlashRead_flash l)) ht
  case recoveryVerify l e => exact h.onState (h.of_flash (s.recoveryVerify_flash l e)) ht

end

theorem State.idle_flash (s : State) : s.idle.sec.flash = s.sec.flash := by
  unfold State.idle
  split
  · rfl
  · show s.coreRelease.sec.flash = s.sec.flash
    rw [State.coreRelease_sec]

/-- Settles O6: a tick leaves the flash, a command keeps its form. -/
theorem flashFormKept : Obligations.FlashFormKept := by
  unfold Obligations.FlashFormKept
  intro s t h hstep
  cases hp : s.pending with
  | nil =>
    rw [step_empty hp] at hstep
    cases hstep
    exact h.of_flash s.idle_flash
  | cons c r =>
    rw [step_cons hp] at hstep
    exact FlashOk.exec (s := { s with pending := r }) h c hstep

end Sys2Proof.Machine
end

section
/-! Proofs: a granted write of an object that no principal stages (R46, R47), and the operations of the flash (R507). -/
namespace Sys2Proof.Machine

/-! ## Live writes -/

/-- The table has a row of `base` and `stride` for the object, which no principal stages, with values of `w` bytes. -/
def liveRow (ix sub w base stride : Nat) : Bool :=
  match rowOf ix sub with
  | some r => r.type.bytes == some w && r.o != .rws && r.t != .rws && r.k != .rws && r.x != .rws && r.index == base && r.stride == stride
  | none => false

theorem liveRow_row {ix sub w base stride : Nat} (h : liveRow ix sub w base stride = true) :
    ∃ r, rowOf ix sub = some r ∧ r.type.bytes = some w ∧ (∀ p, r.right p ≠ .rws) ∧ r.index = base ∧ r.stride = stride := by
  unfold liveRow at h
  split at h
  next r hr =>
    simp only [Bool.and_eq_true, beq_iff_eq, bne_iff_ne, and_assoc] at h
    obtain ⟨hb, ho, ht, hk, hx, hi, hs⟩ := h
    refine ⟨r, hr, hb, fun p => ?_, hi, hs⟩
    unfold Row.right
    split <;> assumption
  next => cases h

/-- What a live write makes of a granted value is what the command answers. -/
theorem onState_write {s : State} {h : Hdr} {ix sub w v n base stride : Nat} {a : Reply} {f : State → State} {ok : Bool}
    (g : Granted s h ix sub w v n) (hr : liveRow ix sub w base stride = true) (hok : h.port < 66 → ok = true)
    (hl : ∀ (x : State) (r : Row), x = s.taken opWRITE (writeOf h ix sub w v) → r.index = base → r.stride = stride →
      x.liveWrite n r ix sub v = (a, f x)) :
    onState ok (fun s => s.serveWrite h ix sub w v) s = .next (s.answered opWRITE (writeOf h ix sub w v) n a f) := by
  obtain ⟨r, hrow, hb, hlive, hi, hs⟩ := liveRow_row hr
  have hp : h.port < 66 := g.admitted.reaches.port
  rw [onState_next (hok hp) g.admitted.reaches.live, serveWrite_granted g hrow hb hlive, hl _ r rfl hi hs]
  rfl

/-! ## The end of a flash operation (R507) -/

theorem flashOp_liveRow : liveRow 0x9010 3 1 0x9010 1 = true := by decide +kernel

theorem flashOp_queues {s : State} {h : Hdr} {n op : Nat} (g : Granted s h 0x9010 3 1 op n) :
    onState (h.port < 66) (fun s => s.serveWrite h 0x9010 3 1 op) s =
      .next (s.answered opWRITE (writeOf h 0x9010 3 1 op) n okReply (fun x => x.flashOp op)) := by
  refine onState_write g flashOp_liveRow decide_eq_true fun x r _ hi _ => ?_
  simp [State.liveWrite, hi]

section
variable {s : State} {ok : Bool} {op a : Nat} {data : List Nat} {r : List (Nat × Nat × List Nat)}
  (hq : s.sec.flashQ = (op, a, data) :: r)
include hq

/-- What an operation that ends leaves in FLASH_STATUS. -/
theorem flashOpDone_status :
    (s.flashOpDone ok).sec.flashQ = r ∧
      (s.flashOpDone ok).dev.get K.FLASH_STATUS = (if !r.isEmpty then 1 else if ok && a < flashSize then 2 else 3) := by
  simp only [State.flashOpDone, hq]
  split
  · exact ⟨rfl, by simp⟩
  · split <;> exact ⟨rfl, by simp⟩

theorem flashOpDone_failed (h : ok = false ∨ flashSize ≤ a) :
    (s.flashOpDone ok).sec.flash = s.sec.flash ∧ (s.flashOpDone ok).dev.doms = s.dev.doms := by
  have hb : (!(ok && decide (a < flashSize))) = true := by
    rcases h with h | h <;> simp [h]
  simp only [State.flashOpDone, hq, hb, if_true]
  exact ⟨trivial, rfl⟩

variable (hok : ok = true) (ha : a < flashSize)
include hok ha

theorem flashOpDone_erase (hop : op = 1) (i : Nat) :
    (s.flashOpDone ok).dev.doms = s.dev.doms ∧
      (s.flashOpDone ok).sec.byte i = if i / 65536 = a / 65536 then 0xFF else s.sec.byte i := by
  simp only [State.flashOpDone, hq, hok, ha, hop, decide_true, Bool.and_self, Bool.not_true, Bool.false_eq_true, if_false]
  refine ⟨rfl, ?_⟩
  rw [Sec.byte_erase]
  exact if_congr (by omega) rfl rfl

theorem flashOpDone_program (hop : op = 2) (i : Nat) :
    (s.flashOpDone ok).dev.doms = s.dev.doms ∧
      (s.flashOpDone ok).sec.byte i = if a ≤ i ∧ i < a + data.length ∧ i < flashSize
        then s.sec.byte i &&& BitVec.ofNat 8 (data.getD (i - a) 0) else s.sec.byte i := by
  simp only [State.flashOpDone, hq, hok, ha, hop, decide_true, Bool.and_self, Bool.not_true, Bool.false_eq_true, if_false]
  refine ⟨rfl, ?_⟩
  rw [Sec.byte_program]
  rfl

theorem flashOpDone_read (hop : op = 3) :
    (s.flashOpDone ok).sec.flash = s.sec.flash ∧
      Map.get (s.flashOpDone ok).dev.doms [] flashKey = s.sec.bytes a (min 4096 (flashSize - a)) := by
  simp only [State.flashOpDone, hq, hok, ha, hop, decide_true, Bool.and_self, Bool.not_true, Bool.false_eq_true, if_false]
  refine ⟨trivial, ?_⟩
  rw [Dev.put_doms, Map.get_set_self]
  rfl

end

/-- Settles O7: the write queues the operation of the moment, its end by what it was. -/
theorem flashOperations : Obligations.FlashOperations := by
  unfold Obligations.FlashOperations
  refine ⟨?queues, ?ends⟩
  case queues =>
    rintro s h n op i (⟨rfl, rfl⟩ | ⟨rfl, rfl⟩ | ⟨rfl, rfl⟩) g <;> exact flashOp_queues g
  case ends =>
    intro s ok op a data r hs hq _
    have hx : exec (.flashOpDone ok) s = onState true (fun s => s.flashOpDone ok) s := rfl
    obtain ⟨hr, hst⟩ := flashOpDone_status (ok := ok) hq
    refine ⟨s.flashOpDone ok, by rw [hx, onState_next rfl hs], s.flashOpDone_pending ok, hr, hst, flashOpDone_failed hq,
      fun hok ha hop => ⟨(flashOpDone_erase hq hok ha hop 0).1, fun i => (flashOpDone_erase hq hok ha hop i).2⟩,
      fun hok ha hop => ⟨(flashOpDone_program hq hok ha hop 0).1, fun i => (flashOpDone_program hq hok ha hop i).2⟩,
      fun hok ha hop => flashOpDone_read hq hok ha hop⟩

end Sys2Proof.Machine
end

section
/-! Proofs: the state after reset, and what a reset keeps (R488 to R493). -/
namespace Sys2Proof.Machine

/-! ## Objects at reset -/

/-- An object beyond the sessions reads its default at reset. -/
theorem Dev.init_get_of_lt {o : Obj} (h : 0x123F * 256 + 5 < o.key) : Dev.init.get o = o.dflt := by
  simp [Dev.get, Dev.init, Map.get, show ¬0x1200 * 256 + 1 = o.key by omega, show ¬0x123F * 256 + 1 = o.key by omega,
    show ¬0x123F * 256 + 2 = o.key by omega, show ¬0x123F * 256 + 4 = o.key by omega, show ¬0x123F * 256 + 5 = o.key by omega]

/-- Settles O8: the state after reset is the empty one, and each object of a unit reads its default. -/
theorem resetState : Obligations.ResetState := by
  unfold Obligations.ResetState
  have get (o : Obj) (h : 0x123F * 256 + 5 < o.key) : State.reset.dev.get o = o.dflt := Dev.init_get_of_lt h
  refine ⟨⟨rfl, rfl, get K.BOOT_STATE (by decide), fun c _ => ⟨?owner, ?slot⟩, fun c k _ _ => ⟨?ring, ?run⟩, fun k _ => ?chan,
    fun p _ => ⟨?part, ?sched⟩, fun l _ => ?link⟩, reset_memory_wf, by decide, by decide⟩
  case owner => exact get (K.CORE_OWNER c) (by simp only [K.CORE_OWNER]; omega)
  case slot => exact get (K.CORE_SLOT c) (by simp only [K.CORE_SLOT]; omega)
  case ring => exact get (K.RING_SIZE c k) (by simp only [K.RING_SIZE]; omega)
  case run => exact get (K.ENGINE_RUN c k) (by simp only [K.ENGINE_RUN]; omega)
  case chan => exact get (K.CH_OWNER (k / 16) (k % 16)) (by simp only [K.CH_OWNER]; omega)
  case part => exact get (K.PART_STATE p) (by simp only [K.PART_STATE]; omega)
  case sched => exact get (K.SCHED_STATE p) (by simp only [K.SCHED_STATE]; omega)
  case link => exact get (K.LNK_STATE l) (by simp only [K.LNK_STATE]; omega)

/-! ## What a reset keeps of the objects (R491) -/

/-- Entries listed over others read first. -/
theorem Map.get_foldr_ins {β : Type} (l m : Map β) (d : β) (k : Nat) :
    Map.get (l.foldr (fun e m => Map.ins m e.1 e.2) m) d k = Map.get l (Map.get m d k) k := by
  induction l with
  | nil => rfl
  | cons e r ih =>
    rw [List.foldr_cons]
    by_cases h : k = e.1
    · subst h
      rw [Map.get_ins_self]
      simp [Map.get]
    · rw [Map.get_ins_ne _ _ _ h, ih]
      simp [Map.get, Ne.symm h]

theorem Dev.afterReset_get (d : Dev) (cold : Bool) (o : Obj) :
    (d.afterReset cold).get o =
      if o.key == K.SVN_MIN.key || (!cold && keptObj o.key) then Map.get d.objs (Dev.init.get o) o.key else Dev.init.get o := by
  unfold Dev.get Dev.afterReset
  dsimp only
  rw [Map.get_foldr_ins]
  split
  next h => exact Map.get_filter_of_true _ _ _ _ fun _ => h
  next h => exact Map.get_filter_of_false _ _ _ _ fun _ => by simpa using h

/-- No object of a session outlives a reset. -/
theorem init_get_kept {o : Obj} (h : keptObj o.key = true) : Dev.init.get o = o.dflt := by
  have hne : ∀ k ∈ Dev.init.objs.map Prod.fst, k ≠ o.key := by
    rintro k hk rfl
    have hall : ∀ k ∈ Dev.init.objs.map Prod.fst, keptObj k = false := by decide +kernel
    rw [hall _ hk] at h
    cases h
  simp only [Dev.init, List.map_cons, List.map_nil, List.mem_cons, List.not_mem_nil, or_false, forall_eq_or_imp, forall_eq] at hne
  obtain ⟨h1, h2, h3, h4, h5⟩ := hne
  simp only [Dev.get, Dev.init, Map.get, h1, h2, h3, h4, h5, if_false]

theorem Dev.afterReset_kept (d : Dev) {o : Obj} (h : keptObj o.key = true) : (d.afterReset false).get o = d.get o := by
  rw [Dev.afterReset_get, init_get_kept h]
  simp [h, Dev.get]

theorem Dev.afterReset_lost (d : Dev) {o : Obj} (h : keptObj o.key = false) : (d.afterReset false).get o = Dev.init.get o := by
  have hs : (o.key == K.SVN_MIN.key) = false := by
    unfold keptObj at h
    simp only [Bool.or_eq_false_iff] at h
    exact h.1
  rw [Dev.afterReset_get]
  simp [h, hs]

theorem Dev.afterReset_cold (d : Dev) {o : Obj} (h : o.key ≠ K.SVN_MIN.key) : (d.afterReset true).get o = Dev.init.get o := by
  rw [Dev.afterReset_get]
  simp [h]

/-! ## What holds the device in reset (R488, R489, R524, R528) -/

section
variable {s : State} (hn : s.sec.resetN = false) (hr : s.sec.railBad = false) (ht : s.sec.thermtrip = false)
include hn hr ht

/-- A device that nothing holds takes its state after reset, its pins as they stand. -/
theorem State.hold_free {x : Sec} (hf : x.flash = s.sec.flash) :
    (s.hold x).pending = s.pending ∧ (s.hold x).dev = s.dev.afterReset false ∧ (s.hold x).sec.flash = s.sec.flash ∧
      (s.hold x).sec.alertPin = s.alertN ∧ (s.hold x).sec.faultPin = s.faultN ∧ (s.hold x).sec.resetN = x.resetN ∧
      (s.hold x).sec.railBad = x.railBad ∧ (s.hold x).sec.thermtrip = x.thermtrip := by
  unfold State.hold State.alertN State.faultN
  simp only [hn, hr, ht, Bool.or_self, Bool.false_eq_true, if_false]
  exact ⟨trivial, trivial, hf, rfl, rfl, rfl, rfl, rfl⟩

end

theorem State.stopped_of_held {s : State} (h : s.sec.resetN = true ∨ s.sec.railBad = true ∨ s.sec.thermtrip = true) :
    s.stopped = true := by
  unfold State.stopped State.halted
  rcases h with h | h | h <;> simp [h]

/-- Settles O9: `State.hold` for the pins and rails, the entries that `Dev.afterReset` filters for the objects. -/
theorem resets : Obligations.Resets := by
  unfold Obligations.Resets
  refine ⟨⟨?pin, ?rail, ?therm, ?again⟩, fun d o => d.afterReset_kept, fun d o => d.afterReset_lost, fun d o => d.afterReset_cold,
    fun d cold => ⟨rfl, rfl, rfl, rfl, rfl, rfl, rfl⟩⟩
  case pin =>
    intro s hn hr ht
    obtain ⟨hp, hd, hf, ha, hfp, hrn, -, -⟩ := State.hold_free hn hr ht (x := { s.sec with resetN := true }) rfl
    have hx : exec .resetNAssert s = .next (s.hold { s.sec with resetN := true }) := by
      show Host.Outcome.next s.resetNAssert = _
      rw [State.resetNAssert, hn]
      rfl
    exact ⟨_, hx, hp, State.stopped_of_held (.inl hrn), hrn, hd, hf, ha, hfp⟩
  case rail =>
    intro s r hn hr ht
    obtain ⟨hp, hd, hf, ha, hfp, -, hrb, -⟩ := State.hold_free hn hr ht (x := { s.sec with railBad := true }) rfl
    exact ⟨_, rfl, hp, State.stopped_of_held (.inr (.inl hrb)), hrb, hd, hf, ha, hfp⟩
  case therm =>
    intro s hn hr ht
    obtain ⟨hp, hd, hf, ha, hfp, -, -, htt⟩ := State.hold_free hn hr ht (x := { s.sec with thermtrip := true }) rfl
    exact ⟨_, rfl, hp, State.stopped_of_held (.inr (.inr htt)), htt, hd, hf, ha, hfp⟩
  case again =>
    intro s hn h
    show Host.Outcome.next s.resetNAssert = _
    rw [State.resetNAssert, hn]
    simp only [Bool.false_eq_true, if_false, State.hold]
    rw [if_pos (by rw [Bool.or_assoc, h, Bool.or_true])]

end Sys2Proof.Machine
end

section
/-! Proofs: bits of numbers, and what record keeping and messages leave of the object dictionary. -/
namespace Sys2Proof.Machine

/-! ## Bits -/

theorem bit_eq (w i : Nat) : bit w i = decide (w / 2 ^ i % 2 = 1) := by
  simp [bit, Nat.shiftRight_eq_div_pow, Bool.beq_eq_decide_eq]

theorem bit_add_two_pow {w i : Nat} (h : bit w i = false) (j : Nat) :
    bit (w + 2 ^ i) j = if j = i then true else bit w j := by
  simp only [bit_eq, decide_eq_false_iff_not] at h ⊢
  have hi : (w + 2 ^ i) / 2 ^ i = w / 2 ^ i + 1 := Nat.add_div_right w (Nat.two_pow_pos i)
  rcases Nat.lt_trichotomy j i with hj | rfl | hj
  · obtain ⟨k, rfl⟩ : ∃ k, i = j + (k + 1) := ⟨i - j - 1, by omega⟩
    have hs : w + 2 ^ (j + (k + 1)) = w + 2 ^ j * (2 * 2 ^ k) := by ring
    rw [if_neg (by omega), hs, Nat.add_mul_div_left _ _ (Nat.two_pow_pos j), Nat.add_mul_mod_self_left]
  · simp only [if_true, decide_eq_true_eq, hi]
    omega
  · obtain ⟨k, rfl⟩ : ∃ k, j = i + 1 + k := ⟨j - i - 1, by omega⟩
    have hs : (w + 2 ^ i) / 2 ^ (i + 1) = w / 2 ^ (i + 1) := by
      rw [pow_succ, ← Nat.div_div_eq_div_mul, ← Nat.div_div_eq_div_mul, hi]
      omega
    rw [if_neg (by omega), Nat.pow_add 2 (i + 1) k, ← Nat.div_div_eq_div_mul, ← Nat.div_div_eq_div_mul, hs]

theorem bit_withBit_true (w i j : Nat) : bit (withBit w i true) j = if j = i then true else bit w j := by
  unfold withBit
  rw [if_pos rfl]
  split
  next h =>
    split
    · subst j; exact h
    · rfl
  next h => exact bit_add_two_pow (by simpa using h) j

theorem bit_withBit_false (w i j : Nat) : bit (withBit w i false) j = if j = i then false else bit w j := by
  unfold withBit
  rw [if_neg (by simp)]
  split
  next h =>
    have hle : 2 ^ i ≤ w := by
      by_contra hlt
      simp [bit_eq, Nat.div_eq_of_lt (Nat.lt_of_not_le hlt)] at h
    have hc : bit (w - 2 ^ i) i = false := by
      rw [bit_eq, decide_eq_true_eq] at h
      rw [bit_eq, decide_eq_false_iff_not]
      have : w / 2 ^ i = (w - 2 ^ i) / 2 ^ i + 1 := by
        rw [← Nat.add_div_right _ (Nat.two_pow_pos i), Nat.sub_add_cancel hle]
      omega
    have := bit_add_two_pow hc j
    rw [Nat.sub_add_cancel hle] at this
    rw [this]
    split
    · subst j; exact hc
    · rfl
  next h =>
    split
    · subst j; simpa using h
    · rfl

/-! ## What changes a set of objects alone -/

/-- `b` is `a` but for objects whose keys lie in `P`: every other object reads as it did. -/
def Dev.ObjsBut (P : Nat → Prop) (a b : Dev) : Prop := ∀ o : Obj, ¬P o.key → b.get o = a.get o

namespace Dev.ObjsBut

variable {P Q : Nat → Prop} {a b c : Dev}

theorem of_objs (h : b.objs = a.objs) : Dev.ObjsBut P a b := fun o _ => get_objs h o
theorem refl (a : Dev) : Dev.ObjsBut P a a := of_objs rfl
theorem trans (h : Dev.ObjsBut P a b) (g : Dev.ObjsBut P b c) : Dev.ObjsBut P a c := fun o ho => (g o ho).trans (h o ho)
theorem mono (h : Dev.ObjsBut P a b) (hPQ : ∀ k, P k → Q k) : Dev.ObjsBut Q a b := fun o ho => h o fun hp => ho (hPQ _ hp)
theorem put (d : Dev) {o : Obj} (v : Nat) (ho : P o.key) : Dev.ObjsBut P d (d.put o v) :=
  fun _ ho' => d.get_put_ne v fun he => ho' (he ▸ ho)
theorem cnt (d : Dev) {o : Obj} (n : Nat) (ho : P o.key) : Dev.ObjsBut P d (d.cnt o n) := put d _ ho
theorem ite (p : Prop) [Decidable p] (h : p → Dev.ObjsBut P a b) (h' : ¬p → Dev.ObjsBut P a c) :
    Dev.ObjsBut P a (if p then b else c) := by
  split
  · exact h ‹_›
  · exact h' ‹_›
theorem foldl {β : Type} (f : Dev → β → Dev) (l : List β) (h : ∀ d, ∀ x ∈ l, Dev.ObjsBut P d (f d x)) (d : Dev) :
    Dev.ObjsBut P d (l.foldl f d) := List.foldlRecOn l f (refl d) fun b hb x hx => hb.trans (h b x hx)

end Dev.ObjsBut

/-- The marks of wakes: sub-index 6 of 0x7100 on. -/
def wakeKey (k : Nat) : Prop := 0x710000 ≤ k ∧ k < 0x720000 ∧ k % 256 = 6

/-- These marks, LOG_COUNT and LOG_DROPPED (0x8000), and PART_LOG_LAST (sub-index 12 of 0x8100 on): all that record keeping and messages
change. -/
def recordKey (k : Nat) : Prop :=
  (0x710000 ≤ k ∧ k < 0x720000 ∧ k % 256 = 6) ∨ k = 0x800001 ∨ k = 0x800002 ∨ (0x810000 ≤ k ∧ k < 0x820000 ∧ k % 256 = 12)

theorem recordKey_of_wake {k : Nat} (h : wakeKey k) : recordKey k := .inl h

theorem Dev.wakeDom_wakes {d : Dev} {x : Nat} (hx : x < 256) : Dev.ObjsBut wakeKey d (d.wakeDom x) := by
  have hk : wakeKey (K.DOM_LAST_WAKE x).key := by simp only [wakeKey, K.DOM_LAST_WAKE]; omega
  have put (p : Pwr) : Dev.ObjsBut wakeKey d (({ d with pwr := p } : Dev).put (K.DOM_LAST_WAKE x) d.now) :=
    .trans (b := { d with pwr := p }) (.of_objs rfl) (.put _ _ hk)
  unfold Dev.wakeDom
  exact .ite _ (fun _ => .ite _ (fun _ => .refl d) fun _ => put _) fun _ => .ite _ (fun _ => .refl d) fun _ => put _

theorem Dev.wakeDom_objs {d : Dev} {x : Nat} (hx : x < 256) : Dev.ObjsBut recordKey d (d.wakeDom x) :=
  (Dev.wakeDom_wakes hx).mono fun _ => recordKey_of_wake

theorem Dev.enqueue_wakes {d : Dev} {l : Nat} (m : Msg) (hl : l < 64) : Dev.ObjsBut wakeKey d (d.enqueue l m) := by
  unfold Dev.enqueue
  refine .trans (Dev.wakeDom_wakes (x := 68 + l / 8) (by omega)) ?_
  exact .ite _ (fun _ => .of_objs rfl) fun _ => .of_objs rfl

theorem Dev.enqueue_objs {d : Dev} {l : Nat} (m : Msg) (hl : l < 64) : Dev.ObjsBut recordKey d (d.enqueue l m) :=
  (Dev.enqueue_wakes m hl).mono fun _ => recordKey_of_wake

/-- A link that carries a message is one of the package. -/
theorem Dev.carries_lt {d : Dev} {l : Nat} {m : Msg} {f : Bool} (h : d.carries l m f = true) : l < 64 := by
  simp only [Dev.carries, Bool.and_eq_true, decide_eq_true_eq] at h
  exact h.1.1.1.1

theorem Dev.linkFor_lt {d : Dev} {m : Msg} {f : Bool} {l : Nat} (h : d.linkFor m f = some l) : l < 64 := by
  have sleeps {x : Nat} (h : d.sleeping x m f = true) : x < 64 := by
    simp only [Dev.sleeping, Bool.and_eq_true] at h
    exact Dev.carries_lt h.2
  unfold Dev.linkFor at h
  dsimp only at h
  split at h
  next hc => cases h; exact Dev.carries_lt (Bool.and_eq_true _ _ ▸ hc).1
  split at h
  next hc => cases h; exact Dev.carries_lt hc
  split at h
  next hc => cases h; exact sleeps (Bool.and_eq_true _ _ ▸ hc).1
  split at h
  next hc => cases h; exact sleeps hc
  next => cases h

theorem Dev.send_wakes (d : Dev) (m : Msg) (f : Bool) : Dev.ObjsBut wakeKey d (d.send m f).1 := by
  unfold Dev.send
  split
  next h => exact Dev.enqueue_wakes m (Dev.linkFor_lt h)
  next => exact .refl d

theorem Dev.send_objs (d : Dev) (m : Msg) (f : Bool) : Dev.ObjsBut recordKey d (d.send m f).1 :=
  (d.send_wakes m f).mono fun _ => recordKey_of_wake

theorem Dev.notify_wakes (d : Dev) (ev st ix sub p : Nat) : Dev.ObjsBut wakeKey d (d.notify ev st ix sub p) :=
  .trans (b := { d with msgId := d.msgId + 1 }) (.of_objs rfl) (Dev.send_wakes _ _ _)

theorem Dev.notify_objs (d : Dev) (ev st ix sub p : Nat) : Dev.ObjsBut recordKey d (d.notify ev st ix sub p) :=
  (d.notify_wakes ev st ix sub p).mono fun _ => recordKey_of_wake

theorem Dev.file_objs (d : Dev) (i : RecInfo) : Dev.ObjsBut recordKey d (d.file i) := by
  unfold Dev.file
  extract_lets ms n
  split
  · exact .trans (b := { d with log := { d.log with ms := ms, inMs := n } }) (.of_objs rfl)
      (.cnt _ _ (.inr (.inr (.inl rfl))))
  · rename_i seq r d1 d2 d3 _
    have h1 : Dev.ObjsBut recordKey d d1 := .of_objs rfl
    have h2 : Dev.ObjsBut recordKey d1 d2 := .cnt _ _ (.inr (.inl rfl))
    have h3 : Dev.ObjsBut recordKey d2 d3 :=
      .ite _ (fun hp => .put _ _ (by simp only [recordKey, K.PART_LOG_LAST]; omega)) fun _ => .refl _
    exact ((h1.trans h2).trans h3).trans (Dev.notify_objs _ _ _ _ _ _)

end Sys2Proof.Machine
end

section
/-! Proofs: the reset order (R488 to R496). What each way through its steps leaves, then the events that start it and its end. -/
namespace Sys2Proof.Machine

/-! ## Puts in a row -/

/-- Each of `n` objects reads what a fold of puts gave it. -/
theorem Dev.get_foldl_put {f : Nat → Obj} (v : Nat → Nat) {n : Nat} (hf : ∀ i j, i < n → j < n → (f i).key = (f j).key → i = j)
    (d : Dev) {i : Nat} (hi : i < n) : ((List.range n).foldl (fun d i => d.put (f i) (v i)) d).get (f i) = v i := by
  induction n with
  | zero => omega
  | succ n ih =>
    rw [List.range_succ, List.foldl_append, List.foldl_cons, List.foldl_nil]
    by_cases h : i = n
    · subst h
      exact Dev.get_put_self _ _ _
    · rw [Dev.get_put_ne _ _ fun he => h (hf i n hi (by omega) he)]
      exact ih (fun i j hi hj => hf i j (by omega) (by omega)) (by omega)

/-! ## The branches of the reset order (R494) -/

/-- The state at step 1, the cause noted and the reset counted. -/
def State.begun (s : State) (cause : Nat) (count : Bool) : State :=
  { s with sec := { s.sec with boot := 0 },
           dev := if count then Dev.bump 32 (s.dev.put K.RESET_CAUSE cause) K.RESET_COUNT 1 else s.dev.put K.RESET_CAUSE cause }

theorem State.begun_objs (s : State) (cause : Nat) (count : Bool) :
    Dev.ObjsBut (fun k => k = K.RESET_CAUSE.key ∨ k = K.RESET_COUNT.key) s.dev (s.begun cause count).dev :=
  .ite _ (fun _ => .trans (.put _ _ (.inl rfl)) (.put _ _ (.inr rfl))) fun _ => .put _ _ (.inl rfl)

theorem State.begun_get (s : State) (cause : Nat) (count : Bool) {o : Obj} (h : o.key ≠ K.RESET_CAUSE.key)
    (h' : o.key ≠ K.RESET_COUNT.key) : (s.begun cause count).dev.get o = s.dev.get o :=
  s.begun_objs cause count o (by simp [h, h'])

theorem State.begun_cause (s : State) (cause : Nat) (count : Bool) : (s.begun cause count).dev.get K.RESET_CAUSE = cause := by
  unfold State.begun
  cases count
  · simp
  · simp only [if_true, Dev.bump]
    rw [Dev.get_put_ne _ _ (by decide), Dev.get_put_self]

theorem State.begun_count (s : State) (cause : Nat) (count : Bool) :
    (s.begun cause count).dev.get K.RESET_COUNT =
      if count then addSat 32 (s.dev.get K.RESET_COUNT) 1 else s.dev.get K.RESET_COUNT := by
  have hne : (s.dev.put K.RESET_CAUSE cause).get K.RESET_COUNT = s.dev.get K.RESET_COUNT := Dev.get_put_ne _ _ (by decide)
  unfold State.begun
  cases count
  · exact hne
  · simp only [if_true, Dev.bump, Dev.get_put_self, hne]

/-- The order from step 2 on, with the backup domain whole. -/
def State.fromStep2 (b : State) (e : BootEnv) : State :=
  if !e.pufOk then b.setDev (b.dev.put K.BOOT_STATE 0xFF)
  else if e.rcvrLow then b.recover 0 2 0
  else match b.sec.imageFault (b.dev.get K.SVN_MIN) with
    | some (k, v) => b.recover k 3 v
    | none =>
      match b.sec.cfgPart 0x100000 1 (b.dev.get K.DEVICE_ID) (Config.romKey 1) with
      | none => b.recover 3 4 0
      | some (body, es) => if es.all (cfgTypeOk false) then b.bootOn e body es false else b.recover 3 4 0

section
variable {s : State} {cause : Nat} {count : Bool} {e : BootEnv} (hb : e.backupCrcOk = true)
include hb

theorem bootSteps_eq : s.bootSteps cause count e = (s.begun cause count).fromStep2 e := by
  simp only [State.bootSteps, hb, if_true, Bool.not_true]
  rfl

theorem bootSteps_halts (hp : e.pufOk = false) :
    s.bootSteps cause count e = (s.begun cause count).setDev ((s.begun cause count).dev.put K.BOOT_STATE 0xFF) := by
  rw [bootSteps_eq hb, State.fromStep2, hp]
  rfl

variable (hp : e.pufOk = true)
include hp

theorem bootSteps_strap (hr : e.rcvrLow = true) : s.bootSteps cause count e = (s.begun cause count).recover 0 2 0 := by
  rw [bootSteps_eq hb, State.fromStep2, hp, hr]
  rfl

variable (hr : e.rcvrLow = false)
include hr

theorem bootSteps_badImage {k v : Nat} (hi : s.sec.imageFault (s.dev.get K.SVN_MIN) = some (k, v)) :
    s.bootSteps cause count e = (s.begun cause count).recover k 3 v := by
  have hi' : (s.begun cause count).sec.imageFault ((s.begun cause count).dev.get K.SVN_MIN) = some (k, v) := by
    rw [State.begun_get _ _ _ (by decide) (by decide)]
    exact hi
  rw [bootSteps_eq hb, State.fromStep2, hp, hr, hi']
  rfl

theorem bootSteps_good (hi : s.sec.imageFault (s.dev.get K.SVN_MIN) = none) {body : List Nat} {es : List CfgEntry}
    (hc : s.sec.cfgPart 0x100000 1 (s.dev.get K.DEVICE_ID) (Config.romKey 1) = some (body, es))
    (he : es.all (cfgTypeOk false) = true) :
    s.bootSteps cause count e = (s.begun cause count).bootOn e body es false := by
  have hi' : (s.begun cause count).sec.imageFault ((s.begun cause count).dev.get K.SVN_MIN) = none := by
    rw [State.begun_get _ _ _ (by decide) (by decide)]
    exact hi
  have hc' : (s.begun cause count).sec.cfgPart 0x100000 1 ((s.begun cause count).dev.get K.DEVICE_ID) (Config.romKey 1) =
      some (body, es) := by
    rw [State.begun_get _ _ _ (by decide) (by decide)]
    exact hc
  rw [bootSteps_eq hb, State.fromStep2, hp, hr, hi']
  dsimp only
  rw [hc']
  dsimp only
  rw [if_pos he]
  rfl

end

/-! ## Recovery mode (R506) -/

/-- Recovery mode moves BOOT_STATE and the modes of the first eight links. -/
theorem State.recover_objs (s : State) (kind step v : Nat) :
    Dev.ObjsBut (fun k => k = K.BOOT_STATE.key ∨ ∃ l, l < 8 ∧ k = (K.LNK_MODE l).key) s.dev (s.recover kind step v).dev := by
  unfold State.recover
  refine .trans (.put _ (o := K.BOOT_STATE) 0x80 (.inl rfl)) ?_
  refine .trans (.foldl (fun d l => d.put (K.LNK_MODE l) 2) (List.range 8) (fun d l hl => ?_) _) ?_
  · exact .put _ _ (.inr ⟨l, List.mem_range.mp hl, rfl⟩)
  · exact .ite _ (fun _ => .refl _) fun _ => .of_objs rfl

theorem State.recover_get (s : State) (kind step v : Nat) (o : Obj) :
    (s.recover kind step v).dev.get o =
      ((List.range 8).foldl (fun d l => d.put (K.LNK_MODE l) 2) (s.dev.put K.BOOT_STATE 0x80)).get o := by
  unfold State.recover
  dsimp only
  split <;> rfl

theorem State.recover_bootState (s : State) (kind step v : Nat) : (s.recover kind step v).dev.bootState = 0x80 := by
  have h : Dev.ObjsBut (fun k => ∃ l, k = (K.LNK_MODE l).key) (s.dev.put K.BOOT_STATE 0x80)
      ((List.range 8).foldl (fun d l => d.put (K.LNK_MODE l) 2) (s.dev.put K.BOOT_STATE 0x80)) :=
    .foldl _ _ (fun _ l _ => .put _ _ ⟨l, rfl⟩) _
  rw [Dev.bootState, State.recover_get, h _ (by simp only [K.BOOT_STATE, K.LNK_MODE, not_exists]; omega), Dev.get_put_self]

theorem State.recover_mode (s : State) (kind step v : Nat) {l : Nat} (hl : l < 8) :
    (s.recover kind step v).dev.get (K.LNK_MODE l) = 2 := by
  rw [State.recover_get]
  exact Dev.get_foldl_put (f := K.LNK_MODE) (fun _ => 2) (fun i j _ _ h => by simp only [K.LNK_MODE] at h; omega) _ hl

theorem State.recover_begun (s : State) (cause : Nat) (count : Bool) (kind step v : Nat) :
    ((s.begun cause count).recover kind step v).dev.get K.RESET_CAUSE = cause ∧
    ((s.begun cause count).recover kind step v).dev.get K.RESET_COUNT =
      if count then addSat 32 (s.dev.get K.RESET_COUNT) 1 else s.dev.get K.RESET_COUNT := by
  have h := (s.begun cause count).recover_objs kind step v
  have mode {k l : Nat} (hk : 0x900000 ≤ k) (hl : l < 8) : k ≠ (K.LNK_MODE l).key := by simp only [K.LNK_MODE]; omega
  rw [h K.RESET_CAUSE (by rintro (h | ⟨l, hl, h⟩); exacts [absurd h (by decide), mode (by decide) hl h]),
    h K.RESET_COUNT (by rintro (h | ⟨l, hl, h⟩); exacts [absurd h (by decide), mode (by decide) hl h])]
  exact ⟨s.begun_cause cause count, s.begun_count cause count⟩

/-- With the PUF whole, the strap low or the image bad, the order ends in recovery mode. -/
theorem bootSteps_recovers {s : State} {cause : Nat} {count : Bool} {e : BootEnv} (hb : e.backupCrcOk = true) (hp : e.pufOk = true)
    (h : e.rcvrLow = true ∨ s.sec.imageFault (s.dev.get K.SVN_MIN) ≠ none) :
    ∃ kind step v, s.bootSteps cause count e = (s.begun cause count).recover kind step v := by
  by_cases hr : e.rcvrLow = true
  · exact ⟨0, 2, 0, bootSteps_strap hb hp hr⟩
  · cases hi : s.sec.imageFault (s.dev.get K.SVN_MIN) with
    | none => exact absurd hi (h.resolve_left hr)
    | some kv => exact ⟨_, _, _, bootSteps_badImage hb hp (by simpa using hr) hi⟩

/-! ## Step 5 (R275, R496) -/

/-- The syndromes of the stacks, and what record keeping changes. -/
def trainKey (k : Nat) : Prop := recordKey k ∨ k % 256 = 7

theorem Dev.hbmRecord_objs (d : Dev) (kind x st p idx op : Nat) : Dev.ObjsBut trainKey d (d.hbmRecord kind x st p idx op) :=
  .trans (.put _ _ (.inr (by simp only [K.HBM_LAST_SYNDROME]; omega))) (.mono (Dev.file_objs _ _) fun _ => .inl)

/-- The stacks that fail training show it, and the records that they have move nothing else. -/
theorem Dev.trainStacks_get (d : Dev) (e : BootEnv) {o : Obj} (h : ¬trainKey o.key) :
    (d.trainStacks e).get o = (((List.range 20).foldl (fun d i => d.put (K.HBM_STATE i) (if bit e.failStacks i then 3 else 1)) d).put
      K.BOOT_STATE (if (List.range 20).any (bit e.failStacks) then 0x81 else 6)).get o := by
  have hbad : ((List.range 20).filter (bit e.failStacks)).isEmpty = !(List.range 20).any (bit e.failStacks) := by
    rw [Bool.eq_iff_iff]
    simp [List.filter_eq_nil_iff]
  unfold Dev.trainStacks
  extract_lets bad d1 d2
  rw [Dev.ObjsBut.foldl (P := trainKey) _ bad (fun x i _ => (Dev.hbmRecord_objs _ _ _ _ _ _ _).trans
    (.mono (Dev.file_objs _ _) fun _ => .inl)) d2 o h]
  have h1 : d1 = (List.range 20).foldl (fun d i => d.put (K.HBM_STATE i) (if bit e.failStacks i then 3 else 1)) d := by
    refine List.foldl_ext _ _ _ fun x i hi => ?_
    simp [bad, List.mem_range.mp hi]
  unfold d2
  rw [h1, hbad]
  cases (List.range 20).any (bit e.failStacks) <;> rfl

theorem Dev.trainStacks_bootState (d : Dev) (e : BootEnv) :
    (d.trainStacks e).bootState = if (List.range 20).any (bit e.failStacks) then 0x81 else 6 := by
  rw [Dev.bootState, Dev.trainStacks_get _ _ (by simp only [trainKey, recordKey, K.BOOT_STATE]; omega), Dev.get_put_self]

theorem Dev.trainStacks_hbmState (d : Dev) (e : BootEnv) {i : Nat} (hi : i < 20) :
    (d.trainStacks e).get (K.HBM_STATE i) = if bit e.failStacks i then 3 else 1 := by
  rw [Dev.trainStacks_get _ _ (by simp only [trainKey, recordKey, K.HBM_STATE]; omega),
    Dev.get_put_ne _ _ (by simp only [K.HBM_STATE, K.BOOT_STATE]; omega)]
  exact Dev.get_foldl_put (f := K.HBM_STATE) (fun i => if bit e.failStacks i then 3 else 1)
    (fun i j _ _ h => by simp only [K.HBM_STATE] at h; omega) _ hi

theorem State.bootOn_trained (s : State) (e : BootEnv) (fac : List Nat) (es : List CfgEntry) (lost : Bool) :
    ∃ d : Dev, (s.bootOn e fac es lost).dev = d.trainStacks e := ⟨_, rfl⟩

/-! ## Step 7 (R494, R495) -/

theorem Dev.zeroise_objs (d : Dev) (c : Nat) : Dev.ObjsBut (fun k => k = (K.ZEROISE_COUNT c).key) d (d.zeroise c) := by
  unfold Dev.zeroise
  exact .trans (b := d.setCore c _) (.of_objs rfl) (.cnt _ _ rfl)

/-- Releasing cores of the package moves their counts of zeroisations alone; the time and the cores to be scanned stand. -/
theorem Dev.releaseCores_objs (d : Dev) {cs : List Nat} (hcs : ∀ c ∈ cs, c < 64) :
    Dev.ObjsBut (fun k => k < 0x500000) d (d.releaseCores cs) ∧ (d.releaseCores cs).now = d.now ∧
      (d.releaseCores cs).scanHold = d.scanHold := by
  have hall : ∀ c ∈ cs.filter (fun c => d.coreUsable c && !d.avs.contains (quadOf c) && !d.scanHold.contains c && !bit d.released c),
      c < 64 := fun c hc => hcs c (List.mem_filter.mp hc).1
  unfold Dev.releaseCores
  revert hall
  generalize cs.filter _ = l
  intro hall
  refine ⟨.foldl _ l (fun x c hc => ?_) d,
    List.foldlRecOn (motive := fun x : Dev => x.now = d.now ∧ x.scanHold = d.scanHold) l _ ⟨rfl, rfl⟩ fun x hx c _ => hx⟩
  have hc := hall c hc
  refine .trans (b := { x with released := withBit x.released c true }) (.of_objs rfl) ?_
  exact .mono (Dev.zeroise_objs _ c) fun k hk => by subst hk; simp only [K.ZEROISE_COUNT]; omega

theorem foldl_released_keeps (l : List Nat) (d : Dev) {c : Nat} (h : bit d.released c = true) :
    bit (l.foldl (fun d c => ({ d with released := withBit d.released c true } : Dev).zeroise c) d).released c = true := by
  refine List.foldlRecOn (motive := fun x : Dev => bit x.released c = true) l _ h fun x hx i _ => ?_
  show bit (withBit x.released i true) c = true
  rw [bit_withBit_true, hx]
  exact ite_self _

theorem foldl_released_mem (l : List Nat) (d : Dev) {c : Nat} (h : c ∈ l) :
    bit (l.foldl (fun d c => ({ d with released := withBit d.released c true } : Dev).zeroise c) d).released c = true := by
  induction l generalizing d with
  | nil => cases h
  | cons i r ih =>
    rw [List.foldl_cons]
    rcases List.mem_cons.mp h with rfl | h
    · refine foldl_released_keeps r _ ?_
      show bit (withBit d.released c true) c = true
      rw [bit_withBit_true, if_pos rfl]
    · exact ih _ h

/-- A usable core whose regulator answers and that no scan holds is released. -/
theorem Dev.releaseCores_released (d : Dev) {cs : List Nat} {c : Nat} (hc : c ∈ cs) (hu : d.coreUsable c = true) (ha : d.avs = [])
    (hs : d.scanHold = []) : bit (d.releaseCores cs).released c = true := by
  unfold Dev.releaseCores
  by_cases hr : bit d.released c = true
  · exact foldl_released_keeps _ d hr
  · exact foldl_released_mem _ d (List.mem_filter.mpr ⟨hc, by simp [hu, ha, hs, hr]⟩)

theorem Dev.queueScan_objs (d : Dev) (c : Nat) : Dev.ObjsBut (fun k => k % 256 = 5) d (d.queueScan c) := by
  unfold Dev.queueScan
  refine .ite _ (fun _ => .refl d) fun _ => ?_
  exact .trans (b := { d with scanQ := d.scanQ ++ [c] }) (.of_objs rfl) (.put _ _ (by show (K.SCAN_STATE c).key % 256 = 5; simp only [K.SCAN_STATE]; omega))

theorem Dev.queueScans_objs (l : List Nat) (d : Dev) : Dev.ObjsBut (fun k => k % 256 = 5) d (l.foldl Dev.queueScan d) ∧
    (l.foldl Dev.queueScan d).scanFrom = d.scanFrom := by
  refine ⟨.foldl _ l (fun x c _ => x.queueScan_objs c) d, ?_⟩
  refine List.foldlRecOn (motive := fun x : Dev => x.scanFrom = d.scanFrom) l _ rfl fun x hx c _ => ?_
  rw [← hx]
  unfold Dev.queueScan
  split <;> rfl

/-- The device that comes into service (R495). -/
def Dev.inService (d : Dev) (boot : Nat) : Dev :=
  ((d.put K.BOOT_MS (boot / 62500)).put K.BOOT_STATE 8).releaseCores (List.range 64)

theorem coreRelease_eq {s : State} (hs : s.stopped = false) (hb : s.dev.bootState = 6) (hm : 100000000 ≤ s.sec.boot)
    (hf : s.dev.get K.FT_STATE = 2) :
    s.coreRelease = s.setDev ((s.dev.inService s.sec.boot).scanHold.foldl Dev.queueScan
      { s.dev.inService s.sec.boot with scanFrom := (s.dev.inService s.sec.boot).now }) := by
  simp only [State.coreRelease, hs, hb, hf, Nat.not_lt.mpr hm, ne_eq, not_true_eq_false, decide_false, Bool.or_self,
    Bool.false_eq_true, if_false]
  rfl

theorem Dev.inService_get (d : Dev) (boot : Nat) : (d.inService boot).bootState = 8 ∧ (d.inService boot).get K.BOOT_MS = boot / 62500 ∧
    (d.inService boot).now = d.now ∧ (d.inService boot).scanHold = d.scanHold := by
  obtain ⟨ho, hn⟩ := Dev.releaseCores_objs ((d.put K.BOOT_MS (boot / 62500)).put K.BOOT_STATE 8) (cs := List.range 64)
    (fun c hc => List.mem_range.mp hc)
  refine ⟨?_, ?_, hn⟩
  · exact (ho K.BOOT_STATE (by decide)).trans (Dev.get_put_self _ _ _)
  · rw [Dev.inService, ho K.BOOT_MS (by decide), Dev.get_put_ne _ _ (by decide), Dev.get_put_self]

theorem Dev.inService_released {d : Dev} (boot : Nat) {c : Nat} (hc : c < 64) (hu : d.coreUsable c = true) (ha : d.avs = [])
    (hs : d.scanHold = []) : bit (d.inService boot).released c = true := by
  refine Dev.releaseCores_released _ (List.mem_range.mpr hc) ?_ ha hs
  have get (o : Obj) (h : o.key ≠ K.BOOT_MS.key) (h' : o.key ≠ K.BOOT_STATE.key) :
      ((d.put K.BOOT_MS (boot / 62500)).put K.BOOT_STATE 8).get o = d.get o := by
    rw [Dev.get_put_ne _ _ h', Dev.get_put_ne _ _ h]
  unfold Dev.coreUsable
  rw [get _ (by decide) (by decide), get _ (by decide) (by decide)]
  exact hu

/-! ## The statement -/

/-- A halted device, its reset over, drives FAULT_N low. -/
theorem State.halted_pins {t : State} (hn : t.sec.resetN = false) (hr : t.sec.railBad = false) (ht : t.sec.thermtrip = false)
    (hb : t.dev.bootState = 0xFF) : t.faultN = true ∧ t.stopped = true := by
  simp [State.faultN, State.stopped, State.halted, Dev.faultLow, hn, hr, ht, hb]

/-- What RESET_N's rise starts: the order with RESET_CAUSE 2, the reset counted. -/
theorem resetNRelease_eq {s : State} {e : BootEnv} (hn : s.sec.resetN = true) (hr : s.sec.railBad = false)
    (ht : s.sec.thermtrip = false) (hc : s.sec.coldCause = 0) :
    s.resetNRelease e = ({ s with sec := { s.sec with resetN := false, coldCause := 0 } } : State).bootSteps 2 true e := by
  simp [State.resetNRelease, hn, hr, ht, hc]

/-- What each way through the order leaves, of a state that RESET_N holds no longer. -/
theorem bootOrder_warm {s : State} {e : BootEnv} (hb : e.backupCrcOk = true) :
    (e.pufOk = false → (s.bootSteps 2 true e).dev.bootState = 0xFF ∧ (s.bootSteps 2 true e).sec = { s.sec with boot := 0 }) ∧
    (e.pufOk = true → e.rcvrLow = true →
      (s.bootSteps 2 true e).dev.bootState = 0x80 ∧ ∀ l, l < 8 → (s.bootSteps 2 true e).dev.get (K.LNK_MODE l) = 2) ∧
    (e.pufOk = true → (e.rcvrLow = true ∨ s.sec.imageFault (s.dev.get K.SVN_MIN) ≠ none) →
      (s.bootSteps 2 true e).dev.bootState = 0x80 ∧ (s.bootSteps 2 true e).dev.get K.RESET_CAUSE = 2 ∧
        (s.bootSteps 2 true e).dev.get K.RESET_COUNT = addSat 32 (s.dev.get K.RESET_COUNT) 1) := by
  refine ⟨fun hp => ?_, fun hp hr => ?_, fun hp h => ?_⟩
  · rw [bootSteps_halts hb hp]
    exact ⟨Dev.get_put_self _ _ _, rfl⟩
  · rw [bootSteps_strap hb hp hr]
    exact ⟨State.recover_bootState _ _ _ _, fun l hl => State.recover_mode _ _ _ _ hl⟩
  · obtain ⟨kind, step, v, heq⟩ := bootSteps_recovers (cause := 2) (count := true) hb hp h
    rw [heq]
    exact ⟨State.recover_bootState _ _ _ _, s.recover_begun 2 true kind step v⟩

theorem State.bootSteps_resetN (s : State) (cause : Nat) (count : Bool) (e : BootEnv) :
    (s.bootSteps cause count e).sec.resetN = s.sec.resetN ∧ (s.bootSteps cause count e).sec.railBad = s.sec.railBad := by
  unfold State.bootSteps
  extract_lets
  split
  · exact ⟨rfl, rfl⟩
  split
  · exact ⟨rfl, rfl⟩
  split
  · exact ⟨rfl, rfl⟩
  split
  · exact ⟨rfl, rfl⟩
  split <;> exact ⟨rfl, rfl⟩

/-- Settles O10: by the branches of the order from step 2 on, and by the release of the cores. -/
theorem bootOrder : Obligations.BootOrder := by
  unfold Obligations.BootOrder
  refine ⟨?warm, ⟨?waits, ?cold, ?hot, ?wake⟩, ?service⟩
  case warm =>
    intro s e hn hr ht hc hb
    have hx : exec (.resetNRelease e) s = .next (s.resetNRelease e) := rfl
    rw [hx, resetNRelease_eq hn hr ht hc]
    set b : State := { s with sec := { s.sec with resetN := false, coldCause := 0 } } with hbdef
    obtain ⟨hlost, hstrap, hrec⟩ := bootOrder_warm (s := b) hb
    refine ⟨_, rfl, State.bootSteps_pending _ _ _ _, (b.bootSteps_resetN 2 true e).1, State.bootSteps_flash _ _ _ _,
      fun hp => ?_, hstrap, hrec, fun hp hl hi body es hpart hes => ?_⟩
    · obtain ⟨hst, hsec⟩ := hlost hp
      exact ⟨hst, State.halted_pins (by rw [hsec]) (by rw [hsec]; exact hr) (by rw [hsec]; exact ht) hst⟩
    · rw [bootSteps_good (s := b) hb hp hl hi hpart hes]
      obtain ⟨d, hd⟩ := State.bootOn_trained (b.begun 2 true) e body es false
      rw [hd]
      exact ⟨d.trainStacks_bootState e, fun i hi => d.trainStacks_hbmState e hi⟩
  case waits =>
    intro s b e hn ht
    have hx : exec (.powerOnReset b e) s = .next (s.powerOnReset b e) := rfl
    have heq : s.powerOnReset b e = { s with
        sec := { ({ s.sec with railBad := false, thermtrip := false, alertPin := false, faultPin := false } : Sec).afterReset true with
          coldCause := if b then 4 else 1 }, dev := s.dev.afterReset true } := by
      simp [State.powerOnReset, ht, Sec.afterReset, hn]
    rw [hx, heq]
    exact ⟨_, rfl, rfl, rfl, rfl, rfl, State.stopped_of_held (.inl hn)⟩
  case cold =>
    intro s b e hn ht hp hr hb
    have hx : exec (.powerOnReset b e) s = .next (s.powerOnReset b e) := rfl
    set c : State := { s with
      sec := { ({ s.sec with railBad := false, thermtrip := false, alertPin := false, faultPin := false } : Sec).afterReset true with
        coldCause := 0 }, dev := s.dev.afterReset true } with hc
    have heq : s.powerOnReset b e = c.bootSteps (if b then 4 else 1) false e := by
      simp [State.powerOnReset, ht, Sec.afterReset, hn, hc]
    rw [hx, heq]
    refine ⟨_, rfl, State.bootSteps_pending _ _ _ _, ?_⟩
    have hflash := c.bootSteps_flash (if b then 4 else 1) false e
    have hrail := (c.bootSteps_resetN (if b then 4 else 1) false e).2
    rw [bootSteps_strap hb hp hr] at hflash hrail ⊢
    obtain ⟨hcause, hcount⟩ := c.recover_begun (if b then 4 else 1) false 0 2 0
    refine ⟨State.recover_bootState _ _ _ _, hcause, ?_, hflash, hrail⟩
    rw [hcount]
    exact Dev.afterReset_cold s.dev (by decide)
  case hot =>
    intro s b e ht hc
    show Host.Outcome.next (s.powerOnReset b e) = _
    simp [State.powerOnReset, ht, hc]
  case wake =>
    intro s e hh hoff hp hb hi
    have hx : exec (.wakeN e) s = .next (s.wakeN e) := rfl
    set c : State := { s with sec := s.sec.afterReset false, dev := s.dev.afterReset false } with hc
    have heq : s.wakeN e = c.bootSteps 3 false { e with rcvrLow := false } := by
      simp [State.wakeN, hh, hoff, hc]
    have hi' : c.sec.imageFault (c.dev.get K.SVN_MIN) ≠ none := by
      rw [show c.dev.get K.SVN_MIN = s.dev.get K.SVN_MIN from s.dev.afterReset_kept (by decide)]
      exact hi
    obtain ⟨kind, step, v, hr⟩ := bootSteps_recovers (s := c) (cause := 3) (count := false) (e := { e with rcvrLow := false }) hb hp
      (.inr hi')
    refine ⟨_, hx, s.wakeN_pending e, ?_⟩
    have hflash := s.wakeN_flash e
    rw [heq, hr] at hflash ⊢
    exact ⟨State.recover_bootState _ _ _ _, (c.recover_begun 3 false kind step v).1, hflash⟩
  case service =>
    intro s hs hb hm hf
    have hx : exec .coreRelease s = .next s.coreRelease := rfl
    obtain ⟨hst, hms, hnow, hhold⟩ := s.dev.inService_get s.sec.boot
    set d := s.dev.inService s.sec.boot with hd
    obtain ⟨ho, hfrom⟩ := Dev.queueScans_objs d.scanHold { d with scanFrom := d.now }
    refine ⟨_, hx, s.coreRelease_pending, s.coreRelease_sec, ?_⟩
    rw [coreRelease_eq hs hb hm hf, State.setDev_dev]
    refine ⟨(ho K.BOOT_STATE (by decide)).trans hst, (ho K.BOOT_MS (by decide)).trans hms, hfrom.trans hnow,
      fun c hc hu ha hh => ?_⟩
    rw [hhold, hh, List.foldl_nil]
    exact Dev.inService_released s.sec.boot hc hu ha hh

end Sys2Proof.Machine
end

section
/-! Proofs: the events of the boot order and of the pins (R499, R502, R522, R528, R529, R533). -/
namespace Sys2Proof.Machine

/-! ## Temperatures (R533) -/

/-- The greatest of some readings. -/
def topTemp (l : List Nat) : Nat := (l.map (· % 2 ^ 16)).foldl max 0

theorem Dev.thermalUpdate_get (d : Dev) (temps : List Nat) :
    (∀ q, q < 4 → (d.thermalUpdate temps).get (K.TJ_QUAD q) = topTemp ((temps.drop (24 * q)).take 24)) ∧
    (d.thermalUpdate temps).get K.TJ_SVC = topTemp ((temps.drop 96).take 4) ∧
    (d.thermalUpdate temps).get K.TJ_PEAK = max (d.get K.TJ_PEAK) (topTemp (temps.take 100)) := by
  have ne {i j : Nat} (hi : i < 4) (hj : 5 ≤ j) : (K.TJ_QUAD i).key ≠ 0x7030 * 256 + j := by simp only [K.TJ_QUAD]; omega
  unfold Dev.thermalUpdate
  refine ⟨fun q hq => ?_, ?_, ?_⟩
  · rw [Dev.get_put_ne _ _ (ne hq (by decide)), Dev.get_put_ne _ _ (ne hq (by decide))]
    exact Dev.get_foldl_put (f := K.TJ_QUAD) (fun q => topTemp ((temps.drop (24 * q)).take 24))
      (fun i j _ _ h => by simp only [K.TJ_QUAD] at h; omega) d hq
  · rw [Dev.get_put_ne _ _ (by decide), Dev.get_put_self]
    rfl
  · have h : Dev.ObjsBut (fun k => ∃ q, q < 4 ∧ k = (K.TJ_QUAD q).key) d
        ((List.range 4).foldl (fun d q => d.put (K.TJ_QUAD q) (topTemp ((temps.drop (24 * q)).take 24))) d) :=
      .foldl _ _ (fun x q hq => .put _ _ ⟨q, List.mem_range.mp hq, rfl⟩) d
    rw [Dev.get_put_self, Dev.get_put_ne _ _ (by decide)]
    exact congrArg (max · _) (h K.TJ_PEAK fun ⟨q, hq, hk⟩ => ne hq (by decide : 5 ≤ 6) hk.symm)

theorem Dev.thermalUpdate_rest (d : Dev) (temps : List Nat) :
    (d.thermalUpdate temps).cores = d.cores ∧ (d.thermalUpdate temps).mem = d.mem ∧ (d.thermalUpdate temps).parts = d.parts := by
  unfold Dev.thermalUpdate
  exact List.foldlRecOn (motive := fun x : Dev => x.cores = d.cores ∧ x.mem = d.mem ∧ x.parts = d.parts) (List.range 4) _
    ⟨rfl, rfl, rfl⟩ fun x hx q _ => hx

/-- Settles O11: each event by the branch of its meaning that its conditions choose. -/
theorem bootEvents : Obligations.BootEvents := by
  unfold Obligations.BootEvents
  refine ⟨fun s hs hp hr hb => ?pattern, fun s u hs hu => ?hang, fun s q hs hq ha hf => ?timeout, fun s q hs hq hb => ?answer,
    fun s hs ha ht => ?alert, fun s temps hs => ?temps, fun s => ⟨rfl, fun h => ?locked, fun h => ?full, fun h => ?high, fun h => ?low⟩⟩
  case pattern =>
    have hx (ok : Bool) : exec (.patternCheckDone ok) s = onDev (fun d => d.patternCheckDone ok) s := rfl
    have hc : ¬(decide (s.dev.get K.PATTERN_OK ≠ 0) || s.dev.recovery || decide (s.dev.bootState < 4)) = true := by
      simp [hp, hr, hb]
    have step : (s.dev.put K.PATTERN_OK 2).bootStep = s.dev.bootStep := by
      rw [Dev.bootStep, Dev.bootState, Dev.get_put_ne s.dev 2 (by decide)]
      rfl
    rw [hx, hx, onDev_next hs, onDev_next hs, Dev.patternCheckDone, if_neg hc, if_pos rfl, Dev.patternCheckDone, if_neg hc,
      if_neg (by decide), Dev.bootRecord, step]
    exact ⟨rfl, rfl⟩
  case hang =>
    have hx : exec (.busHang u) s = onDev (fun d => d.busHang u) s := rfl
    rw [hx, onDev_next hs, Dev.busHang, if_pos (by simpa using hu)]
    rfl
  case timeout =>
    have hx : exec (.avsTimeout q) s = onUnit (q < 4) (fun d => d.avsTimeout q) s := rfl
    rw [hx, onUnit_next (decide_eq_true hq) hs, Dev.avsTimeout, ha]
    exact congrArg (fun d => Host.Outcome.next (s.setDev d)) (if_neg (Nat.not_lt.mpr hf))
  case answer =>
    have hx : exec (.avsbusAnswer q) s = onUnit (q < 4) (fun d => d.avsbusAnswer q) s := rfl
    rw [hx, onUnit_next (decide_eq_true hq) hs, Dev.avsbusAnswer]
    exact congrArg (fun d => Host.Outcome.next (s.setDev d)) (if_neg hb)
  case alert =>
    have hx : exec .alertExpire s = onDev (fun d => d.alertExpire) s := rfl
    rw [hx, onDev_next hs, Dev.alertExpire, if_pos (by simp [ha, ht])]
  case temps =>
    have hx : exec (.thermalObjectsUpdate temps) s = onDev (fun d => d.thermalUpdate temps) s := rfl
    obtain ⟨hq, hv, hp⟩ := s.dev.thermalUpdate_get temps
    simp only [topTemp] at hq hv hp
    rw [hx, onDev_next hs]
    refine ⟨_, rfl, s.setDev_pending _, s.setDev_sec _, ?_⟩
    rw [State.setDev_dev]
    exact ⟨hq, hv, hp, s.dev.thermalUpdate_rest temps⟩
  all_goals show Host.Outcome.next (s.tapInstruction _) = _
  case locked => simp [State.tapInstruction, h]
  case full => simp [State.tapInstruction, h]
  case high => simp [State.tapInstruction, h]
  case low => simp [State.tapInstruction, h]

end Sys2Proof.Machine
end

section
/-! Proofs: the management port (R64, R509, R510). -/
namespace Sys2Proof.Machine

/-! ## MCTP control (R64, R506) -/

/-- The payload of the answer to a control request, and the endpoint identifier that it sets. -/
theorem mctpControl_eq {s : State} (r : List Nat) (h : s.served = true ∨ (s.stopped = false ∧ s.dev.recovery = true)) :
    ∃ a, s.mctpControl r = ({ s with sec := { s.sec with
        eid := if r.getD 1 0 = 1 then r.getD 3 0 % 256 else s.sec.eid } } : State).say ([0, r.getD 0 0 % 128, r.getD 1 0] ++ a) ∧
      (r.getD 1 0 = 1 → a = [0, 0, r.getD 3 0 % 256, 0]) ∧
      (r.getD 1 0 = 2 → a = [0, s.sec.eid, 0, 0]) ∧
      (r.getD 1 0 = 4 → a = [0, 1, 0xF1, 0xF3, 0xF1, 0]) ∧
      (r.getD 1 0 ∉ [1, 2, 4, 5] → a = [5]) ∧
      (r.getD 1 0 = 5 → a = if s.dev.recovery then [0, 1, 0] else [0, 3, 0, 5, 0x7F]) := by
  have hgo : (!(s.served || (!s.stopped && s.dev.recovery))) = false := by
    rcases h with h | ⟨h, h'⟩ <;> simp [*]
  simp only [State.mctpControl, hgo, Bool.false_eq_true, if_false]
  generalize r.getD 1 0 = cmd
  split
  · exact ⟨_, rfl, by simp⟩
  · exact ⟨_, rfl, by simp⟩
  · exact ⟨_, rfl, by simp⟩
  · exact ⟨_, rfl, by simp⟩
  next h1 h2 h4 h5 =>
    replace h1 : cmd ≠ 1 := h1
    replace h2 : cmd ≠ 2 := h2
    replace h4 : cmd ≠ 4 := h4
    replace h5 : cmd ≠ 5 := h5
    refine ⟨[5], ?_, by simp [h1, h2, h4, h5]⟩
    rw [if_neg h1]

/-! ## SPDM (R509) -/

section
variable {s : State} (hs : s.served = true)
include hs

theorem spdmAt_takes {v stage : Nat} {f : State → State} (hv : v = 0x13) (h : stage ≤ s.sec.spdm) : s.spdmAt v stage f = f s := by
  simp [State.spdmAt, hs, hv, Nat.not_lt.mpr h]

theorem spdmAt_early {v stage : Nat} {f : State → State} (hv : v = 0x13) (h : s.sec.spdm < stage) :
    s.spdmAt v stage f = s.spdmError 4 := by
  simp [State.spdmAt, hs, hv, h]

theorem spdmAt_version {v stage : Nat} {f : State → State} (hv : v ≠ 0x13) : s.spdmAt v stage f = s.spdmError 0x41 := by
  simp [State.spdmAt, hs, hv]

theorem getCapabilities_takes (h : 1 ≤ s.sec.spdm) :
    ∃ ct a b, s.getCapabilities 0x13 = (s.setDev { s.dev with free := s.dev.free + 3 }).spdmStep 2
      (spdmMsg 0x13 0xE1 0 0 []) (spdmMsg 0x13 0x61 0 0 ([0, ct, 0, 0] ++ toLE 4 0x16 ++ toLE 4 a ++ toLE 4 b)) := by
  rw [State.getCapabilities, spdmAt_takes hs rfl h]
  exact ⟨_, _, _, rfl⟩

variable {a b m : Nat}

theorem negotiateAlgorithms_takes (h : 2 ≤ s.sec.spdm) (ha : bit a 9 = true) (hb : bit b 6 = true) (hm : bit m 7 = true) :
    ∃ req resp, s.negotiateAlgorithms 0x13 a b m = s.spdmStep 3 (spdmMsg 0x13 0xE3 0 0 req) (spdmMsg 0x13 0x63 0 0 resp) ∧
      resp = toLE 2 36 ++ [1, 0] ++ toLE 4 0x80 ++ toLE 4 0x200 ++ toLE 4 0x40 ++ List.replicate 16 0 := by
  rw [State.negotiateAlgorithms, spdmAt_takes hs rfl h, if_neg (by simp [ha, hb, hm])]
  exact ⟨_, _, rfl, rfl⟩

theorem negotiateAlgorithms_refuses (h : 2 ≤ s.sec.spdm) (hn : bit a 9 = false ∨ bit b 6 = false ∨ bit m 7 = false) :
    s.negotiateAlgorithms 0x13 a b m = s.spdmError 1 := by
  rw [State.negotiateAlgorithms, spdmAt_takes hs rfl h, if_pos (by rcases hn with hn | hn | hn <;> simp [hn])]

theorem getCertificate_answers {o n : Nat} (h : 3 ≤ s.sec.spdm) (ho : o < s.sec.chain.length) :
    s.getCertificate 0x13 0 o n = s.say (spdmMsg 0x13 2 0 0
      (toLE 2 (min n (s.sec.chain.length - o)) ++ toLE 2 (s.sec.chain.length - o - min n (s.sec.chain.length - o)) ++
        (s.sec.chain.drop o).take n)) := by
  rw [State.getCertificate, spdmAt_takes hs rfl h]
  simp only [ne_eq, not_true_eq_false, decide_false, Bool.false_or, decide_eq_true_eq, if_neg (Nat.not_le.mpr ho),
    List.length_take, List.length_drop]

theorem getCertificate_slot {k o n : Nat} (h : 3 ≤ s.sec.spdm) (hk : k ≠ 0) : s.getCertificate 0x13 k o n = s.spdmError 1 := by
  rw [State.getCertificate, spdmAt_takes hs rfl h]
  simp [hk]

theorem challenge_slot {k x : Nat} (h : 3 ≤ s.sec.spdm) (hk : k ≠ 0) : s.challenge 0x13 k x = s.spdmError 1 := by
  rw [State.challenge, spdmAt_takes hs rfl h, if_pos hk]

theorem challenge_answers {x : Nat} (h : 3 ≤ s.sec.spdm) :
    ∃ own, s.challenge 0x13 0 x = (s.setDev { s.dev with free := s.dev.free + 1 }).signed
      (spdmMsg 0x13 0x83 0 0 (toLE 32 x)) (spdmMsg 0x13 3 0 1 (toLE 32 (Config.sm3 s.sec.chain) ++ toLE 32 own ++ [0, 0])) := by
  rw [State.challenge, spdmAt_takes hs rfl h, if_neg (by simp)]
  exact ⟨_, rfl⟩

end

/-! ## Measurements (R510) -/

/-- The blocks that a request for one block names. -/
theorem measured_blocks (s : State) (b : Nat) :
    ((List.range 0x20).filter (fun i => (s.measure i).isSome)).filter (· == b) =
      if b < 32 ∧ (s.measure b).isSome = true then [b] else [] := by
  rw [List.filter_filter]
  have hcomm : (fun i => (i == b) && (s.measure i).isSome) = fun i => (s.measure b).isSome && (i == b) := by
    funext i
    by_cases h : i = b
    · subst h; simp
    · rw [beq_false_of_ne h, Bool.false_and, Bool.and_false]
  rw [hcomm]
  cases (s.measure b).isSome
  · simp only [Bool.false_and, List.filter_false, Bool.false_eq_true, and_false, if_false]
  · simp only [Bool.true_and, and_true]
    rw [List.filter_beq]
    by_cases h : b < 32
    · rw [if_pos h, List.count_eq_one_of_mem List.nodup_range (List.mem_range.mpr h)]
      rfl
    · rw [if_neg h, List.count_eq_zero_of_not_mem (by simpa using h)]
      rfl

theorem getMeasurements_one {s : State} (hs : s.served = true) {x b : Nat} (h : 3 ≤ s.sec.spdm) (hb : b < 32) (h0 : b ≠ 0)
    (hm : (s.measure b).isSome = true) :
    ∃ own, s.getMeasurements 0x13 x b = (s.setDev { s.dev with free := s.dev.free + 1 }).signed
      (spdmMsg 0x13 0xE0 1 b (toLE 32 x))
      (spdmMsg 0x13 0x60 0 0 ([1] ++ toLE 3 (s.block b).length ++ s.block b ++ toLE 32 own ++ [0, 0])) := by
  rw [State.getMeasurements, spdmAt_takes hs rfl h]
  have hall := measured_blocks s b
  rw [if_pos ⟨hb, hm⟩] at hall
  simp only [if_neg h0, if_neg (by omega : b ≠ 0xFF), hall, List.isEmpty_cons, Bool.and_false, Bool.false_eq_true, if_false,
    List.flatMap_cons, List.flatMap_nil, List.append_nil]
  exact ⟨_, rfl⟩

theorem getMeasurements_missing {s : State} (hs : s.served = true) {x b : Nat} (h : 3 ≤ s.sec.spdm) (h0 : b ≠ 0) (hf : b ≠ 0xFF)
    (hm : (s.measure b).isSome = false ∨ 32 ≤ b) : s.getMeasurements 0x13 x b = s.spdmError 1 := by
  rw [State.getMeasurements, spdmAt_takes hs rfl h]
  have hall := measured_blocks s b
  rw [if_neg (by rcases hm with hm | hm <;> simp [hm])] at hall
  simp only [if_neg h0, if_neg hf, hall]
  rw [if_pos (by simp [h0])]

/-- A partition's block is given while it is active. -/
theorem measure_part (s : State) {p : Nat} (hp : p < 16) : (s.measure (0x10 + p)).isSome = (s.dev.get (K.PART_STATE p) == 1) := by
  have hm : s.measure (0x10 + p) =
      if (0x10 ≤ 0x10 + p && 0x10 + p < 0x20 && s.dev.get (K.PART_STATE (0x10 + p - 0x10)) == 1) = true
      then some (2, Config.sm3 (s.dev.partBytes (0x10 + p - 0x10))) else none := by
    interval_cases p <;> rfl
  rw [hm, Nat.add_sub_cancel_left]
  cases hst : s.dev.get (K.PART_STATE p) == 1
  · simp
  · rw [if_pos (by simp; omega)]
    rfl

/-- Settles O13: each request by what its stage of the connection makes of it. -/
theorem managementPort : Obligations.ManagementPort := by
  unfold Obligations.ManagementPort
  have live {s : State} (h : s.served = true) : s.stopped = false := State.served_stopped h
  have on (f : State → State) {s : State} (h : s.served = true) : onState true f s = .next (f s) := onState_next rfl (live h)
  refine ⟨⟨fun s a hs => ?entdaa, fun s r h => ?mctp⟩, ⟨fun s hs => ?version, fun s hs h => ?caps, fun s a b m hs h ha hb hm => ?algs,
    fun s a b m hs h hn => ?noAlgs, fun s a b m hs h => ?early, fun s v hs hv => ?other, fun s v a b m hs => ?unserved⟩,
    fun s hs h => ?digests, fun s o n hs h ho => ?cert, fun s k o n x hs h hk => ?slot, fun s x hs h => ?challenge,
    fun s x b hs h hb h0 hm => ?one, fun s x b hs h h0 hf hm => ?missing, fun s p hp => measure_part s hp, fun s => rfl⟩
  case entdaa =>
    have hx : exec (.entdaa a) s = onState true (fun s => s.entdaa a) s := rfl
    rw [hx, onState_next rfl hs, State.entdaa]
    by_cases h : s.sec.i3cAddr = 0 <;> simp [hs, h]
  case mctp =>
    have hs : s.stopped = false := h.elim live And.left
    have hx : exec (.mctpControl r) s = onState true (fun s => s.mctpControl r) s := rfl
    obtain ⟨a, heq, ha⟩ := mctpControl_eq r h
    rw [hx, onState_next rfl hs, heq]
    exact ⟨_, rfl, rfl, rfl, rfl, rfl, rfl, a, rfl, ha⟩
  case version =>
    refine (on (fun s => s.getVersion 0x10) hs).trans ?_
    simp only [State.getVersion, hs, Bool.not_true, Bool.false_eq_true, if_false, ne_eq, not_true_eq_false]
    rfl
  case caps =>
    obtain ⟨ct, x, y, heq⟩ := getCapabilities_takes hs h
    exact ⟨ct, x, y, (on (fun s => s.getCapabilities 0x13) hs).trans (congrArg _ heq)⟩
  case algs =>
    obtain ⟨req, resp, heq, hr⟩ := negotiateAlgorithms_takes hs h ha hb hm
    exact ⟨req, resp, (on (fun s => s.negotiateAlgorithms 0x13 a b m) hs).trans (congrArg _ heq), hr⟩
  case noAlgs =>
    exact (on (fun s => s.negotiateAlgorithms 0x13 a b m) hs).trans (congrArg _ (negotiateAlgorithms_refuses hs h hn))
  case early => exact (on (fun s => s.negotiateAlgorithms 0x13 a b m) hs).trans (congrArg _ (spdmAt_early hs rfl h))
  case other => exact (on (fun s => s.getCapabilities v) hs).trans (congrArg _ (spdmAt_version hs hv))
  case unserved =>
    have held (f : State → State) (hf : f s = s) : onState true f s = .next s := by
      cases h : s.stopped
      · rw [onState_next rfl h, hf]
      · exact onState_held rfl h
    have spdm (v stage : Nat) (f : State → State) : s.spdmAt v stage f = s := by simp [State.spdmAt, hs]
    exact ⟨held (fun s => s.getVersion v) (by simp [State.getVersion, hs]), held (fun s => s.getCapabilities v) (spdm _ _ _),
      held (fun s => s.negotiateAlgorithms v a b m) (spdm _ _ _), held (fun s => s.getDigests v) (spdm _ _ _),
      held (fun s => s.getCertificate v a b m) (spdm _ _ _), held (fun s => s.challenge v a b) (spdm _ _ _),
      held (fun s => s.getMeasurements v a b) (spdm _ _ _)⟩
  case digests => exact (on (fun s => s.getDigests 0x13) hs).trans (congrArg _ (spdmAt_takes hs rfl h))
  case cert => exact (on (fun s => s.getCertificate 0x13 0 o n) hs).trans (congrArg _ (getCertificate_answers hs h ho))
  case slot =>
    exact ⟨(on (fun s => s.getCertificate 0x13 k o n) hs).trans (congrArg _ (getCertificate_slot hs h hk)),
      (on (fun s => s.challenge 0x13 k x) hs).trans (congrArg _ (challenge_slot hs h hk))⟩
  case challenge =>
    obtain ⟨own, heq⟩ := challenge_answers (x := x) hs h
    exact ⟨_, own, on (fun s => s.challenge 0x13 0 x) hs, heq⟩
  case one =>
    obtain ⟨own, heq⟩ := getMeasurements_one (x := x) hs h hb h0 hm
    exact ⟨_, own, on (fun s => s.getMeasurements 0x13 x b) hs, heq⟩
  case missing => exact (on (fun s => s.getMeasurements 0x13 x b) hs).trans (congrArg _ (getMeasurements_missing hs h h0 hf hm))

end Sys2Proof.Machine
end

section
/-! Proofs: reads, refused writes, sessions and segments of the dictionary (R47, R51, R59 to R67). -/
namespace Sys2Proof.Machine

/-! ## A request that reaches its session -/

/-- What `perform` makes of a request that reaches its session is what the command answers. -/
theorem onState_serve {s : State} {op n : Nat} {q : Req} {a : Reply} {f : State → State} {ok : Bool} (h : Reaches s op q n)
    (hok : q.hdr.port < 66 → ok = true) (hp : (s.taken op q).perform n op q = (a, f (s.taken op q))) :
    onState ok (fun s => s.serve op q) s = .next (s.answered op q n a f) := by
  rw [onState_next (hok h.port) h.live, serve_reaches s op q n h, hp]
  rfl

section
variable {s : State} {op n : Nat} {q : Req} (h : Admitted s op q n)
include h

theorem Admitted.taken_open : (s.taken op q).dev.get (K.SESSION_STATE n) = 2 := (taken_get ..).trans h.isOpen

theorem Admitted.taken_version : q.hdr.version = (s.taken op q).dev.get (K.SESSION_VERSION n) := h.version.trans (taken_get ..).symm

end

theorem perform_segRead {s : State} {n : Nat} {q : Req} (h : s.dev.get (K.SESSION_STATE n) = 2)
    (hv : q.hdr.version = s.dev.get (K.SESSION_VERSION n)) : s.perform n opSEGREAD q = s.segReadReq n q := by
  simp [State.perform, opREAD, opSTAGED, opWRITE, opSEGREAD, opNEGOTIATE, h, hv]

theorem perform_segWrite {s : State} {n : Nat} {q : Req} (h : s.dev.get (K.SESSION_STATE n) = 2)
    (hv : q.hdr.version = s.dev.get (K.SESSION_VERSION n)) :
    s.perform n opSEGWRITE q = if q.data.isEmpty then s.segCloseReq n q else s.segWriteReq n q := by
  simp [State.perform, opREAD, opSTAGED, opWRITE, opSEGREAD, opSEGWRITE, opNEGOTIATE, h, hv]

/-! ## READ and READ_STAGED (R51, R59) -/

section
variable {s : State} {n w : Nat} {q : Req} {t : Target} (hf : s.dev.find n q.index q.sub false = .ok t) (hw : t.row.type.bytes = some w)
  (hl : t.key ≠ K.LOG_RECORD.key) (hc : t.key ≠ K.DBG_CHALLENGE.key)
include hf hw hl hc

theorem readReq_value (b : Bool) :
    s.readReq n q b = (okData (toLE w (match (if b then s.dev.stagedOf n t else none) with
      | some e => e.val | none => s.dev.liveVal n t)), s) := by
  simp only [State.readReq, hf, hw, hl, hc, decide_false, Bool.false_and, Bool.false_eq_true, if_false] <;> rfl

end

theorem readReq_refused {s : State} {n : Nat} {q : Req} {a : Reply} (hf : s.dev.find n q.index q.sub false = .error a) (b : Bool) :
    s.readReq n q b = (a, s) := by
  simp only [State.readReq, hf]

@[simp] theorem taken_stagedOf (s : State) (op n : Nat) (q : Req) (t : Target) :
    (s.taken op q).dev.stagedOf n t = s.dev.stagedOf n t := by
  simp [Dev.stagedOf]

/-- Settles O14: by what a read makes of the value that the session sees. -/
theorem readsAnswer : Obligations.ReadsAnswer := by
  unfold Obligations.ReadsAnswer
  have live (s : State) (q : Req) : exec (.dictRead q) s = onState (q.hdr.port < 66) (fun s => s.serve opREAD q) s := rfl
  have staged (s : State) (q : Req) : exec (.readStaged q) s = onState (q.hdr.port < 66) (fun s => s.serve opSTAGED q) s := rfl
  intro s q n
  refine ⟨fun t w ha hf hw hl hc => ?value, fun a ha hf => ?refused, fun t w e ha hf hw hl hc he => ?own,
    fun t w ha hf hw hl hc he => ?other⟩
  case value =>
    refine (live s q).trans (onState_serve ha.reaches decide_eq_true ?_)
    rw [perform_read _ _ _ ha.taken_open ha.taken_version]
    exact readReq_value hf hw hl hc false
  case refused =>
    refine (live s q).trans (onState_serve ha.reaches decide_eq_true ?_)
    rw [perform_read _ _ _ ha.taken_open ha.taken_version]
    exact readReq_refused hf false
  case own =>
    refine (staged s q).trans (onState_serve ha.reaches decide_eq_true ?_)
    rw [perform_staged _ _ _ ha.taken_open ha.taken_version, readReq_value hf hw hl hc true, taken_stagedOf, he]
    rfl
  case other =>
    refine (staged s q).trans (onState_serve ha.reaches decide_eq_true ?_)
    rw [perform_staged _ _ _ ha.taken_open ha.taken_version, readReq_value hf hw hl hc true, taken_stagedOf, he]
    rfl

/-! ## Refused writes (R47) -/

theorem writeReq_refused {s : State} {n : Nat} {q : Req} {a : Reply} (hf : s.dev.find n q.index q.sub true = .error a) :
    s.writeReq n q = (a, s) := by
  simp only [State.writeReq, hf]

/-- Off the links a request has no message, and its answer goes to the port's list. -/
theorem reply_off {s : State} {h : Hdr} (hp : 64 ≤ h.port) (m : Option Msg) (r : Resp) :
    ∃ o, s.reply h m r = { s with sec := { s.sec with out := o } } := by
  simp only [State.reply, if_neg (Nat.not_lt.mpr hp)]
  exact ⟨_, rfl⟩

theorem taken_off {s : State} {op : Nat} {q : Req} (hp : 64 ≤ q.hdr.port) : s.taken op q = s := by
  simp [State.taken, Dev.takeReq, hp]

/-- The device of a session whose request is counted and whose response is kept. -/
def Dev.concluded (d : Dev) (n : Nat) (tags : List (List Nat × Resp)) : Dev :=
  let d := d.cnt (K.SESSION_REQUESTS n) 1
  if d.get (K.SESSION_STATE n) = 0 then d else d.setSession n { d.session n with tags := tags }

theorem conclude_off {s : State} {op n : Nat} {q : Req} (hp : 64 ≤ q.hdr.port) (m : Option Msg) (a : Reply) :
    ∃ o tags, s.conclude op q n m a = { s with dev := s.dev.concluded n tags, sec := { s.sec with out := o } } := by
  unfold State.conclude
  extract_lets r d x d'
  obtain ⟨o, ho⟩ := reply_off (s := s.setDev d') hp m r
  exact ⟨o, _, ho⟩

theorem Dev.concluded_get (d : Dev) (n : Nat) (tags : List (List Nat × Resp)) (o : Obj) :
    (d.concluded n tags).get o = (d.cnt (K.SESSION_REQUESTS n) 1).get o := by
  unfold Dev.concluded
  dsimp only
  split <;> rfl

theorem Dev.concluded_staged (d : Dev) (n : Nat) (tags : List (List Nat × Resp)) :
    ((d.concluded n tags).session n).staged = (d.session n).staged := by
  unfold Dev.concluded
  dsimp only
  split
  · rfl
  · rw [Dev.session_setSession_self]
    rfl

theorem Dev.concluded_rest (d : Dev) (n : Nat) (tags : List (List Nat × Resp)) :
    (d.concluded n tags).doms = d.doms ∧ (d.concluded n tags).cores = d.cores ∧ (d.concluded n tags).mem = d.mem ∧
      (d.concluded n tags).parts = d.parts ∧ (d.concluded n tags).links = d.links := by
  unfold Dev.concluded
  dsimp only
  split <;> exact ⟨rfl, rfl, rfl, rfl, rfl⟩

/-- Settles O16: the refusal leaves the state, and concluding it moves the count and the kept responses. -/
theorem refusedChangesNothing : Obligations.RefusedChangesNothing := by
  unfold Obligations.RefusedChangesNothing
  intro s q n a ha hp hf
  have hx := dictWrite_answered (f := id) ha (writeReq_refused hf)
  obtain ⟨o, tags, hc⟩ := conclude_off (s := s) (op := opWRITE) (n := n) hp (s.carrier opWRITE q) a
  rw [State.answered, id_eq, taken_off hp, hc] at hx
  obtain ⟨h1, h2, h3, h4, h5⟩ := s.dev.concluded_rest n tags
  refine ⟨_, hx, rfl, rfl, fun o ho => ?_, ?_, s.dev.concluded_staged n tags, h1, h2, h3, h4, h5⟩
  · rw [Dev.concluded_get]
    exact Dev.get_put_ne _ _ ho
  · rw [Dev.concluded_get]
    exact Dev.get_put_self _ _ _

/-! ## NEGOTIATE (R67) -/

section
variable {s : State} {n : Nat} {q : Req}

theorem perform_negotiate : s.perform n opNEGOTIATE q = s.negotiateReq n q := by simp [State.perform]

theorem negotiateReq_again (h : s.dev.get (K.SESSION_STATE n) = 2) :
    s.negotiateReq n q = (okData (toLE 2 (s.dev.get (K.SESSION_VERSION n))), s) := by
  simp [State.negotiateReq, h]

variable {lo hi : Nat} (h : s.dev.get (K.SESSION_STATE n) ≠ 2) (hq : q.data = toLE 2 lo ++ toLE 2 hi) (hlo : lo < 65536)
  (hhi : hi < 65536)
include h hq hlo hhi

theorem negotiateReq_versions :
    s.negotiateReq n q = if min hi (s.dev.get K.DICT_VER_MAX) < max lo (s.dev.get K.DICT_VER_MIN) then (noRange rsVERSION, s)
      else (okData (toLE 2 (min hi (s.dev.get K.DICT_VER_MAX))), s.setDev ((s.dev.put (K.SESSION_STATE n) 2).put (K.SESSION_VERSION n)
        (min hi (s.dev.get K.DICT_VER_MAX)))) := by
  have hl : q.data.length = 4 := by rw [hq]; rfl
  have h1 : ofLE (q.data.take 2) = lo := by
    rw [hq]
    exact ofLE_toLE 2 lo hlo
  have h2 : ofLE (q.data.drop 2) = hi := by
    rw [hq]
    exact ofLE_toLE 2 hi hhi
  simp only [State.negotiateReq, h, hl, h1, h2, if_false, ne_eq, not_true_eq_false]

end

/-! ## SESSION_STATE (R65) -/

theorem sessionState_liveRow : ∀ k, k < 64 → liveRow (0x1200 + k) 1 1 0x1200 1 = true := by decide +kernel

/-- The device with other links. -/
def Dev.withLinks (d : Dev) (l : Map Link) : Dev := { d with links := l }

/-- Taking a request out of its link's buffer changes the links alone. -/
theorem State.taken_links (s : State) (op : Nat) (q : Req) : ∃ l, (s.taken op q).dev = s.dev.withLinks l := by
  unfold State.taken Dev.takeReq
  split
  · exact ⟨_, rfl⟩
  · dsimp only
    split <;> exact ⟨_, rfl⟩

section
variable {s : State} {h : Hdr} {ix sub w v n base stride : Nat} {ok : Bool} (g : Granted s h ix sub w v n)
  (hr : liveRow ix sub w base stride = true) (hb : base < 0x9000 ∨ 0x9010 < base ∨ base = 0x9000 ∧ sub < 13)
  (hok : h.port < 66 → ok = true)
include g hr hb hok

/-- A granted write of an object of the device that no principal stages answers what the device's live write makes of it. -/
theorem onState_devWrite {a : Reply} {f : Dev → Dev} (hw : ∀ l (r : Row), r.index = base → r.stride = stride →
      (s.dev.withLinks l).liveWrite n r ix sub v = (a, f (s.dev.withLinks l))) :
    onState ok (fun s => s.serveWrite h ix sub w v) s =
      .next (s.answered opWRITE (writeOf h ix sub w v) n a (fun x => x.setDev (f x.dev))) := by
  refine onState_write g hr hok fun x r hx hi hst => ?_
  obtain ⟨l, hl⟩ := s.taken_links opWRITE (writeOf h ix sub w v)
  have hd : x.liveWrite n r ix sub v = ((x.dev.liveWrite n r ix sub v).1, x.setDev (x.dev.liveWrite n r ix sub v).2) := by
    unfold State.liveWrite
    split
    any_goals omega
    rfl
  rw [hd, hx, hl, hw l r hi hst]

theorem onState_wrote {f : Dev → Dev} (hw : ∀ l (r : Row), r.index = base → r.stride = stride →
      (s.dev.withLinks l).liveWrite n r ix sub v = (okReply, f (s.dev.withLinks l))) :
    onState ok (fun s => s.serveWrite h ix sub w v) s = .next (s.wrote h ix sub w v n f) :=
  onState_devWrite g hr hb hok hw

theorem onState_refused {a : Reply} (hw : ∀ l (r : Row), r.index = base → r.stride = stride →
      (s.dev.withLinks l).liveWrite n r ix sub v = (a, s.dev.withLinks l)) :
    onState ok (fun s => s.serveWrite h ix sub w v) s = .next (s.refusedWrite h ix sub w v n a) :=
  onState_devWrite (f := id) g hr hb hok hw

end

/-- The unit that an index of a row names. -/
theorem liveWrite_unit {r : Row} {base stride : Nat} (hi : r.index = base) (hst : r.stride = stride) (h0 : 0 < stride) (k : Nat) :
    (base + stride * k - r.index) / r.stride = k := by
  rw [hi, hst, Nat.add_sub_cancel_left, Nat.mul_div_cancel_left _ h0]

/-- An index outside the snapshot area. -/
theorem notSnapArea {ix : Nat} (h : ix < 0xA400 ∨ 0xA800 ≤ ix) : (0xA400 ≤ ix && ix < 0xA800) = false := by
  simp only [Bool.and_eq_false_iff, decide_eq_false_iff_not]
  omega

theorem liveWrite_session {d : Dev} {n k v : Nat} {r : Row} (hi : r.index = 0x1200) (hst : r.stride = 1) (hk : k < 64) :
    d.liveWrite n r (0x1200 + k) 1 v = d.sessionWrite k v := by
  have hu := liveWrite_unit hi hst Nat.one_pos k
  rw [Nat.one_mul] at hu
  unfold Dev.liveWrite
  dsimp only
  rw [notSnapArea (by omega), hu, hi]
  rfl

section
variable {d : Dev} {k : Nat} (h1 : 1 ≤ k) (h62 : k ≤ 62)
include h1 h62

theorem freeSession_of : freeSession k = true := by simp [freeSession, h1, h62]

theorem Dev.sessionWrite_close : d.sessionWrite k 0 = (okReply, d.closeSession k) := by
  simp [Dev.sessionWrite, freeSession_of h1 h62]

theorem Dev.sessionWrite_noRight (h0 : d.get (K.SESSION_STATE k) = 0) (hx : d.principal k = 4) (hl : d.get K.DEBUG_LEVEL = 0) :
    d.sessionWrite k 1 = (noAccess rsNORIGHT, d) := by
  simp [Dev.sessionWrite, freeSession_of h1 h62, h0, hx, hl]

theorem Dev.sessionWrite_stays (h0 : d.get (K.SESSION_STATE k) ≠ 0) : d.sessionWrite k 1 = (okReply, d) := by
  simp [Dev.sessionWrite, freeSession_of h1 h62, h0, Dev.openSession]

theorem Dev.sessionWrite_open (h0 : d.get (K.SESSION_STATE k) = 0) (hx : d.principal k ≠ 4 ∨ d.get K.DEBUG_LEVEL ≠ 0) :
    d.sessionWrite k 1 = (okReply, (d.setSession k Session.init).put (K.SESSION_STATE k) 1) := by
  have hno : ¬(d.principal k = 4 ∧ d.get K.DEBUG_LEVEL = 0) := fun ⟨h4, hl⟩ => hx.elim (· h4) (· hl)
  simp [Dev.sessionWrite, freeSession_of h1 h62, h0, hno, Dev.openSession]

end

theorem Dev.sessionWrite_fixed {d : Dev} {k v : Nat} (hk : k = 0 ∨ k = 63) : d.sessionWrite k v = (noRange rsVALUE, d) := by
  have hf : freeSession k = false := by rcases hk with rfl | rfl <;> rfl
  simp [Dev.sessionWrite, hf]

theorem sessionOpen_eq {s : State} {h : Hdr} {k : Nat} :
    exec (.sessionOpen h k) s = onState (h.port < 66 && k < 64) (fun s => s.serveWrite h (0x1200 + k) 1 1 1) s := rfl

theorem sessionClose_eq {s : State} {h : Hdr} {k : Nat} :
    exec (.sessionClose h k) s = onState (h.port < 66 && k < 64) (fun s => s.serveWrite h (0x1200 + k) 1 1 0) s := rfl

/-- Settles O18: NEGOTIATE by the versions in common, SESSION_STATE by the session's state and principal. -/
theorem sessions : Obligations.Sessions := by
  unfold Obligations.Sessions
  refine ⟨?negotiate, ?state⟩
  case negotiate =>
    intro s h lo hi n q hq hlo hhi hr
    have hx : exec (.negotiate h lo hi) s = onState (h.port < 66) (fun s => s.serve opNEGOTIATE q) s := by rw [hq]; rfl
    have hok : q.hdr.port < 66 → decide (h.port < 66) = true := by rw [hq]; exact decide_eq_true
    have hdata : q.data = toLE 2 lo ++ toLE 2 hi := by rw [hq]
    have hver (h' : s.dev.get (K.SESSION_STATE n) ≠ 2) := negotiateReq_versions (s := s.taken opNEGOTIATE q) (n := n) (q := q)
      (by rw [taken_get]; exact h') hdata hlo hhi
    refine ⟨fun h2 => ?_, fun h2 hv => ?_, fun h2 hv => ?_⟩
    all_goals
      refine hx.trans (onState_serve hr hok ?_)
      rw [perform_negotiate]
    · rw [negotiateReq_again (by rw [taken_get]; exact h2), taken_get]
      rfl
    · rw [hver h2, if_neg (by simpa using Nat.not_lt.mpr hv)]
      simp only [taken_get]
    · rw [hver h2, if_pos (by simpa using hv)]
      rfl
  case state =>
    intro s h k n hk
    have hb : 0x1200 < 0x9000 ∨ 0x9010 < 0x1200 ∨ 0x1200 = 0x9000 ∧ 1 < 13 := .inl (by decide)
    have hrow := sessionState_liveRow k hk
    have hok (hp : h.port < 66) : (h.port < 66 && k < 64) = true := by simp [hp, hk]
    refine ⟨fun g h1 h62 h0 hx => ?_, fun g h1 h62 h0 hx hl => ?_, fun g h1 h62 h0 => ?_, fun g h1 h62 => ?_, fun g hk' => ?_⟩
    · exact sessionOpen_eq.trans (onState_wrote g hrow hb hok fun l r hi hst =>
        (liveWrite_session hi hst hk).trans (Dev.sessionWrite_open h1 h62 h0 hx))
    · exact sessionOpen_eq.trans (onState_refused g hrow hb hok fun l r hi hst =>
        (liveWrite_session hi hst hk).trans (Dev.sessionWrite_noRight h1 h62 h0 hx hl))
    · exact sessionOpen_eq.trans (onState_wrote g hrow hb hok fun l r hi hst =>
        (liveWrite_session hi hst hk).trans (Dev.sessionWrite_stays h1 h62 h0))
    · exact sessionClose_eq.trans (onState_wrote g hrow hb hok fun l r hi hst =>
        (liveWrite_session hi hst hk).trans (Dev.sessionWrite_close h1 h62))
    · exact sessionClose_eq.trans (onState_refused g hrow hb hok fun l r hi hst =>
        (liveWrite_session hi hst hk).trans (Dev.sessionWrite_fixed hk'))

end Sys2Proof.Machine
end

section
/-! Proofs: segments, commits and snapshots of the dictionary (R54 to R58, R60, R70). -/
namespace Sys2Proof.Machine

/-! ## Segments (R60) -/

section
variable {s : State} {n : Nat} {q : Req} {t : Target} (hd : t.row.type = .domain)
include hd

theorem segReadReq_bytes (hf : s.dev.find n q.index q.sub false = .ok t) (hl : q.length ≤ 224) :
    s.segReadReq n q = (okData (((s.dev.domBytes t.key).drop q.offset).take q.length), s) := by
  simp only [State.segReadReq, hf, hd, ne_eq, not_true_eq_false, decide_false, Bool.false_or, decide_eq_true_eq,
    if_neg (Nat.not_lt.mpr hl)]

variable (hf : s.dev.find n q.index q.sub true = .ok t)
include hf

/-- The bytes of a buffer with a segment put at its offset. -/
def segmentInto (old data : List Nat) (offset : Nat) : List Nat :=
  (old ++ List.replicate (offset + data.length - old.length) 0).take offset ++ data.map (· % 256) ++
    (old ++ List.replicate (offset + data.length - old.length) 0).drop (offset + data.length)

theorem segWriteReq_buffer (hl : q.data.length ≤ 224) (hm : q.offset + q.data.length ≤ domMax t.key) :
    s.segWriteReq n q = (okReply, s.setDev (s.dev.setSession n { s.dev.session n with
      buf := some (t.key, segmentInto (((s.dev.session n).bufOf t.key).getD []) q.data q.offset) })) := by
  simp only [State.segWriteReq, hf, hd, ne_eq, not_true_eq_false, decide_false, Bool.false_or, decide_eq_true_eq,
    if_neg (Nat.not_lt.mpr hl), if_neg (Nat.not_lt.mpr hm)]
  rfl

theorem segCloseReq_refused (h : q.offset ≠ (((s.dev.session n).bufOf t.key).getD []).length ∨
    domRangeOk t.key (((s.dev.session n).bufOf t.key).getD []) = false) : s.segCloseReq n q = (noRange rsVALUE, s) := by
  have hb : (decide (q.offset ≠ (((s.dev.session n).bufOf t.key).getD []).length) ||
      !domRangeOk t.key (((s.dev.session n).bufOf t.key).getD [])) = true := by simpa using h
  simp only [State.segCloseReq, hf, hd, ne_eq, not_true_eq_false, if_false]
  exact if_pos hb

variable (ho : q.offset = (((s.dev.session n).bufOf t.key).getD []).length)
  (hr : domRangeOk t.key (((s.dev.session n).bufOf t.key).getD []) = true)
include ho hr

theorem segCloseReq_live (hw : t.row.right (s.dev.principal n) ≠ .rws) :
    s.segCloseReq n q = (okReply, s.setDev (({ s.dev with
      doms := Map.set s.dev.doms [] t.key (((s.dev.session n).bufOf t.key).getD []) } : Dev).setSession n
        { s.dev.session n with buf := none })) := by
  simp only [State.segCloseReq, hf, hd, hr, hw, ← ho, ne_eq, not_true_eq_false, decide_false, Bool.not_true, Bool.or_self,
    Bool.false_eq_true, if_false]

theorem segCloseReq_staged (hw : t.row.right (s.dev.principal n) = .rws) {a : Reply} {d : Dev}
    (hs : s.dev.stage n { key := t.key, val := 0, dom := some (((s.dev.session n).bufOf t.key).getD []) } = (a, d)) :
    s.segCloseReq n q = (a, s.setDev (if a.result = stOK then d.setSession n { d.session n with buf := none } else d)) := by
  simp only [State.segCloseReq, hf, hd, hr, hw, ← ho, hs, ne_eq, not_true_eq_false, decide_false, Bool.not_true, Bool.or_self,
    Bool.false_eq_true, if_false, if_true]

end

theorem segmentInto_length (old data : List Nat) (offset : Nat) :
    (segmentInto old data offset).length = max old.length (offset + data.length) := by
  simp only [segmentInto, List.length_append, List.length_take, List.length_map, List.length_drop, List.length_replicate]
  omega

theorem segmentInto_getD (old data : List Nat) (offset i : Nat) :
    (segmentInto old data offset).getD i 0 =
      if offset ≤ i ∧ i < offset + data.length then data.getD (i - offset) 0 % 256 else old.getD i 0 := by
  have hwide (j : Nat) : (old ++ List.replicate (offset + data.length - old.length) 0).getD j 0 = old.getD j 0 := by
    simp only [List.getD_eq_getElem?_getD]
    rcases Nat.lt_or_ge j old.length with h | h
    · rw [List.getElem?_append_left h]
    · rw [List.getElem?_append_right h, List.getElem?_eq_none h, List.getElem?_replicate]
      split <;> rfl
  have hlen : offset ≤ (old ++ List.replicate (offset + data.length - old.length) 0).length := by
    simp only [List.length_append, List.length_replicate]
    omega
  unfold segmentInto
  generalize old ++ List.replicate (offset + data.length - old.length) 0 = wide at hwide hlen
  rw [← hwide i]
  simp only [List.getD_eq_getElem?_getD, List.getElem?_append, List.getElem?_take, List.getElem?_drop, List.getElem?_map,
    List.length_append, List.length_take, List.length_map, Nat.min_eq_left hlen]
  rcases Nat.lt_or_ge i offset with h | h
  · rw [if_pos (by omega), if_pos h, if_pos h, if_neg (by omega)]
  · rcases Nat.lt_or_ge i (offset + data.length) with h' | h'
    · rw [if_pos h', if_neg (by omega), if_pos ⟨h, h'⟩, List.getElem?_eq_getElem (by omega)]
      rfl
    · rw [if_neg (by omega), if_neg (by omega), Nat.add_sub_cancel' h']

/-- Settles O19: each request of a segment by what it makes of the session's buffer. -/
theorem segments : Obligations.Segments := by
  unfold Obligations.Segments
  intro s q n t hd
  refine ⟨fun ha hf hl => ?read, fun ha hf h0 hl hm => ?write, fun ha hf => ?close⟩
  case read =>
    have hx : exec (.segmentRead q) s = onState (q.hdr.port < 66) (fun s => s.serve opSEGREAD q) s := rfl
    refine hx.trans (onState_serve ha.reaches decide_eq_true ?_)
    rw [perform_segRead ha.taken_open ha.taken_version, segReadReq_bytes hd hf hl]
    obtain ⟨l, hl⟩ := s.taken_links opSEGREAD q
    rw [hl]
    rfl
  case write =>
    have hx : exec (.segmentWrite q) s = onState (q.hdr.port < 66) (fun s => s.serve opSEGWRITE q) s := rfl
    refine ⟨_, hx.trans (onState_serve ha.reaches decide_eq_true ?_), segmentInto_length _ q.data q.offset,
      segmentInto_getD _ q.data q.offset⟩
    rw [perform_segWrite ha.taken_open ha.taken_version, if_neg (by simpa using h0), segWriteReq_buffer hd hf hl hm]
    simp only [taken_session]
  case close =>
    have close {a : Reply} {f : State → State} (h : (s.taken opSEGWRITE { q with data := [] }).segCloseReq n { q with data := [] } =
        (a, f (s.taken opSEGWRITE { q with data := [] }))) :
        exec (.segmentClose q) s = .next (s.answered opSEGWRITE { q with data := [] } n a f) := by
      have hx : exec (.segmentClose q) s = onState (q.hdr.port < 66) (fun s => s.serve opSEGWRITE { q with data := [] }) s := rfl
      refine hx.trans (onState_serve ha.reaches decide_eq_true ?_)
      rw [perform_segWrite ha.taken_open ha.taken_version]
      exact h
    have hprin : (s.taken opSEGWRITE { q with data := [] }).dev.principal n = s.dev.principal n := taken_get ..
    refine ⟨fun h => close (f := id) (segCloseReq_refused hd hf (by simpa using h)), fun ho hr => ⟨fun hw => ?_, fun hw h2 he hk => ?_,
      fun hw h2 => ?_, fun hw h2 he => ?_⟩⟩
    · refine close ((segCloseReq_live hd hf (by simpa using ho) (by simpa using hr) (by rwa [hprin])).trans ?_)
      simp only [taken_session]
    · refine close ((segCloseReq_staged hd hf (by simpa using ho) (by simpa using hr) (by rwa [hprin])
        (stage_joins (by simpa using h2) (by simpa using he) (by simpa using hk))).trans ?_)
      simp only [taken_session]
      rfl
    · exact close (f := id) ((segCloseReq_staged hd hf (by simpa using ho) (by simpa using hr) (by rwa [hprin])
        (stage_pending (by simpa using h2))))
    · exact close (f := id) ((segCloseReq_staged hd hf (by simpa using ho) (by simpa using hr) (by rwa [hprin])
        (stage_elsewhere (by simpa using h2) (by simpa using he))))

/-! ## Commits (R54 to R57) -/

section
variable {d : Dev} {n v : Nat} {r : Row}

theorem liveWrite_commit (hi : r.index = 0x1F00) : d.liveWrite n r 0x1F00 1 v = d.commitWrite n v := by
  simp [Dev.liveWrite, hi]

theorem liveWrite_forceDiscard (hi : r.index = 0x1F01) (hv : v < 64) :
    d.liveWrite n r 0x1F01 1 v = (okReply, d.setSession v { d.session v with staged := [], state := 4 }) := by
  simp [Dev.liveWrite, hi, hv]

theorem Dev.commitWrite_discard : d.commitWrite n 3 = (okReply, d.setSession n { d.session n with staged := [], state := 0 }) := by
  simp [Dev.commitWrite]

theorem Dev.commitWrite_pending (h : (d.session n).state = 2) (hv : v ≠ 3) : d.commitWrite n v = (noAccess rsPENDING, d) := by
  simp [Dev.commitWrite, h, hv]

theorem Dev.commitWrite_asap (h : (d.session n).state ≠ 2) :
    d.commitWrite n 1 = (okReply, d.setSession n { d.session n with state := 2, mode := 1, commitAt := d.now + 4 }) := by
  simp [Dev.commitWrite, h]

theorem Dev.commitWrite_past (h : (d.session n).state ≠ 2) (ht : (d.session n).commitTick < d.now + 4) :
    d.commitWrite n 2 = (noRange rsPAST, d) := by
  simp [Dev.commitWrite, h, ht]

theorem Dev.commitWrite_atTick (h : (d.session n).state ≠ 2) (ht : d.now + 4 ≤ (d.session n).commitTick) :
    d.commitWrite n 2 = (okReply, d.setSession n { d.session n with state := 2, mode := 2, commitAt := (d.session n).commitTick }) := by
  simp [Dev.commitWrite, h, Nat.not_lt.mpr ht]

theorem Dev.commitApply_early (h : d.now < (d.session n).commitAt) : d.commitApply n = d := by
  simp [Dev.commitApply, h]

variable (h : (d.session n).state = 2) (ht : (d.session n).commitAt ≤ d.now)
include h ht

theorem Dev.commitApply_fails {o k : Nat} (hf : d.commitFault d.now (d.session n).staged = some (o, k)) :
    d.commitApply n = d.setSession n { d.session n with staged := [], state := 4, failObject := o, failReason := k } := by
  simp [Dev.commitApply, h, Nat.not_lt.mpr ht, hf]

theorem Dev.commitApply_applies (hf : d.commitFault d.now (d.session n).staged = none) :
    ∃ x, d.commitApply n = (d.applyStaged (d.session n).staged).setSession n x ∧ x.staged = [] ∧ x.state = 3 ∧
      x.appliedTick = d.now ∧ x.seq = min ((d.session n).seq + 1) (2 ^ 32 - 1) := by
  refine ⟨{ (d.applyStaged (d.session n).staged).session n with
    staged := [], state := 3, appliedTick := d.now, seq := min ((d.session n).seq + 1) (2 ^ 32 - 1) }, ?_, rfl, rfl, rfl, rfl⟩
  simp only [Dev.commitApply, h, hf, ne_eq, not_true_eq_false, decide_false, Bool.false_or, decide_eq_true_eq,
    if_neg (Nat.not_lt.mpr ht)]

end

theorem commit_liveRow : liveRow 0x1F00 1 1 0x1F00 1 = true := by decide +kernel
theorem forceDiscard_liveRow : liveRow 0x1F01 1 1 0x1F01 1 = true := by decide +kernel

/-- Settles O20: COMMIT and FORCE_DISCARD by the session's state, the commit's own event by its tick and its first fault. -/
theorem commits : Obligations.Commits := by
  unfold Obligations.Commits
  have hb : 0x1F00 < 0x9000 ∨ 0x9010 < 0x1F00 ∨ 0x1F00 = 0x9000 ∧ 1 < 13 := .inl (by decide)
  refine ⟨⟨fun s h n g h2 => ?_, fun s h n g h2 => ?_, fun s h n g h2 ht => ?_, fun s h n g h2 ht => ?_, fun s h n g => ?_,
    fun s h k n hk g => ?_⟩, fun s n hn hs h2 => ?_⟩
  · exact onState_wrote g commit_liveRow hb decide_eq_true fun l r hi _ => (liveWrite_commit hi).trans (Dev.commitWrite_asap h2)
  · exact onState_refused g commit_liveRow hb decide_eq_true fun l r hi _ =>
      (liveWrite_commit hi).trans (Dev.commitWrite_pending h2 (by decide))
  · exact onState_wrote g commit_liveRow hb decide_eq_true fun l r hi _ => (liveWrite_commit hi).trans (Dev.commitWrite_atTick h2 ht)
  · exact onState_refused g commit_liveRow hb decide_eq_true fun l r hi _ => (liveWrite_commit hi).trans (Dev.commitWrite_past h2 ht)
  · exact onState_wrote g commit_liveRow hb decide_eq_true fun l r hi _ => (liveWrite_commit hi).trans Dev.commitWrite_discard
  · exact onState_wrote g forceDiscard_liveRow (.inl (by decide)) decide_eq_true fun l r hi _ => liveWrite_forceDiscard hi hk
  · have hx : exec (.commitApply n) s = .next (s.setDev (s.dev.commitApply n)) := by
      have hu : exec (.commitApply n) s = onUnit (n < 64) (fun d => d.commitApply n) s := rfl
      rw [hu, onUnit_next (decide_eq_true hn) hs]
    refine ⟨fun ht => ?_, fun ht => ⟨fun o r hf => ?_, fun hf => ?_⟩⟩
    · rw [hx, Dev.commitApply_early ht]
      rfl
    · rw [hx, Dev.commitApply_fails h2 ht hf]
      refine ⟨_, rfl, s.setDev_pending _, s.setDev_sec _, ?_⟩
      rw [State.setDev_dev]
      exact ⟨rfl, fun k hk => Dev.session_setSession_ne _ _ hk, Dev.session_setSession_self _ _ _⟩
    · obtain ⟨x, hd, hst, h3, hat, hseq⟩ := Dev.commitApply_applies h2 ht hf
      rw [hx, hd]
      refine ⟨_, rfl, s.setDev_pending _, s.setDev_sec _, ?_⟩
      rw [State.setDev_dev, Dev.session_setSession_self]
      exact ⟨rfl, hst, h3, hat, hseq⟩

/-! ## Snapshots (R70) -/

theorem snapshot_liveRow : liveRow 0xA800 1 1 0xA800 1 = true := by decide +kernel
theorem clear_liveRow : liveRow 0xA800 4 1 0xA800 1 = true := by decide +kernel

section
variable {d : Dev} {n v : Nat} {r : Row} (hi : r.index = 0xA800)
include hi

theorem liveWrite_snapshot : d.liveWrite n r 0xA800 1 v = d.snapshotW n v := by
  simp [Dev.liveWrite, hi]

theorem liveWrite_clear : d.liveWrite n r 0xA800 4 1 = (okReply, { d with clearAt := d.clearAt ++ [d.now + 4] }) := by
  simp [Dev.liveWrite, hi]

end

section
variable {d : Dev} {n who : Nat} (hw : who = if d.principal n = 2 then d.get (K.SESSION_PARTITION n) else 255)
include hw

theorem Dev.snapshotW_asap : d.snapshotW n 1 = (okReply, { d with snapPend := d.snapPend ++ [(d.now + 4, who)] }) := by
  simp [Dev.snapshotW, hw]

theorem Dev.snapshotW_atTick (ht : d.now + 4 ≤ d.get K.SNAPSHOT_TICK) :
    d.snapshotW n 2 = (okReply, { d with snapPend := d.snapPend ++ [(d.get K.SNAPSHOT_TICK, who)] }) := by
  simp [Dev.snapshotW, hw, Nat.not_lt.mpr ht]

end

theorem Dev.snapshotW_past {d : Dev} {n : Nat} (ht : d.get K.SNAPSHOT_TICK < d.now + 4) : d.snapshotW n 2 = (noRange rsPAST, d) := by
  simp [Dev.snapshotW, ht]

section
variable {β : Type} [DecidableEq β] (d : β) (l : List (Nat × β)) (m : Map β) (k : Nat)

/-- Writing entries of other keys leaves a key. -/
theorem Map.get_foldl_set_none (h : ∀ e ∈ l, e.1 ≠ k) :
    Map.get (l.foldl (fun m o => Map.set m d o.1 o.2) m) d k = Map.get m d k := by
  induction l generalizing m with
  | nil => rfl
  | cons e l ih =>
    rw [List.foldl_cons, ih _ fun e he => h e (List.mem_cons_of_mem _ he)]
    exact Map.get_set_ne _ _ _ (Ne.symm (h e List.mem_cons_self))

/-- Writing entries that agree on a key leaves what they say of it, over the key's own value. -/
theorem Map.get_foldl_set_all {v : β} (h : ∀ e ∈ l, e.1 = k → e.2 = v) (hm : Map.get m d k = v ∨ (k, v) ∈ l) :
    Map.get (l.foldl (fun m o => Map.set m d o.1 o.2) m) d k = v := by
  induction l generalizing m with
  | nil => exact hm.resolve_right List.not_mem_nil
  | cons e l ih =>
    refine ih _ (fun e he => h e (List.mem_cons_of_mem _ he)) ?_
    by_cases hk : e.1 = k
    · refine .inl ?_
      rw [← hk, Map.get_set_self]
      exact h e List.mem_cons_self hk
    · refine hm.imp (fun hm => ?_) fun hm => ?_
      · rw [Map.get_set_ne _ _ _ (Ne.symm hk), hm]
      · exact (List.mem_cons.mp hm).resolve_left fun he => hk (by rw [← he])

end

/-- The snapshot of one that is due: the objects that it copies over what it held of others. -/
def Dev.snapOf (d : Dev) (who : Nat) : Map Nat :=
  (d.objs.filter (fun o => snapKey who o.1)).foldl (fun m o => Map.set m 0 o.1 o.2) (d.snap.filter (fun o => !snapKey who o.1))

theorem Dev.snapshotTake_due {d : Dev} {at' who : Nat} (h : d.snapPend = [(at', who)]) (ht : at' ≤ d.now) :
    d.snapshotTake = if who = 255 then ({ d with snapPend := [], snap := d.snapOf who } : Dev).put K.SNAPSHOT_TAKEN d.now
      else { d with snapPend := [], snap := d.snapOf who } := by
  simp [Dev.snapshotTake, h, ht, Dev.snapOf]

section
variable {d : Dev} {who k : Nat}

theorem Dev.snapOf_same (hk : snapKey who k = false) : Map.get (d.snapOf who) 0 k = Map.get d.snap 0 k := by
  unfold Dev.snapOf
  rw [Map.get_foldl_set_none _ _ _ _ fun e he hek => ?_]
  · exact Map.get_filter_of_true _ _ _ _ fun v => by simp [hk]
  · have := (List.mem_filter.mp he).2
    rw [hek, hk] at this
    cases this

variable (hk : snapKey who k = true)
include hk

theorem Dev.snapOf_listed {v : Nat} (h : (k, v) ∈ d.objs) (hall : ∀ e ∈ d.objs, e.1 = k → e.2 = v) :
    Map.get (d.snapOf who) 0 k = v :=
  Map.get_foldl_set_all _ _ _ _ (fun e he => hall e (List.mem_filter.mp he).1) (.inr (List.mem_filter.mpr ⟨h, hk⟩))

theorem Dev.snapOf_unlisted (hall : ∀ e ∈ d.objs, e.1 ≠ k) : Map.get (d.snapOf who) 0 k = 0 := by
  unfold Dev.snapOf
  rw [Map.get_foldl_set_none _ _ _ _ fun e he => hall e (List.mem_filter.mp he).1]
  exact Map.get_filter_of_false _ _ _ _ fun v => by simp [hk]

end

theorem Dev.clearApply_due {d : Dev} (h : ∃ x ∈ d.clearAt, x ≤ d.now) :
    d.clearApply = { d with clearAt := d.clearAt.filter (fun t => d.now < t),
                            objs := d.objs.filter (fun o => !(0xA000 ≤ o.1 / 256 && o.1 / 256 < 0xA200)) } := by
  have ha : d.clearAt.any (· ≤ d.now) = true := by simpa using h
  simp only [Dev.clearApply, ha, Bool.not_true, Bool.false_eq_true, if_false]

/-- Settles O21: the writes by their ticks, the copies key by key, and a clear by the range of keys that it drops. -/
theorem snapshots : Obligations.Snapshots := by
  unfold Obligations.Snapshots
  have hb (j : Nat) : 0xA800 < 0x9000 ∨ 0x9010 < 0xA800 ∨ 0xA800 = 0x9000 ∧ j < 13 := .inr (.inl (by decide))
  refine ⟨fun s h n who hw => ⟨fun g => ?_, fun g ht => ?_, fun g ht => ?_, fun g => ?_⟩, fun s at' who hs hp ht => ?take,
    fun s hs hc => ?clear⟩
  · exact onState_wrote g snapshot_liveRow (hb 1) decide_eq_true fun l r hi _ => (liveWrite_snapshot hi).trans (Dev.snapshotW_asap hw)
  · exact onState_wrote g snapshot_liveRow (hb 1) decide_eq_true fun l r hi _ =>
      (liveWrite_snapshot hi).trans (Dev.snapshotW_atTick hw ht)
  · exact onState_refused g snapshot_liveRow (hb 1) decide_eq_true fun l r hi _ =>
      (liveWrite_snapshot hi).trans (Dev.snapshotW_past ht)
  · exact onState_wrote g clear_liveRow (hb 4) decide_eq_true fun l r hi _ => liveWrite_clear hi
  case take =>
    have hx : exec .snapshotTake s = .next (s.setDev s.dev.snapshotTake) := onDev_next hs
    have keys (e : Dev) (he : e.snap = s.dev.snapOf who) :
        (∀ k v, snapKey who k = true → v ≠ 0 → (k, v) ∈ s.dev.objs → (∀ e ∈ s.dev.objs, e.1 = k → e.2 = v) → Map.get e.snap 0 k = v) ∧
        (∀ k, snapKey who k = true → (∀ e ∈ s.dev.objs, e.1 ≠ k) → Map.get e.snap 0 k = 0) ∧
        (∀ k, snapKey who k = false → Map.get e.snap 0 k = Map.get s.dev.snap 0 k) := by
      rw [he]
      exact ⟨fun k v hk _ => Dev.snapOf_listed hk, fun k hk => Dev.snapOf_unlisted hk, fun k => Dev.snapOf_same⟩
    rw [hx, Dev.snapshotTake_due hp ht]
    refine ⟨_, rfl, s.setDev_pending _, s.setDev_sec _, ?_⟩
    rw [State.setDev_dev]
    by_cases h255 : who = 255
    · rw [if_pos h255]
      exact ⟨rfl, fun _ => Dev.get_put_self _ _ _, fun h => absurd h255 h, fun o ho => Dev.get_put_ne _ _ ho, keys _ rfl⟩
    · rw [if_neg h255]
      exact ⟨rfl, fun h => absurd h h255, fun _ => rfl, fun o _ => rfl, keys _ rfl⟩
  case clear =>
    have hx : exec .clearApply s = .next (s.setDev s.dev.clearApply) := onDev_next hs
    rw [hx, Dev.clearApply_due hc]
    refine ⟨_, rfl, s.setDev_pending _, s.setDev_sec _, ?_⟩
    rw [State.setDev_dev]
    refine ⟨rfl, fun o => ?_⟩
    split
    next h => exact Map.get_filter_of_false _ _ _ _ fun v => by simp [h]
    next h =>
      have hk : (0xA000 ≤ o.key / 256 && o.key / 256 < 0xA200) = false := by simpa using h
      exact Map.get_filter_of_true _ _ _ _ fun v => by simp only [hk, Bool.not_false]

end Sys2Proof.Machine
end

section
/-! Proofs: the live writes that act on a partition, a core or the device (R46), and what some of them leave. -/
namespace Sys2Proof.Machine

/-! ## Partitions (R306, R311) -/

theorem resolve_liveRow : ∀ p, p < 16 → liveRow (0x2300 + p) 20 1 0x2300 1 = true := by decide +kernel
theorem jobDamaged_liveRow : ∀ p, p < 16 → liveRow (0x2300 + p) 21 1 0x2300 1 = true := by decide +kernel

section
variable {d : Dev} {n p v : Nat} {r : Row} (hi : r.index = 0x2300) (hst : r.stride = 1) (hp : p < 16)
include hi hst hp

theorem liveWrite_resolve : d.liveWrite n r (0x2300 + p) 20 v =
    if d.get (K.DECISION p) ≠ 3 then (noRange rsVALUE, d)
    else (okReply, if v = 1 then d.resolveCommit p else d.resolveAbandon p v) := by
  have hu := liveWrite_unit hi hst Nat.one_pos p
  rw [Nat.one_mul] at hu
  unfold Dev.liveWrite
  dsimp only
  rw [notSnapArea (by omega), hu, hi]
  rfl

theorem liveWrite_jobDamaged : d.liveWrite n r (0x2300 + p) 21 v =
    if d.get (K.SCHED_STATE p) ≠ 4 then (noAccess rsACTIVE, d) else (okReply, d.put (K.JOB_DAMAGED p) 0) := by
  have hu := liveWrite_unit hi hst Nat.one_pos p
  rw [Nat.one_mul] at hu
  unfold Dev.liveWrite
  dsimp only
  rw [notSnapArea (by omega), hu, hi]
  rfl

theorem liveWrite_resolve_settled (h : d.get (K.DECISION p) ≠ 3) : d.liveWrite n r (0x2300 + p) 20 v = (noRange rsVALUE, d) :=
  (liveWrite_resolve hi hst hp).trans (if_pos h)

theorem liveWrite_resolve_commits (h : d.get (K.DECISION p) = 3) : d.liveWrite n r (0x2300 + p) 20 1 =
    (okReply, (((d.put (K.DECISION p) 4).put (K.DECISION_CAUSE p) 0).adjustScale p false true).1.ledgerClose p (d.get (K.ATTEMPT p))) := by
  have ha : ((d.put (K.DECISION p) 4).put (K.DECISION_CAUSE p) 0).get (K.ATTEMPT p) = d.get (K.ATTEMPT p) := by
    rw [Dev.get_put_ne _ _ (by simp only [K.ATTEMPT, K.DECISION_CAUSE]; omega),
      Dev.get_put_ne _ _ (by simp only [K.ATTEMPT, K.DECISION]; omega)]
  rw [liveWrite_resolve hi hst hp, if_neg (not_not.mpr h), if_pos rfl, Dev.resolveCommit, if_neg (not_not.mpr h)]
  dsimp only
  rw [ha]

theorem liveWrite_resolve_abandons (h : d.get (K.DECISION p) = 3) (hv : v ≠ 1) :
    d.liveWrite n r (0x2300 + p) 20 v = (okReply, d.resolveAbandon p v) := by
  rw [liveWrite_resolve hi hst hp, if_neg (not_not.mpr h), if_neg hv]

end

/-- Settles O22: by the decision in doubt, and by the suspension. -/
theorem partitionWrites : Obligations.PartitionWrites := by
  unfold Obligations.PartitionWrites
  intro s h p n hp
  have hb (j : Nat) : 0x2300 < 0x9000 ∨ 0x9010 < 0x2300 ∨ 0x2300 = 0x9000 ∧ j < 13 := .inl (by decide)
  have hok (hh : h.port < 66) : (h.port < 66 && p < 16) = true := by simp [hh, hp]
  have commit : exec (.resolveCommit h p) s =
      onState (h.port < 66 && p < 16) (fun s => s.serveWrite h (0x2300 + p) 20 1 1) s := rfl
  have abandon (v : Nat) : exec (.resolveAbandon h p v) s =
      onState (h.port < 66 && p < 16) (fun s => s.serveWrite h (0x2300 + p) 20 1 v) s := rfl
  have damaged : exec (.jobDamaged h p) s =
      onState (h.port < 66 && p < 16) (fun s => s.serveWrite h (0x2300 + p) 21 1 0) s := rfl
  refine ⟨fun g h3 => ?_, fun g h3 => ?_, fun v h2 _ g h3 => ?_, fun v h2 _ g h3 => ?_, fun g h4 => ?_, fun g h4 => ?_⟩
  · exact commit.trans (onState_wrote g (resolve_liveRow p hp) (hb _) hok fun l r hi hst => liveWrite_resolve_commits hi hst hp h3)
  · exact commit.trans (onState_refused g (resolve_liveRow p hp) (hb _) hok fun l r hi hst => liveWrite_resolve_settled hi hst hp h3)
  · exact (abandon v).trans (onState_wrote g (resolve_liveRow p hp) (hb _) hok fun l r hi hst =>
      liveWrite_resolve_abandons hi hst hp h3 (by omega))
  · exact (abandon v).trans (onState_refused g (resolve_liveRow p hp) (hb _) hok fun l r hi hst =>
      liveWrite_resolve_settled hi hst hp h3)
  · exact damaged.trans (onState_wrote g (jobDamaged_liveRow p hp) (hb _) hok fun l r hi hst =>
      (liveWrite_jobDamaged hi hst hp).trans (if_neg (not_not.mpr h4)))
  · exact damaged.trans (onState_refused g (jobDamaged_liveRow p hp) (hb _) hok fun l r hi hst =>
      (liveWrite_jobDamaged hi hst hp).trans (if_pos h4))

/-! ## Cores (R247, R438, R474, R497) -/

theorem zeroise_liveRow : ∀ c, c < 64 → liveRow (0x3016 + 0x40 * c) 3 1 0x3016 0x40 = true := by decide +kernel
theorem pwrWait_liveRow : ∀ c, c < 64 → liveRow (0x301B + 0x40 * c) 2 1 0x301B 0x40 = true := by decide +kernel
theorem coreClass_liveRow : ∀ c, c < 64 → liveRow (0x301C + 0x40 * c) 4 1 0x301C 0x40 = true := by decide +kernel
theorem blkReset_liveRow : ∀ c, c < 64 → liveRow (0x301D + 0x40 * c) 1 1 0x301D 0x40 = true := by decide +kernel

section
variable {d : Dev} {n c v : Nat} {r : Row} (hst : r.stride = 0x40) (hc : c < 64)
include hst hc

theorem liveWrite_zeroise (hi : r.index = 0x3016) : d.liveWrite n r (0x3016 + 0x40 * c) 3 v =
    if d.coreState c = 2 then (noAccess rsACTIVE, d) else (okReply, if v = 1 then d.zeroise c else d) := by
  unfold Dev.liveWrite
  dsimp only
  rw [notSnapArea (by omega), liveWrite_unit hi hst (by decide) c, hi]
  rfl

theorem liveWrite_pwrWait (hi : r.index = 0x301B) : d.liveWrite n r (0x301B + 0x40 * c) 2 v =
    (okReply, if v = 1 then d.pwrWaitSet c else d.pwrWaitCancel c) := by
  unfold Dev.liveWrite
  dsimp only
  rw [notSnapArea (by omega), liveWrite_unit hi hst (by decide) c, hi]
  rfl

theorem liveWrite_coreClass (hi : r.index = 0x301C) : d.liveWrite n r (0x301C + 0x40 * c) 4 v = (okReply, d.coreClass c v) := by
  unfold Dev.liveWrite
  dsimp only
  rw [notSnapArea (by omega), liveWrite_unit hi hst (by decide) c, hi]
  rfl

theorem liveWrite_blkReset (hi : r.index = 0x301D) : d.liveWrite n r (0x301D + 0x40 * c) 1 v =
    if d.coreState c = 2 then (noAccess rsACTIVE, d) else (okReply, d.blkReset c v) := by
  unfold Dev.liveWrite
  dsimp only
  rw [notSnapArea (by omega), liveWrite_unit hi hst (by decide) c, hi]
  rfl

end

/-- The depth of a core's domain does not hang on the links: no port votes on it (R435). -/
theorem Dev.domDepth_withLinks (d : Dev) (l : Map Link) {c : Nat} (hc : c < 64) : (d.withLinks l).domDepth c = d.domDepth c := by
  have hv (e : Dev) (j : Nat) : e.portVote c j = 0xFF := if_pos (by omega)
  have h76 : c ≠ 76 := by omega
  have votes : (d.withLinks l).votes c = d.votes c := by
    unfold Dev.votes
    rw [funext (hv (d.withLinks l)), funext (hv d)]
    rfl
  have auto : (d.withLinks l).subAuto c = d.subAuto c := by
    unfold Dev.subAuto
    rw [if_pos hc, if_pos hc]
    rfl
  simp only [Dev.domDepth, Dev.subDepth, if_pos h76, votes, auto]
  rfl

/-- What a zeroisation leaves of a core: its scratchpads, queues and length register are empty (R246, R247). -/
theorem Dev.zeroise_core (d : Dev) (c : Nat) : ∃ till, (d.zeroise c).core c = { d.core c with
    sp := [], poison := [], once := [], flaw := [], crcOff := [], resident := [], dirty := [], hq := [], vlen := 0, src := [],
    scrubLine := [], scrubAt := [], zeroTill := till } := ⟨_, d.core_setCore_self c _⟩

theorem Dev.zeroise_core_ne (d : Dev) {c k : Nat} (h : k ≠ c) : (d.zeroise c).core k = d.core k := d.core_setCore_ne _ h

theorem Dev.zeroise_count (d : Dev) (c : Nat) : (d.zeroise c).get (K.ZEROISE_COUNT c) = addSat 64 (d.get (K.ZEROISE_COUNT c)) 1 := by
  unfold Dev.zeroise
  exact Dev.get_put_self _ _ _

/-- A candidate event of class 1: its count, its tick and its class, with a record and no fence (R473, R474). -/
theorem Dev.coreClass_transient (d : Dev) {c : Nat} (hc : c < 64) :
    (d.coreClass c 1).get (K.CAND_COUNT c) = addSat 16 (d.get (K.CAND_COUNT c)) 1 ∧ (d.coreClass c 1).get (K.CAND_TICK c) = d.now ∧
      (d.coreClass c 1).get (K.LAST_CLASS c) = 1 ∧ (d.coreClass c 1).get K.FENCE_MASK = d.get K.FENCE_MASK := by
  have hx : d.coreClass c 1 = ((d.candidate c 0).put (K.LAST_CLASS c) 1).coreRecord c 4 1 0 := rfl
  have kept (o : Obj) (ho : ¬recordKey o.key) : (d.coreClass c 1).get o = ((d.candidate c 0).put (K.LAST_CLASS c) 1).get o := by
    rw [hx]
    exact Dev.file_objs _ _ o ho
  simp only [Dev.candidate, Dev.bump] at kept
  refine ⟨?_, ?_, ?_, ?_⟩
  · rw [kept _ (by simp only [recordKey, K.CAND_COUNT]; omega), Dev.get_put_ne _ _ (by simp only [K.CAND_COUNT, K.LAST_CLASS]; omega),
      Dev.get_put_ne _ _ (by simp only [K.CAND_COUNT, K.CAND_TICK]; omega),
      Dev.get_put_ne _ _ (by simp only [K.CAND_COUNT, K.REPRO_COUNT]; omega), Dev.get_put_self]
  · rw [kept _ (by simp only [recordKey, K.CAND_TICK]; omega), Dev.get_put_ne _ _ (by simp only [K.CAND_TICK, K.LAST_CLASS]; omega),
      Dev.get_put_self]
  · rw [kept _ (by simp only [recordKey, K.LAST_CLASS]; omega), Dev.get_put_self]
  · rw [kept _ (by simp only [recordKey, K.FENCE_MASK]; omega), Dev.get_put_ne _ _ (by simp only [K.FENCE_MASK, K.LAST_CLASS]; omega),
      Dev.get_put_ne _ _ (by simp only [K.FENCE_MASK, K.CAND_TICK]; omega),
      Dev.get_put_ne _ _ (by simp only [K.FENCE_MASK, K.REPRO_COUNT]; omega),
      Dev.get_put_ne _ _ (by simp only [K.FENCE_MASK, K.CAND_COUNT]; omega)]

/-- Settles O23: by the core's state and the wait for an entry, with what a zeroisation and a candidate event leave. -/
theorem coreWrites : Obligations.CoreWrites := by
  unfold Obligations.CoreWrites
  refine ⟨fun s h c n hc => ?writes, fun d c hc => ?leaves⟩
  case writes =>
    have hb {base j : Nat} (h : base < 0x9000) : base < 0x9000 ∨ 0x9010 < base ∨ base = 0x9000 ∧ j < 13 := .inl h
    have hok (hh : h.port < 66) : (h.port < 66 && c < 64) = true := by simp [hh, hc]
    have zeroise : exec (.zeroise h c) s =
        onState (h.port < 66 && c < 64) (fun s => s.serveWrite h (0x3016 + 0x40 * c) 3 1 1) s := rfl
    have set : exec (.pwrWaitSet h c) s =
        onState (h.port < 66 && c < 64) (fun s => s.serveWrite h (0x301B + 0x40 * c) 2 1 1) s := rfl
    have cancel : exec (.pwrWaitCancel h c) s =
        onState (h.port < 66 && c < 64) (fun s => s.serveWrite h (0x301B + 0x40 * c) 2 1 0) s := rfl
    have cls (v : Nat) : exec (.coreClass h c v) s =
        onState (h.port < 66 && c < 64) (fun s => s.serveWrite h (0x301C + 0x40 * c) 4 1 v) s := rfl
    have reset (v : Nat) : exec (.blkReset h c v) s =
        onState (h.port < 66 && c < 64) (fun s => s.serveWrite h (0x301D + 0x40 * c) 1 1 v) s := rfl
    refine ⟨fun g h2 => ?_, fun g h2 => ?_, fun g hd h2 => ?_, fun g hd => ?_, fun g => ?_, fun v g _ _ => ?_, fun v _ g h2 => ?_,
      fun v _ g h2 => ?_⟩
    · exact zeroise.trans (onState_wrote g (zeroise_liveRow c hc) (hb (by decide)) hok fun l r hi hst =>
        (liveWrite_zeroise hst hc hi).trans (if_neg h2))
    · exact zeroise.trans (onState_refused g (zeroise_liveRow c hc) (hb (by decide)) hok fun l r hi hst =>
        (liveWrite_zeroise hst hc hi).trans (if_pos h2))
    · refine set.trans (onState_wrote g (pwrWait_liveRow c hc) (hb (by decide)) hok fun l r hi hst => ?_)
      rw [liveWrite_pwrWait hst hc hi, if_pos rfl, Dev.pwrWaitSet, Dev.domDepth_withLinks _ _ hc]
      have hno : (s.dev.domDepth c = 0 || s.dev.get (K.PWR_WAIT c) = 2) = false := by simp [hd, h2]
      exact congrArg (Prod.mk okReply) (if_neg (Bool.eq_false_iff.mp hno))
    · refine set.trans (onState_wrote g (pwrWait_liveRow c hc) (hb (by decide)) hok fun l r hi hst => ?_)
      rw [liveWrite_pwrWait hst hc hi, if_pos rfl, Dev.pwrWaitSet, Dev.domDepth_withLinks _ _ hc, hd]
      rfl
    · exact cancel.trans (onState_wrote g (pwrWait_liveRow c hc) (hb (by decide)) hok fun l r hi hst =>
        liveWrite_pwrWait hst hc hi)
    · exact (cls v).trans (onState_wrote g (coreClass_liveRow c hc) (hb (by decide)) hok fun l r hi hst =>
        liveWrite_coreClass hst hc hi)
    · exact (reset v).trans (onState_wrote g (blkReset_liveRow c hc) (hb (by decide)) hok fun l r hi hst =>
        (liveWrite_blkReset hst hc hi).trans (if_neg h2))
    · exact (reset v).trans (onState_refused g (blkReset_liveRow c hc) (hb (by decide)) hok fun l r hi hst =>
        (liveWrite_blkReset hst hc hi).trans (if_pos h2))
  case leaves =>
    obtain ⟨till, hz⟩ := d.zeroise_core c
    rw [hz]
    exact ⟨fun m o => ⟨rfl, rfl⟩, fun q => rfl, rfl, rfl, fun k hk => d.zeroise_core_ne hk, rfl, d.zeroise_count c, d.coreClass_transient hc⟩

end Sys2Proof.Machine
end

section
/-! Proofs: the debug level and sanitisation (R512, R513). -/
namespace Sys2Proof.Machine

/-! ## A read of DBG_CHALLENGE -/

/-- Outside a tenant's core range the object found has its index and sub-index as its key. -/
theorem find_key {d : Dev} {n ix sub : Nat} {w : Bool} {t : Target} (h : d.find n ix sub w = .ok t) (hx : 0x4000 ≤ ix) :
    t.key = ix * 256 + sub := by
  have ht : d.target n ix sub = some t := by
    unfold Dev.find at h
    split at h
    · cases h
    next t' ht =>
      extract_lets r at h
      by_cases h1 : (!if w = true then r.writes else r.reads) = true
      · rw [if_pos h1] at h
        cases h
      rw [if_neg h1] at h
      by_cases h2 : (d.principal n = 2 && t'.row.own && d.foreign (d.get (K.SESSION_PARTITION n)) ix sub) = true
      · rw [if_pos h2] at h
        cases h
      rw [if_neg h2] at h
      by_cases h3 : (w && d.principal n = 2 && t'.row.index = 0x7100 && !d.mayVote (d.get (K.SESSION_PARTITION n)) (ix - 0x7100)) = true
      · rw [if_pos h3] at h
        cases h
      rw [if_neg h3] at h
      cases h
      exact ht
  have hno : ¬(d.principal n = 2 && 0x3000 ≤ ix && ix < 0x4000) = true := by
    simp only [Bool.and_eq_true, decide_eq_true_eq]
    omega
  unfold Dev.target at ht
  rw [if_neg hno] at ht
  obtain ⟨r, -, rfl⟩ := Option.map_eq_some_iff.mp ht
  rfl

theorem readReq_challenge {s : State} {n : Nat} {q : Req} {t : Target} (hf : s.dev.find n q.index q.sub false = .ok t)
    (hi : q.index = 0x9000) (hs : q.sub = 12) :
    ∃ v, s.readReq n q false = (okData (toLE 32 v), { s with
      sec := { s.sec with challenge := v }, dev := { s.dev with free := s.dev.free + 1 } }) := by
  have hkey : t.key = K.DBG_CHALLENGE.key := by
    rw [find_key hf (by omega), hi, hs]
    rfl
  have hrow : t.row.type.bytes = some 32 := by
    have hr := find_row hf
    rw [hi, hs] at hr
    have hb : (rowOf 0x9000 12).map (fun r => r.type.bytes) = some (some 32) := by decide +kernel
    rw [hr] at hb
    exact Option.some.inj hb
  refine ⟨(s.dev.draw 256).1, ?_⟩
  simp only [State.readReq, hf, hrow, hkey]
  rfl

/-! ## DBG_REQUEST, DBG_RESPONSE and SANITISE -/

theorem dbgRequest_liveRow : liveRow 0x9000 13 1 0x9000 1 = true := by decide +kernel
theorem dbgResponse_liveRow : liveRow 0x9000 14 64 0x9000 1 = true := by decide +kernel
theorem sanitise_liveRow : liveRow 0x9000 15 1 0x9000 1 = true := by decide +kernel

section
variable {s : State} {n v : Nat} {r : Row} (hi : r.index = 0x9000)
include hi

theorem liveWrite_dbgRequest (hv : v ≠ 0) :
    s.liveWrite n r 0x9000 13 v = (okReply, { s with sec := { s.sec with dbgWant := v } }) := by
  simp [State.liveWrite, hi, State.dbgRequestW, hv]

theorem liveWrite_dbgLock : s.liveWrite n r 0x9000 13 0 =
    (okReply, { s with sec := { s.sec with dbgWant := 0, pendingFull := false }, dev := s.dev.setDebug 0 }) := by
  simp [State.liveWrite, hi, State.dbgRequestW]

theorem liveWrite_dbgResponse : s.liveWrite n r 0x9000 14 v = (okReply, s.dbgResponseW v) := by
  simp [State.liveWrite, hi]

theorem liveWrite_sanitise : s.liveWrite n r 0x9000 15 v = (okReply, s.sanitiseW) := by
  simp [State.liveWrite, hi]

end

section
variable {s : State} {g : Nat}

theorem dbgResponse_unasked (h : s.sec.dbgWant = 0) : s.dbgResponseW g = s.setDev (s.dev.bootRecord 9 0 0) := by
  simp [State.dbgResponseW, h, State.setDev]

variable {msg : List Nat} (hm : msg = toLE 32 s.sec.challenge ++ toLE 32 (s.dev.get K.DEVICE_ID) ++ [s.sec.dbgWant])
include hm

theorem dbgResponse_test (h : s.sec.dbgWant = 1) (hg : Config.sm2Verify (Config.romKey 2) msg g = true) :
    s.dbgResponseW g = { s with sec := { s.sec with pendingFull := false }, dev := s.dev.setDebug 1 } := by
  subst hm
  rw [h] at hg
  simp [State.dbgResponseW, h, hg, -List.append_assoc]

theorem dbgResponse_full (h : 2 ≤ s.sec.dbgWant) (hg : Config.sm2Verify (Config.romKey 2) msg g = true) :
    s.dbgResponseW g = { s with sec := { s.sec with pendingFull := true }, dev := s.dev.releaseAll } := by
  subst hm
  have h0 : s.sec.dbgWant ≠ 0 := by omega
  have h1 : s.sec.dbgWant ≠ 1 := by omega
  simp only [State.dbgResponseW, hg, h0, h1, ne_eq, not_false_eq_true, decide_true, Bool.true_or, Bool.and_self, Bool.not_true,
    Bool.false_eq_true, if_false]

theorem dbgResponse_bad (hg : Config.sm2Verify (Config.romKey 2) msg g = false)
    (hk : s.sec.dbgWant ≠ 1 ∨ s.dev.get K.DEBUG_KEY = 0 ∨ Config.sm2Verify (s.dev.get K.DEBUG_KEY) msg g = false) :
    s.dbgResponseW g = s.setDev (s.dev.bootRecord 9 0 0) := by
  subst hm
  have hbad : (s.sec.dbgWant == 1 && s.dev.get K.DEBUG_KEY != 0 && Config.sm2Verify (s.dev.get K.DEBUG_KEY)
      (toLE 32 s.sec.challenge ++ toLE 32 (s.dev.get K.DEVICE_ID) ++ [s.sec.dbgWant]) g) = false := by
    rcases hk with h | h | h <;> simp [h, -List.append_assoc]
  simp only [State.dbgResponseW, hg, hbad, Bool.or_false, Bool.and_false, Bool.not_false, if_true]
  rfl

end

theorem Dev.setDebug_raised (d : Dev) {v : Nat} (hv : v ≠ 0) : (d.setDebug v).get K.DEBUG_LEVEL = v := by
  have hx : d.setDebug v = if d.get K.DEBUG_LEVEL = v then d.put K.DEBUG_LEVEL v else (d.put K.DEBUG_LEVEL v).bootRecord 8 v 0 := by
    simp only [Dev.setDebug, if_neg hv]
  rw [hx]
  split
  · exact Dev.get_put_self _ _ _
  · exact (Dev.file_objs _ _ K.DEBUG_LEVEL (by simp only [recordKey, K.DEBUG_LEVEL]; omega)).trans (Dev.get_put_self _ _ _)

/-- The events that follow once every partition is gone. -/
theorem debugFullEnter_waits {s : State} (h : s.dev.allReleased = false) : s.debugFullEnter = s := by
  simp [State.debugFullEnter, h]

theorem debugFullEnter_enters {s : State} (hp : s.sec.pendingFull = true) (h : s.dev.allReleased = true) :
    s.debugFullEnter = { s with sec := { s.sec with pendingFull := false }, dev := (s.dev.setDebug 2).put K.DEBUGGED 1 } := by
  simp [State.debugFullEnter, hp, h]

theorem sanitiseComplete_waits {s : State} (h : s.dev.allReleased = false) : s.sanitiseComplete = s := by
  simp [State.sanitiseComplete, h]

theorem sanitiseComplete_ends {s : State} (hp : s.sec.sanitising = true) (h : s.dev.allReleased = true) :
    s.sanitiseComplete = { s with sec := { s.sec with sanitising := false }, dev := s.dev.file (bootRec 0xD s.dev.bootStep 0 0 0x7000) } := by
  simp [State.sanitiseComplete, hp, h, Dev.bootRecord]

/-- Settles O25: the requests and responses by the request's level and the keys that verify, the ends by what is released. -/
theorem debugAndSanitise : Obligations.DebugAndSanitise := by
  unfold Obligations.DebugAndSanitise
  refine ⟨fun s h n => ⟨fun q hq t ha hf => ?_, fun v hv h0 g => ?_, fun g => ?_, fun g msg gr hm h1 hg => ?_,
    fun g msg gr hm h2 hg => ?_, fun g gr h0 => ?_, fun g msg gr hm _ hg hk => ?_, fun hs hp hr => ?_, fun hs hp hr => ?_⟩,
    fun s h n => ⟨fun g => ?_, fun hs hp hr => ?_, fun hs hp hr => ?_⟩⟩
  · have hx : exec (.dbgChallenge h) s = onState (h.port < 66) (fun s => s.serve opREAD q) s := by rw [hq]; rfl
    have hi : q.index = 0x9000 := by rw [hq]
    have hsub : q.sub = 12 := by rw [hq]
    have hport : q.hdr.port < 66 → decide (h.port < 66) = true := by rw [hq]; exact decide_eq_true
    obtain ⟨v, hv⟩ := readReq_challenge (s := s.taken opREAD q) (n := n) (q := q) (t := t) (by rw [hi, hsub]; exact hf) hi hsub
    refine ⟨v, hx.trans (onState_serve ha.reaches hport ?_)⟩
    rw [perform_read _ _ _ ha.taken_open ha.taken_version, hv]
  · exact onState_write g dbgRequest_liveRow decide_eq_true fun x r _ hi _ => liveWrite_dbgRequest hi h0
  · exact onState_write g dbgRequest_liveRow decide_eq_true fun x r _ hi _ => liveWrite_dbgLock hi
  · refine onState_write gr dbgResponse_liveRow decide_eq_true fun x r hx hi _ => (liveWrite_dbgResponse hi).trans ?_
    subst hx
    exact congrArg (Prod.mk okReply) (dbgResponse_test (by rw [taken_sec, taken_get]; exact hm) h1 hg)
  · refine onState_write gr dbgResponse_liveRow decide_eq_true fun x r hx hi _ => (liveWrite_dbgResponse hi).trans ?_
    subst hx
    exact congrArg (Prod.mk okReply) (dbgResponse_full (by rw [taken_sec, taken_get]; exact hm) h2 hg)
  · refine onState_write gr dbgResponse_liveRow decide_eq_true fun x r hx hi _ => (liveWrite_dbgResponse hi).trans ?_
    subst hx
    exact congrArg (Prod.mk okReply) (dbgResponse_unasked h0)
  · refine onState_write gr dbgResponse_liveRow decide_eq_true fun x r hx hi _ => (liveWrite_dbgResponse hi).trans ?_
    subst hx
    exact congrArg (Prod.mk okReply) (dbgResponse_bad (by rw [taken_sec, taken_get]; exact hm) hg (by rwa [taken_sec, taken_get]))
  · have hx : exec .debugFullEnter s = .next s.debugFullEnter := onState_next rfl hs
    rw [hx, debugFullEnter_enters hp hr]
    refine ⟨_, rfl, rfl, ?_, Dev.get_put_self _ _ _, rfl⟩
    exact (Dev.get_put_ne _ _ (by decide)).trans (Dev.setDebug_raised _ (by decide))
  · have hx : exec .debugFullEnter s = .next s.debugFullEnter := onState_next rfl hs
    rw [hx, debugFullEnter_waits hr]
  · refine onState_write g sanitise_liveRow decide_eq_true fun x r _ hi _ => (liveWrite_sanitise hi).trans ?_
    rfl
  · have hx : exec .sanitiseComplete s = .next s.sanitiseComplete := onState_next rfl hs
    rw [hx, sanitiseComplete_ends hp hr]
  · have hx : exec .sanitiseComplete s = .next s.sanitiseComplete := onState_next rfl hs
    rw [hx, sanitiseComplete_waits hr]

end Sys2Proof.Machine
end

section
/-! Proofs: what completions and their records leave. They move counters, positions of rings, marks of wakes and the partition's own
tallies; an object of the device's roster, of a core's owner or of its classification stands, as do the switches and the time. -/
namespace Sys2Proof.Machine

/-- Objects that a completion may move: records and wakes; the counters of lookups and stains; ring positions; an engine's tallies; an
attempt's LATE_COUNT and a job's JOB_DAMAGED. -/
inductive tallyKey : Nat → Prop
  | record {k : Nat} (h : recordKey k) : tallyKey k
  | wake (x : Nat) : tallyKey (K.DOM_LAST_WAKE x).key
  | hit (q : Nat) : tallyKey (K.SC_HITS q).key
  | miss (q : Nat) : tallyKey (K.SC_MISSES q).key
  | writeback (q : Nat) : tallyKey (K.SC_WRITEBACKS q).key
  | stain {s : Nat} (h : s < 16) : tallyKey (K.STAIN_APPLIED s).key
  | coreRing {c i : Nat} (hc : c < 64) (hi : i < 4) : tallyKey (K.RING_POS c i).key
  | passes {c : Nat} (hc : c < 64) : tallyKey (K.MXA_PASSES c).key
  | loads {c : Nat} (hc : c < 64) : tallyKey (K.SPL_LOADS c).key
  | refused {c : Nat} (hc : c < 64) : tallyKey (K.SPL_REFUSED c).key
  | beats {c : Nat} (hc : c < 64) : tallyKey (K.VX_BEATS c).key
  | uops {c : Nat} (hc : c < 64) : tallyKey (K.VX_UOPS c).key
  | special {c : Nat} (hc : c < 64) : tallyKey (K.VX_SPECIAL c).key
  | eccNan {c : Nat} (hc : c < 64) : tallyKey (K.VX_ECC_NAN c).key
  | corrected {c : Nat} (hc : c < 64) : tallyKey (K.SP_CORRECTED c).key
  | uncorr {c : Nat} (hc : c < 64) : tallyKey (K.SP_UNCORR c).key
  | syndrome {c : Nat} (hc : c < 64) : tallyKey (K.LAST_SYNDROME c).key
  | discarded {c : Nat} (hc : c < 64) : tallyKey (K.RA_DISCARDED c).key
  | late {p : Nat} (hp : p < 16) : tallyKey (K.LATE_COUNT p).key
  | damaged {p : Nat} (hp : p < 16) : tallyKey (K.JOB_DAMAGED p).key
  | upPart {n : Nat} (hn : n < 64) : tallyKey (K.UP_LAST_PART n).key
  | upRing {p : Nat} (hp : p < 16) : tallyKey (K.UP_RING_POS p).key
  | rdRing {p : Nat} (hp : p < 16) : tallyKey (K.RD_RING_POS p).key
  | count {i s : Nat} (hi : i < 0x210) (hs : s < 256) : tallyKey ((0xA000 + i) * 256 + s)

theorem tallyKey_of_record {k : Nat} (h : recordKey k) : tallyKey k := .record h

/-- Where these objects lie, by index and sub-index. -/
def tallyShape (k : Nat) : Prop :=
  recordKey k ∨ (0x710000 ≤ k ∧ k % 256 = 6) ∨ (0x406000 ≤ k ∧ 0x13 ≤ k % 256 ∧ k % 256 ≤ 0x15) ∨ (0xE01000 ≤ k ∧ k < 0xE02000 ∧ k % 256 = 9) ∨
  (0x300000 ≤ k ∧ k < 0x400000 ∧ ((k / 256 % 64 = 8 ∧ k % 256 ≤ 4) ∨ (k / 256 % 64 = 0x10 ∧ k % 256 = 1) ∨ (k / 256 % 64 = 0x12 ∧ k % 256 ≤ 2) ∨
    (k / 256 % 64 = 0x13 ∧ 3 ≤ k % 256 ∧ k % 256 ≤ 6) ∨ (k / 256 % 64 = 0x14 ∧ (k % 256 ≤ 2 ∨ k % 256 = 7)) ∨
    (k / 256 % 64 = 0x17 ∧ k % 256 = 7))) ∨
  (0x210000 ≤ k ∧ k < 0x211000 ∧ k % 256 = 15) ∨ (0x230000 ≤ k ∧ k < 0x231000 ∧ k % 256 = 0x15) ∨
  (0x410000 ≤ k ∧ k < 0x414000 ∧ k % 256 = 6) ∨ (0x414000 ≤ k ∧ k < 0x415000 ∧ k % 256 = 0x16) ∨
  (0x514000 ≤ k ∧ k < 0x515000 ∧ k % 256 = 7) ∨ (0xA00000 ≤ k ∧ k < 0xA21000)

theorem tallyShape_of_core {k c i s : Nat} (hc : c < 64) (hk : k = (0x3000 + i + c * 0x40) * 256 + s) (hs : s < 256)
    (h : (i = 8 ∧ s ≤ 4) ∨ (i = 0x10 ∧ s = 1) ∨ (i = 0x12 ∧ s ≤ 2) ∨ (i = 0x13 ∧ 3 ≤ s ∧ s ≤ 6) ∨ (i = 0x14 ∧ (s ≤ 2 ∨ s = 7)) ∨
      (i = 0x17 ∧ s = 7)) : tallyShape k := by
  have hi : i < 64 := by omega
  have h1 : k / 256 % 64 = i := by omega
  have h2 : k % 256 = s := by omega
  refine .inr (.inr (.inr (.inr (.inl ⟨by omega, by omega, ?_⟩))))
  rwa [h1, h2]

theorem tallyShape_of_key {k : Nat} (h : tallyKey k) : tallyShape k := by
  cases h with
  | record h => exact .inl h
  | wake x => exact .inr (.inl (by simp only [K.DOM_LAST_WAKE]; omega))
  | hit q => exact .inr (.inr (.inl (by simp only [K.SC_HITS]; omega)))
  | miss q => exact .inr (.inr (.inl (by simp only [K.SC_MISSES]; omega)))
  | writeback q => exact .inr (.inr (.inl (by simp only [K.SC_WRITEBACKS]; omega)))
  | stain h => exact .inr (.inr (.inr (.inl (by simp only [K.STAIN_APPLIED]; omega))))
  | coreRing hc hi => exact tallyShape_of_core (i := 8) hc rfl (by omega) (by omega)
  | passes hc => exact tallyShape_of_core (i := 0x10) hc rfl (by decide) (by omega)
  | loads hc => exact tallyShape_of_core (i := 0x12) hc rfl (by decide) (by omega)
  | refused hc => exact tallyShape_of_core (i := 0x12) hc rfl (by decide) (by omega)
  | beats hc => exact tallyShape_of_core (i := 0x13) hc rfl (by decide) (by omega)
  | uops hc => exact tallyShape_of_core (i := 0x13) hc rfl (by decide) (by omega)
  | special hc => exact tallyShape_of_core (i := 0x13) hc rfl (by decide) (by omega)
  | eccNan hc => exact tallyShape_of_core (i := 0x13) hc rfl (by decide) (by omega)
  | corrected hc => exact tallyShape_of_core (i := 0x14) hc rfl (by decide) (by omega)
  | uncorr hc => exact tallyShape_of_core (i := 0x14) hc rfl (by decide) (by omega)
  | syndrome hc => exact tallyShape_of_core (i := 0x14) hc rfl (by decide) (by omega)
  | discarded hc => exact tallyShape_of_core (i := 0x17) hc rfl (by decide) (by omega)
  | late hp => exact .inr (.inr (.inr (.inr (.inr (.inl (by simp only [K.LATE_COUNT]; omega))))))
  | damaged hp => exact .inr (.inr (.inr (.inr (.inr (.inr (.inl (by simp only [K.JOB_DAMAGED]; omega)))))))
  | upPart hn => exact .inr (.inr (.inr (.inr (.inr (.inr (.inr (.inl (by simp only [K.UP_LAST_PART]; omega))))))))
  | upRing hp => exact .inr (.inr (.inr (.inr (.inr (.inr (.inr (.inr (.inl (by simp only [K.UP_RING_POS]; omega)))))))))
  | rdRing hp => exact .inr (.inr (.inr (.inr (.inr (.inr (.inr (.inr (.inr (.inl (by simp only [K.RD_RING_POS]; omega))))))))))
  | count hi hs => exact .inr (.inr (.inr (.inr (.inr (.inr (.inr (.inr (.inr (.inr (by omega))))))))))

theorem not_tallyKey {k : Nat} (h : ¬tallyShape k) : ¬tallyKey k := fun hk => h (tallyShape_of_key hk)

/-- An engine of the package, by its number and its partition. -/
def Eng.Inside (e : Eng) : Prop := e.n < 64 ∧ (e.isCore = false → e.p < 16)

theorem eng_inside {k c : Nat} (hk : k ≤ 4) (h : c < 64) : (eng k c).Inside :=
  ⟨h, fun hn => absurd hn (by simp [eng, Eng.isCore, hk])⟩

theorem Eng.inside_of_ok {e : Eng} (h : e.ok = true) : e.Inside := by
  unfold Eng.ok at h
  split at h
  next hc =>
    simp only [Bool.and_eq_true, decide_eq_true_eq] at h
    exact ⟨h.2, fun hn => by rw [hc] at hn; cases hn⟩
  next hc =>
    split at h
    all_goals
      simp only [Bool.and_eq_true, decide_eq_true_eq] at h
      exact ⟨by omega, fun _ => by omega⟩

/-- `b` is `a` but for objects, the error log, messages and power's bookkeeping. -/
def Dev.Sent (a b : Dev) : Prop := b = { a with objs := b.objs, log := b.log, links := b.links, msgId := b.msgId, pwr := b.pwr }

namespace Dev.Sent

variable {a b c : Dev}

theorem trans (h : Dev.Sent a b) (g : Dev.Sent b c) : Dev.Sent a c := by
  unfold Dev.Sent at h g ⊢
  rw [g, h]
theorem ite (p : Prop) [Decidable p] (h : p → Dev.Sent a b) (h' : ¬p → Dev.Sent a c) : Dev.Sent a (if p then b else c) := by
  split
  · exact h ‹_›
  · exact h' ‹_›
theorem put (d : Dev) (o : Obj) (v : Nat) : Dev.Sent d (d.put o v) := rfl
theorem foldl {β : Type} (f : Dev → β → Dev) (l : List β) (h : ∀ d, ∀ x ∈ l, Dev.Sent d (f d x)) (d : Dev) : Dev.Sent d (l.foldl f d) :=
  List.foldlRecOn l f rfl fun b hb x hx => hb.trans (h b x hx)

end Dev.Sent

theorem Dev.wakeDom_sent (d : Dev) (x : Nat) : Dev.Sent d (d.wakeDom x) := by
  unfold Dev.wakeDom
  exact .ite _ (fun _ => .ite _ (fun _ => rfl) fun _ => rfl) fun _ => .ite _ (fun _ => rfl) fun _ => rfl

theorem Dev.enqueue_sent (d : Dev) (l : Nat) (m : Msg) : Dev.Sent d (d.enqueue l m) := by
  unfold Dev.enqueue
  exact (d.wakeDom_sent _).trans (.ite _ (fun _ => rfl) fun _ => rfl)

theorem Dev.send_sent (d : Dev) (m : Msg) (f : Bool) : Dev.Sent d (d.send m f).1 := by
  unfold Dev.send
  split
  · exact d.enqueue_sent _ _
  · rfl

theorem Dev.notify_sent (d : Dev) (code kind obj sub p : Nat) : Dev.Sent d (d.notify code kind obj sub p) := by
  unfold Dev.notify
  extract_lets body m
  exact .trans (b := { d with msgId := d.msgId + 1 }) rfl (Dev.send_sent _ _ _)

theorem Dev.file_sent (d : Dev) (i : RecInfo) : Dev.Sent d (d.file i) := by
  unfold Dev.file
  extract_lets ms n lost seq r d1 d2 d3
  split
  · rfl
  · have h3 : Dev.Sent d d3 := .trans (b := d2) rfl (.ite _ (fun _ => rfl) fun _ => rfl)
    exact h3.trans (Dev.notify_sent _ _ _ _ _ _)

/-- A schedule without what completions count of its attempt. -/
def Sched.plan (s : Sched) : Sched := { s with causes := [], nf := false, failCommit := 0, excused := [] }

/-- A partition's record without its engines, its handles and what completions count. -/
def Part.kept (p : Part) : Part := { p with sched := p.sched.plan, up := [], rd := [], heldHq := [], meters := [], ringNow := [] }

/-- `b` is `a` but for what commands and their ends use: objects, cores, memory, partitions, the log, messages, references, power's
bookkeeping, stains and drawn values. -/
def Dev.Worked (a b : Dev) : Prop :=
  b = { a with free := b.free, objs := b.objs, cores := b.cores, mem := b.mem, parts := b.parts, log := b.log, links := b.links,
               msgId := b.msgId, remote := b.remote, pwr := b.pwr, stainN := b.stainN, memDelay := b.memDelay }

theorem Dev.Worked.trans {a b c : Dev} (h : Dev.Worked a b) (g : Dev.Worked b c) : Dev.Worked a c := by
  unfold Dev.Worked at h g ⊢
  rw [g, h]

theorem Dev.Sent.worked {a b : Dev} (h : Dev.Sent a b) : Dev.Worked a b := by
  unfold Dev.Worked
  rw [show b = _ from h]

/-- A core without its bytes, their marks, its handles and the contexts of its engines. -/
def Core.still (k : Core) : Core := { k.frame with hq := [], eng := [] }

/-- `b` is `a` after commands of cores ended early: objects of `tallyKey`, a partition's counts, and what `Dev.Worked` leaves open. -/
structure Dev.Halted (a b : Dev) : Prop where
  obj : Dev.ObjsBut tallyKey a b
  part : ∀ p, (b.part p).kept = (a.part p).kept
  rest : Dev.Worked a b

namespace Dev.Halted

variable {a b c : Dev}

theorem sw (h : Dev.Halted a b) : b.sw = a.sw := by rw [show b = _ from h.rest]
theorem now (h : Dev.Halted a b) : b.now = a.now := by rw [show b = _ from h.rest]
theorem cyc (h : Dev.Halted a b) : b.cyc = a.cyc := by rw [show b = _ from h.rest]
theorem plan (h : Dev.Halted a b) (p : Nat) : (b.sched p).plan = (a.sched p).plan := congrArg Part.sched (h.part p)
theorem slots (h : Dev.Halted a b) (p : Nat) : (b.sched p).slots = (a.sched p).slots :=
  have := congrArg Sched.slots (h.plan p)
  this

theorem refl (a : Dev) : Dev.Halted a a := ⟨.refl a, fun _ => rfl, rfl⟩
theorem trans (h : Dev.Halted a b) (g : Dev.Halted b c) : Dev.Halted a c :=
  ⟨h.obj.trans g.obj, fun p => (g.part p).trans (h.part p), h.rest.trans g.rest⟩
theorem ite (p : Prop) [Decidable p] (h : p → Dev.Halted a b) (h' : ¬p → Dev.Halted a c) :
    Dev.Halted a (if p then b else c) := by
  split
  · exact h ‹_›
  · exact h' ‹_›
theorem foldl {β : Type} (f : Dev → β → Dev) (l : List β) (h : ∀ d, ∀ x ∈ l, Dev.Halted d (f d x)) (d : Dev) :
    Dev.Halted d (l.foldl f d) := List.foldlRecOn l f (refl d) fun b hb x hx => hb.trans (h b x hx)
theorem setCore (d : Dev) (c : Nat) (x : Core) : Dev.Halted d (d.setCore c x) := ⟨.of_objs rfl, fun _ => rfl, rfl⟩

end Dev.Halted

/-- `b` is `a` with some tallies moved: what `Dev.Halted` says, and of the cores their bytes, marks, handles and contexts alone. -/
structure Dev.Tallied (a b : Dev) : Prop extends Dev.Halted a b where
  core : ∀ c, (b.core c).still = (a.core c).still

namespace Dev.Tallied

variable {a b c : Dev}

theorem refl (a : Dev) : Dev.Tallied a a := ⟨.refl a, fun _ => rfl⟩
theorem trans (h : Dev.Tallied a b) (g : Dev.Tallied b c) : Dev.Tallied a c :=
  ⟨h.toHalted.trans g.toHalted, fun i => (g.core i).trans (h.core i)⟩
theorem of_side (h : Dev.Side a b) (g : Dev.ObjsBut tallyKey a b) (r : Dev.Worked a b) : Dev.Tallied a b :=
  ⟨⟨g, fun p => by have := congrArg Part.kept (h.part p); exact this, r⟩, fun i => congrArg (fun k => { k with hq := [], eng := [] }) (h.core i)⟩
theorem put (d : Dev) {o : Obj} (v : Nat) (ho : tallyKey o.key) : Dev.Tallied d (d.put o v) :=
  ⟨⟨.put d v ho, fun _ => rfl, rfl⟩, fun _ => rfl⟩
theorem cnt (d : Dev) {o : Obj} (n : Nat) (ho : tallyKey o.key) : Dev.Tallied d (d.cnt o n) := put d _ ho
theorem ite (p : Prop) [Decidable p] (h : p → Dev.Tallied a b) (h' : ¬p → Dev.Tallied a c) :
    Dev.Tallied a (if p then b else c) := by
  split
  · exact h ‹_›
  · exact h' ‹_›
/-- A fold that carries more than the device. -/
theorem foldl_of {α β : Type} (g : α → Dev) (f : α → β → α) (l : List β) (h : ∀ x, ∀ y ∈ l, Dev.Tallied (g x) (g (f x y))) (x : α) :
    Dev.Tallied (g x) (g (l.foldl f x)) :=
  List.foldlRecOn (motive := fun y => Dev.Tallied (g x) (g y)) l f (refl _) fun _ hb y hy => hb.trans (h _ y hy)
theorem foldl {β : Type} (f : Dev → β → Dev) (l : List β) (h : ∀ d, ∀ x ∈ l, Dev.Tallied d (f d x)) (d : Dev) :
    Dev.Tallied d (l.foldl f d) := foldl_of id f l h d

end Dev.Tallied

/-! ## Records and stains -/

theorem Dev.setCore_tallied (d : Dev) (c : Nat) {x : Core} (h : x.still = (d.core c).still) : Dev.Tallied d (d.setCore c x) := by
  refine ⟨.setCore d c x, fun i => ?_⟩
  by_cases hi : i = c
  · rw [hi, Dev.core_setCore_self, h]
  · rw [d.core_setCore_ne _ hi]
theorem Dev.setMem_tallied (d : Dev) (m : Mem) : Dev.Tallied d { d with mem := m } := ⟨⟨.of_objs rfl, fun _ => rfl, rfl⟩, fun _ => rfl⟩
theorem Dev.setPart_tallied (d : Dev) (p : Nat) {x : Part} (h : x.kept = (d.part p).kept) : Dev.Tallied d (d.setPart p x) := by
  refine ⟨⟨.of_objs rfl, fun q => ?_, rfl⟩, fun _ => rfl⟩
  by_cases hq : q = p
  · rw [hq, Dev.part_setPart_self, h]
  · rw [Dev.part_setPart_ne _ _ hq]

theorem Dev.setCtx_tallied (d : Dev) (e : Eng) (x : EngCtx) : Dev.Tallied d (d.setCtx e x) := by
  unfold Dev.setCtx
  exact .ite _ (fun _ => d.setCore_tallied _ rfl) fun _ => .ite _ (fun _ => d.setPart_tallied _ rfl) fun _ => d.setPart_tallied _ rfl

theorem Dev.setHq_tallied (d : Dev) (c q : Nat) (l : List Handle) : Dev.Tallied d (d.setHq c q l) := d.setCore_tallied _ rfl

theorem Dev.setSched_tallied (d : Dev) (p : Nat) {x : Sched} (h : x.plan = (d.sched p).plan) : Dev.Tallied d (d.setSched p x) :=
  d.setPart_tallied _ (congrArg (fun y => { (d.part p).kept with sched := y }) h)

theorem Dev.file_tallied (d : Dev) (i : RecInfo) : Dev.Tallied d (d.file i) :=
  .of_side (d.file_side i) ((d.file_objs i).mono fun _ => tallyKey_of_record) (d.file_sent i).worked

theorem Dev.wakeDom_tallied (d : Dev) (x : Nat) : Dev.Tallied d (d.wakeDom x) := by
  have put (p : Pwr) : Dev.ObjsBut tallyKey d (({ d with pwr := p } : Dev).put (K.DOM_LAST_WAKE x) d.now) :=
    .trans (b := { d with pwr := p }) (.of_objs rfl) (.put _ _ (.wake x))
  refine .of_side (d.wakeDom_side x) ?_ (d.wakeDom_sent x).worked
  unfold Dev.wakeDom
  exact .ite _ (fun _ => .ite _ (fun _ => .refl d) fun _ => put _) fun _ => .ite _ (fun _ => .refl d) fun _ => put _

theorem Dev.send_tallied (d : Dev) (m : Msg) (f : Bool) : Dev.Tallied d (d.send m f).1 :=
  .of_side (d.send_side m f) ((d.send_objs m f).mono fun _ => tallyKey_of_record) (d.send_sent m f).worked

theorem Dev.stain_tallied (d : Dev) (kind unit p : Nat) : Dev.Tallied d (d.stain kind unit p).2.2 := by
  unfold Dev.stain
  refine Dev.Tallied.foldl_of (fun a : Nat × Nat × Dev => a.2.2) _ _ (fun x y hy => ?_) (0, 0, d)
  have set (n : Map Nat) : Dev.Tallied x.2.2 { x.2.2 with stainN := n } := ⟨⟨.of_objs rfl, fun _ => rfl, rfl⟩, fun _ => rfl⟩
  dsimp only
  split
  · exact (set _).trans (.cnt _ _ (.stain (List.mem_range.mp (List.mem_filter.mp hy).1)))
  · exact set _

/-! ## Writes to memory and to scratchpads -/

theorem Dev.cacheTouch_tallied (d : Dev) (line : Nat) (w al : Bool) (m : Nat) : Dev.Tallied d (d.cacheTouch line w al m) := by
  unfold Dev.cacheTouch
  extract_lets k own q base tree putLine d1 d2 pages allowed free way victim d3
  have h1 : Dev.Tallied d d1 := .cnt _ _ (.miss q)
  have h2 : Dev.Tallied d d2 := h1.trans (.ite _ (fun _ => .refl _) fun _ => Dev.setMem_tallied _ _)
  have h3 : Dev.Tallied d d3 :=
    h2.trans (.ite _ (fun _ => .trans (b := d2.activate victim.line) (Dev.setMem_tallied _ _) (.cnt _ _ (.writeback q))) fun _ => .refl _)
  split
  · exact .refl d
  split
  · exact (Dev.setMem_tallied _ _).trans (.cnt _ _ (.hit q))
  split
  · exact h2
  · exact h3.trans (Dev.setMem_tallied _ _)

theorem Dev.setHbmByte_tallied (d : Dev) (x : Nat) (b : Byte) : Dev.Tallied d (d.setHbmByte x b) := by
  unfold Dev.setHbmByte
  split <;> exact d.setMem_tallied _

theorem Dev.setBytes_tallied {β : Type} (f : β → Nat) (g : β → Byte) (l : List β) (d : Dev) :
    Dev.Tallied d (l.foldl (fun d b => d.setHbmByte (f b) (g b)) d) := .foldl _ l (fun d _ _ => d.setHbmByte_tallied _ _) d

theorem Dev.noteDelay_tallied (d : Dev) (t : Nat) : Dev.Tallied d (d.noteDelay t) := ⟨⟨.of_objs rfl, fun _ => rfl, rfl⟩, fun _ => rfl⟩

theorem Dev.writeLine_tallied (d : Dev) (s : Iss) (line : Nat) (bs : List (Nat × Byte)) : Dev.Tallied d (d.writeLine s line bs).2 := by
  simp only [Dev.writeLine]
  refine .trans ?_ (Dev.noteDelay_tallied _ _)
  refine .trans ?_ (Dev.stain_tallied _ _ _ _)
  refine .trans ?_ (Dev.cacheTouch_tallied _ _ _ _ _)
  refine .trans ?_ (Dev.setBytes_tallied _ _ _ _)
  split
  · exact (Dev.setMem_tallied _ _).trans (Dev.setBytes_tallied _ _ _ _)
  · exact Dev.setMem_tallied _ _

theorem Dev.spRecordEcc_tallied (d : Dev) {c : Nat} (hc : c < 64) (mem kind word e idx op ecc : Nat) :
    Dev.Tallied d (d.spRecordEcc c mem kind word e idx op ecc) := by
  simp only [Dev.spRecordEcc]
  refine .trans (.trans ?_ (Dev.file_tallied _ _)) (.put _ _ (.syndrome hc))
  exact .ite _ (fun _ => .cnt d _ (.uncorr hc)) fun _ => .refl d

theorem Dev.spRecords_tallied (d : Dev) {c : Nat} (hc : c < 64) (mem e idx op : Nat) (ws : List Nat) : Dev.Tallied d (d.spRecords c mem e idx op ws) :=
  .foldl _ _ (fun d _ _ => d.spRecordEcc_tallied hc _ _ _ _ _ _ _) d

theorem Dev.spCorrected_tallied (d : Dev) {c : Nat} (hc : c < 64) (mem word : Nat) : Dev.Tallied d (d.spCorrected c mem word) := by
  have draw (x : Dev) : Dev.Tallied x (x.draw 8).2 := ⟨⟨.of_objs rfl, fun _ => rfl, rfl⟩, fun _ => rfl⟩
  unfold Dev.spCorrected
  extract_lets k key t
  have h : Dev.Tallied d t := by
    refine .trans ?_ (.cnt _ _ (.corrected hc))
    exact d.setCore_tallied c rfl
  split
  · exact (h.trans (draw _)).trans (Dev.spRecordEcc_tallied _ hc _ _ _ _ _ _ _)
  · exact h

theorem Dev.meter_tallied (d : Dev) (p : Nat) (w : Bool) (n : Nat) : Dev.Tallied d (d.meter p w n) := by
  unfold Dev.meter Dev.charge
  refine .ite _ (fun _ => .refl d) fun _ => .ite _ (fun _ => .refl d) fun _ => ?_
  extract_lets q t a
  have ht : Dev.Tallied d t := d.setPart_tallied p rfl
  refine ht.trans ?_
  exact .ite _ (fun _ => ⟨⟨.of_objs rfl, fun _ => rfl, rfl⟩, fun _ => rfl⟩) fun _ => .ite _ (fun _ => ⟨⟨.of_objs rfl, fun _ => rfl, rfl⟩, fun _ => rfl⟩) fun _ => .refl _

/-- The scratchpads of a run's chunks are those of its places. -/
theorem chunks_sp {bs : List (Loc × Byte)} (h : ∀ b ∈ bs, ∀ c m o, b.1 = .sp c m o → c < 64) {c m : Nat} {g : List (Nat × Byte)}
    (hg : Chunk.sp c m g ∈ chunks bs) : c < 64 := by
  induction bs generalizing c m g with
  | nil => cases hg
  | cons b bs ih =>
    have ih' : ∀ {c m g}, Chunk.sp c m g ∈ chunks bs → c < 64 := ih fun x hx => h x (List.mem_cons_of_mem _ hx)
    have hb := h b List.mem_cons_self
    unfold chunks at hg ih'
    rw [List.foldr_cons] at hg
    generalize List.foldr _ _ bs = l at hg ih'
    obtain ⟨x, v⟩ := b
    dsimp only at hg
    split at hg
    · split at hg <;> grind
    all_goals grind

theorem Dev.writeRun_tallied (d : Dev) (s : Iss) (e : Nat) {bs : List (Loc × Byte)} (h : ∀ b ∈ bs, ∀ c m o, b.1 = .sp c m o → c < 64) :
    Dev.Tallied d (d.writeRun s e bs).2 := by
  simp only [Dev.writeRun]
  refine .trans ?_ (Dev.meter_tallied _ _ _ _)
  refine Dev.Tallied.foldl_of (fun a : Bool × Dev => a.2) _ _ (fun x y hy => ?_) (false, d)
  cases y with
  | line n g => exact x.2.writeLine_tallied s n g
  | acc v g => exact Dev.setMem_tallied _ _
  | sp c m g => exact (x.2.setCore_tallied c (congrArg (fun k => { k with hq := [], eng := [] }) (Core.write_frame _ _ _))).trans (Dev.spRecords_tallied _ (chunks_sp h hy) _ _ _ _ _)
  | far => exact .refl _

theorem Dev.writeWin_tallied (d : Dev) (s : Iss) (w : Who) (a : Nat) (bs : List Nat) : Dev.Tallied d (d.writeWin s w a bs).2 := by
  unfold Dev.writeWin
  split
  · exact .refl d
  next ls _ =>
    split
    · exact .refl d
    next hf =>
      refine d.writeRun_tallied _ _ fun b hb c m o hsp => absurd ?_ hf
      obtain ⟨x, v⟩ := b
      obtain rfl : x = .sp c m o := hsp
      exact List.any_eq_true.mpr ⟨_, (List.of_mem_zip hb).1, rfl⟩

theorem Dev.moveEntry_tallied (d : Dev) (w : Who) (a : Nat) (bs : List Nat) : Dev.Tallied d (d.moveEntry w a bs) := by
  unfold Dev.moveEntry
  split
  · exact .refl d
  · refine .foldl _ _ (fun d b _ => ?_) d
    split
    · exact d.setHbmByte_tallied _ _
    · exact d.setMem_tallied _
    · exact .refl d

/-! ## Handles -/

theorem Dev.popFor_tallied {d t : Dev} {e : Eng} {q : Nat} {h : Option Handle} (g : d.popFor e q = some (h, t)) : Dev.Tallied d t := by
  unfold Dev.popFor at g
  dsimp only at g
  split at g
  · cases g; exact .refl d
  split at g
  · cases g; exact .refl d
  split at g
  · cases g
  split at g
  · cases g
  split at g
  · cases g
  · cases g
    exact (d.setHq_tallied _ _ _).trans (Dev.setCtx_tallied _ _ _)

theorem Dev.popFirst_tallied (d : Dev) (c q : Nat) : Dev.Tallied d (d.popFirst c q) := by
  unfold Dev.popFirst
  split
  · split
    next g => exact Dev.popFor_tallied g
    next => exact .refl d
  · exact .refl d

theorem Dev.push_tallied (d : Dev) (e : Eng) (q : Nat) (h : Handle) : Dev.Tallied d (d.push e q h).1 := by
  unfold Dev.push
  split
  · exact .refl d
  have hs : Dev.Tallied d (if e.isCore = true then d.stain 1 e.unit (d.engPart e) else (0, 0, d)).2.2 := by
    split
    · exact d.stain_tallied _ _ _
    · exact .refl d
  revert hs
  generalize (if e.isCore = true then d.stain 1 e.unit (d.engPart e) else (0, 0, d)) = r
  obtain ⟨n, t, d2⟩ := r
  intro hs
  dsimp only at hs ⊢
  split
  · rename_i c _
    have hw : Dev.Tallied d (if d2.get (K.DOM_STATE c) ≤ 2 then d2.wakeDom c else d2) :=
      hs.trans (.ite _ (fun _ => d2.wakeDom_tallied c) fun _ => .refl d2)
    generalize (if d2.get (K.DOM_STATE c) ≤ 2 then d2.wakeDom c else d2) = d3 at hw ⊢
    split
    · exact hw.trans (d3.setHq_tallied _ _ _)
    split
    · exact (hw.trans (d3.popFirst_tallied _ _)).trans (Dev.setHq_tallied _ _ _ _)
    · exact hw
  · split
    · exact hs
    · exact hs.trans (d2.setPart_tallied _ rfl)

/-! ## Completion records and tallies -/

theorem Dev.ringSlot_tallied (d : Dev) {e : Eng} (he : e.Inside) (gen : Nat) : Dev.Tallied d (d.ringSlot e gen).2 := by
  have hk : tallyKey (Dev.ringObjs e).2.2.key := by
    unfold Dev.ringObjs
    split
    next h => exact .coreRing he.1 (by simp only [Eng.isCore, decide_eq_true_eq] at h; omega)
    next h =>
      have hp := he.2 (Bool.eq_false_iff.mpr h)
      split
      · exact .upRing hp
      · exact .rdRing hp
  unfold Dev.ringSlot
  dsimp only
  split
  · exact .put d _ hk
  · exact d.setCtx_tallied _ _

theorem Dev.noteRing_tallied (d : Dev) (e : Eng) (gen : Nat) (l : List Nat) (r : List RingEntry) :
    Dev.Tallied d (d.noteRing e gen l r) := by
  unfold Dev.noteRing
  exact .ite _ (fun _ => .refl d) fun _ => d.setPart_tallied _ rfl

theorem Dev.requestFor_tallied (d : Dev) (e : Eng) (l : Bool) (i at' : Nat) (w : Bool) (a n : Nat) (bs : List Nat) :
    Dev.Tallied d (d.requestFor e l i at' w a n bs).2 := by
  unfold Dev.requestFor
  dsimp only
  generalize hm : txMsg _ _ _ _ _ _ _ _ _ _ _ = m
  have h := d.send_tallied m false
  generalize d.send m false = r at h ⊢
  obtain ⟨d', ok⟩ := r
  cases ok
  · exact h
  · exact h.trans ⟨⟨.of_objs rfl, fun _ => rfl, rfl⟩, fun _ => rfl⟩

/-- Behind a completion record the entries that follow it move up, and one that could not be written is filed (R534, R536). -/
theorem Dev.recordDone_tallied (d : Dev) (e : Eng) (index op st : Nat) (l : List (Nat × RingEntry)) :
    Dev.Tallied d (let t := l.foldl (fun d x => d.moveEntry (d.engWho e) x.1 x.2.bytes) d
      if st = 0 then t else t.recordLost e index op st) := by
  have h : Dev.Tallied d (l.foldl (fun d x => d.moveEntry (d.engWho e) x.1 x.2.bytes) d) :=
    .foldl _ l (fun d _ _ => d.moveEntry_tallied _ _ _) d
  exact h.trans (.ite _ (fun _ => .refl _) fun _ => Dev.file_tallied _ _)

theorem Dev.record_tallied (d : Dev) {e : Eng} (he : e.Inside) (index op status gen : Nat) : Dev.Tallied d (d.record e index op status gen) := by
  unfold Dev.record
  extract_lets d0
  have h0 : Dev.Tallied d d0 := by
    exact .ite _ (fun _ => (Dev.Tallied.cnt d _ (.loads he.1)).trans (.cnt _ _ (.refused he.1))) fun _ => .refl d
  have h1 := h0.trans (d0.ringSlot_tallied he gen)
  generalize d0.ringSlot e gen = r at h1 ⊢
  obtain ⟨a, d1⟩ := r
  dsimp only at h1 ⊢
  generalize d1.ringLater e gen = rest
  generalize rest.map RingEntry.addr ++ [a] = slots
  generalize toLE 4 index ++ [status, e.k, 0, 0] ++ toLE 8 d1.now = bytes
  have h2 := h1.trans (d1.noteRing_tallied e gen slots ({ tick := d1.now, gen := gen, eng := e.n, addr := a, bytes := bytes } :: rest))
  generalize d1.noteRing e gen slots ({ tick := d1.now, gen := gen, eng := e.n, addr := a, bytes := bytes } :: rest) = d2 at h2 ⊢
  split
  · exact h2.trans (d2.setMem_tallied _)
  by_cases hdev : bits a 63 52 = d2.get K.DEVICE_NUMBER
  · rw [if_pos hdev]
    have h3 := h2.trans (d2.writeWin_tallied (d2.iss e index op) (d2.engWho e) (slots.headD a) bytes)
    exact h3.trans (Dev.recordDone_tallied _ _ _ _ _ _)
  · rw [if_neg hdev]
    have h3 := h2.trans (d2.requestFor_tallied e true index 0 true (slots.headD a) 16 bytes)
    generalize d2.requestFor e true index 0 true (slots.headD a) 16 bytes = r at h3 ⊢
    obtain ⟨x, d3⟩ := r
    cases x <;> exact h3.trans (Dev.recordDone_tallied _ _ _ _ _ _)

theorem Dev.nfRecord_tallied (d : Dev) (e : Eng) (index op st : Nat) : Dev.Tallied d (d.nfRecord e index op st) :=
  .ite _ (fun _ => d.file_tallied _) fun _ => .refl d

theorem Dev.lateRecord_tallied (d : Dev) (e : Eng) (index op w1 cause : Nat) : Dev.Tallied d (d.lateRecord e index op w1 cause) :=
  .ite _ (fun _ => .refl d) fun _ => (d.setCtx_tallied e _).trans (Dev.file_tallied _ _)

theorem Dev.lateCompletion_tallied (d : Dev) (e : Eng) (index op w1 cause st : Nat) :
    Dev.Tallied d (d.lateCompletion e index op w1 cause st) :=
  .ite _ (fun _ => d.lateRecord_tallied _ _ _ _ _) fun _ => .refl d

theorem Eng.counters_lt {e : Eng} (he : e.n < 64) : e.counters < 0x200 := by
  unfold Eng.counters Eng.isCore
  split
  next h => simp only [decide_eq_true_eq] at h; omega
  split <;> omega

theorem Dev.engCount_tallied (d : Dev) {e : Eng} (he : e.n < 64) {sub : Nat} (hs : sub < 256) (n : Nat) :
    Dev.Tallied d (d.engCount e sub n) := by
  have put (d : Dev) {i : Nat} (hi : i < 0x210) : Dev.Tallied d (d.cnt ⟨(0xA000 + i) * 256 + sub, 0⟩ n) :=
    Dev.Tallied.put d (o := ⟨(0xA000 + i) * 256 + sub, 0⟩) _ (.count hi hs)
  have h := put d (i := e.counters) (by have := Eng.counters_lt he; omega)
  simp only [Dev.engCount]
  split
  next hp =>
    simp only [Bool.and_eq_true, decide_eq_true_eq] at hp
    have h' := put (d.cnt ⟨(0xA000 + e.counters) * 256 + sub, 0⟩ n)
      (i := 0x200 + (d.cnt ⟨(0xA000 + e.counters) * 256 + sub, 0⟩ n).engPart e) (by omega)
    rw [← Nat.add_assoc] at h'
    exact h.trans h'
  next => exact h

theorem Dev.tallied_tallied (d : Dev) {e : Eng} (he : e.n < 64) (st : Nat) : Dev.Tallied d (d.tallied e st) := by
  have h : Dev.Tallied d (if st ≠ 0 then d.engCount e 12 1 else d) :=
    .ite _ (fun _ => d.engCount_tallied he (by decide) _) fun _ => .refl d
  exact .ite _ (fun _ => h.trans (.put _ _ (.upPart he))) fun _ => h

theorem Dev.counted_tallied {d : Dev} {e : Eng} (he : e.n < 64) (hp : d.engPart e < 16) (st : Nat) (quiet : Bool) :
    Dev.Tallied d (d.counted e st quiet) :=
  .ite _ (fun _ => (d.tallied_tallied he st).trans (.cnt _ _ (.late hp))) fun _ => d.tallied_tallied he st

theorem Dev.damage_tallied (d : Dev) {p : Nat} (hp : p < 16) (st : Nat) : Dev.Tallied d (d.damage p st) :=
  .ite _ (fun _ => .refl d) fun _ =>
    ((d.setSched_tallied p (x := { d.sched p with failCommit := st }) rfl).trans (.put _ _ (.damaged hp))).trans (Dev.file_tallied _ _)

theorem Dev.account_tallied (d : Dev) {e : Eng} (he : e.n < 64) (w1 st att sig : Nat) (quiet : Bool) :
    Dev.Tallied d (d.account e w1 st att sig quiet) := by
  have hs (p : Nat) : (d.counted e st quiet).sched p = d.sched p := (counted_side d e st quiet).sched p
  obtain ⟨-, h⟩ | ⟨hp, h | ⟨key, h⟩ | h | ⟨-, h⟩⟩ := account_cases d e w1 st att sig quiet <;> rw [h]
  · exact d.tallied_tallied he st
  · exact Dev.counted_tallied he hp st quiet
  · exact (Dev.counted_tallied he hp st quiet).trans (Dev.setSched_tallied _ _ (by rw [hs]; rfl))
  · exact (Dev.counted_tallied he hp st quiet).trans (Dev.damage_tallied _ hp _)
  · exact (Dev.counted_tallied he hp st quiet).trans (Dev.setSched_tallied _ _ (by rw [hs]; rfl))

theorem Dev.setResident_tallied (d : Dev) (own : Nat) (gs : List Nat) : Dev.Tallied d (d.setResident own gs) :=
  Dev.Tallied.foldl _ gs (fun d g _ => by
    dsimp only
    exact d.setCore_tallied _ rfl) d

/-! ## Ends of commands -/

theorem Dev.finish_tallied (d : Dev) {e : Eng} (he : e.Inside) (f : InFlight) (h : Handle) : Dev.Tallied d (d.finish e f h) := by
  unfold Dev.finish
  extract_lets p gone st
  have h1 : Dev.Tallied d (if gone = true then (d, true)
      else d.push e f.sig { h with status := st, cyc := max (d.cycles e.quad) (d.ctx e).till }).1 := by
    split
    · exact .refl d
    · exact d.push_tallied _ _ _
  revert h1
  generalize (if gone = true then (d, true) else d.push e f.sig { h with status := st, cyc := max (d.cycles e.quad) (d.ctx e).till }) = r
  obtain ⟨d1, ok⟩ := r
  intro h1
  dsimp -zeta only at h1 ⊢
  extract_lets d2 st2 d3
  have h2 : Dev.Tallied d d2 := h1.trans (.ite _ (fun _ => .refl _) fun _ => Dev.file_tallied _ _)
  have h3 : Dev.Tallied d d3 := h2.trans (.ite _ (fun _ => Dev.setResident_tallied _ _ _) fun _ => .refl _)
  exact (((h3.trans (Dev.record_tallied _ he _ _ _ _)).trans (Dev.nfRecord_tallied _ _ _ _ _)).trans
    (Dev.lateCompletion_tallied _ _ _ _ _ _ _)).trans (Dev.account_tallied _ he.1 _ _ _ _ _)

theorem Dev.metRecords_tallied (d : Dev) {c : Nat} (hc : c < 64) (ws : List Met) : Dev.Tallied d (d.metRecords c ws) :=
  .foldl _ _ (fun d _ _ => .ite _ (fun _ => d.spCorrected_tallied hc _ _) fun _ => d.spRecordEcc_tallied hc _ _ _ _ _ _ _) d

/-! ## Commands that end early -/

theorem Dev.stopPasses_halted (d : Dev) {c : Nat} (hc : c < 64) (st : Nat) (push all : Bool) :
    Dev.Halted d (d.stopPasses c st push all) := by
  unfold Dev.stopPasses
  extract_lets t
  generalize (d.core c).drainTo t = r
  obtain ⟨k, ws⟩ := r
  dsimp only
  refine .trans ?_ (.foldl _ _ (fun d p _ =>
    ((Dev.Tallied.cnt d 1 (.passes hc)).trans (Dev.finish_tallied _ (eng_inside (by decide) hc) _ _)).toHalted) _)
  exact (Dev.Halted.setCore d c _).trans (Dev.metRecords_tallied _ hc _).toHalted

theorem Dev.vxRunTo_halted (d : Dev) {c : Nat} (hc : c < 64) (n : Nat) : Dev.Halted d (d.vxRunTo c n) := by
  unfold Dev.vxRunTo
  extract_lets e k
  split
  next j f rest _ _ =>
    split
    · exact .refl d
    extract_lets r new x1 d1 x2 d2 d3 d4 b d5
    have h1 : Dev.Halted d d1 := .setCore d _ _
    have h2 : Dev.Tallied d1 d2 := Dev.setCtx_tallied _ _ _
    have h3 : Dev.Tallied d1 d3 := h2.trans (.foldl _ _ (fun d _ _ => d.spRecordEcc_tallied hc _ _ _ _ _ _ _) _)
    have h4 : Dev.Tallied d1 d4 := h3.trans (.foldl _ _ (fun d _ _ => d.spCorrected_tallied hc _ _) _)
    have h5 : Dev.Tallied d1 d5 := (h4.trans (.cnt _ _ (.eccNan hc))).trans (.cnt _ _ (.beats hc))
    split
    · exact h1.trans ((h5.trans (.cnt _ _ (.uops hc))).trans (.cnt _ _ (.special hc))).toHalted
    · exact h1.trans h5.toHalted
  next => exact .refl d

theorem Dev.vxCatchUp_halted (d : Dev) {c : Nat} (hc : c < 64) (t : Nat) : Dev.Halted d (d.vxCatchUp c t) := by
  unfold Dev.vxCatchUp
  split
  · exact .ite _ (fun _ => .refl d) fun _ => d.vxRunTo_halted hc _
  · exact .refl d

theorem Dev.raEmpty_halted (d : Dev) {c : Nat} (hc : c < 64) : Dev.Halted d (d.raEmpty c) :=
  (Dev.Halted.setCore d c _).trans (Dev.Tallied.cnt _ _ (.discarded hc)).toHalted

theorem Dev.abortCore_halted (d : Dev) {c : Nat} (hc : c < 64) (st : Nat) : Dev.Halted d (d.abortCore c st) := by
  unfold Dev.abortCore
  extract_lets d1 d2 x d3 d4 k
  have h1 : Dev.Halted d d1 := .ite _ (fun _ => d.vxCatchUp_halted hc _) fun _ => .refl d
  have h2 : Dev.Halted d d2 := h1.trans (Dev.stopPasses_halted _ hc _ _ _)
  have h3 : Dev.Halted d d3 := h2.trans (.setCore _ _ _)
  have h4 : Dev.Tallied d3 d4 := .foldl _ _ (fun x k hk => .trans (x.setCtx_tallied _ _)
    (.foldl _ _ (fun y _ _ => y.finish_tallied (eng_inside (by simp at hk; omega) hc) _ _) _)) _
  exact ((h3.trans h4.toHalted).trans (.setCore _ _ _)).trans (Dev.raEmpty_halted _ hc)

end Sys2Proof.Machine
end

section
/-! Proofs: the live writes that act on the device (R46, R75, R370, R452, R456, R477, R503), and a fence (R477, R478). -/
namespace Sys2Proof.Machine

/-! ## The writes -/

theorem fenceReq_liveRow : liveRow 0x8020 1 1 0x8020 1 = true := by decide +kernel
theorem scanReq_liveRow : liveRow 0x8020 2 1 0x8020 1 = true := by decide +kernel
theorem unitFault_liveRow : liveRow 0x8020 5 2 0x8020 1 = true := by decide +kernel
theorem lnkEnable_liveRow : ∀ l, l < 64 → liveRow (0x5000 + l) 2 1 0x5000 1 = true := by decide +kernel
theorem capW_liveRow : liveRow 0x7000 1 2 0x7000 1 = true := by decide +kernel
theorem ctrlMode_liveRow : liveRow 0x7000 5 1 0x7000 1 = true := by decide +kernel
theorem portReset_liveRow : ∀ n, n < 8 → liveRow (0x5060 + n) 1 1 0x5060 1 = true := by decide +kernel
theorem svnCommit_liveRow : liveRow 0x9000 7 1 0x9000 1 = true := by decide +kernel
theorem ftSet_liveRow : liveRow 0x2000 8 8 0x2000 1 = true := by decide +kernel

section
variable {d : Dev} {n k v : Nat} {r : Row}

theorem liveWrite_fenceReq (hi : r.index = 0x8020) : d.liveWrite n r 0x8020 1 v = (okReply, d.fence v 4) := by
  simp [Dev.liveWrite, hi]

theorem liveWrite_scanReq (hi : r.index = 0x8020) : d.liveWrite n r 0x8020 2 v = (okReply, d.queueScan v) := by
  simp [Dev.liveWrite, hi]

theorem liveWrite_unitFault (hi : r.index = 0x8020) : d.liveWrite n r 0x8020 5 v = (okReply, d.unitFault v) := by
  simp [Dev.liveWrite, hi]

theorem liveWrite_lnkEnable (hi : r.index = 0x5000) (hst : r.stride = 1) (hk : k < 64) :
    d.liveWrite n r (0x5000 + k) 2 v = (okReply, d.linkEnable k (v == 1)) := by
  have hu := liveWrite_unit hi hst Nat.one_pos k
  rw [Nat.one_mul] at hu
  unfold Dev.liveWrite
  dsimp only
  rw [notSnapArea (by omega), hu, hi]
  rfl

theorem liveWrite_portReset (hi : r.index = 0x5060) (hst : r.stride = 1) (hk : k < 8) :
    d.liveWrite n r (0x5060 + k) 1 1 = (okReply, d.portReset k) := by
  have hu := liveWrite_unit hi hst Nat.one_pos k
  rw [Nat.one_mul] at hu
  unfold Dev.liveWrite
  dsimp only
  rw [notSnapArea (by omega), hu, hi]
  show (okReply, if 1 = 1 then d.portReset k else d) = _
  rw [if_pos rfl]

theorem liveWrite_capW (hi : r.index = 0x7000) : d.liveWrite n r 0x7000 1 v = (okReply, d.capWrite v) := by
  simp [Dev.liveWrite, hi]

theorem liveWrite_ctrlMode (hi : r.index = 0x7000) : d.liveWrite n r 0x7000 5 v = (okReply, d.ctrlEstimate) := by
  simp [Dev.liveWrite, hi]

theorem liveWrite_svnCommit (hi : r.index = 0x9000) : d.liveWrite n r 0x9000 7 1 = d.svnCommit := by
  unfold Dev.liveWrite
  dsimp only
  rw [notSnapArea (by omega), hi]
  rfl

theorem liveWrite_ftSet (hi : r.index = 0x2000) :
    d.liveWrite n r 0x2000 8 v = if d.mayStep then (okReply, d.ftLoad v) else (noAccess rsACTIVE, d) := by
  unfold Dev.liveWrite
  dsimp only
  rw [notSnapArea (by omega), hi]
  rfl

theorem liveWrite_ftSet_steps (hi : r.index = 0x2000) (hm : d.mayStep = true) (hr : d.get K.FT_ROLE ≠ 1) :
    d.liveWrite n r 0x2000 8 v = (okReply, { d with now := v % 2 ^ 64 }) := by
  rw [liveWrite_ftSet hi, if_pos hm, Dev.ftLoad, if_neg hr]
  rfl

theorem liveWrite_ftSet_pends (hi : r.index = 0x2000) (hm : d.mayStep = true) (hr : d.get K.FT_ROLE = 1) :
    d.liveWrite n r 0x2000 8 v = (okReply, { d with ft := { d.ft with pend := some v } }) := by
  rw [liveWrite_ftSet hi, if_pos hm, Dev.ftLoad, if_pos hr]

theorem Dev.linkEnable_on (h : d.get (K.LNK_STATE k) = 6) :
    d.linkEnable k true = (d.put (K.LNK_ENABLE k) 1).put (K.LNK_STATE k) 0 := by
  have hk : (d.put (K.LNK_ENABLE k) 1).get (K.LNK_STATE k) = 6 :=
    (Dev.get_put_ne _ _ (by simp only [K.LNK_STATE, K.LNK_ENABLE]; omega)).trans h
  have hx : d.linkEnable k true = if (d.put (K.LNK_ENABLE k) 1).get (K.LNK_STATE k) = 6
      then (d.put (K.LNK_ENABLE k) 1).put (K.LNK_STATE k) 0 else d.put (K.LNK_ENABLE k) 1 := rfl
  rw [hx, if_pos hk]

theorem Dev.queueScan_new (hq : d.scanQ.contains v = false) (hs : d.scanning v = false) :
    d.queueScan v = ({ d with scanQ := d.scanQ ++ [v] } : Dev).put (K.SCAN_STATE v) 1 := by
  simp only [Dev.queueScan, hq, hs, Bool.or_self, Bool.false_eq_true, if_false]

theorem Dev.ctrlEstimate_back (h : d.get K.CTRL_MODE ≠ 0) :
    d.ctrlEstimate = (((d.put K.CTRL_MODE 0).put K.GUARD_PCT 97).setPwr { d.pwr with agree := 0 }).pwrRecord 6 0xF 0 0 := if_neg h

end

/-! ## A fence (R477, R478) -/

theorem Dev.capacityRecord_objs (d : Dev) (p old : Nat) : Dev.ObjsBut recordKey d (d.capacityRecord p old) :=
  .ite _ (fun _ => .refl d) fun _ => (d.file_objs _).trans (Dev.notify_objs _ _ _ _ _ _)

theorem Dev.capacityRecord_sent (d : Dev) (p old : Nat) : Dev.Sent d (d.capacityRecord p old) :=
  .ite _ (fun _ => rfl) fun _ => (d.file_sent _).trans (Dev.notify_sent _ _ _ _ _ _)

/-- A device that fences a core, once it is idle: the core's bit, its scratchpads empty, and unless a scan has it its domain off. -/
def Dev.fenced (a : Dev) (c : Nat) : Dev :=
  let d := ((a.setSw c none).put K.FENCE_MASK (withBit (a.get K.FENCE_MASK) c true)).zeroise c
  if d.scanning c then d else
    ({ d with pwr := { d.pwr with entering := Map.del d.pwr.entering c, waking := Map.del d.pwr.waking c } } : Dev).put (K.DOM_STATE c) 4

/-- What a fence of an idle core leaves of the objects. -/
theorem Dev.fenced_objs (a : Dev) (c : Nat) : Dev.ObjsBut (fun k => k = K.FENCE_MASK.key ∨ k = (K.ZEROISE_COUNT c).key ∨
    k = (K.DOM_STATE c).key) a (a.fenced c) := by
  unfold Dev.fenced
  extract_lets d1
  have h1 : Dev.ObjsBut (fun k => k = K.FENCE_MASK.key ∨ k = (K.ZEROISE_COUNT c).key ∨ k = (K.DOM_STATE c).key) a d1 :=
    .trans (b := (a.setSw c none).put K.FENCE_MASK _) (.trans (b := a.setSw c none) (.of_objs rfl) (.put _ _ (Or.inl rfl)))
      ((Dev.zeroise_objs _ c).mono fun _ h => Or.inr (Or.inl h))
  have off (x : Pwr) : Dev.ObjsBut (fun k => k = K.FENCE_MASK.key ∨ k = (K.ZEROISE_COUNT c).key ∨ k = (K.DOM_STATE c).key) d1
      (({ d1 with pwr := x } : Dev).put (K.DOM_STATE c) 4) :=
    .trans (b := { d1 with pwr := x }) (.of_objs rfl) (.put _ _ (Or.inr (Or.inr rfl)))
  exact .ite _ (fun _ => h1) fun _ => h1.trans (off _)

section
variable (a : Dev) {c : Nat} (hc : c < 64)
include hc

theorem Dev.fenced_mask : (a.fenced c).get K.FENCE_MASK = withBit (a.get K.FENCE_MASK) c true := by
  have hz : K.FENCE_MASK.key ≠ (K.ZEROISE_COUNT c).key := by simp only [K.FENCE_MASK, K.ZEROISE_COUNT]; omega
  have hd : K.FENCE_MASK.key ≠ (K.DOM_STATE c).key := by simp only [K.FENCE_MASK, K.DOM_STATE]; omega
  unfold Dev.fenced
  extract_lets d1
  have h1 : d1.get K.FENCE_MASK = withBit (a.get K.FENCE_MASK) c true :=
    (Dev.zeroise_objs _ c _ hz).trans (Dev.get_put_self _ _ _)
  split
  · exact h1
  · exact (Dev.get_put_ne _ _ hd).trans h1

theorem Dev.fenced_scanning : (a.fenced c).scanning c = a.scanning c := by
  unfold Dev.scanning
  rw [a.fenced_objs c]
  simp only [K.SCAN_STATE, K.FENCE_MASK, K.ZEROISE_COUNT, K.DOM_STATE]
  omega

theorem Dev.fenced_off (h : a.scanning c = false) : (a.fenced c).get (K.DOM_STATE c) = 4 := by
  have hs : (((a.setSw c none).put K.FENCE_MASK (withBit (a.get K.FENCE_MASK) c true)).zeroise c).scanning c = false := by
    unfold Dev.scanning
    rw [Dev.zeroise_objs _ c _ (by simp only [K.SCAN_STATE, K.ZEROISE_COUNT]; omega),
      Dev.get_put_ne _ _ (by simp only [K.SCAN_STATE, K.FENCE_MASK]; omega)]
    exact h
  unfold Dev.fenced
  dsimp only
  rw [if_neg (Bool.eq_false_iff.mp hs)]
  exact Dev.get_put_self _ _ _

end

/-- The fence of a core that nothing holds: the fence of the idle core, its records and the device's health. -/
theorem Dev.fence_free {d : Dev} {c : Nat} (hc : c < 64) (detail : Nat) (hp : bit (d.get K.CORE_PRESENT) c = true)
    (hf : bit (d.get K.FENCE_MASK) c = false) (ho : d.get (K.CORE_OWNER c) = 0xFF) (hw : d.swOf c = none) :
    (∃ i, Dev.ObjsBut recordKey ((((d.abortCore c stFENCED).fenced c).file i).put K.DEVICE_HEALTH
      (max 1 (((d.abortCore c stFENCED).fenced c).get K.DEVICE_HEALTH))) (d.fence c detail)) ∧
    Dev.Sent ((d.abortCore c stFENCED).fenced c) (d.fence c detail) := by
  have hcom : d.committing c = false := by simp [Dev.committing, ho]
  have hw' : (d.abortCore c stFENCED).swOf c = none := by
    unfold Dev.swOf
    rw [(d.abortCore_halted hc stFENCED).sw]
    exact hw
  have hx : d.fence c detail = d.fenceNow c detail false := by
    unfold Dev.fence
    rw [hf, hcom]
    rfl
  rw [hx]
  unfold Dev.fenceNow
  rw [hf, hp, ho]
  dsimp only
  have hbase : (if (decide (255 < 16) && decide (d.get (K.CORE_SLOT c) < 64)) = true then
      d.fenceSlot c 255 (d.get (K.CORE_SLOT c)) (!false && d.inAttempt 255) else d.abortCore c stFENCED) = d.abortCore c stFENCED :=
    if_neg (by simp)
  rw [hbase]
  generalize d.abortCore c stFENCED = a at hw'
  rw [hw']
  refine ⟨⟨_, .foldl _ _ (fun x p _ => x.capacityRecord_objs p _) _⟩, ?_⟩
  exact .trans (.trans ((a.fenced c).file_sent _) (.put _ _ _)) (.foldl _ _ (fun x p _ => x.capacityRecord_sent p _) _)

/-- What a fence of a free core leaves (R478). -/
theorem Dev.fence_leaves {d : Dev} {c : Nat} (hc : c < 64) (hp : bit (d.get K.CORE_PRESENT) c = true)
    (hf : bit (d.get K.FENCE_MASK) c = false) (ho : d.get (K.CORE_OWNER c) = 0xFF) (hw : d.swOf c = none) (hs : d.scanning c = false) :
    (d.fence c 4).get K.FENCE_MASK = withBit (d.get K.FENCE_MASK) c true ∧ 1 ≤ (d.fence c 4).get K.DEVICE_HEALTH ∧
      (d.fence c 4).get (K.DOM_STATE c) = 4 ∧ (d.fence c 4).get K.CORE_PRESENT = d.get K.CORE_PRESENT ∧
      (d.fence c 4).scanning c = false := by
  obtain ⟨⟨i, h⟩, -⟩ := Dev.fence_free hc 4 hp hf ho hw
  have ha := (d.abortCore_halted hc stFENCED).obj
  generalize d.abortCore c stFENCED = a at h ha
  have kept (o : Obj) (hr : ¬recordKey o.key) (hh : o.key ≠ K.DEVICE_HEALTH.key) : (d.fence c 4).get o = (a.fenced c).get o := by
    rw [h o hr, Dev.get_put_ne _ _ hh, Dev.file_objs _ _ o hr]
  have hsa : a.scanning c = false := by
    unfold Dev.scanning at hs ⊢
    rw [ha _ (not_tallyKey (by simp only [tallyShape, recordKey, K.SCAN_STATE]; omega))]
    exact hs
  refine ⟨?_, ?_, ?_, ?_, ?_⟩
  · rw [kept _ (by simp only [recordKey, K.FENCE_MASK]; omega) (by decide), a.fenced_mask hc, ha _ (not_tallyKey (by simp only [tallyShape, recordKey, K.FENCE_MASK]; omega))]
  · rw [h _ (by simp only [recordKey, K.DEVICE_HEALTH]; omega), Dev.get_put_self]
    exact Nat.le_max_left _ _
  · rw [kept _ (by simp only [recordKey, K.DOM_STATE]; omega) (by simp only [K.DOM_STATE, K.DEVICE_HEALTH]; omega), a.fenced_off hc hsa]
  · rw [kept _ (by simp only [recordKey, K.CORE_PRESENT]; omega) (by decide), a.fenced_objs c, ha _ (not_tallyKey (by simp only [tallyShape, recordKey, K.CORE_PRESENT]; omega))]
    simp only [K.CORE_PRESENT, K.FENCE_MASK, K.ZEROISE_COUNT, K.DOM_STATE]
    omega
  · have hk : (d.fence c 4).scanning c = (a.fenced c).scanning c := by
      unfold Dev.scanning
      rw [kept _ (by simp only [recordKey, K.SCAN_STATE]; omega) (by simp only [K.SCAN_STATE, K.DEVICE_HEALTH]; omega)]
    rw [hk, a.fenced_scanning hc, hsa]

/-- Settles O24: each write by its row, and a fence by the frame of what ends on the core. -/
theorem deviceWrites : Obligations.DeviceWrites := by
  unfold Obligations.DeviceWrites
  refine ⟨fun s h n v => ?writes, fun d c hc hp hf ho hw hs => ?fence⟩
  case writes =>
    have hb {base j : Nat} (h : base < 0x9000) : base < 0x9000 ∨ 0x9010 < base ∨ base = 0x9000 ∧ j < 13 := .inl h
    have hsvn : 0x9000 < 0x9000 ∨ 0x9010 < 0x9000 ∨ 0x9000 = 0x9000 ∧ 7 < 13 := .inr (.inr ⟨rfl, by decide⟩)
    refine ⟨fun _ g => ?_, fun _ g hq hs => ?_, fun g => ?_, fun hv g h6 => ?_, fun hv g => ?_, fun g => ?_, fun g hm => ?_,
      fun hv g => ?_, fun g hv => ?_, fun g hv => ?_, fun g hm hr => ?_, fun g hm hr => ?_, fun g hm => ?_⟩
    · exact onState_wrote g fenceReq_liveRow (hb (by decide)) decide_eq_true fun l r hi _ => liveWrite_fenceReq hi
    · exact onState_wrote g scanReq_liveRow (hb (by decide)) decide_eq_true fun l r hi _ =>
        (liveWrite_scanReq hi).trans (congrArg (Prod.mk okReply) (Dev.queueScan_new hq hs))
    · exact onState_wrote g unitFault_liveRow (hb (by decide)) decide_eq_true fun l r hi _ => liveWrite_unitFault hi
    · have hx : exec (.lnkEnable h v true) s = onState (h.port < 66 && v < 64) (fun s => s.serveWrite h (0x5000 + v) 2 1 1) s := rfl
      exact hx.trans (onState_wrote g (lnkEnable_liveRow v hv) (hb (by decide)) (fun hp => by simp [hp, hv]) fun l r hi hst =>
        (liveWrite_lnkEnable hi hst hv).trans (congrArg (Prod.mk okReply) (Dev.linkEnable_on h6)))
    · have hx : exec (.lnkEnable h v false) s = onState (h.port < 66 && v < 64) (fun s => s.serveWrite h (0x5000 + v) 2 1 0) s := rfl
      exact hx.trans (onState_wrote g (lnkEnable_liveRow v hv) (hb (by decide)) (fun hp => by simp [hp, hv]) fun l r hi hst =>
        liveWrite_lnkEnable hi hst hv)
    · exact onState_wrote g capW_liveRow (hb (by decide)) decide_eq_true fun l r hi _ => liveWrite_capW hi
    · exact onState_wrote g ctrlMode_liveRow (hb (by decide)) decide_eq_true fun l r hi _ =>
        (liveWrite_ctrlMode hi).trans (congrArg (Prod.mk okReply) (Dev.ctrlEstimate_back hm))
    · have hx : exec (.portReset h v) s = onState (h.port < 66 && v < 8) (fun s => s.serveWrite h (0x5060 + v) 1 1 1) s := rfl
      exact hx.trans (onState_wrote g (portReset_liveRow v hv) (hb (by decide)) (fun hp => by simp [hp, hv]) fun l r hi hst =>
        liveWrite_portReset hi hst hv)
    · exact onState_wrote g svnCommit_liveRow hsvn decide_eq_true fun l r hi _ =>
        (liveWrite_svnCommit hi).trans (if_neg (Nat.not_lt.mpr hv))
    · exact onState_refused g svnCommit_liveRow hsvn decide_eq_true fun l r hi _ => (liveWrite_svnCommit hi).trans (if_pos hv)
    · exact onState_wrote g ftSet_liveRow (hb (by decide)) decide_eq_true fun l r hi _ => liveWrite_ftSet_steps hi hm hr
    · exact onState_wrote g ftSet_liveRow (hb (by decide)) decide_eq_true fun l r hi _ => liveWrite_ftSet_pends hi hm hr
    · exact onState_refused g ftSet_liveRow (hb (by decide)) decide_eq_true fun l r hi _ =>
        (liveWrite_ftSet hi).trans (if_neg (Bool.eq_false_iff.mp hm))
  case fence =>
    obtain ⟨hmask, hhealth, hdom, hpres, hscan⟩ := Dev.fence_leaves hc hp hf ho hw hs
    have hbit : bit ((d.fence c 4).get K.FENCE_MASK) c = true := by rw [hmask, bit_withBit_true, if_pos rfl]
    refine ⟨hbit, hhealth, hdom, ?_, ?_, fun k _ hk => ?_⟩
    · simp only [Dev.coreState, hpres, hp, hscan, hbit, Bool.not_true, Bool.false_eq_true, if_false, if_true]
    · simp only [Dev.coreUsable, hbit, Bool.not_true, Bool.and_false]
    · rw [hmask, bit_withBit_true, if_neg hk]

end Sys2Proof.Machine
end

section
/-! Proofs: memories read what was written (R237, R239, R273, R279, R285). -/
namespace Sys2Proof.Machine

/-! ## Bytes and words -/

/-- Little-endian bytes of a number, read back. -/
theorem ofLE_bytes (w v : Nat) : ofLE ((List.range w).map (fun i => (BitVec.ofNat 8 (v / 256 ^ i)).toNat)) = v % 256 ^ w := by
  induction w generalizing v with
  | zero => simp [ofLE, Nat.mod_one]
  | succ w ih =>
    have hs : (List.range w).map ((fun i => (BitVec.ofNat 8 (v / 256 ^ i)).toNat) ∘ Nat.succ) =
        (List.range w).map (fun i => (BitVec.ofNat 8 (v / 256 / 256 ^ i)).toNat) := by
      refine List.map_congr_left fun i _ => ?_
      simp only [Function.comp, Nat.pow_succ, Nat.div_div_eq_div_mul, Nat.mul_comm]
    rw [List.range_succ_eq_map, List.map_cons, List.map_map, hs, ofLE, ih]
    have h0 : (BitVec.ofNat 8 (v / 256 ^ 0)).toNat = v % 256 := by simp
    have hm : v % 256 ^ (w + 1) = v % 256 + 256 * (v / 256 % 256 ^ w) := by rw [Nat.pow_succ, Nat.mul_comm, Nat.mod_mul]
    omega

theorem packMag_rne_le (f m : Nat) (e : Int) : packMag .rne f m e ≤ 255 <<< f := by
  unfold packMag
  split
  · exact Nat.zero_le _
  · extract_lets top q n code
    split
    · exact Nat.le_refl _
    · omega

/-- FP32 bits are bits of 32. -/
theorem toF32_lt (v : Fv) : toF32 v < 2 ^ 32 := by
  have hs (s : Bool) : signBit 23 s ≤ 2 ^ 31 := by cases s <;> decide
  cases v with
  | nan => decide
  | inf s =>
    have := hs s
    have hx : toF32 (.inf s) = signBit 23 s + 255 * 2 ^ 23 := pack_inf .rne 23 s
    omega
  | num s m e =>
    have := hs s
    have hp := packMag_rne_le 23 m e
    rw [Nat.shiftLeft_eq] at hp
    have hx : toF32 (.num s m e) = signBit 23 s + packMag .rne 23 m e := pack_num .rne 23 s m e
    omega

/-! ## Scratchpads (R237, R239) -/

section
variable (k : Core) (mem w : Nat) (bs : List (Nat × Byte))

theorem Core.foldl_touch_eq : ∃ dirty resident src,
    bs.foldl (fun k e => k.touch mem e.1) k = { k with dirty := dirty, resident := resident, src := src } := by
  refine List.foldlRecOn (motive := fun x : Core => ∃ dirty resident src,
    x = { k with dirty := dirty, resident := resident, src := src }) bs _ ⟨_, _, _, rfl⟩ fun x hx e _ => ?_
  obtain ⟨dirty, resident, src, rfl⟩ := hx
  exact ⟨_, _, _, rfl⟩

theorem Core.foldl_poke_eq {β : Type} (f : β → Nat) (g : β → Byte) (l : List β) :
    l.foldl (fun k e => k.poke mem (f e) (g e)) k =
      { k with sp := (l.map (fun e => (spKey mem (f e), g e))).foldl (fun m o => Map.set m 0 o.1 o.2) k.sp } := by
  induction l generalizing k with
  | nil => rfl
  | cons e l ih => rw [List.foldl_cons, ih]; rfl

/-- A write into a readable word sets its bytes and reports nothing. -/
theorem Core.writeWord_sound (hb : k.badWord (mem * 0x20000 + w) = false) :
    (k.writeWord mem w bs).2 = false ∧
    (k.writeWord mem w bs).1.sp = (bs.map (fun e => (spKey mem e.1, e.2))).foldl (fun m o => Map.set m 0 o.1 o.2) k.sp ∧
    (k.writeWord mem w bs).1.poison = Map.set k.poison false (mem * 0x20000 + w) false ∧
    (k.writeWord mem w bs).1.flaw = Map.set k.flaw .clean (mem * 0x20000 + w) .clean := by
  obtain ⟨dirty, resident, src, ht⟩ := k.foldl_touch_eq mem bs
  simp only [Core.writeWord, hb, ht, Bool.false_and, Bool.false_eq_true, if_false, Core.foldl_poke_eq, and_self]

end

theorem groupBy_flatten {α : Type} (f : α → Nat) (l : List α) : (groupBy f l).flatMap Prod.snd = l := by
  induction l with
  | nil => rfl
  | cons x l ih =>
    unfold groupBy
    split
    next k g t h =>
      rw [h] at ih
      rw [← ih]
      split <;> rfl
    next h =>
      rw [h] at ih
      rw [← ih]
      rfl

/-- A scratchpad without words in error. -/
structure Core.Sound (k : Core) : Prop where
  poison : k.poison = []
  flaw : k.flaw = []

theorem Core.Sound.badWord {k : Core} (h : k.Sound) (key : Nat) : k.badWord key = false := by
  unfold Core.badWord
  rw [h.poison, h.flaw]
  rfl

/-- The words of a write into a sound scratchpad, one after the other. -/
theorem Core.foldl_writeWord_sound {k : Core} (h : k.Sound) (mem : Nat) (gs : List (Nat × List (Nat × Byte))) :
    ∃ k' : Core, gs.foldl (fun (a : Core × List Nat) g =>
        let (k', b) := a.1.writeWord mem g.1 g.2
        (k', if b then a.2 ++ [g.1] else a.2)) (k, []) = (k', []) ∧ k'.Sound ∧
      k'.sp = ((gs.flatMap Prod.snd).map (fun e => (spKey mem e.1, e.2))).foldl (fun m o => Map.set m 0 o.1 o.2) k.sp := by
  induction gs generalizing k with
  | nil => exact ⟨k, rfl, h, rfl⟩
  | cons g gs ih =>
    obtain ⟨hw, hsp, hp, hf⟩ := k.writeWord_sound mem g.1 g.2 (h.badWord _)
    have hs : (k.writeWord mem g.1 g.2).1.Sound := ⟨by rw [hp, h.poison]; rfl, by rw [hf, h.flaw]; rfl⟩
    obtain ⟨k', hk, hs', hsp'⟩ := ih hs
    refine ⟨k', ?_, hs', ?_⟩
    · rw [List.foldl_cons, ← hk]
      dsimp only
      rw [hw, if_neg Bool.false_ne_true]
    · rw [hsp', hsp, List.flatMap_cons, List.map_append, List.foldl_append]

/-- A write into a sound scratchpad sets its bytes in order, and reports nothing. -/
theorem Core.write_sound {k : Core} (h : k.Sound) (mem : Nat) (bs : List (Nat × Byte)) :
    (k.write mem bs).2 = [] ∧ (k.write mem bs).1.Sound ∧
      (k.write mem bs).1.sp = (bs.map (fun e => (spKey mem e.1, e.2))).foldl (fun m o => Map.set m 0 o.1 o.2) k.sp := by
  obtain ⟨k', hk, hs, hsp⟩ := Core.foldl_writeWord_sound h mem (groupBy (fun e : Nat × Byte => e.1 / 8) bs)
  rw [groupBy_flatten] at hsp
  unfold Core.write
  rw [hk]
  exact ⟨rfl, hs, hsp⟩

theorem spKey_inj {m o m' o' : Nat} (ho : o < 0x100000) (ho' : o' < 0x100000) (h : spKey m o = spKey m' o') : m = m' ∧ o = o' := by
  unfold spKey at h
  omega

theorem spSize_le (mem : Nat) : spSize mem ≤ 0x100000 := by
  unfold spSize
  split <;> decide

section
variable {k : Core} (h : k.Sound) {mem : Nat} {bs : List (Nat × Byte)} (hbs : ∀ e ∈ bs, e.1 < 0x100000)
include h hbs

/-- A byte that a write of distinct bytes names reads as written. -/
theorem Core.byte_write_mem (hd : (bs.map Prod.fst).Nodup) {e : Nat × Byte} (he : e ∈ bs) : (k.write mem bs).1.byte mem e.1 = e.2 := by
  unfold Core.byte
  rw [(Core.write_sound h mem bs).2.2]
  refine Map.get_foldl_set_all _ _ _ _ (fun x hx hk => ?_) (.inr (List.mem_map.mpr ⟨e, he, rfl⟩))
  obtain ⟨y, hy, rfl⟩ := List.mem_map.mp hx
  have hoff := (spKey_inj (hbs y hy) (hbs e he) hk).2
  rw [List.inj_on_of_nodup_map hd hy he hoff]

/-- Another byte stands. -/
theorem Core.byte_write_ne {m o : Nat} (ho : o < 0x100000) (hn : ¬(m = mem ∧ o ∈ bs.map Prod.fst)) :
    (k.write mem bs).1.byte m o = k.byte m o := by
  unfold Core.byte
  rw [(Core.write_sound h mem bs).2.2]
  refine Map.get_foldl_set_none _ _ _ _ fun x hx hk => ?_
  obtain ⟨y, hy, rfl⟩ := List.mem_map.mp hx
  obtain ⟨hm, hoff⟩ := spKey_inj (hbs y hy) ho hk
  exact hn ⟨hm.symm, List.mem_map.mpr ⟨y, hy, hoff⟩⟩

end

/-- A byte written into an unreadable word, but for PM: the word is readable, the rest of it 0, and the write is reported. -/
theorem Core.write_unreadable {k : Core} {mem o : Nat} (b : Byte) (hm : mem ≠ 2) (hb : k.bad mem o = true) :
    (k.write mem [(o, b)]).2 = [o / 8] ∧ (k.write mem [(o, b)]).1.bad mem o = false ∧ (k.write mem [(o, b)]).1.byte mem o = b ∧
      ∀ i, i / 8 = o / 8 → i ≠ o → (k.write mem [(o, b)]).1.byte mem i = 0 := by
  have hkey : spKey mem o / 8 = mem * 0x20000 + o / 8 := by unfold spKey; omega
  have hbad : k.badWord (mem * 0x20000 + o / 8) = true := by rw [← hkey]; exact hb
  have hwhole : (List.range 8).all (fun i => [(o, b)].any (fun e => e.1 == 8 * (o / 8) + i)) = false := by
    rw [Bool.eq_false_iff]
    intro h
    simp only [List.all_eq_true, List.mem_range, List.any_cons, List.any_nil, Bool.or_false, beq_iff_eq] at h
    have h0 := h 0 (by decide)
    have h1 := h 1 (by decide)
    omega
  obtain ⟨dirty, resident, src, ht⟩ := k.foldl_touch_eq mem [(o, b)]
  have hfill (i : Nat) : (if mem = 2 && !([(o, b)].any fun e => e.1 / 4 == (8 * (o / 8) + i) / 4) then
      (if i % 4 = 3 then (0x7F : Byte) else if i % 4 = 2 then 0xC0 else 0) else 0) = 0 := by simp [hm]
  obtain ⟨x, hx, hp, hf, hsp⟩ : ∃ x : Core, k.writeWord mem (o / 8) [(o, b)] = (x, true) ∧
      x.poison = Map.set k.poison false (mem * 0x20000 + o / 8) false ∧
      x.flaw = Map.set k.flaw .clean (mem * 0x20000 + o / 8) .clean ∧
      x.sp = Map.set (((List.range 8).map (fun i => (spKey mem (8 * (o / 8) + i), (0 : Byte)))).foldl
        (fun m o => Map.set m 0 o.1 o.2) k.sp) 0 (spKey mem o) b := by
    simp only [Core.writeWord, hbad, ht, hwhole, Bool.not_false, Bool.and_self, if_true, hfill, Core.foldl_poke_eq]
    exact ⟨_, rfl, rfl, rfl, rfl⟩
  have hw : k.write mem [(o, b)] = (x, [o / 8]) := by
    simp only [Core.write, groupBy, List.foldl_cons, List.foldl_nil, List.nil_append, hx, if_true]
  rw [hw]
  refine ⟨rfl, ?_, ?_, fun i hi hne => ?_⟩
  · unfold Core.bad Core.badWord
    rw [hkey, hp, hf, Map.get_set_self, Map.get_set_self]
    rfl
  · unfold Core.byte
    rw [hsp, Map.get_set_self]
  · unfold Core.byte
    rw [hsp, Map.get_set_ne _ _ _ (by unfold spKey; omega)]
    refine Map.get_foldl_set_all _ _ _ _ (fun e he _ => ?_) (.inr (List.mem_map.mpr ⟨i % 8, List.mem_range.mpr (by omega), ?_⟩))
    · obtain ⟨j, -, rfl⟩ := List.mem_map.mp he
      rfl
    · rw [← hi, Nat.div_add_mod]

/-! ## HBM (R273, R279, R280) -/

/-- The stored block of an owned channel's byte does not hang on the stored bytes of another channel. -/
theorem Dev.rawBlock_set (d : Dev) {x y : Nat} (b : Byte) (h : x / chBytes ≠ y / chBytes) :
    ({ d with mem := { d.mem with raw := Map.set d.mem.raw 0 x b } } : Dev).rawBlock (y / 128) (y % 128 / 16) =
      d.rawBlock (y / 128) (y % 128 / 16) := by
  unfold Dev.rawBlock
  refine congrArg ofLE (List.map_congr_left fun i hi => ?_)
  have hi := List.mem_range.mp hi
  rw [Map.get_set_ne]
  intro he
  have : (128 * (y / 128) + 16 * (y % 128 / 16) + i) / chBytes = y / chBytes := by
    unfold chBytes
    omega
  rw [he] at this
  exact h this

theorem Dev.hbmByte_set (d : Dev) {x : Nat} (b : Byte) (ht : d.tableAt x = none) :
    (d.setHbmByte x b).hbmByte x = b ∧ ∀ y, y ≠ x → (d.setHbmByte x b).hbmByte y = d.hbmByte y := by
  unfold Dev.setHbmByte
  split
  next ho =>
    set e : Dev := { d with mem := { d.mem with cells := Map.ins d.mem.cells x b } } with he
    have htab (y : Nat) : e.tableAt y = d.tableAt y := rfl
    have hown (k : Nat) : e.owner k = d.owner k := rfl
    refine ⟨?_, fun y hy => ?_⟩
    · unfold Dev.hbmByte
      dsimp only
      rw [htab, ht, hown, if_pos ho]
      exact Map.get_ins_self _ _ _ _
    · unfold Dev.hbmByte
      dsimp only
      rw [htab, hown]
      split
      · rfl
      · split
        · exact Map.get_ins_ne _ _ _ hy
        · rfl
  next ho =>
    set e : Dev := { d with mem := { d.mem with raw := Map.set d.mem.raw 0 x b } } with he
    have htab (y : Nat) : e.tableAt y = d.tableAt y := rfl
    have hown (k : Nat) : e.owner k = d.owner k := rfl
    refine ⟨?_, fun y hy => ?_⟩
    · unfold Dev.hbmByte
      dsimp only
      rw [htab, ht, hown, if_neg ho]
      exact Map.get_set_self _ _ _ _
    · unfold Dev.hbmByte
      dsimp only
      rw [htab, hown]
      split
      · rfl
      · split
        next hy' =>
          have hun : e.unwritten (d.owner (y / chBytes)) y = d.unwritten (d.owner (y / chBytes)) y := by
            have hne : x / chBytes ≠ y / chBytes := fun hc => ho (by rw [hc]; exact hy')
            unfold Dev.unwritten
            dsimp only
            rw [he, d.rawBlock_set (x := x) (y := y) b hne]
            rfl
          rw [hun]
        · exact Map.get_set_ne _ _ _ hy

/-! ## Accumulation areas (R285) -/

/-- Entries of one key are one group. -/
theorem groupBy_const {α : Type} {f : α → Nat} {n : Nat} {x : α} {l : List α} (h : ∀ y ∈ x :: l, f y = n) :
    groupBy f (x :: l) = [(n, x :: l)] := by
  induction l generalizing x with
  | nil => simp [groupBy, h x]
  | cons y l ih =>
    have hx := h x List.mem_cons_self
    have hr := ih fun z hz => h z (List.mem_cons_of_mem _ hz)
    unfold groupBy
    rw [hr]
    exact if_pos hx.symm

/-- The four bytes of a 32-bit element, stored low byte first, read back. -/
theorem ofLE_stored (m : Map Byte) (o v : Nat) (hv : v < 2 ^ 32) :
    ofLE ((List.range 4).map (fun i => (Map.get ((List.range 4).foldl (fun m i => Map.set m 0 (o + i) (BitVec.ofNat 8 (v / 256 ^ i))) m)
      0 (o + i)).toNat)) = v := by
  have hget : ∀ i ∈ List.range 4, (Map.get ((List.range 4).foldl (fun m i => Map.set m 0 (o + i) (BitVec.ofNat 8 (v / 256 ^ i))) m)
      0 (o + i)).toNat = (BitVec.ofNat 8 (v / 256 ^ i)).toNat := by
    intro i hi
    have hf : (List.range 4).foldl (fun m i => Map.set m 0 (o + i) (BitVec.ofNat 8 (v / 256 ^ i))) m =
        ((List.range 4).map (fun i => (o + i, BitVec.ofNat 8 (v / 256 ^ i)))).foldl (fun m e => Map.set m 0 e.1 e.2) m :=
      (List.foldl_map (f := fun i => (o + i, BitVec.ofNat 8 (v / 256 ^ i))) (g := fun (m : Map Byte) e => Map.set m 0 e.1 e.2)).symm
    rw [hf]
    refine congrArg _ (Map.get_foldl_set_all 0 _ _ (o + i) (fun e he hk => ?_) (.inr ?_))
    on_goal 2 => exact List.mem_map.mpr ⟨i, hi, rfl⟩
    obtain ⟨j, -, rfl⟩ := List.mem_map.mp he
    have hj : j = i := Nat.add_left_cancel hk
    rw [hj]
  rw [List.map_congr_left hget, ofLE_bytes, Nat.mod_eq_of_lt (by simpa using hv)]

theorem writeAcc_adds (d : Dev) {o v : Nat} (ho : o % 4 = 0) (hv : v < 2 ^ 32) (hb : Map.get d.mem.accBad false (o / 128) = false) :
    ofLE ((List.range 4).map (fun i => (Map.get (d.writeAcc true ((List.range 4).map (fun i => (o + i, BitVec.ofNat 8 (v / 256 ^ i))))).mem.acc
      0 (o + i)).toNat)) = f32Add (ofLE ((List.range 4).map (fun i => (Map.get d.mem.acc 0 (o + i)).toNat))) v := by
  generalize hbs : (List.range 4).map (fun i => (o + i, BitVec.ofNat 8 (v / 256 ^ i))) = bs
  have hmem : ∀ e ∈ bs, ∃ i < 4, e = (o + i, BitVec.ofNat 8 (v / 256 ^ i)) := by
    intro e he
    rw [← hbs] at he
    obtain ⟨i, hi, rfl⟩ := List.mem_map.mp he
    exact ⟨i, List.mem_range.mp hi, rfl⟩
  have hhit : (if d.mem.accBad.isEmpty then [] else
      ((bs.map (fun b => b.1 / 128)).eraseDups).filter (fun n => Map.get d.mem.accBad false n)) = [] := by
    split
    · rfl
    · refine List.filter_eq_nil_iff.mpr fun n hn => ?_
      obtain ⟨e, he, rfl⟩ := List.mem_map.mp (List.mem_eraseDups.mp hn)
      obtain ⟨i, hi, rfl⟩ := hmem e he
      have : (o + i) / 128 = o / 128 := by omega
      simp only [this, hb, Bool.false_eq_true, not_false_eq_true]
  have hgroup : groupBy (fun b : Nat × Byte => b.1 / 4) bs = [(o / 4, bs)] := by
    have key : ∀ e ∈ bs, e.1 / 4 = o / 4 := fun e he => by
      obtain ⟨i, hi, rfl⟩ := hmem e he
      show (o + i) / 4 = o / 4
      omega
    cases bs with
    | nil => cases hbs
    | cons b bs => exact groupBy_const key
  have hval : ofLE (bs.map (fun b => b.2.toNat)) = v := by
    rw [← hbs, List.map_map]
    exact (ofLE_bytes 4 v).trans (Nat.mod_eq_of_lt (by simpa using hv))
  have ho4 : 4 * (o / 4) = o := by omega
  unfold Dev.writeAcc
  extract_lets hit clear d1 st rd acc
  have h0 : hit = [] := hhit
  have hd1 : d1.mem = d.mem := by
    show hit.foldl clear d.mem = d.mem
    rw [h0]
    rfl
  have hacc : acc = st d.mem.acc o (f32Add (rd d.mem.acc o) v) := by
    unfold acc
    rw [if_pos rfl, hgroup, hd1]
    simp only [List.foldl_cons, List.foldl_nil, hval, ho4]
  show ofLE ((List.range 4).map (fun i => (Map.get acc 0 (o + i)).toNat)) = _
  rw [hacc]
  exact ofLE_stored _ _ _ (toF32_lt _)

/-- Settles O58: scratchpads by the words of a write, HBM by the channel's owner, accumulation areas by their elements. -/
theorem memoriesHold : Obligations.MemoriesHold := by
  unfold Obligations.MemoriesHold
  refine ⟨fun k mem bs _ hbs hd hp hf => ?write, fun k mem o b _ hm _ hb => k.write_unreadable b hm hb,
    fun d x b ht => d.hbmByte_set b ht, fun d o v ho hv hb => writeAcc_adds d ho hv hb⟩
  have h : k.Sound := ⟨hp, hf⟩
  have hbs' : ∀ e ∈ bs, e.1 < 0x100000 := fun e he => (hbs e he).trans_le (spSize_le mem)
  exact ⟨fun e he => Core.byte_write_mem h hbs' hd he, fun m o _ ho hn => Core.byte_write_ne h hbs' (ho.trans_le (spSize_le m)) hn,
    (Core.write_sound h mem bs).1, (Core.write_sound h mem bs).2.1.poison⟩

end Sys2Proof.Machine
end

section
/-! Proofs: what a pass leaves in PM (R139, R150 to R152, R166 to R169, R184). -/
namespace Sys2Proof.Machine

/-! ## Where a valid problem reads and writes (R143, R176) -/

theorem le_ceilDiv_mul (a : Nat) {b : Nat} (hb : 0 < b) : a ≤ ceilDiv a b * b := by
  unfold ceilDiv
  have := Nat.div_add_mod (a + b - 1) b
  have := Nat.mod_lt (a + b - 1) hb
  have := Nat.mul_comm b ((a + b - 1) / b)
  omega

theorem div_lt_ceilDiv {a x b : Nat} (hb : 0 < b) (h : x < a) : x / b < ceilDiv a b :=
  Nat.div_lt_of_lt_mul (h.trans_le (Nat.mul_comm b _ ▸ le_ceilDiv_mul a hb))

theorem e32_eq (f : Nat) : e32 f = 4 * elemBits f := by
  unfold elemBits e32
  split <;> rfl

/-- Column `j` of `c`, in row `i` of `r`. -/
theorem cell_lt {i j r c : Nat} (hi : i < r) (hj : j < c) : i * c + j < r * c :=
  calc i * c + j < i * c + c := Nat.add_lt_add_left hj _
    _ = (i + 1) * c := (Nat.succ_mul i c).symm
    _ ≤ r * c := Nat.mul_le_mul_right c hi

/-- What the checks of a problem say about the places it reads and writes. -/
structure Prob.Fits (q : Prob) (tfeed td : Bool) : Prop where
  w : ∀ s ∈ q.wSpans tfeed, s.1 + s.2 ≤ 0x100000
  s : ∀ s ∈ q.sSpans, s.1 + s.2 ≤ 0x100000
  pitch : (q.dRows td).2 ≤ q.dPitch
  last : q.lastEntry td ≤ 131071
  feed : q.sparse ≠ 0 → q.wSquare = false
  cols : q.sRowBytes ≤ q.sPitch

theorem Prob.fits_of_valid {q : Prob} {g rate : Nat} {tfeed td : Bool} (h : q.valid g rate tfeed td = true) : q.Fits tfeed td := by
  simp only [Prob.valid, Bool.and_eq_true, Bool.or_eq_true, beq_iff_eq, decide_eq_true_eq, List.all_eq_true, spanIn] at h
  obtain ⟨⟨⟨⟨⟨⟨⟨⟨⟨⟨⟨-, -⟩, hfeed⟩, -⟩, -⟩, -⟩, hpitch⟩, -⟩, hcols⟩, hw⟩, hs⟩, hlast⟩ := h
  refine ⟨fun s hx => (hw s hx).trans (spSize_le 0), fun s hx => (hs s hx).trans (spSize_le 1), ?_, hlast, fun hne => ?_, hcols⟩
  · cases td <;> exact hpitch
  · have := (hfeed.resolve_left hne).2
    cases hq : q.wSquare <;> simp_all

/-- The packed or logical positions of a weight row. -/
def Prob.Pos (q : Prob) (p : Nat) : Prop := if q.sparse = 0 then p < q.k else p < 32 * q.pb

section
variable {q : Prob} {tfeed td : Bool} (h : q.Fits tfeed td)
include h

theorem Prob.wBit_le {m p : Nat} (hm : m < q.m) (hp : q.Pos p) : q.wBit tfeed m p + elemBits q.wFmt ≤ 8 * 0x100000 := by
  have he := e32_eq q.wFmt
  have hw := h.w
  unfold Prob.wSpans at hw
  unfold Prob.wBit
  unfold Prob.Pos at hp
  generalize elemBits q.wFmt = b at he ⊢
  by_cases hs : q.sparse = 0
  · rw [if_pos hs] at hp
    simp only [hs, ne_eq, not_true_eq_false, if_false] at hw ⊢
    cases tfeed with
    | true =>
      have hx := hw _ (by rw [if_pos rfl]; exact List.mem_cons_self)
      rw [if_pos rfl]
      have hblk := cell_lt (div_lt_ceilDiv (b := 128) (by decide) hm) (div_lt_ceilDiv (b := 128) (by decide) hp)
      rw [Nat.mul_comm (ceilDiv q.m 128)] at hblk
      generalize m / 128 * ceilDiv q.k 128 + p / 128 = blk at hblk ⊢
      generalize ceilDiv q.k 128 * ceilDiv q.m 128 = blks at hblk hx
      have hin : 128 * (p % 128) + m % 128 + 1 ≤ 16384 := by omega
      have h1 : (128 * (p % 128) + m % 128) * b + b ≤ 16384 * b := Nat.succ_mul _ b ▸ Nat.mul_le_mul_right b hin
      have h2 : (blk + 1) * (512 * e32 q.wFmt) ≤ blks * (512 * e32 q.wFmt) := Nat.mul_le_mul_right _ hblk
      rw [Nat.add_mul, Nat.one_mul] at h2
      rw [← Nat.mul_assoc, ← Nat.mul_assoc] at h2
      omega
    | false =>
      have hx := hw (q.wElem + m * q.nb * e32 q.wFmt, q.kb * e32 q.wFmt)
        (List.mem_append_left _ (List.mem_map.mpr ⟨m, List.mem_range.mpr hm, rfl⟩))
      have hk : p + 1 ≤ q.kb * 32 := hp.trans_le (le_ceilDiv_mul q.k (by decide))
      have h1 : p * b + b ≤ q.kb * 32 * b := Nat.succ_mul _ b ▸ Nat.mul_le_mul_right b hk
      have h2 : q.kb * 32 * b = 8 * (q.kb * e32 q.wFmt) := by rw [he]; ring
      rw [if_neg Bool.false_ne_true]
      dsimp only at hx
      omega
  · rw [if_neg hs] at hp
    simp only [hs, ne_eq, not_false_eq_true, if_true] at hw ⊢
    have hx := hw (q.wElem + q.pb * e32 q.wFmt * m, q.pb * e32 q.wFmt)
      (List.mem_flatMap.mpr ⟨m, List.mem_range.mpr hm, List.mem_cons_self⟩)
    have h1 : p * b + b ≤ 32 * q.pb * b := Nat.succ_mul _ b ▸ Nat.mul_le_mul_right b hp
    have h2 : 32 * q.pb * b = 8 * (q.pb * e32 q.wFmt) := by rw [he]; ring
    dsimp only at hx
    omega

theorem Prob.wScaleAt_lt {m p : Nat} (hf : q.wFmt ≠ 8) (hm : m < q.m) (hp : q.Pos p) : q.wScaleAt tfeed m p < 0x100000 := by
  have hw := h.w
  unfold Prob.wSpans at hw
  unfold Prob.wScaleAt
  unfold Prob.Pos at hp
  by_cases hs : q.sparse = 0
  · rw [if_pos hs] at hp
    simp only [hs, hf, ne_eq, not_true_eq_false, if_false] at hw ⊢
    cases tfeed with
    | true =>
      have hx := hw _ (by rw [if_pos rfl]; exact List.mem_cons_of_mem _ List.mem_cons_self)
      rw [if_pos rfl]
      have hblk := cell_lt (div_lt_ceilDiv (b := 128) (by decide) hm) (div_lt_ceilDiv (b := 128) (by decide) hp)
      rw [Nat.mul_comm (ceilDiv q.m 128)] at hblk
      dsimp only at hx
      omega
    | false =>
      have hk : p / 32 < q.kb := div_lt_ceilDiv (by decide) hp
      rw [if_neg Bool.false_ne_true] at hw ⊢
      cases hq : q.wSquare with
      | true =>
        have hx := hw (q.wScale + m / 32 * q.nb, q.kb) (List.mem_append_right _ (by
          rw [hq, if_pos rfl]
          exact List.mem_map.mpr ⟨m / 32, List.mem_range.mpr (div_lt_ceilDiv (by decide) hm), rfl⟩))
        rw [if_pos rfl]
        dsimp only at hx
        omega
      | false =>
        have hx := hw (q.wScale + m * q.nb, q.kb) (List.mem_append_right _ (by
          rw [hq, if_neg Bool.false_ne_true]
          exact List.mem_map.mpr ⟨m, List.mem_range.mpr hm, rfl⟩))
        rw [if_neg Bool.false_ne_true]
        dsimp only at hx
        omega
  · rw [if_neg hs] at hp
    simp only [hs, ne_eq, not_false_eq_true, if_true] at hw ⊢
    have hx := hw (q.wScale + q.pb * m, q.pb) (List.mem_flatMap.mpr
      ⟨m, List.mem_range.mpr hm, List.mem_cons_of_mem _ (List.mem_cons_of_mem _ List.mem_cons_self)⟩)
    dsimp only at hx
    omega

/-- The bitmap of a group within the row's pitch. -/
theorem Prob.bitmap_le {m x : Nat} (hs : q.sparse ≠ 0) (hm : m < q.m) (hx : x ≤ 32 * q.nb) :
    8 * (q.wMeta + 4 * q.nb * m) + x ≤ 8 * 0x100000 := by
  have hw := h.w
  unfold Prob.wSpans at hw
  rw [if_pos hs] at hw
  have hy := hw (q.wMeta + 4 * q.nb * m, 4 * q.nb) (List.mem_flatMap.mpr
    ⟨m, List.mem_range.mpr hm, List.mem_cons_of_mem _ List.mem_cons_self⟩)
  dsimp only at hy
  omega

theorem Prob.sBit_le {x n : Nat} (hx : x < q.k) (hn : n < q.n) : q.sBit x n + elemBits q.sFmt ≤ 8 * 0x100000 := by
  have hrow : x < if q.sFmt = 8 then q.k else q.kb * 32 := by
    split
    · exact hx
    · exact hx.trans_le (le_ceilDiv_mul q.k (by decide))
  have hy := h.s (q.sElem + q.sPitch * x, q.sRowBytes) (List.mem_append_left _ (List.mem_map.mpr ⟨x, List.mem_range.mpr hrow, rfl⟩))
  have h1 : n * elemBits q.sFmt + elemBits q.sFmt ≤ q.n * elemBits q.sFmt := Nat.succ_mul n _ ▸ Nat.mul_le_mul_right _ hn
  have h2 : q.n * elemBits q.sFmt ≤ q.sRowBytes * 8 := le_ceilDiv_mul _ (by decide)
  unfold Prob.sBit
  dsimp only at hy
  omega

theorem Prob.sScaleAt_lt {x n : Nat} (hf : q.sFmt ≠ 8) (hx : x < q.k) (hn : n < q.n) : q.sScaleAt x n < 0x100000 := by
  have hk : x / 32 < q.kb := div_lt_ceilDiv (by decide) hx
  have hs := h.s
  unfold Prob.sSpans at hs
  rw [if_neg hf] at hs
  unfold Prob.sScaleAt
  cases hq : q.sSquare with
  | true =>
    have hy := hs (q.sScale, q.kb * ceilDiv q.n 32) (List.mem_append_right _ (by rw [if_neg hf, hq, if_pos rfl]; exact List.mem_singleton_self _))
    have := cell_lt hk (div_lt_ceilDiv (b := 32) (by decide) hn)
    rw [if_pos rfl]
    dsimp only at hy
    omega
  | false =>
    have hy := hs (q.sScale, q.kb * q.n) (List.mem_append_right _ (by rw [if_neg hf, hq, if_neg Bool.false_ne_true]; exact List.mem_singleton_self _))
    have := cell_lt hk hn
    rw [if_neg Bool.false_ne_true]
    dsimp only at hy
    omega

/-- Every entry of the destination lies in PM. -/
theorem Prob.entry_lt {m n : Nat} (hm : m < q.m) (hn : n < q.n) : q.entry td m n < 0x20000 := by
  have hl := h.last
  cases td with
  | true =>
    have : n * q.dPitch ≤ (q.n - 1) * q.dPitch := Nat.mul_le_mul_right _ (by omega)
    simp only [Prob.lastEntry, Prob.dRows, Prob.entry, if_true] at hl ⊢
    omega
  | false =>
    have : m * q.dPitch ≤ (q.m - 1) * q.dPitch := Nat.mul_le_mul_right _ (by omega)
    simp only [Prob.lastEntry, Prob.dRows, Prob.entry, Bool.false_eq_true, if_false] at hl ⊢
    omega

/-- Distinct outputs have distinct entries. -/
theorem Prob.entry_inj {m n m' n' : Nat} (hm : m < q.m) (hn : n < q.n) (hm' : m' < q.m) (hn' : n' < q.n)
    (he : q.entry td m n = q.entry td m' n') : m = m' ∧ n = n' := by
  have hp := h.pitch
  have inj {i j i' j' : Nat} (hj : j < q.dPitch) (hj' : j' < q.dPitch) (he : i * q.dPitch + j = i' * q.dPitch + j') : i = i' ∧ j = j' := by
    have hpos : 0 < q.dPitch := by omega
    have hd := congrArg (· / q.dPitch) he
    have hr := congrArg (· % q.dPitch) he
    simpa [Nat.mul_comm _ q.dPitch, Nat.mul_add_div hpos, Nat.mul_add_mod, Nat.div_eq_of_lt, Nat.mod_eq_of_lt, hj, hj'] using
      And.intro hd hr
  cases td with
  | true =>
    simp only [Prob.entry, Prob.dRows, if_true] at he hp
    exact (inj (i := n) (i' := n') (hm.trans_le hp) (hm'.trans_le hp) (by omega)).symm
  | false =>
    simp only [Prob.entry, Prob.dRows, Bool.false_eq_true, if_false] at he hp
    exact inj (i := m) (i' := m') (hn.trans_le hp) (hn'.trans_le hp) (by omega)

end

/-! ## An output is a matter of WM and AM -/

/-- Two cores without words in error hold the same bytes in WM and AM. -/
structure Core.Agree (a b : Core) : Prop where
  left : a.Sound
  right : b.Sound
  byte : ∀ mem o, mem < 2 → o < 0x100000 → a.byte mem o = b.byte mem o

theorem Core.Sound.sound {k : Core} (h : k.Sound) : k.sound = true := by
  simp [Core.sound, h.poison, h.flaw]

theorem Core.Sound.badBits {k : Core} (h : k.Sound) (mem b n : Nat) : k.badBits mem b n = false := by
  simp only [Core.badBits, Core.bad, h.badWord, Bool.or_self]

theorem sparse_pos {q : Prob} {p : Nat} (hs : q.sparse ≠ 0)
    (h : patGroup q.sparse * (p / patKeep q.sparse) + patGroup q.sparse ≤ 32 * q.nb) : q.Pos p := by
  unfold Prob.Pos
  rw [if_neg hs]
  have hfac : 0 < patFactor q.sparse := by unfold patFactor; split <;> omega
  have hnb : q.nb ≤ q.pb * patFactor q.sparse := le_ceilDiv_mul _ hfac
  have hkeep : patFactor q.sparse * patKeep q.sparse ≤ patGroup q.sparse ∧ 0 < patKeep q.sparse := by
    unfold patFactor patKeep patGroup
    split <;> (try split) <;> (try split) <;> omega
  by_contra hp
  have h1 : p < patKeep q.sparse * (p / patKeep q.sparse + 1) := Nat.lt_mul_div_succ p hkeep.2
  have h2 : patFactor q.sparse * p < patFactor q.sparse * (patKeep q.sparse * (p / patKeep q.sparse + 1)) := Nat.mul_lt_mul_of_pos_left h1 hfac
  have h3 : patFactor q.sparse * patKeep q.sparse * (p / patKeep q.sparse + 1) ≤ patGroup q.sparse * (p / patKeep q.sparse + 1) :=
    Nat.mul_le_mul_right _ hkeep.1
  have h4 : patFactor q.sparse * (32 * q.pb) ≤ patFactor q.sparse * p := Nat.mul_le_mul_left _ (by omega)
  rw [← Nat.mul_assoc] at h2
  have h5 : patFactor q.sparse * (32 * q.pb) = 32 * (q.pb * patFactor q.sparse) := by ring
  have h6 := h2.trans_le h3
  rw [Nat.mul_succ] at h6
  omega

/-- The positions of a band are positions of the row, and of K. -/
theorem Core.Sound.mem_bandPos {b : Core} (hb : b.Sound) {q : Prob} {rate m band : Nat} {x : Nat × Nat} (h : x ∈ b.bandPos q rate m band) : q.Pos x.1 ∧ x.2 < q.k := by
  obtain ⟨i, -, hi⟩ := List.mem_filterMap.mp h
  dsimp only at hi
  generalize 32 * (if rate = 1 then 2 else 1) * band + i = p at hi
  split at hi
  next hs =>
    split at hi
    next hk =>
      cases hi
      exact ⟨by rw [Prob.Pos, if_pos hs]; exact hk, hk⟩
    · cases hi
  next hs =>
    obtain ⟨y, hy, rfl⟩ := Option.map_eq_some_iff.mp hi
    simp only [Core.sparseTakes, hb.sound, Bool.not_true, Bool.false_and, Bool.false_eq_true, if_false] at hy
    split at hy
    next z hz =>
      split at hy
      next hk =>
        cases hy
        refine ⟨sparse_pos hs ?_, hk⟩
        unfold Core.sparsePos at hz
        dsimp only at hz
        split at hz
        next hle => exact hle
        · cases hz
      · cases hy
    · cases hy

section
variable {a b : Core} (hab : a.Agree b)
include hab

theorem Core.Agree.bitsAt {mem x n : Nat} (hm : mem < 2) (h : x + n ≤ 8 * 0x100000) : a.bitsAt mem x n = b.bitsAt mem x n := by
  unfold Core.bitsAt
  dsimp only
  rw [List.map_congr_left fun i hi => ?_]
  have := List.mem_range.mp hi
  rw [hab.byte mem _ hm (by omega)]

variable {q : Prob} {tfeed td : Bool} (hq : q.Fits tfeed td)
include hq

theorem Core.Agree.sparseTakes {m : Nat} (hs : q.sparse ≠ 0) (hm : m < q.m) (p : Nat) : a.sparseTakes q m p = b.sparseTakes q m p := by
  have hpos : a.sparsePos q m p = b.sparsePos q m p := by
    unfold Core.sparsePos
    dsimp only
    split
    next hle =>
      rw [hab.bitsAt (by decide) ?_]
      rw [Nat.add_assoc]
      exact Prob.bitmap_le hq hs hm hle
    · rfl
  simp only [Core.sparseTakes, hab.left.sound, hab.right.sound, Bool.not_true, Bool.false_and, Bool.false_eq_true, if_false, hpos]

theorem Core.Agree.wVal {m p : Nat} (hm : m < q.m) (hp : q.Pos p) : a.wVal q tfeed m p = b.wVal q tfeed m p := by
  unfold Core.wVal Core.wBlockBad
  simp only [hab.left.sound, hab.right.sound, hab.left.badBits, hab.right.badBits, if_true, Bool.false_eq_true, if_false,
    hab.bitsAt (mem := 0) (by decide) (Prob.wBit_le hq hm hp)]
  split
  · rfl
  next hf => rw [hab.byte 0 _ (by decide) (Prob.wScaleAt_lt hq hf hm hp)]

theorem Core.Agree.sVal {x n : Nat} (hx : x < q.k) (hn : n < q.n) : a.sVal q x n = b.sVal q x n := by
  unfold Core.sVal Core.sBlockBad
  simp only [hab.left.sound, hab.right.sound, hab.left.badBits, hab.right.badBits, if_true, Bool.false_eq_true, if_false,
    hab.bitsAt (mem := 1) (by decide) (Prob.sBit_le hq hx hn)]
  split
  · rfl
  next hf => rw [hab.byte 1 _ (by decide) (Prob.sScaleAt_lt hq hf hx hn)]

theorem Core.Agree.bandPos {m : Nat} (rate : Nat) (hm : m < q.m) (band : Nat) : a.bandPos q rate m band = b.bandPos q rate m band := by
  unfold Core.bandPos
  refine List.filterMap_congr fun i _ => ?_
  dsimp only
  split
  · rfl
  next hs => rw [hab.sparseTakes hq hs hm]

theorem Core.Agree.bandVal {m n : Nat} (hm : m < q.m) (hn : n < q.n) {ps : List (Nat × Nat)}
    (h : ∀ x ∈ ps, q.Pos x.1 ∧ x.2 < q.k) : a.bandVal q tfeed m n ps = b.bandVal q tfeed m n ps := by
  have hf : ps.foldl (fun v x => v.add ((a.wVal q tfeed m x.1).mul (a.sVal q x.2 n))) Fv.zero =
      ps.foldl (fun v x => v.add ((b.wVal q tfeed m x.1).mul (b.sVal q x.2 n))) Fv.zero := by
    refine List.foldl_ext _ _ _ fun v x hx => ?_
    rw [hab.wVal hq hm (h x hx).1, hab.sVal hq (h x hx).2 hn]
  unfold Core.bandVal
  rw [hf]

theorem Core.Agree.outVal {m n : Nat} (g rate : Nat) (hm : m < q.m) (hn : n < q.n) :
    a.outVal q g rate tfeed m n = b.outVal q g rate tfeed m n := by
  unfold Core.outVal
  refine List.foldl_ext _ _ _ fun v i _ => ?_
  rw [hab.bandPos hq rate hm i]
  have hmem (x) (h : x ∈ b.bandPos q rate m i) := hab.right.mem_bandPos h
  generalize b.bandPos q rate m i = ps at hmem
  cases ps with
  | nil => rfl
  | cons x ps =>
    dsimp only
    rw [hab.bandVal hq hm hn hmem]

end

theorem Core.outVal_lt (k : Core) (q : Prob) (g rate : Nat) (tfeed : Bool) (m n : Nat) : k.outVal q g rate tfeed m n < 2 ^ 32 := by
  refine List.foldlRecOn (motive := fun v => v < 2 ^ 32) _ _ (by decide) fun v hv i _ => ?_
  split
  · exact hv
  · exact toF32_lt _

/-! ## The drain -/

/-- What output (m, n) is to hold (R150). -/
def Core.target (k : Core) (p : Pass) (q : Prob) (m n : Nat) : Nat :=
  if p.acc then f32Add (k.word32 2 (4 * q.entry p.tdrain m n)) (k.outVal q 0 p.rate p.tfeed m n)
  else k.outVal q 0 p.rate p.tfeed m n

/-- Of a pass that a core `k` has in flight, the outputs of `D` have drained into `k'`, and nothing else has changed. -/
structure Core.Drained (k : Core) (p : Pass) (q : Prob) (D : Nat → Nat → Prop) (k' : Core) : Prop where
  sound : k'.Sound
  passes : k'.passes = [p]
  out : ∀ m n, m < q.m → n < q.n → D m n → k'.word32 2 (4 * q.entry p.tdrain m n) = k.target p q m n
  byte : ∀ mem o, o < 0x100000 → (mem = 2 → ∀ m n, m < q.m → n < q.n → D m n → o / 4 ≠ q.entry p.tdrain m n) →
    k'.byte mem o = k.byte mem o

theorem Core.word32_eq (k : Core) (mem o : Nat) : k.word32 mem o = ofLE ((List.range 4).map (fun i => (k.byte mem (o + i)).toNat)) := rfl

theorem Core.Drained.mono {k : Core} {p : Pass} {q : Prob} {D D' : Nat → Nat → Prop} {k' : Core} (h : k.Drained p q D k')
    (hd : ∀ m n, m < q.m → n < q.n → (D m n ↔ D' m n)) : k.Drained p q D' k' where
  sound := h.sound
  passes := h.passes
  out m n hm hn hx := h.out m n hm hn ((hd m n hm hn).mpr hx)
  byte mem o ho hx := h.byte mem o ho fun hm m n hm' hn hy => hx hm m n hm' hn ((hd m n hm' hn).mp hy)

section
variable {k : Core} {p : Pass} {q : Prob} (hs : k.Sound) (hq : q.Fits p.tfeed p.tdrain) (hg : p.gang = 0)
include hs hq hg

/-- One drain write. -/
theorem Core.Drained.one {D : Nat → Nat → Prop} {k' : Core} (h : k.Drained p q D k') {m n : Nat} (hm : m < q.m) (hn : n < q.n)
    (hnew : ¬D m n) : (k'.drainOne p q m n).2 = [] ∧
      k.Drained p q (fun a b => D a b ∨ (a = m ∧ b = n)) (k'.drainOne p q m n).1 := by
  have hagree : k'.Agree k := ⟨h.sound, hs, fun mem o hmem ho => h.byte mem o ho fun h2 => absurd h2 (by omega)⟩
  have he := Prob.entry_lt hq hm hn
  have hword : k'.word32 2 (4 * q.entry p.tdrain m n) = k.word32 2 (4 * q.entry p.tdrain m n) := by
    rw [Core.word32_eq, Core.word32_eq]
    refine congrArg ofLE (List.map_congr_left fun i hi => ?_)
    have hi := List.mem_range.mp hi
    rw [h.byte 2 _ (by omega) fun _ a b ha hb hab hx => ?_]
    obtain ⟨rfl, rfl⟩ := Prob.entry_inj hq hm hn ha hb (by omega)
    exact hnew hab
  have hval : (if p.acc then (if k'.bad 2 (4 * q.entry p.tdrain m n) then nanOf 23
        else f32Add (k'.word32 2 (4 * q.entry p.tdrain m n)) (k'.outVal q p.gang p.rate p.tfeed m n))
      else k'.outVal q p.gang p.rate p.tfeed m n) = k.target p q m n := by
    unfold Core.target Core.bad
    rw [h.sound.badWord, if_neg Bool.false_ne_true, hagree.outVal hq _ _ hm hn, hword, hg]
  have hlt : k.target p q m n < 2 ^ 32 := by
    unfold Core.target
    split
    · exact toF32_lt _
    · exact Core.outVal_lt ..
  have hfix (key : Nat) : k'.fixes key = false := by
    unfold Core.fixes
    rw [h.sound.flaw]
    rfl
  generalize hbs : (List.range 4).map (fun i => (4 * q.entry p.tdrain m n + i, BitVec.ofNat 8 (k.target p q m n / 256 ^ i))) = bs
  have hone : k'.drainOne p q m n = ((k'.write 2 bs).1, []) := by
    unfold Core.drainOne
    dsimp only
    rw [hval, hbs, hfix, Bool.and_false, if_neg Bool.false_ne_true, (Core.write_sound h.sound 2 bs).1]
    rfl
  have hoff : bs.map Prod.fst = (List.range 4).map (4 * q.entry p.tdrain m n + ·) := by
    rw [← hbs, List.map_map]
    rfl
  have hmem : ∀ e ∈ bs, e.1 < 0x100000 := by
    intro e hx
    obtain ⟨i, hi, hy⟩ := List.mem_map.mp (hoff ▸ List.mem_map_of_mem hx : e.1 ∈ _)
    have := List.mem_range.mp hi
    omega
  have hother : ∀ mem o, o < 0x100000 → (mem = 2 → o / 4 ≠ q.entry p.tdrain m n) → (k'.write 2 bs).1.byte mem o = k'.byte mem o := by
    refine fun mem o ho hne => Core.byte_write_ne h.sound hmem ho ?_
    rintro ⟨hm2, hx⟩
    rw [hoff] at hx
    obtain ⟨i, hi, rfl⟩ := List.mem_map.mp hx
    have := List.mem_range.mp hi
    exact hne hm2 (by omega)
  have hnodup : (bs.map Prod.fst).Nodup := by
    rw [hoff]
    exact List.nodup_range.map fun _ _ hx => Nat.add_left_cancel hx
  rw [hone]
  refine ⟨rfl, (Core.write_sound h.sound 2 bs).2.1, ?_, fun a b ha hb hd => ?_, fun mem o ho hne => ?_⟩
  · exact (congrArg Core.passes (k'.write_frame 2 bs)).trans h.passes
  · by_cases hab : a = m ∧ b = n
    · obtain ⟨rfl, rfl⟩ := hab
      rw [Core.word32_eq, List.map_congr_left (g := fun i => (BitVec.ofNat 8 (k.target p q a b / 256 ^ i)).toNat) fun i hi => ?_,
        ofLE_bytes, Nat.mod_eq_of_lt (by simpa using hlt)]
      have hx : (4 * q.entry p.tdrain a b + i, BitVec.ofNat 8 (k.target p q a b / 256 ^ i)) ∈ bs := by
        rw [← hbs]
        exact List.mem_map.mpr ⟨i, hi, rfl⟩
      exact congrArg _ (Core.byte_write_mem h.sound hmem hnodup hx)
    · rw [← h.out a b ha hb (hd.resolve_right hab), Core.word32_eq, Core.word32_eq]
      refine congrArg ofLE (List.map_congr_left fun i hi => ?_)
      have hi := List.mem_range.mp hi
      have hlt := Prob.entry_lt hq ha hb
      rw [hother 2 _ (by omega) fun _ hx => hab (Prob.entry_inj hq ha hb hm hn (by omega))]
  · rw [hother mem o ho fun hm2 => hne hm2 m n hm hn (.inr ⟨rfl, rfl⟩)]
    exact h.byte mem o ho fun hm2 a b ha hb hd => hne hm2 a b ha hb (.inl hd)

/-- The outputs whose offset in the pass is below `x` (R139). -/
def Prob.before (x m n : Nat) : Prop := 128 + m + n < x

theorem Core.Drained.at (hp : p.probs = [q]) (hj : q.j = 0) {off : Nat} {k' : Core} (h : k.Drained p q (Prob.before off) k') :
    (k'.drainAt p off).2 = [] ∧ k.Drained p q (Prob.before (off + 1)) (k'.drainAt p off).1 := by
  have hrows : ∀ r, r ≤ q.m → ∃ x, (List.range r).foldl (fun (a : Core × List Met) m =>
        let base := gangPhase p.gang q.j + 128 + gangInterval p.gang * m
        if base ≤ off && off < base + q.n then
          let (k, ws) := a.1.drainOne p q m (off - base)
          (k, a.2 ++ ws)
        else a) (k', []) = (x, []) ∧
      k.Drained p q (fun m n => Prob.before off m n ∨ (m < r ∧ 128 + m + n = off)) x := by
    intro r
    induction r with
    | zero => exact fun _ => ⟨k', rfl, h.mono fun m n _ _ => by simp⟩
    | succ r ih =>
      intro hr
      obtain ⟨x, hx, hd⟩ := ih (by omega)
      rw [List.range_succ, List.foldl_append, hx, List.foldl_cons, List.foldl_nil, hg, hj]
      have hb : gangPhase 0 0 + 128 + gangInterval 0 * r = 128 + r := by simp [gangPhase, gangInterval]
      dsimp only
      rw [hb]
      simp only [Bool.and_eq_true, decide_eq_true_eq, List.nil_append]
      split
      next hc =>
        obtain ⟨hw, hd'⟩ := hd.one hs hq hg (m := r) (n := off - (128 + r)) (by omega) (by omega) (by unfold Prob.before; omega)
        refine ⟨_, by rw [hw], hd'.mono fun m n _ _ => ?_⟩
        unfold Prob.before
        omega
      next hc =>
        refine ⟨x, rfl, hd.mono fun m n _ hn => ?_⟩
        unfold Prob.before
        omega
  obtain ⟨x, hx, hd⟩ := hrows q.m le_rfl
  have hat : k'.drainAt p off = (x, []) := by
    unfold Core.drainAt
    rw [hp]
    exact hx
  rw [hat]
  refine ⟨rfl, hd.mono fun m n hm _ => ?_⟩
  unfold Prob.before
  omega

/-- The drain of the pass, cycle for cycle. -/
theorem Core.Drained.cycles (hk : k.passes = [p]) (hp : p.probs = [q]) (hj : q.j = 0) (hdone : p.done = 0) {f : Nat} (hf : f ≤ p.fl.start)
    (n : Nat) : k.Drained p q (Prob.before (f + n - p.fl.start)) (k.drainCycles f n).1 := by
  suffices h : ∃ x, k.drainCycles f n = (x, []) ∧ k.Drained p q (Prob.before (f + n - p.fl.start)) x by
    obtain ⟨x, hx, hd⟩ := h
    rw [hx]
    exact hd
  unfold Core.drainCycles
  induction n with
  | zero =>
    refine ⟨k, rfl, hs, hk, fun m n _ _ hb => ?_, fun _ _ _ _ => rfl⟩
    unfold Prob.before at hb
    omega
  | succ n ih =>
    obtain ⟨x, hx, hd⟩ := ih
    rw [List.range_succ, List.foldl_append, hx, List.foldl_cons, List.foldl_nil]
    dsimp only
    rw [hd.passes, List.foldl_cons, List.foldl_nil, hdone, Nat.add_zero]
    split
    next hc =>
      obtain ⟨hw, hd'⟩ := hd.at hs hq hg hp hj
      rw [hw]
      refine ⟨_, rfl, ?_⟩
      rwa [show f + (n + 1) - p.fl.start = f + n - p.fl.start + 1 by omega]
    next hc =>
      refine ⟨x, rfl, hd.mono fun m n _ _ => ?_⟩
      unfold Prob.before
      omega

end

/-- Every output drains before the pass's last cycle (R139, R140, R142). -/
theorem Prob.before_dur {q : Prob} {rate : Nat} {tfeed td : Bool} (h : q.valid 0 rate tfeed td = true) {m n : Nat} (hm : m < q.m) (hn : n < q.n) :
    Prob.before (passDur 0 rate q.m) m n := by
  simp only [Prob.valid, Bool.and_eq_true, decide_eq_true_eq] at h
  obtain ⟨⟨⟨⟨⟨⟨⟨-, hw⟩, -⟩, -⟩, -⟩, -⟩, -⟩, -⟩ := h
  unfold gangWidth at hw
  unfold Prob.before passDur
  split at hw
  next hr =>
    have hw : q.n ≤ 128 := hw
    rw [if_pos hr]
    show _ < q.m + 255
    omega
  next hr =>
    have hw : q.n ≤ 512 := hw
    rw [if_neg hr]
    show _ < q.m + 639
    omega

/-- Settles O49: the drained outputs are an invariant of the drain, write by write; the entries are distinct, and an output
reads WM and AM alone. -/
theorem passComputes : Obligations.PassComputes := by
  intro k p q hk hp hg hdone hdur hj hv hpoison hflaw _
  have hs : k.Sound := ⟨hpoison, hflaw⟩
  have hq := Prob.fits_of_valid hv
  have hf : min k.drainFrom (p.fl.start + p.dur) ≤ p.fl.start := by
    have hx : k.drainFrom = min (2 ^ 200) (p.fl.start + p.done) := by
      unfold Core.drainFrom
      rw [hk]
      rfl
    omega
  have hd := Core.Drained.cycles hs hq hg hk hp hj hdone hf (p.fl.start + p.dur - min k.drainFrom (p.fl.start + p.dur))
  rw [show min k.drainFrom (p.fl.start + p.dur) + (p.fl.start + p.dur - min k.drainFrom (p.fl.start + p.dur)) - p.fl.start =
    passDur 0 p.rate q.m by omega] at hd
  refine ⟨fun m n hm hn => ?_, fun mem o ho hne => ?_, ?_⟩
  · exact hd.out m n hm hn (Prob.before_dur hv hm hn)
  · exact hd.byte mem o (ho.trans_le (spSize_le mem)) fun hm2 m n hm hn _ => hne hm2 m n hm hn
  · have := hq.pitch
    unfold Prob.dRows at this
    split at this <;> simp_all

end Sys2Proof.Machine
end

section
/-! Proofs: completion records and the error log (R28, R480, R484, R528, R534). -/
namespace Sys2Proof.Machine

/-! ## What a line's lookup leaves of the bytes -/

/-- The counters of the stage caches' lookups (sub-indices 0x13 to 0x15 of 0x4060 on) and of the stains (sub-index 9 of 0xE010 on). -/
def lookupKey (k : Nat) : Prop :=
  (0x406000 ≤ k ∧ k % 256 = 0x13) ∨ (0x406000 ≤ k ∧ k % 256 = 0x14) ∨ (0x406000 ≤ k ∧ k % 256 = 0x15) ∨ (0xE01000 ≤ k ∧ k < 0xE02000 ∧ k % 256 = 9)

/-- The channel of a byte of HBM is one of the package. -/
theorem chan_lt {x : Nat} (hx : x < 2 ^ 40) : x / chBytes < 1024 := by
  unfold chBytes
  omega

/-- `b` is `a` with some lookups counted: every byte of HBM, every key and every window stands, and no line becomes poisoned. -/
structure Dev.Looked (a b : Dev) : Prop where
  obj : Dev.ObjsBut lookupKey a b
  win : ∀ p, (b.part p).window = (a.part p).window
  keys : ∀ p, (b.part p).keys = (a.part p).keys
  cells : b.mem.cells = a.mem.cells
  raw : b.mem.raw = a.mem.raw
  poison : a.mem.poison = [] → b.mem.poison = []

namespace Dev.Looked

variable {a b c : Dev}

theorem refl (a : Dev) : Dev.Looked a a := ⟨.refl a, fun _ => rfl, fun _ => rfl, rfl, rfl, id⟩
theorem trans (h : Dev.Looked a b) (g : Dev.Looked b c) : Dev.Looked a c :=
  ⟨h.obj.trans g.obj, fun p => (g.win p).trans (h.win p), fun p => (g.keys p).trans (h.keys p), g.cells.trans h.cells, g.raw.trans h.raw,
    fun hp => g.poison (h.poison hp)⟩
theorem cnt (d : Dev) {o : Obj} (n : Nat) (ho : lookupKey o.key) : Dev.Looked d (d.cnt o n) :=
  ⟨.cnt d n ho, fun _ => rfl, fun _ => rfl, rfl, rfl, id⟩
theorem ite (p : Prop) [Decidable p] (h : p → Dev.Looked a b) (h' : ¬p → Dev.Looked a c) : Dev.Looked a (if p then b else c) := by
  split
  · exact h ‹_›
  · exact h' ‹_›

theorem owner (h : Dev.Looked a b) {k : Nat} (hk : k < 1024) : b.owner k = a.owner k :=
  h.obj _ (by simp only [lookupKey, K.CH_OWNER]; omega)

theorem tableAt (h : Dev.Looked a b) {x : Nat} (hx : x < 2 ^ 40) : b.tableAt x = a.tableAt x := by
  have hs : ∀ o, b.get (K.PART_STATE o) = a.get (K.PART_STATE o) := fun o => h.obj _ (by simp only [lookupKey, K.PART_STATE]; omega)
  have hw : ∀ o, b.get (K.WIN_TABLE_CH o) = a.get (K.WIN_TABLE_CH o) := fun o => h.obj _ (by simp only [lookupKey, K.WIN_TABLE_CH]; omega)
  unfold Dev.tableAt
  dsimp only
  rw [h.owner (chan_lt hx), hs, hw]

theorem hbmByte (h : Dev.Looked a b) {x : Nat} (hx : x < 2 ^ 40) : b.hbmByte x = a.hbmByte x := by
  unfold Dev.hbmByte Dev.unwritten Dev.rawBlock
  dsimp only
  rw [h.tableAt hx, h.owner (chan_lt hx), h.cells, h.raw, h.keys]
  simp only [h.win]

end Dev.Looked

theorem Dev.cacheTouch_looked (d : Dev) (line : Nat) (w al : Bool) (m : Nat) : Dev.Looked d (d.cacheTouch line w al m) := by
  have hh : ∀ q, lookupKey (K.SC_HITS q).key := fun q => by simp only [lookupKey, K.SC_HITS]; omega
  have hm : ∀ q, lookupKey (K.SC_MISSES q).key := fun q => by simp only [lookupKey, K.SC_MISSES]; omega
  have hw : ∀ q, lookupKey (K.SC_WRITEBACKS q).key := fun q => by simp only [lookupKey, K.SC_WRITEBACKS]; omega
  have act (d : Dev) (l : Nat) : Dev.Looked d (d.activate l) := ⟨.of_objs rfl, fun _ => rfl, fun _ => rfl, rfl, rfl, id⟩
  unfold Dev.cacheTouch
  extract_lets k own q base tree putLine d1 d2 pages allowed free way victim d3
  have hput (d : Dev) (w : Nat) (c : CLine) : Dev.Looked d (putLine d w c) := ⟨.of_objs rfl, fun _ => rfl, fun _ => rfl, rfl, rfl, id⟩
  have h2 : Dev.Looked d d2 := (Dev.Looked.cnt d 1 (hm q)).trans (.ite _ (fun _ => .refl _) fun _ => act _ _)
  have h3 : Dev.Looked d d3 := h2.trans (.ite _ (fun _ => (act _ _).trans (.cnt _ _ (hw q))) fun _ => .refl _)
  split
  · exact .refl d
  split
  · exact (hput _ _ _).trans (.cnt _ _ (hh q))
  split
  · exact h2
  · exact h3.trans (hput _ _ _)

theorem Dev.stain_looked (d : Dev) (kind unit p : Nat) : Dev.Looked d (d.stain kind unit p).2.2 := by
  have hk : ∀ s < 16, lookupKey (K.STAIN_APPLIED s).key := fun s hs => by simp only [lookupKey, K.STAIN_APPLIED]; omega
  unfold Dev.stain
  refine List.foldlRecOn (motive := fun a : Nat × Nat × Dev => Dev.Looked d a.2.2) _ _ (.refl d) fun a ha s hs => ?_
  have hs := List.mem_range.mp (List.mem_filter.mp hs).1
  have hn : Dev.Looked d { a.2.2 with stainN := Map.set a.2.2.stainN 0 s (Map.get a.2.2.stainN 0 s + 1) } :=
    ha.trans ⟨.of_objs rfl, fun _ => rfl, fun _ => rfl, rfl, rfl, id⟩
  dsimp only
  split
  · exact hn.trans (.cnt _ _ (hk s hs))
  · exact hn

theorem Dev.setPart_looked (d : Dev) (p : Nat) {x : Part} (hw : x.window = (d.part p).window) (hk : x.keys = (d.part p).keys) :
    Dev.Looked d (d.setPart p x) where
  obj := .of_objs rfl
  win q := by
    by_cases h : q = p
    · rw [h, Dev.part_setPart_self, hw]
    · rw [Dev.part_setPart_ne _ _ h]
  keys q := by
    by_cases h : q = p
    · rw [h, Dev.part_setPart_self, hk]
    · rw [Dev.part_setPart_ne _ _ h]
  cells := rfl
  raw := rfl
  poison := id

theorem Dev.meter_looked (d : Dev) (p : Nat) (w : Bool) (n : Nat) : Dev.Looked d (d.meter p w n) := by
  have win (d : Dev) (x : Pwr) : Dev.Looked d { d with pwr := x } := ⟨.of_objs rfl, fun _ => rfl, fun _ => rfl, rfl, rfl, id⟩
  have hp : Dev.Looked d (d.setPart p { d.part p with
      meters := Map.set (d.part p).meters 0 (if w then 3 else 2) (Map.get (d.part p).meters 0 (if w then 3 else 2) + n) }) :=
    Dev.setPart_looked d p rfl rfl
  unfold Dev.meter Dev.charge
  exact .ite _ (fun _ => .refl d) fun _ => .ite _ (fun _ => .refl d) fun _ =>
    .ite _ (fun _ => hp.trans (win _ _)) fun _ => .ite _ (fun _ => hp.trans (win _ _)) fun _ => hp

/-! ## A run of bytes written to HBM (R273, R278) -/

/-- `b` is `a` with bytes written: each reads as written, and every other byte as it did. -/
structure Dev.Wrote (a b : Dev) (bs : List (Nat × Byte)) : Prop where
  obj : Dev.ObjsBut lookupKey a b
  table : ∀ x < 2 ^ 40, b.tableAt x = a.tableAt x
  poison : a.mem.poison = [] → b.mem.poison = []
  byte : ∀ e ∈ bs, e.1 < 2 ^ 40 → b.hbmByte e.1 = e.2
  other : ∀ y < 2 ^ 40, y ∉ bs.map Prod.fst → b.hbmByte y = a.hbmByte y

namespace Dev.Wrote

variable {a b c : Dev} {xs ys : List (Nat × Byte)}

theorem of_looked (h : Dev.Looked a b) : Dev.Wrote a b [] where
  obj := h.obj
  table _ hx := h.tableAt hx
  poison := h.poison
  byte _ he := absurd he List.not_mem_nil
  other _ hy _ := h.hbmByte hy

theorem trans (h : Dev.Wrote a b xs) (g : Dev.Wrote b c ys) (hd : ((xs ++ ys).map Prod.fst).Nodup) : Dev.Wrote a c (xs ++ ys) where
  obj := h.obj.trans g.obj
  table x hx := (g.table x hx).trans (h.table x hx)
  poison hp := g.poison (h.poison hp)
  byte e he hl := by
    rw [List.map_append] at hd
    rcases List.mem_append.mp he with hx | hy
    · rw [g.other _ hl fun hy => List.disjoint_of_nodup_append hd (List.mem_map_of_mem hx) hy, h.byte e hx hl]
    · exact g.byte e hy hl
  other y hl hy := by
    rw [List.map_append, List.mem_append, not_or] at hy
    rw [g.other y hl hy.2, h.other y hl hy.1]

theorem looked (h : Dev.Wrote a b xs) (g : Dev.Looked b c) : Dev.Wrote a c xs where
  obj := h.obj.trans g.obj
  table x hx := (g.tableAt hx).trans (h.table x hx)
  poison hp := g.poison (h.poison hp)
  byte e he hl := (g.hbmByte hl).trans (h.byte e he hl)
  other y hl hy := (g.hbmByte hl).trans (h.other y hl hy)

theorem setHbmByte (d : Dev) {x : Nat} (v : Byte) (ht : d.tableAt x = none) : Dev.Wrote d (d.setHbmByte x v) [(x, v)] := by
  obtain ⟨hs, ho⟩ := d.hbmByte_set v ht
  refine ⟨?_, fun y _ => ?_, ?_, fun e he _ => ?_, fun y _ hy => ho y fun hx => hy (by rw [hx]; exact List.mem_singleton_self x)⟩
  · unfold Dev.setHbmByte
    exact .ite _ (fun _ => .of_objs rfl) fun _ => .of_objs rfl
  · unfold Dev.setHbmByte
    split <;> rfl
  · unfold Dev.setHbmByte
    split <;> exact id
  · rw [List.mem_singleton.mp he, hs]

/-- Bytes outside the window tables stay outside. -/
theorem free (h : Dev.Wrote a b xs) (ht : ∀ e ∈ ys, e.1 < 2 ^ 40 ∧ a.tableAt e.1 = none) : ∀ e ∈ ys, e.1 < 2 ^ 40 ∧ b.tableAt e.1 = none :=
  fun e he => ⟨(ht e he).1, (h.table _ (ht e he).1).trans (ht e he).2⟩

theorem setBytes {d : Dev} {bs : List (Nat × Byte)} (ht : ∀ e ∈ bs, e.1 < 2 ^ 40 ∧ d.tableAt e.1 = none) (hd : (bs.map Prod.fst).Nodup) :
    Dev.Wrote d (bs.foldl (fun d b => d.setHbmByte b.1 b.2) d) bs := by
  induction bs generalizing d with
  | nil => exact of_looked (.refl d)
  | cons e bs ih =>
    have h := setHbmByte d e.2 (ht e List.mem_cons_self).2
    exact h.trans (ys := bs) (ih (h.free fun x hx => ht x (List.mem_cons_of_mem _ hx)) (List.nodup_cons.mp hd).2) hd

end Dev.Wrote

theorem Dev.writeLine_wrote {d : Dev} (s : Iss) (line : Nat) {bs : List (Nat × Byte)} (hp : d.mem.poison = [])
    (ht : ∀ e ∈ bs, e.1 < 2 ^ 40 ∧ d.tableAt e.1 = none) (hd : (bs.map Prod.fst).Nodup) :
    (d.writeLine s line bs).1 = false ∧ Dev.Wrote d (d.writeLine s line bs).2 bs := by
  have hbad : Map.get d.mem.poison false line = false := by rw [hp]; rfl
  unfold Dev.writeLine
  extract_lets bad whole m1 d1 d2 d3 mask r
  have hb : bad = false := hbad
  have h1 : Dev.Looked d d1 := ⟨.of_objs rfl, fun _ => rfl, fun _ => rfl, rfl, rfl, fun h => by
    show Map.set d.mem.poison false line false = []
    rw [h]
    rfl⟩
  have h2 : d2 = d1 := if_neg (by rw [hb]; exact Bool.false_ne_true)
  clear_value d2
  subst h2
  have h3 : Dev.Wrote d d3 bs := (Dev.Wrote.of_looked h1).trans (ys := bs) (Dev.Wrote.setBytes ((Dev.Wrote.of_looked h1).free ht) hd) hd
  refine ⟨(congrArg (· && !whole) hb).trans (Bool.false_and _), h3.looked ?_⟩
  exact ((d3.cacheTouch_looked _ _ _ _).trans (Dev.stain_looked _ _ _ _)).trans ⟨.of_objs rfl, fun _ => rfl, fun _ => rfl, rfl, rfl, id⟩

/-- A run of HBM bytes is written line by line. -/
theorem chunks_hbm (ws : List (Nat × Byte)) : ∃ gs : List (Nat × List (Nat × Byte)),
    chunks (ws.map (fun e => (Loc.hbm e.1, e.2))) = gs.map (fun g => Chunk.line g.1 g.2) ∧ gs.flatMap Prod.snd = ws := by
  induction ws with
  | nil => exact ⟨[], rfl, rfl⟩
  | cons e ws ih =>
    obtain ⟨gs, hc, hf⟩ := ih
    have hl := hc
    unfold chunks at hl ⊢
    rw [List.map_cons, List.foldr_cons, hl, ← hf]
    cases gs with
    | nil => exact ⟨[(e.1 / 128, [e])], rfl, rfl⟩
    | cons g gs =>
      by_cases hn : g.1 = e.1 / 128
      · exact ⟨(g.1, e :: g.2) :: gs, if_pos hn, rfl⟩
      · exact ⟨(e.1 / 128, [e]) :: g :: gs, if_neg hn, rfl⟩

/-- Lines written one after the other. -/
theorem foldl_lines {s : Iss} {f : Bool × Dev → Chunk → Bool × Dev} {d : Dev} {gs : List (Nat × List (Nat × Byte))}
    (hf : ∀ d n g, f (false, d) (.line n g) = (false || (d.writeLine s n g).1, (d.writeLine s n g).2)) (hp : d.mem.poison = [])
    (ht : ∀ e ∈ gs.flatMap Prod.snd, e.1 < 2 ^ 40 ∧ d.tableAt e.1 = none) (hd : ((gs.flatMap Prod.snd).map Prod.fst).Nodup) :
    ∃ x, (gs.map (fun g => Chunk.line g.1 g.2)).foldl f (false, d) = (false, x) ∧ Dev.Wrote d x (gs.flatMap Prod.snd) := by
  induction gs generalizing d with
  | nil => exact ⟨d, rfl, .of_looked (.refl d)⟩
  | cons g gs ih =>
    rw [List.flatMap_cons] at ht hd
    obtain ⟨hb, hw⟩ := Dev.writeLine_wrote s g.1 hp (fun e he => ht e (List.mem_append_left _ he))
      (List.Nodup.of_append_left (List.map_append ▸ hd))
    obtain ⟨x, hx, hw'⟩ := ih (d := (d.writeLine s g.1 g.2).2) (hw.poison hp)
      (hw.free fun e he => ht e (List.mem_append_right _ he)) (List.Nodup.of_append_right (List.map_append ▸ hd))
    refine ⟨x, ?_, hw.trans hw' hd⟩
    rw [List.map_cons, List.foldl_cons, hf, hb]
    exact hx

theorem Dev.writeRun_wrote {d : Dev} (s : Iss) (e : Nat) {ws : List (Nat × Byte)} (hp : d.mem.poison = [])
    (ht : ∀ e ∈ ws, e.1 < 2 ^ 40 ∧ d.tableAt e.1 = none) (hd : (ws.map Prod.fst).Nodup) :
    (d.writeRun s e (ws.map (fun e => (Loc.hbm e.1, e.2)))).1 = false ∧
      Dev.Wrote d (d.writeRun s e (ws.map (fun e => (Loc.hbm e.1, e.2)))).2 ws := by
  obtain ⟨gs, hc, hf⟩ := chunks_hbm ws
  unfold Dev.writeRun
  extract_lets r
  subst hf
  have hr : ∃ x, r = (false, x) ∧ Dev.Wrote d x (gs.flatMap Prod.snd) := by
    show ∃ x, List.foldl _ (false, d) (chunks _) = (false, x) ∧ _
    rw [hc]
    exact foldl_lines (fun _ _ _ => rfl) hp ht hd
  obtain ⟨x, hx, hw⟩ := hr
  rw [hx]
  exact ⟨rfl, hw.looked (Dev.meter_looked _ _ _ _)⟩

/-! ## A completion record (R28, R534) -/

/-- A translated run has its length, and each of its places is the translation of an address. -/
theorem Dev.xlateRun_ok {d : Dev} {w : Who} {a n : Nat} {ls : List Loc} (h : d.xlateRun w a n = .ok ls) :
    ls.length = n ∧ ∀ l ∈ ls, ∃ i, d.xlate w (a + i) = .ok l := by
  unfold Dev.xlateRun at h
  suffices hx : ls.length = (List.range n).length ∧ ∀ l ∈ ls, ∃ i, d.xlate w (a + i) = .ok l by rwa [List.length_range] at hx
  generalize List.range n = is at h
  induction is generalizing ls with
  | nil => cases h; exact ⟨rfl, fun l hl => absurd hl List.not_mem_nil⟩
  | cons i is ih =>
    rw [List.foldr_cons] at h
    split at h
    · split at h <;> cases h
    next ls' hr =>
      obtain ⟨hlen, hmem⟩ := ih hr
      split at h
      next l hl =>
        cases h
        refine ⟨by rw [List.length_cons, List.length_cons, hlen], fun y hy => ?_⟩
        rcases List.mem_cons.mp hy with rfl | hy
        · exact ⟨i, hl⟩
        · exact hmem y hy
      · cases h

theorem bits_lt (w hi lo : Nat) : bits w hi lo < 2 ^ (hi + 1 - lo) := Nat.mod_lt _ (Nat.two_pow_pos _)

theorem Dev.xlate_hbm_lt {d : Dev} {w : Who} {a x : Nat} (h : d.xlate w a = .ok (.hbm x)) : x < 2 ^ 40 := by
  unfold Dev.xlate at h
  extract_lets dev o r c p own e at h
  split at h
  · cases h
  split at h
  · split at h
    · cases h
    · split at h
      next ho =>
        split at h
        · cases h
        · injection h with h
          injection h with h
          omega
      · split at h
        · cases h
        · split at h
          · cases h
          · split at h <;> cases h
  · split at h
    · cases h
    · split at h
      · cases h
      · split at h
        · split at h
          · injection h with h
            injection h with h
            have h1 := bits_lt e 20 2
            have h2 := bits_lt a 20 0
            omega
          · cases h
        · split at h <;> cases h

theorem Dev.xlateRun_congr {a b : Dev} (ho : b.objs = a.objs) (hw : ∀ p, (b.part p).window = (a.part p).window) (w : Who) (x n : Nat) :
    b.xlateRun w x n = a.xlateRun w x n := by
  have hx : b.xlate w = a.xlate w := by
    funext y
    have hg : ∀ o : Obj, b.get o = a.get o := get_objs ho
    have hown : ∀ k, b.owner k = a.owner k := fun k => hg _
    have huse : ∀ c, b.coreUsable c = a.coreUsable c := fun c => by simp only [Dev.coreUsable, hg]
    have hacc : ∀ q g p, b.accOpen q g p = a.accOpen q g p := fun q g p => by simp only [Dev.accOpen, hg]
    unfold Dev.xlate
    dsimp only
    rw [hg, hown, huse, hg, hg, hg, hw, hown]
    simp only [hacc]
  unfold Dev.xlateRun
  rw [hx]

theorem Dev.noteRing_looked (d : Dev) (e : Eng) (gen : Nat) (slots : List Nat) (new : List RingEntry) :
    Dev.Looked d (d.noteRing e gen slots new) ∧ (d.noteRing e gen slots new).objs = d.objs := by
  unfold Dev.noteRing
  split
  · exact ⟨.refl d, rfl⟩
  · exact ⟨Dev.setPart_looked d e.p rfl rfl, rfl⟩

/-- Bytes of a window address that the device itself writes. -/
theorem Dev.writeWin_wrote {d : Dev} (s : Iss) {w : Who} {a : Nat} {bytes : List Nat} {xs : List Nat} (hx : d.xlateRun w a bytes.length = .ok (xs.map Loc.hbm))
    (hp : d.mem.poison = []) (ht : ∀ x ∈ xs, d.tableAt x = none) (hd : xs.Nodup) :
    (d.writeWin s w a bytes).1 = stOK ∧ Dev.Wrote d (d.writeWin s w a bytes).2 (xs.zip (bytes.map (BitVec.ofNat 8))) := by
  have hlen : xs.length = bytes.length := by simpa using (Dev.xlateRun_ok hx).1
  have hlt : ∀ x ∈ xs, x < 2 ^ 40 := fun x hm =>
    have ⟨_, hi⟩ := (Dev.xlateRun_ok hx).2 _ (List.mem_map_of_mem hm)
    Dev.xlate_hbm_lt hi
  have hfst : (xs.zip (bytes.map (BitVec.ofNat 8))).map Prod.fst = xs := List.map_fst_zip (by simp [hlen])
  have hzip : (xs.map Loc.hbm).zip (bytes.map (BitVec.ofNat 8)) =
      (xs.zip (bytes.map (BitVec.ofNat 8))).map (fun e => (Loc.hbm e.1, e.2)) := by
    rw [List.zip_map_left]
    rfl
  obtain ⟨hb, hw⟩ := Dev.writeRun_wrote s 0 hp (ws := xs.zip (bytes.map (BitVec.ofNat 8)))
    (fun e he => ⟨hlt e.1 (hfst ▸ List.mem_map_of_mem he), ht e.1 (hfst ▸ List.mem_map_of_mem he)⟩) (by rwa [hfst])
  unfold Dev.writeWin
  rw [hx]
  dsimp only
  rw [if_neg (by simp [Loc.foreign]), hzip, hb]
  exact ⟨rfl, hw⟩

/-- The bytes of a completion record. -/
def recordBytes (e : Eng) (index status now : Nat) : List Nat := toLE 4 index ++ [status, e.k, 0, 0] ++ toLE 8 now

theorem toLE_lt {n v b : Nat} (h : b ∈ toLE n v) : b < 256 := by
  induction n generalizing v with
  | zero => cases h
  | succ n ih =>
    rcases List.mem_cons.mp h with rfl | h
    · exact Nat.mod_lt _ (by decide)
    · exact ih h

theorem recordBytes_lt {e : Eng} {index status now b : Nat} (he : e.ok = true) (hs : status < 256)
    (h : b ∈ recordBytes e index status now) : b < 256 := by
  have hk : e.k < 256 := by
    unfold Eng.ok Eng.isCore at he
    split at he
    next h4 => have := of_decide_eq_true h4; omega
    · split at he <;> simp_all
  simp only [recordBytes, List.mem_append, List.mem_cons, List.not_mem_nil, or_false] at h
  rcases h with (h | h | h | h | h) | h
  · exact toLE_lt h
  · omega
  · omega
  · omega
  · omega
  · exact toLE_lt h

/-- A ring's position is neither a lookup's counter nor the device's number. -/
theorem ringPos_kept {e : Eng} (he : e.ok = true) :
    ¬lookupKey (Dev.ringObjs e).2.2.key ∧ K.DEVICE_NUMBER.key ≠ (Dev.ringObjs e).2.2.key := by
  unfold Eng.ok at he
  unfold Dev.ringObjs
  split at he
  next hc =>
    rw [if_pos hc]
    have hk := of_decide_eq_true hc
    simp only [Bool.and_eq_true, decide_eq_true_eq] at he
    simp only [lookupKey, K.RING_POS, K.DEVICE_NUMBER]
    omega
  next hc =>
    rw [if_neg hc]
    split
    next h5 =>
      rw [if_pos h5] at he
      simp only [Bool.and_eq_true, decide_eq_true_eq] at he
      simp only [lookupKey, K.UP_RING_POS, K.DEVICE_NUMBER]
      omega
    next h5 =>
      rw [if_neg h5] at he
      simp only [Bool.and_eq_true, decide_eq_true_eq] at he
      simp only [lookupKey, K.RD_RING_POS, K.DEVICE_NUMBER]
      omega

/-- Every byte of a completion record on this device, and the ring's position behind it. -/
theorem Dev.record_wrote {d : Dev} {e : Eng} {index op status gen a v : Nat} {xs : List Nat} (he : e.ok = true) (hop : ¬(e.k = 3 ∧ op = 0x18))
    (hs : d.ringSlot e gen = (a, d.put (Dev.ringObjs e).2.2 v)) (hl : d.ringLater e gen = []) (hn : bits a 63 52 = d.get K.DEVICE_NUMBER)
    (hx : (d.put (Dev.ringObjs e).2.2 v).xlateRun ((d.put (Dev.ringObjs e).2.2 v).engWho e) a 16 = .ok (xs.map Loc.hbm)) (hd : xs.Nodup)
    (hp : d.mem.poison = []) (ht : ∀ x ∈ xs, (d.put (Dev.ringObjs e).2.2 v).tableAt x = none) :
    Dev.Wrote (d.put (Dev.ringObjs e).2.2 v) (d.record e index op status gen)
      (xs.zip ((recordBytes e index status d.now).map (BitVec.ofNat 8))) := by
  generalize hd' : d.put (Dev.ringObjs e).2.2 v = d' at *
  have hnow : d'.now = d.now := by rw [← hd']; rfl
  have hl' : d'.ringLater e gen = [] := by rw [← hd']; exact hl
  have hn' : bits a 63 52 = d'.get K.DEVICE_NUMBER := by rw [← hd', Dev.get_put_ne _ _ (ringPos_kept he).2]; exact hn
  have hp' : d'.mem.poison = [] := by rw [← hd']; exact hp
  have hlen : (recordBytes e index status d'.now).length = 16 := by simp [recordBytes, toLE]
  unfold Dev.record
  rw [if_neg (by simpa using hop)]
  dsimp only
  rw [hs]
  dsimp only
  rw [hl', ← hnow]
  rw [List.map_nil, List.nil_append]
  obtain ⟨hlook, hobjs⟩ := d'.noteRing_looked e gen [a] [{ tick := d'.now, gen := gen, eng := e.n, addr := a, bytes := recordBytes e index status d'.now }]
  change Dev.Looked d' (d'.noteRing e gen [a] [{ tick := d'.now, gen := gen, eng := e.n, addr := a, bytes := toLE 4 index ++ _ ++ _ }]) at hlook
  change (d'.noteRing e gen [a] [{ tick := d'.now, gen := gen, eng := e.n, addr := a, bytes := toLE 4 index ++ _ ++ _ }]).objs = _ at hobjs
  generalize d'.noteRing e gen [a] _ = d1 at hlook hobjs ⊢
  have hdev : d1.get K.DEVICE_NUMBER = d'.get K.DEVICE_NUMBER := get_objs hobjs _
  have hwho : d1.engWho e = d'.engWho e := by
    have hpart : d1.engPart e = d'.engPart e := by
      unfold Dev.engPart
      rw [get_objs hobjs]
    unfold Dev.engWho
    rw [hpart]
  have hx1 : d1.xlateRun (d1.engWho e) a 16 = .ok (xs.map Loc.hbm) := by rw [hwho, Dev.xlateRun_congr hobjs hlook.win, hx]
  have hlock : d1.winLocking (d1.engWho e) a 16 = false := by
    unfold Dev.winLocking
    rw [hx1]
    simp
  have hlt : ∀ x ∈ xs, x < 2 ^ 40 := fun x hm =>
    have ⟨_, hi⟩ := (Dev.xlateRun_ok hx).2 _ (List.mem_map_of_mem hm)
    Dev.xlate_hbm_lt hi
  obtain ⟨hst, hw⟩ := Dev.writeWin_wrote (d1.iss e index op) (bytes := recordBytes e index status d'.now) (hlen ▸ hx1) (hlook.poison hp')
    (fun x hm => (hlook.tableAt (hlt x hm)).trans (ht x hm)) hd
  have hall := (Dev.Wrote.of_looked hlook).trans hw (by
    rw [List.nil_append, List.map_fst_zip (by simpa [hlen] using (Dev.xlateRun_ok hx).1.le)]
    exact hd)
  rw [List.headD_cons, hlock, Bool.and_false, if_neg Bool.false_ne_true, if_pos (hn'.trans hdev.symm)]
  generalize hres : d1.writeWin (d1.iss e index op) (d1.engWho e) a _ = res at hst hall
  obtain ⟨st, d2⟩ := res
  change d1.writeWin (d1.iss e index op) (d1.engWho e) a (toLE 4 index ++ _ ++ _) = _ at hres
  rw [hres]
  dsimp only at hst hall ⊢
  rw [List.tail_cons, List.zip_nil_left, List.foldl_nil, if_pos (show st = 0 from hst)]
  exact hall

/-! ## The error log (R480, R484, R528) -/

theorem Dev.wakeDom_log (d : Dev) (x : Nat) : (d.wakeDom x).log = d.log := by
  unfold Dev.wakeDom
  dsimp only
  split
  · split <;> rfl
  · split <;> rfl

theorem Dev.notify_log (d : Dev) (ev st ix sub p : Nat) : (d.notify ev st ix sub p).log = d.log := by
  have henq (d : Dev) (l : Nat) (m : Msg) : (d.enqueue l m).log = d.log := by
    unfold Dev.enqueue
    dsimp only
    split <;> exact d.wakeDom_log _
  unfold Dev.notify Dev.send
  dsimp only
  split
  · exact henq _ _ _
  · rfl

theorem Dev.file_kept {d : Dev} {i : RecInfo} (h : d.log.ms = d.now / 62500 → d.log.inMs < 64) :
    ∃ r, (d.file i).log.recs = (r :: d.log.recs).take 4096 ∧ (d.file i).log.bkp = (r :: d.log.bkp).take 64 ∧ r.seq = d.get K.LOG_COUNT ∧
      r.tick = d.now ∧ r.cls = i.cls ∧ r.syndrome = i.syndrome ∧ r.aux = i.aux ∧ r.unit = i.unit ∧ r.status = i.status ∧
      (d.file i).get K.LOG_COUNT = addSat 64 (d.get K.LOG_COUNT) 1 ∧ (d.file i).log.alert = true := by
  unfold Dev.file
  extract_lets ms n lost seq r d1 d2 d3
  have hn : ¬64 ≤ n := by
    show ¬64 ≤ if d.log.ms = ms then d.log.inMs else 0
    split
    next hm => exact Nat.not_le.mpr (h hm)
    · decide
  rw [if_neg hn, Dev.notify_log]
  have h3 : d3.log = d1.log := by
    show (if i.part < 16 then d2.put (K.PART_LOG_LAST i.part) seq else d2).log = _
    split <;> rfl
  have hc : d3.get K.LOG_COUNT = addSat 64 (d.get K.LOG_COUNT) 1 := by
    have h2 : d2.get K.LOG_COUNT = addSat 64 (d.get K.LOG_COUNT) 1 := Dev.get_put_self _ _ _
    show (if i.part < 16 then d2.put (K.PART_LOG_LAST i.part) seq else d2).get K.LOG_COUNT = _
    split
    · rw [Dev.get_put_ne _ _ (by simp only [K.LOG_COUNT, K.PART_LOG_LAST]; omega), h2]
    · exact h2
  rw [Dev.notify_wakes d3 _ _ _ _ _ K.LOG_COUNT (by simp only [wakeKey, K.LOG_COUNT]; omega), hc, h3]
  exact ⟨r, rfl, rfl, rfl, rfl, rfl, rfl, rfl, rfl, rfl, rfl, rfl⟩

theorem Dev.file_dropped {d : Dev} {i : RecInfo} (hm : d.log.ms = d.now / 62500) (h : 64 ≤ d.log.inMs) :
    (d.file i).log.recs = d.log.recs ∧ (d.file i).get K.LOG_DROPPED = addSat 64 (d.get K.LOG_DROPPED) 1 ∧
      (d.file i).get K.LOG_COUNT = d.get K.LOG_COUNT := by
  unfold Dev.file
  dsimp only
  rw [if_pos (by rw [if_pos hm]; exact h)]
  refine ⟨rfl, ?_, ?_⟩
  · exact Dev.get_put_self _ _ _
  · exact Dev.get_put_ne _ _ (by decide)

/-- Settles O59: a record's sixteen bytes are written line by line, and the log's newest record is read off its filing. -/
theorem recordsKept : Obligations.RecordsKept := by
  refine ⟨fun d d' e index op status gen a xs he hop hgen _ _ hst hs hl hn hx hd hp ht => ?_,
    fun d i _ => ⟨Dev.file_kept, Dev.file_dropped⟩⟩
  have hslot : d.ringSlot e gen = (d.get (Dev.ringObjs e).1 + 16 * d.get (Dev.ringObjs e).2.2,
      d.put (Dev.ringObjs e).2.2 ((d.get (Dev.ringObjs e).2.2 + 1) % max 1 (d.get (Dev.ringObjs e).2.1))) := by
    unfold Dev.ringSlot
    dsimp only
    rw [if_pos hgen]
  obtain ⟨ha, rfl⟩ := Prod.mk.inj (hs.symm.trans hslot)
  have hw := Dev.record_wrote (index := index) (status := status) he hop hs hl hn hx hd hp ht
  refine ⟨ha, fun i x hi => ?_, ?_⟩
  · have hlt : x < 2 ^ 40 := by
      obtain ⟨j, hj⟩ := (Dev.xlateRun_ok hx).2 _ (List.mem_map_of_mem (List.mem_of_getElem? hi))
      exact Dev.xlate_hbm_lt hj
    have hlen : xs.length = 16 := by simpa using (Dev.xlateRun_ok hx).1
    have hi16 : i < (recordBytes e index status d.now).length := by
      have := (List.getElem?_eq_some_iff.mp hi).1
      simp only [recordBytes, toLE, List.length_append, List.length_cons, List.length_nil]
      omega
    have hb := List.getElem?_eq_getElem hi16
    have hz : (x, BitVec.ofNat 8 (recordBytes e index status d.now)[i]) ∈ xs.zip ((recordBytes e index status d.now).map (BitVec.ofNat 8)) := by
      refine List.mem_iff_getElem?.mpr ⟨i, ?_⟩
      rw [List.getElem?_zip_eq_some, List.getElem?_map, hb]
      exact ⟨hi, rfl⟩
    rw [hw.byte _ hz hlt, BitVec.toNat_ofNat, Nat.mod_eq_of_lt (recordBytes_lt he hst (List.getElem_mem hi16)),
      List.getD_eq_getElem?_getD]
    exact (congrArg (·.getD 0) hb).symm
  · rw [hw.obj _ (ringPos_kept he).1, Dev.get_put_self]

end Sys2Proof.Machine
end

section
/-! Proofs: partitions' meters and the energy ledger (R428, R456, R458). -/
namespace Sys2Proof.Machine

/-! ## What the books leave -/

/-- `b` is `a` but for objects, partitions' records, the error log, messages, power's bookkeeping and the scans that wait. -/
def Dev.Booked (a b : Dev) : Prop :=
  b = { a with objs := b.objs, parts := b.parts, log := b.log, links := b.links, msgId := b.msgId, pwr := b.pwr, scanQ := b.scanQ }

namespace Dev.Booked

variable {a b c : Dev}

theorem refl (a : Dev) : Dev.Booked a a := rfl
theorem trans (h : Dev.Booked a b) (g : Dev.Booked b c) : Dev.Booked a c := by
  unfold Dev.Booked at h g ⊢
  rw [g, h]
theorem ite (p : Prop) [Decidable p] (h : p → Dev.Booked a b) (h' : ¬p → Dev.Booked a c) : Dev.Booked a (if p then b else c) := by
  split
  · exact h ‹_›
  · exact h' ‹_›
theorem foldl {β : Type} (f : Dev → β → Dev) (l : List β) (h : ∀ d, ∀ x ∈ l, Dev.Booked d (f d x)) (d : Dev) : Dev.Booked d (l.foldl f d) :=
  List.foldlRecOn l f (refl d) fun b hb x hx => hb.trans (h b x hx)

theorem now (h : Dev.Booked a b) : b.now = a.now := by rw [show b = _ from h]
theorem cores (h : Dev.Booked a b) : b.cores = a.cores := by rw [show b = _ from h]
theorem mem (h : Dev.Booked a b) : b.mem = a.mem := by rw [show b = _ from h]

end Dev.Booked

theorem Dev.Sent.booked {a b : Dev} (h : Dev.Sent a b) : Dev.Booked a b := by
  unfold Dev.Booked
  rw [show b = _ from h]

theorem Dev.file_booked (d : Dev) (i : RecInfo) : Dev.Booked d (d.file i) := (d.file_sent i).booked

/-- `b` is `a` but for objects, partitions' records and power's bookkeeping. -/
def Dev.Accounted (a b : Dev) : Prop := b = { a with objs := b.objs, parts := b.parts, pwr := b.pwr }

namespace Dev.Accounted

variable {a b c : Dev}

theorem trans (h : Dev.Accounted a b) (g : Dev.Accounted b c) : Dev.Accounted a c := by
  unfold Dev.Accounted at h g ⊢
  rw [g, h]
theorem put (h : Dev.Accounted a b) (o : Obj) (v : Nat) : Dev.Accounted a (b.put o v) := h.trans rfl
theorem cnt (h : Dev.Accounted a b) (o : Obj) (n : Nat) : Dev.Accounted a (b.cnt o n) := h.put o _

end Dev.Accounted

/-! ## METER_UPDATE (R428) -/

/-- One partition's part of METER_UPDATE. -/
def Dev.meterPart (d : Dev) (p : Nat) : Dev :=
  let q := d.part p
  let m (i : Nat) : Nat := Map.get q.meters 0 i
  let (mj, d) := d.carryMj (100 + p) (m 1)
  let d := d.setPart p { d.part p with meters := [] }
  ((((((d.put (K.METER_TICK p) d.now).cnt (K.CORE_TICKS p) (m 0)).cnt (K.ENERGY_MJ p) mj).cnt (K.HBM_RD_BYTES p) (m 2)).cnt
    (K.HBM_WR_BYTES p) (m 3)).cnt (K.LINK_TX_BYTES p) (m 4))

theorem Dev.meterUpdate_due {d : Dev} (h : d.now % 62500 = 0) : d.meterUpdate = (List.range 16).foldl Dev.meterPart d := by
  unfold Dev.meterUpdate
  rw [if_neg (by simpa using h)]
  rfl

/-- What METER_UPDATE leaves of one partition: `d` before, `t` after. -/
structure Dev.Metered (d t : Dev) (p : Nat) : Prop where
  tick : t.get (K.METER_TICK p) = d.now
  meters : (t.part p).meters = []
  core : t.get (K.CORE_TICKS p) = addSat 64 (d.get (K.CORE_TICKS p)) (Map.get (d.part p).meters 0 0)
  energy : t.get (K.ENERGY_MJ p) = addSat 64 (d.get (K.ENERGY_MJ p)) ((Map.get d.pwr.carry 0 (100 + p) + Map.get (d.part p).meters 0 1) / 1000)
  read : t.get (K.HBM_RD_BYTES p) = addSat 64 (d.get (K.HBM_RD_BYTES p)) (Map.get (d.part p).meters 0 2)
  write : t.get (K.HBM_WR_BYTES p) = addSat 64 (d.get (K.HBM_WR_BYTES p)) (Map.get (d.part p).meters 0 3)
  link : t.get (K.LINK_TX_BYTES p) = addSat 64 (d.get (K.LINK_TX_BYTES p)) (Map.get (d.part p).meters 0 4)

/-- What METER_UPDATE reads of one partition is as it was. -/
structure Dev.Unmetered (d t : Dev) (p : Nat) : Prop where
  obj : ∀ o : Obj, o.key / 256 = 0x6100 + p → t.get o = d.get o
  part : t.part p = d.part p
  carry : Map.get t.pwr.carry 0 (100 + p) = Map.get d.pwr.carry 0 (100 + p)

@[simp] theorem Dev.carryMj_get (d : Dev) (k u : Nat) (o : Obj) : (d.carryMj k u).2.get o = d.get o := rfl
@[simp] theorem Dev.carryMj_now (d : Dev) (k u : Nat) : (d.carryMj k u).2.now = d.now := rfl
@[simp] theorem Dev.carryMj_part (d : Dev) (k u p : Nat) : (d.carryMj k u).2.part p = d.part p := rfl
theorem Dev.carryMj_carry_ne (d : Dev) {k k' : Nat} (u : Nat) (h : k' ≠ k) :
    Map.get (d.carryMj k u).2.pwr.carry 0 k' = Map.get d.pwr.carry 0 k' := Map.get_set_ne _ _ _ h

theorem Dev.meterPart_metered (d : Dev) (p : Nat) : Dev.Metered d (d.meterPart p) p := by
  constructor
  all_goals simp [Dev.meterPart, Dev.cnt, Dev.bump, Dev.get_put, Dev.carryMj, K.METER_TICK, K.CORE_TICKS, K.ENERGY_MJ, K.HBM_RD_BYTES,
    K.HBM_WR_BYTES, K.LINK_TX_BYTES]

theorem Dev.cnt_pwr (d : Dev) (o : Obj) (n : Nat) : (d.cnt o n).pwr = d.pwr := rfl
theorem Dev.cnt_part (d : Dev) (o : Obj) (n p : Nat) : (d.cnt o n).part p = d.part p := rfl
theorem Dev.put_part (d : Dev) (o : Obj) (v p : Nat) : (d.put o v).part p = d.part p := rfl

theorem Dev.meterPart_other (d : Dev) {p q : Nat} (h : q ≠ p) : Dev.Unmetered d (d.meterPart p) q where
  obj o ho := by
    have hk : ∀ i < 256, o.key ≠ (0x6100 + p) * 256 + i := by omega
    simp [Dev.meterPart, Dev.cnt, Dev.bump, Dev.get_put, K.METER_TICK, K.CORE_TICKS, K.ENERGY_MJ, K.HBM_RD_BYTES, K.HBM_WR_BYTES,
      K.LINK_TX_BYTES, hk]
  part := by
    unfold Dev.meterPart
    simp only [Dev.cnt_part, Dev.put_part]
    exact Dev.part_setPart_ne _ _ h
  carry := by
    unfold Dev.meterPart
    simp only [Dev.cnt_pwr, Dev.put_pwr, Dev.setPart_pwr]
    exact d.carryMj_carry_ne _ (by omega)

theorem Dev.meterPart_accounted (d : Dev) (p : Nat) : Dev.Accounted d (d.meterPart p) := by
  unfold Dev.meterPart
  extract_lets q m
  have h : Dev.Accounted d (d.carryMj (100 + p) (m 1)).2 := rfl
  have h' := h.trans (c := (d.carryMj (100 + p) (m 1)).2.setPart p { (d.carryMj (100 + p) (m 1)).2.part p with meters := [] }) rfl
  exact (((((h'.put _ _).cnt _ _).cnt _ _).cnt _ _).cnt _ _).cnt _ _

/-- The partitions one after the other: each is metered once, from what METER_UPDATE found. -/
theorem Dev.meterParts (d : Dev) (n : Nat) : ∃ t, (List.range n).foldl Dev.meterPart d = t ∧
    Dev.Accounted d t ∧
    (∀ p < n, Dev.Metered d t p) ∧ ∀ p, n ≤ p → Dev.Unmetered d t p := by
  induction n with
  | zero => exact ⟨d, rfl, rfl, fun _ h => absurd h (Nat.not_lt_zero _), fun _ _ => ⟨fun _ _ => rfl, rfl, rfl⟩⟩
  | succ n ih =>
    obtain ⟨x, hx, hb, hm, hu⟩ := ih
    have hn := hu n le_rfl
    have hnow : x.now = d.now := by rw [show x = _ from hb]
    refine ⟨x.meterPart n, by rw [List.range_succ, List.foldl_append, hx]; rfl, hb.trans (x.meterPart_accounted n), fun p hp => ?_, fun p hp => ?_⟩
    · by_cases hpn : p = n
      · subst hpn
        have ho (i : Nat) (hi : i < 256) (v : Nat) : x.get ⟨(0x6100 + p) * 256 + i, v⟩ = d.get ⟨(0x6100 + p) * 256 + i, v⟩ :=
          hn.obj _ (by show ((0x6100 + p) * 256 + i) / 256 = _; omega)
        obtain ⟨h1, h2, h3, h4, h5, h6, h7⟩ := x.meterPart_metered p
        simp only [K.CORE_TICKS, K.ENERGY_MJ, K.HBM_RD_BYTES, K.HBM_WR_BYTES, K.LINK_TX_BYTES, hn.part, hn.carry, hnow,
          ho 2 (by decide), ho 3 (by decide), ho 4 (by decide), ho 5 (by decide), ho 6 (by decide)] at h1 h3 h4 h5 h6 h7
        exact ⟨h1, h2, h3, h4, h5, h6, h7⟩
      · have hp' := hm p (by omega)
        have hk := x.meterPart_other hpn
        generalize x.meterPart n = y at hk ⊢
        have ho (i : Nat) (hi : i < 256) (v : Nat) : y.get ⟨(0x6100 + p) * 256 + i, v⟩ = x.get ⟨(0x6100 + p) * 256 + i, v⟩ :=
          hk.obj _ (by show ((0x6100 + p) * 256 + i) / 256 = _; omega)
        exact ⟨(ho 1 (by decide) _).trans hp'.tick, hk.part ▸ hp'.meters, (ho 2 (by decide) _).trans hp'.core,
          (ho 3 (by decide) _).trans hp'.energy, (ho 4 (by decide) _).trans hp'.read, (ho 5 (by decide) _).trans hp'.write,
          (ho 6 (by decide) _).trans hp'.link⟩
    · have h1 := hu p (by omega)
      have h2 := x.meterPart_other (p := n) (q := p) (by omega)
      exact ⟨fun o ho => (h2.obj o ho).trans (h1.obj o ho), h2.part.trans h1.part, h2.carry.trans h1.carry⟩

/-! ## LEDGER_WINDOW_END (R456, R458) -/

/-- One rail's energy, its fraction carried. -/
def Dev.railCount (d : Dev) (x : Nat × Nat) : Dev := let (n, d) := d.carryMj x.2 x.1; d.cnt (K.RAIL_MJ x.2) n

theorem Dev.railCount_accounted (d : Dev) (x : Nat × Nat) : Dev.Accounted d (d.railCount x) :=
  Dev.Accounted.cnt (b := (d.carryMj x.2 x.1).2) rfl _ _

theorem Dev.railCount_objs (d : Dev) (x : Nat × Nat) : Dev.ObjsBut (fun k => k = (K.RAIL_MJ x.2).key) d (d.railCount x) :=
  .trans (b := (d.carryMj x.2 x.1).2) (.of_objs rfl) (.cnt _ _ rfl)

/-- The rails one after the other: each takes its own energy and carries its own fraction. -/
theorem Dev.rails_counted (d : Dev) (l : List Nat) (k : Nat) :
    (∀ i, (h : i < l.length) → ((l.zipIdx k).foldl Dev.railCount d).get (K.RAIL_MJ (k + i)) =
      addSat 64 (d.get (K.RAIL_MJ (k + i))) ((Map.get d.pwr.carry 0 (k + i) + l[i]) / 1000)) ∧
    Dev.ObjsBut (fun x => ∃ i < l.length, x = (K.RAIL_MJ (k + i)).key) d ((l.zipIdx k).foldl Dev.railCount d) ∧
    Dev.Accounted d ((l.zipIdx k).foldl Dev.railCount d) := by
  induction l generalizing d k with
  | nil => exact ⟨fun i h => absurd h (Nat.not_lt_zero i), .refl d, rfl⟩
  | cons m l ih =>
    rw [List.zipIdx_cons, List.foldl_cons]
    obtain ⟨hg, ho, ha⟩ := ih (d.railCount (m, k)) (k + 1)
    have hkey : ∀ i j, i ≠ j → (K.RAIL_MJ i).key ≠ (K.RAIL_MJ j).key := by
      intro i j hij
      simp only [K.RAIL_MJ]
      omega
    refine ⟨fun i h => ?_, fun o hno => ?_, (d.railCount_accounted _).trans ha⟩
    · cases i with
      | zero =>
        rw [ho _ ?_]
        · exact Dev.get_put_self _ _ _
        · rintro ⟨j, -, hj⟩
          exact hkey _ _ (by omega) hj
      | succ i =>
        have hx := hg i (Nat.lt_of_succ_lt_succ h)
        rw [show k + 1 + i = k + (i + 1) by omega] at hx
        have hne : k + (i + 1) ≠ k := by omega
        rw [hx, d.railCount_objs (m, k) _ (hkey _ _ hne)]
        have hc : Map.get (d.railCount (m, k)).pwr.carry 0 (k + (i + 1)) = Map.get d.pwr.carry 0 (k + (i + 1)) := d.carryMj_carry_ne m hne
        rw [hc]
        rfl
    · rw [ho o ?_, d.railCount_objs (m, k) o ?_]
      · exact fun hk => hno ⟨0, Nat.succ_pos _, hk⟩
      · rintro ⟨j, hj, hk⟩
        exact hno ⟨j + 1, Nat.succ_lt_succ hj, by rw [hk, Nat.add_right_comm, Nat.add_assoc]⟩

theorem Dev.charge_accounted (d : Dev) (p i n : Nat) : Dev.Accounted d (d.charge p i n) ∧ (d.charge p i n).objs = d.objs := by
  unfold Dev.charge
  split
  · exact ⟨rfl, rfl⟩
  extract_lets q d' w
  have h (k n : Nat) : Dev.Accounted d (w d' k n) := .trans (b := d') rfl rfl
  split
  · exact ⟨h _ _, rfl⟩
  split
  · exact ⟨h _ _, rfl⟩
  · exact ⟨rfl, rfl⟩

/-- The charges of the partitions move no object. -/
theorem Dev.charges_accounted (d : Dev) (l : List (Nat × Nat)) :
    Dev.Accounted d (l.foldl (fun d x => if x.1 = 0 then d else d.charge x.2 1 x.1) d) ∧
      (l.foldl (fun d x => if x.1 = 0 then d else d.charge x.2 1 x.1) d).objs = d.objs := by
  refine List.foldlRecOn (motive := fun x : Dev => Dev.Accounted d x ∧ x.objs = d.objs) l _ ⟨rfl, rfl⟩ fun x hx y _ => ?_
  split
  · exact hx
  · have hc := x.charge_accounted y.2 1 y.1
    exact ⟨hx.1.trans hc.1, hc.2.trans hx.2⟩

/-- Objects of cores: 0x3000 on. -/
def coreKey (k : Nat) : Prop := 0x300000 ≤ k ∧ k < 0x400000

theorem Dev.candidate_objs (d : Dev) {c : Nat} (hc : c < 64) (r : Nat) : Dev.ObjsBut coreKey d (d.candidate c r) := by
  unfold Dev.candidate Dev.bump
  exact ((Dev.ObjsBut.put d _ (by simp only [coreKey, K.CAND_COUNT]; omega)).trans (.put _ _ (by simp only [coreKey, K.REPRO_COUNT]; omega))).trans
    (.put _ _ (by simp only [coreKey, K.CAND_TICK]; omega))

theorem Dev.queueScan_core (d : Dev) {c : Nat} (hc : c < 64) : Dev.ObjsBut coreKey d (d.queueScan c) ∧ Dev.Booked d (d.queueScan c) := by
  unfold Dev.queueScan
  have h : Dev.ObjsBut coreKey d (({ d with scanQ := d.scanQ ++ [c] } : Dev).put (K.SCAN_STATE c) 1) :=
    .trans (b := { d with scanQ := d.scanQ ++ [c] }) (.of_objs rfl) (.put _ _ (by simp only [coreKey, K.SCAN_STATE]; omega))
  exact ⟨.ite _ (fun _ => .refl d) fun _ => h, .ite _ (fun _ => rfl) fun _ => rfl⟩

/-- A candidate event and a scan for each of some cores. -/
theorem Dev.suspect_cores (d : Dev) {l : List Nat} (h : ∀ c ∈ l, c < 64) :
    Dev.ObjsBut coreKey d (l.foldl (fun d c => (d.candidate c 0).queueScan c) d) ∧
      Dev.Booked d (l.foldl (fun d c => (d.candidate c 0).queueScan c) d) :=
  ⟨.foldl _ l (fun x c hc => (x.candidate_objs (h c hc) 0).trans (Dev.queueScan_core _ (h c hc)).1) d,
    .foldl _ l (fun x c hc => .trans (b := x.candidate c 0) rfl (Dev.queueScan_core _ (h c hc)).2) d⟩

theorem Dev.pwrRecord_objs (d : Dev) (kind quad detail value : Nat) : Dev.ObjsBut recordKey d (d.pwrRecord kind quad detail value) :=
  Dev.file_objs _ _

theorem Dev.pwrRecord_booked (d : Dev) (kind quad detail value : Nat) : Dev.Booked d (d.pwrRecord kind quad detail value) :=
  Dev.file_booked _ _

/-- What the comparison of a window's energies moves: the three objects of the controller, records, and objects of cores. -/
def compareKey (k : Nat) : Prop := k = 0x70000C ∨ k = 0x700005 ∨ k = 0x700006 ∨ recordKey k ∨ coreKey k

theorem Dev.ctrlEstimate_objs (d : Dev) : Dev.ObjsBut (fun k => k = 0x700005 ∨ k = 0x700006 ∨ recordKey k) d d.ctrlEstimate ∧
    Dev.Booked d d.ctrlEstimate := by
  unfold Dev.ctrlEstimate
  refine ⟨.ite _ (fun _ => .refl d) fun _ => ?_, .ite _ (fun _ => rfl) fun _ => ?_⟩
  · exact (((Dev.ObjsBut.put d (o := K.CTRL_MODE) 0 (.inl rfl)).trans (.put _ (o := K.GUARD_PCT) 97 (.inr (.inl rfl)))).trans
      (.of_objs (b := Dev.setPwr _ { d.pwr with agree := 0 }) rfl)).trans ((Dev.file_objs _ _).mono fun _ h => .inr (.inr h))
  · exact .trans (b := ((d.put K.CTRL_MODE 0).put K.GUARD_PCT 97).setPwr { d.pwr with agree := 0 }) rfl (Dev.file_booked _ _)

/-- The mark of a window whose estimate differs from its measure (R456). -/
def Dev.disagreed (d : Dev) (em ee : Nat) : Nat :=
  if 15 * em < 100 * (if em < ee then ee - em else em - ee) then addSat 16 (d.get K.DISAGREE_RUN) 1 else 0

theorem Dev.compareEnergy_spec (d : Dev) (em ee : Nat) : ∃ t, d.compareEnergy em ee = t ∧ Dev.ObjsBut compareKey d t ∧ Dev.Booked d t ∧
    t.get K.DISAGREE_RUN = d.disagreed em ee ∧
    (d.get K.CTRL_MODE = 0 → d.disagreed em ee < 8 → t.get K.CTRL_MODE = 0) ∧
    (d.get K.CTRL_MODE = 0 → 8 ≤ d.disagreed em ee → t.get K.CTRL_MODE = 1 ∧ t.get K.GUARD_PCT = 90) := by
  refine ⟨_, rfl, ?_⟩
  unfold Dev.compareEnergy
  extract_lets diff d1 ag d2 d3
  have h1 : d1 = d.put K.DISAGREE_RUN (d.disagreed em ee) := by
    show (if 15 * em < 100 * diff then Dev.bump 16 d K.DISAGREE_RUN 1 else d.put K.DISAGREE_RUN 0) = _
    unfold Dev.disagreed
    split <;> rfl
  have h2 : Dev.ObjsBut compareKey d d2 := by
    refine .trans (b := d1) ?_ (.of_objs rfl)
    rw [h1]
    exact .put d _ (.inl rfl)
  have hb : Dev.Booked d d2 := by
    refine .trans (b := d1) ?_ rfl
    rw [h1]
    rfl
  have hdis : d2.get K.DISAGREE_RUN = d.disagreed em ee := by
    show d1.get _ = _
    rw [h1, Dev.get_put_self]
  have hmode : d2.get K.CTRL_MODE = d.get K.CTRL_MODE := by
    show d1.get _ = _
    rw [h1, Dev.get_put_ne _ _ (by decide)]
  rw [hmode, hdis]
  clear_value d2
  split
  next h0 =>
    split
    next h8 =>
      have hlt : ∀ c ∈ (List.range 64).filter d3.coreUsable, c < 64 := fun c hc => List.mem_range.mp (List.mem_filter.mp hc).1
      obtain ⟨ho, hk⟩ := d3.suspect_cores hlt
      have h3 : Dev.ObjsBut recordKey ((d2.put K.CTRL_MODE 1).put K.GUARD_PCT 90) d3 := Dev.pwrRecord_objs _ _ _ _ _
      have h3b : Dev.Booked d2 d3 := .trans (b := (d2.put K.CTRL_MODE 1).put K.GUARD_PCT 90) rfl (Dev.pwrRecord_booked _ _ _ _ _)
      have hall : Dev.ObjsBut compareKey d d3 :=
        ((h2.trans (.put _ (o := K.CTRL_MODE) 1 (.inr (.inl rfl)))).trans (.put _ (o := K.GUARD_PCT) 90 (.inr (.inr (.inl rfl))))).trans
          (h3.mono fun _ h => .inr (.inr (.inr (.inl h))))
      generalize ((List.range 64).filter d3.coreUsable).foldl (fun d c => (d.candidate c 0).queueScan c) d3 = t at ho hk
      refine ⟨hall.trans (ho.mono fun _ h => .inr (.inr (.inr (.inr h)))), (hb.trans h3b).trans hk, ?_,
        fun _ h => absurd h8 (Nat.not_le.mpr h), fun _ _ => ⟨?_, ?_⟩⟩
      · rw [ho _ (by simp only [coreKey, K.DISAGREE_RUN]; omega), h3 _ (by simp only [recordKey, K.DISAGREE_RUN]; omega),
          Dev.get_put_ne _ _ (by decide), Dev.get_put_ne _ _ (by decide), hdis]
      · rw [ho _ (by simp only [coreKey, K.CTRL_MODE]; omega), h3 _ (by simp only [recordKey, K.CTRL_MODE]; omega),
          Dev.get_put_ne _ _ (by decide), Dev.get_put_self]
      · rw [ho _ (by simp only [coreKey, K.GUARD_PCT]; omega), h3 _ (by simp only [recordKey, K.GUARD_PCT]; omega), Dev.get_put_self]
    next h8 => exact ⟨h2, hb, hdis, fun _ _ => hmode.trans h0, fun _ h => absurd h h8⟩
  next h0 =>
    split
    · obtain ⟨ho, hk⟩ := d2.ctrlEstimate_objs
      refine ⟨h2.trans (ho.mono fun k h => ?_), hb.trans hk, ?_, fun h => absurd h h0, fun h => absurd h h0⟩
      · exact h.elim (fun h => .inr (.inl h)) fun h => h.elim (fun h => .inr (.inr (.inl h))) fun h => .inr (.inr (.inr (.inl h)))
      · rw [ho _ (by simp only [K.DISAGREE_RUN, recordKey]; omega), hdis]
    · exact ⟨h2, hb, hdis, fun h => absurd h h0, fun h => absurd h h0⟩

/-- A window's books, but for rails and partitions: its energies carried. -/
def Dev.windowCarried (d : Dev) (rest total : Nat) : Dev :=
  let (n, d) := d.carryMj 200 rest
  let d := d.cnt K.OVERHEAD_MJ n
  let (n, d) := d.carryMj 201 total
  (d.cnt K.LEDGER_ENERGY_MJ n).put K.WIN_TICK d.now

/-- A window's books: its energies shown. -/
def Dev.windowShown (d : Dev) (total estimate : Nat) : Dev :=
  let hist := (total :: d.pwr.hist).take 1000
  let d := d.setPwr { d.pwr with hist := hist, win := [], res := [] }
  let d := ((d.put K.WIN_MEAS_MJ (min (total / 1000) (2 ^ 32 - 1))).put K.WIN_EST_MJ (min (estimate / 1000) (2 ^ 32 - 1))).put K.POWER_1MS
    (min (total / 1000) 0xFFFF)
  d.put K.POWER_1S (min (hist.sum / (1000 * hist.length)) 0xFFFF)

theorem Dev.windowCarried_spec (d : Dev) (rest total : Nat) : ∃ x, d.windowCarried rest total = x ∧ Dev.Accounted d x ∧
    x.get K.WIN_TICK = d.now ∧ Dev.ObjsBut (fun k => 0x702001 ≤ k ∧ k ≤ 0x702003) d x := by
  have h1 : Dev.ObjsBut (fun k => 0x702001 ≤ k ∧ k ≤ 0x702003) d ((d.carryMj 200 rest).2.cnt K.OVERHEAD_MJ (d.carryMj 200 rest).1) :=
    .trans (b := (d.carryMj 200 rest).2) (.of_objs rfl) (.cnt _ _ (by decide))
  have h1a : Dev.Accounted d ((d.carryMj 200 rest).2.cnt K.OVERHEAD_MJ (d.carryMj 200 rest).1) :=
    Dev.Accounted.cnt (b := (d.carryMj 200 rest).2) rfl _ _
  have hx : d.windowCarried rest total = ((((d.carryMj 200 rest).2.cnt K.OVERHEAD_MJ (d.carryMj 200 rest).1).carryMj 201 total).2.cnt
      K.LEDGER_ENERGY_MJ (((d.carryMj 200 rest).2.cnt K.OVERHEAD_MJ (d.carryMj 200 rest).1).carryMj 201 total).1).put K.WIN_TICK d.now := rfl
  rw [hx]
  generalize (d.carryMj 200 rest).2.cnt K.OVERHEAD_MJ (d.carryMj 200 rest).1 = a at h1 h1a ⊢
  refine ⟨_, rfl, ?_, Dev.get_put_self _ _ _, ?_⟩
  · exact (h1a.trans (c := (a.carryMj 201 total).2) rfl |>.cnt _ _).put _ _
  · exact ((h1.trans (c := (a.carryMj 201 total).2) (.of_objs rfl)).trans (.cnt _ _ (by decide))).trans (.put _ _ (by decide))

theorem Dev.windowShown_spec (d : Dev) (total e : Nat) : ∃ x, d.windowShown total e = x ∧ Dev.Accounted d x ∧
    x.get K.WIN_MEAS_MJ = min (total / 1000) (2 ^ 32 - 1) ∧ x.get K.WIN_EST_MJ = min (e / 1000) (2 ^ 32 - 1) ∧
    x.get K.POWER_1MS = min (total / 1000) 0xFFFF ∧
    Dev.ObjsBut (fun k => k = 0x700008 ∨ k = 0x700009 ∨ k = 0x702004 ∨ k = 0x702005) d x := by
  unfold Dev.windowShown
  extract_lets hist p d1 d2
  have h1 : Dev.ObjsBut (fun k => k = 0x700008 ∨ k = 0x700009 ∨ k = 0x702004 ∨ k = 0x702005) d d1 := .of_objs rfl
  have h1a : Dev.Accounted d d1 := rfl
  generalize min (hist.sum / (1000 * hist.length)) 0xFFFF = avg
  clear_value d1
  refine ⟨_, rfl, (((h1a.put _ _).put _ _).put _ _).put _ _, ?_, ?_, ?_,
    (((h1.trans (.put _ _ (by decide))).trans (.put _ _ (by decide))).trans (.put _ _ (by decide))).trans (.put _ _ (by decide))⟩
  · rw [Dev.get_put_ne _ _ (by decide), Dev.get_put_ne _ _ (by decide), Dev.get_put_ne _ _ (by decide), Dev.get_put_self]
  · rw [Dev.get_put_ne _ _ (by decide), Dev.get_put_ne _ _ (by decide), Dev.get_put_self]
  · rw [Dev.get_put_ne _ _ (by decide), Dev.get_put_self]

/-- The books of the window, up to the comparison. -/
theorem Dev.ledgerWindowEnd_spec (d : Dev) (m : List Nat) (e : Nat) (sh : List Nat) (h0 : d.now % 62500 = 0) (hn : d.now ≠ 0)
    (hw : d.get K.WIN_TICK ≠ d.now) {em : Nat} (hem : em = ((List.range 7).map (fun i => m.getD i 0)).sum) :
    ∃ x : Dev, d.ledgerWindowEnd m e sh = x.compareEnergy em e ∧ Dev.Accounted d x ∧ x.get K.WIN_TICK = d.now ∧
      x.get K.WIN_MEAS_MJ = min (em / 1000) (2 ^ 32 - 1) ∧
      x.get K.WIN_EST_MJ = min (e / 1000) (2 ^ 32 - 1) ∧ x.get K.POWER_1MS = min (em / 1000) 0xFFFF ∧
      x.get K.DISAGREE_RUN = d.get K.DISAGREE_RUN ∧ x.get K.CTRL_MODE = d.get K.CTRL_MODE ∧
      ∀ i < 7, x.get (K.RAIL_MJ i) = addSat 64 (d.get (K.RAIL_MJ i)) ((Map.get d.pwr.carry 0 i + m.getD i 0) / 1000) := by
  obtain ⟨rails, hrails⟩ : ∃ rails, rails = (List.range 7).map (fun i => m.getD i 0) := ⟨_, rfl⟩
  obtain ⟨charges, hch⟩ : ∃ charges, charges = (List.range 16).map (fun p => d.windowCharge p rails sh) := ⟨_, rfl⟩
  obtain ⟨d1, hd1⟩ : ∃ d1, d1 = (rails.zipIdx.foldl Dev.railCount d) := ⟨_, rfl⟩
  obtain ⟨d2, hd2⟩ : ∃ d2, d2 = charges.zipIdx.foldl (fun d x => if x.1 = 0 then d else d.charge x.2 1 x.1) d1 := ⟨_, rfl⟩
  have hx : d.ledgerWindowEnd m e sh = ((d2.windowCarried (em - charges.sum) em).windowShown em e).compareEnergy em e := by
    unfold Dev.ledgerWindowEnd
    rw [if_neg (by simp [h0, hn, hw])]
    extract_lets rails' total charges' a b
    have hr : rails' = rails := hrails.symm
    have hs : charges' = charges := by rw [hch, ← hr]
    have hb : b = d2 := by rw [hd2, hd1, ← hs, ← hr]; rfl
    have ht : total = em := by rw [hem]
    clear_value total charges' b
    subst hs hb ht
    unfold Dev.windowCarried
    generalize b.carryMj 200 (total - charges'.sum) = r
    obtain ⟨n, c⟩ := r
    dsimp only
    generalize (c.cnt K.OVERHEAD_MJ n).carryMj 201 total = r
    rfl
  obtain ⟨hg, ho, ha⟩ := d.rails_counted rails 0
  rw [← hd1] at hg ho ha
  obtain ⟨hc, hco⟩ := Dev.charges_accounted d1 charges.zipIdx
  rw [← hd2] at hc hco
  have hlen : rails.length = 7 := by rw [hrails]; rfl
  have h1 : ∀ o : Obj, (∀ i < 7, o.key ≠ (K.RAIL_MJ i).key) → d2.get o = d.get o := fun o hne => (get_objs hco o).trans (ho o (by
    rintro ⟨i, hi, hk⟩
    exact hne i (hlen ▸ hi) (by simpa using hk)))
  have hr : ∀ i < 7, d2.get (K.RAIL_MJ i) = addSat 64 (d.get (K.RAIL_MJ i)) ((Map.get d.pwr.carry 0 i + m.getD i 0) / 1000) := by
    intro i hi
    have hx := hg i (hlen ▸ hi)
    rw [Nat.zero_add] at hx
    rw [get_objs hco]
    refine hx.trans ?_
    simp [hrails]
  have hrail : ∀ i, (K.RAIL_MJ i).key = 0x702006 + i := fun i => by simp only [K.RAIL_MJ]; omega
  obtain ⟨y, hy, hay, hty, hoy⟩ := d2.windowCarried_spec (em - charges.sum) em
  obtain ⟨x, hx', hax, h3, h4, h5, hox⟩ := y.windowShown_spec em e
  have hnow : d2.now = d.now := by rw [show d2 = _ from ha.trans hc]
  have kept : ∀ o : Obj, ¬((0x702001 ≤ o.key ∧ o.key ≤ 0x702005) ∨ o.key = 0x700008 ∨ o.key = 0x700009) → x.get o = d2.get o :=
    fun o hk => (hox o (by omega)).trans (hoy o (by omega))
  refine ⟨x, by rw [hx, hy, hx'], ((ha.trans hc).trans hay).trans hax, (hox _ (by decide)).trans (hty.trans hnow), h3, h4, h5,
    (kept _ (by decide)).trans (h1 _ fun i _ => ?_), (kept _ (by decide)).trans (h1 _ fun i _ => ?_),
    fun i hi => (kept _ ?_).trans (hr i hi)⟩
  · rw [hrail]
    simp only [K.DISAGREE_RUN]
    omega
  · rw [hrail]
    simp only [K.CTRL_MODE]
    omega
  · rw [hrail]
    omega

/-- Settles O28: a partition is metered once and by itself; the window's books are the ledger's objects, and the comparison follows. -/
theorem metering : Obligations.Metering := by
  refine ⟨fun s hs => ⟨fun hn => ?_, fun hn => ?_⟩, fun s m e sh em hs h0 hn hw hem => ?_⟩
  · have hx : exec .meterUpdate s = onDev (fun d => d.meterUpdate) s := rfl
    rw [hx, onDev_next hs, Dev.meterUpdate, if_pos hn, State.setDev_self]
  · have hx : exec .meterUpdate s = onDev (fun d => d.meterUpdate) s := rfl
    obtain ⟨t, ht, hb, hm, -⟩ := s.dev.meterParts 16
    refine ⟨_, by rw [hx, onDev_next hs], s.setDev_pending _, s.setDev_sec _, ?_⟩
    rw [State.setDev_dev, Dev.meterUpdate_due hn, ht]
    refine ⟨hb, fun p hp => ?_⟩
    obtain ⟨h1, h2, h3, h4, h5, h6, h7⟩ := hm p hp
    exact ⟨h1, h2, h3, h4, h5, h6, h7⟩
  · have hx : exec (.ledgerWindowEnd m e sh) s = onDev (fun d => d.ledgerWindowEnd m e sh) s := rfl
    obtain ⟨x, hxe, hax, h1, h2, h3, h4, h5, h6, h7⟩ := s.dev.ledgerWindowEnd_spec m e sh h0 hn hw hem
    obtain ⟨t, ht, ho, hb, hd, hlow, hhigh⟩ := x.compareEnergy_spec em e
    have hbk : Dev.Booked s.dev x := by
      unfold Dev.Booked
      rw [show x = _ from hax]
    have hall := hbk.trans hb
    have hdis : x.disagreed em e = if 15 * em < 100 * (if em < e then e - em else em - e) then addSat 16 (s.dev.get K.DISAGREE_RUN) 1 else 0 := by
      unfold Dev.disagreed
      rw [h5]
    have kept : ∀ o : Obj, ¬compareKey o.key → t.get o = x.get o := ho
    refine ⟨_, by rw [hx, onDev_next hs, hxe, ht], s.setDev_pending _, s.setDev_sec _, ?_⟩
    rw [State.setDev_dev]
    refine ⟨hall.now, (kept _ ?_).trans h1, (kept _ ?_).trans h2, (kept _ ?_).trans h3, (kept _ ?_).trans h4, fun i hi => (kept _ ?_).trans (h7 i hi),
      hd.trans hdis, fun h0 hlt => hlow (h6.trans h0) (hd ▸ hlt), fun h0 hge => hhigh (h6.trans h0) (hd ▸ hge), hall.cores, hall.mem⟩
    all_goals simp only [compareKey, recordKey, coreKey, K.WIN_TICK, K.WIN_MEAS_MJ, K.WIN_EST_MJ, K.POWER_1MS, K.RAIL_MJ]; omega

end Sys2Proof.Machine
end

section
/-! Proofs: the peak limit, the operating points, droop and trim (R444 to R457). -/
namespace Sys2Proof.Machine

/-! ## What records leave of the power state -/

/-- The power state of `b` is that of `a` but for wakes. -/
def Dev.PwrKept (a b : Dev) : Prop := b.pwr = { a.pwr with wakeReq := b.pwr.wakeReq, waking := b.pwr.waking }

namespace Dev.PwrKept

variable {a b c : Dev}

theorem of_pwr (h : b.pwr = a.pwr) : Dev.PwrKept a b := by
  unfold Dev.PwrKept
  rw [h]
theorem trans (h : Dev.PwrKept a b) (g : Dev.PwrKept b c) : Dev.PwrKept a c := by
  unfold Dev.PwrKept at h g ⊢
  rw [g, h]
theorem ramp (h : Dev.PwrKept a b) : b.pwr.ramp = a.pwr.ramp := by rw [show b.pwr = _ from h]

end Dev.PwrKept

theorem Dev.wakeDom_pwr (d : Dev) (x : Nat) : Dev.PwrKept d (d.wakeDom x) := by
  unfold Dev.wakeDom
  dsimp only
  split
  · split <;> rfl
  · split <;> rfl

theorem Dev.send_pwr (d : Dev) (m : Msg) (f : Bool) : Dev.PwrKept d (d.send m f).1 := by
  have henq (l : Nat) : Dev.PwrKept d (d.enqueue l m) := by
    refine (d.wakeDom_pwr (68 + l / 8)).trans (.of_pwr ?_)
    unfold Dev.enqueue
    dsimp only
    split <;> rfl
  unfold Dev.send
  split
  · exact henq _
  · rfl

theorem Dev.file_pwr (d : Dev) (i : RecInfo) : Dev.PwrKept d (d.file i) := by
  unfold Dev.file Dev.notify
  extract_lets ms n lost seq r d1 d2 d3 body m
  split
  · rfl
  · have h3 : d3.pwr = d.pwr := by
      show (if i.part < 16 then d2.put (K.PART_LOG_LAST i.part) seq else d2).pwr = d.pwr
      split <;> rfl
    exact (Dev.PwrKept.of_pwr h3).trans (.trans (b := { d3 with msgId := d3.msgId + 1 }) rfl (Dev.send_pwr _ _ _))

theorem Dev.pwrRecord_pwr (d : Dev) (kind quad detail value : Nat) : Dev.PwrKept d (d.pwrRecord kind quad detail value) := Dev.file_pwr _ _

/-! ## One quadrant's point (R454, R455) -/

/-- The objects of quadrant `q`'s point: not its floor, its greatest point, its factory voltage or its trim. -/
def pointKey (q k : Nat) : Prop := k / 256 = 0x7010 + q ∧ (k % 256 = 1 ∨ k % 256 = 2 ∨ k % 256 = 5 ∨ k % 256 = 8 ∨ k % 256 = 10)

theorem Dev.setFreq_objs (d : Dev) (q : Nat) : Dev.ObjsBut (fun k => k = (K.FREQ_MHZ q).key) d (d.setFreq q) := .put d _ rfl

theorem Dev.setGuard_objs (d : Dev) (q : Nat) :
    Dev.ObjsBut (fun k => k = (K.DROOP_GUARD q).key ∨ k = (K.FREQ_MHZ q).key) d (d.setGuard q) := by
  unfold Dev.setGuard
  extract_lets d1 p d2
  have h1 : Dev.ObjsBut (fun k => k = (K.DROOP_GUARD q).key ∨ k = (K.FREQ_MHZ q).key) d d1 := .put d _ (.inl rfl)
  have h2 : Dev.ObjsBut (fun k => k = (K.DROOP_GUARD q).key ∨ k = (K.FREQ_MHZ q).key) d1 d2 := .ite _ (fun _ => .of_objs rfl) fun _ => .refl _
  exact (h1.trans h2).trans ((d2.setFreq_objs q).mono fun _ h => .inr h)

/-- `b` is `a` but for the objects of quadrant `q`'s point, clocks and droop: no ramp begins or ends. -/
structure Dev.Pointed (q : Nat) (a b : Dev) : Prop where
  obj : Dev.ObjsBut (pointKey q) a b
  eq : b = { a with objs := b.objs, pwr := b.pwr }
  other : ∀ q', q' ≠ q → Map.get b.pwr.ramp 0 q' = Map.get a.pwr.ramp 0 q'

namespace Dev.Pointed

variable {a b c : Dev} {q : Nat}

theorem refl (a : Dev) : Dev.Pointed q a a := ⟨.refl a, rfl, fun _ _ => rfl⟩
theorem trans (h : Dev.Pointed q a b) (g : Dev.Pointed q b c) : Dev.Pointed q a c :=
  ⟨h.obj.trans g.obj, by have := h.eq; have := g.eq; grind, fun x hx => (g.other x hx).trans (h.other x hx)⟩
theorem put (d : Dev) {o : Obj} (v : Nat) (ho : pointKey q o.key) : Dev.Pointed q d (d.put o v) := ⟨.put d v ho, rfl, fun _ _ => rfl⟩
theorem ite (p : Prop) [Decidable p] (h : p → Dev.Pointed q a b) (h' : ¬p → Dev.Pointed q a c) : Dev.Pointed q a (if p then b else c) := by
  split
  · exact h ‹_›
  · exact h' ‹_›

end Dev.Pointed

section
variable (d : Dev) (q : Nat)

theorem pointKey_now : pointKey q (K.OP_NOW q).key := by simp only [pointKey, K.OP_NOW]; omega
theorem pointKey_freq : pointKey q (K.FREQ_MHZ q).key := by simp only [pointKey, K.FREQ_MHZ]; omega
theorem pointKey_volt : pointKey q (K.V_SET_MV q).key := by simp only [pointKey, K.V_SET_MV]; omega
theorem pointKey_guard : pointKey q (K.DROOP_GUARD q).key := by simp only [pointKey, K.DROOP_GUARD]; omega
theorem pointKey_changes : pointKey q (K.OP_CHANGES q).key := by simp only [pointKey, K.OP_CHANGES]; omega

theorem Dev.setGuard_ramp : (d.setGuard q).pwr.ramp = d.pwr.ramp := by
  unfold Dev.setGuard
  dsimp only
  split <;> rfl

theorem Dev.setGuard_pointed : Dev.Pointed q d (d.setGuard q) where
  obj := (d.setGuard_objs q).mono fun k h => h.elim (fun h => h ▸ pointKey_guard q) fun h => h ▸ pointKey_freq q
  eq := by
    unfold Dev.setGuard
    dsimp only
    split <;> rfl
  other _ _ := by rw [d.setGuard_ramp]

theorem Dev.applyOp_pointed (op : Nat) : Dev.Pointed q d (d.applyOp q op) :=
  ((Dev.Pointed.put d op (pointKey_now q)).trans (.put _ _ (pointKey_changes q))).trans (Dev.setGuard_pointed _ q)

theorem Dev.applyOp_now (op : Nat) : (d.applyOp q op).get (K.OP_NOW q) = op := by
  unfold Dev.applyOp
  rw [Dev.setGuard_objs _ q _ (by simp only [K.OP_NOW, K.DROOP_GUARD, K.FREQ_MHZ]; omega)]
  exact (Dev.get_put_ne _ _ (by simp only [K.OP_NOW, K.OP_CHANGES]; omega)).trans (Dev.get_put_self _ _ _)

theorem Dev.applyOp_ramp (op : Nat) : (d.applyOp q op).pwr.ramp = d.pwr.ramp := Dev.setGuard_ramp _ _

theorem Dev.rampSet_ramp (x : Pwr) (v x' : Nat) (h : x.ramp = Map.set d.pwr.ramp 0 q v) :
    Map.get (d.setPwr x).pwr.ramp 0 x' = if x' = q then v else Map.get d.pwr.ramp 0 x' := by
  show Map.get x.ramp 0 x' = _
  rw [h]
  split
  next hx => rw [hx, Map.get_set_self]
  next hx => exact Map.get_set_ne _ _ _ hx

theorem Dev.rampSet_pointed (x : Pwr) (v : Nat) (h : x.ramp = Map.set d.pwr.ramp 0 q v) : Dev.Pointed q d (d.setPwr x) :=
  ⟨.of_objs rfl, rfl, fun x' hx => (d.rampSet_ramp q x v x' h).trans (if_neg hx)⟩

theorem Dev.rampTo_ramp (op : Nat) : Map.get (d.rampTo q op).pwr.ramp 0 q = op + 1 := by
  unfold Dev.rampTo
  split
  next h => exact h
  next h => rw [d.rampSet_ramp q _ (op + 1) q rfl, if_pos rfl]

theorem Dev.rampTo_pointed (op : Nat) : Dev.Pointed q d (d.rampTo q op) := by
  unfold Dev.rampTo
  exact .ite _ (fun _ => .refl d) fun _ => d.rampSet_pointed q _ (op + 1) rfl

theorem Dev.goOp_pointed (op : Nat) : Dev.Pointed q d (d.goOp q op) := by
  unfold Dev.goOp
  extract_lets now d1 v r p
  have h1 : Dev.Pointed q d d1 := d.setGuard_pointed q
  refine .ite _ (fun _ => .ite _ (fun _ => h1) fun _ => .ite _ (fun _ => h1.trans (d1.rampSet_pointed q _ 0 rfl)) fun _ =>
    h1.trans (.put _ _ (pointKey_volt q))) fun _ => ?_
  exact (Dev.Pointed.ite _ (fun _ => d.applyOp_pointed q op) fun _ => .refl d).trans (Dev.rampTo_pointed _ q op)

/-- The point that a choice leaves, and the ramp to it (R455). -/
theorem Dev.goOp_spec (op : Nat) : (d.goOp q op).get (K.OP_NOW q) = min op (d.get (K.OP_NOW q)) ∧
    Map.get (d.goOp q op).pwr.ramp 0 q =
      if op = d.get (K.OP_NOW q) ∧ Map.get d.pwr.ramp 0 q ≠ op + 1 then 0 else op + 1 := by
  have hg : (d.setGuard q).get (K.OP_NOW q) = d.get (K.OP_NOW q) :=
    d.setGuard_objs q _ (by simp only [K.OP_NOW, K.DROOP_GUARD, K.FREQ_MHZ]; omega)
  have hr := d.setGuard_ramp q
  have hto (x : Dev) : (x.rampTo q op).get (K.OP_NOW q) = x.get (K.OP_NOW q) := by
    unfold Dev.rampTo
    split <;> rfl
  unfold Dev.goOp
  extract_lets now d1 v r p
  have hrr : r = Map.get d.pwr.ramp 0 q := congrArg (Map.get · 0 q) hr
  by_cases hop : op = now
  · rw [if_pos hop, show min op (d.get (K.OP_NOW q)) = d.get (K.OP_NOW q) from by rw [hop]; exact Nat.min_self _]
    by_cases h1 : r = op + 1
    · rw [if_pos h1, if_neg fun hc => hc.2 (hrr ▸ h1)]
      exact ⟨hg, h1⟩
    · rw [if_neg h1, if_pos (⟨hop, hrr ▸ h1⟩ : op = d.get (K.OP_NOW q) ∧ _)]
      split
      · exact ⟨hg, (d1.rampSet_ramp q _ 0 q rfl).trans (if_pos rfl)⟩
      next h2 =>
        rw [Bool.or_eq_true, decide_eq_true_eq, not_or, not_not] at h2
        exact ⟨(Dev.get_put_ne _ _ (by simp only [K.OP_NOW, K.V_SET_MV]; omega)).trans hg, h2.1⟩
  · rw [if_neg hop, hto, Dev.rampTo_ramp]
    refine ⟨?_, (if_neg fun hc => hop hc.1).symm⟩
    split
    next hlt =>
      rw [Dev.applyOp_now]
      exact (Nat.min_eq_left hlt.le).symm
    next hlt => exact (Nat.min_eq_right (Nat.le_of_not_lt hlt)).symm

end

/-! ## The four quadrants' choice (R454) -/

/-- `b` is `a` with floors shown. -/
structure Dev.Floored (a b : Dev) : Prop where
  eq : b = { a with objs := b.objs }
  obj : ∀ o : Obj, o.key % 256 ≠ 3 → b.get o = a.get o
  far : ∀ o : Obj, ¬(0x7010 ≤ o.key / 256 ∧ o.key / 256 < 0x7014) → b.get o = a.get o

namespace Dev.Floored

variable {a b c : Dev}

theorem trans (h : Dev.Floored a b) (g : Dev.Floored b c) : Dev.Floored a c :=
  ⟨by have := h.eq; have := g.eq; grind, fun o ho => (g.obj o ho).trans (h.obj o ho), fun o ho => (g.far o ho).trans (h.far o ho)⟩
theorem put (d : Dev) {q : Nat} (hq : q < 4) (v : Nat) : Dev.Floored d (d.put (K.FLOOR_MHZ q) v) where
  eq := rfl
  obj o ho := Dev.get_put_ne _ _ (by simp only [K.FLOOR_MHZ]; omega)
  far o ho := Dev.get_put_ne _ _ (by simp only [K.FLOOR_MHZ]; omega)

theorem now (h : Dev.Floored a b) : b.now = a.now := by rw [h.eq]
theorem pwr (h : Dev.Floored a b) : b.pwr = a.pwr := by rw [h.eq]
theorem sched (h : Dev.Floored a b) (p : Nat) : b.sched p = a.sched p := by rw [h.eq]; rfl

theorem owner (h : Dev.Floored a b) (c : Nat) : b.get (K.CORE_OWNER c) = a.get (K.CORE_OWNER c) := h.obj _ (by simp only [K.CORE_OWNER]; omega)
theorem state (h : Dev.Floored a b) (p : Nat) : b.get (K.SCHED_STATE p) = a.get (K.SCHED_STATE p) := h.obj _ (by simp only [K.SCHED_STATE]; omega)
theorem most (h : Dev.Floored a b) (q : Nat) : b.get (K.OP_MAX q) = a.get (K.OP_MAX q) := h.obj _ (by simp only [K.OP_MAX]; omega)
theorem point (h : Dev.Floored a b) (q : Nat) : b.get (K.OP_NOW q) = a.get (K.OP_NOW q) := h.obj _ (by simp only [K.OP_NOW]; omega)

theorem floorMHz (h : Dev.Floored a b) (q : Nat) : b.floorMHz q = a.floorMHz q := by
  have hp : ∀ p, b.get (K.PACE_MHZ p) = a.get (K.PACE_MHZ p) := fun p => h.obj _ (by simp only [K.PACE_MHZ]; omega)
  unfold Dev.floorMHz Dev.paceOf
  simp only [h.owner, h.state, hp]

theorem floorOp (h : Dev.Floored a b) (q : Nat) : b.floorOp q = a.floorOp q := by
  unfold Dev.floorOp
  rw [h.floorMHz, h.most]

theorem opHold (h : Dev.Floored a b) (q : Nat) : b.opHold q = a.opHold q := by
  have hs : ∀ s k, b.stainActs s k = a.stainActs s k := fun s k => by
    unfold Dev.stainActs Dev.flag
    rw [h.obj _ (by simp only [K.STAIN_ARM]; omega), h.obj K.STAIN_PERMIT (by decide), h.obj _ (by simp only [K.STAIN_PARTITION]; omega),
      h.obj _ (by simp only [K.STAIN_KIND]; omega), h.obj _ (by simp only [K.STAIN_START_TICK]; omega),
      h.obj _ (by simp only [K.STAIN_STOP_TICK]; omega), h.now]
  have hp : ∀ s, b.get (K.STAIN_PARTITION s) = a.get (K.STAIN_PARTITION s) := fun s => h.obj _ (by simp only [K.STAIN_PARTITION]; omega)
  have hm : ∀ s, b.get (K.STAIN_AMOUNT s) = a.get (K.STAIN_AMOUNT s) := fun s => h.obj _ (by simp only [K.STAIN_AMOUNT]; omega)
  unfold Dev.opHold
  simp only [hs, hp, hm, h.owner]

theorem capOk (h : Dev.Floored a b) (ops : List Nat) : b.capOk ops = a.capOk ops := by
  have hu : ∀ c, b.coreUsable c = a.coreUsable c := fun c => by
    unfold Dev.coreUsable
    rw [h.obj K.CORE_PRESENT (by decide), h.obj K.FENCE_MASK (by decide)]
  have ha : ∀ c, b.activity c = a.activity c := fun c => by
    unfold Dev.activity Dev.scanning Dev.runs
    dsimp only
    rw [h.owner, h.obj (K.SCAN_STATE c) (by simp only [K.SCAN_STATE]; omega), h.state, h.sched]
  have hl : ∀ q op, b.quadLoad q op = a.quadLoad q op := fun q op => by
    unfold Dev.quadLoad
    simp only [hu, ha, funext hu]
  unfold Dev.capOk
  simp only [hl, h.pwr, h.obj K.GUARD_PCT (by decide), h.obj K.CTRL_MODE (by decide), h.obj K.POWER_1MS (by decide)]

end Dev.Floored

/-- The floors of the first `n` quadrants. -/
theorem Dev.floors_shown (d : Dev) {n : Nat} (hn : n ≤ 4) : ∃ t, (List.range n).foldl (fun d q => d.put (K.FLOOR_MHZ q) (d.floorMHz q)) d = t ∧
    Dev.Floored d t ∧ ∀ q < n, t.get (K.FLOOR_MHZ q) = d.floorMHz q := by
  induction n with
  | zero => exact ⟨d, rfl, ⟨rfl, fun _ _ => rfl, fun _ _ => rfl⟩, fun _ h => absurd h (Nat.not_lt_zero _)⟩
  | succ n ih =>
    obtain ⟨x, hx, hf, hg⟩ := ih (by omega)
    refine ⟨x.put (K.FLOOR_MHZ n) (x.floorMHz n), by rw [List.range_succ, List.foldl_append, hx]; rfl, hf.trans (.put x (by omega) _), fun q hq => ?_⟩
    by_cases h : q = n
    · rw [h, Dev.get_put_self, hf.floorMHz]
    · rw [Dev.get_put_ne _ _ (by simp only [K.FLOOR_MHZ]; omega)]
      exact hg q (by omega)

/-- The quadrants' points one after the other: each goes by itself. -/
theorem Dev.points_gone (d : Dev) (l : List Nat) (k : Nat) :
    ∃ t, (l.zipIdx k).foldl (fun d x => d.goOp x.2 x.1) d = t ∧ t = { d with objs := t.objs, pwr := t.pwr } ∧
      Dev.ObjsBut (fun x => ∃ i < l.length, pointKey (k + i) x) d t ∧
      (∀ q, q < k ∨ k + l.length ≤ q → Map.get t.pwr.ramp 0 q = Map.get d.pwr.ramp 0 q) ∧
      ∀ i, (h : i < l.length) → t.get (K.OP_NOW (k + i)) = min l[i] (d.get (K.OP_NOW (k + i))) ∧
        Map.get t.pwr.ramp 0 (k + i) =
          if l[i] = d.get (K.OP_NOW (k + i)) ∧ Map.get d.pwr.ramp 0 (k + i) ≠ l[i] + 1 then 0 else l[i] + 1 := by
  induction l generalizing d k with
  | nil => exact ⟨d, rfl, rfl, .refl d, fun _ _ => rfl, fun i h => absurd h (Nat.not_lt_zero i)⟩
  | cons op l ih =>
    obtain ⟨t, ht, he, ho, hr, hi⟩ := ih (d.goOp k op) (k + 1)
    have hp := d.goOp_pointed k op
    obtain ⟨h1, h2⟩ := d.goOp_spec k op
    refine ⟨t, by rw [List.zipIdx_cons, List.foldl_cons]; exact ht, ?_⟩
    clear ht
    generalize d.goOp k op = x at he ho hr hi hp h1 h2
    refine ⟨?_, fun o hn => ?_, fun q hq => ?_, fun i h => ?_⟩
    · have := hp.eq
      grind
    · rw [ho o fun ⟨i, hi, hk⟩ => hn ⟨i + 1, Nat.succ_lt_succ hi, by rwa [show k + (i + 1) = k + 1 + i by omega]⟩]
      exact hp.obj o fun hk => hn ⟨0, Nat.succ_pos _, hk⟩
    · rw [List.length_cons] at hq
      rw [hr q (by omega)]
      exact hp.other q (by omega)
    · cases i with
      | zero =>
        refine ⟨(ho _ ?_).trans h1, (hr k (.inl (Nat.lt_succ_self k))).trans h2⟩
        rintro ⟨j, -, hk⟩
        simp only [pointKey, K.OP_NOW] at hk
        omega
      | succ i =>
        obtain ⟨h3, h4⟩ := hi i (Nat.lt_of_succ_lt_succ h)
        have hne : k + (i + 1) ≠ k := by omega
        rw [show k + 1 + i = k + (i + 1) by omega] at h3 h4
        rw [hp.other _ hne, hp.obj _ (by simp only [pointKey, K.OP_NOW]; omega)] at h4
        rw [hp.obj _ (by simp only [pointKey, K.OP_NOW]; omega)] at h3
        exact ⟨h3, h4⟩

/-- `b` is `a` with records and statuses of the power controller: no ramp changes, nor any object of a quadrant. -/
structure Dev.CapNoted (a b : Dev) : Prop where
  obj : Dev.ObjsBut (fun k => recordKey k ∨ k = 0x700003 ∨ k = 0x700004) a b
  ramp : b.pwr.ramp = a.pwr.ramp

namespace Dev.CapNoted

variable {a b c : Dev}

theorem refl (a : Dev) : Dev.CapNoted a a := ⟨.refl a, rfl⟩
theorem trans (h : Dev.CapNoted a b) (g : Dev.CapNoted b c) : Dev.CapNoted a c := ⟨h.obj.trans g.obj, g.ramp.trans h.ramp⟩
theorem put (d : Dev) {o : Obj} (v : Nat) (h : o.key = 0x700003 ∨ o.key = 0x700004) : Dev.CapNoted d (d.put o v) := ⟨.put d v (.inr h), rfl⟩
theorem ite (p : Prop) [Decidable p] (h : p → Dev.CapNoted a b) (h' : ¬p → Dev.CapNoted a c) : Dev.CapNoted a (if p then b else c) := by
  split
  · exact h ‹_›
  · exact h' ‹_›
theorem foldl {β : Type} (f : Dev → β → Dev) (l : List β) (h : ∀ d x, Dev.CapNoted d (f d x)) (d : Dev) : Dev.CapNoted d (l.foldl f d) :=
  List.foldlRecOn l f (refl d) fun b hb x _ => hb.trans (h b x)

theorem pwrRecord (d : Dev) (kind quad detail value : Nat) : Dev.CapNoted d (d.pwrRecord kind quad detail value) :=
  ⟨(d.pwrRecord_objs _ _ _ _).mono fun _ h => .inl h, (d.pwrRecord_pwr _ _ _ _).ramp⟩

end Dev.CapNoted

theorem Dev.capStatus_noted (d : Dev) (ok : Bool) (w : Nat) : Dev.CapNoted d (d.capStatus ok w) := by
  unfold Dev.capStatus
  extract_lets still p d1 st running fresh d2 d3 be lc new
  have h1 : Dev.CapNoted d d1 := ⟨.of_objs rfl, rfl⟩
  have h3 : Dev.CapNoted d1 d3 := (Dev.CapNoted.put d1 _ (.inr rfl)).trans (.ite _ (fun _ => .pwrRecord _ _ _ _ _) fun _ => .refl _)
  have ask (x : Dev) (p : Nat) : Dev.CapNoted x (x.askSuspend p) := ⟨.of_objs rfl, rfl⟩
  refine .ite _ (fun _ => .ite _ (fun _ => h1.trans (.put _ _ (.inl rfl))) fun _ => .ite _ (fun _ => h1) fun _ => h1.trans (.put _ _ (.inl rfl))) fun _ => ?_
  exact ((h1.trans h3).trans (.put _ _ (.inl rfl))).trans (.foldl _ _ ask _)

/-- The points that R454 chooses: the wishes, where the cap allows them, else the floors. -/
def Dev.pointOps (d : Dev) : List Nat :=
  if d.capOk ((List.range 4).map (fun q => min (max (d.floorOp q) (d.opHold q)) (d.get (K.OP_MAX q))))
    then (List.range 4).map (fun q => min (max (d.floorOp q) (d.opHold q)) (d.get (K.OP_MAX q)))
    else (List.range 4).map d.floorOp

theorem Dev.pointOps_length (d : Dev) : d.pointOps.length = 4 := by
  unfold Dev.pointOps
  split <;> rfl

theorem Dev.Floored.pointOps {a b : Dev} (h : Dev.Floored a b) : b.pointOps = a.pointOps := by
  unfold Dev.pointOps
  simp only [h.floorOp, h.opHold, h.most, h.capOk, funext h.floorOp]

/-- The choice of the points: floors, points, then records and the cap's status. -/
theorem Dev.choosePoints_stages (d : Dev) : ∃ a b, Dev.Floored d a ∧ (∀ q < 4, a.get (K.FLOOR_MHZ q) = d.floorMHz q) ∧
    a.pointOps.zipIdx.foldl (fun d x => d.goOp x.2 x.1) a = b ∧ Dev.CapNoted b d.choosePoints := by
  obtain ⟨a, ha, hfl, hfloor⟩ := d.floors_shown (n := 4) (by decide)
  refine ⟨a, _, hfl, hfloor, rfl, ?_⟩
  unfold Dev.choosePoints
  extract_lets low was d1 floors wish ops ok w wf d2 d3 p
  have hd1 : d1 = a := ha
  have hops : ops = a.pointOps := by rw [← hd1]; rfl
  have hd2 : d2 = a.pointOps.zipIdx.foldl (fun d x => d.goOp x.2 x.1) a := by rw [← hops, ← hd1]
  rw [← hd2]
  have h3 : Dev.CapNoted d2 d3 := .foldl _ _ (fun x q => .ite _ (fun _ => .trans (b := x.setPwr { x.pwr with
    below := (List.range 4).filter (fun y => y == q || x.pwr.below.contains y) }) ⟨.of_objs rfl, rfl⟩ (.pwrRecord _ _ _ _ _)) fun _ => .refl x) d2
  clear_value d3 w wf ok
  exact h3.trans (.trans (b := d3.setPwr { p with proj := w }) ⟨.of_objs rfl, rfl⟩ (Dev.capStatus_noted _ _ _))

/-- What the choice of the points leaves: floors, points and ramps, and no other object of a quadrant but clocks and voltages. -/
theorem Dev.choosePoints_spec (d : Dev) : ∃ t, d.choosePoints = t ∧
    (∀ q < 4, t.get (K.FLOOR_MHZ q) = d.floorMHz q ∧
      ∀ op, op = d.pointOps.getD q 0 →
        t.get (K.OP_NOW q) = min op (d.get (K.OP_NOW q)) ∧
        Map.get t.pwr.ramp 0 q = if op = d.get (K.OP_NOW q) ∧ Map.get d.pwr.ramp 0 q ≠ op + 1 then 0 else op + 1) ∧
    ∀ o : Obj, 0x701000 ≤ o.key → o.key < 0x701400 → o.key % 256 = 4 ∨ o.key % 256 = 7 → t.get o = d.get o := by
  obtain ⟨a, b, hfl, hfloor, hb, h4⟩ := d.choosePoints_stages
  obtain ⟨y, hy, -, hobj, -, hpt⟩ := a.points_gone a.pointOps 0
  rw [hb] at hy
  subst hy
  rw [hfl.pointOps] at hobj hpt
  refine ⟨_, rfl, ?_⟩
  generalize d.choosePoints = t at h4 ⊢
  have hlen := d.pointOps_length
  generalize d.pointOps = ops at hobj hpt hlen ⊢
  have kept : ∀ o : Obj, 0x701000 ≤ o.key → o.key < 0x701400 → t.get o = b.get o := fun o h h' => h4.obj o (by unfold recordKey; omega)
  refine ⟨fun q hq => ⟨?_, fun op hop => ?_⟩, fun o h h' hs => ?_⟩
  · rw [kept _ (by simp only [K.FLOOR_MHZ]; omega) (by simp only [K.FLOOR_MHZ]; omega), hobj _ ?_, hfloor q hq]
    rintro ⟨i, -, hk⟩
    simp only [pointKey, K.FLOOR_MHZ] at hk
    omega
  · obtain ⟨h5, h6⟩ := hpt q (hlen ▸ hq)
    rw [Nat.zero_add, hfl.point] at h5 h6
    rw [hfl.pwr] at h6
    have hop' : ops[q]'(hlen ▸ hq) = op := by
      rw [hop, List.getD_eq_getElem?_getD, List.getElem?_eq_getElem (hlen ▸ hq)]
      rfl
    rw [hop'] at h5 h6
    exact ⟨(kept _ (by simp only [K.OP_NOW]; omega) (by simp only [K.OP_NOW]; omega)).trans h5, (congrArg (Map.get · 0 q) h4.ramp).trans h6⟩
  · rw [kept o h h', hobj _ ?_, hfl.obj _ (by omega)]
    rintro ⟨i, -, hk⟩
    unfold pointKey at hk
    omega

/-! ## The peak limit (R453) -/

theorem Dev.peakEvaluate_eq (d : Dev) (sum wo : Nat) : d.peakEvaluate sum wo =
    if d.now % 25 ≠ 0 then d
    else if d.get K.GUARD_PCT * d.get K.PEAK_W < 100 * sum then
      if d.get K.GATE ||| (if d.get K.GUARD_PCT * d.get K.PEAK_W < 100 * wo then d.get K.CORE_PRESENT else d.beMask) = d.get K.GATE then d
      else ((d.put K.GATE (d.get K.GATE ||| (if d.get K.GUARD_PCT * d.get K.PEAK_W < 100 * wo then d.get K.CORE_PRESENT else d.beMask))).cnt
        K.GATE_EVENTS 1).pwrRecord 3 0xF (if d.get K.GUARD_PCT * d.get K.PEAK_W < 100 * wo then 2 else 1) sum
    else if 100 * sum < d.get K.GUARD_PCT * d.get K.PEAK_W then d.put K.GATE 0 else d := by
  unfold Dev.peakEvaluate
  simp only [decide_eq_true_eq]

/-- A quadrant's voltage does not hang on what is set. -/
theorem Dev.voltage_put (d : Dev) (q op v : Nat) : (d.put (K.V_SET_MV q) v).voltage q op = d.voltage q op := by
  unfold Dev.voltage
  rw [Dev.get_put_ne _ _ (by simp only [K.V_FAC_MV, K.V_SET_MV]; omega), Dev.get_put_ne _ _ (by simp only [K.TRIM_MV, K.V_SET_MV]; omega),
    Dev.get_put_ne _ _ (by simp only [K.DROOP_GUARD, K.V_SET_MV]; omega)]

/-! ## Ramps, droop and trim (R444 to R447, R455) -/

theorem Dev.opRampDone_done {d : Dev} {q op : Nat} (hr : Map.get d.pwr.ramp 0 q = op + 1) (hn : Map.get d.pwr.rampAt 0 q ≤ d.now) :
    ∃ t, d.opRampDone q = t ∧ Map.get t.pwr.ramp 0 q = 0 ∧ t.get (K.OP_NOW q) = max op (d.get (K.OP_NOW q)) ∧
      t.get (K.V_SET_MV q) = t.voltage q op ∧ t = { d with objs := t.objs, pwr := t.pwr } := by
  refine ⟨_, rfl, ?_⟩
  unfold Dev.opRampDone
  extract_lets r op' p d1 d2
  have hop : op' = op := by
    show r - 1 = op
    rw [show r = op + 1 from hr, Nat.add_sub_cancel]
  rw [if_neg (by rw [show r = op + 1 from hr]; simpa using hn)]
  have h1 : Dev.Pointed q d1 d2 := .ite _ (fun _ => d1.applyOp_pointed q op') fun _ => .refl d1
  have h2 : d2.pwr.ramp = d1.pwr.ramp := by
    show (if d1.get (K.OP_NOW q) < op' then d1.applyOp q op' else d1).pwr.ramp = _
    split
    · exact d1.applyOp_ramp q op'
    · rfl
  have h3 : d2.get (K.OP_NOW q) = max op (d.get (K.OP_NOW q)) := by
    show (if d1.get (K.OP_NOW q) < op' then d1.applyOp q op' else d1).get (K.OP_NOW q) = _
    rw [hop]
    split
    next h => exact (d1.applyOp_now q op).trans (Nat.max_eq_left (Nat.le_of_lt h)).symm
    next h => exact (Nat.max_eq_right (Nat.le_of_not_lt h)).symm
  refine ⟨?_, (Dev.get_put_ne _ _ (by simp only [K.OP_NOW, K.V_SET_MV]; omega)).trans h3, ?_, ?_⟩
  · show Map.get d2.pwr.ramp 0 q = 0
    rw [h2]
    exact (d.rampSet_ramp q _ 0 q rfl).trans (if_pos rfl)
  · rw [Dev.voltage_put, Dev.get_put_self, hop]
  · have he : d2 = { d1 with objs := d2.objs, pwr := d2.pwr } := h1.eq
    rw [he]
    rfl

theorem Dev.setFreq_plain {d : Dev} {q : Nat} (h : q ∉ d.pwr.droop) : d.setFreq q = d.put (K.FREQ_MHZ q) (opMHz (d.get (K.OP_NOW q))) := by
  unfold Dev.setFreq
  dsimp only
  rw [if_neg (by simpa using h)]

theorem Dev.setFreq_droop {d : Dev} {q : Nat} (h : q ∈ d.pwr.droop) :
    d.setFreq q = d.put (K.FREQ_MHZ q) (opMHz (d.get (K.OP_NOW q)) * 15 / 16) := by
  unfold Dev.setFreq
  dsimp only
  rw [if_pos (by simpa using h)]

section
variable {s : State} {q : Nat} (hq : q < 4) (hs : s.stopped = false)
include hq hs

theorem exec_droopDetect : exec (.droopDetect q) s = .next (s.setDev (s.dev.droopDetect q)) :=
  onUnit_next (f := fun d => d.droopDetect q) (decide_eq_true hq) hs
theorem exec_droopRelease : exec (.droopRelease q) s = .next (s.setDev (s.dev.droopRelease q)) :=
  onUnit_next (f := fun d => d.droopRelease q) (decide_eq_true hq) hs
theorem exec_slackShort : exec (.slackShort q) s = .next (s.setDev (s.dev.slackShort q)) :=
  onUnit_next (f := fun d => d.slackShort q) (decide_eq_true hq) hs
theorem exec_opRampDone : exec (.opRampDone q) s = .next (s.setDev (s.dev.opRampDone q)) :=
  onUnit_next (f := fun d => d.opRampDone q) (decide_eq_true hq) hs

end

/-- A trim that rises (R447). -/
theorem Dev.slackShort_rise {d : Dev} {q : Nat} (h : d.get (K.TRIM_MV q) < 40)
    (ht : Map.get d.pwr.trimAt 0 q = 0 ∨ Map.get d.pwr.trimAt 0 q - 1 + 6250000 ≤ d.now) :
    ∃ t, d.slackShort q = t ∧ Map.get t.pwr.trimAt 0 q = d.now + 1 ∧ t.get (K.TRIM_MV q) = min 40 (d.get (K.TRIM_MV q) + 5) ∧
      t.get (K.V_SET_MV q) = t.voltage q (d.get (K.OP_NOW q)) ∧ t.get (K.OP_MAX q) = d.get (K.OP_MAX q) := by
  refine ⟨_, rfl, ?_⟩
  unfold Dev.slackShort
  extract_lets t m p d1 d2
  rw [if_neg (Nat.not_le.mpr h), if_neg (by simp only [Bool.and_eq_true, decide_eq_true_eq, not_and_or]; omega)]
  have hnow : d2.get (K.OP_NOW q) = d.get (K.OP_NOW q) := Dev.get_put_ne _ _ (by simp only [K.OP_NOW, K.TRIM_MV]; omega)
  refine ⟨?_, ?_, ?_, ?_⟩
  · show Map.get (Map.set d.pwr.trimAt 0 q (d.now + 1)) 0 q = d.now + 1
    exact Map.get_set_self _ _ _ _
  · rw [Dev.get_put_ne _ _ (by simp only [K.TRIM_MV, K.V_SET_MV]; omega)]
    exact Dev.get_put_self _ _ _
  · rw [Dev.voltage_put, Dev.get_put_self, hnow]
  · rw [Dev.get_put_ne _ _ (by simp only [K.OP_MAX, K.V_SET_MV]; omega)]
    exact Dev.get_put_ne _ _ (by simp only [K.OP_MAX, K.TRIM_MV]; omega)

/-- A trim that cannot rise any more lowers OP_MAX (R447). -/
theorem Dev.slackShort_most {d : Dev} {q : Nat} (hq : q < 4) (h : 40 ≤ d.get (K.TRIM_MV q)) :
    ∃ t, d.slackShort q = t ∧ t.get (K.TRIM_MV q) = d.get (K.TRIM_MV q) ∧ t.get (K.OP_MAX q) = d.get (K.OP_MAX q) - 1 := by
  obtain ⟨t, ht, -, hk⟩ := ((d.put (K.OP_MAX q) (d.get (K.OP_MAX q) - 1)).pwrRecord 5 q 0 (opMHz (d.get (K.OP_MAX q) - 1))).choosePoints_spec
  have hr := Dev.pwrRecord_objs (d.put (K.OP_MAX q) (d.get (K.OP_MAX q) - 1)) 5 q 0 (opMHz (d.get (K.OP_MAX q) - 1))
  refine ⟨t, by unfold Dev.slackShort; rw [if_pos h]; exact ht, ?_, ?_⟩
  · rw [hk _ (by simp only [K.TRIM_MV]; omega) (by simp only [K.TRIM_MV]; omega) (by simp only [K.TRIM_MV]; omega),
      hr _ (by simp only [recordKey, K.TRIM_MV]; omega), Dev.get_put_ne _ _ (by simp only [K.TRIM_MV, K.OP_MAX]; omega)]
  · rw [hk _ (by simp only [K.OP_MAX]; omega) (by simp only [K.OP_MAX]; omega) (by simp only [K.OP_MAX]; omega),
      hr _ (by simp only [recordKey, K.OP_MAX]; omega), Dev.get_put_self]

/-- Settles O29: each quadrant's point, ramp, clock and trim go by themselves. -/
theorem powerLimits : Obligations.PowerLimits := by
  refine ⟨fun s sum wo gate hs => ?_, ⟨fun s p wish floors hp hs hf hw => ?_, fun s q op hq hs hr => ⟨fun hn => ?_, fun hn => ?_⟩⟩,
    fun s q hq hs => ⟨fun hg hlow hd => ?_, fun hg => ?_, fun hn => ?_, fun hd hn => ?_, fun ht h0 hn => ?_, fun ht hn => ?_, fun ht => ?_⟩⟩
  · have hx : exec (.peakEvaluate sum wo) s = onDev (fun d => d.peakEvaluate sum wo) s := rfl
    rw [hx, onDev_next hs, Dev.peakEvaluate_eq]
    refine ⟨fun h => ?_, fun h hlt => ?_, fun h hlt hg => ⟨fun he => ?_, fun he => ?_⟩⟩
    · rw [if_pos h, State.setDev_self]
    · rw [if_neg (not_not.mpr h), if_neg (by omega), if_pos hlt]
    · rw [if_neg (not_not.mpr h), if_pos hlt, ← hg, if_pos he, State.setDev_self]
    · rw [if_neg (not_not.mpr h), if_pos hlt, ← hg, if_neg he]
  · have hx : exec (.segmentBegin p) s = onUnit (p < 16) (fun d => d.segmentBegin p) s := rfl
    obtain ⟨t, ht, hq, -⟩ := s.dev.choosePoints_spec
    refine ⟨_, by rw [hx, onUnit_next (decide_eq_true hp) hs], s.setDev_pending _, s.setDev_sec _, ?_⟩
    rw [State.setDev_dev, Dev.segmentBegin, ht, hf, hw]
    exact hq
  · rw [exec_opRampDone hq hs, Dev.opRampDone]
    dsimp only
    rw [if_pos (by simp [hn]), State.setDev_self]
  · obtain ⟨t, ht, h1, h2, h3, h4⟩ := Dev.opRampDone_done hr hn
    refine ⟨_, exec_opRampDone hq hs, s.setDev_pending _, s.setDev_sec _, ?_⟩
    rw [State.setDev_dev, ht]
    exact ⟨h1, h2, h3, by rw [h4], by rw [h4], by rw [h4], by rw [h4]⟩
  · rw [exec_droopDetect hq hs, Dev.droopDetect]
    have hst : s.dev.stepTooLow q = false := by
      unfold Dev.stepTooLow
      exact decide_eq_false (Nat.not_lt.mpr hlow)
    dsimp only
    rw [hg, hst, Bool.or_self, if_neg Bool.false_ne_true, if_neg (by simpa using hd), Dev.setFreq_droop]
    · rw [show ∀ (x : Dev) n, (x.cnt (K.DROOP_STEPS q) n).get (K.OP_NOW q) = x.get (K.OP_NOW q) from
        fun x n => Dev.get_put_ne _ _ (by simp only [K.OP_NOW, K.DROOP_STEPS]; omega)]
      rfl
    · exact List.mem_append_right _ (List.mem_singleton_self q)
  · rw [exec_droopDetect hq hs, Dev.droopDetect, if_pos, State.setDev_self]
    rw [Bool.or_eq_true]
    exact hg.imp id fun h => decide_eq_true h
  · rw [exec_droopRelease hq hs, Dev.droopRelease, if_pos hn, State.setDev_self]
  · rw [exec_droopRelease hq hs, Dev.droopRelease, if_neg (Nat.not_lt.mpr hn), Dev.setFreq_plain hd]
    rfl
  · rw [exec_slackShort hq hs, Dev.slackShort]
    dsimp only
    rw [if_neg (Nat.not_le.mpr ht), if_pos (by simp [h0, hn]), State.setDev_self]
  · obtain ⟨t, hx, h1, h2, h3, h4⟩ := Dev.slackShort_rise ht hn
    refine ⟨_, exec_slackShort hq hs, s.setDev_pending _, s.setDev_sec _, ?_⟩
    rw [State.setDev_dev, hx]
    exact ⟨h1, h2, h3, h4⟩
  · obtain ⟨t, hx, h1, h2⟩ := Dev.slackShort_most hq ht
    refine ⟨_, exec_slackShort hq hs, s.setDev_pending _, s.setDev_sec _, ?_⟩
    rw [State.setDev_dev, hx]
    exact ⟨h1, h2⟩

end Sys2Proof.Machine
end

section
/-! Proofs: partitions created and released, stains that end or pre-empt (R62 to R66, R409, R413, R416). -/
namespace Sys2Proof.Machine

/-- The switch that takes a resident slot out, to be placed again. -/
def Switch.away (p n now : Nat) : Switch :=
  { out := some (p, n), inn := none, back := true, req := now, started := false, saved := false, link := 0 }

/-- One resident slot switched out, but where a switch is under way. -/
def Dev.switchAway (p : Nat) (d : Dev) (x : Nat × Nat) : Dev :=
  match d.swOf x.1 with
  | some _ => d
  | none => d.setSw x.1 (some (.away p x.2 d.now))

theorem Dev.swOf_setSw_ne (d : Dev) {c c' : Nat} (w : Option Switch) (h : c' ≠ c) : (d.setSw c w).swOf c' = d.swOf c' :=
  Map.get_set_ne _ _ _ h

theorem Dev.switchAway_busy {d : Dev} {p : Nat} {x : Nat × Nat} (h : d.swOf x.1 ≠ none) : Dev.switchAway p d x = d := by
  unfold Dev.switchAway
  split
  · rfl
  next hn => exact absurd hn h

theorem Dev.switchAway_free {d : Dev} {p : Nat} {x : Nat × Nat} (h : d.swOf x.1 = none) :
    Dev.switchAway p d x = d.setSw x.1 (some (.away p x.2 d.now)) := by
  unfold Dev.switchAway
  rw [h]

theorem Dev.switchAway_eq (d : Dev) (p : Nat) (x : Nat × Nat) : Dev.switchAway p d x = { d with sw := (Dev.switchAway p d x).sw } := by
  unfold Dev.switchAway
  split <;> rfl

/-- Slots of distinct cores switched out. -/
theorem Dev.switchedAway (p : Nat) (l : List (Nat × Nat)) (d : Dev) (hl : (l.map Prod.fst).Nodup) :
    ∃ t, l.foldl (Dev.switchAway p) d = t ∧ t = { d with sw := t.sw } ∧ (∀ c, d.swOf c ≠ none → t.swOf c = d.swOf c) ∧
      (∀ c, c ∉ l.map Prod.fst → t.swOf c = d.swOf c) ∧
      ∀ c n, (c, n) ∈ l → d.swOf c = none → t.swOf c = some (.away p n d.now) := by
  induction l generalizing d with
  | nil => exact ⟨d, rfl, rfl, fun _ _ => rfl, fun _ _ => rfl, fun _ _ h => absurd h List.not_mem_nil⟩
  | cons x l ih =>
    obtain ⟨hx, hl⟩ := List.nodup_cons.mp hl
    obtain ⟨t, ht, he, hb, ho, hn⟩ := ih (Dev.switchAway p d x) hl
    have heq := Dev.switchAway_eq d p x
    have hnow : (Dev.switchAway p d x).now = d.now := by rw [heq]
    have hne : ∀ c, c ≠ x.1 → (Dev.switchAway p d x).swOf c = d.swOf c := fun c hc => by
      by_cases hs : d.swOf x.1 = none
      · rw [Dev.switchAway_free hs, Dev.swOf_setSw_ne _ _ hc]
      · rw [Dev.switchAway_busy hs]
    refine ⟨t, ht, ?_, fun c hc => ?_, fun c hc => ?_, fun c n hc hs => ?_⟩
    · rw [he, heq]
    · have hk : (Dev.switchAway p d x).swOf c = d.swOf c := by
        by_cases hcx : c = x.1
        · rw [Dev.switchAway_busy (hcx ▸ hc)]
        · exact hne c hcx
      rw [hb c (hk ▸ hc), hk]
    · rw [List.map_cons, List.mem_cons, not_or] at hc
      rw [ho c hc.2, hne c hc.1]
    · rcases List.mem_cons.mp hc with rfl | hc
      · rw [ho _ hx, Dev.switchAway_free hs, Dev.swOf_setSw_self]
      · have hcx : c ≠ x.1 := fun h => hx (h ▸ List.mem_map_of_mem (f := Prod.fst) hc)
        rw [hn c n hc ((hne c hcx).trans hs), hnow]

theorem Dev.slotCores_nodup (d : Dev) (p : Nat) : ((d.slotCores p).map Prod.fst).Nodup := by
  unfold Dev.slotCores
  rw [List.map_map]
  have h : (Prod.fst ∘ fun c => (c, d.get (K.CORE_SLOT c))) = id := rfl
  rw [h, List.map_id]
  exact List.nodup_range.filter _

theorem Dev.preemptForce_due {d : Dev} {k : Nat} (ha : d.stainActs k 8 = true)
    (hd : (d.now - d.get (K.STAIN_START_TICK k)) % max 1 (d.get (K.STAIN_PERIOD k)) = 0) :
    d.preemptForce k = ((d.slotCores (d.get (K.STAIN_PARTITION k))).foldl (Dev.switchAway (d.get (K.STAIN_PARTITION k))) d).cnt (K.STAIN_APPLIED k) 1 := by
  unfold Dev.preemptForce
  rw [if_neg (by simp [ha, hd])]
  rfl

/-- Settles O33: each of the events acts on its own condition; the slots of a target lie on distinct cores, and so does what switches them out. -/
theorem partitionEvents : Obligations.PartitionEvents := by
  refine ⟨fun s p hp hs => ?_, fun s k hk hs ha => ?_, fun s k p hk hs ha hp hlt hd => ?_⟩
  · have hc : exec (.partitionCreated p) s = .next (s.setDev (s.dev.partitionCreated p)) :=
      onUnit_next (f := fun d => d.partitionCreated p) (decide_eq_true hp) hs
    have hr : exec (.partitionReleased p) s = .next (s.setDev (s.dev.partitionReleased p)) :=
      onUnit_next (f := fun d => d.partitionReleased p) (decide_eq_true hp) hs
    rw [hc, hr]
    refine ⟨fun h => ?_, fun h => ?_, fun h he => ?_, fun h => ?_⟩
    · rw [Dev.partitionCreated]
      dsimp only
      rw [h, Bool.not_true, if_neg Bool.false_ne_true]
    · rw [Dev.partitionCreated, h, Bool.not_false, if_pos rfl, State.setDev_self]
    · rw [Dev.partitionReleased, if_pos (by simp [h, he])]
    · rw [Dev.partitionReleased, if_neg (by simp [h]), State.setDev_self]
  · have hx : exec (.stainStop k) s = .next (s.setDev (s.dev.stainOver k)) := onUnit_next (f := fun d => d.stainOver k) (decide_eq_true hk) hs
    rw [hx, Dev.stainOver]
    refine ⟨fun hn h7 => ?_, fun hn => ?_⟩
    · rw [if_neg (by simp [h7]), Dev.stainStop, if_pos (by simp [ha, hn])]
    · have hstop : s.dev.stainStop k = s.dev := if_neg (by simp [hn])
      rw [hstop, if_neg (by simp [ha]), State.setDev_self]
  · have hx : exec (.preemptForce k) s = .next (s.setDev (s.dev.preemptForce k)) :=
      onUnit_next (f := fun d => d.preemptForce k) (decide_eq_true hk) hs
    obtain ⟨t, ht, he, hb, -, hn⟩ := Dev.switchedAway p (s.dev.slotCores p) s.dev (s.dev.slotCores_nodup p)
    refine ⟨_, hx, s.setDev_pending _, s.setDev_sec _, ?_⟩
    rw [State.setDev_dev, Dev.preemptForce_due ha hd, ← hp, ht]
    refine ⟨?_, hn, hb, by rw [he]; rfl, by rw [he]; rfl⟩
    rw [he]
    exact Dev.get_put_self _ _ _

end Sys2Proof.Machine
end

section
/-! Proofs: in-field scans and the interlock stop (R148, R474, R475). -/
namespace Sys2Proof.Machine

/-! ## Admission when no best-effort partition waits (R415) -/

theorem Dev.rotation_lt (d : Dev) {p : Nat} (h : p ∈ d.rotation) : p < 16 := by
  obtain ⟨i, -, rfl⟩ := List.mem_map.mp h
  exact Nat.mod_lt _ (by decide)

/-- A schedule of more than 64 slots fits no mask. -/
theorem Dev.not_fits (d : Dev) {p : Nat} (extra : List Nat) (h : 64 < (d.sched p).slots) : d.fits p extra = false := by
  have hl : (d.maskCores p).length ≤ 64 := by
    unfold Dev.maskCores setBits
    exact (List.length_filter_le _ _).trans (by simp)
  unfold Dev.fits
  exact decide_eq_false (by have := List.countP_le_length (p := fun c => d.coreState c == 1 || extra.contains c) (l := d.maskCores p); omega)

/-- Nothing is admitted for a partition that does not wait, or that no mask holds. -/
theorem Dev.beAdmission_idle {d : Dev} {p : Nat} (h : d.beWaits p = false ∨ 64 < (d.sched p).slots) : d.beAdmission p = d := by
  unfold Dev.beAdmission
  rcases h with h | h
  · rw [h]; rfl
  · have hf (x : List Nat) : d.fits p x = false := d.not_fits x h
    have hn : d.evictFor p = none := List.find?_eq_none.mpr fun q _ => by rw [hf]; simp
    rw [hf, hn]
    simp

theorem Dev.tryAdmit_idle {d : Dev} (h : ∀ p, p < 16 → d.beWaits p = false ∨ 64 < (d.sched p).slots) : d.tryAdmit = d :=
  List.foldlRecOn (motive := fun x => x = d) d.rotation _ rfl fun x hx p hp => by
    rw [hx]; exact Dev.beAdmission_idle (h p (d.rotation_lt hp))

/-- Objects by which a partition's waiting is judged, but for the owners of cores. -/
def waitKey (k : Nat) : Prop :=
  (0x600000 ≤ k ∧ k < 0x601000 ∧ (k % 256 = 1 ∨ k % 256 = 2)) ∨ (0x210000 ≤ k ∧ k < 0x211000 ∧ k % 256 = 1) ∨
  (0x220000 ≤ k ∧ k < 0x221000) ∨ (0x300000 ≤ k ∧ k < 0x400000 ∧ k / 256 % 64 = 0 ∧ k % 256 = 3)

theorem waitKey_coreSlot {c : Nat} (hc : c < 64) : waitKey (K.CORE_SLOT c).key :=
  .inr (.inr (.inr ⟨by simp only [K.CORE_SLOT]; omega, by simp only [K.CORE_SLOT]; omega, by simp only [K.CORE_SLOT]; omega,
    by simp only [K.CORE_SLOT]; omega⟩))

theorem not_tallyKey_wait {k : Nat} (h : waitKey k) : ¬tallyKey k := by
  refine not_tallyKey ?_
  unfold waitKey at h
  unfold tallyShape recordKey
  rcases h with h | h | h | h <;> omega

/-- A partition goes on not to wait where its objects stand and the cores that it owns are the same. -/
theorem Dev.beWaits_kept {d t : Dev} {p : Nat} (hp : p < 16) (hw : d.beWaits p = false) (hs : (t.sched p).slots = (d.sched p).slots)
    (ho : ∀ o : Obj, waitKey o.key → t.get o = d.get o)
    (hown : ∀ c, c < 64 → (t.get (K.CORE_OWNER c) == p) = (d.get (K.CORE_OWNER c) == p)) :
    t.beWaits p = false ∨ 64 < (t.sched p).slots := by
  by_cases hn : 64 < (t.sched p).slots
  · exact .inr hn
  refine .inl ?_
  have hst : t.get (K.PART_STATE p) = d.get (K.PART_STATE p) := ho _ (.inl (by simp only [K.PART_STATE]; omega))
  have hcl : t.get (K.PART_CLASS p) = d.get (K.PART_CLASS p) := ho _ (.inl (by simp only [K.PART_CLASS]; omega))
  have hsc : t.get (K.SCHED_STATE p) = d.get (K.SCHED_STATE p) := ho _ (.inr (.inl (by simp only [K.SCHED_STATE]; omega)))
  have hall : t.allResident p = d.allResident p := by
    unfold Dev.allResident
    rw [hs, Bool.eq_iff_iff, List.all_eq_true, List.all_eq_true]
    refine forall₂_congr fun n hm => ?_
    have := List.mem_range.mp hm
    rw [ho (K.SLOT_CORE p n) (.inr (.inr (.inl (by simp only [K.SLOT_CORE]; omega))))]
  have hcores : (t.slotCores p).isEmpty = (d.slotCores p).isEmpty := by
    unfold Dev.slotCores
    rw [List.isEmpty_map, List.isEmpty_map]
    congr 1
    refine List.filter_congr fun c hc => ?_
    have := List.mem_range.mp hc
    rw [hown c this, ho _ (waitKey_coreSlot this)]
  unfold Dev.beWaits at hw ⊢
  rw [hst, hcl, hsc, hall, hcores, hw]

/-! ## A core whose commands ended -/

theorem Core.passes_of_still {k x : Core} (h : x.still = k.still) : x.passes = k.passes :=
  have := congrArg Core.passes h
  this

theorem Dev.stopPasses_passes (d : Dev) {c : Nat} (hc : c < 64) (st : Nat) (push all : Bool) :
    ((d.stopPasses c st push all).core c).passes = [] := by
  unfold Dev.stopPasses
  extract_lets t
  generalize (d.core c).drainTo t = r
  obtain ⟨k, ws⟩ := r
  dsimp -zeta only
  extract_lets ms gone x
  have hx : (x.core c).passes = [] := by
    refine (Core.passes_of_still ((Dev.metRecords_tallied _ hc _).core c)).trans ?_
    rw [Dev.core_setCore_self]
  refine (Core.passes_of_still (Dev.Tallied.core (.foldl _ gone (fun y p _ => ?_) x) c)).trans hx
  exact (Dev.Tallied.cnt y 1 (.passes hc)).trans (Dev.finish_tallied _ (eng_inside (by decide) hc) _ _)

theorem Dev.raEmpty_passes (d : Dev) (c : Nat) : ((d.raEmpty c).core c).passes = (d.core c).passes := by
  have h (x : Core) (n : Nat) : ((d.setCore c x).cnt (K.RA_DISCARDED c) n).core c = x := d.core_setCore_self c x
  unfold Dev.raEmpty
  dsimp only
  rw [h]

theorem Dev.abortCore_passes (d : Dev) {c : Nat} (hc : c < 64) (st : Nat) : ((d.abortCore c st).core c).passes = [] := by
  unfold Dev.abortCore
  extract_lets d1 d2 x d3 d4 k
  have h2 : (d2.core c).passes = [] := Dev.stopPasses_passes _ hc _ _ _
  have h3 : (d3.core c).passes = [] := (congrArg Core.passes (d2.core_setCore_self c _)).trans h2
  have h4 : Dev.Tallied d3 d4 := .foldl _ _ (fun x k hk => .trans (x.setCtx_tallied _ _)
    (.foldl _ _ (fun y _ _ => y.finish_tallied (eng_inside (by simp at hk; omega) hc) _ _) _)) _
  have h5 : (k.passes) = [] := (Core.passes_of_still (h4.core c)).trans h3
  clear_value d4
  rw [Dev.raEmpty_passes, Dev.core_setCore_self]
  exact h5

/-! ## A fence of a core that nothing holds (R478) -/

/-- Objects that a fence moves. -/
def fenceKey (c k : Nat) : Prop :=
  tallyKey k ∨ k = K.FENCE_MASK.key ∨ k = (K.ZEROISE_COUNT c).key ∨ k = (K.DOM_STATE c).key ∨ k = K.DEVICE_HEALTH.key

/-- `t` is `d` with the idle core `c` fenced. -/
structure Dev.FencedFree (d t : Dev) (c : Nat) : Prop where
  obj : Dev.ObjsBut (fenceKey c) d t
  mask : t.get K.FENCE_MASK = withBit (d.get K.FENCE_MASK) c true
  off : d.scanning c = false → t.get (K.DOM_STATE c) = 4
  slots : ∀ p, (t.sched p).slots = (d.sched p).slots
  empty : (t.core c).sp = [] ∧ (t.core c).passes = []
  scanQ : t.scanQ = d.scanQ

theorem Dev.fence_fenced {d : Dev} {c : Nat} (hc : c < 64) (detail : Nat) (hp : bit (d.get K.CORE_PRESENT) c = true)
    (hf : bit (d.get K.FENCE_MASK) c = false) (ho : d.get (K.CORE_OWNER c) = 0xFF) (hw : d.swOf c = none) :
    Dev.FencedFree d (d.fence c detail) c := by
  obtain ⟨⟨i, h⟩, hs⟩ := Dev.fence_free hc detail hp hf ho hw
  have ha := d.abortCore_halted hc stFENCED
  have hpass := d.abortCore_passes hc stFENCED
  generalize d.abortCore c stFENCED = a at h hs ha hpass
  have hcore : ∃ till, ((a.fenced c).core c) = { a.core c with
      sp := [], poison := [], once := [], flaw := [], crcOff := [], resident := [], dirty := [], hq := [], vlen := 0, src := [],
      scrubLine := [], scrubAt := [], zeroTill := till } := by
    unfold Dev.fenced
    extract_lets d1
    have h1 := ((a.setSw c none).put K.FENCE_MASK (withBit (a.get K.FENCE_MASK) c true)).zeroise_core c
    split
    · exact h1
    · exact h1
  have hrest : ∀ p, ((a.fenced c).sched p).slots = (a.sched p).slots := by
    intro p
    unfold Dev.fenced
    extract_lets d1
    split <;> rfl
  have hq : (a.fenced c).scanQ = a.scanQ := by
    unfold Dev.fenced
    extract_lets d1
    split <;> rfl
  have hfo : Dev.ObjsBut (fenceKey c) (a.fenced c) (d.fence c detail) := by
    refine .trans (.trans (((a.fenced c).file_objs i).mono fun k hk => .inl (.record hk)) (.put _ _ ?_)) (h.mono fun k hk => .inl (.record hk))
    exact .inr (.inr (.inr (.inr rfl)))
  have hcores : (d.fence c detail).cores = (a.fenced c).cores := by rw [show d.fence c detail = _ from hs]
  have hparts : (d.fence c detail).parts = (a.fenced c).parts := by rw [show d.fence c detail = _ from hs]
  have hsq : (d.fence c detail).scanQ = (a.fenced c).scanQ := by rw [show d.fence c detail = _ from hs]
  have kept (o : Obj) (hr : ¬recordKey o.key) (hh : o.key ≠ K.DEVICE_HEALTH.key) : (d.fence c detail).get o = (a.fenced c).get o := by
    rw [h o hr, Dev.get_put_ne _ _ hh, Dev.file_objs _ _ o hr]
  refine ⟨.trans (ha.obj.mono fun k hk => .inl hk) (.trans ((a.fenced_objs c).mono fun k hk => ?_) hfo), ?_, fun hscan => ?_, fun p => ?_, ?_, ?_⟩
  · rcases hk with hk | hk | hk
    · exact .inr (.inl hk)
    · exact .inr (.inr (.inl hk))
    · exact .inr (.inr (.inr (.inl hk)))
  · rw [kept _ (by simp only [recordKey, K.FENCE_MASK]; omega) (by decide), a.fenced_mask hc,
      ha.obj _ (not_tallyKey (by simp only [tallyShape, recordKey, K.FENCE_MASK]; omega))]
  · rw [kept _ (by simp only [recordKey, K.DOM_STATE]; omega) (by simp only [K.DOM_STATE, K.DEVICE_HEALTH]; omega), a.fenced_off hc ?_]
    unfold Dev.scanning at hscan ⊢
    rw [ha.obj _ (not_tallyKey (by simp only [tallyShape, recordKey, K.SCAN_STATE]; omega))]
    exact hscan
  · have : (d.fence c detail).sched p = (a.fenced c).sched p := by unfold Dev.sched Dev.part; rw [hparts]
    rw [this, hrest, ha.slots]
  · obtain ⟨till, hcore⟩ := hcore
    have : (d.fence c detail).core c = (a.fenced c).core c := by unfold Dev.core; rw [hcores]
    rw [this, hcore]
    exact ⟨rfl, hpass⟩
  · rw [hsq, hq, show a = _ from ha.rest]

/-! ## SCAN_COMPLETE (R475) -/

/-- The result of a scan of an empty core. -/
def Dev.scanResult (d : Dev) (c : Nat) (passed : Bool) : Dev :=
  ((d.put (K.SCAN_LAST c) d.now).cnt (K.SCANS c) 1).put (K.SCAN_STATE c) (if passed then 3 else 4)

/-- The end of a scan on its core: the scratchpads are empty, the core is nobody's, its result and its record stand. -/
def Dev.scanned (d : Dev) (c : Nat) (passed : Bool) : Dev :=
  let d := ((d.zeroise c).put (K.CORE_OWNER c) 0xFF).scanResult c passed
  if passed then (if d.get (K.REPRO_COUNT c) = 0 then d else d.coreRecord c 6 0 0) else d.coreRecord c 5 0 0

/-- Objects that the end of a scan moves. -/
def scanEndKey (c k : Nat) : Prop :=
  recordKey k ∨ k = (K.ZEROISE_COUNT c).key ∨ k = (K.CORE_OWNER c).key ∨ k = (K.SCAN_LAST c).key ∨ k = (K.SCANS c).key ∨
  k = (K.SCAN_STATE c).key

structure Dev.ScanEnded (d t : Dev) (c : Nat) (passed : Bool) : Prop where
  obj : Dev.ObjsBut (scanEndKey c) d t
  state : t.get (K.SCAN_STATE c) = if passed then 3 else 4
  last : t.get (K.SCAN_LAST c) = d.now
  scans : t.get (K.SCANS c) = addSat 64 (d.get (K.SCANS c)) 1
  owner : t.get (K.CORE_OWNER c) = 0xFF
  empty : (t.core c).sp = []
  parts : t.parts = d.parts
  sw : t.sw = d.sw

theorem Dev.scanResult_ended (d : Dev) {c : Nat} (passed : Bool) (ho : d.get (K.CORE_OWNER c) = 0xFF) (he : (d.core c).sp = []) :
    Dev.ScanEnded d (d.scanResult c passed) c passed := by
  unfold Dev.scanResult
  refine ⟨?_, Dev.get_put_self _ _ _, ?_, ?_, ?_, he, rfl, rfl⟩
  · exact .trans (.trans (.put _ _ (.inr (.inr (.inr (.inl rfl))))) (.cnt _ _ (.inr (.inr (.inr (.inr (.inl rfl)))))))
      (.put _ _ (.inr (.inr (.inr (.inr (.inr rfl))))))
  · rw [Dev.get_put_ne _ _ (by simp only [K.SCAN_LAST, K.SCAN_STATE]; omega), Dev.cnt, Dev.bump,
      Dev.get_put_ne _ _ (by simp only [K.SCAN_LAST, K.SCANS]; omega), Dev.get_put_self]
  · rw [Dev.get_put_ne _ _ (by simp only [K.SCANS, K.SCAN_STATE]; omega), Dev.cnt, Dev.bump, Dev.get_put_self,
      Dev.get_put_ne _ _ (by simp only [K.SCANS, K.SCAN_LAST]; omega)]
  · rw [Dev.get_put_ne _ _ (by simp only [K.CORE_OWNER, K.SCAN_STATE]; omega), Dev.cnt, Dev.bump,
      Dev.get_put_ne _ _ (by simp only [K.CORE_OWNER, K.SCANS]; omega), Dev.get_put_ne _ _ (by simp only [K.CORE_OWNER, K.SCAN_LAST]; omega)]
    exact ho

/-- A record leaves what the end of a scan left. -/
theorem Dev.ScanEnded.file {d t : Dev} {c : Nat} (hc : c < 64) {passed : Bool} (h : Dev.ScanEnded d t c passed) (i : RecInfo) :
    Dev.ScanEnded d (t.file i) c passed := by
  have ho (o : Obj) (hr : ¬recordKey o.key) := t.file_objs i o hr
  have hs := t.file_sent i
  have hcores : (t.file i).cores = t.cores := by rw [show t.file i = _ from hs]
  refine ⟨h.obj.trans ((t.file_objs i).mono fun _ h => .inl h), ?_, ?_, ?_, ?_, ?_, ?_, ?_⟩
  · rw [ho _ (by simp only [recordKey, K.SCAN_STATE]; omega)]; exact h.state
  · rw [ho _ (by simp only [recordKey, K.SCAN_LAST]; omega)]; exact h.last
  · rw [ho _ (by simp only [recordKey, K.SCANS]; omega)]; exact h.scans
  · rw [ho _ (by simp only [recordKey, K.CORE_OWNER]; omega)]; exact h.owner
  · unfold Dev.core
    rw [hcores]
    exact h.empty
  · rw [show t.file i = _ from hs]; exact h.parts
  · rw [show t.file i = _ from hs]; exact h.sw

theorem Dev.scanned_ended (d : Dev) {c : Nat} (hc : c < 64) (passed : Bool) : Dev.ScanEnded d (d.scanned c passed) c passed := by
  have h1 : Dev.ObjsBut (scanEndKey c) d ((d.zeroise c).put (K.CORE_OWNER c) 0xFF) :=
    .trans ((d.zeroise_objs c).mono fun k hk => .inr (.inl hk)) (.put _ _ (.inr (.inr (.inl rfl))))
  obtain ⟨till, hz⟩ := d.zeroise_core c
  have h2 := ((d.zeroise c).put (K.CORE_OWNER c) 0xFF).scanResult_ended passed (Dev.get_put_self _ _ _) (congrArg Core.sp hz)
  have hscans : ((d.zeroise c).put (K.CORE_OWNER c) 0xFF).get (K.SCANS c) = d.get (K.SCANS c) := by
    rw [Dev.get_put_ne _ _ (by simp only [K.SCANS, K.CORE_OWNER]; omega), d.zeroise_objs c _ (by simp only [K.SCANS, K.ZEROISE_COUNT]; omega)]
  have h : Dev.ScanEnded d (((d.zeroise c).put (K.CORE_OWNER c) 0xFF).scanResult c passed) c passed :=
    ⟨h1.trans h2.obj, h2.state, h2.last, h2.scans.trans (by rw [hscans]), h2.owner, h2.empty, h2.parts, h2.sw⟩
  unfold Dev.scanned
  dsimp only
  cases passed with
  | true =>
    rw [if_pos rfl]
    split
    · exact h
    · exact h.file hc _
  | false => exact h.file hc _

/-- The end of a scan, but for what waits for cores. -/
def Dev.scanOut (d : Dev) (c : Nat) (passed : Bool) : Dev :=
  let d := d.scanned c passed
  let d := if passed then d else d.fence c 1
  let out := d.scanHold.contains c && d.get K.BOOT_STATE == 8 && !d.avs.contains (quadOf c)
  let d := { d with scanHold := d.scanHold.erase c, released := if out then withBit d.released c true else d.released }
  if bit (d.get K.FENCE_MASK) c then d.put (K.DOM_STATE c) 4 else d

theorem Dev.scanComplete_out {d : Dev} {c : Nat} (hs : d.scanning c = true) (ht : d.scanAt + 14375000 ≤ d.now) (passed : Bool) :
    d.scanComplete c passed = (d.scanOut c passed).tryAdmit := by
  unfold Dev.scanComplete
  rw [if_neg (by simp [hs, ht])]
  rfl

/-- What SCAN_COMPLETE leaves: `d` before, `t` after. -/
structure Dev.ScanDone (d t : Dev) (c : Nat) (passed : Bool) : Prop where
  state : t.get (K.SCAN_STATE c) = if passed then 3 else 4
  last : t.get (K.SCAN_LAST c) = d.now
  scans : t.get (K.SCANS c) = addSat 64 (d.get (K.SCANS c)) 1
  owner : t.get (K.CORE_OWNER c) = 0xFF
  empty : (t.core c).sp = []
  fenced : passed = false → bit (t.get K.FENCE_MASK) c = true ∧ t.get (K.DOM_STATE c) = 4
  unfenced : passed = true → t.get K.FENCE_MASK = d.get K.FENCE_MASK
  slots : ∀ p, (t.sched p).slots = (d.sched p).slots
  wait : ∀ o : Obj, waitKey o.key → t.get o = d.get o
  owners : ∀ k, k < 64 → k ≠ c → t.get (K.CORE_OWNER k) = d.get (K.CORE_OWNER k)

/-- What the end of a scan leaves before anything is admitted. -/
theorem Dev.scanOut_done {d : Dev} {c : Nat} (hc : c < 64) (passed : Bool) (hp : bit (d.get K.CORE_PRESENT) c = true)
    (hw : d.swOf c = none) : Dev.ScanDone d (d.scanOut c passed) c passed := by
  unfold Dev.scanOut
  extract_lets d3 d4 out d5
  have h3 : Dev.ScanEnded d d3 c passed := d.scanned_ended hc passed
  clear_value d3
  have hp3 : bit (d3.get K.CORE_PRESENT) c = true := by
    rw [h3.obj _ (by simp only [scanEndKey, recordKey, K.CORE_PRESENT, K.ZEROISE_COUNT, K.CORE_OWNER, K.SCAN_LAST, K.SCANS, K.SCAN_STATE]; omega)]
    exact hp
  have hw3 : d3.swOf c = none := by unfold Dev.swOf; rw [h3.sw]; exact hw
  have hscan3 : passed = false → d3.scanning c = false := fun h => by
    unfold Dev.scanning; rw [h3.state, h]; rfl
  have h4 : Dev.ObjsBut (fenceKey c) d3 d4 ∧ (∀ p, (d4.sched p).slots = (d3.sched p).slots) ∧ (d4.core c).sp = [] ∧
      (passed = false → bit (d4.get K.FENCE_MASK) c = true) ∧ (passed = true → d4 = d3) := by
    cases passed with
    | true => exact ⟨.refl _, fun _ => rfl, h3.empty, fun h => (by cases h), fun _ => rfl⟩
    | false =>
      by_cases hf : bit (d3.get K.FENCE_MASK) c = true
      · have hd : d4 = d3 := by
          show d3.fence c 1 = d3
          unfold Dev.fence
          rw [if_pos hf]
        rw [hd]
        exact ⟨.refl _, fun _ => rfl, h3.empty, fun _ => hf, fun h => (by cases h)⟩
      · have h := Dev.fence_fenced hc 1 hp3 (Bool.eq_false_iff.mpr hf) h3.owner hw3
        exact ⟨h.obj, h.slots, h.empty.1, fun _ => (congrArg (bit · c) h.mask).trans (by rw [bit_withBit_true, if_pos rfl]), fun h => (by cases h)⟩
  obtain ⟨h4o, h4s, h4e, h4f, h4t⟩ := h4
  clear_value d4
  have kept (o : Obj) (h : ¬fenceKey c o.key) : (if bit (d5.get K.FENCE_MASK) c then d5.put (K.DOM_STATE c) 4 else d5).get o = d3.get o := by
    have : d5.get o = d3.get o := h4o o h
    split
    · rw [Dev.get_put_ne _ _ fun hk => h (.inr (.inr (.inr (.inl hk)))), this]
    · exact this
  have nkey (s : Nat) (hs : s < 256) (i : Nat) (hi : i = 0x1C ∨ i = 0 ∧ s ≠ 9) (k : Nat) (hk : k < 64) :
      ¬fenceKey c ((0x3000 + i + k * 0x40) * 256 + s) := by
    rintro (h | h)
    · exact not_tallyKey (by unfold tallyShape recordKey; omega) h
    · simp only [K.FENCE_MASK, K.ZEROISE_COUNT, K.DOM_STATE, K.DEVICE_HEALTH] at h; omega
  have hparts (p : Nat) : d3.sched p = d.sched p := by unfold Dev.sched Dev.part; rw [h3.parts]
  refine ⟨?_, ?_, ?_, ?_, ?_, fun h => ?_, fun h => ?_, fun p => ?_, fun o ho => ?_, fun k hk hne => ?_⟩
  · rw [kept _ (nkey 5 (by decide) 0x1C (.inl rfl) c hc)]; exact h3.state
  · rw [kept _ (nkey 6 (by decide) 0x1C (.inl rfl) c hc)]; exact h3.last
  · rw [kept _ (nkey 7 (by decide) 0x1C (.inl rfl) c hc)]; exact h3.scans
  · rw [kept _ (nkey 2 (by decide) 0 (.inr ⟨rfl, by decide⟩) c hc)]; exact h3.owner
  · split <;> exact h4e
  · have hb : bit (d5.get K.FENCE_MASK) c = true := h4f h
    rw [if_pos hb]
    exact ⟨by rw [Dev.get_put_ne _ _ (by simp only [K.FENCE_MASK, K.DOM_STATE]; omega)]; exact hb, Dev.get_put_self _ _ _⟩
  · have hm : d5.get K.FENCE_MASK = d.get K.FENCE_MASK := by
      show d4.get K.FENCE_MASK = _
      rw [h4t h, h3.obj _ (by simp only [scanEndKey, recordKey, K.FENCE_MASK, K.ZEROISE_COUNT, K.CORE_OWNER, K.SCAN_LAST, K.SCANS, K.SCAN_STATE]; omega)]
    split
    · rw [Dev.get_put_ne _ _ (by simp only [K.FENCE_MASK, K.DOM_STATE]; omega), hm]
    · exact hm
  · rw [← hparts, ← h4s]
    split <;> rfl
  · rw [kept o, h3.obj o]
    · simp only [waitKey] at ho
      simp only [scanEndKey, recordKey, K.ZEROISE_COUNT, K.CORE_OWNER, K.SCAN_LAST, K.SCANS, K.SCAN_STATE]
      omega
    · rintro (h | h)
      · exact not_tallyKey_wait ho h
      · simp only [waitKey] at ho
        simp only [K.FENCE_MASK, K.ZEROISE_COUNT, K.DOM_STATE, K.DEVICE_HEALTH] at h
        omega
  · rw [kept _ (nkey 2 (by decide) 0 (.inr ⟨rfl, by decide⟩) k hk), h3.obj _ (by
      simp only [scanEndKey, recordKey, K.ZEROISE_COUNT, K.CORE_OWNER, K.SCAN_LAST, K.SCANS, K.SCAN_STATE]; omega)]

/-! ## SCAN_ABANDON and SCAN_PERIOD_EXPIRE -/

theorem Dev.scanAbandon_some {d : Dev} {c : Nat} {w : Switch} (hs : d.scanning c = true) (hw : d.swOf c = some w) (hi : w.inn ≠ none) :
    d.scanAbandon c = ({ (d.zeroise c).put (K.CORE_OWNER c) 0xFF with scanQ := d.scanQ ++ [c] } : Dev).put (K.SCAN_STATE c) 5 := by
  unfold Dev.scanAbandon
  rw [hw]
  dsimp only
  rw [if_neg (by simp [hs, hi])]
  rfl

/-- A scan that is queued: its core's SCAN_STATE, and its place in the queue. -/
theorem Dev.queueScan_leaves (d : Dev) (c : Nat) : Dev.ObjsBut (fun k => k = (K.SCAN_STATE c).key) d (d.queueScan c) ∧
    (∀ k, (d.queueScan c).core k = d.core k) ∧ (d.queueScan c).sw = d.sw ∧
    (d.scanning c = false → c ∈ (d.queueScan c).scanQ ∧ (d.queueScan c).scanning c = false) := by
  unfold Dev.queueScan
  split
  next h => exact ⟨.refl _, fun _ => rfl, rfl, fun hs => ⟨by simpa [hs] using h, hs⟩⟩
  next =>
    refine ⟨.trans (b := { d with scanQ := d.scanQ ++ [c] }) (.of_objs rfl) (.put _ _ rfl), fun _ => rfl, rfl,
      fun _ => ⟨List.mem_append_right _ (List.mem_singleton_self _), ?_⟩⟩
    unfold Dev.scanning
    rw [Dev.get_put_self]
    rfl

/-- The cores of a list that are not being scanned wait for a scan once each has been queued. -/
theorem Dev.queueScans_mem {l : List Nat} {d : Dev} {c : Nat} (hs : d.scanning c = false)
    (h : c ∈ l ∨ c ∈ d.scanQ) : c ∈ (l.foldl Dev.queueScan d).scanQ := by
  induction l generalizing d with
  | nil => exact h.resolve_left (by simp)
  | cons k r ih =>
    rw [List.foldl_cons]
    have hq : c = k ∨ c ∈ d.scanQ → c ∈ (d.queueScan k).scanQ := by
      unfold Dev.queueScan
      split
      next hx =>
        rintro (rfl | hm)
        · simpa [hs] using hx
        · exact hm
      next =>
        rintro (rfl | hm)
        · exact List.mem_append_right _ (List.mem_singleton_self _)
        · exact List.mem_append_left _ hm
    by_cases hck : c = k
    · by_cases hsc : (d.queueScan k).scanning c = false
      · exact ih hsc (.inr (hq (.inl hck)))
      · refine absurd ?_ hsc
        unfold Dev.queueScan
        split
        · exact hs
        · unfold Dev.scanning
          rw [hck, Dev.get_put_self]
          rfl
    · refine ih ?_ (h.elim (fun hm => ?_) fun hm => .inr (hq (.inr hm)))
      · unfold Dev.queueScan
        split
        · exact hs
        · unfold Dev.scanning
          rw [Dev.get_put_ne _ _ (by simp only [K.SCAN_STATE]; omega)]
          exact hs
      · exact .inl ((List.mem_cons.mp hm).resolve_left hck)

/-! ## INTERLOCK_STOP (R148, R474) -/

/-- The array stopped: its passes have ended, its syndrome is shown. -/
def Dev.arrayStopped (d : Dev) (c syn : Nat) (i : RecInfo) : Dev :=
  let d := (d.file i).stopPasses c stLATE true false
  let d := d.setCore c { d.core c with mxStop := true, mxWait := 0 }
  (Dev.bump 32 d (K.MXA_INTERLOCKS c) 1).put (K.MXA_LAST_SYNDROME c) syn

theorem Dev.interlockStop_stopped {d : Dev} {c syn : Nat} (h1 : 1 ≤ syn) (h5 : syn ≤ 5) (hp : (d.core c).passes ≠ []) :
    ∃ i, d.interlockStop c syn = (((d.arrayStopped c syn i).candidate c 1).queueScan c).reproCheck c := by
  have hn : ¬(decide (syn = 0) || decide (5 < syn) || (d.core c).passes.isEmpty) = true := by
    simp only [Bool.or_eq_true, decide_eq_true_eq, List.isEmpty_iff]
    rintro ((h | h) | h)
    · omega
    · omega
    · exact hp h
  unfold Dev.interlockStop
  rw [if_neg hn]
  exact ⟨_, rfl⟩

/-- Objects that an interlock moves, before a fence that it leads to. -/
def interlockKey (c k : Nat) : Prop :=
  tallyKey k ∨ k = (K.MXA_INTERLOCKS c).key ∨ k = (K.MXA_LAST_SYNDROME c).key ∨ k = (K.CAND_COUNT c).key ∨ k = (K.REPRO_COUNT c).key ∨
  k = (K.CAND_TICK c).key ∨ k = (K.SCAN_STATE c).key

/-- `t` is `d` after an interlock: the array stopped, the event noted, a scan queued. -/
structure Dev.Interlocked (d t : Dev) (c syn : Nat) : Prop where
  obj : Dev.ObjsBut (interlockKey c) d t
  passes : (t.core c).passes = []
  stop : (t.core c).mxStop = true
  syndrome : t.get (K.MXA_LAST_SYNDROME c) = syn
  repro : t.get (K.REPRO_COUNT c) = addSat 8 (d.get (K.REPRO_COUNT c)) 1
  tick : t.get (K.CAND_TICK c) = d.now
  scan : d.scanning c = false → c ∈ t.scanQ ∧ t.scanning c = false
  sw : t.sw = d.sw

theorem Dev.arrayStopped_halted (d : Dev) {c : Nat} (hc : c < 64) (syn : Nat) (i : RecInfo) :
    Dev.ObjsBut (interlockKey c) d (d.arrayStopped c syn i) ∧ Dev.Worked d (d.arrayStopped c syn i) ∧
    ((d.arrayStopped c syn i).get (K.SCAN_STATE c) = d.get (K.SCAN_STATE c)) ∧ ((d.arrayStopped c syn i).core c).passes = [] ∧ ((d.arrayStopped c syn i).core c).mxStop = true ∧
    (d.arrayStopped c syn i).get (K.MXA_LAST_SYNDROME c) = syn ∧ (d.arrayStopped c syn i).get (K.REPRO_COUNT c) = d.get (K.REPRO_COUNT c) := by
  have hf := d.file_tallied i
  have hs := (d.file i).stopPasses_halted hc stLATE true false
  have hp := (d.file i).stopPasses_passes hc stLATE true false
  unfold Dev.arrayStopped
  generalize (d.file i).stopPasses c stLATE true false = a at hs hp
  have ha := hf.toHalted.trans hs
  extract_lets a' k b
  have hb : Dev.ObjsBut (interlockKey c) a ((Dev.bump 32 b (K.MXA_INTERLOCKS c) 1).put (K.MXA_LAST_SYNDROME c) syn) :=
    .trans (b := b) (.of_objs rfl) (.trans (.put _ _ (.inr (.inl rfl))) (.put _ _ (.inr (.inr (.inl rfl)))))
  have hcore : ((Dev.bump 32 b (K.MXA_INTERLOCKS c) 1).put (K.MXA_LAST_SYNDROME c) syn).core c = { a.core c with mxStop := true, mxWait := 0 } :=
    a.core_setCore_self c _
  refine ⟨(ha.obj.mono fun k hk => .inl hk).trans hb, ha.rest.trans rfl, ?_, by rw [hcore]; exact hp, by rw [hcore], Dev.get_put_self _ _ _, ?_⟩
  · rw [Dev.get_put_ne _ _ (by simp only [K.SCAN_STATE, K.MXA_LAST_SYNDROME]; omega), Dev.bump,
      Dev.get_put_ne _ _ (by simp only [K.SCAN_STATE, K.MXA_INTERLOCKS]; omega)]
    exact ha.obj _ (not_tallyKey (by simp only [tallyShape, recordKey, K.SCAN_STATE]; omega))
  rw [Dev.get_put_ne _ _ (by simp only [K.REPRO_COUNT, K.MXA_LAST_SYNDROME]; omega), Dev.bump,
    Dev.get_put_ne _ _ (by simp only [K.REPRO_COUNT, K.MXA_INTERLOCKS]; omega)]
  exact ha.obj _ (not_tallyKey (by simp only [tallyShape, recordKey, K.REPRO_COUNT]; omega))

theorem Dev.interlocked {d : Dev} {c syn : Nat} (hc : c < 64) (i : RecInfo) :
    Dev.Interlocked d (((d.arrayStopped c syn i).candidate c 1).queueScan c) c syn := by
  obtain ⟨ho, hw, hscan', hp, hstop, hsyn, hrep⟩ := d.arrayStopped_halted hc syn i
  have hnow : (d.arrayStopped c syn i).now = d.now := by rw [show d.arrayStopped c syn i = _ from hw]
  have hsw : (d.arrayStopped c syn i).sw = d.sw := by rw [show d.arrayStopped c syn i = _ from hw]
  generalize d.arrayStopped c syn i = a at *
  have hcand : Dev.ObjsBut (interlockKey c) a (a.candidate c 1) :=
    .trans (.trans (.put _ _ (.inr (.inr (.inr (.inl rfl))))) (.put _ _ (.inr (.inr (.inr (.inr (.inl rfl)))))))
      (.put _ _ (.inr (.inr (.inr (.inr (.inr (.inl rfl)))))))
  have hrepro : (a.candidate c 1).get (K.REPRO_COUNT c) = addSat 8 (d.get (K.REPRO_COUNT c)) 1 := by
    unfold Dev.candidate
    rw [Dev.get_put_ne _ _ (by simp only [K.REPRO_COUNT, K.CAND_TICK]; omega), Dev.bump, Dev.get_put_self, Dev.bump,
      Dev.get_put_ne _ _ (by simp only [K.REPRO_COUNT, K.CAND_COUNT]; omega), hrep]
  have htick : (a.candidate c 1).get (K.CAND_TICK c) = d.now := (Dev.get_put_self _ _ _).trans hnow
  have hsyn' : (a.candidate c 1).get (K.MXA_LAST_SYNDROME c) = syn := by
    unfold Dev.candidate
    rw [Dev.get_put_ne _ _ (by simp only [K.MXA_LAST_SYNDROME, K.CAND_TICK]; omega), Dev.bump,
      Dev.get_put_ne _ _ (by simp only [K.MXA_LAST_SYNDROME, K.REPRO_COUNT]; omega), Dev.bump,
      Dev.get_put_ne _ _ (by simp only [K.MXA_LAST_SYNDROME, K.CAND_COUNT]; omega), hsyn]
  have hscan : (a.candidate c 1).get (K.SCAN_STATE c) = a.get (K.SCAN_STATE c) := by
    unfold Dev.candidate
    rw [Dev.get_put_ne _ _ (by simp only [K.SCAN_STATE, K.CAND_TICK]; omega), Dev.bump,
      Dev.get_put_ne _ _ (by simp only [K.SCAN_STATE, K.REPRO_COUNT]; omega), Dev.bump,
      Dev.get_put_ne _ _ (by simp only [K.SCAN_STATE, K.CAND_COUNT]; omega)]
  have hcore : (a.candidate c 1).core c = a.core c := rfl
  have hsw' : (a.candidate c 1).sw = a.sw := rfl
  generalize a.candidate c 1 = b at *
  obtain ⟨hqo, hqc, hqs, hqm⟩ := b.queueScan_leaves c
  refine ⟨ho.trans (hcand.trans (hqo.mono fun k hk => .inr (.inr (.inr (.inr (.inr (.inr hk))))))), ?_, ?_, ?_, ?_, ?_, fun h => hqm ?_, ?_⟩
  · rw [hqc, hcore, hp]
  · rw [hqc, hcore, hstop]
  · rw [hqo _ (by simp only [K.MXA_LAST_SYNDROME, K.SCAN_STATE]; omega), hsyn']
  · rw [hqo _ (by simp only [K.REPRO_COUNT, K.SCAN_STATE]; omega), hrepro]
  · rw [hqo _ (by simp only [K.CAND_TICK, K.SCAN_STATE]; omega), htick]
  · unfold Dev.scanning at h ⊢
    rw [hscan, hscan', h]
  · rw [hqs, hsw', hsw]

/-! ## The statement -/

theorem Core.byte_empty {k : Core} (h : k.sp = []) (m o : Nat) : k.byte m o = 0 := by
  unfold Core.byte
  rw [h]
  rfl

/-- A core whose scan is not fenced by, and that has had a reproduction before, is fenced at the next. -/
theorem Dev.reproCheck_fenced {d : Dev} {c : Nat} (hc : c < 64) (hr : 2 ≤ d.get (K.REPRO_COUNT c)) (hp : bit (d.get K.CORE_PRESENT) c = true)
    (hf : bit (d.get K.FENCE_MASK) c = false) (ho : d.get (K.CORE_OWNER c) = 0xFF) (hw : d.swOf c = none) (hs : d.scanning c = false)
    (hq : c ∈ d.scanQ) :
    ((d.reproCheck c).core c).passes = [] ∧ (d.reproCheck c).get (K.MXA_LAST_SYNDROME c) = d.get (K.MXA_LAST_SYNDROME c) ∧
      bit ((d.reproCheck c).get K.FENCE_MASK) c = true ∧ (d.reproCheck c).get (K.DOM_STATE c) = 4 ∧ c ∈ (d.reproCheck c).scanQ := by
  have h := Dev.fence_fenced hc 3 hp hf ho hw
  have hx : d.reproCheck c = (d.fence c 3).queueScan c := if_neg (by omega)
  have hsame : (d.fence c 3).queueScan c = d.fence c 3 := by
    unfold Dev.queueScan
    rw [if_pos]
    simp [h.scanQ, hq]
  rw [hx, hsame]
  refine ⟨h.empty.2, h.obj _ ?_, by rw [h.mask, bit_withBit_true, if_pos rfl], h.off hs, by rw [h.scanQ]; exact hq⟩
  rintro (hk | hk)
  · exact not_tallyKey (by simp only [tallyShape, recordKey, K.MXA_LAST_SYNDROME]; omega) hk
  · simp only [K.MXA_LAST_SYNDROME, K.FENCE_MASK, K.ZEROISE_COUNT, K.DOM_STATE, K.DEVICE_HEALTH] at hk
    omega

/-- Settles O34: each event of a scan on its own condition; what completions leave keeps the schedules from waiting anew, and a fence finds
the core as the interlock left it. -/
theorem scansAndStops : Obligations.ScansAndStops := by
  refine ⟨⟨fun s c hc hs hq hok hnone hw hst => ?start, fun s c hc hs hno => ?idle, fun s c ok hc hs hscan ht hwait hp hw ho => ?complete,
    fun s c w hc hs hscan hw hi => ?abandon, fun s hs hper ht => ?period⟩, fun s c syn hc hs h1 h5 hp => ?stop⟩
  case start =>
    have hx : exec (.scanStart c) s = .next (s.setDev (s.dev.scanStart c)) := onUnit_next (f := fun d => d.scanStart c) (decide_eq_true hc) hs
    have hst' : (s.dev.coreState c == 1 || s.dev.coreState c == 3 || s.dev.scanHold.contains c) = true := by
      simp only [Bool.or_eq_true, beq_iff_eq, List.contains_iff_mem]
      exact or_assoc.mpr hst
    rw [hx, Dev.scanStart, if_neg]
    rw [hst', hok, hnone, hw]
    simp [hq]
  case idle =>
    have hx : exec (.scanStart c) s = .next (s.setDev (s.dev.scanStart c)) := onUnit_next (f := fun d => d.scanStart c) (decide_eq_true hc) hs
    rw [hx, Dev.scanStart, if_pos, State.setDev_self]
    rcases hno with h | h | h <;> simp [h]
  case complete =>
    have hx : exec (.scanComplete c ok) s = .next (s.setDev (s.dev.scanComplete c ok)) :=
      onUnit_next (f := fun d => d.scanComplete c ok) (decide_eq_true hc) hs
    have hd := Dev.scanOut_done hc ok hp hw
    have hidle : (s.dev.scanOut c ok).tryAdmit = s.dev.scanOut c ok := by
      refine Dev.tryAdmit_idle fun p hp16 => Dev.beWaits_kept hp16 (hwait p hp16) (hd.slots p) hd.wait fun k hk => ?_
      by_cases hkc : k = c
      · rw [hkc, hd.owner, ho, beq_eq_false_iff_ne.mpr (by omega), beq_eq_false_iff_ne.mpr (by omega)]
      · rw [hd.owners k hk hkc]
    refine ⟨_, hx, s.setDev_pending _, s.setDev_sec _, ?_⟩
    rw [State.setDev_dev, Dev.scanComplete_out hscan ht, hidle]
    exact ⟨hd.state, hd.last, hd.scans, hd.owner, Core.byte_empty hd.empty, hd.fenced, hd.unfenced⟩
  case abandon =>
    have hx : exec (.scanAbandon c) s = .next (s.setDev (s.dev.scanAbandon c)) := onUnit_next (f := fun d => d.scanAbandon c) (decide_eq_true hc) hs
    obtain ⟨till, hz⟩ := s.dev.zeroise_core c
    refine ⟨_, hx, s.setDev_pending _, s.setDev_sec _, ?_⟩
    rw [State.setDev_dev, Dev.scanAbandon_some hscan hw hi]
    refine ⟨Dev.get_put_self _ _ _, rfl, ?_, hw, Core.byte_empty (congrArg Core.sp hz)⟩
    rw [Dev.get_put_ne _ _ (by simp only [K.CORE_OWNER, K.SCAN_STATE]; omega)]
    exact (s.dev.zeroise c).get_put_self (K.CORE_OWNER c) 255
  case period =>
    have hx : exec .scanPeriodExpire s = .next (s.setDev s.dev.scanPeriodExpire) := onDev_next (f := fun d => d.scanPeriodExpire) hs
    refine ⟨_, hx, s.setDev_pending _, s.setDev_sec _, ?_⟩
    rw [State.setDev_dev, Dev.scanPeriodExpire, if_neg (by simp [hper, ht])]
    have hb : Dev.Booked { s.dev with scanFrom := s.dev.now } (((List.range 64).filter s.dev.coreUsable).foldl Dev.queueScan { s.dev with scanFrom := s.dev.now }) := by
      refine .foldl _ _ (fun d c hc => (d.queueScan_core ?_).2) _
      exact List.mem_range.mp (List.mem_filter.mp hc).1
    refine ⟨by rw [show _ = _ from hb], fun c hc hu hsc => ?_, hb.cores, hb.mem⟩
    exact Dev.queueScans_mem (d := { s.dev with scanFrom := s.dev.now }) hsc (.inl (List.mem_filter.mpr ⟨List.mem_range.mpr hc, hu⟩))
  case stop =>
    have hx : exec (.interlockStop c syn) s = .next (s.setDev (s.dev.interlockStop c syn)) :=
      onUnit_next (f := fun d => d.interlockStop c syn) (decide_eq_true hc) hs
    obtain ⟨i, hi⟩ := Dev.interlockStop_stopped h1 h5 hp
    have h := Dev.interlocked (d := s.dev) (syn := syn) hc i
    refine ⟨fun h0 => ⟨_, hx, s.setDev_pending _, s.setDev_sec _, ?_⟩, fun hr1 hr255 ho hw hpres hf hsc =>
      ⟨_, hx, s.setDev_pending _, s.setDev_sec _, ?_⟩⟩
    all_goals
      rw [State.setDev_dev, hi]
      generalize ((s.dev.arrayStopped c syn i).candidate c 1).queueScan c = x at h
    · have hone : x.get (K.REPRO_COUNT c) = 1 := by rw [h.repro, h0]; rfl
      have hstay : x.reproCheck c = x := if_pos (by omega)
      rw [hstay]
      exact ⟨h.passes, h.stop, h.syndrome, hone, h.tick, fun hsc => (h.scan hsc).1⟩
    · have htwo : 2 ≤ x.get (K.REPRO_COUNT c) := by rw [h.repro]; unfold addSat; omega
      have nk {k : Nat} (hk : ¬tallyShape k) (hc' : ¬(0x301000 ≤ k ∧ k < 0x400000 ∧ k / 256 % 64 ≠ 0)) : ¬interlockKey c k := by
        rintro (hx | hx)
        · exact not_tallyKey hk hx
        · simp only [K.MXA_INTERLOCKS, K.MXA_LAST_SYNDROME, K.CAND_COUNT, K.REPRO_COUNT, K.CAND_TICK, K.SCAN_STATE] at hx
          omega
      have kp : x.get K.CORE_PRESENT = s.dev.get K.CORE_PRESENT :=
        h.obj _ (nk (by simp only [tallyShape, recordKey, K.CORE_PRESENT]; omega) (by simp only [K.CORE_PRESENT]; omega))
      have kf : x.get K.FENCE_MASK = s.dev.get K.FENCE_MASK :=
        h.obj _ (nk (by simp only [tallyShape, recordKey, K.FENCE_MASK]; omega) (by simp only [K.FENCE_MASK]; omega))
      have ko : x.get (K.CORE_OWNER c) = s.dev.get (K.CORE_OWNER c) :=
        h.obj _ (nk (by simp only [tallyShape, recordKey, K.CORE_OWNER]; omega) (by simp only [K.CORE_OWNER]; omega))
      have kw : x.swOf c = none := (congrArg (fun m => Map.get m none c) h.sw).trans hw
      obtain ⟨hpass, hsyn, hmask, hdom, hq⟩ := Dev.reproCheck_fenced hc htwo (kp ▸ hpres) (kf ▸ hf) (ko ▸ ho) kw (h.scan hsc).2 (h.scan hsc).1
      exact ⟨hpass, hsyn.trans h.syndrome, hmask, hdom, hq⟩

end Sys2Proof.Machine
end

section
/-! Proofs: segments, suspension and resumption (R88, R91). -/
namespace Sys2Proof.Machine

/-! ## The schedule's own records -/

/-- Records of the log and messages leave every schedule. -/
theorem Dev.Sent.sched {a b : Dev} (h : Dev.Sent a b) (p : Nat) : b.sched p = a.sched p := by
  unfold Dev.sched Dev.part
  rw [show b = _ from h]

theorem Dev.Sent.now {a b : Dev} (h : Dev.Sent a b) : b.now = a.now := by rw [show b = _ from h]

/-- Objects that a change of SCHED_STATE moves. -/
def stateKey (p k : Nat) : Prop := recordKey k ∨ k = (K.SCHED_STATE p).key

theorem Dev.setState_objs (d : Dev) (p v : Nat) : Dev.ObjsBut (stateKey p) d (d.setState p v) := by
  unfold Dev.setState
  exact .ite _ (fun _ => .refl d) fun _ => (Dev.ObjsBut.put d _ (.inr rfl)).trans ((Dev.notify_objs _ _ _ _ _ _).mono fun _ => .inl)

theorem Dev.setState_sent (d : Dev) (p v : Nat) : Dev.Sent d (d.setState p v) := by
  unfold Dev.setState
  exact .ite _ (fun _ => rfl) fun _ => (Dev.Sent.put d _ _).trans (Dev.notify_sent _ _ _ _ _ _)

theorem Dev.setState_get (d : Dev) {p : Nat} (v : Nat) (hp : p < 16) : (d.setState p v).get (K.SCHED_STATE p) = v := by
  unfold Dev.setState
  split
  next h => exact h
  next =>
    rw [Dev.notify_objs _ _ _ _ _ _ _ (by simp only [recordKey, K.SCHED_STATE]; omega)]
    exact Dev.get_put_self _ _ _

/-- The schedule that an attempt begins with, in a state of fabric time. -/
def Sched.begun (s : Sched) (ft : Nat) : Sched :=
  { s with seg := 0, resumeAt := none, atCommit := false, causes := [], nf := false, unlocked := ft != 2, fenced := false, voted := false,
           votes := [], decided := false, failCommit := 0, fencedSlots := [], swx := [], swxSent := false, lostEnd := ft == 4,
           excused := [], doubted := false }

theorem Dev.ledgerOpen_sched (d : Dev) (p q : Nat) : (d.ledgerOpen p).sched q = d.sched q := by
  unfold Dev.ledgerOpen
  extract_lets x d1 hdr
  have h1 : d1.sched q = d.sched q := d.sched_setPart (p := p) (x := { x with ledger := [] }) rfl q
  split
  · exact h1
  · rw [(d1.writeWin_side _ _ _ _).sched, h1]

theorem Dev.beginAttempt_sched (d : Dev) {p : Nat} (hp : p < 16) : (d.beginAttempt p).sched p = (d.sched p).begun (d.get K.FT_STATE) := by
  unfold Dev.beginAttempt
  extract_lets s d1 q d2
  rw [d2.ledgerOpen_sched p p]
  have hft : d1.get K.FT_STATE = d.get K.FT_STATE := d.get_put_ne _ (by simp only [K.FT_STATE, K.EPOCH_NOW]; omega)
  show (d2.part p).sched = _
  rw [Dev.part_setPart_self, hft]
  rfl

theorem Dev.beginAttempt_get (d : Dev) {p : Nat} {o : Obj} (ho : o.key < 0x300000) (hne : o.key ≠ (K.EPOCH_NOW p).key) :
    (d.beginAttempt p).get o = d.get o := by
  unfold Dev.beginAttempt
  extract_lets s d1 q d2
  rw [d2.ledgerOpen_low p o ho]
  exact d.get_put_ne _ hne

/-! ## A cap that is put again once a schedule has suspended (R454) -/

/-- `b` is `a` but for the power controller's objects, records, and schedules other than partition `p`'s. -/
structure Dev.CapMoved (p : Nat) (a b : Dev) : Prop where
  obj : Dev.ObjsBut (fun k => recordKey k ∨ 0x700000 ≤ k ∧ k < 0x702000) a b
  sched : b.sched p = a.sched p

namespace Dev.CapMoved

variable {p : Nat} {a b c : Dev}

theorem refl (a : Dev) : Dev.CapMoved p a a := ⟨.refl a, rfl⟩
theorem trans (h : Dev.CapMoved p a b) (g : Dev.CapMoved p b c) : Dev.CapMoved p a c := ⟨h.obj.trans g.obj, g.sched.trans h.sched⟩
theorem put (d : Dev) {o : Obj} (v : Nat) (h : 0x700000 ≤ o.key ∧ o.key < 0x702000) : Dev.CapMoved p d (d.put o v) := ⟨.put d v (.inr h), rfl⟩
theorem setPwr (d : Dev) (x : Pwr) : Dev.CapMoved p d (d.setPwr x) := ⟨.of_objs rfl, rfl⟩
theorem ite (q : Prop) [Decidable q] (h : q → Dev.CapMoved p a b) (h' : ¬q → Dev.CapMoved p a c) : Dev.CapMoved p a (if q then b else c) := by
  split
  · exact h ‹_›
  · exact h' ‹_›
theorem foldl {β : Type} (f : Dev → β → Dev) (l : List β) (h : ∀ d, ∀ x ∈ l, Dev.CapMoved p d (f d x)) (d : Dev) :
    Dev.CapMoved p d (l.foldl f d) := List.foldlRecOn l f (refl d) fun b hb x hx => hb.trans (h b x hx)
theorem pwrRecord (d : Dev) (kind quad detail value : Nat) : Dev.CapMoved p d (d.pwrRecord kind quad detail value) :=
  ⟨(d.pwrRecord_objs _ _ _ _).mono fun _ h => .inl h, (d.file_sent _).sched p⟩
theorem askSuspend (d : Dev) {q : Nat} (h : p ≠ q) : Dev.CapMoved p d (d.askSuspend q) :=
  ⟨.of_objs rfl, d.sched_setSched_ne _ h⟩
theorem runs (h : Dev.CapMoved p a b) : b.runs p = a.runs p := by
  unfold Dev.runs
  by_cases hp : p < 16
  · rw [h.obj (K.SCHED_STATE p) (by simp only [recordKey, K.SCHED_STATE]; omega)]
  · simp [hp]

end Dev.CapMoved

theorem Dev.capStatus_moved {d : Dev} {p : Nat} (h : d.runs p = false) (ok : Bool) (w : Nat) : Dev.CapMoved p d (d.capStatus ok w) := by
  unfold Dev.capStatus
  extract_lets still t d1 st running fresh d2 d3 be lc new
  have h1 : Dev.CapMoved p d d1 := .setPwr _ _
  have hr (cls : Nat) : p ∉ running cls := fun hm => by
    have := (List.mem_filter.mp hm).2
    have hrun : d1.runs p = false := h
    simp [hrun] at this
  have hne (q : Nat) (hq : q ∈ fresh (if new = 2 then be else be ++ lc)) : p ≠ q := by
    rintro rfl
    have hm := (List.mem_filter.mp hq).1
    split at hm
    · exact hr 1 hm
    · exact (List.mem_append.mp hm).elim (hr 1) (hr 0)
  have cap (x : Dev) (v : Nat) : Dev.CapMoved p x (x.put K.CAP_STATUS v) := .put x v (by decide)
  have h3 : Dev.CapMoved p d1 d3 :=
    (Dev.CapMoved.put d1 _ (by decide)).trans (.ite _ (fun _ => .pwrRecord _ _ _ _ _) fun _ => .refl _)
  refine .ite _ (fun _ => .ite _ (fun _ => h1.trans (cap _ _)) fun _ => .ite _ (fun _ => h1) fun _ => h1.trans (cap _ _)) fun _ => ?_
  exact ((h1.trans h3).trans (cap _ _)).trans (.foldl _ _ (fun x q hq => .askSuspend x (hne q hq)) _)

theorem Dev.choosePoints_moved {d : Dev} {p : Nat} (h : d.runs p = false) : Dev.CapMoved p d d.choosePoints := by
  unfold Dev.choosePoints
  extract_lets low was d1 floors wish ops ok w wf d2 d3 x
  have h1 : Dev.CapMoved p d d1 := .foldl _ _ (fun d q hq => .put d _ (by
    have := List.mem_range.mp hq
    simp only [K.FLOOR_MHZ]
    omega)) d
  have hlen : ops.length = 4 := by
    show (if _ then wish else floors).length = 4
    split <;> rfl
  have h2 : Dev.CapMoved p d1 d2 := by
    obtain ⟨y, hy, he, ho, -, -⟩ := d1.points_gone ops 0
    have hd2 : d2 = y := hy
    rw [hd2]
    refine ⟨ho.mono fun k hk => ?_, by unfold Dev.sched Dev.part; rw [he]⟩
    obtain ⟨i, hi, hk⟩ := hk
    unfold pointKey at hk
    omega
  have h3 : Dev.CapMoved p d2 d3 := .foldl _ _ (fun y q _ => .ite _ (fun _ => (Dev.CapMoved.setPwr y _).trans (.pwrRecord _ _ _ _ _)) fun _ => .refl y) d2
  have h4 : Dev.CapMoved p d (d3.setPwr { x with proj := w }) := ((h1.trans h2).trans h3).trans (.setPwr _ _)
  exact h4.trans (Dev.capStatus_moved (h4.runs.trans h) _ _)

/-- A cap put again leaves a suspended schedule, and every object but the power controller's. -/
theorem Dev.capAgain_moved (b : Dev) {d : Dev} {p : Nat} (h : d.runs p = false) : Dev.CapMoved p d (b.capAgain d) := by
  unfold Dev.capAgain
  exact .ite _ (fun _ => d.choosePoints_moved h) fun _ => .refl d

/-- Without a schedule that has just suspended, or that a cap waits for, nothing is put again. -/
theorem Dev.capAgain_idle {b d : Dev} (h : ∀ p ∈ b.pwr.asked, d.get (K.SCHED_STATE p) = b.get (K.SCHED_STATE p)) : b.capAgain d = d := by
  unfold Dev.capAgain
  rw [if_neg]
  rw [Bool.not_eq_true, List.any_eq_false]
  intro p hp
  rw [h p hp]
  simp

/-! ## Slots that stay on their cores -/

theorem Dev.moveSlot_stay {d : Dev} {p n : Nat} (h : d.coreUsable (d.get (K.SLOT_CORE p n)) = true)
    (hm : bit (d.get (K.CORE_MASK p)) (d.get (K.SLOT_CORE p n)) = true) : d.moveSlot p n = (d, true) := by
  unfold Dev.moveSlot
  dsimp only
  rw [if_pos (by simp [h, hm])]

theorem Dev.remap_stay {d : Dev} {p : Nat} (h : ∀ n, n < (d.sched p).slots → d.coreUsable (d.get (K.SLOT_CORE p n)) = true ∧
    bit (d.get (K.CORE_MASK p)) (d.get (K.SLOT_CORE p n)) = true) : d.remap p = (d, true) := by
  unfold Dev.remap
  refine List.foldlRecOn (motive := fun x => x = (d, true)) _ _ rfl fun x hx n hn => ?_
  obtain ⟨hu, hm⟩ := h n (List.mem_range.mp hn)
  rw [hx]
  dsimp only
  rw [Dev.moveSlot_stay hu hm]
  rfl

/-! ## SEGMENT_END and SCHEDULE_RESUME (R91) -/

/-- What a suspension leaves. -/
theorem Dev.suspend_leaves (d : Dev) {p : Nat} (hp : p < 16) (tick : Nat) : (d.suspend p tick).get (K.SCHED_STATE p) = 4 ∧
    (d.suspend p tick).sched p = { d.sched p with suspendReq := false, suspTick := tick, resumeAt := none } ∧
    Dev.ObjsBut (stateKey p) d (d.suspend p tick) := by
  unfold Dev.suspend
  refine ⟨Dev.setState_get _ _ hp, ?_, .trans (b := d.setSched p _) (.of_objs rfl) (Dev.setState_objs _ _ _)⟩
  rw [(Dev.setState_sent _ _ _).sched, Dev.sched_setSched_self]

/-- A schedule whose time is held: HELD_TICKS grows by `n`, and it runs again. -/
def Dev.resumed (d : Dev) (p n : Nat) : Dev :=
  let d := d.cnt (K.HELD_TICKS p) n
  let d := (d.setState p 3).put (K.EPOCH_NOW p) (d.epochOf p)
  d.setSched p { d.sched p with resumeAt := none, doubted := false }

/-- What a resumption leaves, at a segment of its attempt: `d` before, `t` after. -/
structure Dev.Resumed (d t : Dev) (p n : Nat) : Prop where
  state : t.get (K.SCHED_STATE p) = 3
  held : t.get (K.HELD_TICKS p) = addSat 64 (d.get (K.HELD_TICKS p)) n
  epoch : t.get (K.EPOCH_NOW p) = d.get (K.BASE_EPOCH p) + d.get (K.ATTEMPT p) * d.get (K.PERIOD p) + addSat 64 (d.get (K.HELD_TICKS p)) n
  resume : (t.sched p).resumeAt = none

theorem Dev.resumed_resumed (d : Dev) {p : Nat} (hp : p < 16) (n : Nat) :
    Dev.Resumed d (d.resumed p n) p n ∧ (d.resumed p n).epochOf p = (d.resumed p n).get (K.EPOCH_NOW p) := by
  unfold Dev.resumed
  extract_lets d1 d2
  have hheld : d1.get (K.HELD_TICKS p) = addSat 64 (d.get (K.HELD_TICKS p)) n := d.get_put_self _ _
  have hne (o : Obj) (h : o.key ≠ (K.HELD_TICKS p).key) : d1.get o = d.get o := d.get_put_ne _ h
  have h2 (o : Obj) (hs : ¬stateKey p o.key) (he : o.key ≠ (K.EPOCH_NOW p).key) : d2.get o = d1.get o := by
    rw [Dev.get_put_ne _ _ he, d1.setState_objs p 3 o hs]
  have hepoch : d1.epochOf p = d.get (K.BASE_EPOCH p) + d.get (K.ATTEMPT p) * d.get (K.PERIOD p) + addSat 64 (d.get (K.HELD_TICKS p)) n := by
    unfold Dev.epochOf
    rw [hheld, hne _ (by simp [K.BASE_EPOCH, K.HELD_TICKS]), hne _ (by simp [K.ATTEMPT, K.HELD_TICKS]), hne _ (by simp [K.PERIOD, K.HELD_TICKS])]
  have he2 : d2.epochOf p = d1.epochOf p := by
    unfold Dev.epochOf
    rw [h2 _ (by simp only [stateKey, recordKey, K.BASE_EPOCH, K.SCHED_STATE]; omega) (by simp [K.BASE_EPOCH, K.EPOCH_NOW]),
      h2 _ (by simp only [stateKey, recordKey, K.ATTEMPT, K.SCHED_STATE]; omega) (by simp [K.ATTEMPT, K.EPOCH_NOW]),
      h2 _ (by simp only [stateKey, recordKey, K.PERIOD, K.SCHED_STATE]; omega) (by simp [K.PERIOD, K.EPOCH_NOW]),
      h2 _ (by simp only [stateKey, recordKey, K.HELD_TICKS, K.SCHED_STATE]; omega) (by simp [K.HELD_TICKS, K.EPOCH_NOW])]
  refine ⟨⟨?_, ?_, ?_, ?_⟩, ?_⟩
  · rw [Dev.get_setSched, Dev.get_put_ne _ _ (by simp [K.SCHED_STATE, K.EPOCH_NOW])]
    exact d1.setState_get 3 hp
  · rw [Dev.get_setSched, h2 _ (by simp only [stateKey, recordKey, K.HELD_TICKS, K.SCHED_STATE]; omega) (by simp [K.HELD_TICKS, K.EPOCH_NOW]), hheld]
  · rw [Dev.get_setSched, Dev.get_put_self, hepoch]
  · rw [Dev.sched_setSched_self]
  · rw [Dev.get_setSched, Dev.get_put_self]
    exact he2

theorem Dev.scheduleResume_stay {d : Dev} {p r : Nat} (hr : (d.sched p).resumeAt = some r) (h4 : d.get (K.SCHED_STATE p) = 4) (hn : r ≤ d.now)
    (h3 : d.get (K.DECISION p) ≠ 3) (hc : d.get (K.DECISION p) ≠ 4) (hst : d.remap p = (d, true)) :
    d.scheduleResume p = if (d.sched p).seg ≠ 0 then d.resumed p (r - (d.sched p).suspTick)
      else (d.resumed p (r - (d.sched p).suspTick)).beginAttempt p := by
  have hdec : (d.get (K.DECISION p) == 4) = false := beq_eq_false_iff_ne.mpr hc
  unfold Dev.scheduleResume
  dsimp only
  rw [hr]
  dsimp only
  rw [if_neg (by simp [h4, hn, h3]), hst]
  rw [if_neg (by simp), if_pos rfl]
  dsimp only
  rw [hdec, Bool.and_false]
  rfl

/-- Settles O46: a segment's end by its cases; a resumption by what it leaves with its slots in place. -/
theorem suspendsResumes : Obligations.SuspendsResumes := by
  refine ⟨fun s p g hp hs hg h3 hne => ?_, fun s p r hp hs hr h4 => ?_⟩
  · have hx : exec (.segmentEnd p) s = .next (s.setDev (s.dev.capAgain (s.dev.segmentEnd p))) :=
      onUnit_next (f := fun d => d.capAgain (d.segmentEnd p)) (decide_eq_true hp) hs
    have heq : s.dev.segmentEnd p = if s.dev.now < s.dev.get (K.EPOCH_NOW p) + g.stop then s.dev else
        if (g.boundary && (s.dev.sched p).suspendReq) = true then
          (s.dev.setSched p { s.dev.sched p with seg := (s.dev.sched p).seg + 1 }).suspend p (s.dev.get (K.EPOCH_NOW p) + g.stop)
        else s.dev.setSched p { s.dev.sched p with seg := (s.dev.sched p).seg + 1 } := by
      unfold Dev.segmentEnd
      dsimp only
      rw [hg]
      simp [h3, hne]
    rw [hx]
    refine ⟨fun h => ?_, fun h hb => ?_, fun h hb hq => ⟨_, rfl, s.setDev_pending _, s.setDev_sec _, ?_⟩⟩
    · rw [heq, if_pos h, Dev.capAgain_idle fun _ _ => rfl, State.setDev_self]
    · rw [heq, if_neg (Nat.not_lt.mpr h), if_neg (by rcases hb with hb | hb <;> simp [hb]), Dev.capAgain_idle (b := s.dev) (d := s.dev.setSched p _) fun _ _ => rfl]
    · rw [State.setDev_dev, heq, if_neg (Nat.not_lt.mpr h), if_pos (by simp [hb, hq])]
      obtain ⟨hst, hsc, -⟩ := Dev.suspend_leaves (s.dev.setSched p { s.dev.sched p with seg := (s.dev.sched p).seg + 1 }) hp
        (s.dev.get (K.EPOCH_NOW p) + g.stop)
      generalize (s.dev.setSched p { s.dev.sched p with seg := (s.dev.sched p).seg + 1 }).suspend p (s.dev.get (K.EPOCH_NOW p) + g.stop) = t at hst hsc
      have hm := s.dev.capAgain_moved (d := t) (p := p) (by simp [Dev.runs, hst])
      rw [hm.obj _ (by simp only [recordKey, K.SCHED_STATE]; omega), hm.sched, hsc, Dev.sched_setSched_self]
      exact ⟨hst, rfl, rfl, rfl⟩
  · have hx : exec (.scheduleResume p) s = .next (s.setDev (s.dev.scheduleResume p)) :=
      onUnit_next (f := fun d => d.scheduleResume p) (decide_eq_true hp) hs
    rw [hx]
    refine ⟨fun h => ?_, fun h => ?_, fun hn h3 hc _ hst => ⟨_, rfl, s.setDev_pending _, s.setDev_sec _, ?_⟩⟩
    · unfold Dev.scheduleResume
      simp [hr, h, State.setDev_self]
    · unfold Dev.scheduleResume
      simp [hr, h, State.setDev_self]
    · rw [State.setDev_dev, Dev.scheduleResume_stay hr h4 hn h3 hc (Dev.remap_stay fun n hn => (hst n hn).2)]
      obtain ⟨h, hep⟩ := s.dev.resumed_resumed hp (r - (s.dev.sched p).suspTick)
      generalize s.dev.resumed p (r - (s.dev.sched p).suspTick) = t at h hep
      split
      · exact ⟨h.state, h.resume, h.held, h.epoch⟩
      · refine ⟨?_, ?_, ?_, ?_⟩
        · rw [t.beginAttempt_get (by simp only [K.SCHED_STATE]; omega) (by simp [K.SCHED_STATE, K.EPOCH_NOW]), h.state]
        · rw [t.beginAttempt_sched hp]; rfl
        · rw [t.beginAttempt_get (by simp only [K.HELD_TICKS]; omega) (by simp [K.HELD_TICKS, K.EPOCH_NOW]), h.held]
        · rw [t.beginAttempt_epoch hp, hep, h.epoch]

end Sys2Proof.Machine
end

section
/-! Proofs: attempts begin at their epoch and end committed, abandoned or in doubt (R87 to R90, R305). -/
namespace Sys2Proof.Machine

/-- Objects that the end of an attempt moves before its numbers count on: the vote's, swatches, digests, and what completions count. -/
def settleKey (k : Nat) : Prop :=
  tallyKey k ∨ (0x230000 ≤ k ∧ k < 0x231000) ∨ (0x414000 ≤ k ∧ k < 0x415000) ∨ (0x818000 ≤ k ∧ k < 0x819000)

/-- Objects that the end of an attempt moves, before the schedule goes on or stops. -/
def endKey (p k : Nat) : Prop := settleKey k ∨ k = (K.ATTEMPT p).key ∨ k = (K.STEP p).key ∨ k = (K.FAILED_RUN p).key

theorem not_settleKey {k : Nat} (h : ¬tallyShape k) (h' : ¬((0x230000 ≤ k ∧ k < 0x231000) ∨ (0x414000 ≤ k ∧ k < 0x415000) ∨
    (0x818000 ≤ k ∧ k < 0x819000))) : ¬settleKey k := by
  rintro (hk | hk)
  · exact not_tallyKey h hk
  · exact h' hk

theorem not_endKey {p k : Nat} (h : ¬tallyShape k) (h' : ¬((0x230000 ≤ k ∧ k < 0x231000) ∨ (0x414000 ≤ k ∧ k < 0x415000) ∨
    (0x818000 ≤ k ∧ k < 0x819000))) (h'' : ¬(k = (K.ATTEMPT p).key ∨ k = (K.STEP p).key ∨ k = (K.FAILED_RUN p).key)) : ¬endKey p k :=
  fun hk => hk.elim (not_settleKey h h') h''

/-- An object of the schedules that the end of an attempt does not count in. -/
theorem not_settleKey_sched {k : Nat} (h : 0x210000 ≤ k) (h' : k < 0x211000) (h'' : k % 256 ≠ 15) : ¬settleKey k :=
  not_settleKey (by unfold tallyShape recordKey; omega) (by omega)

/-- What keeps the end of an attempt quiet: no list, no channel, no fence that waits, every slot where it may stay. -/
structure Dev.Idle (d : Dev) (p : Nat) : Prop where
  lists : d.schedEngs p = []
  slots : (d.sched p).slots ≤ 64
  stay : ∀ n, n < (d.sched p).slots → d.get (K.SLOT_CORE p n) < 64 ∧
    d.coreUsable (d.get (K.SLOT_CORE p n)) = true ∧ bit (d.get (K.CORE_MASK p)) (d.get (K.SLOT_CORE p n)) = true
  chans : ∀ ch, ch < 32 → d.get (K.CH_PART ch) ≠ p
  fences : d.fenceWait = []

theorem Quiet.idle {d : Dev} {p : Nat} (h : Quiet d p) : Dev.Idle d p := ⟨h.lists, h.slots, h.stay, h.chans, h.fences⟩

/-- The slots of a partition, the usable cores and the channels' partitions are none of what the end of an attempt moves. -/
theorem Dev.Idle.kept {a b : Dev} {p : Nat} (hp : p < 16) (h : Dev.Idle a p) (ho : Dev.ObjsBut (endKey p) a b)
    (hs : (b.sched p).slots = (a.sched p).slots) (hl : (b.sched p).lists = (a.sched p).lists) (hsh : (b.sched p).shared = (a.sched p).shared)
    (hf : b.fenceWait = a.fenceWait) : Dev.Idle b p := by
  have hslot (n : Nat) (hn : n < (a.sched p).slots) : b.get (K.SLOT_CORE p n) = a.get (K.SLOT_CORE p n) := by
    have := h.slots
    exact ho _ (not_endKey (by simp only [tallyShape, recordKey, K.SLOT_CORE]; omega)
      (by simp only [K.SLOT_CORE]; omega) (by simp only [K.SLOT_CORE, K.ATTEMPT, K.STEP, K.FAILED_RUN]; omega))
  have hus (c : Nat) : b.coreUsable c = a.coreUsable c := by
    unfold Dev.coreUsable
    rw [ho K.CORE_PRESENT (not_endKey (by simp only [tallyShape, recordKey, K.CORE_PRESENT]; omega) (by simp only [K.CORE_PRESENT]; omega) (by simp only [K.CORE_PRESENT, K.ATTEMPT, K.STEP, K.FAILED_RUN]; omega)),
      ho K.FENCE_MASK (not_endKey (by simp only [tallyShape, recordKey, K.FENCE_MASK]; omega) (by simp only [K.FENCE_MASK]; omega) (by simp only [K.FENCE_MASK, K.ATTEMPT, K.STEP, K.FAILED_RUN]; omega))]
  have hm : b.get (K.CORE_MASK p) = a.get (K.CORE_MASK p) :=
    ho _ (not_endKey (by simp only [tallyShape, recordKey, K.CORE_MASK]; omega) (by simp only [K.CORE_MASK]; omega) (by simp only [K.CORE_MASK, K.ATTEMPT, K.STEP, K.FAILED_RUN]; omega))
  refine ⟨?_, hs ▸ h.slots, fun n hn => ?_, fun ch hc => ?_, hf.trans h.fences⟩
  · have he := h.lists
    unfold Dev.schedEngs Sched.slotEngs at he ⊢
    dsimp only at he ⊢
    refine Eq.trans ?_ he
    rw [hs, hl, hsh]
    congr 1
    refine List.flatMap_congr fun n hn => ?_
    rw [hslot n (List.mem_range.mp hn)]
  · rw [hs] at hn
    rw [hslot n hn, hus, hm]
    exact h.stay n hn
  · rw [ho _ (not_endKey (by simp only [tallyShape, recordKey, K.CH_PART]; omega) (by simp only [K.CH_PART]; omega) (by simp only [K.CH_PART, K.ATTEMPT, K.STEP, K.FAILED_RUN]; omega))]
    exact h.chans ch hc

/-! ## The end tick, until the attempt is settled -/

/-- The resident slots at the end tick: queues, run-ahead and length registers are empty (R89). -/
def Dev.slotsEmptied (d : Dev) (p : Nat) : Dev := (List.range (d.sched p).slots).foldl (fun d n => d.endSlot p n) d

/-- ... and the handles that wait for slots are gone. -/
def Dev.slotsEnded (d : Dev) (p : Nat) : Dev :=
  let d := d.slotsEmptied p
  d.setPart p { d.part p with heldHq := [] }

/-- `b` is `a` with tallies of cores moved, and handles gone. -/
structure Dev.SlotsOut (a b : Dev) : Prop where
  obj : Dev.ObjsBut tallyKey a b
  sched : ∀ p, b.sched p = a.sched p
  fences : b.fenceWait = a.fenceWait

theorem Dev.endSlot_out (d : Dev) (p n : Nat) : Dev.SlotsOut d (d.endSlot p n) := by
  unfold Dev.endSlot
  extract_lets c k x
  split
  · exact ⟨.refl d, fun _ => rfl, rfl⟩
  next h =>
    have hx : Dev.ObjsBut tallyKey d x := .of_objs rfl
    exact ⟨hx.trans (x.raEmpty_halted (by omega)).obj, fun _ => rfl, rfl⟩

theorem Dev.slotsEmptied_out (d : Dev) (p : Nat) : Dev.SlotsOut d (d.slotsEmptied p) := by
  refine List.foldlRecOn (motive := fun y => Dev.SlotsOut d y) _ _ ⟨.refl d, fun _ => rfl, rfl⟩ fun y hy n _ => ?_
  have := y.endSlot_out p n
  exact ⟨hy.obj.trans this.obj, fun q => (this.sched q).trans (hy.sched q), this.fences.trans hy.fences⟩

theorem Dev.slotsEnded_out (d : Dev) (p : Nat) : Dev.SlotsOut d (d.slotsEnded p) := by
  have hx := d.slotsEmptied_out p
  unfold Dev.slotsEnded
  generalize d.slotsEmptied p = x at hx
  refine ⟨hx.obj.trans (.of_objs rfl), fun q => ?_, hx.fences⟩
  exact (x.sched_setPart (p := p) (x := { x.part p with heldHq := [] }) rfl q).trans (hx.sched q)

theorem Dev.SlotsOut.idle {a b : Dev} {p : Nat} (hp : p < 16) (h : Dev.SlotsOut a b) (ha : Dev.Idle a p) : Dev.Idle b p :=
  ha.kept hp (h.obj.mono fun _ hk => .inl (.inl hk)) (by rw [h.sched]) (by rw [h.sched]) (by rw [h.sched]) h.fences

/-- A device in doubt: the decision of R305, noted in the schedule. -/
theorem Dev.doubt_leaves (d : Dev) {p : Nat} (hp : p < 16) :
    Dev.ObjsBut (settleKey) d (d.doubt p) ∧ (d.doubt p).sched p = { d.sched p with decided := true, doubted := true } ∧
    (d.doubt p).fenceWait = d.fenceWait ∧ (d.doubt p).get (K.DECISION p) = 3 ∧ (d.doubt p).get (K.DECISION_CAUSE p) = stLINK := by
  unfold Dev.doubt Dev.schedRecord
  extract_lets d1 x d2
  generalize hi : RecInfo.mk _ _ _ _ _ _ _ _ = i
  have hdec : Dev.ObjsBut (settleKey) d d1 := by
    have put (x : Dev) (o : Obj) (v : Nat) (ho : 0x230000 ≤ o.key ∧ o.key < 0x231000) : Dev.ObjsBut (settleKey) x (x.put o v) :=
      .put x v (.inr (.inl ho))
    refine .trans (b := d.setSched p { d.sched p with decided := true }) (.of_objs rfl) (((put _ _ _ ?_).trans (put _ _ _ ?_)).trans ((put _ _ _ ?_).trans (put _ _ _ ?_)))
    · simp only [K.DECISION]; omega
    · simp only [K.DECISION_CAUSE]; omega
    · simp only [K.DECISION_ATTEMPT]; omega
    · simp only [K.DECISION_NF]; omega
  have hs : Dev.Sent d2 ((d2.file i).notify 3 0 (0x2300 + p) 0x11 p) := (d2.file_sent i).trans (Dev.notify_sent _ _ _ _ _ _)
  have hr : Dev.ObjsBut recordKey d2 ((d2.file i).notify 3 0 (0x2300 + p) 0x11 p) := (d2.file_objs i).trans (Dev.notify_objs _ _ _ _ _ _)
  have h1 : d1.get (K.DECISION p) = 3 := by
    show ((((d.setSched p _).put _ _).put _ _).put _ _ |>.put _ _).get _ = _
    rw [Dev.get_put_ne _ _ (by simp [K.DECISION, K.DECISION_NF]), Dev.get_put_ne _ _ (by simp [K.DECISION, K.DECISION_ATTEMPT]),
      Dev.get_put_ne _ _ (by simp [K.DECISION, K.DECISION_CAUSE]), Dev.get_put_self]
  have h2 : d1.get (K.DECISION_CAUSE p) = stLINK := by
    show ((((d.setSched p _).put _ _).put _ _).put _ _ |>.put _ _).get _ = _
    rw [Dev.get_put_ne _ _ (by simp [K.DECISION_CAUSE, K.DECISION_NF]), Dev.get_put_ne _ _ (by simp [K.DECISION_CAUSE, K.DECISION_ATTEMPT]),
      Dev.get_put_self]
  have hsc : d1.sched p = { d.sched p with decided := true } := d.sched_setSched_self p _
  refine ⟨hdec.trans (.trans (b := d2) (.of_objs rfl) (hr.mono fun k hk => .inl (.record hk))), ?_, ?_, ?_, ?_⟩
  · rw [hs.sched, Dev.sched_setSched_self]
    exact congrArg (fun y => ({ y with doubted := true } : Sched)) hsc
  · rw [show _ = _ from hs]; rfl
  · rw [hr _ (by simp only [recordKey, K.DECISION]; omega)]; exact h1
  · rw [hr _ (by simp only [recordKey, K.DECISION_CAUSE]; omega)]; exact h2

/-! ## What an attempt that is decided leaves (R90, R309, R310, R333, R468) -/

/-- A schedule without its exponent. -/
def Sched.fixed (s : Sched) : Sched := { s with scale := 0 }

/-- The settlement of an attempt, before its numbers count on: `a` before, `b` after. -/
structure Dev.EndMoved (p : Nat) (a b : Dev) : Prop where
  obj : Dev.ObjsBut settleKey a b
  sched : (b.sched p).fixed = (a.sched p).fixed
  fences : b.fenceWait = a.fenceWait

namespace Dev.EndMoved

variable {p : Nat} {a b c : Dev}

theorem refl (a : Dev) : Dev.EndMoved p a a := ⟨.refl a, rfl, rfl⟩
theorem trans (h : Dev.EndMoved p a b) (g : Dev.EndMoved p b c) : Dev.EndMoved p a c :=
  ⟨h.obj.trans g.obj, g.sched.trans h.sched, g.fences.trans h.fences⟩
theorem of_same (ho : Dev.ObjsBut settleKey a b) (hs : b.sched p = a.sched p) (hf : b.fenceWait = a.fenceWait) : Dev.EndMoved p a b :=
  ⟨ho, congrArg Sched.fixed hs, hf⟩
theorem put (d : Dev) {o : Obj} (v : Nat) (h : settleKey o.key) : Dev.EndMoved p d (d.put o v) := of_same (.put d v h) rfl rfl
theorem cnt (d : Dev) {o : Obj} (n : Nat) (h : settleKey o.key) : Dev.EndMoved p d (d.cnt o n) := put d _ h
theorem ite (q : Prop) [Decidable q] (h : q → Dev.EndMoved p a b) (h' : ¬q → Dev.EndMoved p a c) : Dev.EndMoved p a (if q then b else c) := by
  split
  · exact h ‹_›
  · exact h' ‹_›
theorem foldl {β : Type} (f : Dev → β → Dev) (l : List β) (h : ∀ d, ∀ x ∈ l, Dev.EndMoved p d (f d x)) (d : Dev) :
    Dev.EndMoved p d (l.foldl f d) := List.foldlRecOn l f (refl d) fun b hb x hx => hb.trans (h b x hx)
theorem schedRecord (d : Dev) (event cause aux st : Nat) : Dev.EndMoved p d (d.schedRecord p event cause aux st) := by
  unfold Dev.schedRecord
  exact of_same ((d.file_objs _).mono fun _ h => .inl (.record h)) ((d.file_sent _).sched p) (by rw [show _ = _ from d.file_sent _])

end Dev.EndMoved

theorem settleKey_unit {k : Nat} (h : (0x230000 ≤ k ∧ k < 0x231000) ∨ (0x414000 ≤ k ∧ k < 0x415000) ∨ (0x818000 ≤ k ∧ k < 0x819000)) : settleKey k := by
  rcases h with h | h | h
  · exact .inr (.inl h)
  · exact .inr (.inr (.inl h))
  · exact .inr (.inr (.inr h))

theorem Dev.latchSwatch_moved (d : Dev) {p : Nat} (hp : p < 16) : Dev.EndMoved p d (d.latchSwatch p) := by
  unfold Dev.latchSwatch
  extract_lets q d1 fly part
  have h1 : Dev.EndMoved p d d1 := .foldl _ _ (fun x i hi => .put x _ (settleKey_unit (by
    have := List.mem_range.mp hi
    simp only [K.SW_VALUE]
    omega))) d
  exact h1.trans ((Dev.EndMoved.put _ _ (settleKey_unit (by simp only [K.SW_STEP]; omega))).trans
    (.put _ _ (settleKey_unit (by simp only [K.SW_PARTIAL]; omega))))

theorem Dev.latchDigests_moved (d : Dev) {p : Nat} (hp : p < 16) (hs : (d.sched p).slots ≤ 64) (commit : Bool) :
    Dev.EndMoved p d (d.latchDigests p commit) := by
  unfold Dev.latchDigests
  extract_lets q d1
  have h1 : Dev.EndMoved p d d1 := .foldl _ _ (fun x n hn => by
    have hn := List.mem_range.mp hn
    extract_lets v x1 c x2
    have hx1 : Dev.EndMoved p x x1 := .put x _ (settleKey_unit (by simp only [K.SLOT_DIGEST_ATT]; omega))
    have hx2 : Dev.EndMoved p x x2 := hx1.trans (.put x1 _ (settleKey_unit (by simp only [K.SLOT_DIGEST]; omega)))
    exact .ite _ (fun _ => hx1) fun _ => .ite _ (fun _ => hx2.trans (.put x2 _ (settleKey_unit (by simp only [K.SLOT_CORES]; omega)))) fun _ => hx2) d
  exact h1.trans (.of_same (.of_objs rfl) (d1.sched_setPart (p := p) (x := { d1.part p with digest := [] }) rfl p) rfl)

theorem Dev.adjustScale_moved (d : Dev) {p : Nat} (hp : p < 16) (nf commit : Bool) :
    Dev.EndMoved p d (d.adjustScale p nf commit).1 ∧ (nf = false → (d.adjustScale p nf commit).2 = false) := by
  unfold Dev.adjustScale
  dsimp only
  generalize (if nf = true then _ else _ : Nat × Nat) = sc
  obtain ⟨s', c'⟩ := sc
  dsimp only
  have put (x : Dev) (o : Obj) (v : Nat) (h : 0x230000 ≤ o.key ∧ o.key < 0x231000) : Dev.EndMoved p x (x.put o v) :=
    .put x v (settleKey_unit (.inl h))
  have h1 : Dev.EndMoved p d ((d.put (K.LS_EXP p) s').put (K.LS_CLEAN p) c') :=
    (put _ _ _ (by simp only [K.LS_EXP]; omega)).trans (put _ _ _ (by simp only [K.LS_CLEAN]; omega))
  generalize (d.put (K.LS_EXP p) s').put (K.LS_CLEAN p) c' = d1 at h1
  have h2 : Dev.EndMoved p d1 (if nf = true then (Dev.bump 8 d1 (K.NF_RUN p) 1).cnt (K.NF_COUNT p) 1 else d1) :=
    .ite _ (fun _ => (put _ _ _ (by simp only [K.NF_RUN]; omega)).trans (put _ _ _ (by simp only [K.NF_COUNT]; omega))) fun _ => .refl _
  generalize (if nf = true then (Dev.bump 8 d1 (K.NF_RUN p) 1).cnt (K.NF_COUNT p) 1 else d1) = d2 at h2
  have h3 : Dev.EndMoved p d2 (if commit = true then d2.put (K.NF_RUN p) 0 else d2) :=
    .ite _ (fun _ => put _ _ _ (by simp only [K.NF_RUN]; omega)) fun _ => .refl _
  generalize (if commit = true then d2.put (K.NF_RUN p) 0 else d2) = d3 at h3
  split
  next hc =>
    refine ⟨((h1.trans h2).trans h3).trans (.schedRecord _ _ _ _ _), fun h => ?_⟩
    simp [h] at hc
  next => exact ⟨(h1.trans h2).trans h3, fun _ => rfl⟩

theorem Dev.ledgerClose_moved (d : Dev) (p att : Nat) : Dev.EndMoved p d (d.ledgerClose p att) := by
  unfold Dev.ledgerClose
  refine .ite _ (fun _ => .refl d) fun _ => ?_
  have h := d.writeWin_tallied (schedIss p) (.part p) (d.ledgerAt p att + 16) [d.get (K.DECISION p)]
  exact .of_same (h.obj.mono fun _ hk => .inl hk) ((d.writeWin_side _ _ _ _).sched p) (by rw [show _ = _ from h.rest])

theorem Dev.countFail_leaves (d : Dev) (p cause : Nat) : Dev.ObjsBut (fun k => settleKey k ∨ k = (K.FAILED_RUN p).key) d (d.countFail p cause).1 ∧
    (d.countFail p cause).1.sched p = d.sched p ∧ (d.countFail p cause).1.fenceWait = d.fenceWait := by
  unfold Dev.countFail
  extract_lets d1
  have h1 : Dev.ObjsBut (fun k => settleKey k ∨ k = (K.FAILED_RUN p).key) d d1 := .put d _ (.inr rfl)
  split
  · have hs : Dev.Sent d1 (d1.schedRecord p 8 cause (d1.get (K.FAILED_RUN p)) 0) := d1.file_sent _
    have ho : Dev.ObjsBut recordKey d1 (d1.schedRecord p 8 cause (d1.get (K.FAILED_RUN p)) 0) := d1.file_objs _
    exact ⟨h1.trans (ho.mono fun _ hk => .inl (.inl (.record hk))), hs.sched p, by rw [show _ = _ from hs]; rfl⟩
  · exact ⟨h1, rfl, rfl⟩

/-- What `Dev.settle` leaves of an attempt that exchanges nothing and was not resolved: `d` before, `t` after. -/
structure Dev.Settled (d t : Dev) (p : Nat) (commit : Bool) : Prop where
  obj : Dev.ObjsBut (endKey p) d t
  attempt : t.get (K.ATTEMPT p) = d.get (K.ATTEMPT p) + 1
  step : t.get (K.STEP p) = if commit then d.get (K.STEP p) + 1 else d.get (K.STEP p)
  failed : commit = true → t.get (K.FAILED_RUN p) = 0
  sched : (t.sched p).fixed = (d.sched p).fixed
  fences : t.fenceWait = d.fenceWait

/-- The stages of the settlement before the attempt counts on. -/
def Dev.settling (d : Dev) (p : Nat) (commit : Bool) : Dev × Bool :=
  let d1 := (if commit then d.latchSwatch p else d).latchDigests p commit
  let r := d1.adjustScale p ((d.sched p).votes.any VoteRec.nf) commit
  let d2 := r.1.setSched p { r.1.sched p with scale := r.1.get (K.LS_EXP p) }
  (d2.ledgerClose p (d2.get (K.ATTEMPT p)), r.2)

theorem Dev.settling_moved (d : Dev) {p : Nat} (hp : p < 16) (hs : (d.sched p).slots ≤ 64) (commit : Bool) :
    Dev.EndMoved p d (d.settling p commit).1 ∧ ((d.sched p).votes.any VoteRec.nf = false → (d.settling p commit).2 = false) := by
  unfold Dev.settling
  extract_lets d1 r x d2
  have h0 : Dev.EndMoved p d (if commit = true then d.latchSwatch p else d) := .ite _ (fun _ => d.latchSwatch_moved hp) fun _ => .refl d
  have hs0 : ((if commit = true then d.latchSwatch p else d).sched p).slots ≤ 64 := by
    have := congrArg Sched.slots h0.sched
    exact this.trans_le hs
  have h1 : Dev.EndMoved p d d1 := h0.trans (Dev.latchDigests_moved _ hp hs0 commit)
  obtain ⟨h2, hf⟩ := d1.adjustScale_moved hp ((d.sched p).votes.any VoteRec.nf) commit
  have h3 : Dev.EndMoved p r.1 d2 := ⟨.of_objs rfl, by rw [Dev.sched_setSched_self]; rfl, rfl⟩
  exact ⟨((h1.trans h2).trans h3).trans (d2.ledgerClose_moved _ _), hf⟩

/-- An attempt that committed counts on with its step. -/
def Dev.committed (d : Dev) (p : Nat) : Dev :=
  let d := d.put (K.ATTEMPT p) (d.get (K.ATTEMPT p) + 1)
  (d.put (K.STEP p) (d.get (K.STEP p) + 1)).put (K.FAILED_RUN p) 0

theorem Dev.settle_commit {d : Dev} {p : Nat} (hx : d.exchanges p = false) (hc : d.get (K.DECISION p) = 1) :
    d.settle p = ((d.settling p true).1.committed p, decide ((d.sched p).failCommit ≠ 0) || (d.settling p true).2) := by
  unfold Dev.settle
  dsimp only
  rw [hx, hc]
  simp only [beq_self_eq_true, Bool.true_or, if_true, Bool.false_eq_true, if_false, Bool.true_and, Bool.or_false, OfNat.one_ne_ofNat]
  rfl

/-- An attempt that did not commit counts on. -/
def Dev.abandoned (d : Dev) (p : Nat) : Dev := d.put (K.ATTEMPT p) (d.get (K.ATTEMPT p) + 1)

theorem Dev.settle_abandon {d : Dev} {p : Nat} (hx : d.exchanges p = false) (hc : d.get (K.DECISION p) = 2) :
    ∃ t b, d.settle p = (t, b) ∧ (t = (d.settling p false).1.abandoned p ∨
      ∃ cause, t = (((d.settling p false).1.abandoned p).countFail p cause).1) := by
  unfold Dev.settle
  dsimp only
  rw [hx, hc]
  simp only [Nat.reduceBEq, Bool.or_self, Bool.false_eq_true, if_false, Bool.false_and, Nat.reduceEqDiff]
  split
  · exact ⟨_, _, rfl, .inl rfl⟩
  · exact ⟨_, _, rfl, .inr ⟨_, rfl⟩⟩

/-- A settlement that has moved nothing of the schedules' numbers, and then counted on. -/
theorem Dev.committed_settled {d t : Dev} {p : Nat} (hp : p < 16) (h : Dev.EndMoved p d t) : Dev.Settled d (t.committed p) p true := by
  have ha : t.get (K.ATTEMPT p) = d.get (K.ATTEMPT p) :=
    h.obj _ (not_settleKey_sched (by simp only [K.ATTEMPT]; omega) (by simp only [K.ATTEMPT]; omega) (by simp only [K.ATTEMPT]; omega))
  have hs : t.get (K.STEP p) = d.get (K.STEP p) :=
    h.obj _ (not_settleKey_sched (by simp only [K.STEP]; omega) (by simp only [K.STEP]; omega) (by simp only [K.STEP]; omega))
  unfold Dev.committed
  dsimp only
  refine ⟨?_, ?_, ?_, fun _ => Dev.get_put_self _ _ _, h.sched, h.fences⟩
  · exact (h.obj.mono fun k hk => .inl hk).trans (((Dev.ObjsBut.put _ _ (.inr (.inl rfl))).trans (.put _ _ (.inr (.inr (.inl rfl))))).trans
      (.put _ _ (.inr (.inr (.inr rfl)))))
  · rw [Dev.get_put_ne _ _ (by simp [K.ATTEMPT, K.FAILED_RUN]), Dev.get_put_ne _ _ (by simp [K.ATTEMPT, K.STEP]), Dev.get_put_self, ha]
  · rw [Dev.get_put_ne _ _ (by simp [K.STEP, K.FAILED_RUN]), Dev.get_put_self, Dev.get_put_ne _ _ (by simp [K.STEP, K.ATTEMPT]), hs, if_pos rfl]

theorem Dev.abandoned_settled {d t : Dev} {p : Nat} (hp : p < 16) (h : Dev.EndMoved p d t) : Dev.Settled d (t.abandoned p) p false := by
  have ha : t.get (K.ATTEMPT p) = d.get (K.ATTEMPT p) :=
    h.obj _ (not_settleKey_sched (by simp only [K.ATTEMPT]; omega) (by simp only [K.ATTEMPT]; omega) (by simp only [K.ATTEMPT]; omega))
  have hs : t.get (K.STEP p) = d.get (K.STEP p) :=
    h.obj _ (not_settleKey_sched (by simp only [K.STEP]; omega) (by simp only [K.STEP]; omega) (by simp only [K.STEP]; omega))
  unfold Dev.abandoned
  refine ⟨(h.obj.mono fun k hk => .inl hk).trans (.put _ _ (.inr (.inl rfl))), ?_, ?_, fun hc => (by cases hc), h.sched, h.fences⟩
  · rw [Dev.get_put_self, ha]
  · rw [Dev.get_put_ne _ _ (by simp [K.STEP, K.ATTEMPT]), hs, if_neg Bool.false_ne_true]

theorem Dev.Settled.countFail {d t : Dev} {p : Nat} (hp : p < 16) (h : Dev.Settled d t p false) (cause : Nat) :
    Dev.Settled d (t.countFail p cause).1 p false := by
  obtain ⟨ho, hs, hf⟩ := t.countFail_leaves p cause
  refine ⟨h.obj.trans (ho.mono fun k hk => hk.elim .inl fun hk => .inr (.inr (.inr hk))), ?_, ?_, fun hc => (by cases hc), ?_, hf.trans h.fences⟩
  · rw [ho _ ?_, h.attempt]
    rintro (hk | hk)
    · exact not_settleKey_sched (by simp only [K.ATTEMPT]; omega) (by simp only [K.ATTEMPT]; omega) (by simp only [K.ATTEMPT]; omega) hk
    · simp only [K.ATTEMPT, K.FAILED_RUN] at hk; omega
  · rw [ho _ ?_, h.step]
    rintro (hk | hk)
    · exact not_settleKey_sched (by simp only [K.STEP]; omega) (by simp only [K.STEP]; omega) (by simp only [K.STEP]; omega) hk
    · simp only [K.STEP, K.FAILED_RUN] at hk; omega
  · rw [hs, h.sched]

/-! ## What follows the settlement -/

/-- The step record, and the schedule at its first segment (R308). -/
def Dev.recorded (d : Dev) (p : Nat) : Dev :=
  let d := d.stepRecord p
  d.setSched p { d.sched p with seg := 0, atCommit := false }

theorem Dev.stepRecord_objs (d : Dev) (p : Nat) : Dev.ObjsBut tallyKey d (d.stepRecord p) := by
  unfold Dev.stepRecord
  extract_lets a s d1 e body
  have h1 : Dev.ObjsBut tallyKey d d1 := .of_objs rfl
  refine .ite _ (fun _ => h1) fun _ => ?_
  have h2 := (d1.writeWin_tallied (schedIss p) (.part p) a body).obj
  generalize d1.writeWin (schedIss p) (.part p) a body = r at h2
  obtain ⟨st, d2⟩ := r
  dsimp only at h2 ⊢
  refine .ite _ (fun _ => h1.trans h2) fun _ => (h1.trans h2).trans ?_
  exact .trans (b := d2.setSched p { d2.sched p with recFail := st }) (.of_objs rfl) ((Dev.file_objs _ _).mono fun _ => .record)

/-- After the settlement the next attempt begins, or the schedule is suspended; its numbers stand. -/
theorem Dev.recorded_objs (d : Dev) (p : Nat) : Dev.ObjsBut tallyKey d (d.recorded p) :=
  (d.stepRecord_objs p).trans (.of_objs rfl)

/-- The end of an attempt that is not in doubt, from its settlement on. -/
def Dev.attemptOver (d : Dev) (p tick : Nat) : Dev :=
  let (d, susp) := d.settle p
  let s := d.sched p
  let susp := susp || s.lostEnd || d.get K.FT_STATE == 4 || s.suspendReq
  let stop := d.get (K.STOP_AFTER p)
  if s.endReq || (stop ≠ 0 && stop ≤ d.get (K.STEP p)) then d.endSched p
  else
    let (d, ok) := d.remap p
    let d := d.stepRecord p
    let d := d.setSched p { d.sched p with seg := 0, atCommit := false }
    if susp || !ok then d.suspend p tick else d.beginAttempt p

theorem Dev.attemptOver_goes {d t : Dev} {p tick : Nat} {b commit : Bool} (hp : p < 16) (hi : Dev.Idle d p) (hset : d.settle p = (t, b))
    (h : Dev.Settled d t p commit) (hasked : (d.sched p).endReq = false ∧ (d.sched p).suspendReq = false ∧ (d.sched p).lostEnd = false)
    (hstop : d.get (K.STOP_AFTER p) = 0) (hft : d.get K.FT_STATE = 2) :
    d.attemptOver p tick = if b then (t.recorded p).suspend p tick else (t.recorded p).beginAttempt p := by
  obtain ⟨he, hq, hl⟩ := hasked
  have hst : (t.sched p).endReq = false ∧ (t.sched p).suspendReq = false ∧ (t.sched p).lostEnd = false ∧ (t.sched p).slots = (d.sched p).slots ∧
      (t.sched p).lists = (d.sched p).lists ∧ (t.sched p).shared = (d.sched p).shared := by
    have h1 := congrArg Sched.endReq h.sched
    have h2 := congrArg Sched.suspendReq h.sched
    have h3 := congrArg Sched.lostEnd h.sched
    have h4 := congrArg Sched.slots h.sched
    have h5 := congrArg Sched.lists h.sched
    have h6 := congrArg Sched.shared h.sched
    exact ⟨h1.trans he, h2.trans hq, h3.trans hl, h4, h5, h6⟩
  obtain ⟨he', hq', hl', hs', hli', hsh'⟩ := hst
  have hstop' : t.get (K.STOP_AFTER p) = 0 := by
    rw [h.obj _ (fun hk => hk.elim (not_settleKey_sched (by simp only [K.STOP_AFTER]; omega) (by simp only [K.STOP_AFTER]; omega)
      (by simp only [K.STOP_AFTER]; omega)) (by simp only [K.STOP_AFTER, K.ATTEMPT, K.STEP, K.FAILED_RUN]; omega))]
    exact hstop
  have hft' : t.get K.FT_STATE = 2 := by
    rw [h.obj _ (not_endKey (by simp only [tallyShape, recordKey, K.FT_STATE]; omega) (by simp only [K.FT_STATE]; omega)
      (by simp only [K.FT_STATE, K.ATTEMPT, K.STEP, K.FAILED_RUN]; omega))]
    exact hft
  have hrem : t.remap p = (t, true) := Dev.remap_stay fun n hn => ((hi.kept hp h.obj hs' hli' hsh' h.fences).stay n hn).2
  unfold Dev.attemptOver
  rw [hset]
  dsimp only
  rw [he', hq', hl', hstop', hft', hrem]
  simp only [Bool.or_false, ne_eq, not_true_eq_false, decide_false, Bool.false_and, Bool.false_eq_true, if_false, Nat.reduceBEq,
    Bool.not_true]
  rfl

/-! ## The end tick of a quiet attempt -/

theorem Dev.voteClose_voted {d : Dev} {p : Nat} (h : (d.sched p).voted = true) : d.voteClose p = d := by
  unfold Dev.voteClose
  dsimp only
  rw [if_pos (by simp [h])]

theorem Dev.fenceDue_none {d : Dev} {p : Nat} (h : d.fenceWait = []) : d.fenceDue p = d := by
  have hf : ({ d with fenceWait := [] } : Dev) = d := by rw [← h]
  unfold Dev.fenceDue
  rw [h]
  exact hf

theorem Dev.Idle.present {d : Dev} {p : Nat} (h : Dev.Idle d p) : d.absentSlots p = [] := by
  unfold Dev.absentSlots
  refine List.filter_eq_nil_iff.mpr fun n hn => ?_
  have := (h.stay n (List.mem_range.mp hn)).1
  simpa using this

theorem Dev.Idle.noChannel {d : Dev} {p : Nat} (h : Dev.Idle d p) : (List.range 32).filter (fun ch => d.get (K.CH_PART ch) == p) = [] :=
  List.filter_eq_nil_iff.mpr fun ch hc => by simpa using h.chans ch (List.mem_range.mp hc)

/-- The device at the end tick, where it is not decided yet in doubt. -/
def Dev.ruled (d : Dev) (p : Nat) : Dev := if (d.sched p).decided then d else d.doubt p

/-- The end tick of a device that has ruled on its vote: every engine, slot and channel of the schedule stops. -/
def Dev.cleared (d : Dev) (p : Nat) (train : Bool) : Dev :=
  let d := ((d.schedEngs p).foldl (fun d e => d.endEngine e) d).slotsEmptied p
  let d := (d.absentSlots p).foldl (fun d n => d.endImage p n) d
  let d := d.setPart p { d.part p with heldHq := [] }
  let d := ((List.range 32).filter (fun ch => d.get (K.CH_PART ch) == p)).foldl (fun d ch => d.endChannel ch) d
  (if train then d else d.closeVote p).fenceDue p

/-- The end tick of a device that has cleared its schedule: suspended in doubt, else settled. -/
def Dev.attemptOut (d : Dev) (p tick : Nat) : Dev :=
  if (d.sched p).doubted then
    (d.setSched p { d.sched p with atCommit := d.get (K.DECISION p) != 5, seg := 0 }).suspend p tick
  else d.attemptOver p tick

theorem Dev.attemptEnd_eq (d : Dev) (p : Nat) : d.attemptEnd p =
    if d.get (K.SCHED_STATE p) ≠ 3 || d.now < d.get (K.EPOCH_NOW p) + d.get (K.PERIOD p) then d else
    ((if decide ((d.voteClose p).get (K.VOTE_TICK p) ≠ 0) && !((d.voteClose p).sched p).decided then (d.voteClose p).doubt p
      else d.voteClose p).cleared p (decide ((d.voteClose p).get (K.VOTE_TICK p) ≠ 0))).attemptOut p
        (d.get (K.EPOCH_NOW p) + d.get (K.PERIOD p)) := by
  unfold Dev.attemptEnd
  extract_lets tick d1 train d2 d3 d4 d5 q d6 d7 d8
  have hc : d8 = d2.cleared p train := rfl
  rw [show (if decide _ && _ then (d.voteClose p).doubt p else d.voteClose p) = d2 from rfl, ← hc]
  clear_value d8
  rfl

theorem Dev.Idle.cleared {d : Dev} {p : Nat} (hp : p < 16) (h : Dev.Idle d p) : d.cleared p true = d.slotsEnded p := by
  have habs := ((Dev.slotsEmptied_out d p).idle hp h).present
  have hidle := (Dev.slotsEnded_out d p).idle hp h
  unfold Dev.cleared
  rw [h.lists, List.foldl_nil]
  extract_lets d1 d2 q d3 d4
  have h2 : d2 = d1 := by
    show (d1.absentSlots p).foldl _ _ = _
    rw [habs, List.foldl_nil]
  have h3 : d3 = d.slotsEnded p := by
    show d2.setPart p { d2.part p with heldHq := [] } = _
    rw [h2]
    rfl
  have h4 : d4 = d.slotsEnded p := by
    show ((List.range 32).filter (fun ch => d3.get (K.CH_PART ch) == p)).foldl _ d3 = _
    rw [h3, hidle.noChannel, List.foldl_nil]
  rw [if_pos rfl, h4, Dev.fenceDue_none hidle.fences]

theorem Dev.attemptEnd_quiet {d : Dev} {p : Nat} (h : Quiet d p) (hd : Dev.Idle (d.ruled p) p)
    (ht : d.get (K.EPOCH_NOW p) + d.get (K.PERIOD p) ≤ d.now) :
    d.attemptEnd p = ((d.ruled p).slotsEnded p).attemptOut p (d.get (K.EPOCH_NOW p) + d.get (K.PERIOD p)) := by
  have htrain : decide (d.get (K.VOTE_TICK p) ≠ 0) = true := decide_eq_true h.train
  have hruled : (if (!(d.sched p).decided) = true then d.doubt p else d) = d.ruled p := by
    unfold Dev.ruled
    cases (d.sched p).decided <;> rfl
  rw [Dev.attemptEnd_eq, if_neg (by simp [h.state, ht]), Dev.voteClose_voted h.voted, htrain, Bool.true_and, hruled, hd.cleared h.part]

/-! ## The three ends of a quiet attempt -/

/-- The schedules' numbers that the end of an attempt leaves, but for those that count on. -/
theorem Dev.ObjsBut.sched_kept {a b : Dev} {p : Nat} (h : Dev.ObjsBut (endKey p) a b) {o : Obj} (h1 : 0x210000 ≤ o.key) (h2 : o.key < 0x211000)
    (h3 : o.key % 256 ≠ 15) (h4 : ¬(o.key = (K.ATTEMPT p).key ∨ o.key = (K.STEP p).key ∨ o.key = (K.FAILED_RUN p).key)) : b.get o = a.get o :=
  h o fun hk => hk.elim (not_settleKey_sched h1 h2 h3) h4

/-- A settled attempt whose schedule goes on. -/
theorem Dev.Settled.begins {d t : Dev} {p : Nat} {commit : Bool} (hp : p < 16) (h : Dev.Settled d t p commit) :
    ((t.recorded p).beginAttempt p).get (K.ATTEMPT p) = d.get (K.ATTEMPT p) + 1 ∧
    ((t.recorded p).beginAttempt p).get (K.STEP p) = t.get (K.STEP p) ∧
    ((t.recorded p).beginAttempt p).get (K.FAILED_RUN p) = t.get (K.FAILED_RUN p) ∧
    ((t.recorded p).beginAttempt p).get (K.SCHED_STATE p) = d.get (K.SCHED_STATE p) ∧
    ((t.recorded p).beginAttempt p).get (K.EPOCH_NOW p) = d.epochOf p + d.get (K.PERIOD p) := by
  have hr {o : Obj} (h1 : 0x210000 ≤ o.key) (h2 : o.key < 0x211000) (h3 : o.key % 256 ≠ 15) : (t.recorded p).get o = t.get o :=
    t.recorded_objs p o fun hk => not_settleKey_sched h1 h2 h3 (.inl hk)
  have hd {o : Obj} (h1 : 0x210000 ≤ o.key) (h2 : o.key < 0x211000) (h3 : o.key % 256 ≠ 15)
      (h4 : ¬(o.key = (K.ATTEMPT p).key ∨ o.key = (K.STEP p).key ∨ o.key = (K.FAILED_RUN p).key)) : (t.recorded p).get o = d.get o :=
    (hr h1 h2 h3).trans (h.obj.sched_kept h1 h2 h3 h4)
  refine ⟨?_, ?_, ?_, ?_, ?_⟩
  · rw [Dev.beginAttempt_get _ (by simp only [K.ATTEMPT]; omega) (by simp [K.ATTEMPT, K.EPOCH_NOW]),
      hr (by simp only [K.ATTEMPT]; omega) (by simp only [K.ATTEMPT]; omega) (by simp only [K.ATTEMPT]; omega), h.attempt]
  · rw [Dev.beginAttempt_get _ (by simp only [K.STEP]; omega) (by simp [K.STEP, K.EPOCH_NOW]),
      hr (by simp only [K.STEP]; omega) (by simp only [K.STEP]; omega) (by simp only [K.STEP]; omega)]
  · rw [Dev.beginAttempt_get _ (by simp only [K.FAILED_RUN]; omega) (by simp [K.FAILED_RUN, K.EPOCH_NOW]),
      hr (by simp only [K.FAILED_RUN]; omega) (by simp only [K.FAILED_RUN]; omega) (by simp only [K.FAILED_RUN]; omega)]
  · rw [Dev.beginAttempt_get _ (by simp only [K.SCHED_STATE]; omega) (by simp [K.SCHED_STATE, K.EPOCH_NOW]),
      hd (by simp only [K.SCHED_STATE]; omega) (by simp only [K.SCHED_STATE]; omega) (by simp only [K.SCHED_STATE]; omega)
        (by simp [K.SCHED_STATE, K.ATTEMPT, K.STEP, K.FAILED_RUN])]
  · rw [Dev.beginAttempt_epoch _ hp]
    unfold Dev.epochOf
    rw [hr (o := K.ATTEMPT p) (by simp only [K.ATTEMPT]; omega) (by simp only [K.ATTEMPT]; omega) (by simp only [K.ATTEMPT]; omega), h.attempt,
      hd (o := K.BASE_EPOCH p) (by simp only [K.BASE_EPOCH]; omega) (by simp only [K.BASE_EPOCH]; omega) (by simp only [K.BASE_EPOCH]; omega)
        (by simp [K.BASE_EPOCH, K.ATTEMPT, K.STEP, K.FAILED_RUN]),
      hd (o := K.PERIOD p) (by simp only [K.PERIOD]; omega) (by simp only [K.PERIOD]; omega) (by simp only [K.PERIOD]; omega)
        (by simp [K.PERIOD, K.ATTEMPT, K.STEP, K.FAILED_RUN]),
      hd (o := K.HELD_TICKS p) (by simp only [K.HELD_TICKS]; omega) (by simp only [K.HELD_TICKS]; omega) (by simp only [K.HELD_TICKS]; omega)
        (by simp [K.HELD_TICKS, K.ATTEMPT, K.STEP, K.FAILED_RUN])]
    ring

/-- A settled attempt whose schedule stops. -/
theorem Dev.Settled.suspends {d t : Dev} {p tick : Nat} {commit : Bool} (hp : p < 16) (h : Dev.Settled d t p commit) :
    ((t.recorded p).suspend p tick).get (K.ATTEMPT p) = d.get (K.ATTEMPT p) + 1 ∧
    ((t.recorded p).suspend p tick).get (K.STEP p) = t.get (K.STEP p) := by
  have hsus {o : Obj} (h1 : 0x210000 ≤ o.key) (h2 : o.key < 0x211000) (h3 : o.key % 256 ≠ 15) (hk : ¬stateKey p o.key) :
      ((t.recorded p).suspend p tick).get o = t.get o :=
    ((Dev.suspend_leaves (t.recorded p) hp tick).2.2 o hk).trans (t.recorded_objs p o fun hk => not_settleKey_sched h1 h2 h3 (.inl hk))
  constructor
  · rw [hsus (by simp only [K.ATTEMPT]; omega) (by simp only [K.ATTEMPT]; omega) (by simp only [K.ATTEMPT]; omega)
      (by simp only [stateKey, recordKey, K.ATTEMPT, K.SCHED_STATE]; omega), h.attempt]
  · rw [hsus (by simp only [K.STEP]; omega) (by simp only [K.STEP]; omega) (by simp only [K.STEP]; omega)
      (by simp only [stateKey, recordKey, K.STEP, K.SCHED_STATE]; omega)]

/-- What the settlement of a quiet attempt starts from: its slots are out, its schedule is as it was. -/
structure Dev.Ready (d e : Dev) (p : Nat) : Prop where
  out : Dev.SlotsOut d e
  idle : Dev.Idle e p
  alone : e.exchanges p = false
  stop : e.get (K.STOP_AFTER p) = 0
  time : e.get K.FT_STATE = 2

theorem Dev.SlotsOut.sched_get {d e : Dev} (h : Dev.SlotsOut d e) {o : Obj} (h1 : 0x210000 ≤ o.key) (h2 : o.key < 0x211000)
    (h3 : o.key % 256 ≠ 15) : e.get o = d.get o := h.obj o fun hk => not_settleKey_sched h1 h2 h3 (.inl hk)

theorem Quiet.ready {d : Dev} {p : Nat} (h : Quiet d p) : Dev.Ready d (d.slotsEnded p) p := by
  have hp := h.part
  have ho := d.slotsEnded_out p
  refine ⟨ho, ho.idle hp h.idle, ?_, ?_, ?_⟩
  · have hx : (d.slotsEnded p).get (K.SWX_ENABLE p) = 0 := by
      rw [ho.obj _ (not_tallyKey (by simp only [tallyShape, recordKey, K.SWX_ENABLE]; omega)), h.alone]
    unfold Dev.exchanges Dev.flag
    simp [hx]
  · rw [ho.sched_get (by simp only [K.STOP_AFTER]; omega) (by simp only [K.STOP_AFTER]; omega) (by simp only [K.STOP_AFTER]; omega), h.stop]
  · rw [ho.obj _ (not_tallyKey (by simp only [tallyShape, recordKey, K.FT_STATE]; omega)), h.time]

/-- The end tick of a decided attempt leads to its settlement. -/
theorem Quiet.over {d : Dev} {p : Nat} (h : Quiet d p) (hdec : (d.sched p).decided = true)
    (ht : d.get (K.EPOCH_NOW p) + d.get (K.PERIOD p) ≤ d.now) :
    d.attemptEnd p = (d.slotsEnded p).attemptOver p (d.get (K.EPOCH_NOW p) + d.get (K.PERIOD p)) := by
  have hr : d.ruled p = d := if_pos hdec
  rw [Dev.attemptEnd_quiet h (by rw [hr]; exact h.idle) ht, hr]
  unfold Dev.attemptOut
  rw [h.ready.out.sched, if_neg (by simp [h.sure])]

/-- A committed attempt: the next begins one period later. -/
theorem Quiet.commits {d : Dev} {p : Nat} (h : Quiet d p) (hdec : (d.sched p).decided = true) (hc : d.get (K.DECISION p) = 1)
    (hf : (d.sched p).failCommit = 0) (hn : (d.sched p).votes.any VoteRec.nf = false)
    (ht : d.get (K.EPOCH_NOW p) + d.get (K.PERIOD p) ≤ d.now) :
    (d.attemptEnd p).get (K.ATTEMPT p) = d.get (K.ATTEMPT p) + 1 ∧ (d.attemptEnd p).get (K.STEP p) = d.get (K.STEP p) + 1 ∧
    (d.attemptEnd p).get (K.FAILED_RUN p) = 0 ∧ (d.attemptEnd p).get (K.SCHED_STATE p) = 3 ∧
    (d.attemptEnd p).get (K.EPOCH_NOW p) = d.epochOf p + d.get (K.PERIOD p) := by
  have hp := h.part
  rw [h.over hdec ht]
  have hr := h.ready
  generalize d.slotsEnded p = e at hr ⊢
  have hsc := hr.out.sched p
  have hdn : e.get (K.DECISION p) = 1 := by
    rw [hr.out.obj _ (not_tallyKey (by simp only [tallyShape, recordKey, K.DECISION]; omega)), hc]
  obtain ⟨hm, hfalse⟩ := e.settling_moved hp (by rw [hsc]; exact h.slots) true
  have hset := Dev.settle_commit hr.alone hdn
  rw [hsc, hf, hfalse (by rw [hsc]; exact hn)] at hset
  have hs := Dev.committed_settled hp hm
  rw [Dev.attemptOver_goes hp hr.idle hset hs (by rw [hsc]; exact h.asked) hr.stop hr.time, if_neg (by simp)]
  obtain ⟨h1, h2, h3, h4, h5⟩ := hs.begins hp
  have low {o : Obj} (h1 : 0x210000 ≤ o.key) (h2 : o.key < 0x211000) (h3 : o.key % 256 ≠ 15) := hr.out.sched_get h1 h2 h3
  refine ⟨?_, ?_, ?_, ?_, ?_⟩
  · rw [h1, low (by simp only [K.ATTEMPT]; omega) (by simp only [K.ATTEMPT]; omega) (by simp only [K.ATTEMPT]; omega)]
  · rw [h2, hs.step, if_pos rfl, low (by simp only [K.STEP]; omega) (by simp only [K.STEP]; omega) (by simp only [K.STEP]; omega)]
  · rw [h3, hs.failed rfl]
  · rw [h4, low (by simp only [K.SCHED_STATE]; omega) (by simp only [K.SCHED_STATE]; omega) (by simp only [K.SCHED_STATE]; omega), h.state]
  · rw [h5]
    unfold Dev.epochOf
    rw [low (o := K.ATTEMPT p) (by simp only [K.ATTEMPT]; omega) (by simp only [K.ATTEMPT]; omega) (by simp only [K.ATTEMPT]; omega),
      low (o := K.BASE_EPOCH p) (by simp only [K.BASE_EPOCH]; omega) (by simp only [K.BASE_EPOCH]; omega) (by simp only [K.BASE_EPOCH]; omega),
      low (o := K.PERIOD p) (by simp only [K.PERIOD]; omega) (by simp only [K.PERIOD]; omega) (by simp only [K.PERIOD]; omega),
      low (o := K.HELD_TICKS p) (by simp only [K.HELD_TICKS]; omega) (by simp only [K.HELD_TICKS]; omega) (by simp only [K.HELD_TICKS]; omega)]

/-- An abandoned attempt: its step stands. -/
theorem Quiet.abandons {d : Dev} {p : Nat} (h : Quiet d p) (hdec : (d.sched p).decided = true) (hc : d.get (K.DECISION p) = 2)
    (ht : d.get (K.EPOCH_NOW p) + d.get (K.PERIOD p) ≤ d.now) :
    (d.attemptEnd p).get (K.ATTEMPT p) = d.get (K.ATTEMPT p) + 1 ∧ (d.attemptEnd p).get (K.STEP p) = d.get (K.STEP p) := by
  have hp := h.part
  rw [h.over hdec ht]
  have hr := h.ready
  generalize d.slotsEnded p = e at hr ⊢
  have hsc := hr.out.sched p
  have hdn : e.get (K.DECISION p) = 2 := by
    rw [hr.out.obj _ (not_tallyKey (by simp only [tallyShape, recordKey, K.DECISION]; omega)), hc]
  have hm := (e.settling_moved hp (by rw [hsc]; exact h.slots) false).1
  obtain ⟨t, b, hset, ht⟩ := Dev.settle_abandon hr.alone hdn
  have hs : Dev.Settled e t p false := by
    rcases ht with rfl | ⟨cause, rfl⟩
    · exact Dev.abandoned_settled hp hm
    · exact (Dev.abandoned_settled hp hm).countFail hp cause
  have ha := hr.out.sched_get (o := K.ATTEMPT p) (by simp only [K.ATTEMPT]; omega) (by simp only [K.ATTEMPT]; omega) (by simp only [K.ATTEMPT]; omega)
  have hstep := hr.out.sched_get (o := K.STEP p) (by simp only [K.STEP]; omega) (by simp only [K.STEP]; omega) (by simp only [K.STEP]; omega)
  have hst : t.get (K.STEP p) = d.get (K.STEP p) := by rw [hs.step, if_neg (by simp), hstep]
  rw [Dev.attemptOver_goes hp hr.idle hset hs (by rw [hsc]; exact h.asked) hr.stop hr.time, ← ha, ← hst]
  split
  · exact hs.suspends hp
  · exact ⟨(hs.begins hp).1, (hs.begins hp).2.1⟩

/-- An attempt without a decision: in doubt, and suspended. -/
theorem Quiet.doubts {d : Dev} {p : Nat} (h : Quiet d p) (hdec : (d.sched p).decided = false)
    (ht : d.get (K.EPOCH_NOW p) + d.get (K.PERIOD p) ≤ d.now) :
    (d.attemptEnd p).get (K.DECISION p) = 3 ∧ (d.attemptEnd p).get (K.DECISION_CAUSE p) = stLINK ∧
    (d.attemptEnd p).get (K.SCHED_STATE p) = 4 ∧ (d.attemptEnd p).get (K.ATTEMPT p) = d.get (K.ATTEMPT p) ∧
    (d.attemptEnd p).get (K.STEP p) = d.get (K.STEP p) := by
  have hp := h.part
  have hr : d.ruled p = d.doubt p := if_neg (by simp [hdec])
  obtain ⟨hobj, hsched, hfen, hdn, hcause⟩ := d.doubt_leaves hp
  have hidle : Dev.Idle (d.doubt p) p :=
    h.idle.kept hp (hobj.mono fun _ => .inl) (by rw [hsched]) (by rw [hsched]) (by rw [hsched]) hfen
  rw [Dev.attemptEnd_quiet h (by rw [hr]; exact hidle) ht, hr]
  have ho := (d.doubt p).slotsEnded_out p
  generalize (d.doubt p).slotsEnded p = e at ho
  unfold Dev.attemptOut
  rw [ho.sched, hsched, if_pos rfl]
  generalize hf : e.setSched p _ = f
  have hfo (o : Obj) : f.get o = e.get o := by rw [← hf]; rfl
  obtain ⟨h4, -, hsus⟩ := f.suspend_leaves hp (d.get (K.EPOCH_NOW p) + d.get (K.PERIOD p))
  refine ⟨?_, ?_, h4, ?_, ?_⟩
  · rw [hsus _ (by simp only [stateKey, recordKey, K.DECISION, K.SCHED_STATE]; omega), hfo,
      ho.obj _ (not_tallyKey (by simp only [tallyShape, recordKey, K.DECISION]; omega)), hdn]
  · rw [hsus _ (by simp only [stateKey, recordKey, K.DECISION_CAUSE, K.SCHED_STATE]; omega), hfo,
      ho.obj _ (not_tallyKey (by simp only [tallyShape, recordKey, K.DECISION_CAUSE]; omega)), hcause]
  · rw [hsus _ (by simp only [stateKey, recordKey, K.ATTEMPT, K.SCHED_STATE]; omega), hfo,
      ho.sched_get (by simp only [K.ATTEMPT]; omega) (by simp only [K.ATTEMPT]; omega) (by simp only [K.ATTEMPT]; omega),
      hobj _ (not_settleKey_sched (by simp only [K.ATTEMPT]; omega) (by simp only [K.ATTEMPT]; omega) (by simp only [K.ATTEMPT]; omega))]
  · rw [hsus _ (by simp only [stateKey, recordKey, K.STEP, K.SCHED_STATE]; omega), hfo,
      ho.sched_get (by simp only [K.STEP]; omega) (by simp only [K.STEP]; omega) (by simp only [K.STEP]; omega),
      hobj _ (not_settleKey_sched (by simp only [K.STEP]; omega) (by simp only [K.STEP]; omega) (by simp only [K.STEP]; omega))]

/-- A schedule that starts: the first attempt begins at its epoch. -/
theorem Dev.scheduleStart_begins {d : Dev} {p : Nat} (hp : p < 16) (h2 : d.get (K.SCHED_STATE p) = 2) (hn : d.get (K.BASE_EPOCH p) ≤ d.now)
    (he : (d.sched p).endReq = false) :
    (d.scheduleStart p).get (K.SCHED_STATE p) = 3 ∧ (d.scheduleStart p).get (K.EPOCH_NOW p) = d.epochOf p ∧
    (d.scheduleStart p).sched p = (d.sched p).begun ((d.setState p 3).get K.FT_STATE) := by
  have hs : d.scheduleStart p = (d.setState p 3).beginAttempt p := by
    unfold Dev.scheduleStart
    simp [h2, hn, he]
  have hk {o : Obj} (h1 : 0x210000 ≤ o.key) (h2 : o.key < 0x211000) (h3 : o.key ≠ (K.SCHED_STATE p).key) : (d.setState p 3).get o = d.get o :=
    d.setState_objs p 3 o (by unfold stateKey recordKey; omega)
  rw [hs]
  refine ⟨?_, ?_, ?_⟩
  · rw [Dev.beginAttempt_get _ (by simp only [K.SCHED_STATE]; omega) (by simp [K.SCHED_STATE, K.EPOCH_NOW]), Dev.setState_get _ _ hp]
  · rw [Dev.beginAttempt_epoch _ hp]
    unfold Dev.epochOf
    rw [hk (o := K.BASE_EPOCH p) (by simp only [K.BASE_EPOCH]; omega) (by simp only [K.BASE_EPOCH]; omega) (by simp [K.BASE_EPOCH, K.SCHED_STATE]),
      hk (o := K.ATTEMPT p) (by simp only [K.ATTEMPT]; omega) (by simp only [K.ATTEMPT]; omega) (by simp [K.ATTEMPT, K.SCHED_STATE]),
      hk (o := K.PERIOD p) (by simp only [K.PERIOD]; omega) (by simp only [K.PERIOD]; omega) (by simp [K.PERIOD, K.SCHED_STATE]),
      hk (o := K.HELD_TICKS p) (by simp only [K.HELD_TICKS]; omega) (by simp only [K.HELD_TICKS]; omega) (by simp [K.HELD_TICKS, K.SCHED_STATE])]
  · rw [Dev.beginAttempt_sched _ hp, (Dev.setState_sent _ _ _).sched]

/-- Settles O45: a start by what its first attempt begins with, an end tick by its three ends. -/
theorem attemptsEnd : Obligations.AttemptsEnd := by
  have hx (s : State) (p : Nat) (hp : p < 16) (hs : s.stopped = false) :
      exec (.attemptEnd p) s = .next (s.setDev (s.dev.capAgain (s.dev.attemptEnd p))) :=
    onUnit_next (f := fun d => d.capAgain (d.attemptEnd p)) (decide_eq_true hp) hs
  refine ⟨fun s p hp hs h2 => ?_, fun s p hp hs h3 ht => ?_, fun s p hs hq ht => ?_⟩
  · have hx : exec (.scheduleStart p) s = .next (s.setDev (s.dev.scheduleStart p)) :=
      onUnit_next (f := fun d => d.scheduleStart p) (decide_eq_true hp) hs
    rw [hx]
    refine ⟨fun hn => ?_, fun hn he => ⟨_, rfl, s.setDev_pending _, s.setDev_sec _, ?_⟩⟩
    · unfold Dev.scheduleStart
      simp [hn, State.setDev_self]
    · obtain ⟨hst, hep, hsc⟩ := Dev.scheduleStart_begins hp h2 hn he
      rw [State.setDev_dev, hsc]
      exact ⟨hst, hep, rfl, rfl, rfl⟩
  · rw [hx s p hp hs, Dev.attemptEnd_eq, if_pos (by simp [ht]), Dev.capAgain_idle fun _ _ => rfl, State.setDev_self]
  · rw [hx s p hq.part hs, Dev.capAgain_idle (by simp [hq.power])]
    refine ⟨_, rfl, s.setDev_pending _, s.setDev_sec _, ?_⟩
    rw [State.setDev_dev]
    exact ⟨fun hdec hc hf hn => hq.commits hdec hc hf hn ht, fun hdec hc => hq.abandons hdec hc ht, fun hdec => hq.doubts hdec ht⟩

end Sys2Proof.Machine
end

section
/-! Proofs: a relay of a shared engine whose bound slot is none of its partition's. The slot's number then names another object; reading the
list counts in it, and the handle goes to the queues of another core than before. -/
namespace Sys2Proof.Machine

/-- The objects of a partition in service with a running schedule, its window's channel, and the stage cache's misses at 5. -/
def farObjs : List (Obj × Nat) :=
  [(K.BOOT_STATE, 8), (K.DEVICE_NUMBER, 0), (K.PART_STATE 15, 1), (K.SCHED_STATE 15, 3), (K.PERIOD 15, 1000), (K.WIN_PAGES 15, 1),
   (K.CH_OWNER 0 0, 15), (K.FT_STATE, 2), (K.SC_MISSES 0, 5)]

/-- The bound slot whose SLOT_CORE would lie where the misses of quadrant 0 are counted. -/
def farBound : Nat := (K.SC_MISSES 0).key - (K.SLOT_CORE 15 0).key

/-- Update engine 0 of partition 15 bound to that slot, at an UP_NOP that signals queue 4. -/
def farDev : Dev :=
  let d := farObjs.foldl (fun (d : Dev) o => d.put o.1 o.2) Dev.init
  let d := (toLE 32 0x04FF0000).zipIdx.foldl (fun (d : Dev) b => d.setHbmByte (96 + b.2) (BitVec.ofNat 8 b.1)) d
  let d := d.setPart 15 { d.part 15 with
    window := [(0, 2 ^ 63)]
    sched := { (d.part 15).sched with slots := 0, slack := 10, period := 1000, shared := [{ kind := 5, num := 0, base := 15 * 2 ^ 47 + 64 }] } }
  d.setCtx (upe 0 15) { EngCtx.init with fetched := true, count := 1, index := 1, bound := farBound }

def farState : State := { State.reset with dev := farDev }

/-- What `Issues` and the claim about the handle ask of the relay at the head of the list. -/
def farAsks (c : Cmd) (d : Dev) : Bool :=
  (d.ctx (upe 0 15)).hold.isNone && (d.stainsOn 2 (upe 0 15).unit (d.engPart (upe 0 15))).isEmpty && (d.ctx (upe 0 15)).busy.isEmpty &&
  decide (d.queueCore (upe 0 15) = some 5) && !(d.sched 15).fencedSlots.contains (d.ctx (upe 0 15)).bound && decide (c.sigQ = 4) &&
  decide ((d.hq 5 4).length < 16) && !(d.ctx (upe 0 15)).late && !d.pastEnd (upe 0 15) (c.w 1)

theorem far_asks : (match farState.dev.head (upe 0 15) (· == 0) with
    | .go c _ d => farAsks c { d with memDelay := 0 }
    | .wait _ => false) = true := by decide +kernel

/-- The relay leaves queue 4 of core 5 empty: its handle went to core 6. -/
theorem far_relays : (match exec (.upNop 0 15) farState with
    | .next t => (t.dev.hq 5 4).isEmpty
    | _ => false) = true := by decide +kernel

theorem insHandle_ne_nil (l : List Handle) (h : Handle) : insHandle l h ≠ [] := by
  unfold insHandle
  split
  · simp
  · split <;> simp

/-- Refutes O44: reading the slot of the relay itself counts a miss, and SLOT_CORE of a bound slot that the partition does not have is that count. -/
theorem not_relaysPass : ¬ Obligations.RelaysPass := by
  rintro ⟨⟨hrelay, -⟩, -⟩
  have ha := far_asks
  split at ha
  next c n d hd =>
    simp only [farAsks, Bool.and_eq_true, Option.isNone_iff_eq_none, List.isEmpty_iff, decide_eq_true_eq, Bool.not_eq_true'] at ha
    obtain ⟨⟨⟨⟨⟨⟨⟨⟨hhold, hcalm⟩, hbusy⟩, hcore⟩, hfence⟩, hsig⟩, hroom⟩, hlate⟩, hpast⟩ := ha
    have hi : Issues farState (upe 0 15) 0 c n { d with memDelay := 0 } :=
      ⟨by decide +kernel, by decide +kernel, ⟨d, hd, rfl⟩, hhold, hcalm⟩
    obtain ⟨t, hx, -, -, hp⟩ := hrelay _ (.upNop 0 15) _ _ _ _ hi ⟨0, .inr (.inr (.inr (.inr ⟨15, .inl ⟨rfl, rfl, hbusy⟩⟩)))⟩
    obtain ⟨v, cy, hq⟩ := hp.handle 5 hcore (.inr hfence) (by omega) (by rw [hsig]; exact hroom) hlate hpast
    have he := far_relays
    rw [hx] at he
    rw [hsig] at hq
    exact insHandle_ne_nil _ _ (hq.symm.trans (List.isEmpty_iff.mp he))
  next => cases ha

end Sys2Proof.Machine
end

section
/-! Proofs: lists are fetched once, unreadable slots are passed, late heads are filed (R22, R97, R535). -/
namespace Sys2Proof.Machine

/-! ## Lists (R22) -/

theorem Dev.readList_new {d : Dev} {e : Eng} (hf : (d.ctx e).fetched = false) (hr : (d.ctx e).refused = false) (hb : d.listBase e ≠ 0) :
    d.readList e = match d.slot e 0 with
      | (.error st, d) => if st = stWAIT then d.askSlot e 0 else d.refuseList e st
      | (.ok ws, d) =>
        match d.headerFault e ws with
        | some st => d.refuseList e st
        | none =>
          let d := d.setCtx e { d.ctx e with fetched := true, count := ws.getD 1 0, bound := bits (ws.getD 2 0) 7 0, index := 1 }
          match d.slot e 1 with
          | (.error 254, d) => d.askSlot e 1
          | _ => d := by
  unfold Dev.readList
  exact if_neg (by simp [hf, hr, hb])

theorem Dev.refuseList_refused (d : Dev) (e : Eng) (st : Nat) : ((d.refuseList e st).ctx e).refused = true := by
  unfold Dev.refuseList
  extract_lets x d1 d2 d3
  have h : Dev.Calm d1 d3 := (d1.record_calm e 0 0xFF st x.gen).trans (d2.account_calm e 0 st (d2.get (K.ATTEMPT (d2.engPart e))) 255 false)
  have h1 : d1.ctx e = { x with refused := true, refusal := st } := Dev.ctx_setCtx_self _ _ _
  have h3 := congrArg EngCtx.refused (h.ctx e)
  rw [(d3.file_side _).ctx]
  simpa [EngCtx.plain, h1] using h3

/-! ## Slots that cannot be read (R535) -/

theorem Dev.slotUnreadable_at {d : Dev} {e : Eng} (hr : d.running e = true) (hf : (d.ctx e).fetched = true) (h1 : 1 ≤ (d.ctx e).index)
    (hc : (d.ctx e).index ≤ (d.ctx e).count) :
    (!d.running e || !(d.ctx e).fetched || decide ((d.ctx e).index = 0) || decide ((d.ctx e).count < (d.ctx e).index)) = false := by
  have : (d.ctx e).index ≠ 0 := Nat.one_le_iff_ne_zero.mp h1
  simp [hr, hf, hc, this]

/-- A slot that is passed: the next is at the head, nothing in flight and no queue has changed. -/
theorem Dev.slotPassed {b d : Dev} {e : Eng} (st : Nat) (hs : Dev.Side b d) :
    let x := b.ctx e
    let d := d.record e x.index 0xFF st x.gen
    let d := d.account e 0 st (d.get (K.ATTEMPT (d.engPart e))) 255 false
    let d := d.setCtx e { d.ctx e with index := x.index + 1, popped := none, late := false, gated := false, why := 0, hold := none }
    let t := d.slotRecord e x.index st
    (t.ctx e).index = (b.ctx e).index + 1 ∧ (t.ctx e).popped = none ∧ (t.ctx e).late = false ∧ (t.ctx e).busy = (b.ctx e).busy ∧
      ∀ c q, t.hq c q = b.hq c q := by
  intro x d1 d2 d3 t
  have h2 : Dev.Calm b d2 := (Dev.Calm.of_side hs).trans ((d.record_calm e x.index 0xFF st x.gen).trans (d1.account_calm _ _ _ _ _ _))
  have ht : Dev.Side d3 t := d3.file_side _
  have h3 : d3.ctx e = { d2.ctx e with index := x.index + 1, popped := none, late := false, gated := false, why := 0, hold := none } :=
    Dev.ctx_setCtx_self _ _ _
  rw [ht.ctx, h3]
  refine ⟨rfl, rfl, rfl, ?_, fun c q => ?_⟩
  · have := congrArg EngCtx.busy (h2.ctx e)
    simpa [EngCtx.plain] using this
  · rw [ht.hq, Dev.hq_setCtx, h2.hq]

/-! ## Late heads (R97) -/

theorem Dev.lateRecord_filed (d : Dev) (e : Eng) (index op w1 cause : Nat) :
    ((d.lateRecord e index op w1 cause).ctx e) = { d.ctx e with lateFiled := true } := by
  unfold Dev.lateRecord
  dsimp only
  split
  next h => rw [← h]
  next => rw [(Dev.file_side _ _).ctx, Dev.ctx_setCtx_self]

theorem Dev.commandLate_head {d d' : Dev} {e : Eng} {ws : List Nat} (hr : d.running e = true) (hp : d.engPart e < 16) (hi : d.inFlight e = [])
    (hf : (d.ctx e).fetched = true) (h1 : 1 ≤ (d.ctx e).index) (hc : (d.ctx e).index ≤ (d.ctx e).count)
    (hs : d.slot e (d.ctx e).index = (.ok ws, d')) :
    d.commandLate e = d.noteLate e { index := (d.ctx e).index, words := ws, handle := none } := by
  have hopen : d.schedOpen (d.engPart e) = true := by
    simp only [Dev.running, Bool.and_eq_true] at hr
    exact hr.1
  have hne : (d.ctx e).index ≠ 0 := Nat.one_le_iff_ne_zero.mp h1
  unfold Dev.commandLate
  dsimp only
  rw [if_neg (by simp [hopen, hp]), hi, List.find?_nil]
  dsimp only
  rw [if_neg (by simp [hf, hne, hc]), hs]

/-- A head whose slack or segment is over, and that no quiesce holds. -/
theorem noteLate_over {d : Dev} {e : Eng} {c : Cmd} (hq : e.k = 1 → (d.core e.n).mxQuiet = 0) (hp : d.engPart e < 16) (hl : (d.ctx e).late = false)
    (hn : d.release e (c.w 1) + (d.sched (d.engPart e)).slack < d.now) :
    ((d.noteLate e c).ctx e).late = true ∧ ((d.noteLate e c).ctx e).index = (d.ctx e).index ∧ ((d.noteLate e c).ctx e).lateFiled = true := by
  have hquiet : ¬((decide (e.k = 1) && decide ((d.core e.n).mxQuiet ≠ 0) && decide ((d.core e.n).mxQuiet = c.index)) = true) := by
    simp only [Bool.and_eq_true, decide_eq_true_eq]
    rintro ⟨⟨hk, hz⟩, -⟩
    exact hz (hq hk)
  unfold Dev.noteLate
  dsimp only
  rw [if_neg hquiet, if_pos (by simp [hp, hn]), if_neg (by simp [hl]), Dev.lateRecord_filed, Dev.ctx_setCtx_self]
  exact ⟨rfl, rfl, rfl⟩

/-- Settles O42: a list's fetch by its header, a slot's passing and a head's lateness by what they leave. -/
theorem listHeads : Obligations.ListHeads := by
  refine ⟨fun s k n p e d he hok hst hrun hbase => ?_, fun s k n p e he hok hst hrun hf h1 hc => ?_⟩
  · subst he
    have hx : exec (.listFetch k n p) s = .next (s.setDev (s.dev.fetchList (engAt k n p))) :=
      onUnit_next (f := fun d => d.fetchList (engAt k n p)) hok hst
    generalize engAt k n p = e at *
    have hfl : s.dev.fetchList e = s.dev.readList e := if_pos hrun
    rw [hx, hfl]
    refine ⟨fun ws d1 hf hr hs hh hd1 => ?_, fun ws st hf hr hs hh => ?_, fun st hf hr hs hw => ?_, fun hf hr hs => ?_, fun h => ?_⟩
    · rw [Dev.readList_new hf hr hbase, hs]
      dsimp only
      rw [hh]
      dsimp only
      rw [← hd1]
      refine ⟨fun hne => ?_, fun d2 h2 => by rw [h2]; rfl⟩
      split
      next d2 h2 => exact absurd (congrArg Prod.fst h2) hne
      next => rfl
    · rw [Dev.readList_new hf hr hbase, hs]
      dsimp only
      rw [hh]
      exact ⟨rfl, Dev.refuseList_refused _ _ _⟩
    · rw [Dev.readList_new hf hr hbase, hs]
      dsimp only
      rw [if_neg hw]
      exact ⟨rfl, Dev.refuseList_refused _ _ _⟩
    · rw [Dev.readList_new hf hr hbase, hs]
      rfl
    · unfold Dev.readList
      dsimp only
      rw [if_pos (by rcases h with h | h <;> simp [h]), State.setDev_self]
  · subst he
    have hx : exec (.commandSlotUnreadable k n p) s = .next (s.setDev (s.dev.slotUnreadable (engAt k n p))) :=
      onUnit_next (f := fun d => d.slotUnreadable (engAt k n p)) hok hst
    have hy : exec (.commandLate k n p) s = .next (s.setDev (s.dev.commandLate (engAt k n p))) :=
      onUnit_next (f := fun d => d.commandLate (engAt k n p)) hok hst
    generalize engAt k n p = e at *
    have hslot := Dev.slotUnreadable_at hrun hf h1 hc
    rw [hx, hy]
    refine ⟨fun d hs => ?_, fun st d hs hw => ?_, fun ws d hs => ?_, fun ws d hp hi hs hl hq => ?_⟩
    · unfold Dev.slotUnreadable
      dsimp only
      rw [if_neg (by simp [hslot]), hs]
      rfl
    · refine ⟨_, rfl, s.setDev_pending _, s.setDev_sec _, ?_⟩
      rw [State.setDev_dev]
      have hside : Dev.Side s.dev d := by
        have := s.dev.slot_side e (s.dev.ctx e).index
        rwa [hs] at this
      unfold Dev.slotUnreadable
      dsimp only
      rw [if_neg (by simp [hslot]), hs]
      dsimp only
      rw [if_neg hw]
      exact Dev.slotPassed st hside
    · unfold Dev.slotUnreadable
      dsimp only
      rw [if_neg (by simp [hslot]), hs, State.setDev_self]
    · rw [Dev.commandLate_head hrun hp hi hf h1 hc hs]
      refine ⟨fun hn => ⟨_, rfl, s.setDev_pending _, s.setDev_sec _, ?_⟩, fun hn he => ?_⟩
      · rw [State.setDev_dev]
        exact noteLate_over hq hp hl hn
      · rw [noteLate_intime (c := { index := (s.dev.ctx e).index, words := ws, handle := none }) hn he, State.setDev_self]

end Sys2Proof.Machine
end

section
/-! Proofs: what reads and writes of memory, and messages posted, leave: objects of `touchKey` alone move, and of the rest what `Dev.Side` names
stands. -/
namespace Sys2Proof.Machine

/-- Objects that reads and writes of memory may move: what completions may, and the counters and syndromes of stacks and scratchpads. -/
def touchKey (k : Nat) : Prop :=
  tallyKey k ∨ (0x400000 ≤ k ∧ (k % 256 = 3 ∨ k % 256 = 4 ∨ k % 256 = 5 ∨ k % 256 = 7)) ∨
    (0x300000 ≤ k ∧ k / 256 % 64 = 0x14 ∧ (k % 256 = 1 ∨ k % 256 = 2 ∨ k % 256 = 7))

theorem not_touchKey {k : Nat} (h : ¬tallyShape k) (h1 : ¬(0x400000 ≤ k ∧ (k % 256 = 3 ∨ k % 256 = 4 ∨ k % 256 = 5 ∨ k % 256 = 7)))
    (h2 : ¬(0x300000 ≤ k ∧ k / 256 % 64 = 0x14 ∧ (k % 256 = 1 ∨ k % 256 = 2 ∨ k % 256 = 7))) : ¬touchKey k := by
  rintro (hk | hk | hk)
  · exact not_tallyKey h hk
  · exact h1 hk
  · exact h2 hk

theorem touchKey_stack {n s : Nat} (hs : s = 3 ∨ s = 4 ∨ s = 5 ∨ s = 7) : touchKey ((0x4000 + n) * 256 + s) := by
  refine .inr (.inl ⟨by omega, ?_⟩)
  have : ((0x4000 + n) * 256 + s) % 256 = s := by omega
  rwa [this]

theorem touchKey_sp {c s : Nat} (hs : s = 1 ∨ s = 2 ∨ s = 7) : touchKey ((0x3014 + c * 0x40) * 256 + s) := by
  refine .inr (.inr ⟨by omega, by omega, ?_⟩)
  have : ((0x3014 + c * 0x40) * 256 + s) % 256 = s := by omega
  rwa [this]

/-- `b` is `a` after reads and writes of memory. -/
structure Dev.Touched (a b : Dev) : Prop where
  obj : Dev.ObjsBut touchKey a b
  side : Dev.Side a b

namespace Dev.Touched

variable {a b c : Dev}

theorem refl (a : Dev) : Dev.Touched a a := ⟨.refl a, .refl a⟩
theorem trans (h : Dev.Touched a b) (g : Dev.Touched b c) : Dev.Touched a c := ⟨h.obj.trans g.obj, h.side.trans g.side⟩
theorem of_tallied (h : Dev.Tallied a b) (g : Dev.Side a b) : Dev.Touched a b := ⟨h.obj.mono fun _ => .inl, g⟩
theorem of_objs (h : b.objs = a.objs) (g : Dev.Side a b) : Dev.Touched a b := ⟨.of_objs h, g⟩
theorem put (d : Dev) {o : Obj} (v : Nat) (h : touchKey o.key) : Dev.Touched d (d.put o v) := ⟨.put d v h, d.put_side o v⟩
theorem cnt (d : Dev) {o : Obj} (n : Nat) (h : touchKey o.key) : Dev.Touched d (d.cnt o n) := put d _ h
theorem ite (q : Prop) [Decidable q] (h : q → Dev.Touched a b) (h' : ¬q → Dev.Touched a c) : Dev.Touched a (if q then b else c) := by
  split
  · exact h ‹_›
  · exact h' ‹_›
/-- A fold that carries more than the device. -/
theorem foldl_of {α β : Type} (g : α → Dev) (f : α → β → α) (l : List β) (h : ∀ x y, Dev.Touched (g x) (g (f x y))) (x : α) :
    Dev.Touched (g x) (g (l.foldl f x)) :=
  List.foldlRecOn (motive := fun y => Dev.Touched (g x) (g y)) l f (refl _) fun _ hb y _ => hb.trans (h _ y)
theorem foldl {β : Type} (f : Dev → β → Dev) (l : List β) (h : ∀ d x, Dev.Touched d (f d x)) (d : Dev) : Dev.Touched d (l.foldl f d) :=
  foldl_of id f l h d

end Dev.Touched

theorem Dev.file_touched (d : Dev) (i : RecInfo) : Dev.Touched d (d.file i) := .of_tallied (d.file_tallied i) (d.file_side i)
theorem Dev.stain_touched (d : Dev) (kind unit p : Nat) : Dev.Touched d (d.stain kind unit p).2.2 :=
  .of_tallied (d.stain_tallied kind unit p) (d.stain_side kind unit p)
theorem Dev.meter_touched (d : Dev) (p : Nat) (w : Bool) (n : Nat) : Dev.Touched d (d.meter p w n) :=
  .of_tallied (d.meter_tallied p w n) (d.meter_side p w n)

theorem Dev.hbmRecord_touched (d : Dev) (kind x st p idx op : Nat) : Dev.Touched d (d.hbmRecord kind x st p idx op) := by
  simp only [Dev.hbmRecord]
  exact (Dev.Touched.put d _ (touchKey_stack (by omega))).trans (Dev.file_touched _ _)

theorem Dev.setMem_touched (d : Dev) (m : Mem) : Dev.Touched d { d with mem := m } := ⟨.of_objs rfl, d.setMem_side m⟩

theorem Dev.lineLost_touched (d : Dev) (line kind p idx op : Nat) : Dev.Touched d (d.lineLost line kind p idx op) := by
  unfold Dev.lineLost
  extract_lets m d1
  have h1 : Dev.Touched d d1 := d.setMem_touched _
  clear_value d1
  exact (h1.trans (.cnt d1 1 (touchKey_stack (by omega)))).trans (Dev.hbmRecord_touched _ _ _ _ _ _ _)

theorem Dev.lineCorrected_touched (d : Dev) (line p idx op : Nat) : Dev.Touched d (d.lineCorrected line p idx op) := by
  unfold Dev.lineCorrected
  extract_lets d1 m d2
  have h1 : Dev.Touched d d1 := .cnt d 1 (touchKey_stack (by omega))
  have h2 : Dev.Touched d d2 := h1.trans (d1.setMem_touched _)
  clear_value d2
  exact .ite _ (fun _ => h2.trans (d2.hbmRecord_touched _ _ _ _ _ _)) fun _ => h2.trans (d2.setMem_touched _)

theorem Dev.lineMet_touched (d : Dev) (line p idx op : Nat) (f : Finding) : Dev.Touched d (d.lineMet line p idx op f).2 := by
  unfold Dev.lineMet
  split
  · exact d.lineLost_touched _ _ _ _ _
  split
  · exact d.lineLost_touched _ _ _ _ _
  split
  · exact d.lineCorrected_touched _ _ _ _
  · exact .cnt d _ (touchKey_stack (by omega))
  · exact .refl d

theorem Dev.noteDelay_touched (d : Dev) (t : Nat) : Dev.Touched d (d.noteDelay t) := ⟨.of_objs rfl, d.memDelay_side _⟩

theorem Dev.readLine_touched (d : Dev) (s : Iss) (line : Nat) : Dev.Touched d (d.readLine s line).2 :=
  ((Dev.Touched.of_tallied (d.cacheTouch_tallied _ _ _ _) (d.cacheTouch_side _ _ _ _)).trans (Dev.stain_touched _ _ _ _)).trans
    ((Dev.noteDelay_touched _ _).trans (Dev.lineMet_touched _ _ _ _ _ _))

theorem Dev.spRecordEcc_touched (d : Dev) (c mem kind word e idx op ecc : Nat) : Dev.Touched d (d.spRecordEcc c mem kind word e idx op ecc) := by
  simp only [Dev.spRecordEcc]
  refine .trans (.trans ?_ (Dev.file_touched _ _)) (.put _ _ (touchKey_sp (by omega)))
  exact .ite _ (fun _ => .cnt d _ (touchKey_sp (by omega))) fun _ => .refl d

theorem Dev.spMet_touched (d : Dev) (s : Iss) (e : Nat) (ws : List (Nat × Nat × Nat)) : Dev.Touched d (d.spMet s e ws) :=
  .foldl _ _ (fun d _ => d.spRecordEcc_touched _ _ _ _ _ _ _ _) d

theorem Dev.spRecords_touched (d : Dev) (c mem e idx op : Nat) (ws : List Nat) : Dev.Touched d (d.spRecords c mem e idx op ws) :=
  .foldl _ _ (fun d _ => d.spRecordEcc_touched _ _ _ _ _ _ _ _) d

theorem Dev.spCorrected_touched (d : Dev) (c mem word : Nat) : Dev.Touched d (d.spCorrected c mem word) := by
  refine ⟨?_, d.spCorrected_side c mem word⟩
  unfold Dev.spCorrected
  extract_lets k key t
  have h : Dev.ObjsBut touchKey d t := .trans (b := d.setCore c _) (.of_objs rfl) (.put _ _ (touchKey_sp (by omega)))
  split
  · exact (h.trans (.of_objs rfl)).trans (Dev.spRecordEcc_touched _ _ _ _ _ _ _ _ _).obj
  · exact h

theorem Dev.readLines_touched (d : Dev) (s : Iss) (ls : List Loc) : Dev.Touched d (d.readLines s ls).2.2 := by
  unfold Dev.readLines
  dsimp only
  refine .trans ?_ (Dev.meter_touched _ _ _ _)
  refine Dev.Touched.foldl_of (fun a : Bool × Dev => a.2) _ _ (fun x y => ?_) (false, d)
  exact x.2.readLine_touched s y

theorem Dev.readRun_touched (d : Dev) (s : Iss) (e : Nat) (ls : List Loc) : Dev.Touched d (d.readRun s e ls).2.2 :=
  ((d.readLines_touched s ls).trans (Dev.spMet_touched _ _ _ _)).trans (.foldl _ _ (fun d _ => d.spCorrected_touched _ _ _) _)

theorem Dev.readWin_touched (d : Dev) (s : Iss) (w : Who) (a n : Nat) : Dev.Touched d (d.readWin s w a n).2 := by
  unfold Dev.readWin
  split
  · exact .refl d
  · split
    · exact .refl d
    · exact d.readRun_touched _ _ _

theorem Dev.writeRun_touched (d : Dev) (s : Iss) (e : Nat) (bs : List (Loc × Byte)) : Dev.Touched d (d.writeRun s e bs).2 := by
  simp only [Dev.writeRun]
  refine .trans ?_ (Dev.meter_touched _ _ _ _)
  refine Dev.Touched.foldl_of (fun a : Bool × Dev => a.2) _ _ (fun x y => ?_) (false, d)
  cases y with
  | line n g => exact .of_tallied (x.2.writeLine_tallied s n g) (x.2.writeLine_side s n g)
  | acc v g => exact .of_objs rfl (x.2.writeAcc_side v g)
  | sp c m g =>
    have hc : Dev.Touched x.2 (x.2.setCore c ((x.2.core c).write m g).1) := ⟨.of_objs rfl, Dev.Side.setCore (Core.write_frame _ _ _)⟩
    exact hc.trans (Dev.spRecords_touched _ _ _ _ _ _ _)
  | far => exact .refl _

theorem Dev.writeWin_touched (d : Dev) (s : Iss) (w : Who) (a : Nat) (bs : List Nat) : Dev.Touched d (d.writeWin s w a bs).2 :=
  .of_tallied (d.writeWin_tallied s w a bs) (d.writeWin_side s w a bs)

theorem Dev.upRead_touched (d : Dev) (e : Eng) (index op : Nat) (ls : List Loc) : Dev.Touched d (d.upRead e index op ls).2 :=
  d.readRun_touched _ _ _

theorem Dev.upWrite_touched (d : Dev) (e : Eng) (index op : Nat) (bs : List (Nat × Byte)) : Dev.Touched d (d.upWrite e index op bs).2 :=
  d.writeRun_touched _ _ _

theorem Dev.post_touched (d : Dev) (t : Nat) (m : Msg) : Dev.Touched d (d.post t m).1 := by
  refine ⟨?_, d.post_side t m⟩
  simp only [Dev.post]
  split
  · exact (d.send_objs m false).mono fun _ h => .inl (.record h)
  · exact .of_objs rfl

/-- A slot that is read. -/
theorem Dev.slot_touched (d : Dev) (e : Eng) (i : Nat) : Dev.Touched d (d.slot e i).2 := by
  unfold Dev.slot
  split
  · exact .refl d
  split
  · exact .refl d
  · exact d.readWin_touched _ _ _ _

theorem Dev.takeSlots_touched (d : Dev) (e : Eng) (n : Nat) : Dev.Touched d (d.takeSlots e n) :=
  .foldl _ _ (fun d _ => d.slot_touched e _) d

end Sys2Proof.Machine
end

section
/-! Proofs: the passes of a bucket and the rounds of a re-pass keep what their operation is (R383 to R392): they move its status, its progress and what it
owes, the channel's counters, memory and messages. -/
namespace Sys2Proof.Machine

/-- An operation without what its passes write: status, exponents, debts, flags, the exponents gathered, and whether a message was lost. -/
def RingOp.work (o : RingOp) : RingOp :=
  { o with fl := { o.fl with status := 0 }, bk := { o.bk with exps := [], owed := [], count := 0, nf := false },
           maxE := [], lost := false }

/-- An operation without all that messages move of it: its progress too. -/
def RingOp.task (o : RingOp) : RingOp :=
  { o.work with bk := { o.work.bk with held := false }, scaleN := 0, rsN := 0, agN := 0, maxE := [], round := 0, stage := 0, lists := [],
                kept := [], nfs := [], progR := [], progA := [] }

def Chan.work (c : Chan) : Chan := { c with op := c.op.map RingOp.work }
def Chan.task (c : Chan) : Chan := { c with op := c.op.map RingOp.task, buckets := [] }
/-- A channel with an operation in flight. -/
def Chan.withOp (c : Chan) (o : RingOp) : Chan := { c with op := some o }
/-- A channel without what the messages held for it move. -/
def Chan.held (c : Chan) : Chan := { c.task with rx := [] }

theorem RingOp.task_of_work {o x : RingOp} (h : x.work = o.work) : x.task = o.task :=
  congrArg (fun y : RingOp => { y with bk := { y.bk with held := false }, scaleN := 0, rsN := 0, agN := 0, maxE := [], round := 0, stage := 0,
                                       lists := [], kept := [], nfs := [], progR := [], progA := [] }) h

theorem Chan.task_of_work {c x : Chan} (h : x.work = c.work) : x.task = c.task := by
  have key (y : Chan) : y.task = { y.work with op := y.work.op.map RingOp.task, buckets := [] } := by
    unfold Chan.task Chan.work
    cases y.op <;> rfl
  rw [key x, h, ← key c]

theorem RingOp.work_worse (o : RingOp) (st : Nat) : (o.worse st).work = o.work := rfl

theorem Dev.chan_setChan_self (d : Dev) (ch : Nat) (x : Chan) : (d.setChan ch x).chan ch = x := Map.get_set_self _ _ _ _
theorem Dev.chan_setOp_self (d : Dev) (ch : Nat) (o : RingOp) : (d.setOp ch o).chan ch = { d.chan ch with op := some o } := d.chan_setChan_self _ _

/-- Objects that a pass of channel `ch` may move. -/
def passKey (ch k : Nat) : Prop := touchKey k ∨ k = (K.CH_NF_BLOCKS ch).key ∨ k = (K.CH_OWED ch).key ∨ k = (K.CH_REPASSED ch).key

/-- `b` is `a` after passes of channel `ch`, whose record is `c` but for what `π` forgets. -/
structure Dev.Ringed (π : Chan → Chan) (ch : Nat) (c : Chan) (a b : Dev) : Prop where
  chan : π (b.chan ch) = π c
  obj : Dev.ObjsBut (passKey ch) a b
  calm : Dev.Calm a b

/-- The same, with the channel's record as it was in `a`. -/
def Dev.Passes (π : Chan → Chan) (ch : Nat) (a b : Dev) : Prop := Dev.Ringed π ch (a.chan ch) a b

theorem Dev.Touched.passes {a b : Dev} (h : Dev.Touched a b) (π : Chan → Chan) (ch : Nat) : Dev.Passes π ch a b :=
  ⟨by rw [h.side.chan], h.obj.mono fun _ => .inl, .of_side h.side⟩

theorem Dev.setChan_calm (d : Dev) (ch : Nat) (x : Chan) : Dev.Calm d (d.setChan ch x) := ⟨fun _ => rfl, fun _ _ => rfl, rfl, rfl⟩

namespace Dev.Ringed

variable {π : Chan → Chan} {ch : Nat} {c : Chan} {a b t : Dev}

theorem next (h : Dev.Ringed π ch c a b) (g : Dev.Passes π ch b t) : Dev.Ringed π ch c a t :=
  ⟨g.chan.trans h.chan, h.obj.trans g.obj, h.calm.trans g.calm⟩
theorem task (h : Dev.Ringed Chan.work ch c a b) : Dev.Ringed Chan.task ch c a b := ⟨Chan.task_of_work h.chan, h.obj, h.calm⟩
theorem setChan (h : Dev.Ringed π ch c a b) (x : Chan) : Dev.Ringed π ch x a (b.setChan ch x) :=
  ⟨by rw [Dev.chan_setChan_self], h.obj.trans (.of_objs rfl), h.calm.trans (b.setChan_calm ch x)⟩
theorem like (h : Dev.Ringed π ch c a b) {x : Chan} (g : π c = π x) : Dev.Ringed π ch x a b := ⟨h.chan.trans g, h.obj, h.calm⟩

/-- Replacing the operation by one of the same work. -/
theorem setWork (h : Dev.Ringed Chan.work ch c a b) {o x : RingOp} (ho : c.op = some o) (hx : x.work = o.work) :
    Dev.Ringed Chan.work ch c a (b.setOp ch x) := by
  refine (h.setChan _).like ?_
  have key : Chan.work { b.chan ch with op := some x } = { (b.chan ch).work with op := some x.work } := rfl
  rw [key, h.chan, hx]
  unfold Chan.work
  rw [ho]
  rfl

/-- Replacing the operation by another. -/
theorem setOp (h : Dev.Ringed Chan.work ch c a b) (x : RingOp) : Dev.Ringed Chan.work ch (c.withOp x) a (b.setOp ch x) := by
  refine (h.setChan _).like ?_
  have key (y : Chan) : (y.withOp x).work = y.work.withOp x.work := rfl
  show ((b.chan ch).withOp x).work = _
  rw [key, key, h.chan]

/-- Replacing the operation by one of the same task. -/
theorem setTask (h : Dev.Ringed Chan.task ch c a b) {o x : RingOp} (ho : c.op = some o) (hx : x.task = o.task) :
    Dev.Ringed Chan.task ch c a (b.setOp ch x) := by
  refine (h.setChan _).like ?_
  have key : Chan.task { b.chan ch with op := some x } = { (b.chan ch).task with op := some x.task } := rfl
  rw [key, h.chan, hx]
  unfold Chan.task
  rw [ho]
  rfl

end Dev.Ringed

namespace Dev.Passes

variable {π : Chan → Chan} {ch : Nat} {a b t : Dev}

theorem refl (π : Chan → Chan) (ch : Nat) (a : Dev) : Dev.Passes π ch a a := ⟨rfl, .refl a, .refl a⟩
theorem trans (h : Dev.Passes π ch a b) (g : Dev.Passes π ch b t) : Dev.Passes π ch a t := Dev.Ringed.next h g
theorem task (h : Dev.Passes Chan.work ch a b) : Dev.Passes Chan.task ch a b := Dev.Ringed.task h
theorem put (d : Dev) {o : Obj} (v : Nat) (h : passKey ch o.key) : Dev.Passes π ch d (d.put o v) := ⟨rfl, .put d v h, .of_side (d.put_side o v)⟩
theorem cnt (d : Dev) {o : Obj} (n : Nat) (h : passKey ch o.key) : Dev.Passes π ch d (d.cnt o n) := put d _ h
theorem ite (q : Prop) [Decidable q] (h : q → Dev.Passes π ch a b) (h' : ¬q → Dev.Passes π ch a t) :
    Dev.Passes π ch a (if q then b else t) := by
  split
  · exact h ‹_›
  · exact h' ‹_›
theorem foldl {β : Type} (f : Dev → β → Dev) (l : List β) (h : ∀ d x, Dev.Passes π ch d (f d x)) (d : Dev) : Dev.Passes π ch d (l.foldl f d) :=
  List.foldlRecOn (motive := fun y => Dev.Passes π ch d y) l f (refl π ch d) fun b hb x _ => hb.trans (h b x)
theorem setWork {o x : RingOp} (ho : (a.chan ch).op = some o) (hx : x.work = o.work) : Dev.Passes Chan.work ch a (a.setOp ch x) :=
  Dev.Ringed.setWork (refl _ ch a) ho hx
theorem setTask {o x : RingOp} (ho : (a.chan ch).op = some o) (hx : x.task = o.task) : Dev.Passes Chan.task ch a (a.setOp ch x) :=
  Dev.Ringed.setTask (refl _ ch a) ho hx
theorem setChan (a : Dev) {x : Chan} (hx : π x = π (a.chan ch)) : Dev.Passes π ch a (a.setChan ch x) :=
  Dev.Ringed.like (Dev.Ringed.setChan (refl π ch a) x) hx

end Dev.Passes

/-! ## Messages -/

theorem Dev.ringSend_touched (d : Dev) (ch : Nat) (h : RingHdr) (items : List Nat) : Dev.Touched d (d.ringSend ch h items).1 := by
  unfold Dev.ringSend
  extract_lets p
  have hs : Dev.Touched d (if (h.kind = 2 || h.kind = 5) = true then d.stain 6 (0x2000 + d.get (K.CH_RDE ch)) p else (0, 0, d)).2.2 := by
    split
    · exact d.stain_touched _ _ _
    · exact .refl d
  generalize (if (h.kind = 2 || h.kind = 5) = true then d.stain 6 (0x2000 + d.get (K.CH_RDE ch)) p else (0, 0, d)) = r at hs ⊢
  obtain ⟨n, t, x⟩ := r
  dsimp only at hs ⊢
  refine hs.trans (.trans (b := { x with msgId := x.msgId + 1 }) (.of_objs rfl ?_) (Dev.post_touched _ _ _))
  exact .of_eq rfl rfl rfl rfl rfl rfl rfl rfl rfl

theorem Dev.opSend_passes (d : Dev) (ch : Nat) (ms : List (RingHdr × List Nat)) : Dev.Passes Chan.work ch d (d.opSend ch ms) := by
  unfold Dev.opSend
  refine .foldl _ _ (fun d m => ?_) d
  have h := (d.ringSend_touched ch m.1 m.2).passes Chan.work ch
  generalize d.ringSend ch m.1 m.2 = r at h ⊢
  obtain ⟨x, ok⟩ := r
  dsimp only at h ⊢
  split
  next o ho => exact h.trans (.setWork ho rfl)
  next => exact h

/-! ## The passes of a bucket -/

theorem Dev.opBad_passes (d : Dev) (ch : Nat) (bad : Bool) : Dev.Passes Chan.work ch d (d.opBad ch bad) := by
  unfold Dev.opBad
  split
  next o ho => exact .setWork ho rfl
  next => exact .refl _ ch d

theorem Dev.ownRec_passes (d : Dev) (ch blk : Nat) (r : Rec) : Dev.Passes Chan.work ch d (d.ownRec ch blk r) := by
  unfold Dev.ownRec
  split
  · exact .refl _ ch d
  next o ho =>
    extract_lets bk0 nf owe bk o1 d1 d2
    have h1 : Dev.Passes Chan.work ch d d1 := .setWork ho (by
      unfold o1
      split <;> rfl)
    have h2 : Dev.Passes Chan.work ch d d2 := h1.trans (.ite _ (fun _ => .cnt _ _ (.inr (.inl rfl))) fun _ => .refl _ ch d1)
    exact h2.trans (.ite _ (fun _ => .put _ _ (.inr (.inr (.inl rfl)))) fun _ => .refl _ ch d2)

theorem Dev.touchBlocks_touched (d : Dev) (e : Eng) (f : InFlight) (b : Bucket) (blks : List Nat) : Dev.Touched d (d.touchBlocks e f b blks) := by
  unfold Dev.touchBlocks
  exact .ite _ (fun _ => .refl d) fun _ => d.upRead_touched _ _ _ _

theorem Dev.putRec_touched (d : Dev) (e : Eng) (f : InFlight) (b : Bucket) (blk : Nat) (r : Rec) : Dev.Touched d (d.putRec e f b blk r).2 :=
  d.upWrite_touched _ _ _ _

theorem Dev.rsBlocks_passes (d : Dev) (ch : Nat) (e : Eng) (p first incl : Nat) (rs : List Rec) :
    Dev.Passes Chan.work ch d (d.rsBlocks ch e p first incl rs) := by
  unfold Dev.rsBlocks
  generalize d.ringAt ch = r
  obtain ⟨dd, i⟩ := r
  dsimp -zeta only
  split
  · exact .refl _ ch d
  next o ho =>
    extract_lets blks out bad d1 exps inc bk o1 o2 d2 bk2 d3 d4
    have h1 : Dev.Passes Chan.work ch d d1 := (d.touchBlocks_touched _ _ _ _).passes _ ch
    have hw : o2.work = o.work := by
      unfold o2
      split <;> rfl
    have h2 : Dev.Passes Chan.work ch d d2 := Dev.Ringed.setWork h1 ho hw
    have h3 : Dev.Passes Chan.work ch d d3 := Dev.Ringed.setWork h2 ho hw
    have h4 : Dev.Passes Chan.work ch d d4 := by
      refine h3.trans (.foldl _ _ (fun x y => ?_) d3)
      have hp := (x.putRec_touched e o2.fl o2.bk y.1 y.2).passes Chan.work ch
      exact (hp.trans (Dev.ownRec_passes _ _ _ _)).trans (Dev.opBad_passes _ _ _)
    exact .ite _ (fun _ => .ite _ (fun _ => h4) fun _ => h4.trans (d4.opSend_passes _ _)) fun _ => h2.trans (d2.opSend_passes _ _)

theorem Dev.rsStart_passes (d : Dev) (ch : Nat) (e : Eng) (maxE : Map Nat) : Dev.Passes Chan.work ch d (d.rsStart ch e maxE) := by
  unfold Dev.rsStart
  generalize d.ringAt ch = r
  obtain ⟨dd, i⟩ := r
  dsimp only
  split
  · exact .refl _ ch d
  · exact .foldl _ _ (fun x _ => x.rsBlocks_passes _ _ _ _ _ _) d

theorem Dev.bucketStart_passes (d : Dev) (ch : Nat) (e : Eng) : Dev.Passes Chan.work ch d (d.bucketStart ch e) := by
  unfold Dev.bucketStart
  generalize d.ringAt ch = r
  obtain ⟨dd, i⟩ := r
  dsimp only
  split
  · exact .refl _ ch d
  · refine .ite _ (fun _ => ?_) fun _ => ?_
    · exact ((d.touchBlocks_touched _ _ _ _).passes _ ch).trans (Dev.rsStart_passes _ _ _ _)
    · exact ((d.touchBlocks_touched _ _ _ _).passes _ ch).trans (Dev.opSend_passes _ _ _)

theorem Dev.screenRecs_touched (d : Dev) (ch : Nat) (e : Eng) (o : RingOp) (h : RingHdr) (rs : List Rec) :
    Dev.Touched d (d.screenRecs ch e o h rs).1 := by
  unfold Dev.screenRecs
  exact .ite _ (fun _ => d.file_touched _) fun _ => .refl d

/-- An operation that a message of its bucket has come for: it is counted by its kind, and HELD is passed on. -/
def RingOp.took (o : RingOp) (h : RingHdr) : RingOp :=
  { o with bk := { o.bk with held := o.bk.held || h.held }, scaleN := o.scaleN + (if h.kind = 1 then max 1 h.count else 0),
           rsN := o.rsN + (if h.kind = 2 then max 1 h.count else 0), agN := o.agN + (if h.kind = 3 then max 1 h.count else 0) }

theorem RingOp.task_took (o : RingOp) (h : RingHdr) : (o.took h).task = o.task := rfl

/-- An operation that passes HELD on. -/
def RingOp.hold (o : RingOp) (h : RingHdr) : RingOp := { o with bk := { o.bk with held := o.bk.held || h.held } }

theorem RingOp.hold_eq (o : RingOp) (h : RingHdr) : (if h.held then { o with bk := { o.bk with held := true } } else o) = o.hold h := by
  unfold RingOp.hold
  cases h.held <;> simp

/-- Replacing an operation, whatever it was. -/
theorem Dev.Ringed.setLike {ch : Nat} {c : Chan} {a b : Dev} {q x y : RingOp} (h : Dev.Ringed Chan.work ch (c.withOp q) a b)
    (hx : x.work = y.work) : Dev.Ringed Chan.work ch (c.withOp y) a (b.setOp ch x) :=
  (h.setOp x).like (congrArg c.withOp hx)

theorem Dev.bucketMsg_took {d : Dev} {ch : Nat} {o : RingOp} (e : Eng) (h : RingHdr) (items : List Nat) (ho : (d.chan ch).op = some o) :
    Dev.Ringed Chan.work ch ((d.chan ch).withOp (o.took h)) d (d.bucketMsg ch e h items) := by
  unfold Dev.bucketMsg
  generalize d.ringAt ch = r
  obtain ⟨dd, i⟩ := r
  dsimp -zeta only
  rw [ho]
  dsimp -zeta only
  rw [o.hold_eq h]
  extract_lets o0 d0 units out d1 o1 mx d2 x1 x2
  have h0 : Dev.Ringed Chan.work ch ((d.chan ch).withOp o0) d d0 := (Dev.Passes.refl Chan.work ch d).setOp _
  split
  next hk =>
    have h1 : Dev.Ringed Chan.work ch ((d.chan ch).withOp o0) d d1 := h0.next ((d0.touchBlocks_touched _ _ _ _).passes _ ch)
    have hw : o1.work = (o.took h).work := by
      simp [o1, o0, units, RingOp.took, RingOp.hold, RingOp.work, hk]
    have h2 : Dev.Ringed Chan.work ch ((d.chan ch).withOp (o.took h)) d d2 := h1.setLike hw
    have h3 : Dev.Ringed Chan.work ch ((d.chan ch).withOp (o.took h)) d (d1.setOp ch o1) := h1.setLike hw
    clear_value d2
    by_cases hi : posMod dd (h.piece + 1) = i
    · rw [if_pos hi]
      split
      · exact h2.next (d2.rsStart_passes _ _ _)
      · exact h2
    · rw [if_neg hi]
      exact h3.next (Dev.opSend_passes _ _ _)
  next hk =>
    have h1 := h0.next ((d0.screenRecs_touched ch e o0 h (recsOf h.count items)).passes _ ch)
    generalize d0.screenRecs ch e o0 h (recsOf h.count items) = r at h1 ⊢
    obtain ⟨x, rs⟩ := r
    dsimp only at h1 ⊢
    refine Dev.Ringed.next (h1.setLike ?_) (Dev.rsBlocks_passes _ _ _ _ _ _ _)
    simp [o0, units, RingOp.took, RingOp.hold, RingOp.work, hk]
  next hk =>
    have h1 := h0.next ((d0.screenRecs_touched ch e o0 h (recsOf h.count items)).passes _ ch)
    have h2 : Dev.Ringed Chan.work ch ((d.chan ch).withOp (o.took h)) d x1 :=
      h1.setLike (by simp [o0, units, RingOp.took, RingOp.hold, RingOp.work, hk])
    have h3 : Dev.Ringed Chan.work ch ((d.chan ch).withOp (o.took h)) d x2 := by
      refine h2.next (.foldl _ _ (fun y r => ?_) x1)
      have hp := (y.putRec_touched e o0.fl o0.bk (h.first + r.2) r.1.1).passes Chan.work ch
      generalize y.putRec e o0.fl o0.bk (h.first + r.2) r.1.1 = z at hp ⊢
      obtain ⟨bad, t⟩ := z
      dsimp -zeta only at hp ⊢
      split
      next o2 ho2 =>
        extract_lets o3 o4
        have hw : o4.work = o2.work := by
          unfold o4 o3
          split <;> split <;> rfl
        exact .ite _ (fun _ => (hp.trans (.setWork ho2 hw)).trans (.cnt _ _ (.inr (.inl rfl)))) fun _ => hp.trans (.setWork ho2 hw)
      next => exact hp
    split
    · exact h3
    · exact h3.next (x2.opSend_passes _ _)
  next h1 h2 h3 =>
    refine h0.like (congrArg (d.chan ch).withOp ?_)
    simp only [o0, RingOp.took, RingOp.hold, RingOp.work, if_neg h1, if_neg h2, if_neg h3, Nat.add_zero]

/-! ## Re-passes -/

theorem Dev.listStart_passes (d : Dev) (ch : Nat) : Dev.Passes Chan.task ch d (d.listStart ch) := by
  unfold Dev.listStart
  generalize d.ringAt ch = r
  obtain ⟨dd, i⟩ := r
  dsimp -zeta only
  extract_lets c
  split
  · exact .refl _ ch d
  next o ho =>
    extract_lets d1
    have h1 : Dev.Passes Chan.task ch d d1 := .setTask ho rfl
    exact .ite _ (fun _ => h1) fun _ => h1.trans (d1.opSend_passes _ _).task

theorem Chan.task_setBucket (c : Chan) (b : Bucket) : (c.setBucket b).task = c.task := rfl

theorem Dev.repassBlocks_passes (d : Dev) (ch : Nat) (e : Eng) (p : Nat) (es : List (Nat × Nat)) (rs : List Rec) :
    Dev.Passes Chan.task ch d (d.repassBlocks ch e p es rs) := by
  unfold Dev.repassBlocks
  generalize d.ringAt ch = r
  obtain ⟨dd, i⟩ := r
  dsimp -zeta only
  extract_lets c
  split
  · exact .refl _ ch d
  next o ho =>
    extract_lets d1 d2 d3 d4
    have h1 : Dev.Passes Chan.task ch d d1 := by
      refine .foldl _ _ (fun x y => ?_) d
      split
      · exact (x.touchBlocks_touched _ _ _ _).passes _ ch
      · exact .refl _ ch x
    have h2 : Dev.Passes Chan.task ch d d2 := by
      refine h1.trans (.foldl _ _ (fun x y => ?_) d1)
      dsimp only
      split
      · exact .setChan x (Chan.task_setBucket _ _)
      · exact .refl _ ch x
    have h3 : Dev.Passes Chan.task ch d d3 := h2.trans (d2.opBad_passes ch _).task
    have h4 : Dev.Passes Chan.task ch d d4 := by
      refine h3.trans (.foldl _ _ (fun x y => ?_) d3)
      dsimp only
      split
      · exact .refl _ ch x
      next b _ =>
        have hp := (x.putRec_touched e o.fl b y.1.2 y.2).passes Chan.task ch
        generalize x.putRec e o.fl b y.1.2 y.2 = z at hp ⊢
        obtain ⟨bad, t⟩ := z
        dsimp only at hp ⊢
        have ht := hp.trans (t.opBad_passes ch bad).task
        split
        next o2 ho2 => exact (ht.trans (.setChan _ (Chan.task_setBucket _ _))).trans (.setTask ho2 rfl)
        next => exact ht.trans (.setChan _ (Chan.task_setBucket _ _))
    refine .ite _ (fun _ => .ite _ (fun _ => h4) fun _ => ?_) fun _ => ?_
    · exact h4.trans (d4.opSend_passes _ _).task
    · exact h3.trans (d3.opSend_passes _ _).task

theorem Dev.listDone_passes (d : Dev) (ch : Nat) (e : Eng) : Dev.Passes Chan.task ch d (d.listDone ch e) := by
  unfold Dev.listDone
  generalize d.ringAt ch = r
  obtain ⟨dd, i⟩ := r
  dsimp -zeta only
  extract_lets c expOf clear p
  split
  · exact .refl _ ch d
  next o ho =>
    refine .ite _ (fun _ => .refl _ ch d) fun _ => ?_
    extract_lets all first kept dead o1 d1 d2 mine
    have h1 : Dev.Passes Chan.task ch d d1 := .setChan d (by
      have : Chan.task { clear with op := some o1 } = { c.task with op := some o.task } := rfl
      rw [this]
      show ({ (d.chan ch).task with op := some o.task } : Chan) = (d.chan ch).task
      unfold Chan.task
      rw [ho]
      rfl)
    have h2 : Dev.Passes Chan.task ch d d2 := h1.trans (.cnt d1 _ (.inr (.inr (.inr rfl))))
    exact .ite _ (fun _ => h2) fun _ => h2.trans (.foldl _ _ (fun x _ => x.repassBlocks_passes _ _ _ _ _) d2)

theorem Dev.roundDone_passes (d : Dev) (ch : Nat) : Dev.Passes Chan.task ch d (d.roundDone ch) := by
  unfold Dev.roundDone
  generalize d.ringAt ch = r
  obtain ⟨dd, i⟩ := r
  dsimp -zeta only
  extract_lets c
  split
  · exact .refl _ ch d
  next o ho =>
    extract_lets ok
    refine .ite _ (fun _ => ?_) fun _ => .refl _ ch d
    exact (Dev.Passes.setTask (x := { o with round := o.round + 1 }) ho rfl).trans (Dev.listStart_passes _ _)

theorem Dev.repassMsg_passes (d : Dev) (ch : Nat) (e : Eng) (h : RingHdr) (items : List Nat) :
    Dev.Passes Chan.task ch d (d.repassMsg ch e h items) := by
  unfold Dev.repassMsg
  generalize d.ringAt ch = r
  obtain ⟨dd, i⟩ := r
  dsimp -zeta only
  extract_lets c
  split
  · exact .refl _ ch d
  next o ho =>
    have hscreen (rs : List Rec) := (d.screenRecs_touched ch e o h rs).passes Chan.task ch
    split
    · extract_lets old ls d1
      have h1 : Dev.Passes Chan.task ch d d1 := .setTask ho rfl
      exact .ite _ (fun _ => h1) fun _ => h1.trans (d1.opSend_passes _ _).task
    · extract_lets es
      exact Dev.Passes.trans
        (Dev.Ringed.setTask (x := { o with progR := Map.set o.progR 0 h.piece (Map.get o.progR 0 h.piece + h.count) }) (hscreen _) ho rfl)
        (Dev.repassBlocks_passes _ _ _ _ _ _)
    · extract_lets es d1 d2
      have h1 : Dev.Passes Chan.task ch d d1 := Dev.Ringed.setTask (hscreen _) ho rfl
      have h2 : Dev.Passes Chan.task ch d d2 := by
        refine h1.trans (.foldl _ _ (fun x y => ?_) d1)
        dsimp only
        split
        next b _ =>
          have hp := ((x.putRec_touched e o.fl b y.1.2 y.2.1).passes Chan.task ch).trans
            (Dev.opBad_passes _ ch (x.putRec e o.fl b y.1.2 y.2.1).1).task
          split
          next o2 ho2 => exact hp.trans (.setTask ho2 rfl)
          next => exact hp
        next => exact .refl _ ch x
      exact .ite _ (fun _ => h2) fun _ => h2.trans (d2.opSend_passes _ _).task

/-! ## Messages held for an operation (R376) -/

/-- `b` is `a` after messages held on channel `ch` were taken up. -/
structure Dev.Loops (ch : Nat) (a b : Dev) : Prop where
  chan : (b.chan ch).held = (a.chan ch).held
  obj : Dev.ObjsBut (fun k => passKey ch k ∨ 0x518000 ≤ k ∧ k % 256 = 2) a b
  calm : Dev.Calm a b

namespace Dev.Loops

variable {ch : Nat} {a b t : Dev}

theorem refl (ch : Nat) (a : Dev) : Dev.Loops ch a a := ⟨rfl, .refl a, .refl a⟩
theorem trans (h : Dev.Loops ch a b) (g : Dev.Loops ch b t) : Dev.Loops ch a t :=
  ⟨g.chan.trans h.chan, h.obj.trans g.obj, h.calm.trans g.calm⟩
theorem of_passes (h : Dev.Passes Chan.task ch a b) : Dev.Loops ch a b :=
  ⟨congrArg (fun c : Chan => { c with rx := [] }) h.chan, h.obj.mono fun _ => .inl, h.calm⟩

end Dev.Loops

/-- The device once a channel's message is taken out and counted. -/
def Dev.msgTaken (d : Dev) (ch : Nat) (m : Msg) : Dev :=
  let d := d.setChan ch { d.chan ch with rx := (d.chan ch).rx.erase m }
  d.cnt (K.RD_MESSAGES (d.get (K.CH_RDE ch))) 1

theorem Dev.msgTaken_loops (d : Dev) (ch : Nat) (m : Msg) : Dev.Loops ch d (d.msgTaken ch m) := by
  unfold Dev.msgTaken
  extract_lets c d1
  have h1 : Dev.Loops ch d d1 := ⟨by rw [Dev.chan_setChan_self]; rfl, .of_objs rfl, d.setChan_calm _ _⟩
  exact h1.trans ⟨rfl, .put _ _ (.inr ⟨by simp only [K.RD_MESSAGES]; omega, by simp only [K.RD_MESSAGES]; omega⟩), .of_side (Dev.cnt_side _ _ _)⟩

theorem Dev.bucketMsg_passes (d : Dev) (ch : Nat) (e : Eng) (h : RingHdr) (items : List Nat) :
    Dev.Passes Chan.task ch d (d.bucketMsg ch e h items) := by
  cases ho : (d.chan ch).op with
  | none =>
    unfold Dev.bucketMsg
    dsimp only
    rw [ho]
    exact .refl _ ch d
  | some o =>
    refine (Dev.bucketMsg_took e h items ho).task.like ?_
    unfold Chan.task Chan.withOp
    rw [ho]
    rfl

/-- What a message taken out leads to. -/
def Dev.msgDone (d : Dev) (ch : Nat) (o : RingOp) (e : Eng) (m : Msg) : Dev :=
  if o.repass then (((d.repassMsg ch e (ringHdr m.payload) (m.payload.drop 16)).listDone ch e).roundDone ch).listDone ch e
  else d.bucketMsg ch e (ringHdr m.payload) (m.payload.drop 16)

theorem Dev.msgDone_passes (d : Dev) (ch : Nat) (o : RingOp) (e : Eng) (m : Msg) : Dev.Passes Chan.task ch d (d.msgDone ch o e m) := by
  unfold Dev.msgDone
  refine .ite _ (fun _ => ?_) fun _ => d.bucketMsg_passes _ _ _ _
  exact (((d.repassMsg_passes _ _ _ _).trans (Dev.listDone_passes _ _ _)).trans (Dev.roundDone_passes _ _)).trans (Dev.listDone_passes _ _ _)

/-- An operation waits for its decision, or has ended: none of its messages is taken up. -/
def RingOp.waits (o : RingOp) : Bool := (o.fate.isNone && !o.repass) || o.ended

theorem Dev.ringOnce_idle {d : Dev} {ch : Nat} (h : (d.chan ch).op = none ∨ ∃ o, (d.chan ch).op = some o ∧ (o.waits = true ∨ (d.chan ch).nextMsg o = none)) :
    d.ringOnce ch = d := by
  unfold Dev.ringOnce
  dsimp only
  rcases h with h | ⟨o, h, hw | hn⟩
  · rw [h]
  · rw [h]
    exact if_pos hw
  · rw [h]
    dsimp only
    rw [hn]
    split <;> rfl

theorem Dev.ringOnce_takes {d : Dev} {ch : Nat} {o : RingOp} {m : Msg} (ho : (d.chan ch).op = some o) (hw : o.waits = false)
    (hm : (d.chan ch).nextMsg o = some m) : d.ringOnce ch = (d.msgTaken ch m).msgDone ch o (d.chanEng ch) m := by
  unfold Dev.ringOnce
  dsimp only
  rw [ho]
  dsimp only
  rw [if_neg (by simpa [RingOp.waits] using hw), hm]
  dsimp only
  rw [← ho]
  rfl

theorem Dev.ringOnce_loops (d : Dev) (ch : Nat) : Dev.Loops ch d (d.ringOnce ch) := by
  cases ho : (d.chan ch).op with
  | none => rw [Dev.ringOnce_idle (.inl ho)]; exact .refl ch d
  | some o =>
    cases hw : o.waits with
    | true => rw [Dev.ringOnce_idle (.inr ⟨o, ho, .inl hw⟩)]; exact .refl ch d
    | false =>
      cases hm : (d.chan ch).nextMsg o with
      | none => rw [Dev.ringOnce_idle (.inr ⟨o, ho, .inr hm⟩)]; exact .refl ch d
      | some m =>
        rw [Dev.ringOnce_takes ho hw hm]
        exact (d.msgTaken_loops ch m).trans (.of_passes (Dev.msgDone_passes _ _ _ _ _))

theorem Dev.ringLoop_loops (d : Dev) (ch : Nat) : Dev.Loops ch d (d.ringLoop ch) :=
  List.foldlRecOn (motive := fun y => Dev.Loops ch d y) _ _ (.refl ch d) fun _ hb _ _ => hb.trans (Dev.ringOnce_loops _ ch)

end Sys2Proof.Machine
end

section
/-! Proofs: contributions are decided (R394 to R398); ring messages are discarded, held, taken up (R374 to R376, R399). -/
namespace Sys2Proof.Machine

/-! ## The ledger (R400, R401) -/

theorem Dev.setPart_passes (d : Dev) (π : Chan → Chan) (ch p : Nat) {x : Part} (h : x.up = (d.part p).up) (h' : x.rd = (d.part p).rd) :
    Dev.Passes π ch d (d.setPart p x) := ⟨rfl, .of_objs rfl, d.setPart_calm p x h h'⟩

theorem Dev.ledgerPut_passes (d : Dev) (π : Chan → Chan) (ch : Nat) (e : Eng) (idx word : Nat) : Dev.Passes π ch d (d.ledgerPut e idx word) := by
  unfold Dev.ledgerPut
  refine .ite _ (fun _ => .refl π ch d) fun _ => ?_
  extract_lets a q n d1 s
  have h1 : Dev.Passes π ch d d1 := d.setPart_passes π ch e.p rfl rfl
  exact (h1.trans ((d1.writeWin_touched _ _ _ _).passes π ch)).trans ((Dev.writeWin_touched _ _ _ _ _).passes π ch)

theorem Dev.ledgerFlag_passes (d : Dev) (π : Chan → Chan) (ch : Nat) (e : Eng) (idx bitNo : Nat) : Dev.Passes π ch d (d.ledgerFlag e idx bitNo) := by
  unfold Dev.ledgerFlag
  exact .ite _ (fun _ => d.ledgerPut_passes π ch e _ _) fun _ => d.setPart_passes π ch e.p rfl rfl

theorem Dev.carryWrite_passes (d : Dev) (π : Chan → Chan) (ch : Nat) (e : Eng) (b : Bucket) (alone : Bool) :
    Dev.Passes π ch d (d.carryWrite e b alone) := by
  unfold Dev.carryWrite
  extract_lets step inn out el body s
  exact ((d.writeWin_touched _ _ _ _).passes π ch).trans ((Dev.writeWin_touched _ _ _ _ _).passes π ch)

/-! ## A contribution that is decided -/

theorem Chan.op_of_held {c x : Chan} {o : RingOp} (h : x.held = c.held) (ho : c.op = some o) : ∃ o', x.op = some o' ∧ o'.task = o.task := by
  have hx : x.op.map RingOp.task = some o.task := by
    have := congrArg Chan.op h
    simpa [Chan.held, Chan.task, ho] using this
  obtain ⟨o', hop, ht⟩ := Option.map_eq_some_iff.mp hx
  exact ⟨o', hop, ht⟩

theorem Chan.late_of_held {c x : Chan} (h : x.held = c.held) : x.late = c.late := by
  have := congrArg Chan.late h
  exact this

/-- Of a channel's objects the reads and writes of memory move none but those that it does not use for its state. -/
theorem not_touchKey_chan {ch s : Nat} (hc : ch < 32) (hs : s < 256) (h : 8 ≤ s ∧ ¬(0x13 ≤ s ∧ s ≤ 0x15)) : ¬touchKey ((0x5100 + ch) * 256 + s) := by
  have hm : ((0x5100 + ch) * 256 + s) % 256 = s := by omega
  have hq : ((0x5100 + ch) * 256 + s) / 256 = 0x5100 + ch := by omega
  generalize hk : (0x5100 + ch) * 256 + s = k at hm hq
  exact not_touchKey (by simp only [tallyShape, recordKey]; omega) (by omega) (by omega)

/-- An object of the channel that messages taken up do not move. -/
theorem not_loopKey_chan {ch s : Nat} (hc : ch < 32) (hs : s < 256) (h : 8 ≤ s ∧ s ≠ 0x10 ∧ ¬(0x13 ≤ s ∧ s ≤ 0x15)) :
    ¬(passKey ch ((0x5100 + ch) * 256 + s) ∨ 0x518000 ≤ (0x5100 + ch) * 256 + s ∧ ((0x5100 + ch) * 256 + s) % 256 = 2) := by
  have ht := not_touchKey_chan (ch := ch) (s := s) hc hs (by omega)
  have hm : ((0x5100 + ch) * 256 + s) % 256 = s := by omega
  rintro ((hk | hk | hk | hk) | ⟨hk, -⟩)
  · exact ht hk
  · simp only [K.CH_NF_BLOCKS] at hk; omega
  · simp only [K.CH_OWED] at hk; omega
  · simp only [K.CH_REPASSED] at hk; omega
  · omega

/-- The operation whose contribution is decided. -/
def RingOp.decided (o : RingOp) (incl : Bool) : RingOp := { o with fate := some incl, holding := false, bk := { o.bk with incl := incl } }

/-- What a decision leaves: the operation with its fate, the rest of the channel but for its messages; CH_STATE reads 1. -/
theorem Dev.decideBucket_leaves {d : Dev} {ch : Nat} {o : RingOp} (hch : ch < 32) (ho : (d.chan ch).op = some o) (incl : Bool) :
    ((d.decideBucket ch incl).chan ch).held = ((d.chan ch).withOp (o.decided incl)).held ∧ Dev.Calm d (d.decideBucket ch incl) ∧
    (d.decideBucket ch incl).get (K.CH_STATE ch) = 1 ∧
    Dev.ObjsBut (fun k => (passKey ch k ∨ 0x518000 ≤ k ∧ k % 256 = 2) ∨ k = (K.CH_STATE ch).key ∨ k = (K.CH_EXCLUDED ch).key) d
      (d.decideBucket ch incl) := by
  unfold Dev.decideBucket
  rw [ho]
  dsimp -zeta only
  extract_lets e bk d1 d2 d3
  have h1 : d1.chan ch = (d.chan ch).withOp (o.decided incl) := Dev.chan_setOp_self _ _ _
  have h3 : d3.chan ch = d1.chan ch ∧ Dev.Calm d1 d3 ∧ d3.get (K.CH_STATE ch) = 1 ∧
      Dev.ObjsBut (fun k => (passKey ch k ∨ 0x518000 ≤ k ∧ k % 256 = 2) ∨ k = (K.CH_STATE ch).key ∨ k = (K.CH_EXCLUDED ch).key) d1 d3 := by
    have hs : d2.get (K.CH_STATE ch) = 1 := Dev.get_put_self _ _ _
    have hp := Dev.ObjsBut.put (P := fun k => (passKey ch k ∨ 0x518000 ≤ k ∧ k % 256 = 2) ∨ k = (K.CH_STATE ch).key ∨ k = (K.CH_EXCLUDED ch).key)
      d1 (o := K.CH_STATE ch) 1 (.inr (.inl rfl))
    unfold d3
    split
    · exact ⟨rfl, .of_side (d1.put_side _ _), hs, hp⟩
    · exact ⟨rfl, .of_side ((d1.put_side _ _).trans (d2.cnt_side _ _)),
        (d2.get_put_ne _ (by simp only [K.CH_STATE, K.CH_EXCLUDED]; omega)).trans hs, hp.trans (.cnt d2 1 (.inr (.inr rfl)))⟩
  have hl : Dev.Loops ch d3 ((d3.bucketStart ch e).ringLoop ch) := (Dev.Loops.of_passes (d3.bucketStart_passes ch e).task).trans (Dev.ringLoop_loops _ _)
  obtain ⟨hc3, hcalm, hst, hobj⟩ := h3
  refine ⟨by rw [hl.chan, hc3, h1], ((d.setChan_calm _ _).trans hcalm).trans hl.calm, ?_, ?_⟩
  · rw [hl.obj _ (not_loopKey_chan (s := 0x0E) hch (by omega) (by omega)), hst]
  · exact .trans (b := d1) (.of_objs rfl) (hobj.trans (hl.obj.mono fun _ => .inl))

theorem RingOp.of_task {o x : RingOp} (h : x.task = o.task) : x.fate = o.fate ∧ x.holding = o.holding ∧ x.bk.seq = o.bk.seq :=
  ⟨by have := congrArg RingOp.fate h; exact this, by have := congrArg RingOp.holding h; exact this,
    by have := congrArg (fun y : RingOp => y.bk.seq) h; exact this⟩

/-- The decided operation, and what else of the channel stands. -/
theorem Dev.decideBucket_op {d : Dev} {ch : Nat} {o : RingOp} (hch : ch < 32) (ho : (d.chan ch).op = some o) (incl : Bool) :
    (∃ o', ((d.decideBucket ch incl).chan ch).op = some o' ∧ o'.fate = some incl ∧ o'.holding = false ∧ o'.bk.seq = o.bk.seq) ∧
    ((d.decideBucket ch incl).chan ch).late = (d.chan ch).late := by
  obtain ⟨hc, -⟩ := Dev.decideBucket_leaves hch ho incl
  obtain ⟨o', hop, ht⟩ := Chan.op_of_held hc rfl
  obtain ⟨hf, hh, hs⟩ := RingOp.of_task ht
  exact ⟨⟨o', hop, hf, hh, hs⟩, Chan.late_of_held (c := (d.chan ch).withOp (o.decided incl)) hc⟩

/-- An excluded contribution: it is among the late ones. -/
theorem Dev.exclude_op {d : Dev} {ch : Nat} {o : RingOp} (hch : ch < 32) (ho : (d.chan ch).op = some o) (carryOut lost : Bool) :
    (∃ o', ((d.exclude ch carryOut lost).chan ch).op = some o' ∧ o'.fate = some false ∧ o'.holding = false) ∧
    ((d.exclude ch carryOut lost).chan ch).late.length = (d.chan ch).late.length + 1 := by
  unfold Dev.exclude
  extract_lets c
  rw [show c.op = some o from ho]
  dsimp -zeta only
  extract_lets d1 d2
  have h1 : d1.chan ch = { c with op := some o, late := c.late ++
      [{ bk := o.bk, readyQ := o.readyQ, bound := o.bound, eng := o.eng, carryOut := carryOut, lost := lost }] } := Dev.chan_setChan_self _ _ _
  have h2 : d2.chan ch = d1.chan ch := by
    unfold d2
    split
    · rfl
    · exact (d1.ledgerFlag_passes id ch _ _ _).chan
  have ho2 : (d2.chan ch).op = some o := by rw [h2, h1]
  obtain ⟨⟨o', hop, hf, hh, -⟩, hl⟩ := Dev.decideBucket_op hch ho2 false
  refine ⟨⟨o', hop, hf, hh⟩, ?_⟩
  rw [hl, h2, h1, List.length_append]
  rfl

theorem Dev.popReady_chans {d t : Dev} {p b q : Nat} {h : Handle} (g : d.popReady p b q = some (h, t)) : t.chans = d.chans := by
  unfold Dev.popReady at g
  dsimp only at g
  split at g
  · cases g
  split at g
  · cases g
  split at g
  · cases g
  · cases g
    rfl

theorem Dev.lateContribution_lost {d t : Dev} {ch : Nat} {x : LateRec} {r : List LateRec} {h : Handle} (hl : (d.chan ch).late = x :: r)
    (hp : d.popReady (d.get (K.CH_PART ch)) x.bound x.readyQ = some (h, t)) (hx : x.lost = true) : d.lateContribution ch = t := by
  unfold Dev.lateContribution
  dsimp only
  rw [hl]
  dsimp only
  rw [hp]
  exact if_pos hx

theorem Dev.lateContribution_gone {d t : Dev} {ch : Nat} {x : LateRec} {r : List LateRec} {h : Handle} (hl : (d.chan ch).late = x :: r)
    (hp : d.popReady (d.get (K.CH_PART ch)) x.bound x.readyQ = some (h, t)) (hx : x.lost = false) :
    (d.lateContribution ch).chan ch = { d.chan ch with late := r } := by
  unfold Dev.lateContribution
  extract_lets c
  rw [show c.late = x :: r from hl]
  dsimp -zeta only
  rw [hp]
  dsimp only
  generalize rde x.eng (d.get (K.CH_PART ch)) = e
  have h1 : (t.setChan ch { c with late := r }).chan ch = { d.chan ch with late := r } := Dev.chan_setChan_self _ _ _
  rw [if_neg (by simp [hx])]
  split
  · exact h1
  split
  · have h2 := ((t.setChan ch { c with late := r }).carryWrite_passes id ch e x.bk false).trans (Dev.ledgerFlag_passes _ id ch e x.bk.entry 39)
    split
    · exact ((h2.trans (Dev.ledgerFlag_passes _ id ch e x.bk.entry 40)).chan).trans h1
    · exact h2.chan.trans h1
  · refine Eq.trans ?_ h1
    split
    · exact ((Dev.carryWrite_passes _ id ch e x.bk true).trans (Dev.ledgerFlag_passes _ id ch e x.bk.entry 38)).chan
    · exact (Dev.ledgerFlag_passes _ id ch e x.bk.entry 38).chan

/-- Settles O56: a handle, a deadline and a hold limit by the decision that each leads to, a late handle by the channel it leaves. -/
theorem contributionsDecided : Obligations.ContributionsDecided := by
  intro s ch o hch hs ho _ _ hpart _
  have hready : exec (.contributionReady ch) s = .next (s.setDev (s.dev.contributionReady ch)) :=
    onUnit_next (f := fun d => d.contributionReady ch) (decide_eq_true hch) hs
  have hdead : exec (.contribDeadline ch) s = .next (s.setDev (s.dev.contribDeadline ch)) :=
    onUnit_next (f := fun d => d.contribDeadline ch) (decide_eq_true hch) hs
  have hhold : exec (.holdLimitExpire ch) s = .next (s.setDev (s.dev.holdLimitExpire ch)) :=
    onUnit_next (f := fun d => d.holdLimitExpire ch) (decide_eq_true hch) hs
  have hlate : exec (.lateContribution ch) s = .next (s.setDev (s.dev.lateContribution ch)) :=
    onUnit_next (f := fun d => d.lateContribution ch) (decide_eq_true hch) hs
  rw [hready, hdead, hhold, hlate]
  refine ⟨fun h d hr hf hq hl hp => ?_, fun hp => ?_, fun hr hf hh hrep => ⟨fun hn => ?_, fun hn hm => ?_, fun hn hm => ?_⟩,
    fun hh => ⟨fun hn => ?_, fun hn => ?_⟩, fun x r h d hl hp hx => ?_, fun x r h d hl hp hx => ?_⟩
  · have hc : d.chan ch = s.dev.chan ch := by
      unfold Dev.chan
      rw [Dev.popReady_chans hp]
    have heq : s.dev.contributionReady ch = if (decide (h.status = stOK) || decide (h.status = stLATE)) = true then d.decideBucket ch true
        else (d.setOp ch { o with inh := h.status }).decideBucket ch false := by
      unfold Dev.contributionReady
      dsimp only
      rw [ho]
      dsimp only
      rw [if_neg (by simp [hr, hf, hq, hl]), hp]
    by_cases hst : h.status = stOK ∨ h.status = stLATE
    · obtain ⟨⟨o', hop, hfate, -, hseq⟩, -⟩ := Dev.decideBucket_op (d := d) hch (by rw [hc]; exact ho) true
      refine ⟨_, o', rfl, s.setDev_pending _, s.setDev_sec _, ?_⟩
      rw [State.setDev_dev, heq, if_pos (by simpa using hst), decide_eq_true hst]
      exact ⟨hop, hfate, hseq⟩
    · obtain ⟨⟨o', hop, hfate, -, hseq⟩, -⟩ := Dev.decideBucket_op (d := d.setOp ch { o with inh := h.status }) hch
        (by rw [Dev.chan_setOp_self]) false
      refine ⟨_, o', rfl, s.setDev_pending _, s.setDev_sec _, ?_⟩
      rw [State.setDev_dev, heq, if_neg (by simpa using hst), decide_eq_false hst]
      exact ⟨hop, hfate, hseq⟩
  · unfold Dev.contributionReady
    dsimp only
    rw [ho]
    dsimp only
    rw [hp]
    split <;> rw [State.setDev_self]
  · unfold Dev.contribDeadline
    rw [ho]
    dsimp only
    rw [if_pos (by simp [Dev.pastRel, hn]), State.setDev_self]
  · refine ⟨_, _, rfl, s.setDev_pending _, s.setDev_sec _, ?_, rfl, ?_⟩
    all_goals
      rw [State.setDev_dev]
      unfold Dev.contribDeadline
      rw [ho]
      dsimp only
      rw [if_neg (by simp [hr, hf, hh, hrep, Dev.pastRel, hn]), if_pos hm]
    · exact congrArg Chan.op (Dev.chan_setOp_self _ _ _)
    · constructor
      · exact (Dev.get_put_ne _ _ (by simp only [K.CH_STATE, K.CH_HELD]; omega)).trans (Dev.get_put_self _ _ _)
      · rw [Dev.cnt, Dev.bump, Dev.get_put_self, Dev.get_put_ne _ _ (by simp only [K.CH_STATE, K.CH_HELD]; omega)]
        rfl
  · have heq : s.dev.contribDeadline ch = (s.dev.setSched o.part { s.dev.sched o.part with
        excused := (s.dev.sched o.part).excused ++ [o.bound * 32 + o.readyQ] }).exclude ch (s.dev.get (K.MODE o.part) == 1) false := by
      unfold Dev.contribDeadline
      rw [ho]
      dsimp only
      rw [if_neg (by simp [hr, hf, hh, hrep, Dev.pastRel, hn]), if_neg hm]
    obtain ⟨⟨o', hop, hfate, -⟩, hl⟩ := Dev.exclude_op (d := s.dev.setSched o.part { s.dev.sched o.part with
      excused := (s.dev.sched o.part).excused ++ [o.bound * 32 + o.readyQ] }) hch ho (s.dev.get (K.MODE o.part) == 1) false
    refine ⟨_, o', rfl, s.setDev_pending _, s.setDev_sec _, ?_⟩
    rw [State.setDev_dev, heq]
    exact ⟨hop, hfate, hl⟩
  · unfold Dev.holdLimitExpire
    rw [ho]
    dsimp only
    rw [if_pos (by simp [Dev.pastRel, hn]), State.setDev_self]
  · have heq : s.dev.holdLimitExpire ch = s.dev.exclude ch false false := by
      unfold Dev.holdLimitExpire
      rw [ho]
      dsimp only
      rw [if_neg (by simp [hh, Dev.pastRel, hn])]
    obtain ⟨⟨o', hop, hfate, hholding⟩, -⟩ := Dev.exclude_op hch ho false false
    refine ⟨_, o', rfl, s.setDev_pending _, s.setDev_sec _, ?_⟩
    rw [State.setDev_dev, heq]
    exact ⟨hop, hfate, hholding⟩
  · rw [Dev.lateContribution_lost hl (by rw [hpart]; exact hp) hx]
  · refine ⟨_, rfl, s.setDev_pending _, s.setDev_sec _, ?_⟩
    rw [State.setDev_dev, Dev.lateContribution_gone hl (by rw [hpart]; exact hp) hx]
    exact ⟨rfl, ho⟩

/-! ## Ends of operations (R388, R399) -/

theorem Dev.Tallied.chans {a b : Dev} (h : Dev.Tallied a b) : b.chans = a.chans := by rw [show b = _ from h.rest]

theorem rde_inside {r p : Nat} (hr : r < 8) (hp : p < 16) : (rde r p).Inside := ⟨by simp only [rde]; omega, fun _ => hp⟩

/-- The channel once its operation has ended in its own time. -/
def Chan.ended (c : Chan) (o : RingOp) : Chan :=
  { c with op := none, done := o.bk.seq + 1, buckets := if o.repass then [] else c.buckets ++ [o.bk] }

/-- An operation that ends before its attempt: its channel is free, CH_STATE reads 0, and a bucket is counted, a debt paid. -/
theorem Dev.ringFinish_ends (d : Dev) {ch : Nat} {o : RingOp} (st : Nat) (hch : ch < 32) (hr : o.eng < 8) (hp : o.part < 16) (he : o.ended = false) :
    (d.ringFinish ch o st).chan ch = (d.chan ch).ended o ∧ (d.ringFinish ch o st).get (K.CH_STATE ch) = 0 ∧
    (o.repass = true → (d.ringFinish ch o st).get (K.CH_OWED ch) = 0) ∧
    (o.repass = false → (d.ringFinish ch o st).get (K.CH_BUCKETS ch) = addSat 64 (d.get (K.CH_BUCKETS ch)) 1) := by
  unfold Dev.ringFinish
  extract_lets e c seq bks d1 d2 d3
  have hfin := Dev.finish_tallied d3 (rde_inside hr hp) { o.fl with status := if o.inh = 0 then st else o.inh } (token 0)
  have hkeep {s : Nat} (hs : s < 256) (h : 8 ≤ s ∧ ¬(0x13 ≤ s ∧ s ≤ 0x15)) (x : Nat) :
      (d3.finish e { o.fl with status := if o.inh = 0 then st else o.inh } (token 0)).get ⟨(0x5100 + ch) * 256 + s, x⟩ =
        d3.get ⟨(0x5100 + ch) * 256 + s, x⟩ :=
    hfin.obj _ fun hk => not_touchKey_chan hch hs h (.inl hk)
  have h1 : d1.chan ch = (d.chan ch).ended o := by
    unfold d1
    rw [he, Dev.chan_setChan_self]
    rfl
  have hl := d2.ledgerPut_passes id ch e o.bk.entry
    (ledgerWord ch o.bk (bit (Map.get (d2.part e.p).ledger 0 (o.bk.entry + 1)) 39) (bit (Map.get (d2.part e.p).ledger 0 (o.bk.entry + 1)) 38)
      (bit (Map.get (d2.part e.p).ledger 0 (o.bk.entry + 1)) 37))
  have hst2 : d2.get (K.CH_STATE ch) = 0 := Dev.get_put_self _ _ _
  have hbk2 : d2.get (K.CH_BUCKETS ch) = d.get (K.CH_BUCKETS ch) := Dev.get_put_ne _ _ (by simp only [K.CH_STATE, K.CH_BUCKETS]; omega)
  have hlk {s : Nat} (hs : s < 256) (h : 8 ≤ s ∧ s ≠ 0x10 ∧ ¬(0x13 ≤ s ∧ s ≤ 0x15)) (x : Nat) := hl.obj ⟨(0x5100 + ch) * 256 + s, x⟩
    fun hk => not_loopKey_chan (ch := ch) hch hs h (.inl hk)
  cases hrep : o.repass with
  | true =>
    have h3 : d3 = d2.put (K.CH_OWED ch) 0 := if_pos hrep
    refine ⟨?_, ?_, fun _ => ?_, fun h => (by cases h)⟩
    · unfold Dev.chan
      rw [hfin.chans, h3]
      exact h1
    · rw [show (_ : Dev).get (K.CH_STATE ch) = _ from hkeep (s := 0x0E) (by omega) (by omega) _, h3]
      exact (d2.get_put_ne _ (by simp only [K.CH_OWED]; omega)).trans hst2
    · rw [show (_ : Dev).get (K.CH_OWED ch) = _ from hkeep (s := 0x10) (by omega) (by omega) _, h3]
      exact Dev.get_put_self _ _ _
  | false =>
    have h3 : d3 = (d2.ledgerBucket e ch o.bk).cnt (K.CH_BUCKETS ch) 1 := by
      unfold d3
      rw [hrep, he]
      rfl
    refine ⟨?_, ?_, fun h => (by cases h), fun _ => ?_⟩
    · unfold Dev.chan
      rw [hfin.chans, h3]
      exact Eq.trans (hl.chan) h1
    · rw [show (_ : Dev).get (K.CH_STATE ch) = _ from hkeep (s := 0x0E) (by omega) (by omega) _, h3]
      refine (Dev.get_put_ne _ _ (by simp only [K.CH_BUCKETS]; omega)).trans ((hlk (s := 0x0E) (by omega) (by omega) _).trans hst2)
    · rw [show (_ : Dev).get (K.CH_BUCKETS ch) = _ from hkeep (s := 0x11) (by omega) (by omega) _, h3]
      refine (Dev.get_put_self _ _ _).trans ?_
      rw [show (d2.ledgerBucket e ch o.bk).get (K.CH_BUCKETS ch) = _ from hlk (s := 0x11) (by omega) (by omega) _]
      exact congrArg (addSat 64 · 1) hbk2

/-- An operation that is aborted ends: its channel is free, its SEQ is among those aborted. -/
theorem Dev.ringAbort_ends {d : Dev} {ch : Nat} {o : RingOp} (hch : ch < 32) (ho : (d.chan ch).op = some o) (hr : o.eng < 8) (hp : o.part < 16)
    (he : o.ended = false) (ha : (d.chan ch).aborted.contains o.bk.seq = false) :
    ((d.ringAbort ch o.bk.seq).chan ch).op = none ∧
    ((d.ringAbort ch o.bk.seq).chan ch).aborted = (d.chan ch).aborted ++ [o.bk.seq] ∧ (d.ringAbort ch o.bk.seq).get (K.CH_STATE ch) = 0 := by
  unfold Dev.ringAbort
  extract_lets c d1 h d2
  rw [if_neg (by rw [show c.aborted.contains o.bk.seq = false from ha]; simp)]
  have h1 : d1.chan ch = { c with aborted := c.aborted ++ [o.bk.seq], rx := c.rx.filter (fun m => (ringHdr m.payload).seq != o.bk.seq) } :=
    Dev.chan_setChan_self _ _ _
  have h2 : d2.chan ch = d1.chan ch := by
    unfold d2
    split
    · rfl
    · exact (d1.ringSend_touched ch h []).side.chan ch
  have ho2 : (d2.chan ch).op = some o := by rw [h2, h1]; exact ho
  rw [ho2]
  dsimp only
  rw [if_pos (by simp [he])]
  obtain ⟨hc, hst, -⟩ := d2.ringFinish_ends (stWorst o.fl.status stLINK) hch hr hp he
  rw [hc, h2, h1]
  exact ⟨rfl, rfl, hst⟩

/-! ## Messages (R376) -/

theorem Dev.takeRing_kind {d t : Dev} {l kind : Nat} {m : Msg} (h : d.takeRing l kind = some (m, t)) : (ringHdr m.payload).kind = kind := by
  have htake {x : Msg} {y : Dev} (hx : d.takeMsg l 2 (fun m => (ringHdr m.payload).kind == kind) = some (x, y)) : (ringHdr x.payload).kind = kind := by
    unfold Dev.takeMsg at hx
    dsimp only at hx
    split at hx
    · cases hx
    split at hx
    · cases hx
    next hok =>
      cases hx
      simpa using hok
  unfold Dev.takeRing at h
  split at h
  · cases h
  next x y hx =>
    dsimp only at h
    split at h
    · cases h
      exact htake hx
    · cases h

theorem Dev.msgChannel_lt {d : Dev} {m : Msg} {ch : Nat} (h : d.msgChannel m = some ch) : ch < 32 := by
  unfold Dev.msgChannel at h
  exact List.mem_range.mp (List.mem_of_find?_eq_some h)

/-- A message that comes alone for the operation in flight is taken up at once. -/
theorem Dev.ringLoop_alone {d : Dev} {ch : Nat} {o : RingOp} {m : Msg} (ho : (d.chan ch).op = some o) (hw : o.waits = false)
    (hrx : (d.chan ch).rx = [m]) (hm : (d.chan ch).nextMsg o = some m) : d.ringLoop ch = (d.msgTaken ch m).msgDone ch o (d.chanEng ch) m := by
  unfold Dev.ringLoop
  rw [hrx]
  exact Dev.ringOnce_takes ho hw hm

theorem Dev.ringLoop_none {d : Dev} {ch : Nat} (h : (d.chan ch).op = none) : d.ringLoop ch = d := by
  unfold Dev.ringLoop
  generalize List.range (d.chan ch).rx.length = l
  induction l with
  | nil => rfl
  | cons x l ih => rw [List.foldl_cons, Dev.ringOnce_idle (.inl h), ih]

/-- A message kept for a channel. -/
def Dev.msgKept (d : Dev) (ch : Nat) (m : Msg) : Dev := d.setChan ch { d.chan ch with rx := (d.chan ch).rx ++ [m] }

theorem Dev.msgKept_chan (d : Dev) (ch : Nat) (m : Msg) : (d.msgKept ch m).chan ch = { d.chan ch with rx := (d.chan ch).rx ++ [m] } :=
  Dev.chan_setChan_self _ _ _

/-- What a message of this attempt, for its channel's operation or the next, leads to. -/
theorem Dev.ringReceive_keeps {s d : Dev} {l kind ch : Nat} {m : Msg} (ht : s.takeRing l kind = some (m, d)) (hc : d.msgChannel m = some ch)
    (ha : (ringHdr m.payload).att = d.get (K.ATTEMPT (d.get (K.CH_PART ch))) % 256) (hd : (d.chan ch).done ≤ (ringHdr m.payload).seq)
    (hab : (d.chan ch).aborted.contains (ringHdr m.payload).seq = false) (hnext : (ringHdr m.payload).seq ≤ (d.chan ch).done + 1)
    (hk : kind ≠ 7) (hroom : (d.chan ch).rxBytes + m.payload.length ≤ d.get (K.CH_RX_BYTES ch)) :
    s.ringReceive l kind = (d.msgKept ch m).ringLoop ch := by
  unfold Dev.ringReceive
  rw [ht]
  dsimp only
  rw [hc]
  dsimp only
  rw [if_neg (by simp only [← ha, hab]; simp [hd]), if_neg (by simp [hnext, hroom]), if_neg hk]
  rfl

/-- The message taken up moves the count of its engine's messages by one. -/
theorem Dev.msgTaken_counts (d : Dev) (ch : Nat) (m : Msg) (o : RingOp) (e : Eng) :
    ((d.msgTaken ch m).msgDone ch o e m).get (K.RD_MESSAGES (d.get (K.CH_RDE ch))) =
      addSat 64 (d.get (K.RD_MESSAGES (d.get (K.CH_RDE ch)))) 1 ∨ 8 ≤ d.get (K.CH_RDE ch) ∨ 32 ≤ ch := by
  by_cases hr : 8 ≤ d.get (K.CH_RDE ch) ∨ 32 ≤ ch
  · exact .inr hr
  · rw [not_or, Nat.not_le, Nat.not_le] at hr
    obtain ⟨hr, hch⟩ := hr
    have hrde : (d.setChan ch { d.chan ch with rx := (d.chan ch).rx.erase m }).get (K.CH_RDE ch) = d.get (K.CH_RDE ch) := rfl
    refine .inl ?_
    rw [(Dev.msgDone_passes _ ch o e m).obj _ ?_]
    · unfold Dev.msgTaken
      dsimp only
      rw [hrde]
      exact Dev.get_put_self _ _ _
    · generalize d.get (K.CH_RDE ch) = r at hr
      have ht : ¬touchKey (K.RD_MESSAGES r).key := not_touchKey (by simp only [tallyShape, recordKey, K.RD_MESSAGES]; omega)
        (by simp only [K.RD_MESSAGES]; omega) (by simp only [K.RD_MESSAGES]; omega)
      rintro (hk | hk | hk | hk)
      · exact ht hk
      · simp only [K.RD_MESSAGES, K.CH_NF_BLOCKS] at hk; omega
      · simp only [K.RD_MESSAGES, K.CH_OWED] at hk; omega
      · simp only [K.RD_MESSAGES, K.CH_REPASSED] at hk; omega

theorem Dev.msgTaken_chan {d : Dev} {ch : Nat} {m : Msg} (hrx : (d.chan ch).rx = [m]) : (d.msgTaken ch m).chan ch = { d.chan ch with rx := [] } := by
  have h : (d.msgTaken ch m).chan ch = { d.chan ch with rx := (d.chan ch).rx.erase m } := Dev.chan_setChan_self _ _ _
  rw [h, hrx, List.erase_cons_head]

theorem Chan.nextMsg_alone {c : Chan} {o : RingOp} {m : Msg} (hrx : c.rx = [m]) (hs : (ringHdr m.payload).seq = o.bk.seq)
    (h : o.repass = true → ((ringHdr m.payload).round == o.round && (if (ringHdr m.payload).kind = 4 then o.stage == 0 else o.stage == 1)) = true) :
    c.nextMsg o = some m := by
  unfold Chan.nextMsg
  rw [hrx, List.find?_cons_of_pos (by simp [hs])]
  dsimp only
  cases hr : o.repass with
  | false => rfl
  | true => simp only [Bool.not_true, Bool.false_eq_true, if_false, h hr, if_true]

/-- A bucket's message that comes alone: its items are counted, and nothing waits. -/
theorem Dev.msgTaken_bucket {d : Dev} {ch : Nat} {o : RingOp} {m : Msg} (ho : (d.chan ch).op = some o) (hr : o.repass = false)
    (hrx : (d.chan ch).rx = [m]) :
    (((d.msgTaken ch m).msgDone ch o (d.chanEng ch) m).chan ch).rx = [] ∧
    ∃ o', (((d.msgTaken ch m).msgDone ch o (d.chanEng ch) m).chan ch).op = some o' ∧ o'.work = (o.took (ringHdr m.payload)).work := by
  have hc := Dev.msgTaken_chan hrx
  have hb := (Dev.bucketMsg_took (d := d.msgTaken ch m) (d.chanEng ch) (ringHdr m.payload) (m.payload.drop 16) (by rw [hc]; exact ho)).chan
  rw [hc] at hb
  unfold Dev.msgDone
  rw [hr, if_neg (by simp)]
  generalize ((d.msgTaken ch m).bucketMsg ch (d.chanEng ch) (ringHdr m.payload) (m.payload.drop 16)).chan ch = x at hb
  refine ⟨?_, ?_⟩
  · have := congrArg Chan.rx hb
    exact this
  · have := congrArg Chan.op hb
    exact Option.map_eq_some_iff.mp this

/-- A message of a re-pass that comes alone: the operation stands, and nothing waits. -/
theorem Dev.msgTaken_repass {d : Dev} {ch : Nat} {o : RingOp} {m : Msg} (ho : (d.chan ch).op = some o) (hrx : (d.chan ch).rx = [m]) :
    (((d.msgTaken ch m).msgDone ch o (d.chanEng ch) m).chan ch).rx = [] ∧
    ∃ o', (((d.msgTaken ch m).msgDone ch o (d.chanEng ch) m).chan ch).op = some o' ∧ o'.bk.seq = o.bk.seq := by
  have hc := Dev.msgTaken_chan hrx
  have hb := (Dev.msgDone_passes (d.msgTaken ch m) ch o (d.chanEng ch) m).chan
  rw [hc] at hb
  generalize ((d.msgTaken ch m).msgDone ch o (d.chanEng ch) m).chan ch = x at hb
  refine ⟨?_, ?_⟩
  · have := congrArg Chan.rx hb
    exact this
  · have hop : x.op.map RingOp.task = some o.task := by
      have := congrArg Chan.op hb
      simpa [Chan.task, ho] using this
    obtain ⟨o', hx, ht⟩ := Option.map_eq_some_iff.mp hop
    exact ⟨o', hx, (RingOp.of_task ht).2.2⟩

theorem RingOp.counts_of_work {o x : RingOp} (h : x.work = o.work) : x.scaleN = o.scaleN ∧ x.rsN = o.rsN ∧ x.agN = o.agN :=
  ⟨by have := congrArg RingOp.scaleN h; exact this, by have := congrArg RingOp.rsN h; exact this,
    by have := congrArg RingOp.agN h; exact this⟩

/-- The command that receives ring messages of a kind. -/
theorem exec_ring {s : State} {l kind : Nat} {i : Instr} (hl : l < 64) (hs : s.stopped = false)
    (hi : (i = .scale l ∧ kind = 1) ∨ (i = .rs l ∧ kind = 2) ∨ (i = .ag l ∧ kind = 3) ∨ (i = .list l ∧ kind = 4) ∨
      (i = .repassRs l ∧ kind = 5) ∨ (i = .repassAg l ∧ kind = 6) ∨ (i = .abort l ∧ kind = 7)) :
    exec i s = .next (s.setDev (s.dev.ringReceive l kind)) := by
  have h (k : Nat) : onUnit (l < 64) (fun d => d.ringReceive l k) s = .next (s.setDev (s.dev.ringReceive l k)) :=
    onUnit_next (f := fun d => d.ringReceive l k) (decide_eq_true hl) hs
  rcases hi with ⟨rfl, rfl⟩ | ⟨rfl, rfl⟩ | ⟨rfl, rfl⟩ | ⟨rfl, rfl⟩ | ⟨rfl, rfl⟩ | ⟨rfl, rfl⟩ | ⟨rfl, rfl⟩ <;> exact h _

/-- Settles O57: a message by its channel, its attempt and its SEQ; one for the operation in flight by what it is taken up to. -/
theorem ringReceives : Obligations.RingReceives := by
  rintro s l kind i m d h ⟨hl, hs, ht⟩ rfl hi
  rw [exec_ring hl hs hi]
  have hkind := Dev.takeRing_kind ht
  refine ⟨fun hc => ?_, ?_⟩
  · unfold Dev.ringReceive
    rw [ht]
    dsimp only
    rw [hc]
  · rintro ch c hc rfl hrde
    have hch := Dev.msgChannel_lt hc
    refine ⟨fun hout => ⟨_, rfl, s.setDev_pending _, s.setDev_sec _, ?_⟩, fun hatt hdone hab => ⟨fun hk hnext hroom => ⟨fun hop => ?_,
      fun o ho hend hrep hfate hseq hrx hk3 => ?_, fun o ho hend hrep hround hseq hrx hstage => ?_⟩, fun hk hnext o ho hend hp hr hseq => ?_⟩⟩
    · have heq : s.dev.ringReceive l kind = d.cnt (K.CH_DISCARDS ch) 1 := by
        unfold Dev.ringReceive
        rw [ht]
        dsimp only
        rw [hc]
        dsimp only
        rw [if_pos (by
          rcases hout with h | h | h
          · simp [h]
          · simp [h]
          · simp only [h, Bool.or_true])]
      rw [State.setDev_dev, heq]
      exact ⟨rfl, Dev.get_put_self _ _ _⟩
    · rw [Dev.ringReceive_keeps ht hc hatt hdone hab hnext hk hroom, Dev.ringLoop_none (by rw [Dev.msgKept_chan]; exact hop)]
      refine ⟨_, rfl, s.setDev_pending _, s.setDev_sec _, ?_⟩
      rw [State.setDev_dev, Dev.msgKept_chan]
      exact ⟨rfl, hop⟩
    · have hkc := d.msgKept_chan ch m
      have hrx' : ((d.msgKept ch m).chan ch).rx = [m] := by rw [hkc, hrx]; rfl
      have hop' : ((d.msgKept ch m).chan ch).op = some o := by rw [hkc]; exact ho
      obtain ⟨hempty, o', hop, hwork⟩ := Dev.msgTaken_bucket hop' hrep hrx'
      obtain ⟨h1, h2, h3⟩ := RingOp.counts_of_work hwork
      have hcount := (d.msgKept ch m).msgTaken_counts ch m o ((d.msgKept ch m).chanEng ch)
      rw [Dev.ringReceive_keeps ht hc hatt hdone hab hnext hk hroom, Dev.ringLoop_alone hop' (by rw [RingOp.waits, hend, hrep, Option.isNone_eq_false_iff.mpr hfate]; rfl) hrx'
        (Chan.nextMsg_alone hrx' hseq fun h => by rw [hrep] at h; cases h)]
      refine ⟨_, o', rfl, s.setDev_pending _, s.setDev_sec _, ?_⟩
      rw [State.setDev_dev]
      refine ⟨hempty, hop, ?_, ?_, ?_, ?_⟩
      · rw [h1, ← hkind]; rfl
      · rw [h2, ← hkind]; rfl
      · rw [h3, ← hkind]; rfl
      · rcases hcount with h | h | h
        · exact h
        · exact absurd h (Nat.not_le.mpr hrde)
        · omega
    · have hkc := d.msgKept_chan ch m
      have hrx' : ((d.msgKept ch m).chan ch).rx = [m] := by rw [hkc, hrx]; rfl
      have hop' : ((d.msgKept ch m).chan ch).op = some o := by rw [hkc]; exact ho
      obtain ⟨hempty, o', hop, hseq'⟩ := Dev.msgTaken_repass hop' hrx'
      have hcount := (d.msgKept ch m).msgTaken_counts ch m o ((d.msgKept ch m).chanEng ch)
      have hturn : ((ringHdr m.payload).round == o.round && (if (ringHdr m.payload).kind = 4 then o.stage == 0 else o.stage == 1)) = true := by
        rw [hkind]
        rcases hstage with ⟨h4, h0⟩ | ⟨h4, h1⟩
        · simp [hround, h4, h0]
        · simp [hround, show kind ≠ 4 by omega, h1]
      rw [Dev.ringReceive_keeps ht hc hatt hdone hab hnext hk hroom, Dev.ringLoop_alone hop' (by simp [RingOp.waits, hrep, hend]) hrx'
        (Chan.nextMsg_alone hrx' hseq fun _ => hturn)]
      refine ⟨_, o', rfl, s.setDev_pending _, s.setDev_sec _, ?_⟩
      rw [State.setDev_dev]
      refine ⟨hempty, hop, hseq', ?_⟩
      rcases hcount with h | h | h
      · exact h
      · exact absurd h (Nat.not_le.mpr hrde)
      · omega
    · have heq : s.dev.ringReceive l kind = d.ringAbort ch o.bk.seq := by
        unfold Dev.ringReceive
        rw [ht]
        dsimp only
        rw [hc]
        dsimp only
        rw [if_neg (by simp only [← hatt, hab]; simp [hdone]), if_neg (by simp [hnext, hk]), if_pos hk, hseq]
      obtain ⟨h1, h2, h3⟩ := Dev.ringAbort_ends hch ho hr hp hend (by rw [← hseq]; exact hab)
      refine ⟨_, rfl, s.setDev_pending _, s.setDev_sec _, ?_⟩
      rw [State.setDev_dev, heq, hseq]
      exact ⟨h1, h2, h3⟩

end Sys2Proof.Machine
end

section
/-! Proofs: a command that comes to its issue, and what a delay of its memory accesses marks (R27, R73). -/
namespace Sys2Proof.Machine

/-- A command that nothing holds back issues as its meaning says, in the device with its handle popped. -/
theorem Issues.issue {s : State} {e : Eng} {op n : Nat} {c : Cmd} {d : Dev} (h : Issues s e op c n d) (body : Dev → Cmd → Nat → Dev) :
    s.dev.issue e (· == op) body = (body d c n).holdIssued e c.index := by
  obtain ⟨-, -, ⟨d', hd, rfl⟩, hf, hc⟩ := h
  have hf' : (d'.ctx e).hold = none := hf
  have hc' : d'.stainsOn 2 e.unit (d'.engPart e) = [] := hc
  unfold Dev.issue
  rw [hd]
  dsimp only
  rw [if_pos (by simp [hf', hc'])]

/-- A flight that a delay of its accesses may mark: only its hold moves. -/
def InFlight.held (f : InFlight) : InFlight := { f with hold := 0 }

theorem Dev.setCtx_chans (d : Dev) (e : Eng) (x : EngCtx) : (d.setCtx e x).chans = d.chans := by
  unfold Dev.setCtx
  split
  · rfl
  · split <;> rfl

/-- A map whose values are changed one by one. -/
theorem Map.get_map {β : Type} (m : Map β) (dflt : β) (f : β → β) (hf : f dflt = dflt) (k : Nat) :
    Map.get (m.map (fun c : Nat × β => (c.1, f c.2))) dflt k = f (Map.get m dflt k) := by
  induction m with
  | nil => exact hf.symm
  | cons x m ih =>
    show (if x.1 = k then f x.2 else Map.get (m.map (fun c : Nat × β => (c.1, f c.2))) dflt k) = f (if x.1 = k then x.2 else Map.get m dflt k)
    split
    · rfl
    · exact ih

/-- What marks of a delay leave: every context but for the holds of its flights, the queues, the objects, and the channels' operations but for
theirs. -/
structure Dev.Marked (e : Eng) (a b : Dev) : Prop where
  ctx : ∃ g : InFlight → InFlight, (∀ f, (g f).held = f.held) ∧ b.ctx e = { a.ctx e with busy := (a.ctx e).busy.map g }
  hq : ∀ c q, b.hq c q = a.hq c q
  obj : ∀ o, b.get o = a.get o
  chan : ∀ ch, ∃ g : InFlight → InFlight, b.chan ch = { a.chan ch with op := (a.chan ch).op.map fun o => { o with fl := g o.fl } }

theorem Dev.holdIssued_marked (d : Dev) (e : Eng) (index : Nat) : Dev.Marked e d (d.holdIssued e index) := by
  have same (o : Option RingOp) : o.map (fun o => { o with fl := id o.fl }) = o := by cases o <;> rfl
  unfold Dev.holdIssued
  split
  · exact ⟨⟨id, fun _ => rfl, by rw [List.map_id]⟩, fun _ _ => rfl, fun _ => rfl, fun ch => ⟨id, by rw [same]⟩⟩
  · extract_lets t mark x d1
    have hmark (f : InFlight) : (mark f).held = f.held := by
      unfold mark
      split <;> rfl
    have h1 : d1.ctx e = { d.ctx e with busy := (d.ctx e).busy.map mark } := Dev.ctx_setCtx_self _ _ _
    have hch (ch : Nat) : d1.chan ch = d.chan ch := by
      unfold Dev.chan d1
      rw [Dev.setCtx_chans]
    split
    · refine ⟨⟨mark, hmark, h1⟩, d.hq_setCtx e _, d.get_setCtx e _, fun ch => ?_⟩
      have hmap := Map.get_map d1.chans Chan.init (fun c : Chan => { c with op := c.op.map (fun (o : RingOp) =>
        if o.eng = e.n && o.part = e.p then { o with fl := mark o.fl } else o) }) rfl ch
      rw [show Map.get d1.chans Chan.init ch = d.chan ch from hch ch] at hmap
      by_cases ho : ∃ o, (d.chan ch).op = some o ∧ (o.eng = e.n ∧ o.part = e.p)
      · obtain ⟨o, ho, he⟩ := ho
        refine ⟨mark, hmap.trans ?_⟩
        rw [ho]
        simp [he]
      · refine ⟨id, hmap.trans ?_⟩
        rw [same]
        cases hop : (d.chan ch).op with
        | none => rfl
        | some o =>
          have hn : ¬(o.eng = e.n ∧ o.part = e.p) := fun h => ho ⟨o, hop, h⟩
          simp [hn]
    · exact ⟨⟨mark, hmark, h1⟩, d.hq_setCtx e _, d.get_setCtx e _, fun ch => ⟨id, by rw [hch, same]⟩⟩

theorem Dev.Marked.index {e : Eng} {a b : Dev} (h : Dev.Marked e a b) : (b.ctx e).index = (a.ctx e).index := by
  obtain ⟨g, -, hc⟩ := h.ctx
  rw [hc]

theorem Dev.Marked.popped {e : Eng} {a b : Dev} (h : Dev.Marked e a b) : (b.ctx e).popped = (a.ctx e).popped := by
  obtain ⟨g, -, hc⟩ := h.ctx
  rw [hc]

theorem Dev.Marked.op {e : Eng} {a b : Dev} (h : Dev.Marked e a b) {ch : Nat} {o : RingOp} (ho : (a.chan ch).op = some o) :
    ∃ f, (b.chan ch).op = some { o with fl := f } := by
  obtain ⟨g, hc⟩ := h.chan ch
  refine ⟨g o.fl, ?_⟩
  rw [hc, ho]
  rfl

end Sys2Proof.Machine
end

section
/-! Proofs: buckets and re-passes issue in sequence and complete (R379 to R381, R388, R391). -/
namespace Sys2Proof.Machine

/-- A command in flight takes its slots; of the objects the reads of its slots and its engine's tallies move. -/
theorem Dev.advance_touched (d : Dev) {e : Eng} (he : e.Inside) (n : Nat) :
    Dev.ObjsBut touchKey d (d.advance e n) ∧ ∀ ch, (d.advance e n).chan ch = d.chan ch := by
  unfold Dev.advance
  extract_lets d1 x
  have h1 : Dev.Touched d d1 := d.takeSlots_touched e n
  generalize hx : EngCtx.mk _ _ _ _ _ _ _ _ _ _ _ _ _ _ _ _ _ _ _ = y
  have h2 : Dev.ObjsBut touchKey d1 (d1.setCtx e y) := .of_objs (d1.setCtx_objs e y)
  have h3 : Dev.ObjsBut touchKey (d1.setCtx e y) ((d1.setCtx e y).engCount e 11 1) :=
    (Dev.engCount_tallied (d1.setCtx e y) he.1 (by decide) 1).obj.mono fun _ => .inl
  refine ⟨(h1.obj.trans h2).trans h3, fun ch => ?_⟩
  rw [(Dev.engCount_side _ _ _ _).chan]
  unfold Dev.chan
  rw [Dev.setCtx_chans, h1.side.chans]

/-- A tracker entry noted in quadrant `q`, with the greatest number of entries in use. -/
def Dev.trkNote (d : Dev) (q : Nat) (t : TrkEnt) : Dev :=
  let d : Dev := { d with mem := { d.mem with trk := d.mem.trk.filter d.trkLive ++ [t] } }
  let used := ((d.mem.trk.filter (fun t => t.quad == q)).map TrkEnt.n).sum
  if d.get (K.TRK_PEAK q) < used then d.put (K.TRK_PEAK q) used else d

theorem Dev.trkNote_side (d : Dev) (q : Nat) (t : TrkEnt) :
    Dev.Side d (d.trkNote q t) ∧ Dev.ObjsBut (fun k => k % 256 = 0x12) d (d.trkNote q t) := by
  have h1 : Dev.Side d { d with mem := { d.mem with trk := d.mem.trk.filter d.trkLive ++ [t] } } := d.setMem_side _
  have hk : (K.TRK_PEAK q).key % 256 = 0x12 := by simp only [K.TRK_PEAK]; omega
  unfold Dev.trkNote
  dsimp only
  split
  · exact ⟨h1.trans (Dev.put_side _ _ _), .trans (.of_objs rfl) (.put (P := fun k => k % 256 = 0x12) _ _ hk)⟩
  · exact ⟨h1, .of_objs rfl⟩

/-- Tracker entries taken: objects TRK_PEAK alone move. -/
theorem Dev.trkTake_side (d : Dev) (e : Eng) (index : Nat) (ps : List Place) :
    Dev.Side d (d.trkTake e index ps) ∧ Dev.ObjsBut (fun k => k % 256 = 0x12) d (d.trkTake e index ps) := by
  unfold Dev.trkTake
  refine List.foldlRecOn (motive := fun y => Dev.Side d y ∧ Dev.ObjsBut (fun k => k % 256 = 0x12) d y) _ _ ⟨.refl d, .refl d⟩ fun y hy q _ => ?_
  extract_lets cls most
  have one (z : Dev) (hz : Dev.Side y z ∧ z.objs = y.objs) (n : Nat) :
      Dev.Side d (z.trkNote q { code := waitCode e, index := index, cls := cls, quad := q, n := n }) ∧
        Dev.ObjsBut (fun k => k % 256 = 0x12) d (z.trkNote q { code := waitCode e, index := index, cls := cls, quad := q, n := n }) :=
    ⟨(hy.1.trans hz.1).trans (z.trkNote_side _ _).1, (hy.2.trans (.of_objs hz.2)).trans (z.trkNote_side _ _).2⟩
  by_cases hm : most ≤ 1
  · rw [if_pos hm]
    exact one y ⟨.refl y, rfl⟩ most
  · rw [if_neg hm]
    exact one (y.draw 16).2 ⟨y.draw_side 16, rfl⟩ (1 + (y.draw 16).1 % most)

/-! ## An operation put in flight (R379, R380) -/

/-- `t` is `d` with operation `o` in flight on channel `ch`, its command's slots taken. -/
structure Dev.OpStarted (d t : Dev) (ch : Nat) (e : Eng) (n : Nat) (o : RingOp) : Prop where
  chan : t.chan ch = (d.chan ch).withOp o
  next : t.get (K.CH_NEXT_SEQ ch) = (o.bk.seq + 1) % 2 ^ 16
  state : t.get (K.CH_STATE ch) = if o.repass then 2 else 1
  index : (t.ctx e).index = (d.ctx e).index + n

theorem Dev.opStart_starts {d : Dev} {ch : Nat} {e : Eng} {o : RingOp} (n : Nat) (he : e.Inside) (hch : ch < 32)
    (ha : (d.chan ch).aborted.contains o.bk.seq = false) : Dev.OpStarted d (d.opStart ch e n o) ch e n o := by
  unfold Dev.opStart
  extract_lets d1 c d2 d3
  obtain ⟨hobj, hchan⟩ := (d1.setChan ch ((d1.chan ch).withOp o)).advance_touched he n
  have h2 : d2.chan ch = (d.chan ch).withOp o := (hchan ch).trans (Dev.chan_setChan_self _ _ _)
  have h3 : d3.chan ch = (d.chan ch).withOp o := h2
  have hseq : d2.get (K.CH_NEXT_SEQ ch) = (o.bk.seq + 1) % 2 ^ 16 :=
    (hobj _ (not_touchKey_chan (s := 0x0F) hch (by omega) (by omega))).trans (d.get_put_self _ _)
  rw [if_neg (by rw [h3]; show ¬((d.chan ch).aborted.contains o.bk.seq = true); rw [ha]; simp)]
  refine ⟨h3, ?_, Dev.get_put_self _ _ _, ?_⟩
  · exact (Dev.get_put_ne _ _ (by simp only [K.CH_NEXT_SEQ, K.CH_STATE]; omega)).trans hseq
  · have hc := ((d1.setChan ch ((d1.chan ch).withOp o)).advance_ctx e n).1
    have := congrArg EngCtx.index hc
    exact this

/-- Accesses of memory before it and tracker entries behind it leave a start as it is. -/
theorem Dev.OpStarted.around {a b t u : Dev} {ch : Nat} {e : Eng} {n : Nat} {o : RingOp} (h : Dev.OpStarted b t ch e n o) (hab : Dev.Side a b)
    (htu : Dev.Side t u) (hk : Dev.ObjsBut (fun k => k % 256 = 0x12) t u) : Dev.OpStarted a u ch e n o :=
  ⟨by rw [htu.chan, h.chan, hab.chan], (hk _ (by simp only [K.CH_NEXT_SEQ]; omega)).trans h.next,
    (hk _ (by simp only [K.CH_STATE]; omega)).trans h.state, by rw [htu.ctx, h.index, hab.ctx]⟩

/-- What a task fixes of an operation. -/
theorem RingOp.named_of_task {o x : RingOp} (h : x.task = o.task) : x.bk.seq = o.bk.seq ∧ x.bk.n = o.bk.n ∧ x.bk.src = o.bk.src ∧
    x.bk.dst = o.bk.dst ∧ x.repass = o.repass ∧ x.eng = o.eng ∧ x.part = o.part ∧ x.fate = o.fate :=
  ⟨by have := congrArg (fun y : RingOp => y.bk.seq) h; exact this, by have := congrArg (fun y : RingOp => y.bk.n) h; exact this,
    by have := congrArg (fun y : RingOp => y.bk.src) h; exact this, by have := congrArg (fun y : RingOp => y.bk.dst) h; exact this,
    by have := congrArg RingOp.repass h; exact this, by have := congrArg RingOp.eng h; exact this,
    by have := congrArg RingOp.part h; exact this, by have := congrArg RingOp.fate h; exact this⟩

/-- The operation of a started one once it is decided, or its messages are taken up. -/
theorem Dev.OpStarted.loops {d t u : Dev} {ch : Nat} {e : Eng} {n : Nat} {o : RingOp} (h : Dev.OpStarted d t ch e n o) (hch : ch < 32)
    (hl : Dev.Loops ch t u) : (∃ o', (u.chan ch).op = some o' ∧ o'.task = o.task) ∧ u.get (K.CH_NEXT_SEQ ch) = (o.bk.seq + 1) % 2 ^ 16 ∧
      u.get (K.CH_STATE ch) = (if o.repass then 2 else 1) ∧ (u.ctx e).index = (d.ctx e).index + n := by
  refine ⟨Chan.op_of_held (hl.chan.trans (congrArg Chan.held h.chan)) rfl, ?_, ?_, ?_⟩
  · exact (hl.obj _ (not_loopKey_chan (s := 0x0F) hch (by omega) (by omega))).trans h.next
  · exact (hl.obj _ (not_loopKey_chan (s := 0x0E) hch (by omega) (by omega))).trans h.state
  · rw [hl.calm.index, h.index]

theorem Dev.OpStarted.decided {d t : Dev} {ch : Nat} {e : Eng} {n : Nat} {o : RingOp} (h : Dev.OpStarted d t ch e n o) (hch : ch < 32) (incl : Bool) :
    (∃ o', ((t.decideBucket ch incl).chan ch).op = some o' ∧ o'.task = (o.decided incl).task) ∧
      (t.decideBucket ch incl).get (K.CH_NEXT_SEQ ch) = (o.bk.seq + 1) % 2 ^ 16 ∧
      (t.decideBucket ch incl).get (K.CH_STATE ch) = 1 ∧ ((t.decideBucket ch incl).ctx e).index = (d.ctx e).index + n := by
  obtain ⟨hc, hcalm, hst, hobj⟩ := Dev.decideBucket_leaves (d := t) (o := o) hch (by rw [h.chan]; rfl) incl
  refine ⟨Chan.op_of_held hc rfl, ?_, hst, by rw [hcalm.index, h.index]⟩
  rw [hobj _ ?_, h.next]
  rintro (hk | hk | hk)
  · exact not_loopKey_chan (s := 0x0F) hch (by omega) (by omega) hk
  · simp only [K.CH_NEXT_SEQ, K.CH_STATE] at hk; omega
  · simp only [K.CH_NEXT_SEQ, K.CH_EXCLUDED] at hk; omega

/-- A bucket that starts without a replay: its operation, with its fate decided where it waits for no queue. -/
theorem Dev.rdBucket_starts {s : State} {r p n : Nat} {c x : Cmd} {d : Dev} {es : List (List Nat)} {ls : List Loc}
    (hi : Issues s (rde r p) 0x10 c n d) (hes : d.exts (rde r p) c n = (.ok es, d)) (hx : x = { index := 0, words := es.headD [], handle := none })
    (hls : d.bucketChecks (rde r p) c x (bits (c.w 0) 12 8) (decodeBucket c x) = .ok ls) (hop : (d.chan (bits (c.w 0) 12 8)).op = none)
    (hm : d.memWait (rde r p) (ls.map (fun l => (0, l))) = none)
    (ha : (d.chan (bits (c.w 0) 12 8)).aborted.contains (decodeBucket c x).seq = false) (hrep : d.get (K.REPLAY_BASE p) = 0)
    (he : (rde r p).Inside) (hch : bits (c.w 0) 12 8 < 32) :
    ∃ t o cin, s.dev.rdBucket r p = Dev.holdIssued
        (if bits (c.w 2) 15 8 = 255 then Dev.decideBucket t (bits (c.w 0) 12 8) true else t) (rde r p) c.index ∧
      Dev.OpStarted d t (bits (c.w 0) 12 8) (rde r p) n o ∧ o.bk = { decodeBucket c x with cin := cin } ∧ o.repass = false ∧ o.eng = r ∧ o.part = p ∧
      o.fate = none := by
  have hre : d.replayEntry (rde r p) (bits (c.w 0) 12 8) (decodeBucket c x).seq (decodeBucket c x).entry = none := if_pos hrep
  unfold Dev.rdBucket
  extract_lets e
  rw [hi.issue]
  rw [hes]
  dsimp -zeta only
  extract_lets x1 ch b mode step inn rep valid cin b1 d1 rq o d2
  have hx1 : x = x1 := hx
  clear_value x1
  subst hx1
  rw [show d.bucketChecks e c x ch b = .ok ls from hls]
  dsimp -zeta only
  rw [if_neg (by rw [hop]; simp), show d.memWait e (ls.map (fun l => (0, l))) = none from hm]
  dsimp -zeta only
  extract_lets d3
  have hrep : rep = none := by
    unfold rep
    rw [hre]
    rfl
  clear_value rep
  subst hrep
  have h1 : Dev.Touched d d1 := .ite _ (fun _ => Dev.writeWin_touched ..) fun _ => .refl d
  have hop1 : (d1.chan ch).aborted.contains o.bk.seq = false := by rw [h1.side.chan]; exact ha
  have h2 : Dev.OpStarted d1 d2 ch e n o := Dev.opStart_starts n he hch hop1
  have hop2 : ¬(d2.chan ch).op.isNone = true := by
    rw [h2.chan]
    exact Bool.false_ne_true
  rw [if_neg hop2]
  obtain ⟨hs3, ho3⟩ := d2.trkTake_side e c.index (ls.map (fun l => (0, l)))
  have h3 : Dev.OpStarted d d3 ch e n o := h2.around h1.side hs3 ho3
  exact ⟨d3, o, cin, rfl, h3, rfl, rfl, rfl, rfl, rfl⟩

/-- A re-pass that starts: its operation, its owed lists sent, the messages that wait taken up. -/
theorem Dev.rdRepass_starts {s : State} {r p n : Nat} {c : Cmd} {d : Dev} (hi : Issues s (rde r p) 0x11 c n d)
    (hck : d.repassChecks (rde r p) c = .ok ()) (hop : (d.chan (bits (c.w 0) 12 8)).op = none)
    (ha : (d.chan (bits (c.w 0) 12 8)).aborted.contains (bits (c.w 2) 31 16) = false) (he : (rde r p).Inside) (hch : bits (c.w 0) 12 8 < 32) :
    ∃ t u o, s.dev.rdRepass r p = Dev.holdIssued u (rde r p) c.index ∧ Dev.OpStarted d t (bits (c.w 0) 12 8) (rde r p) n o ∧
      Dev.Loops (bits (c.w 0) 12 8) t u ∧ o.bk.seq = bits (c.w 2) 31 16 ∧ o.repass = true := by
  unfold Dev.rdRepass
  extract_lets e
  rw [hi.issue]
  extract_lets ch _ b o d1 d2
  rw [hck]
  dsimp -zeta only
  rw [if_neg (by rw [hop]; simp)]
  have h1 : Dev.OpStarted d d1 ch e n o := Dev.opStart_starts n he hch ha
  have hop1 : ¬(d1.chan ch).op.isNone = true := by
    rw [h1.chan]
    exact Bool.false_ne_true
  rw [if_neg hop1]
  have hround : Dev.Passes Chan.task ch d1 ((List.range 4).foldl (fun d _ => (d.roundDone ch).listDone ch e) d2) :=
    ((d1.listStart_passes ch).trans (Dev.listDone_passes _ ch e)).trans
      (.foldl _ _ (fun d _ => (d.roundDone_passes ch).trans (Dev.listDone_passes _ ch e)) d2)
  exact ⟨d1, _, o, rfl, h1, (Dev.Loops.of_passes hround).trans (Dev.ringLoop_loops _ _), rfl, rfl⟩

/-! ## An operation that completes (R388, R391) -/

theorem Dev.repassEnd_passes (d : Dev) (ch : Nat) (e : Eng) : Dev.Passes Chan.task ch d (d.repassEnd ch e) := by
  unfold Dev.repassEnd
  generalize d.ringAt ch = r
  obtain ⟨dd, i⟩ := r
  dsimp -zeta only
  extract_lets c
  split
  · exact .refl _ _ _
  next o ho =>
    extract_lets d1
    have h1 : Dev.Passes Chan.task ch d d1 := by
      refine .foldl _ _ (fun b x => ?_) d
      split
      next k hk =>
        split
        · exact .refl _ _ _
        · dsimp only
          have hw := (b.upWrite_touched e o.fl.index o.fl.op
            [(k.dst + 68 * x.2 + 3, BitVec.ofNat 8 (withBit (b.winByte e (k.dst + 68 * x.2 + 3)) 7 true))]).passes Chan.task ch
          refine (hw.trans (.ite _ (fun _ => ?_) fun _ => .refl _ _ _)).trans (.cnt _ _ (.inr (.inl rfl)))
          split
          · exact .setChan _ (Chan.task_setBucket _ _)
          · exact .refl _ _ _
      · exact .refl _ _ _
    split
    next x hx =>
      refine h1.trans (.setTask hx ?_)
      split <;> rfl
    · exact h1

/-- The ledger entry of a bucket once the rounds of its re-pass are over. -/
def Dev.ledgerRounds (d : Dev) (e : Eng) (o : RingOp) (b : Bucket) : Dev :=
  let w := Map.get (d.part o.part).ledger 0 (b.entry + 1)
  let w := if b.nf then withBit w 35 true else w
  d.ledgerPut e b.entry (w / 2 ^ 35 * 2 ^ 35 + b.rounds % 4 * 2 ^ 33 + w % 2 ^ 33)

theorem Dev.ledgerRounds_passes (d : Dev) (ch : Nat) (e : Eng) (o : RingOp) (b : Bucket) : Dev.Passes Chan.task ch d (d.ledgerRounds e o b) :=
  d.ledgerPut_passes Chan.task ch e b.entry _

/-- The device whose re-pass on channel `ch` has ended its last round, its buckets' ledger entries rewritten. -/
def Dev.repassOver (d : Dev) (ch : Nat) (e : Eng) (x : RingOp) : Dev :=
  (if x.ended then [] else ((d.repassEnd ch e).chan ch).buckets).foldl (fun d b => d.ledgerRounds e x b) (d.repassEnd ch e)

theorem Dev.repassOver_passes (d : Dev) (ch : Nat) (e : Eng) (x : RingOp) : Dev.Passes Chan.task ch d (d.repassOver ch e x) :=
  (d.repassEnd_passes ch e).trans (.foldl _ _ (fun d b => d.ledgerRounds_passes ch e x b) _)

section
variable {d : Dev} {ch : Nat} {o : RingOp} (ho : (d.chan ch).op = some o) (hl : o.lost = false)
include ho hl

theorem Dev.bucketComplete_unsent (h : d.sentAll ch o.bk.seq = false) : d.bucketComplete ch = d := by
  unfold Dev.bucketComplete
  rw [ho]
  simp [hl, h]

theorem Dev.bucketComplete_undecided (hh : o.repass = false) (hf : o.fate = none) : d.bucketComplete ch = d := by
  unfold Dev.bucketComplete
  rw [ho]
  simp [hl, hh, hf]

theorem Dev.bucketComplete_bucket (h : d.sentAll ch o.bk.seq = true) (hn : o.fl.hold ≤ d.now) (hr : o.repass = false) (hf : o.fate.isSome = true)
    (hb : d.bucketDone ch o = true) : ∃ st, d.bucketComplete ch = d.ringFinish ch o st := by
  refine ⟨if o.bk.held then stWorst o.fl.status stLATE else o.fl.status, ?_⟩
  unfold Dev.bucketComplete
  rw [ho]
  simp [hl, h, hr, hb, Nat.not_lt.mpr hn, Option.isNone_eq_false_iff.mpr hf]

/-- A re-pass whose last round is over ends in a device of its last passes. -/
theorem Dev.bucketComplete_repass (h : d.sentAll ch o.bk.seq = true) (hn : o.fl.hold ≤ d.now) (hr : o.repass = true) (hs : o.stage = 2) :
    ∃ t x, d.bucketComplete ch = t.ringFinish ch x x.fl.status ∧ Dev.Passes Chan.task ch d t ∧ x.task = o.task := by
  have hp := d.repassEnd_passes ch (rde o.eng o.part)
  obtain ⟨x, hx, ht⟩ : ∃ x, ((d.repassEnd ch (rde o.eng o.part)).chan ch).op = some x ∧ x.task = o.task :=
    Chan.op_of_held (congrArg (fun c : Chan => { c with rx := [] }) hp.chan) ho
  refine ⟨d.repassOver ch (rde o.eng o.part) x, x, ?_, d.repassOver_passes ch _ x, ht⟩
  unfold Dev.bucketComplete
  rw [ho]
  simp only [hl, h, hr, hs, Nat.not_lt.mpr hn, Bool.false_eq_true, if_false, if_true, Bool.not_true, decide_false, Bool.or_self, ne_eq, not_true_eq_false]
  rw [hx]
  rfl

end

/-- An operation that ends leaves its channel free, as `Chan.ended` says. -/
theorem Dev.ringFinish_frees (d : Dev) {ch : Nat} {o : RingOp} (st : Nat) (hch : ch < 32) (hr : o.eng < 8) (hp : o.part < 16) (he : o.ended = false) :
    ((d.ringFinish ch o st).chan ch).op = none ∧ ((d.ringFinish ch o st).chan ch).done = o.bk.seq + 1 ∧
    (o.repass = false → ((d.ringFinish ch o st).chan ch).buckets = (d.chan ch).buckets ++ [o.bk]) := by
  rw [(d.ringFinish_ends st hch hr hp he).1]
  refine ⟨rfl, rfl, fun hb => ?_⟩
  show (if o.repass then _ else _) = _
  rw [hb]
  rfl

theorem rde_ok {r p : Nat} (h : (rde r p).ok = true) : r < 8 ∧ p < 16 := by
  have h' : (decide (6 = 6) && decide (r < 8) && decide (p < 16)) = true := h
  simpa using h'

/-- Settles O55: a command that issues goes through `opStart`, a completion through `ringFinish`; the passes between them keep what the operation is. -/
theorem buckets : Obligations.Buckets := by
  refine ⟨⟨?_, ?_⟩, ?_⟩
  · intro s r p c n d es x ch b ls hi hes hx hch hb hck hop hm ha hrep
    subst hch hb
    have hok := rde_ok hi.unit
    have hlt : bits (c.w 0) 12 8 < 32 := bits_lt _ 12 8
    obtain ⟨u, o, cin, hu, h, hbk, hre, heng, hpart, hfate⟩ := Dev.rdBucket_starts hi hes hx hck hop hm ha hrep (rde_inside hok.1 hok.2) hlt
    have hexec : exec (.rdBucket r p) s = .next (s.setDev (s.dev.rdBucket r p)) := onUnit_next (f := fun d => d.rdBucket r p) (by simpa using hok) hi.live
    have hre1 : (if o.repass then 2 else 1) = 1 := by rw [hre]; rfl
    have hseq : o.bk.seq = (decodeBucket c x).seq := by rw [hbk]
    by_cases hq : bits (c.w 2) 15 8 = 255
    · rw [if_pos hq] at hu ⊢
      obtain ⟨⟨y, hy, hty⟩, hnext, hstate, hindex⟩ := h.decided hlt true
      have hm := (u.decideBucket (bits (c.w 0) 12 8) true).holdIssued_marked (rde r p) c.index
      obtain ⟨f, hf⟩ := hm.op hy
      obtain ⟨h1, h2, h3, h4, h5, h6, h7, h8⟩ := RingOp.named_of_task hty
      refine ⟨_, { y with fl := f }, hexec, s.setDev_pending _, s.setDev_sec _, ?_⟩
      rw [State.setDev_dev, hu, hm.obj, hm.obj, hm.index, hnext, hstate, hindex, hseq]
      exact ⟨hf, h1.trans hseq, h2.trans (by simp only [RingOp.decided, hbk]), h3.trans (by simp only [RingOp.decided, hbk]),
        h4.trans (by simp only [RingOp.decided, hbk]), h5.trans hre, h6.trans heng, h7.trans hpart, h8, rfl, rfl, rfl⟩
    · rw [if_neg hq] at hu ⊢
      have hm := u.holdIssued_marked (rde r p) c.index
      obtain ⟨f, hf⟩ := hm.op (by rw [h.chan]; rfl)
      refine ⟨_, { o with fl := f }, hexec, s.setDev_pending _, s.setDev_sec _, ?_⟩
      rw [State.setDev_dev, hu, hm.obj, hm.obj, hm.index, h.next, h.state, h.index, hseq]
      exact ⟨hf, rfl, by simp only [hbk], by simp only [hbk], by simp only [hbk], hre, heng, hpart, hfate, rfl, hre1, rfl⟩
  · intro s r p c n d ch seq hi hch hseq hck hop ha
    subst hch hseq
    have hok := rde_ok hi.unit
    have hlt : bits (c.w 0) 12 8 < 32 := bits_lt _ 12 8
    obtain ⟨t, u, o, hu, h, hl, hseq, hre⟩ := Dev.rdRepass_starts hi hck hop ha (rde_inside hok.1 hok.2) hlt
    have hexec : exec (.rdRepass r p) s = .next (s.setDev (s.dev.rdRepass r p)) := onUnit_next (f := fun d => d.rdRepass r p) (by simpa using hok) hi.live
    obtain ⟨⟨y, hy, hty⟩, hnext, hstate, hindex⟩ := h.loops hlt hl
    have hm := u.holdIssued_marked (rde r p) c.index
    obtain ⟨f, hf⟩ := hm.op hy
    obtain ⟨hyseq, -, -, -, hyre, -⟩ := RingOp.named_of_task hty
    refine ⟨_, { y with fl := f }, hexec, s.setDev_pending _, s.setDev_sec _, ?_⟩
    rw [State.setDev_dev, hu, hm.obj, hm.obj, hm.index, hnext, hstate, hindex, hre, hseq]
    exact ⟨hf, hyseq.trans hseq, hyre.trans hre, rfl, rfl, rfl⟩
  · intro s ch o hch hs ho hp hr hl he
    have hexec : exec (.bucketComplete ch) s = .next (s.setDev (s.dev.bucketComplete ch)) :=
      onUnit_next (f := fun d => d.bucketComplete ch) (decide_eq_true hch) hs
    refine ⟨fun h => ?_, fun h hn hb hf hd => ?_, fun h hn hb hf => ?_, fun h hn hb hst => ?_⟩
    · rw [hexec, Dev.bucketComplete_unsent ho hl h, State.setDev_self]
    · obtain ⟨st, hd⟩ := Dev.bucketComplete_bucket ho hl h hn hb hf hd
      refine ⟨_, hexec, s.setDev_pending _, s.setDev_sec _, ?_⟩
      rw [State.setDev_dev, hd]
      obtain ⟨hop, hdone, hbks⟩ := s.dev.ringFinish_frees st hch hr hp he
      obtain ⟨-, hst, -, hcnt⟩ := s.dev.ringFinish_ends st hch hr hp he
      exact ⟨hop, hdone, hbks hb, hst, hcnt hb⟩
    · rw [hexec, Dev.bucketComplete_undecided ho hl hb hf, State.setDev_self]
    · obtain ⟨t, x, hd, -, hx⟩ := Dev.bucketComplete_repass ho hl h hn hb hst
      obtain ⟨hseq, -, -, -, hre, heng, hpart, -⟩ := RingOp.named_of_task hx
      have hend : x.ended = false := by have := congrArg RingOp.ended hx; exact this.trans he
      refine ⟨_, hexec, s.setDev_pending _, s.setDev_sec _, ?_⟩
      rw [State.setDev_dev, hd]
      obtain ⟨hop, hdone, -⟩ := t.ringFinish_frees x.fl.status hch (heng ▸ hr) (hpart ▸ hp) hend
      obtain ⟨-, hst, howed, -⟩ := t.ringFinish_ends x.fl.status hch (heng ▸ hr) (hpart ▸ hp) hend
      exact ⟨hop, by rw [hdone, hseq], hst, howed (hre.trans hb)⟩

end Sys2Proof.Machine
end

section
/-! Proofs: a patrol scrub names a line of its channel (R279), of which it has `chLines`. -/
namespace Sys2Proof.Machine

/-- Refutes O31: its clause on channels that no partition owns holds for every line number; the line after a channel's last is none of the package's,
and the machine stops on it. -/
theorem not_scrubbing : ¬ Obligations.Scrubbing := by
  rintro ⟨-, -, hfree, -⟩
  have hs : exec (.patrolScrub 0 chLines .clean) State.reset = .next State.reset :=
    hfree State.reset 0 chLines .clean (by decide) (by decide +kernel) (by decide +kernel)
  have hf : exec (.patrolScrub 0 chLines .clean) State.reset = .fault .noSuchUnit := rfl
  rw [hf] at hs
  cases hs

end Sys2Proof.Machine
end

section
/-! Proofs: time marks and the events of the time unit (R75 to R83, R357 to R360). -/
namespace Sys2Proof.Machine

/-! ## A control flit that passes the coding of its group (R337, R342) -/

/-- A flit in whose group and codeword nothing is found moves its link alone. -/
theorem Dev.arrived_clean (d : Dev) (l : Nat) : ∃ x, (d.arrived l (d.link l).cleanFec).2 = d.setLink l x := by
  have hn : (d.link l).cleanFec.corrected = 0 := rfl
  have hu : (d.link l).cleanFec.uncorrectable = false := rfl
  refine ⟨((d.link l).arrive (d.get (K.LNK_STATE l) == 3) (d.link l).cleanFec).2, ?_⟩
  unfold Dev.arrived Dev.corrected
  rw [hn, hu]
  dsimp only
  split <;> rfl

/-- A control flit that is taken: its link, and the flits received on it, move alone. -/
theorem Dev.controlIn_taken {d t : Dev} {l : Nat} {f : Flit} (h : d.controlIn l f = (true, t)) :
    ∃ x y, t = ((d.setLink l x).setLink l y).cnt (K.FLITS_RX l) 1 := by
  obtain ⟨x, hx⟩ := d.arrived_clean l
  unfold Dev.controlIn at h
  generalize d.arrived l (d.link l).cleanFec = r at h hx
  obtain ⟨lost, b⟩ := r
  dsimp only at h hx
  subst hx
  split at h
  · cases h
  · exact ⟨x, _, (Prod.mk.inj h).2.symm⟩

/-- `b` is `a` after a control flit came on link `l`: no other object than its count of flits, nor the time unit, moves. -/
structure Dev.Heard (l : Nat) (a b : Dev) : Prop where
  obj : ∀ o : Obj, o.key ≠ (K.FLITS_RX l).key → b.get o = a.get o
  now : b.now = a.now
  ft : b.ft = a.ft

theorem Dev.controlIn_heard {d t : Dev} {l : Nat} {f : Flit} (h : d.controlIn l f = (true, t)) : Dev.Heard l d t := by
  obtain ⟨x, y, rfl⟩ := Dev.controlIn_taken h
  exact ⟨fun o ho => Dev.get_put_ne _ _ ho, rfl, rfl⟩

/-- An object of the time unit. -/
theorem Dev.Heard.time {l : Nat} {a b : Dev} (h : Dev.Heard l a b) (s x : Nat) (hs : s < 256) : b.get ⟨0x2000 * 256 + s, x⟩ = a.get ⟨0x2000 * 256 + s, x⟩ :=
  h.obj _ (by simp only [K.FLITS_RX]; omega)

/-! ## The time state (R79, R83) -/

/-- `b` is `a` but for FT_STATE and what its transitions record. -/
structure Dev.Timed (a b : Dev) : Prop where
  obj : Dev.ObjsBut (fun k => recordKey k ∨ k = K.FT_STATE.key ∨ k = K.FT_LOCK_TICK.key) a b
  now : b.now = a.now
  mark : b.ft.mark = a.ft.mark

theorem Dev.Timed.refl (a : Dev) : Dev.Timed a a := ⟨.refl a, rfl, rfl⟩

theorem Dev.Timed.trans {a b c : Dev} (h : Dev.Timed a b) (g : Dev.Timed b c) : Dev.Timed a c :=
  ⟨h.obj.trans g.obj, g.now.trans h.now, g.mark.trans h.mark⟩

/-- Objects that no transition moves. -/
theorem Dev.Timed.kept {a b : Dev} (h : Dev.Timed a b) (s x : Nat) (hs : s < 256) (h5 : s ≠ 5) (h9 : s ≠ 9) :
    b.get ⟨0x2000 * 256 + s, x⟩ = a.get ⟨0x2000 * 256 + s, x⟩ :=
  h.obj _ (by simp only [recordKey, K.FT_STATE, K.FT_LOCK_TICK]; omega)

theorem Dev.ftRecord_leaves (d : Dev) (event cause aux : Nat) : Dev.Sent d (d.ftRecord event cause aux) ∧ Dev.ObjsBut recordKey d (d.ftRecord event cause aux) :=
  ⟨d.file_sent _, d.file_objs _⟩

/-- A transition: the new state, LOCKED noting its tick, HOLDOVER its beginning. -/
theorem Dev.setFt_leaves (d : Dev) (st : Nat) : Dev.Timed d (d.setFt st) ∧ (d.setFt st).get K.FT_STATE = st ∧
    (st = 3 → d.get K.FT_STATE ≠ 3 → (d.setFt st).ft.since = d.now) ∧ (d.get K.FT_STATE ≠ st → (d.setFt st).ft.good = 0) := by
  unfold Dev.setFt
  extract_lets old d1 f d2 d3
  split
  next h => exact ⟨.refl d, h, fun h3 hn => absurd (h.trans h3) hn, fun hn => absurd h hn⟩
  next hne =>
    have h2 : Dev.Timed d d2 := ⟨.trans (b := d1) (.put d st (.inr (.inl rfl))) (.of_objs rfl), rfl, rfl⟩
    have hs2 : d2.get K.FT_STATE = st := Dev.get_put_self _ _ _
    split
    next hst =>
      refine ⟨⟨h2.obj.trans (.put _ _ (.inr (.inr rfl))), h2.now, h2.mark⟩, ?_, fun h3 => by omega, fun _ => rfl⟩
      exact (Dev.get_put_ne _ _ (by decide)).trans hs2
    next hst =>
      have h3 : Dev.Timed d d3 ∧ d3.get K.FT_STATE = st ∧ (st = 3 → d3.ft.since = d.now) ∧ d3.ft.good = 0 := by
        have hsince : st = 3 → d2.ft.since = d.now := fun h => if_pos h
        unfold d3
        split
        · exact ⟨⟨h2.obj.trans (.of_objs rfl), h2.now, h2.mark⟩, hs2, hsince, rfl⟩
        · exact ⟨h2, hs2, hsince, rfl⟩
      obtain ⟨ht, hs3, hsince, hgood⟩ := h3
      obtain ⟨hr, ho⟩ := d3.ftRecord_leaves 4 st (d3.get K.FT_OFFSET)
      have he : d3.ftRecord 4 st (d3.get K.FT_OFFSET) = _ := hr
      refine ⟨⟨ht.obj.trans (ho.mono fun _ => .inl), by rw [he]; exact ht.now, by rw [he]; exact ht.mark⟩, ?_, fun h _ => by rw [he]; exact hsince h,
        fun _ => by rw [he]; exact hgood⟩
      exact (ho _ (by simp only [recordKey, K.FT_STATE]; omega)).trans hs3

/-! ## The offset (R81) -/

theorem toSigned_ofSigned {e : Int} (h : -(2 : Int) ^ 31 ≤ e) (h' : e < 2 ^ 31) : toSigned 32 (ofSigned 32 e) = e := by
  unfold toSigned ofSigned
  have hp : ((2 ^ 32 : Nat) : Int) = 4294967296 := by norm_num
  have hm : ((e % 4294967296).toNat : Int) = e % 4294967296 := Int.toNat_of_nonneg (Int.emod_nonneg _ (by norm_num))
  have hl : (e % 4294967296).toNat < 4294967296 := by have := Int.emod_lt_of_pos e (by norm_num : (0 : Int) < 4294967296); omega
  norm_num at h h' ⊢
  rw [Nat.mod_eq_of_lt hl]
  split <;> omega

theorem Dev.ftOffset_put (d : Dev) {e : Int} (h : -(2 : Int) ^ 31 ≤ e) (h' : e < 2 ^ 31) : (d.put K.FT_OFFSET (ofSigned 32 e)).ftOffset = e := by
  unfold Dev.ftOffset
  rw [Dev.get_put_self, toSigned_ofSigned h h']

/-- Where the counter may not step, an estimate is taken as it is. -/
theorem Dev.takeOffset_takes {d : Dev} {e : Int} (h : d.get K.FT_STATE ≠ 1 ∨ d.ft.stepped = true) : d.takeOffset e = d.put K.FT_OFFSET (ofSigned 32 e) := by
  unfold Dev.takeOffset
  dsimp only
  rw [if_neg (by obtain h | h := h <;> simp [h])]

/-- An estimate moves FT_OFFSET, and with a step the counter. -/
theorem Dev.takeOffset_leaves (d : Dev) (e : Int) : Dev.ObjsBut (fun k => k = K.FT_OFFSET.key) d (d.takeOffset e) ∧
    (d.takeOffset e).ft.mark = d.ft.mark ∧ (d.takeOffset e).ft.good = d.ft.good := by
  unfold Dev.takeOffset
  dsimp only
  split
  · exact ⟨.trans (b := d) (.refl d) (.trans (b := { d.stepTo ((d.now : Int) - (e + 128) / 256).toNat with
      ft := { d.ft with stepped := true } }) (.of_objs rfl) (.put _ _ rfl)), rfl, rfl⟩
  · exact ⟨.put _ _ rfl, rfl, rfl⟩

/-- `Dev.ftOffset` is what FT_OFFSET reads. -/
theorem Dev.ftOffset_of {a b : Dev} (h : b.get K.FT_OFFSET = a.get K.FT_OFFSET) : b.ftOffset = a.ftOffset := congrArg (toSigned 32) h

theorem Dev.Timed.offset {a b : Dev} (h : Dev.Timed a b) : b.ftOffset = a.ftOffset :=
  Dev.ftOffset_of (h.kept 6 0 (by decide) (by decide) (by decide))

/-- The judgement of an offset moves the time state alone. -/
theorem Dev.judge_timed (d : Dev) (depth : Nat) : Dev.Timed d (d.judge depth) := by
  unfold Dev.judge
  dsimp only
  split
  · have h (g : Nat) : Dev.Timed d { d with ft := { d.ft with good := g } } := ⟨.of_objs rfl, rfl, rfl⟩
    have key (g : Nat) : Dev.Timed d (if 16 ≤ g && depth < 15 then Dev.setFt { d with ft := { d.ft with good := g } } 2
        else { d with ft := { d.ft with good := g } }) := by
      split
      · exact (h g).trans (Dev.setFt_leaves _ 2).1
      · exact h g
    exact key _
  · split
    · exact (d.setFt_leaves 4).1
    · exact .refl d
  · split
    · exact (d.setFt_leaves 2).1
    · exact .refl d
  · exact .refl d

/-- A locked device beyond 512, one in HOLDOVER within 512. -/
theorem Dev.judge_locked {d : Dev} (depth : Nat) (h : d.get K.FT_STATE = 2) :
    (d.judge depth).get K.FT_STATE = if 512 < d.ftOffset.natAbs then 4 else 2 := by
  unfold Dev.judge
  rw [h]
  show (if 512 < d.ftOffset.natAbs then d.setFt 4 else d).get K.FT_STATE = _
  split
  · exact (d.setFt_leaves 4).2.1
  · exact h

theorem Dev.judge_holdover {d : Dev} (depth : Nat) (h : d.get K.FT_STATE = 3) :
    (d.judge depth).get K.FT_STATE = if d.ftOffset.natAbs ≤ 512 then 2 else 3 := by
  unfold Dev.judge
  rw [h]
  show (if d.ftOffset.natAbs ≤ 512 then d.setFt 2 else d).get K.FT_STATE = _
  split
  · exact (d.setFt_leaves 2).2.1
  · exact h

theorem Dev.judge_acquiring {d : Dev} {depth : Nat} (hd : depth < 15) (h : d.get K.FT_STATE = 1) :
    (d.judge depth).get K.FT_STATE = if d.ftOffset.natAbs ≤ 64 ∧ 15 ≤ d.ft.good then 2 else 1 := by
  have hc : (16 ≤ (if d.ftOffset.natAbs ≤ 64 then d.ft.good + 1 else 0)) ↔ (d.ftOffset.natAbs ≤ 64 ∧ 15 ≤ d.ft.good) := by
    split
    · omega
    · omega
  unfold Dev.judge
  rw [h]
  show (if 16 ≤ (if d.ftOffset.natAbs ≤ 64 then d.ft.good + 1 else 0) && depth < 15 then
    Dev.setFt { d with ft := { d.ft with good := if d.ftOffset.natAbs ≤ 64 then d.ft.good + 1 else 0 } } 2
    else { d with ft := { d.ft with good := if d.ftOffset.natAbs ≤ 64 then d.ft.good + 1 else 0 } }).get K.FT_STATE = _
  by_cases hg : d.ftOffset.natAbs ≤ 64 ∧ 15 ≤ d.ft.good
  · rw [if_pos (by simp only [Bool.and_eq_true, decide_eq_true_eq]; exact ⟨hc.mpr hg, hd⟩), if_pos hg]
    exact (Dev.setFt_leaves _ 2).2.1
  · rw [if_neg (by simp only [Bool.and_eq_true, decide_eq_true_eq]; exact fun x => hg (hc.mp x.1)), if_neg hg]
    exact h

/-! ## Marks of the upstream (R79, R81, R358 to R360) -/

/-- The device once a mark of the upstream below DEPTH 15 is noted: FREE and LOST acquire anew, FT_DEPTH is one more than the mark's. -/
def Dev.noted (d : Dev) (m : Mark) : Dev :=
  let d : Dev := { d with ft := { d.ft with deep := false, mark := d.now } }
  (if d.get K.FT_STATE = 0 || d.get K.FT_STATE = 4 then d.setFt 1 else d).put K.FT_DEPTH (min (m.depth + 1) 255)

theorem Dev.follow_noted {d : Dev} (l : Nat) {m : Mark} (e : Int) (hm : m.depth < 15) :
    d.follow l m (some e) = ((d.noted m).takeOffset e).judge m.depth := by
  have hdeep : decide (15 ≤ m.depth) = false := by simpa using hm
  unfold Dev.follow Dev.noted
  rw [hdeep]
  rfl

theorem Dev.noted_leaves (d : Dev) {m : Mark} (hm : m.depth < 15) :
    (d.noted m).get K.FT_DEPTH = m.depth + 1 ∧ (d.noted m).now = d.now ∧ (d.noted m).ft.mark = d.now ∧
    (d.get K.FT_STATE = 0 ∨ d.get K.FT_STATE = 4 → (d.noted m).get K.FT_STATE = 1 ∧ (d.noted m).ft.good = 0) ∧
    (d.get K.FT_STATE ≠ 0 → d.get K.FT_STATE ≠ 4 → (d.noted m).get K.FT_STATE = d.get K.FT_STATE ∧ (d.noted m).ft.good = d.ft.good ∧
      (d.noted m).ft.stepped = d.ft.stepped) := by
  unfold Dev.noted
  extract_lets f d1
  have hmin : min (m.depth + 1) 255 = m.depth + 1 := by omega
  rw [hmin]
  have hd1 : d1.get K.FT_STATE = d.get K.FT_STATE := rfl
  have hput (x : Dev) : (x.put K.FT_DEPTH (m.depth + 1)).get K.FT_STATE = x.get K.FT_STATE := Dev.get_put_ne _ _ (by decide)
  by_cases h : d.get K.FT_STATE = 0 ∨ d.get K.FT_STATE = 4
  · have hif : (decide (d1.get K.FT_STATE = 0) || decide (d1.get K.FT_STATE = 4)) = true := by
      rw [hd1]
      simpa using h
    obtain ⟨ht, hs, -, hg⟩ := d1.setFt_leaves 1
    have h1 : d1.get K.FT_STATE ≠ 1 := by
      show d.get K.FT_STATE ≠ 1
      omega
    rw [if_pos hif]
    exact ⟨Dev.get_put_self _ _ _, ht.now, ht.mark, fun _ => ⟨(hput _).trans hs, hg h1⟩, fun h0 h4 => by omega⟩
  · have hif : ¬(decide (d1.get K.FT_STATE = 0) || decide (d1.get K.FT_STATE = 4)) = true := by
      rw [hd1]
      simpa using h
    rw [if_neg hif]
    exact ⟨Dev.get_put_self _ _ _, rfl, rfl, fun h' => absurd h' h, fun _ _ => ⟨hput _, rfl, rfl⟩⟩

/-- A mark of the upstream below DEPTH 15 that brings an estimate. -/
theorem Dev.follow_leaves {d : Dev} (l : Nat) {m : Mark} {e : Int} (hm : m.depth < 15) (he : -(2 : Int) ^ 31 ≤ e) (he' : e < 2 ^ 31) :
    (d.follow l m (some e)).get K.FT_DEPTH = m.depth + 1 ∧ (d.follow l m (some e)).ft.mark = d.now ∧
    (d.get K.FT_STATE = 2 → (d.follow l m (some e)).now = d.now ∧ (d.follow l m (some e)).ftOffset = e ∧
      (d.follow l m (some e)).get K.FT_STATE = if 512 < e.natAbs then 4 else 2) ∧
    (d.get K.FT_STATE = 3 → (d.follow l m (some e)).now = d.now ∧ (d.follow l m (some e)).ftOffset = e ∧
      (d.follow l m (some e)).get K.FT_STATE = if e.natAbs ≤ 512 then 2 else 3) ∧
    (d.get K.FT_STATE = 1 → d.ft.stepped = true → (d.follow l m (some e)).now = d.now ∧ (d.follow l m (some e)).ftOffset = e ∧
      (d.follow l m (some e)).get K.FT_STATE = if e.natAbs ≤ 64 ∧ 15 ≤ d.ft.good then 2 else 1) ∧
    (d.get K.FT_STATE = 0 ∨ d.get K.FT_STATE = 4 → (d.follow l m (some e)).get K.FT_STATE = 1) := by
  obtain ⟨hdepth, hnow, hmark, hfree, hheld⟩ := d.noted_leaves hm
  obtain ⟨hobj, hmk, hgood⟩ := (d.noted m).takeOffset_leaves e
  have hj := ((d.noted m).takeOffset e).judge_timed m.depth
  have hst : ((d.noted m).takeOffset e).get K.FT_STATE = (d.noted m).get K.FT_STATE := hobj _ (by decide)
  have taken (h : (d.noted m).get K.FT_STATE ≠ 1 ∨ (d.noted m).ft.stepped = true) :
      (((d.noted m).takeOffset e).judge m.depth).now = d.now ∧ (((d.noted m).takeOffset e).judge m.depth).ftOffset = e ∧
      ((d.noted m).takeOffset e).ftOffset = e := by
    have ho : ((d.noted m).takeOffset e).ftOffset = e := by rw [Dev.takeOffset_takes h, Dev.ftOffset_put _ he he']
    refine ⟨?_, hj.offset.trans ho, ho⟩
    rw [hj.now, Dev.takeOffset_takes h]
    exact hnow
  rw [Dev.follow_noted l e hm]
  refine ⟨?_, hj.mark.trans (hmk.trans hmark), fun h => ?_, fun h => ?_, fun h hs => ?_, fun h => ?_⟩
  · exact (hj.kept 11 255 (by decide) (by decide) (by decide)).trans ((hobj _ (by decide)).trans hdepth)
  · obtain ⟨hs, -, -⟩ := hheld (by omega) (by omega)
    obtain ⟨h1, h2, h3⟩ := taken (.inl (by omega))
    exact ⟨h1, h2, by rw [Dev.judge_locked _ (by omega), h3]⟩
  · obtain ⟨hs, -, -⟩ := hheld (by omega) (by omega)
    obtain ⟨h1, h2, h3⟩ := taken (.inl (by omega))
    exact ⟨h1, h2, by rw [Dev.judge_holdover _ (by omega), h3]⟩
  · obtain ⟨hs1, hg, hst1⟩ := hheld (by omega) (by omega)
    obtain ⟨h1, h2, h3⟩ := taken (.inr (hst1.trans hs))
    exact ⟨h1, h2, by rw [Dev.judge_acquiring hm (by omega), h3, hgood, hg]⟩
  · obtain ⟨hs1, hg⟩ := hfree h
    rw [Dev.judge_acquiring hm (by omega), hgood, hg, if_neg (by omega)]

/-- A mark of DEPTH 15 or more moves no time of a device that has locked; the first of a run has its record. -/
theorem Dev.follow_deep {d : Dev} (l : Nat) {m : Mark} (est : Option Int) (hm : 15 ≤ m.depth) (hs : d.get K.FT_STATE = 2 ∨ d.get K.FT_STATE = 3) :
    d.follow l m est = { (if d.ft.deep = true then d else d.linkRecord l 6 0 0) with
      ft := { (if d.ft.deep = true then d else d.linkRecord l 6 0 0).ft with deep := true } } := by
  have hdeep : decide (15 ≤ m.depth) = true := by simpa using hm
  have hrec : (if (true && !d.ft.deep) = true then d.linkRecord l 6 0 0 else d) = if d.ft.deep = true then d else d.linkRecord l 6 0 0 := by
    cases d.ft.deep <;> rfl
  have hst : (if d.ft.deep = true then d else d.linkRecord l 6 0 0).get K.FT_STATE = d.get K.FT_STATE := by
    split
    · rfl
    · exact d.file_objs _ _ (by simp only [recordKey, K.FT_STATE]; omega)
  unfold Dev.follow
  dsimp only
  rw [hdeep, hrec]
  refine if_pos ?_
  show (true && (decide ((if d.ft.deep = true then d else d.linkRecord l 6 0 0).get K.FT_STATE = 2) ||
    decide ((if d.ft.deep = true then d else d.linkRecord l 6 0 0).get K.FT_STATE = 3))) = true
  rw [hst]
  simpa using hs

/-! ## A mark on a link (R342, R357) -/

/-- The device once a mark's stamps are kept, and the delay that an echo gives. -/
def Dev.stamped (d : Dev) (l : Nat) (m : Mark) (w : Int) : Dev :=
  let d1 := d.setLink l { d.link l with markRx := some (m.tx, m.rx) }
  if m.echoValid = true then d1.put (K.LNK_DELAY l) (min w.toNat (2 ^ 32 - 1)) else d1

/-- The device's one-way time to the sender. -/
def Dev.oneWay (d : Dev) (l : Nat) (m : Mark) : Int := (((m.rx : Int) - m.echo) - m.echoHold) / 2 + toSigned 16 (d.get (K.LNK_ASYM l))

theorem Dev.timemark_notUp {d : Dev} {l : Nat} (f : Flit) (m : Mark) (h : d.get (K.LNK_STATE l) ≠ 3) : d.timemark l f m = d := if_pos h

theorem Dev.timemark_taken {d t : Dev} {l : Nat} {f : Flit} (m : Mark) (hup : d.get (K.LNK_STATE l) = 3) (hc : d.controlIn l f = (true, t)) :
    d.timemark l f m = if m.reservedZero = false then t else
      if t.get K.FT_ROLE = 0 ∧ t.get K.FT_UPSTREAM = l ∧ m.source = true then
        (t.stamped l m (t.oneWay l m)).follow l m
          (if m.echoValid then some (m.offset + ((m.rx : Int) - (m.tx + t.oneWay l m))) else none)
      else t.stamped l m (t.oneWay l m) := by
  have hput (x : Nat) (hx : x < 256) (y : Nat) : (t.stamped l m (t.oneWay l m)).get ⟨0x2000 * 256 + x, y⟩ = t.get ⟨0x2000 * 256 + x, y⟩ := by
    unfold Dev.stamped
    dsimp only
    split
    · exact Dev.get_put_ne _ _ (by simp only [K.LNK_DELAY]; omega)
    · rfl
  unfold Dev.timemark
  rw [if_neg (by simp [hup]), hc]
  dsimp only
  cases hz : m.reservedZero with
  | false => rfl
  | true =>
    have h2 := hput 2 (by decide) 0
    have h3 := hput 3 (by decide) 255
    show (if decide ((t.stamped l m (t.oneWay l m)).get K.FT_ROLE = 0) && decide ((t.stamped l m (t.oneWay l m)).get K.FT_UPSTREAM = l) && m.source then
      _ else _) = _
    rw [show (t.stamped l m (t.oneWay l m)).get K.FT_ROLE = _ from h2, show (t.stamped l m (t.oneWay l m)).get K.FT_UPSTREAM = _ from h3]
    simp only [Bool.and_eq_true, decide_eq_true_eq, and_assoc]
    rfl

/-- A mark of the upstream with an echo is followed with the estimate that it gives. -/
theorem timemark_upstream {s : State} {l : Nat} {f : Flit} {m : Mark} {w e : Int} {d : Dev} (hl : l < 64) (hs : s.stopped = false)
    (hup : s.dev.get (K.LNK_STATE l) = 3) (hc : s.dev.controlIn l f = (true, d)) (hz : m.reservedZero = true) (hsrc : m.source = true)
    (hecho : m.echoValid = true) (hrole : s.dev.get K.FT_ROLE = 0) (hus : s.dev.get K.FT_UPSTREAM = l)
    (hw : w = (((m.rx : Int) - m.echo) - m.echoHold) / 2 + toSigned 16 (s.dev.get (K.LNK_ASYM l)))
    (he : e = m.offset + ((m.rx : Int) - (m.tx + w))) :
    Dev.Heard l s.dev d ∧ exec (.timemark l ⟨f, m⟩) s = .next (s.setDev ((d.stamped l m w).follow l m (some e))) := by
  have hh := Dev.controlIn_heard hc
  have how : d.oneWay l m = w := by
    unfold Dev.oneWay
    rw [hw, hh.obj (K.LNK_ASYM l) (by simp only [K.LNK_ASYM, K.FLITS_RX]; omega)]
  have ht := Dev.timemark_taken m hup hc
  rw [if_neg (by simp [hz]), if_pos ⟨(hh.time 2 0 (by decide)).trans hrole, (hh.time 3 255 (by decide)).trans hus, hsrc⟩, how, if_pos hecho, ← he] at ht
  have hx : exec (.timemark l ⟨f, m⟩) s = .next (s.setDev (s.dev.timemark l f m)) :=
    onUnit_next (f := fun d => d.timemark l f m) (decide_eq_true hl) hs
  exact ⟨hh, hx.trans (by rw [ht])⟩

/-- The stamps of a mark move the time neither. -/
theorem Dev.stamped_time (d : Dev) (l : Nat) (m : Mark) (w : Int) : (d.stamped l m w).now = d.now ∧ (d.stamped l m w).ft = d.ft ∧
    ∀ s x, s < 256 → (d.stamped l m w).get ⟨0x2000 * 256 + s, x⟩ = d.get ⟨0x2000 * 256 + s, x⟩ := by
  unfold Dev.stamped
  dsimp only
  split
  · exact ⟨rfl, rfl, fun s x hs => Dev.get_put_ne _ _ (by simp only [K.LNK_DELAY]; omega)⟩
  · exact ⟨rfl, rfl, fun _ _ _ => rfl⟩

theorem exec_timemark {s : State} {l : Nat} (f : Flit) (m : Mark) (hl : l < 64) (hs : s.stopped = false) :
    exec (.timemark l ⟨f, m⟩) s = .next (s.setDev (s.dev.timemark l f m)) :=
  onUnit_next (f := fun d => d.timemark l f m) (decide_eq_true hl) hs

/-- A transition's effect on a state. -/
theorem setFt_next (s : State) (st : Nat) : (s.setDev (s.dev.setFt st)).dev.get K.FT_STATE = st ∧ (s.setDev (s.dev.setFt st)).dev.now = s.dev.now :=
  ⟨(s.dev.setFt_leaves st).2.1, (s.dev.setFt_leaves st).1.now⟩

theorem Dev.referenceLock_leaves {d : Dev} (h : d.get K.FT_ROLE = 1 ∨ d.get K.FT_ROLE = 2) : d.referenceLock.now = d.now ∧
    d.referenceLock.get K.FT_OFFSET = 0 ∧ d.referenceLock.get K.FT_DEPTH = 0 ∧
    d.referenceLock.get K.FT_STATE = if d.get K.FT_STATE = 4 then 1 else 2 := by
  have hroot : d.isRoot = true := by
    unfold Dev.isRoot
    simpa using h
  have hst : ((d.put K.FT_OFFSET 0).put K.FT_DEPTH 0).get K.FT_STATE = d.get K.FT_STATE :=
    (Dev.get_put_ne _ _ (by decide)).trans (Dev.get_put_ne _ _ (by decide))
  have hoff : ((d.put K.FT_OFFSET 0).put K.FT_DEPTH 0).get K.FT_OFFSET = 0 := (Dev.get_put_ne _ _ (by decide)).trans (Dev.get_put_self _ _ _)
  have goes (st : Nat) : (((d.put K.FT_OFFSET 0).put K.FT_DEPTH 0).setFt st).now = d.now ∧
      (((d.put K.FT_OFFSET 0).put K.FT_DEPTH 0).setFt st).get K.FT_OFFSET = 0 ∧
      (((d.put K.FT_OFFSET 0).put K.FT_DEPTH 0).setFt st).get K.FT_DEPTH = 0 ∧
      (((d.put K.FT_OFFSET 0).put K.FT_DEPTH 0).setFt st).get K.FT_STATE = st := by
    obtain ⟨ht, hs, -⟩ := ((d.put K.FT_OFFSET 0).put K.FT_DEPTH 0).setFt_leaves st
    exact ⟨ht.now, (ht.kept 6 0 (by decide) (by decide) (by decide)).trans hoff,
      (ht.kept 11 255 (by decide) (by decide) (by decide)).trans (Dev.get_put_self _ _ _), hs⟩
  by_cases h4 : d.get K.FT_STATE = 4
  · have hr : d.referenceLock = ((d.put K.FT_OFFSET 0).put K.FT_DEPTH 0).setFt 1 := by
      unfold Dev.referenceLock
      rw [hroot]
      dsimp only
      rw [hst, h4]
      rfl
    rw [hr, if_pos h4]
    exact goes 1
  · have hr : d.referenceLock = ((d.put K.FT_OFFSET 0).put K.FT_DEPTH 0).setFt 2 := by
      unfold Dev.referenceLock
      rw [hroot]
      dsimp only
      rw [hst, if_neg (by simp)]
      split
      next h => exact absurd h h4
      next => rfl
    rw [hr, if_neg h4]
    exact goes 2

/-- A pulse that loads what waits in FT_SET. -/
theorem Dev.ftppsEdge_loads {d : Dev} (x : Int) {v : Nat} (hr : d.get K.FT_ROLE = 1) (hp : d.ft.pend = some v) (hm : d.mayStep = true) :
    (d.ftppsEdge x).now = v % 2 ^ 64 ∧ (d.ftppsEdge x).ft.pend = none := by
  have hst : (d.pulsed (d.ppsError x)).get K.FT_STATE = d.get K.FT_STATE :=
    (d.pulsed_low (d.ppsError x) K.FT_STATE (by decide)).trans (Dev.get_put_ne _ _ (by decide))
  have hms : (d.pulsed (d.ppsError x)).mayStep = true := by
    rw [← hm]
    unfold Dev.mayStep
    rw [hst, d.pulsed_anyArmed]
  have he : d.ftppsEdge x = Dev.stepTo { d.pulsed (d.ppsError x) with ft := { (d.pulsed (d.ppsError x)).ft with pend := none } } v := by
    have hp' : (d.pulsed (d.ppsError x)).ft.pend = some v := by rw [(d.pulsed_side _).ft, hp]
    unfold Dev.ftppsEdge
    rw [if_neg (by simp [hr])]
    show (match (d.pulsed (d.ppsError x)).ft.pend with
      | some v => if (d.pulsed (d.ppsError x)).mayStep then
          Dev.stepTo { d.pulsed (d.ppsError x) with ft := { (d.pulsed (d.ppsError x)).ft with pend := none } } v
        else d.pulsed (d.ppsError x)
      | none => d.pulsed (d.ppsError x)) = _
    rw [hp']
    exact if_pos hms
  rw [he]
  exact ⟨rfl, rfl⟩

/-- The mark that a link sends. -/
def Dev.markOf (d : Dev) (l : Nat) : Mark :=
  { tx := 256 * d.now, depth := d.get K.FT_DEPTH,
    source := bit (d.get K.FT_DOWNSTREAM) l && (d.get K.FT_STATE == 2 || d.get K.FT_STATE == 3), echoValid := (d.link l).markRx.isSome,
    offset := d.ftOffset, echo := (match (d.link l).markRx with | some (t, _) => t | none => 0), echoHold := 0, rx := 0,
    reservedZero := true }

/-- Settles O26: a mark of the upstream goes through `follow`, another only through its stamps; each event is a transition of the time state. -/
theorem fabricTime : Obligations.FabricTime := by
  refine ⟨fun s l f m w e d hl hs hup hc hz hsrc hecho hrole hus hw he hlo hhi => ?_, fun s l f m w d d1 hl hs hup hc => ⟨fun hz => ?_, fun hz hno hw hd1 => ?_⟩,
    fun s l f m hl hup => ?_, ⟨fun s l hl hs hup hdue => ?_, fun s hs hst => ⟨fun hr ht => ?_, fun ht => ?_, fun hr => ?_⟩, fun s hs hst ht => ?_,
    fun s hs hr => ?_, fun s x hs hr hx hp => ?_, fun s x v hs hr hp hm => ?_⟩⟩
  · obtain ⟨hh, hx⟩ := timemark_upstream hl hs hup hc hz hsrc hecho hrole hus hw he
    obtain ⟨hn, hft, hk⟩ := d.stamped_time l m w
    have hstate : (d.stamped l m w).get K.FT_STATE = s.dev.get K.FT_STATE := (hk 5 0 (by decide)).trans (hh.time 5 0 (by decide))
    refine ⟨fun hm => ?_, fun d1 d2 hm hst hd1 hd2 => ?_⟩
    · have h := Dev.follow_leaves (d := d.stamped l m w) l hm hlo hhi
      rw [hn, hft, hh.now, hh.ft, hstate] at h
      exact ⟨_, hx, s.setDev_pending _, s.setDev_sec _, h⟩
    · have hdeep : (d.stamped l m w).ft.deep = s.dev.ft.deep := by rw [hft, hh.ft]
      rw [hx, Dev.follow_deep l (some e) hm (by rw [hstate]; exact hst), hdeep]
      have hd : d.stamped l m w = d1 := by
        rw [hd1]
        exact if_pos hecho
      rw [hd, hd2]
  · rw [exec_timemark f m hl hs, Dev.timemark_taken m hup hc, if_pos hz]
  · have hh := Dev.controlIn_heard hc
    have hw' : d.oneWay l m = w := by
      unfold Dev.oneWay
      rw [hw, hh.obj (K.LNK_ASYM l) (by simp only [K.LNK_ASYM, K.FLITS_RX]; omega)]
    rw [exec_timemark f m hl hs, Dev.timemark_taken m hup hc, if_neg (by simp [hz]), if_neg ?_, hw', hd1]
    · rfl
    · rintro ⟨h1, h2, h3⟩
      rw [show d.get K.FT_ROLE = _ from hh.time 2 0 (by decide)] at h1
      rw [show d.get K.FT_UPSTREAM = _ from hh.time 3 255 (by decide)] at h2
      obtain h | h | h := hno
      · exact h h1
      · exact h h2
      · rw [h] at h3
        cases h3
  · by_cases hs : s.stopped = false
    · rw [exec_timemark f m hl hs, Dev.timemark_notUp f m hup, State.setDev_self]
    · exact onUnit_held (f := fun d => d.timemark l f m) (decide_eq_true hl) (by simpa using hs)
  · have hx : exec (.timemarkSend l) s = .next (s.setDev (s.dev.timemarkSend l)) :=
      onUnit_next (f := fun d => d.timemarkSend l) (decide_eq_true hl) hs
    refine ⟨_, s.dev.markOf l, hx, ?_, rfl, rfl, rfl, rfl⟩
    have ht : s.dev.timemarkSend l = s.dev.setLink l { s.dev.link l with markOut := some (s.dev.markOf l), markDue := s.dev.now + 64 } :=
      if_neg (by simp [hup, hdue])
    rw [ht]
  · have hx : exec .markTimeout s = .next (s.setDev s.dev.markTimeout) := onDev_next (f := fun d => d.markTimeout) hs
    have ht : s.dev.markTimeout = s.dev.setFt 3 := if_pos (by simp [hr, hst, ht])
    rw [ht] at hx
    exact ⟨_, hx, s.setDev_pending _, s.setDev_sec _, (setFt_next s 3).1, (setFt_next s 3).2, (s.dev.setFt_leaves 3).2.2.1 rfl (by omega)⟩
  · have ht : s.dev.markTimeout = s.dev := if_neg (by simp [ht])
    have hx : exec .markTimeout s = .next (s.setDev s.dev.markTimeout) := onDev_next (f := fun d => d.markTimeout) hs
    rw [hx, ht, State.setDev_self]
  · have hx : exec .ftrefLoss s = .next (s.setDev s.dev.ftrefLoss) := onDev_next (f := fun d => d.ftrefLoss) hs
    have hroot : s.dev.isRoot = true := by
      unfold Dev.isRoot
      simpa using hr
    have ht : s.dev.ftrefLoss = s.dev.setFt 3 := if_pos (by simp [hroot, hst])
    rw [ht] at hx
    exact ⟨_, hx, s.setDev_pending _, s.setDev_sec _, setFt_next s 3⟩
  · have hx : exec .holdoverExpire s = .next (s.setDev s.dev.holdoverExpire) := onDev_next (f := fun d => d.holdoverExpire) hs
    have ht : s.dev.holdoverExpire = s.dev.setFt 4 := if_pos (by simp [hst, ht])
    rw [ht] at hx
    exact ⟨_, hx, s.setDev_pending _, s.setDev_sec _, setFt_next s 4⟩
  · have hx : exec .referenceLock s = .next (s.setDev s.dev.referenceLock) := onDev_next (f := fun d => d.referenceLock) hs
    exact ⟨_, hx, s.setDev_pending _, s.setDev_sec _, Dev.referenceLock_leaves hr⟩
  · rw [exec_ftppsEdge, onDev_next hs, Dev.ftppsEdge_pulsed x hr (.inl hp)]
    unfold Dev.pulsed
    dsimp only
    rw [if_neg (by omega)]
  · have hx : exec (.ftppsEdge x) s = .next (s.setDev (s.dev.ftppsEdge x)) := onDev_next (f := fun d => d.ftppsEdge x) hs
    exact ⟨_, hx, s.setDev_pending _, s.setDev_sec _, Dev.ftppsEdge_loads x hr hp hm⟩

end Sys2Proof.Machine
end

section
/-! Proofs: what a link holds, and what its stop and its failure leave (R365, R366). -/
namespace Sys2Proof.Machine

/-! ## Messages on a link -/

/-- A message that a link holds: not yet acknowledged, queued, or waiting at its sender. -/
def Link.load (k : Link) (m : Msg) : Prop := (∃ e ∈ k.buf, e.msg = m) ∨ (∃ e ∈ k.txq, m ∈ e.2) ∨ (∃ e ∈ k.held, m ∈ e.2)

theorem Map.mem_of_get {β : Type} {m : Map (List β)} {k : Nat} {x : β} (h : x ∈ Map.get m [] k) : ∃ e ∈ m, x ∈ e.2 := by
  induction m with
  | nil => cases h
  | cons e m ih =>
    unfold Map.get at h
    split at h
    · exact ⟨e, List.mem_cons_self, h⟩
    · obtain ⟨y, hy, hx⟩ := ih h
      exact ⟨y, List.mem_cons_of_mem _ hy, hx⟩

/-- What is listed once a value is added to a list of the map. -/
theorem Map.mem_append {β : Type} [DecidableEq β] {m : Map (List β)} {k : Nat} {v x : β} {e : Nat × List β}
    (h : e ∈ Map.set m [] k (Map.get m [] k ++ [v])) (hx : x ∈ e.2) : x = v ∨ ∃ e ∈ m, x ∈ e.2 := by
  obtain ⟨rfl, -⟩ | h := Map.mem_set h
  · obtain h | h := List.mem_append.mp hx
    · exact .inr (Map.mem_of_get h)
    · exact .inl (List.mem_singleton.mp h)
  · exact .inr ⟨e, h, hx⟩

/-- A message enqueued is the only one that a link gains. -/
theorem Dev.enqueue_load {d : Dev} {l i : Nat} {m x : Msg} (h : ((d.enqueue i m).link l).load x) : x = m ∨ (d.link l).load x := by
  have hw : ∀ l, (d.wakeDom (68 + i / 8)).link l = d.link l := fun l => by
    unfold Dev.link
    unfold Dev.wakeDom
    dsimp only
    split
    · split <;> rfl
    · split <;> rfl
  unfold Dev.enqueue at h
  dsimp only at h
  by_cases hl : l = i
  · subst hl
    split at h
    · rw [Dev.link_setLink_self] at h
      obtain h | ⟨e, he, hx⟩ | h := h
      · exact .inr (.inl (hw l ▸ h))
      · obtain rfl | h := Map.mem_append he hx
        · exact .inl rfl
        · exact .inr (.inr (.inl (hw l ▸ h)))
      · exact .inr (.inr (.inr (hw l ▸ h)))
    · rw [Dev.link_setLink_self] at h
      obtain h | h | ⟨e, he, hx⟩ := h
      · exact .inr (.inl (hw l ▸ h))
      · exact .inr (.inr (.inl (hw l ▸ h)))
      · obtain rfl | h := Map.mem_append he hx
        · exact .inl rfl
        · exact .inr (.inr (.inr (hw l ▸ h)))
  · refine .inr ?_
    split at h
    · rwa [Dev.link_setLink_ne _ _ hl, hw] at h
    · rwa [Dev.link_setLink_ne _ _ hl, hw] at h

theorem Dev.enqueue_link {d : Dev} {l i : Nat} (m : Msg) (h : l ≠ i) : (d.enqueue i m).link l = d.link l := by
  have hw : (d.wakeDom (68 + i / 8)).link l = d.link l := by
    unfold Dev.link
    unfold Dev.wakeDom
    dsimp only
    split
    · split <;> rfl
    · split <;> rfl
  unfold Dev.enqueue
  dsimp only
  split
  · rw [Dev.link_setLink_ne _ _ h, hw]
  · rw [Dev.link_setLink_ne _ _ h, hw]

/-- A message is sent over a link that is UP or in STANDBY. -/
theorem Dev.linkFor_state {d : Dev} {m : Msg} {f : Bool} {l : Nat} (h : d.linkFor m f = some l) :
    d.get (K.LNK_STATE l) = 3 ∨ d.get (K.LNK_STATE l) = 4 := by
  have up {x : Nat} (h : d.carries x m f = true) : d.get (K.LNK_STATE x) = 3 := by
    simp only [Dev.carries, Bool.and_eq_true, beq_iff_eq] at h
    exact h.1.1.1.2
  have sleeps {x : Nat} (h : d.sleeping x m f = true) : d.get (K.LNK_STATE x) = 4 := by
    simp only [Dev.sleeping, Bool.and_eq_true, beq_iff_eq] at h
    exact h.1
  unfold Dev.linkFor at h
  dsimp only at h
  split at h
  next hc => cases h; exact .inl (up (Bool.and_eq_true _ _ ▸ hc).1)
  split at h
  next hc => cases h; exact .inl (up hc)
  split at h
  next hc => cases h; exact .inr (sleeps (Bool.and_eq_true _ _ ▸ hc).1)
  split at h
  next hc => cases h; exact .inr (sleeps hc)
  next => cases h

theorem Dev.send_load {d : Dev} {l : Nat} {m x : Msg} {f : Bool} (h : ((d.send m f).1.link l).load x) : x = m ∨ (d.link l).load x := by
  unfold Dev.send at h
  split at h
  · exact Dev.enqueue_load h
  · exact .inr h

/-- A link that is neither UP nor in STANDBY takes no message up. -/
theorem Dev.send_link {d : Dev} {l : Nat} (m : Msg) (f : Bool) (h3 : d.get (K.LNK_STATE l) ≠ 3) (h4 : d.get (K.LNK_STATE l) ≠ 4) :
    (d.send m f).1.link l = d.link l := by
  unfold Dev.send
  split
  next i hi =>
    refine Dev.enqueue_link m ?_
    rintro rfl
    obtain h | h := Dev.linkFor_state hi
    · exact h3 h
    · exact h4 h
  next => rfl

/-- The record of an event adds messages of VC4 to what a link holds. -/
theorem Dev.file_load {d : Dev} {l : Nat} {i : RecInfo} {x : Msg} (h : ((d.file i).link l).load x) : x.vc = 4 ∨ (d.link l).load x := by
  unfold Dev.file at h
  extract_lets ms n lost seq r d1 d2 d3 at h
  split at h
  · exact .inr h
  · have h3 : d3.link l = d.link l := by
      unfold d3
      split <;> rfl
    unfold Dev.notify at h
    obtain rfl | h := Dev.send_load h
    · exact .inl rfl
    · exact .inr (h3 ▸ h)

/-! ## A link that stops -/

/-- Losing what the link holds completes no command of this device, and ends no ring step: it comes from others, or is neither of VC2 nor of VC3. -/
def Dev.Harmless (d : Dev) (l : Nat) : Prop := ∀ m, (d.link l).load m → m.src ≠ d.get K.DEVICE_NUMBER ∨ (m.vc ≠ 2 ∧ m.vc ≠ 3)

theorem Dev.harmless_of_foreign {d : Dev} {l : Nat} (h : d.foreignLoad l) : d.Harmless l := fun m hm => .inl (h m hm)

theorem Dev.lostMsg_harmless {d : Dev} {m : Msg} (h : m.src ≠ d.get K.DEVICE_NUMBER ∨ (m.vc ≠ 2 ∧ m.vc ≠ 3)) : d.lostMsg m = d := by
  unfold Dev.lostMsg
  dsimp only
  rw [if_neg, if_neg]
  · simp only [Bool.and_eq_true, decide_eq_true_eq]
    rintro ⟨h2, hs⟩
    obtain h | h := h
    · exact h hs
    · exact h.1 h2
  · simp only [Bool.and_eq_true, decide_eq_true_eq]
    rintro ⟨⟨h3, hs⟩, -⟩
    obtain h | h := h
    · exact h hs
    · exact h.2 h3

/-- A message that looks for another route, and is lost where there is none. -/
def Dev.reroute (d : Dev) (me : Nat) (m : Msg) : Dev := let (d, ok) := d.send m (m.src != me); if ok then d else d.lostMsg m

/-- The link that a stop leaves. -/
def Link.stopped (k : Link) (now : Nat) : Link :=
  { Link.init with inbox := k.inbox, cameAt := k.cameAt, restarts := k.restarts, trainAt := now, away := true, dropTick := k.dropTick, corr := k.corr }

/-- `b` is `a` but for messages on links other than `l`, and the domains that they wake. -/
structure Dev.Rerouted (l : Nat) (a b : Dev) : Prop where
  obj : Dev.ObjsBut wakeKey a b
  sent : Dev.Sent a b
  link : b.link l = a.link l
  load : ∀ i m, (b.link i).load m → (a.link i).load m ∨ m.src ≠ a.get K.DEVICE_NUMBER ∨ (m.vc ≠ 2 ∧ m.vc ≠ 3)

theorem Dev.reroute_leaves {d : Dev} {l me : Nat} {m : Msg} (h3 : d.get (K.LNK_STATE l) ≠ 3) (h4 : d.get (K.LNK_STATE l) ≠ 4)
    (hm : m.src ≠ d.get K.DEVICE_NUMBER ∨ (m.vc ≠ 2 ∧ m.vc ≠ 3)) : Dev.Rerouted l d (d.reroute me m) := by
  have hs : Dev.Rerouted l d (d.send m (m.src != me)).1 :=
    ⟨d.send_wakes m _, d.send_sent m _, Dev.send_link m _ h3 h4, fun i x hx => by
      obtain rfl | h := Dev.send_load hx
      · exact .inr hm
      · exact .inl h⟩
  unfold Dev.reroute
  dsimp only
  split
  · exact hs
  · rw [Dev.lostMsg_harmless]
    · exact hs
    · rw [hs.obj K.DEVICE_NUMBER (by simp only [wakeKey, K.DEVICE_NUMBER]; omega)]
      exact hm

theorem Dev.linkStop_eq {d : Dev} {l : Nat} (st : Nat) (h : d.Harmless l) :
    d.linkStop l st = ((d.link l).held.flatMap Prod.snd).foldl (fun x m => x.reroute (d.get K.DEVICE_NUMBER) m)
      ((d.setLink l ((d.link l).stopped d.now)).put (K.LNK_STATE l) st) := by
  unfold Dev.linkStop
  extract_lets k me lost wait src fresh d1 d2
  have hd : d1.get K.DEVICE_NUMBER = d.get K.DEVICE_NUMBER := Dev.get_put_ne _ _ (by simp only [K.DEVICE_NUMBER, K.LNK_STATE]; omega)
  have hlost : d2 = d1 := by
    refine List.foldlRecOn (motive := fun y => y = d1) _ _ rfl fun y hy m hm => ?_
    subst hy
    refine Dev.lostMsg_harmless ?_
    rw [hd]
    refine h m ?_
    obtain hm | hm := List.mem_append.mp (List.mem_eraseDups.mp hm)
    · obtain ⟨e, he, rfl⟩ := List.mem_map.mp hm
      exact .inl ⟨e, he, rfl⟩
    · obtain ⟨e, he, hm⟩ := List.mem_flatMap.mp hm
      exact .inr (.inl ⟨e, he, hm⟩)
  rw [hlost]
  rfl

theorem Dev.Rerouted.trans {l : Nat} {a b c : Dev} (h : Dev.Rerouted l a b) (g : Dev.Rerouted l b c) : Dev.Rerouted l a c :=
  ⟨h.obj.trans g.obj, h.sent.trans g.sent, g.link.trans h.link, fun i m hm => by
    obtain hm | hm := g.load i m hm
    · exact h.load i m hm
    · rw [h.obj K.DEVICE_NUMBER (by simp only [wakeKey, K.DEVICE_NUMBER]; omega)] at hm
      exact .inr hm⟩

/-- What a stop leaves: the link with nothing on it, in its new state; what waited goes out over others. -/
structure Dev.Stopped (l st : Nat) (a b : Dev) : Prop where
  obj : Dev.ObjsBut (fun k => wakeKey k ∨ k = (K.LNK_STATE l).key) a b
  state : b.get (K.LNK_STATE l) = st
  link : b.link l = (a.link l).stopped a.now
  sent : Dev.Sent a b
  load : ∀ i m, (b.link i).load m → (a.link i).load m ∨ m.src ≠ a.get K.DEVICE_NUMBER ∨ (m.vc ≠ 2 ∧ m.vc ≠ 3)

theorem Dev.linkStop_leaves {d : Dev} {l st : Nat} (h : d.Harmless l) (h3 : st ≠ 3) (h4 : st ≠ 4) : Dev.Stopped l st d (d.linkStop l st) := by
  rw [Dev.linkStop_eq st h]
  have hwk (k : Nat) : (K.LNK_STATE l).key = k → ¬wakeKey k := by
    rintro rfl
    simp only [wakeKey, K.LNK_STATE]
    omega
  generalize hb : (d.setLink l ((d.link l).stopped d.now)).put (K.LNK_STATE l) st = b
  have hobj : Dev.ObjsBut (fun k => wakeKey k ∨ k = (K.LNK_STATE l).key) d b := by
    rw [← hb]
    exact .trans (b := d.setLink l ((d.link l).stopped d.now)) (.of_objs rfl) (.put _ _ (.inr rfl))
  have hst : b.get (K.LNK_STATE l) = st := by rw [← hb]; exact Dev.get_put_self _ _ _
  have hlink (i : Nat) : b.link i = if i = l then (d.link l).stopped d.now else d.link i := by
    rw [← hb]
    split
    next hi => rw [hi]; exact Dev.link_setLink_self _ _ _
    next hi => exact Dev.link_setLink_ne _ _ hi
  have hdn : b.get K.DEVICE_NUMBER = d.get K.DEVICE_NUMBER := hobj _ (by simp only [wakeKey, K.DEVICE_NUMBER, K.LNK_STATE]; omega)
  have hsent : Dev.Sent d b := by rw [← hb]; rfl
  have hr : Dev.Rerouted l b (((d.link l).held.flatMap Prod.snd).foldl (fun x m => x.reroute (d.get K.DEVICE_NUMBER) m) b) := by
    refine List.foldlRecOn (motive := fun y => Dev.Rerouted l b y) _ _ ⟨.refl b, rfl, rfl, fun _ _ => .inl⟩ fun y hy m hm => ?_
    obtain ⟨e, he, hm⟩ := List.mem_flatMap.mp hm
    have hys : y.get (K.LNK_STATE l) = st := (hy.obj _ (hwk _ rfl)).trans hst
    have hyd : y.get K.DEVICE_NUMBER = d.get K.DEVICE_NUMBER :=
      (hy.obj _ (by simp only [wakeKey, K.DEVICE_NUMBER]; omega)).trans hdn
    exact hy.trans (Dev.reroute_leaves (by rw [hys]; exact h3) (by rw [hys]; exact h4) (by rw [hyd]; exact h m (.inr (.inr ⟨e, he, hm⟩))))
  refine ⟨hobj.trans (hr.obj.mono fun _ => .inl), (hr.obj _ (hwk _ rfl)).trans hst, hr.link.trans ((hlink l).trans (if_pos rfl)), hsent.trans hr.sent, ?_⟩
  intro i m hm
  obtain hm | hm := hr.load i m hm
  · rw [hlink] at hm
    split at hm
    · obtain ⟨e, he, -⟩ | ⟨e, he, -⟩ | ⟨e, he, -⟩ := hm
      · cases he
      · cases he
      · cases he
    · exact .inl hm
  · rw [hdn] at hm
    exact .inr hm

theorem Dev.Stopped.harmless {l st i : Nat} {a b : Dev} (h : Dev.Stopped l st a b) (hi : a.Harmless i) : b.Harmless i := by
  intro m hm
  rw [h.obj K.DEVICE_NUMBER (by simp only [wakeKey, K.DEVICE_NUMBER, K.LNK_STATE]; omega)]
  obtain hm | hm := h.load i m hm
  · exact hi m hm
  · exact hm

/-- A failure: the link is FAILED and counted. -/
theorem Dev.toFailed_leaves {d : Dev} {l : Nat} (h : d.Harmless l) :
    (d.toFailed l).get (K.LNK_STATE l) = 5 ∧ (d.toFailed l).get (K.FAILURES l) = addSat 32 (d.get (K.FAILURES l)) 1 ∧
    (d.toFailed l).link l = (d.link l).stopped d.now ∧
    Dev.ObjsBut (fun k => wakeKey k ∨ k = (K.LNK_STATE l).key ∨ k = (K.FAILURES l).key) d (d.toFailed l) := by
  have hs := Dev.linkStop_leaves (st := 5) h (by decide) (by decide)
  have hne : (K.LNK_STATE l).key ≠ (K.FAILURES l).key := by simp only [K.LNK_STATE, K.FAILURES]; omega
  refine ⟨(Dev.get_put_ne _ _ hne).trans hs.state, (Dev.get_put_self _ _ _).trans ?_, hs.link, ?_⟩
  · rw [hs.obj (K.FAILURES l) (by simp only [wakeKey, K.LNK_STATE, K.FAILURES]; omega)]
  · exact (hs.obj.mono fun k hk => hk.elim .inl fun h => .inr (.inl h)).trans (.put _ _ (.inr (.inr rfl)))

theorem Dev.linkRecord_harmless {d : Dev} {l i kind reason count : Nat} (h : d.Harmless i) : (d.linkRecord l kind reason count).Harmless i := by
  intro m hm
  rw [show (d.linkRecord l kind reason count).get K.DEVICE_NUMBER = d.get K.DEVICE_NUMBER from
    d.file_objs _ _ (by simp only [recordKey, K.DEVICE_NUMBER]; omega)]
  obtain hm | hm := Dev.file_load hm
  · exact .inr ⟨by omega, by omega⟩
  · exact h m hm

end Sys2Proof.Machine
end

section
/-! Proofs: training, standby, failure and the return of routes (R339, R351, R353, R361, R366, R367). -/
namespace Sys2Proof.Machine

section
variable {s : State} {l : Nat} (hl : l < 64) (hs : s.stopped = false)
include hl hs

theorem exec_linkTrain : exec (.linkTrain l) s = .next (s.setDev (s.dev.linkTrain l)) := onUnit_next (f := fun d => d.linkTrain l) (decide_eq_true hl) hs
theorem exec_trainingTimeout : exec (.trainingTimeout l) s = .next (s.setDev (s.dev.trainingTimeout l)) :=
  onUnit_next (f := fun d => d.trainingTimeout l) (decide_eq_true hl) hs
theorem exec_failedRetry : exec (.failedRetry l) s = .next (s.setDev (s.dev.failedRetry l)) :=
  onUnit_next (f := fun d => d.failedRetry l) (decide_eq_true hl) hs
theorem exec_linkFail (r : Nat) : exec (.linkFail l r) s = .next (s.setDev (s.dev.linkFail l r)) :=
  onUnit_next (f := fun d => d.linkFail l r) (decide_eq_true hl) hs
theorem exec_framingRetrain : exec (.framingRetrain l) s = .next (s.setDev (s.dev.framingRetrain l)) :=
  onUnit_next (f := fun d => d.framingRetrain l) (decide_eq_true hl) hs
theorem exec_ackDeadlineExpire : exec (.ackDeadlineExpire l) s = .next (s.setDev (s.dev.ackDeadlineExpire l)) :=
  onUnit_next (f := fun d => d.ackDeadlineExpire l) (decide_eq_true hl) hs
theorem exec_routeReturn : exec (.routeReturn l) s = .next (s.setDev (s.dev.routeReturn l)) :=
  onUnit_next (f := fun d => d.routeReturn l) (decide_eq_true hl) hs
theorem exec_standbyStart : exec (.standbyStart l) s = .next (s.setDev (s.dev.standbyStart l)) :=
  onUnit_next (f := fun d => d.standbyStart l) (decide_eq_true hl) hs
theorem exec_standbyReq (f : Flit) : exec (.standbyReq ⟨l, f⟩) s = .next (s.setDev (s.dev.standbyReq l f)) :=
  onUnit_next (f := fun d => d.standbyReq l f) (decide_eq_true hl) hs
theorem exec_standbyAck (f : Flit) : exec (.standbyAck ⟨l, f⟩) s = .next (s.setDev (s.dev.standbyAck l f)) :=
  onUnit_next (f := fun d => d.standbyAck l f) (decide_eq_true hl) hs
theorem exec_standbyNak (f : Flit) : exec (.standbyNak ⟨l, f⟩) s = .next (s.setDev (s.dev.standbyNak l f)) :=
  onUnit_next (f := fun d => d.standbyNak l f) (decide_eq_true hl) hs

end

/-! ## Training (R353) -/

theorem Dev.linkTrain_barred {d : Dev} {l : Nat} (h : d.mayTrain l = false) : d.linkTrain l = d := by
  unfold Dev.linkTrain
  rw [h]
  rfl

section
variable {d : Dev} {l : Nat} (h : d.mayTrain l = true)
include h

theorem Dev.linkTrain_eq : d.linkTrain l = match d.get (K.LNK_STATE l) with
    | 0 => d.startTraining l
    | 1 =>
      if (d.link l).goodGroups < 64 then d else
      (if d.get K.CFG_NUMBER ≠ 0xFFFF && !d.flag K.NUM_ASSIGNED then
          (d.put K.DEVICE_NUMBER (d.get K.CFG_NUMBER)).put K.NUM_ASSIGNED 1 else d).put (K.LNK_STATE l) 2
    | 4 => (match (d.link l).offered with | some n => d.linkUp l n | none => d.startTraining l)
    | _ => d := by
  unfold Dev.linkTrain
  rw [h]
  rfl

theorem Dev.linkTrain_down (hs : d.get (K.LNK_STATE l) = 0) : d.linkTrain l = d.startTraining l := by
  simp only [Dev.linkTrain_eq h, hs]

theorem Dev.linkTrain_early (hs : d.get (K.LNK_STATE l) = 1) (hg : (d.link l).goodGroups < 64) : d.linkTrain l = d := by
  rw [Dev.linkTrain_eq h, hs]
  exact if_pos hg

theorem Dev.linkTrain_locked (hs : d.get (K.LNK_STATE l) = 1) (hg : 64 ≤ (d.link l).goodGroups) :
    d.linkTrain l = (if d.get K.CFG_NUMBER ≠ 0xFFFF && !d.flag K.NUM_ASSIGNED then
      (d.put K.DEVICE_NUMBER (d.get K.CFG_NUMBER)).put K.NUM_ASSIGNED 1 else d).put (K.LNK_STATE l) 2 := by
  rw [Dev.linkTrain_eq h, hs]
  exact if_neg (by omega)

theorem Dev.linkTrain_standby {n : Nego} (hs : d.get (K.LNK_STATE l) = 4) (hn : (d.link l).offered = some n) : d.linkTrain l = d.linkUp l n := by
  rw [Dev.linkTrain_eq h, hs]
  show (match (d.link l).offered with | some n => d.linkUp l n | none => d.startTraining l) = _
  rw [hn]

theorem Dev.linkTrain_other (hs : d.get (K.LNK_STATE l) = 2 ∨ d.get (K.LNK_STATE l) = 3 ∨ 5 ≤ d.get (K.LNK_STATE l)) : d.linkTrain l = d := by
  rw [Dev.linkTrain_eq h]
  split
  · omega
  · omega
  · omega
  · rfl

end

theorem Dev.linkUp_leaves (d : Dev) (l : Nat) (n : Nego) : (d.linkUp l n).get (K.LNK_STATE l) = 3 ∧ ((d.linkUp l n).link l).seq = 0 ∧
    ((d.linkUp l n).link l).ack = 4095 ∧ ((d.linkUp l n).link l).buf = [] := by
  have hk : (d.linkUp l n).link l = _ := Dev.link_setLink_self d l _
  exact ⟨Dev.get_put_self _ _ _, by rw [hk], by rw [hk], by rw [hk]⟩

theorem Dev.startTraining_leaves (d : Dev) (l : Nat) : (d.startTraining l).get (K.LNK_STATE l) = 1 ∧ ((d.startTraining l).link l).trainAt = d.now ∧
    ∀ o : Obj, o.key ≠ (K.LNK_STATE l).key → (d.startTraining l).get o = d.get o := by
  have hk : (d.startTraining l).link l = _ := Dev.link_setLink_self d l _
  exact ⟨Dev.get_put_self _ _ _, by rw [hk], fun o ho => Dev.get_put_ne _ _ ho⟩

/-- TRAINING_TIMEOUT that is due: a restart counted; the third in a row is a failure. -/
theorem Dev.trainingTimeout_due {d : Dev} {l : Nat} (hst : d.get (K.LNK_STATE l) = 1 ∨ d.get (K.LNK_STATE l) = 2)
    (ht : (d.link l).trainAt + 625000 ≤ d.now) (hf : d.foreignLoad l) :
    (d.trainingTimeout l).get (K.NEG_RESTARTS l) = addSat 32 (d.get (K.NEG_RESTARTS l)) 1 ∧
    (d.trainingTimeout l).get (K.LNK_STATE l) = (if 2 ≤ (d.link l).restarts then 5 else 1) ∧
    (d.trainingTimeout l).get (K.FAILURES l) =
      (if 2 ≤ (d.link l).restarts then addSat 32 (d.get (K.FAILURES l)) 1 else d.get (K.FAILURES l)) := by
  have hne : (K.NEG_RESTARTS l).key ≠ (K.LNK_STATE l).key := by simp only [K.LNK_STATE, K.NEG_RESTARTS]; omega
  have hne' : (K.FAILURES l).key ≠ (K.NEG_RESTARTS l).key := by simp only [K.FAILURES, K.NEG_RESTARTS]; omega
  have hne2 : (K.FAILURES l).key ≠ (K.LNK_STATE l).key := by simp only [K.FAILURES, K.LNK_STATE]; omega
  unfold Dev.trainingTimeout
  extract_lets k d1
  have hdn : d1.get K.DEVICE_NUMBER = d.get K.DEVICE_NUMBER := Dev.get_put_ne _ _ (by simp only [K.DEVICE_NUMBER, K.NEG_RESTARTS]; omega)
  have hnr : d1.get (K.NEG_RESTARTS l) = addSat 32 (d.get (K.NEG_RESTARTS l)) 1 := Dev.get_put_self _ _ _
  have hfl : d1.get (K.FAILURES l) = d.get (K.FAILURES l) := Dev.get_put_ne _ _ hne'
  have ht' : k.trainAt + 625000 ≤ d.now := ht
  rw [if_neg (by simp only [Bool.or_eq_true, Bool.not_eq_true', Bool.or_eq_false_iff, decide_eq_true_eq, decide_eq_false_iff_not]; omega)]
  by_cases hr : 2 ≤ k.restarts
  · rw [if_pos hr, if_pos hr, if_pos hr]
    have hharm : (d1.setLink l { k with restarts := 0 }).Harmless l := by
      intro m hm
      rw [Dev.link_setLink_self] at hm
      refine .inl ?_
      show m.src ≠ d1.get K.DEVICE_NUMBER
      rw [hdn]
      exact hf m hm
    obtain ⟨h5, hfail, -, hobj⟩ := Dev.toFailed_leaves hharm
    refine ⟨(hobj _ ?_).trans hnr, h5, hfail.trans (congrArg (addSat 32 · 1) hfl)⟩
    simp only [wakeKey, K.NEG_RESTARTS, K.LNK_STATE, K.FAILURES]
    omega
  · rw [if_neg hr, if_neg hr, if_neg hr]
    obtain ⟨h1, -, hobj⟩ := (d1.setLink l { k with restarts := k.restarts + 1 }).startTraining_leaves l
    exact ⟨(hobj _ hne).trans hnr, h1, (hobj _ hne2).trans hfl⟩

/-! ## Failure (R339, R351, R366) -/

/-- What LINK_FAIL's reason asks. -/
def Dev.failHolds (d : Dev) (l r : Nat) : Prop :=
  r = 3 ∨ (r = 4 ∧ 4 ≤ (d.link l).badGroups) ∨ (r = 2 ∧ (d.link l).lastRx + 125 ≤ d.now) ∨ (r = 1 ∧ d.replayDead (d.link l) = true)

/-- A link that is UP and fails: FAILED, counted, nothing left on it. -/
theorem Dev.linkFail_fails {d : Dev} {l r : Nat} (hst : d.get (K.LNK_STATE l) = 3) (hf : d.foreignLoad l) (hr : d.failHolds l r) :
    (d.linkFail l r).get (K.LNK_STATE l) = 5 ∧ (d.linkFail l r).get (K.FAILURES l) = addSat 32 (d.get (K.FAILURES l)) 1 ∧
    ((d.linkFail l r).link l).buf = [] ∧ ((d.linkFail l r).link l).txq = [] ∧ ((d.linkFail l r).link l).away = true := by
  have he : d.linkFail l r = (d.linkRecord l 1 r (d.link l).pendingFlits).toFailed l := by
    unfold Dev.linkFail
    extract_lets k holds
    have hh : holds = true := by
      unfold holds
      obtain rfl | ⟨rfl, h⟩ | ⟨rfl, h⟩ | ⟨rfl, h⟩ := hr
      · rfl
      · exact decide_eq_true h
      · exact decide_eq_true h
      · exact h
    rw [if_neg (by simp [hst, hh])]
  obtain ⟨h5, hfail, hlink, -⟩ := Dev.toFailed_leaves (Dev.linkRecord_harmless (kind := 1) (reason := r) (count := (d.link l).pendingFlits)
    (Dev.harmless_of_foreign hf))
  rw [he, hlink, hfail]
  refine ⟨h5, congrArg (addSat 32 · 1) ?_, rfl, rfl, rfl⟩
  exact d.file_objs _ _ (by simp only [recordKey, K.FAILURES]; omega)

theorem Dev.linkFail_early {d : Dev} {l : Nat} (h : d.now < (d.link l).lastRx + 125) : d.linkFail l 2 = d :=
  if_pos (by simp [h])

theorem Dev.linkFail_framed {d : Dev} {l : Nat} (h : (d.link l).badGroups < 4) : d.linkFail l 4 = d :=
  if_pos (by simp [h])

/-! ## Standby (R361) -/

section
variable {d t : Dev} {l : Nat} {f : Flit} (hup : d.get (K.LNK_STATE l) = 3) (hc : d.controlIn l f = (true, t))
include hup hc

theorem Dev.standbyReq_taken : d.standbyReq l f =
    if (t.link l).queued || t.timePath l || t.get (K.DOM_STATE (portDom l)) = 0 then t.setLink l { t.link l with ctl := (t.link l).ctl ++ [3] }
    else if (t.link l).buf.isEmpty then t.setLink l { t.link l with ctl := (t.link l).ctl ++ [2], standby := 2, sbSlots := 16 }
    else t.setLink l { t.link l with standby := 4 } := by
  unfold Dev.standbyReq
  rw [if_neg (by simp [hup]), hc]

theorem Dev.standbyAck_taken : d.standbyAck l f =
    if (t.link l).standby = 1 && t.now ≤ (t.link l).sbTick - 1 + 125 && !(t.link l).queued then t.setLink l { t.link l with standby := 2, sbSlots := 16 }
    else t := by
  unfold Dev.standbyAck
  rw [if_neg (by simp [hup]), hc]

theorem Dev.standbyNak_taken : d.standbyNak l f = if (t.link l).standby = 1 then t.setLink l { t.link l with standby := 0 } else t := by
  unfold Dev.standbyNak
  rw [if_neg (by simp [hup]), hc]

end

/-- Settles O36: each command's effect by its own lemma; what stops a link goes through `linkStop`. -/
theorem linkStates : Obligations.LinkStates := by
  refine ⟨fun s l hl hs => ⟨fun hon hen hrec => ?_, fun hno => ?_, fun hst ht hf => ?_, fun ht => ?_⟩, fun s l hl hs hup => ⟨?_, fun f d hc => ?_⟩,
    fun s l hl hs => ⟨?_, ?_, ?_, ?_, ?_, ?_, ?_, ?_⟩⟩
  · have hmay : s.dev.mayTrain l = true := by
      unfold Dev.mayTrain
      rw [hon, hen, hrec]
      rfl
    refine ⟨fun h0 => ?_, fun h1 hg => ?_, fun h => ?_, fun h1 hg h => ?_, fun h1 hg hn hcfg => ?_, fun n h4 hn => ?_, fun h5 ht => ?_, fun ht => ?_⟩
    · rw [exec_linkTrain hl hs, Dev.linkTrain_down hmay h0]
      rfl
    · rw [exec_linkTrain hl hs, Dev.linkTrain_early hmay h1 hg, State.setDev_self]
    · rw [exec_linkTrain hl hs, Dev.linkTrain_other hmay h, State.setDev_self]
    · rw [exec_linkTrain hl hs, Dev.linkTrain_locked hmay h1 hg, if_neg]
      obtain h | h := h
      · simp [h]
      · simp [h]
    · rw [exec_linkTrain hl hs, Dev.linkTrain_locked hmay h1 hg, if_pos (by simp [hn, hcfg])]
    · refine ⟨_, exec_linkTrain hl hs, s.setDev_pending _, s.setDev_sec _, ?_⟩
      rw [State.setDev_dev, Dev.linkTrain_standby hmay h4 hn]
      exact s.dev.linkUp_leaves l n
    · have he : s.dev.failedRetry l = s.dev.startTraining l := if_neg (by simp [h5, hmay, ht])
      refine ⟨_, exec_failedRetry hl hs, s.setDev_pending _, s.setDev_sec _, ?_⟩
      rw [State.setDev_dev, he]
      obtain ⟨h1, h2, -⟩ := s.dev.startTraining_leaves l
      exact ⟨h1, h2⟩
    · have he : s.dev.failedRetry l = s.dev := if_pos (by simp [ht])
      rw [exec_failedRetry hl hs, he, State.setDev_self]
  · have hmay : s.dev.mayTrain l = false := by
      unfold Dev.mayTrain
      obtain h | h := hno
      · simp [h]
      · simp [h]
    rw [exec_linkTrain hl hs, Dev.linkTrain_barred hmay, State.setDev_self]
  · exact ⟨_, exec_trainingTimeout hl hs, s.setDev_pending _, s.setDev_sec _, Dev.trainingTimeout_due hst ht hf⟩
  · have he : s.dev.trainingTimeout l = s.dev := if_pos (by simp [ht])
    rw [exec_trainingTimeout hl hs, he, State.setDev_self]
  · intro hpath hsl hbuf hq hsb htick
    have he : s.dev.standbyStart l = s.dev.setLink l { s.dev.link l with ctl := (s.dev.link l).ctl ++ [1], standby := 1, sbTick := s.dev.now + 1 } :=
      if_neg (by simp [hup, hpath, hsl, hbuf, hq, htick]; omega)
    rw [exec_standbyStart hl hs, he]
  · have hreq := Dev.standbyReq_taken hup hc
    have hack := Dev.standbyAck_taken hup hc
    have hnak := Dev.standbyNak_taken hup hc
    rw [exec_standbyReq hl hs, exec_standbyAck hl hs, exec_standbyNak hl hs, hreq, hack, hnak]
    refine ⟨fun h => ?_, fun hq hp hd hb => ?_, fun hq hp hd hb => ?_, fun h1 ht hq => ?_, fun h => ?_, fun h => ?_, fun h => ?_⟩
    · rw [if_pos]
      obtain h | h | h := h
      · simp [h]
      · simp [h]
      · simp [portDom, h]
    · rw [if_neg (by simp [portDom, hq, hp, hd]), if_pos (by simp [hb])]
    · rw [if_neg (by simp [portDom, hq, hp, hd]), if_neg (by simpa using hb)]
    · rw [if_pos (by simp [h1, ht, hq])]
    · rw [if_neg]
      obtain h | h | h := h
      · simp [h]
      · simp only [Bool.and_eq_true, decide_eq_true_eq]
        omega
      · simp [h]
    · rw [if_pos h]
    · rw [if_neg h]
  · intro r hst hf hr
    exact ⟨_, exec_linkFail hl hs r, s.setDev_pending _, s.setDev_sec _, Dev.linkFail_fails hst hf hr⟩
  · intro h
    rw [exec_linkFail hl hs, Dev.linkFail_early h, State.setDev_self]
  · intro h
    have he : s.dev.framingRetrain l = s.dev := if_pos h
    rw [exec_framingRetrain hl hs, he, exec_linkFail hl hs, Dev.linkFail_framed h, State.setDev_self]
    exact ⟨rfl, rfl⟩
  · intro hst hb hf
    have he : s.dev.framingRetrain l = s.dev.linkFail l 4 := by
      unfold Dev.framingRetrain
      rw [if_neg (by omega), hst]
      rfl
    refine ⟨_, exec_framingRetrain hl hs, s.setDev_pending _, s.setDev_sec _, ?_⟩
    rw [State.setDev_dev, he]
    exact (Dev.linkFail_fails hst hf (.inr (.inl ⟨rfl, hb⟩))).1
  · intro hst hb
    have he : s.dev.framingRetrain l = (s.dev.setLink l { s.dev.link l with
        offered := none, sentAcc := false, gotAcc := false, neg := none, rxCount := none, goodGroups := 0, badGroups := 0 }).put (K.LNK_STATE l) 1 := by
      unfold Dev.framingRetrain
      rw [if_neg (by omega), hst]
      rfl
    rw [exec_framingRetrain hl hs, he]
  · rintro hst ⟨e, he, hd⟩ hdead
    have h1 : (s.dev.link l).buf.any (fun e => decide (e.last + 125 ≤ s.dev.now)) = true :=
      List.any_eq_true.mpr ⟨e, he, decide_eq_true hd⟩
    have he : s.dev.ackDeadlineExpire l = s.dev.setLink l { s.dev.link l with replay := some 0 } := by
      unfold Dev.ackDeadlineExpire
      dsimp only
      rw [if_neg (by simp [hst, h1]), if_neg (by simp [hdead])]
    rw [exec_ackDeadlineExpire hl hs, he]
  · rintro hst ⟨e, he, hd, htries⟩ hf
    have h1 : (s.dev.link l).buf.any (fun e => decide (e.last + 125 ≤ s.dev.now)) = true :=
      List.any_eq_true.mpr ⟨e, he, decide_eq_true hd⟩
    have hdead : s.dev.replayDead (s.dev.link l) = true := List.any_eq_true.mpr ⟨e, he, by simp [htries, hd]⟩
    have hx : s.dev.ackDeadlineExpire l = s.dev.linkFail l 1 := by
      unfold Dev.ackDeadlineExpire
      dsimp only
      rw [if_neg (by simp [hst, h1]), if_pos hdead]
    refine ⟨_, exec_ackDeadlineExpire hl hs, s.setDev_pending _, s.setDev_sec _, ?_⟩
    rw [State.setDev_dev, hx]
    exact (Dev.linkFail_fails hst hf (.inr (.inr (.inr ⟨rfl, hdead⟩)))).1
  · intro hst ha ht
    have he : s.dev.routeReturn l = (s.dev.setLink l { s.dev.link l with away := false }).linkRecord l 4 0 0 := if_neg (by simp [hst, ha, ht])
    rw [exec_routeReturn hl hs, he]

end Sys2Proof.Machine
end

section
/-! Proofs: the line coding of the links, and a flit's place in its group (R337 to R339). -/
namespace Sys2Proof.Machine

/-! ## Framing, blocks and messages (R337) -/

theorem framing_fields (c : Nat) : framing c % 2 ^ 32 = 0x5C3A96F1 ∧ framing c / 2 ^ 32 = c % 2 ^ 48 := by
  unfold framing
  constructor <;> omega

/-- A number written digit by digit in base `b`, the least first, has those digits. -/
theorem digit_of_foldr {b : Nat} {f : Nat → Nat} (hf : ∀ i, f i < b) (l : List Nat) (k : Nat) (hk : k < l.length) :
    l.foldr (fun i m => f i + b * m) 0 / b ^ k % b = f l[k] := by
  have hb : 0 < b := Nat.zero_lt_of_lt (hf 0)
  induction l generalizing k with
  | nil => cases hk
  | cons a l ih =>
    cases k with
    | zero => simp [Nat.mod_eq_of_lt (hf a)]
    | succ k =>
      have hq : (f a + b * l.foldr (fun i m => f i + b * m) 0) / b = l.foldr (fun i m => f i + b * m) 0 := by
        rw [Nat.add_mul_div_left _ _ hb, Nat.div_eq_of_lt (hf a), Nat.zero_add]
      rw [List.foldr_cons, Nat.pow_succ', ← Nat.div_div_eq_div_mul, hq]
      exact ih k (by simpa using hk)

theorem ofLE_lt (bs : List Nat) : ofLE bs < 256 ^ bs.length := by
  induction bs with
  | nil => simp [ofLE]
  | cons b r ih =>
    show b % 256 + 256 * ofLE r < 256 ^ (r.length + 1)
    rw [Nat.pow_succ]
    omega

/-- A block has 257 bits. -/
theorem block_lt (c : Nat) (fl : List (List Nat)) (b : Nat) : block c fl b < 2 ^ 257 := by
  have h := ofLE_lt (((fl.getD (b / 8) []).drop (32 * (b % 8))).take 32)
  have hl : (((fl.getD (b / 8) []).drop (32 * (b % 8))).take 32).length ≤ 32 := List.length_take_le _ _
  have h2 : 256 ^ (((fl.getD (b / 8) []).drop (32 * (b % 8))).take 32).length ≤ 256 ^ 32 := Nat.pow_le_pow_right (by omega) hl
  unfold block
  omega

/-- The same in fields of `w` bits. -/
theorem bits_of_foldr {w : Nat} {f : Nat → Nat} (hf : ∀ i, f i < 2 ^ w) {n i : Nat} (hi : i < n) :
    (List.range n).foldr (fun i m => f i + 2 ^ w * m) 0 / 2 ^ (w * i) % 2 ^ w = f i := by
  have h := digit_of_foldr hf (List.range n) i (by simpa using hi)
  rw [Nat.pow_mul, h, List.getElem_range]

theorem groupMessage_block (c : Nat) (fl : List (List Nat)) (j : Nat) {i : Nat} (hi : i < 20) :
    groupMessage c fl j / 2 ^ (257 * i) % 2 ^ 257 = block c fl (20 * j + i) :=
  bits_of_foldr (f := fun i => block c fl (20 * j + i)) (fun _ => block_lt _ _ _) hi

/-! ## Parity -/

theorem polyTimes_length (p : List Nat) (r : Nat) : (polyTimes p r).length = p.length + 1 := by simp [polyTimes]

theorem rsGenerator_length : rsGenerator.length = 31 := by
  have key (n : Nat) : ((List.range n).foldl (fun (s : List Nat × Nat) _ => (polyTimes s.1 s.2, gfMul 2 s.2)) ([1], 1)).1.length = n + 1 := by
    induction n with
    | zero => rfl
    | succ n ih => rw [List.range_succ, List.foldl_append, List.foldl_cons, List.foldl_nil, polyTimes_length, ih]
  exact key 30

theorem rsParity_length (msg : List Nat) : (rsParity msg).length = 30 := by
  unfold rsParity
  refine List.foldlRecOn (motive := fun r : List Nat => r.length = 30) _ _ (List.length_replicate ..) fun r hr m _ => ?_
  simp [hr, rsGenerator_length]

/-! ## Lanes (R338) -/

/-- Of four symbols of a lane in a row, each of the four codewords has one. -/
theorem laneWord_countP {l j : Nat} (hl : l < 4) (hj : j < 4) (p n : Nat) :
    (List.range (4 * n)).countP (fun i => laneWord l (p + i) == j) = n := by
  induction n with
  | zero => rfl
  | succ n ih =>
    have four : (List.range 4).countP (fun i => laneWord l (p + (4 * n + i)) == j) = 1 := by
      have hm : ∀ i, laneWord l (p + (4 * n + i)) = laneWord l (p % 4 + i) := fun i => by unfold laneWord; omega
      simp only [hm]
      have hp : p % 4 < 4 := Nat.mod_lt _ (by omega)
      generalize p % 4 = q at hp
      interval_cases l <;> interval_cases j <;> interval_cases q <;> rfl
    have hr : List.range (4 * (n + 1)) = List.range (4 * n) ++ (List.range 4).map (4 * n + ·) := List.range_add ..
    rw [hr, List.countP_append, ih, List.countP_map]
    exact congrArg (n + ·) four

/-- A burst of `n` symbols of one lane has at most every fourth, rounded up, of one codeword. -/
theorem laneWord_burst {l : Nat} (hl : l < 4) (p n j : Nat) : (List.range n).countP (fun i => laneWord l (p + i) == j) ≤ ceilDiv n 4 := by
  by_cases hj : j < 4
  · have hn : n ≤ 4 * ceilDiv n 4 := by unfold ceilDiv; omega
    calc (List.range n).countP (fun i => laneWord l (p + i) == j)
        ≤ (List.range (4 * ceilDiv n 4)).countP (fun i => laneWord l (p + i) == j) :=
          (List.range_sublist.mpr hn).countP_le
      _ = ceilDiv n 4 := laneWord_countP hl hj p _
  · have hz : (List.range n).countP (fun i => laneWord l (p + i) == j) = 0 := by
      refine List.countP_eq_zero.mpr fun i _ => ?_
      have : laneWord l (p + i) < 4 := Nat.mod_lt _ (by omega)
      simp only [beq_iff_eq]
      omega
    omega

/-- What the lanes carry gives a codeword back. -/
theorem wordFromLanes_laneSymbols {ws : List (List Nat)} {j : Nat} {w : List Nat} (hj : j < 4) (hw : ws[j]? = some w) (hl : w.length = 544) :
    wordFromLanes (laneSymbols ws) j = w := by
  have hlane (p : Nat) : laneWord ((j + p) % 4) p = j := by unfold laneWord; omega
  refine List.ext_getElem (by simp [wordFromLanes, hl]) fun p h1 h2 => ?_
  have hp : p < 544 := by rw [← hl]; exact h2
  have hr : (j + p) % 4 < 4 := Nat.mod_lt _ (by omega)
  have hget : ws.getD j [] = w := by simp [List.getD, hw]
  simp only [wordFromLanes, laneSymbols, List.getElem_map, List.getElem_range, List.getD_eq_getElem?_getD, List.getElem?_map,
    List.getElem?_range hr, List.getElem?_range hp, Option.map_some, Option.getD_some, hlane]
  rw [hw]
  simp [h2]

/-! ## A flit takes its place (R337, R338) -/

theorem groupWords_length {c : Nat} {fl : List (List Nat)} {j : Nat} {w : List Nat} (h : (groupWords c fl)[j]? = some w) : w.length = 544 := by
  obtain ⟨i, -, rfl⟩ := List.mem_map.mp (List.mem_of_getElem? h)
  simp [codeword, messageSymbols, rsParity_length]

theorem Link.putFlit_within {k : Link} (f : Flit) (h : k.txGrp.length < 9) : k.putFlit f = { k with txGrp := k.txGrp ++ [f] } :=
  if_pos (by simp; omega)

theorem Link.putFlit_tenth {k : Link} (f : Flit) (h : k.txGrp.length = 9) : k.putFlit f =
    { k with txGrp := [], txCount := (k.txCount + 1) % 2 ^ 48, lanes := laneSymbols (groupWords k.txCount ((k.txGrp ++ [f]).map flitBytes)) } :=
  if_neg (by simp [h])

/-! ## Receipt (R339) -/

theorem Link.framed_clean {k : Link} (h : k.rxCount.getD 0 < 2 ^ 48) : k.framed k.cleanFec.frame = true := by
  obtain ⟨h1, h2⟩ := framing_fields (k.rxCount.getD 0)
  have hf : k.cleanFec.frame = framing (k.rxCount.getD 0) := rfl
  unfold Link.framed
  rw [hf, h1, h2]
  cases hc : k.rxCount with
  | none => rfl
  | some c =>
    rw [hc] at h
    have hc : c % 2 ^ 48 = c := Nat.mod_eq_of_lt h
    rw [Option.getD_some, hc]
    simp only [beq_self_eq_true, Bool.true_and, beq_iff_eq]
    exact hc

/-- In a group without a finding, with `n` of its flits come, and the link's groups as `k` has them. -/
structure Link.Within (k x : Link) (n : Nat) : Prop where
  slot : x.rxSlot = n
  grp : x.grpBad = false
  cw : x.cwBad = false
  flaw : x.grpFlaw = false
  good : x.goodGroups = k.goodGroups

/-- The first flit of a group whose framing matches. -/
theorem Link.arrive_first {k : Link} {up : Bool} {e : Fec} (hs : k.rxSlot = 0) (hu : e.uncorrectable = false) (hf : k.framed e.frame = true) :
    Link.Within k (k.arrive up e).2 1 := by
  have hw : k.wordStarts = true := by simp [Link.wordStarts, hs]
  constructor <;> simp [Link.arrive, hs, hf, hw, hu]

theorem Link.arrive_next {k x : Link} {up : Bool} {e : Fec} {n : Nat} (h : Link.Within k x n) (hu : e.uncorrectable = false) (h0 : 0 < n) (hn : n < 9) :
    Link.Within k (x.arrive up e).2 (n + 1) := by
  obtain ⟨hs, hg, hc, hf, hk⟩ := h
  have hn0 : n ≠ 0 := by omega
  have hm : (n + 1) % 10 = n + 1 := Nat.mod_eq_of_lt (by omega)
  constructor <;> simp [Link.arrive, hs, hg, hc, hf, hk, hu, hn, hn0, hm]

/-- The tenth completes a good group. -/
theorem Link.arrive_tenth {k x : Link} {up : Bool} {e : Fec} (h : Link.Within k x 9) (hu : e.uncorrectable = false) :
    (x.arrive up e).2.goodGroups = k.goodGroups + 1 ∧ (x.arrive up e).2.badGroups = 0 ∧ (x.arrive up e).2.rxSlot = 0 := by
  obtain ⟨hs, hg, hc, hf, hk⟩ := h
  refine ⟨?_, ?_, ?_⟩ <;> simp [Link.arrive, hs, hg, hc, hf, hk, hu]

theorem Link.arrive_ten {k : Link} (up : Bool) {e : Fec} (hs : k.rxSlot = 0) (hu : e.uncorrectable = false) (hf : k.framed e.frame = true) (n : Nat)
    (hn : n < 9) : Link.Within k ((List.range (n + 1)).foldl (fun (x : Link) _ => (x.arrive up e).2) k) (n + 1) := by
  induction n with
  | zero => exact Link.arrive_first hs hu hf
  | succ n ih =>
    rw [List.range_succ, List.foldl_append]
    exact Link.arrive_next (ih (by omega)) hu (by omega) (by omega)

/-- Ten flits in a row without a finding are one more good group. -/
theorem Link.arrive_group {k : Link} (up : Bool) {e : Fec} (hs : k.rxSlot = 0) (hu : e.uncorrectable = false) (hf : k.framed e.frame = true) :
    ((List.range 10).foldl (fun (x : Link) _ => (x.arrive up e).2) k).goodGroups = k.goodGroups + 1 ∧
    ((List.range 10).foldl (fun (x : Link) _ => (x.arrive up e).2) k).badGroups = 0 ∧
    ((List.range 10).foldl (fun (x : Link) _ => (x.arrive up e).2) k).rxSlot = 0 := by
  have h9 := Link.arrive_ten up hs hu hf 8 (by decide)
  have hr : (List.range 10).foldl (fun (x : Link) _ => (x.arrive up e).2) k =
      (((List.range 9).foldl (fun (x : Link) _ => (x.arrive up e).2) k).arrive up e).2 := by
    rw [List.range_succ, List.foldl_append, List.foldl_cons, List.foldl_nil]
  rw [hr]
  exact Link.arrive_tenth h9 hu

/-- What receipt says of a flit, and the marks that it leaves of its group and its codeword. -/
theorem Link.arrive_marks (k : Link) (up : Bool) (e : Fec) :
    (k.arrive up e).2.grpBad = (if k.rxSlot = 0 then !k.framed e.frame else k.grpBad) ∧
    (k.arrive up e).2.cwBad = (if k.wordStarts then e.uncorrectable else k.cwBad) ∧
    (k.arrive up e).1 = ((if k.rxSlot = 0 then !k.framed e.frame else k.grpBad) || (if k.wordStarts then e.uncorrectable else k.cwBad) ||
      ((decide (k.rxSlot = 2) || decide (k.rxSlot = 7)) && k.cwBad)) := by
  unfold Link.arrive
  dsimp only
  split <;> exact ⟨rfl, rfl, rfl⟩

/-- Settles O38: the digits of a message, the parity's length, the lanes' rotation, and receipt by the slots of a group. -/
theorem lineCoding : Obligations.LineCoding := by
  refine ⟨framing_fields, fun c fl j i _ hi => groupMessage_block c fl j hi, fun m => ?_, fun l j hl hj => ?_, fun l p n j hl => laneWord_burst hl p n j,
    fun ws j w hj hw hl => wordFromLanes_laneSymbols hj hw hl, fun k f => ⟨Link.putFlit_within f, fun h => ?_⟩,
    fun k up hc => ⟨fun hs => ?_, fun e hs hu hf => ?_, fun e hs hf => ?_, fun e hs hg => ?_, fun e hw hu => ?_⟩⟩
  · exact ⟨by simp [codeword, rsParity_length], List.take_left⟩
  · have h := laneWord_countP hl hj 0 136
    simpa using h
  · rw [Link.putFlit_tenth f h]
    refine ⟨rfl, rfl, fun j w hw => wordFromLanes_laneSymbols ?_ hw (groupWords_length hw)⟩
    obtain ⟨hj, -⟩ := List.getElem?_eq_some_iff.mp hw
    simpa [groupWords] using hj
  · obtain ⟨hg, -, h1⟩ := k.arrive_marks up k.cleanFec
    have hw : k.wordStarts = true := by simp [Link.wordStarts, hs]
    rw [h1, hg, hs, hw, Link.framed_clean hc]
    exact ⟨rfl, rfl⟩
  · exact Link.arrive_group up hs hu hf
  · obtain ⟨hg, -, h1⟩ := k.arrive_marks up e
    rw [h1, hg, hs, hf]
    exact ⟨rfl, rfl⟩
  · obtain ⟨-, -, h1⟩ := k.arrive_marks up e
    rw [h1, if_neg hs, hg]
    rfl
  · obtain ⟨-, hcw, h1⟩ := k.arrive_marks up e
    rw [h1, hcw, hw, hu]
    simp

end Sys2Proof.Machine
end

section
/-! Proofs: what a slot of a link sends (R345 to R350). -/
namespace Sys2Proof.Machine

/-! ## A flit that leaves -/

/-- What of a link a flit that leaves does not move. -/
def Link.settled (k : Link) : Link :=
  { k with out := none, gap := 0, ret := [], retVc := 0, nak := false, nakTick := 0, nakWant := false, txGrp := [], txCount := 0, lanes := [] }

theorem Link.of_settled {x y : Link} (h : x.settled = y.settled) : x.seq = y.seq ∧ x.cred = y.cred ∧ x.buf = y.buf ∧ x.txq = y.txq ∧ x.held = y.held ∧
    x.sentAcc = y.sentAcc ∧ x.chosen = y.chosen ∧ x.offered = y.offered :=
  ⟨by have := congrArg Link.seq h; exact this, by have := congrArg Link.cred h; exact this, by have := congrArg Link.buf h; exact this,
   by have := congrArg Link.txq h; exact this, by have := congrArg Link.held h; exact this, by have := congrArg Link.sentAcc h; exact this,
   by have := congrArg Link.chosen h; exact this, by have := congrArg Link.offered h; exact this⟩

theorem Link.settled_askDue (k : Link) (now : Nat) : (k.askDue now).settled = k.settled := by
  unfold Link.askDue
  split <;> rfl

theorem Link.settled_giveCredit (k : Link) (hold : Bool) : (k.giveCredit hold).2.2.settled = k.settled := by
  unfold Link.giveCredit
  dsimp only
  split <;> rfl

theorem Link.settled_putFlit (k : Link) (f : Flit) : (k.putFlit f).settled = k.settled ∧ (k.putFlit f).out = k.out := by
  unfold Link.putFlit
  dsimp only
  split <;> exact ⟨rfl, rfl⟩

/-- A flit's CRC is that of its other fields. -/
theorem flitSum_crc (f : Flit) (c : Nat) : flitSum { f with crc := c } = flitSum f := rfl

/-- A slot fills in the header's fields and the CRC of its flit; of the link no more moves than sending moves. -/
theorem Dev.emit_leaves (d : Dev) (l : Nat) (k : Link) (f : Flit) :
    (∃ g, ((d.emit l k f).link l).out = some g ∧
      g = { f with ack := k.ack, nak := g.nak, cvc := g.cvc, credit := g.credit, crc := g.crc } ∧ g.crc = flitSum g) ∧
    ((d.emit l k f).link l).settled = k.settled ∧
    (d.emit l k f).objs = (if f.ftype = 0 then d else d.cnt (K.FLITS_TX l) 1).objs := by
  have hk : ((k.askDue d.now).giveCredit (d.creditsHeld l)).2.2.settled = k.settled :=
    (Link.settled_giveCredit _ _).trans (Link.settled_askDue _ _)
  unfold Dev.emit
  generalize (k.askDue d.now).giveCredit (d.creditsHeld l) = r at hk
  obtain ⟨v, n, x⟩ := r
  dsimp -zeta only at hk ⊢
  extract_lets g h y d1
  have hack : x.ack = k.ack := by have := congrArg Link.ack hk; exact this
  obtain ⟨hset, hout⟩ := y.settled_putFlit h
  have hd1 : d1.link l = y.putFlit h := Dev.link_setLink_self _ _ _
  have hlink : (if h.ftype = 0 then d1 else d1.cnt (K.FLITS_TX l) 1).link l = y.putFlit h := by
    split
    · exact hd1
    · exact hd1
  rw [hlink, hout, hset]
  have hcrc : h.crc = flitSum h := by
    have hh : h = { g with crc := flitSum g } := rfl
    rw [hh, flitSum_crc]
  refine ⟨⟨h, rfl, ?_, hcrc⟩, hk, ?_⟩
  · rw [← hack]
  · show (if f.ftype = 0 then d1 else d1.cnt (K.FLITS_TX l) 1).objs = _
    split <;> rfl

/-- The flit that left carries the fields of the flit that was sent. -/
theorem Dev.emit_out (d : Dev) (l : Nat) (k : Link) (f : Flit) : ∃ g, ((d.emit l k f).link l).out = some g ∧ g.ack = k.ack ∧ g.crc = flitSum g ∧
    g.ftype = f.ftype ∧ g.vc = f.vc ∧ g.last = f.last ∧ g.seq = f.seq ∧ g.len = f.len ∧ g.dest = f.dest ∧ g.src = f.src ∧ g.msgid = f.msgid ∧
    g.payload = f.payload := by
  obtain ⟨⟨g, hg, he, hc⟩, -⟩ := d.emit_leaves l k f
  refine ⟨g, hg, by rw [he], hc, ?_⟩
  rw [he]
  exact ⟨rfl, rfl, rfl, rfl, rfl, rfl, rfl, rfl, rfl⟩

theorem Dev.emit_get {d : Dev} {l : Nat} {k : Link} {f : Flit} {o : Obj} (h : f.ftype = 0 ∨ o.key ≠ (K.FLITS_TX l).key) :
    (d.emit l k f).get o = d.get o := by
  obtain ⟨-, -, ho⟩ := d.emit_leaves l k f
  unfold Dev.get
  rw [ho]
  split
  · rfl
  next hf => exact Dev.get_put_ne _ _ (h.resolve_left hf)

theorem Dev.emit_counts {d : Dev} {l : Nat} {k : Link} {f : Flit} (h : f.ftype ≠ 0) :
    (d.emit l k f).get (K.FLITS_TX l) = addSat 64 (d.get (K.FLITS_TX l)) 1 := by
  obtain ⟨-, -, ho⟩ := d.emit_leaves l k f
  rw [if_neg h] at ho
  refine Eq.trans ?_ (d.get_put_self (K.FLITS_TX l) (addSat 64 (d.get (K.FLITS_TX l)) 1))
  unfold Dev.get
  rw [ho]
  rfl

/-! ## The slot's choice (R346) -/

/-- The link in a slot: queued messages end a standby handshake, whose acknowledgement goes out once nothing is unacknowledged (R361). -/
def Link.slotted (k : Link) : Link :=
  let k := if k.queued then { k with standby := 0, sbSlots := 0 } else k
  if k.standby = 4 && k.buf.isEmpty then { k with ctl := k.ctl ++ [2], standby := 2, sbSlots := 16 } else k

/-- A link whose queues of messages hold one. -/
theorem Link.queued_of_head {k : Link} {v : Nat} {m : Msg} {r : List Msg} (h : Map.get k.txq [] v = m :: r) : k.queued = true := by
  obtain ⟨e, he, hm⟩ := Map.mem_of_get (m := k.txq) (k := v) (x := m) (by rw [h]; exact List.mem_cons_self)
  exact List.any_eq_true.mpr ⟨e, he, by cases hl : e.2 with | nil => rw [hl] at hm; cases hm | cons => rfl⟩

theorem Link.slotted_queued {k : Link} (h : k.queued = true) : k.slotted = { k with standby := 0, sbSlots := 0 } := by
  unfold Link.slotted
  rw [h]
  rfl

theorem Link.slotted_idle {k : Link} (h : k.queued = false) (hs : k.standby = 0) : k.slotted = k := by
  unfold Link.slotted
  rw [h]
  simp [hs]

/-- While something is unacknowledged, a slot leaves all but the handshake. -/
theorem Link.slotted_busy {k : Link} (h : k.buf ≠ []) : ∃ x y, k.slotted = { k with standby := x, sbSlots := y } := by
  cases hq : k.queued with
  | true => exact ⟨0, 0, Link.slotted_queued hq⟩
  | false =>
    refine ⟨k.standby, k.sbSlots, ?_⟩
    unfold Link.slotted
    rw [hq]
    simp [h]

section
variable {d : Dev} {l : Nat} (hup : d.get (K.LNK_STATE l) = 3)
include hup

theorem Dev.flitSlot_replays {i : Nat} (hr : (d.link l).slotted.replay = some i) : d.flitSlot l = d.sendReplay l (d.link l).slotted i := by
  unfold Dev.flitSlot
  extract_lets k k1 k2
  rw [if_neg (by omega), if_neg (by simp [hup])]
  have hk : k2 = (d.link l).slotted := rfl
  rw [← hk] at hr ⊢
  split
  next x _ h =>
    obtain rfl := Option.some.inj (hr.symm.trans h)
    rfl
  next h _ => exact absurd (hr.symm.trans h) (by simp)
  next h _ => exact absurd (hr.symm.trans h) (by simp)

/-- Without a replay and a mark: DATA by channel, then control, then NULL. -/
theorem Dev.flitSlot_rest (hr : (d.link l).slotted.replay = none) (hm : (d.link l).slotted.markOut = none) :
    d.flitSlot l =
      if 7 ≤ (d.link l).slotted.gap && (d.link l).slotted.ready 0 then d.sendData l (d.link l).slotted 0
      else if (d.link l).slotted.ready 2 then d.sendData l (d.link l).slotted 2
      else if (d.link l).slotted.ready 4 then d.sendData l (d.link l).slotted 4
      else if (d.link l).slotted.ready 3 then d.sendData l (d.link l).slotted 3
      else match (d.link l).slotted.ctl with
        | c :: r => d.emit l { (d.link l).slotted with ctl := r } (plainFlit 2 0 [c])
        | [] => d.sendNull l (d.link l).slotted := by
  unfold Dev.flitSlot
  extract_lets k k1 k2
  rw [if_neg (by omega), if_neg (by simp [hup])]
  have hk : k2 = (d.link l).slotted := rfl
  rw [← hk] at hr hm ⊢
  split
  next h => exact absurd (hr.symm.trans h) (by simp)
  next h => exact absurd (hm.symm.trans h) (by simp)
  next => rfl

end

/-! ## FLIT_SLOT of a link that is UP -/

/-- The flit that a message of at most 240 bytes makes. -/
def Msg.flit (m : Msg) (v seq : Nat) : Flit :=
  { ftype := 1, vc := v, last := true, seq := seq, ack := 0, nak := false, cvc := 0, credit := 0, len := m.payload.length,
    dest := m.dest % 4096, src := m.src % 4096, part := m.part, priv := m.priv, msgid := m.id, crc := 0, payload := m.payload }

/-- What of a link the queue of messages is no part of. -/
def Link.unqueued (k : Link) : Link := { k.settled with txq := [], held := [], off := [] }

theorem Link.shift_unqueued (k : Link) (v : Nat) : (k.shift v).unqueued = k.unqueued := by
  unfold Link.shift
  split <;> rfl

/-- A message of one flit that leaves: numbered, with a credit taken, and kept for replay. -/
theorem Dev.sendData_whole {d : Dev} {l v : Nat} {k : Link} {m : Msg} {r : List Msg} (hq : Map.get k.txq [] v = m :: r) (ho : Map.get k.off 0 v = 0)
    (hm : m.payload.length ≤ 240) : ∃ (b : Dev) (x : Link), d.sendData l k v = b.emit l x (m.flit v k.seq) ∧ b.objs = d.objs ∧ x.seq = (k.seq + 1) % 4096 ∧
      Map.get x.cred 0 v = Map.get k.cred 0 v - 1 ∧ x.buf.length = k.buf.length + 1 := by
  have hbs : (m.payload.drop 0).take 240 = m.payload := List.take_of_length_le hm
  have hlast : decide (m.payload.length ≤ 0 + 240) = true := decide_eq_true (by omega)
  unfold Dev.sendData
  rw [hq]
  dsimp -zeta only
  rw [ho]
  extract_lets o bs last f x1 x b
  have hbs' : bs = m.payload := hbs
  have hlast' : last = true := hlast
  have hf : f = m.flit v k.seq := by
    unfold f Msg.flit
    rw [hbs', hlast']
  have hx : x = x1.shift v := if_pos hlast'
  have hun : x.unqueued = x1.unqueued := by rw [hx, Link.shift_unqueued]
  have hb : b.objs = d.objs := by
    unfold b
    split
    · exact (d.charge_accounted _ _ _).2
    · rfl
  refine ⟨b, x, by rw [hf], hb, ?_, ?_, ?_⟩
  · have := congrArg Link.seq hun
    exact this
  · have h := congrArg Link.cred hun
    have h' : x.cred = Map.set k.cred 0 v (Map.get k.cred 0 v - 1) := h
    rw [h']
    exact Map.get_set_self _ _ _ _
  · have h := congrArg (fun y : Link => y.buf.length) hun
    have h' : x.buf.length = (k.buf ++ [_]).length := h
    rw [h', List.length_append]
    rfl

/-- Settles O39: the slot's choice by what the link holds, then the flit that leaves. -/
theorem flitsSent : Obligations.FlitsSent := by
  intro s l hl hs hup
  have hx : exec (.flitSlot l) s = .next (s.setDev (s.dev.flitSlot l)) := onUnit_next (f := fun d => d.flitSlot l) (decide_eq_true hl) hs
  refine ⟨fun hr hm hctl hsb hq hqd => ?_, fun m r hr hm h0 h2 hq ho hlen => ?_, fun i e hr he => ?_⟩
  · have hk : (s.dev.link l).slotted = s.dev.link l := Link.slotted_idle hqd hsb
    have hready (v : Nat) : (s.dev.link l).ready v = false := by simp [Link.ready, hq v]
    have ht : s.dev.flitSlot l = s.dev.emit l (s.dev.link l) (plainFlit 0 0 []) := by
      rw [Dev.flitSlot_rest hup (by rw [hk, hr]) (by rw [hk, hm]), hk, hready, hready, hready, hready, hctl]
      simp [Dev.sendNull, hsb]
    obtain ⟨g, hg, hack, hcrc, hft, -⟩ := s.dev.emit_out l (s.dev.link l) (plainFlit 0 0 [])
    refine ⟨_, g, hx, s.setDev_pending _, s.setDev_sec _, ?_⟩
    rw [State.setDev_dev, ht]
    exact ⟨hg, hft, hack, hcrc, (s.dev.emit_leaves l _ _).2.2⟩
  · have hk := Link.slotted_queued (Link.queued_of_head hq)
    have hg0 : ¬(decide (7 ≤ (s.dev.link l).slotted.gap) && (s.dev.link l).slotted.ready 0) = true := by
      rw [hk, Bool.not_eq_true]
      exact h0
    have hg2 : (s.dev.link l).slotted.ready 2 = true := by
      rw [hk]
      exact h2
    have ht := Dev.flitSlot_rest hup (by rw [hk]; exact hr) (by rw [hk]; exact hm)
    rw [if_neg hg0, if_pos hg2, hk] at ht
    obtain ⟨b, x, hsend, hobjs, hseq, hcred, hbuf⟩ := Dev.sendData_whole (d := s.dev) (l := l)
      (k := { s.dev.link l with standby := 0, sbSlots := 0 }) hq ho hlen
    obtain ⟨g, hg, -, hcrc, hft, hvc, hlast, hs', hlen', hdest, hsrc, hid, hpay⟩ := b.emit_out l x (m.flit 2 (s.dev.link l).seq)
    obtain ⟨-, hset, -⟩ := b.emit_leaves l x (m.flit 2 (s.dev.link l).seq)
    obtain ⟨kseq, kcred, kbuf, -⟩ := Link.of_settled hset
    refine ⟨_, g, hx, s.setDev_pending _, s.setDev_sec _, ?_⟩
    rw [State.setDev_dev, ht, hsend]
    refine ⟨hg, hft, hvc, hlast, hs', hpay, hlen', hdest, hsrc, hid, hcrc, ?_, ?_, ?_, ?_⟩
    · rw [kseq]
      exact hseq
    · rw [kcred]
      exact hcred
    · rw [kbuf]
      exact hbuf
    · rw [Dev.emit_counts Nat.one_ne_zero]
      unfold Dev.get
      rw [hobjs]
  · have hb : (s.dev.link l).buf ≠ [] := by
      intro h
      rw [h] at he
      cases he
    obtain ⟨x, y, hk⟩ := Link.slotted_busy hb
    have ht := Dev.flitSlot_replays hup (i := i) (by rw [hk]; exact hr)
    obtain ⟨k', hsend⟩ : ∃ k', s.dev.sendReplay l (s.dev.link l).slotted i = (s.dev.cnt (K.REPLAYS l) 1).emit l k' e.flit := by
      unfold Dev.sendReplay
      rw [hk]
      dsimp only
      rw [he]
      exact ⟨_, rfl⟩
    obtain ⟨g, hg, -, -, hft, -, -, hseq, -, -, -, -, hpay⟩ := (s.dev.cnt (K.REPLAYS l) 1).emit_out l k' e.flit
    refine ⟨_, g, hx, s.setDev_pending _, s.setDev_sec _, ?_⟩
    rw [State.setDev_dev, ht, hsend]
    refine ⟨hg, hft, hseq, hpay, ?_⟩
    rw [Dev.emit_get (.inr (by simp only [K.REPLAYS, K.FLITS_TX]; omega))]
    exact Dev.get_put_self _ _ _

end Sys2Proof.Machine
end

section
/-! Proofs: negotiation (R353 to R356). -/
namespace Sys2Proof.Machine

/-! ## A NEGOTIATE flit's place in its group -/

/-- A link without its places in the groups that arrive. -/
def Link.uncoded (k : Link) : Link :=
  { k with rxCount := none, rxSlot := 0, cwBad := false, grpBad := false, grpFlaw := false, goodGroups := 0, badGroups := 0 }

theorem Link.arrive_uncoded (k : Link) (up : Bool) (e : Fec) : (k.arrive up e).2.uncoded = k.uncoded := by
  unfold Link.arrive
  dsimp only
  split <;> rfl

/-- `b` is `a` but for the places of link `l` in the groups that arrive. -/
structure Dev.Placed (l : Nat) (a b : Dev) : Prop where
  eq : ∃ x, b = a.setLink l x
  link : (b.link l).uncoded = (a.link l).uncoded

theorem Dev.negoIn_placed {d b : Dev} {l : Nat} {lost : Bool} (h : d.negoIn l = (lost, b)) : Dev.Placed l d b := by
  have hn : (d.link l).cleanFec.corrected = 0 := rfl
  have hu : (d.link l).cleanFec.uncorrectable = false := rfl
  have he : (d.negoIn l).2 = d.setLink l ((d.link l).arrive (d.get (K.LNK_STATE l) == 3) (d.link l).cleanFec).2 := by
    unfold Dev.negoIn Dev.arrived Dev.corrected
    rw [hn, hu]
    dsimp only
    split <;> rfl
  rw [h] at he
  refine ⟨⟨_, he⟩, ?_⟩
  rw [show b = _ from he, Dev.link_setLink_self, Link.arrive_uncoded]

section
variable {l : Nat} {a b : Dev} (h : Dev.Placed l a b)
include h

theorem Dev.Placed.objs : b.objs = a.objs := by
  obtain ⟨x, rfl⟩ := h.eq
  rfl

theorem Dev.Placed.get (o : Obj) : b.get o = a.get o := by
  unfold Dev.get
  rw [h.objs]

theorem Dev.Placed.flag (o : Obj) : b.flag o = a.flag o := by
  unfold Dev.flag
  rw [h.get]

theorem Dev.Placed.fields : (b.link l).offered = (a.link l).offered ∧ (b.link l).chosen = (a.link l).chosen ∧ (b.link l).load = (a.link l).load := by
  have hb : (b.link l).buf = (a.link l).buf := by have := congrArg Link.buf h.link; exact this
  have ht : (b.link l).txq = (a.link l).txq := by have := congrArg Link.txq h.link; exact this
  have hh : (b.link l).held = (a.link l).held := by have := congrArg Link.held h.link; exact this
  refine ⟨by have := congrArg Link.offered h.link; exact this, by have := congrArg Link.chosen h.link; exact this, ?_⟩
  unfold Link.load
  rw [hb, ht, hh]

theorem Dev.Placed.nego (reason chosen : Nat) : b.negoOf reason chosen = a.negoOf reason chosen := by
  unfold Dev.negoOf
  simp only [h.get, h.flag]

theorem Dev.Placed.clash (n : Nego) : b.assignClash n = a.assignClash n := by
  unfold Dev.assignClash
  simp only [h.get, h.flag]

theorem Dev.Placed.fault (n : Nego) : b.offerFault l n = a.offerFault l n := by
  unfold Dev.offerFault
  simp only [h.get, h.clash]

theorem Dev.Placed.harmless (hf : a.foreignLoad l) : b.Harmless l := by
  intro m hm
  rw [h.fields.2.2] at hm
  rw [h.get]
  exact .inl (hf m hm)

end

/-! ## A NEGOTIATE flit sent -/

/-- The flit goes out with what the device offers; of objects the flits sent alone move, of the link what sending moves. -/
theorem Dev.sendNego_leaves (d : Dev) (l msg reason chosen : Nat) :
    (∃ g, ((d.sendNego l msg reason chosen).link l).out = some g ∧ g.ftype = 4 ∧ g.crc = flitSum g ∧ g.payload = negoBytes (d.negoOf reason chosen) msg) ∧
    (∀ o : Obj, o.key ≠ (K.FLITS_TX l).key → (d.sendNego l msg reason chosen).get o = d.get o) ∧
    ((d.sendNego l msg reason chosen).link l).sentAcc = (d.link l).sentAcc ∧ ((d.sendNego l msg reason chosen).link l).chosen = (d.link l).chosen ∧
    ((d.sendNego l msg reason chosen).link l).offered = (d.link l).offered ∧
    ((d.sendNego l msg reason chosen).link l).load = (d.link l).load := by
  unfold Dev.sendNego
  extract_lets n k
  obtain ⟨g, hg, -, hcrc, hft, -, -, -, -, -, -, -, hpay⟩ := d.emit_out l { k with neg := some n, offerAt := d.now + 1 } (plainFlit 4 0 (negoBytes n msg))
  obtain ⟨-, hset, -⟩ := d.emit_leaves l { k with neg := some n, offerAt := d.now + 1 } (plainFlit 4 0 (negoBytes n msg))
  obtain ⟨-, -, hbuf, htxq, hheld, hacc, hch, hoff⟩ := Link.of_settled hset
  refine ⟨⟨g, hg, hft, hcrc, hpay⟩, fun o ho => Dev.emit_get (.inr ho), hacc, hch, hoff, ?_⟩
  unfold Link.load
  rw [hbuf, htxq, hheld]

/-- A negotiation that fails. -/
theorem Dev.refused_leaves {d : Dev} {l : Nat} (reason : Nat) (h : d.Harmless l) :
    (d.refused l reason).get (K.LNK_STATE l) = 5 ∧ (d.refused l reason).get (K.FAILURES l) = addSat 32 (d.get (K.FAILURES l)) 1 := by
  obtain ⟨h5, hf, -⟩ := Dev.toFailed_leaves (Dev.linkRecord_harmless (kind := 3) (reason := reason) (count := 0) h)
  exact ⟨h5, hf.trans (congrArg (addSat 32 · 1) (d.file_objs _ _ (by simp only [recordKey, K.FAILURES]; omega)))⟩

/-- A REFUSE that is sent ends the negotiation. -/
theorem Dev.sendRefuse_leaves {d : Dev} {l : Nat} (r : Nat) (h : d.Harmless l) :
    (∃ g, ((d.sendRefuse l r).link l).out = some g ∧ g.ftype = 4 ∧ g.payload = negoBytes (d.negoOf r 0) 3) ∧
    (d.sendRefuse l r).get (K.LNK_STATE l) = 5 ∧ (d.sendRefuse l r).get (K.FAILURES l) = addSat 32 (d.get (K.FAILURES l)) 1 := by
  obtain ⟨⟨g, hg, hft, -, hpay⟩, hobj, -, -, -, hload⟩ := d.sendNego_leaves l 3 r 0
  unfold Dev.sendRefuse
  dsimp only
  generalize d.sendNego l 3 r 0 = b at hg hobj hload ⊢
  have hh : b.Harmless l := by
    intro m hm
    rw [hload] at hm
    rw [hobj _ (by simp only [K.DEVICE_NUMBER, K.FLITS_TX]; omega)]
    exact h m hm
  obtain ⟨h5, hf⟩ := Dev.refused_leaves r hh
  have hfail : b.get (K.FAILURES l) = d.get (K.FAILURES l) := hobj _ (by simp only [K.FAILURES, K.FLITS_TX]; omega)
  rw [hfail] at hf
  rw [Dev.get_setLink, Dev.get_setLink, Dev.link_setLink_self]
  exact ⟨⟨g, hg, hft, hpay⟩, h5, hf⟩

/-! ## OFFER, ACCEPT and REFUSE (R355, R356) -/

/-- The link once an OFFER is accepted. -/
def Link.accepting (k : Link) (n : Nego) (v : Nat) : Link := { k with chosen := v, sentAcc := true, offered := some n }

section
variable {d b : Dev} {l : Nat} {n : Nego} (hst : d.get (K.LNK_STATE l) = 2) (hn : d.negoIn l = (false, b))
include hst hn

theorem Dev.offer_refused (hr : d.offerFault l n ≠ 0) : d.offer l n = b.sendRefuse l (d.offerFault l n) := by
  have hp := Dev.negoIn_placed hn
  unfold Dev.offer
  rw [if_neg (by simp [hst]), hn]
  dsimp only
  rw [hp.fault, if_neg Bool.false_ne_true, if_pos hr]

theorem Dev.offer_taken (hr : d.offerFault l n = 0) : d.offer l n =
    (b.setLink l ((b.link l).accepting n (min n.verMax (d.get K.LINK_VER_MAX)))).sendNego l 2 0 (min n.verMax (d.get K.LINK_VER_MAX)) := by
  have hp := Dev.negoIn_placed hn
  unfold Dev.offer
  rw [if_neg (by simp [hst]), hn]
  dsimp only
  rw [hp.fault, hr, if_neg Bool.false_ne_true, if_neg (by simp), hp.get]
  rfl

theorem Dev.refuse_taken : d.refuse l n = b.refused l n.reason := by
  unfold Dev.refuse
  rw [if_neg (by simp [hst]), hn]
  rfl

/-- The number that a host adapter assigns to a device without one. -/
def Dev.numbered (d : Dev) (n : Nego) : Dev :=
  if n.role = 2 && n.assign ≠ 0xFFFF && !d.flag K.NUM_ASSIGNED && d.get K.CFG_NUMBER = 0xFFFF && !d.recovery then
    (d.put K.DEVICE_NUMBER (n.assign % 4096)).put K.NUM_ASSIGNED 1 else d

/-- What the peer's ACCEPT tells. -/
def Dev.peered (d : Dev) (l : Nat) (n : Nego) : Dev :=
  ((d.put (K.LNK_VERSION l) n.chosen).put (K.LNK_PEER l)
    (if bit n.number 15 then 0xFFFF else n.number % 4096 + (if n.role = 2 then 0x8000 else 0))).put (K.LNK_PEER_GEN l) n.generation

theorem Dev.accept_taken (ho : (d.link l).offered ≠ none) (hc : n.chosen = (d.link l).chosen) (ha : d.assignClash n = false) :
    d.accept l n = (((b.setLink l { b.link l with gotAcc := true, offered := some n }).numbered n).peered l n).linkUp l n := by
  have hp := Dev.negoIn_placed hn
  obtain ⟨hoff, hch, -⟩ := hp.fields
  have hsome : (b.link l).offered.isNone = false := by
    rw [hoff]
    simpa using Option.isSome_iff_ne_none.mpr ho
  unfold Dev.accept
  rw [if_neg (by simp [hst]), hn]
  dsimp only
  rw [hsome, hch, if_neg (by simp [hc]), hp.clash, ha]
  rfl

end

/-- The credits that a peer's ACCEPT gives. -/
theorem Dev.linkUp_credits (d : Dev) (l : Nat) (n : Nego) : Map.get ((d.linkUp l n).link l).cred 0 0 = n.credVc0 ∧
    Map.get ((d.linkUp l n).link l).cred 0 2 = n.credVc2 ∧ Map.get ((d.linkUp l n).link l).cred 0 3 = n.credVc3 ∧
    Map.get ((d.linkUp l n).link l).cred 0 4 = n.credVc4 ∧ ((d.linkUp l n).link l).mask = n.vcmask := by
  have hk : (d.linkUp l n).link l = _ := Dev.link_setLink_self d l _
  have hget (v a : Nat) (r : Map Nat) (k : Nat) : Map.get ((((v, a) :: r : List (Nat × Nat))).filter (fun e => e.2 != 0)) 0 k =
      if v = k ∧ a ≠ 0 then a else Map.get (r.filter (fun e => e.2 != 0)) 0 k := by
    by_cases ha : a = 0
    · simp [ha]
    · by_cases hv : v = k <;> simp [ha, hv, Map.get]
  have self (a : Nat) : (if a ≠ 0 then a else 0) = a := by
    split <;> omega
  rw [hk]
  dsimp only
  simp only [hget, List.filter_nil, Map.get, and_true, true_and, self]
  simp [self]

theorem Dev.numbered_leaves (d : Dev) (n : Nego) :
    (n.role = 2 → n.assign ≠ 0xFFFF → d.flag K.NUM_ASSIGNED = false → d.get K.CFG_NUMBER = 0xFFFF → d.recovery = false →
      (d.numbered n).get K.DEVICE_NUMBER = n.assign % 4096 ∧ (d.numbered n).get K.NUM_ASSIGNED = 1) := by
  intro hr ha hf hc hrec
  unfold Dev.numbered
  rw [if_pos (by simp [hr, ha, hf, hc, hrec])]
  exact ⟨(Dev.get_put_ne _ _ (by decide)).trans (Dev.get_put_self _ _ _), Dev.get_put_self _ _ _⟩

theorem Dev.peered_leaves (d : Dev) (l : Nat) (n : Nego) : (d.peered l n).get (K.LNK_VERSION l) = n.chosen ∧
    (d.peered l n).get (K.LNK_PEER_GEN l) = n.generation ∧
    ∀ o : Obj, o.key < 0x500000 ∨ o.key = K.NUM_ASSIGNED.key ∧ l < 64 → (d.peered l n).get o = d.get o := by
  unfold Dev.peered
  refine ⟨?_, Dev.get_put_self _ _ _, fun o ho => ?_⟩
  · rw [Dev.get_put_ne _ _ (by simp only [K.LNK_VERSION, K.LNK_PEER_GEN]; omega), Dev.get_put_ne _ _ (by simp only [K.LNK_VERSION, K.LNK_PEER]; omega)]
    exact Dev.get_put_self _ _ _
  · have hk : K.NUM_ASSIGNED.key = 0x504008 := rfl
    rw [Dev.get_put_ne _ _ (by simp only [K.LNK_PEER_GEN]; omega), Dev.get_put_ne _ _ (by simp only [K.LNK_PEER]; omega),
      Dev.get_put_ne _ _ (by simp only [K.LNK_VERSION]; omega)]

/-- Settles O37: what is sent by `emit`, a refusal through the link's failure, an acceptance through `linkUp`. -/
theorem linkNegotiates : Obligations.LinkNegotiates := by
  intro s l n b hl hs hst hn
  have hp := Dev.negoIn_placed hn
  have hxs : exec (.offerSend l) s = .next (s.setDev (s.dev.offerSend l)) := onUnit_next (f := fun d => d.offerSend l) (decide_eq_true hl) hs
  have hxo : exec (.offer l n) s = .next (s.setDev (s.dev.offer l n)) := onUnit_next (f := fun d => d.offer l n) (decide_eq_true hl) hs
  have hxa : exec (.accept l n) s = .next (s.setDev (s.dev.accept l n)) := onUnit_next (f := fun d => d.accept l n) (decide_eq_true hl) hs
  have hxr : exec (.refuse l n) s = .next (s.setDev (s.dev.refuse l n)) := onUnit_next (f := fun d => d.refuse l n) (decide_eq_true hl) hs
  refine ⟨fun h0 ht => ?_, fun hdue => ?_, fun hv hid hr ha => ?_, fun r hr hr0 hf => ?_, fun ho hc ha => ?_, fun hf => ?_⟩
  · have he : s.dev.offerSend l = s.dev := if_pos (by simp [h0, ht])
    rw [hxs, he, State.setDev_self]
  · have he : s.dev.offerSend l = if (s.dev.link l).sentAcc then s.dev.sendNego l 2 0 (s.dev.link l).chosen else s.dev.sendNego l 1 0 0 :=
      if_neg (by
        simp only [hst, Bool.or_eq_true, decide_eq_true_eq, Bool.and_eq_true]
        omega)
    have hne : (K.LNK_STATE l).key ≠ (K.FLITS_TX l).key := by simp only [K.LNK_STATE, K.FLITS_TX]; omega
    cases hacc : (s.dev.link l).sentAcc with
    | true =>
      rw [hacc] at he
      obtain ⟨⟨g, hg, hft, hcrc, hpay⟩, hobj, -⟩ := s.dev.sendNego_leaves l 2 0 (s.dev.link l).chosen
      refine ⟨_, g, hxs, s.setDev_pending _, s.setDev_sec _, ?_⟩
      rw [State.setDev_dev, show s.dev.offerSend l = _ from he]
      exact ⟨hg, hft, hcrc, (hobj _ hne).trans hst, hpay⟩
    | false =>
      rw [hacc] at he
      obtain ⟨⟨g, hg, hft, hcrc, hpay⟩, hobj, -⟩ := s.dev.sendNego_leaves l 1 0 0
      refine ⟨_, g, hxs, s.setDev_pending _, s.setDev_sec _, ?_⟩
      rw [State.setDev_dev, show s.dev.offerSend l = _ from he]
      exact ⟨hg, hft, hcrc, (hobj _ hne).trans hst, hpay⟩
  · have hz : s.dev.offerFault l n = 0 := by
      unfold Dev.offerFault
      rw [if_neg (by omega), if_neg hid, if_neg (by simp [hr]), ha]
      rfl
    have he := Dev.offer_taken hst hn hz
    generalize min n.verMax (s.dev.get K.LINK_VER_MAX) = v at he ⊢
    obtain ⟨⟨g, hg, hft, -, hpay⟩, hobj, hacc, hch, hoff, -⟩ := (b.setLink l ((b.link l).accepting n v)).sendNego_leaves l 2 0 v
    rw [Dev.link_setLink_self] at hacc hch hoff
    refine ⟨_, g, hxo, s.setDev_pending _, s.setDev_sec _, ?_⟩
    rw [State.setDev_dev, he]
    refine ⟨hacc, hch, hoff, hg, hft, hpay.trans ?_, (hobj _ (by simp only [K.LNK_STATE, K.FLITS_TX]; omega)).trans ?_⟩
    · rw [← hp.nego]
      rfl
    · exact (hp.get _).trans hst
  · have hr' : r = s.dev.offerFault l n := by
      rw [hr]
      unfold Dev.offerFault
      simp only [Bool.not_eq_true', decide_eq_false_iff_not, ne_eq]
    rw [hr'] at hr0 ⊢
    obtain ⟨⟨g, hg, hft, hpay⟩, h5, hfail⟩ := Dev.sendRefuse_leaves (s.dev.offerFault l n) (hp.harmless hf)
    refine ⟨_, g, hxo, s.setDev_pending _, s.setDev_sec _, ?_⟩
    rw [State.setDev_dev, Dev.offer_refused hst hn hr0]
    rw [hp.nego] at hpay
    rw [hp.get] at hfail
    exact ⟨hg, hft, hpay, h5, hfail⟩
  · have he := Dev.accept_taken hst hn ho hc ha
    refine ⟨_, hxa, s.setDev_pending _, s.setDev_sec _, ?_⟩
    rw [State.setDev_dev, he]
    generalize hb1 : b.setLink l { b.link l with gotAcc := true, offered := some n } = b1
    have hget (o : Obj) : b1.get o = s.dev.get o := by
      rw [← hb1]
      exact hp.get o
    obtain ⟨hver, hgen, hobj⟩ := (b1.numbered n).peered_leaves l n
    obtain ⟨h3, hseq, hack, -⟩ := ((b1.numbered n).peered l n).linkUp_leaves l n
    have hcred := ((b1.numbered n).peered l n).linkUp_credits l n
    have hup (o : Obj) (hk : o.key ≠ (K.LNK_STATE l).key) : (((b1.numbered n).peered l n).linkUp l n).get o = ((b1.numbered n).peered l n).get o :=
      Dev.get_put_ne _ _ hk
    refine ⟨h3, (hup _ (by simp only [K.LNK_VERSION, K.LNK_STATE]; omega)).trans hver,
      (hup _ (by simp only [K.LNK_PEER_GEN, K.LNK_STATE]; omega)).trans hgen, hseq, hack, hcred.1, hcred.2.1, hcred.2.2.1, hcred.2.2.2.1, hcred.2.2.2.2,
      fun hr hasg hna hcfg hrec => ?_⟩
    obtain ⟨h1, h2⟩ := b1.numbered_leaves n hr hasg (by unfold Dev.flag; rw [hget]; exact hna) (by rw [hget]; exact hcfg)
      (by unfold Dev.recovery; rw [hget]; exact hrec)
    refine ⟨(hup _ (by simp only [K.DEVICE_NUMBER, K.LNK_STATE]; omega)).trans ((hobj _ (.inl (by decide))).trans h1), ?_⟩
    unfold Dev.flag
    rw [hup _ (by simp only [K.NUM_ASSIGNED, K.LNK_STATE]; omega), hobj _ (.inr ⟨rfl, hl⟩), h2]
    rfl
  · obtain ⟨h5, hfail⟩ := Dev.refused_leaves n.reason (hp.harmless hf)
    rw [hp.get] at hfail
    refine ⟨_, hxr, s.setDev_pending _, s.setDev_sec _, ?_⟩
    rw [State.setDev_dev, Dev.refuse_taken hst hn]
    exact ⟨h5, hfail⟩

end Sys2Proof.Machine
end

section
/-! Proofs: flits received (R337 to R345, R350). -/
namespace Sys2Proof.Machine

/-! ## A link but for the messages that wait on it -/

/-- A link without the messages that wait on it. -/
def Link.unloaded (k : Link) : Link := { k with txq := [], held := [] }

theorem Link.of_unloaded {x y : Link} (h : x.unloaded = y.unloaded) : x.ack = y.ack ∧ x.nak = y.nak ∧ x.nakWant = y.nakWant ∧ x.inbox = y.inbox ∧
    x.lastRx = y.lastRx ∧ x.grpBad = y.grpBad :=
  ⟨(congrArg Link.ack h :), (congrArg Link.nak h :), (congrArg Link.nakWant h :), (congrArg Link.inbox h :), (congrArg Link.lastRx h :),
    (congrArg Link.grpBad h :)⟩

theorem Dev.enqueue_unloaded (d : Dev) (i l : Nat) (m : Msg) : ((d.enqueue i m).link l).unloaded = (d.link l).unloaded := by
  by_cases hl : l = i
  · subst hl
    have hw : (d.wakeDom (68 + l / 8)).link l = d.link l := by
      unfold Dev.link
      unfold Dev.wakeDom
      dsimp only
      split
      · split <;> rfl
      · split <;> rfl
    unfold Dev.enqueue
    dsimp only
    split
    · rw [Dev.link_setLink_self, hw]; rfl
    · rw [Dev.link_setLink_self, hw]; rfl
  · rw [Dev.enqueue_link m hl]

theorem Dev.send_unloaded (d : Dev) (l : Nat) (m : Msg) (f : Bool) : ((d.send m f).1.link l).unloaded = (d.link l).unloaded := by
  unfold Dev.send
  split
  · exact d.enqueue_unloaded _ l m
  · rfl

/-- The record of an event adds messages to links, and changes nothing else of them. -/
theorem Dev.file_unloaded (d : Dev) (l : Nat) (i : RecInfo) : ((d.file i).link l).unloaded = (d.link l).unloaded := by
  unfold Dev.file
  extract_lets ms n lost seq r d1 d2 d3
  split
  · rfl
  · have h3 : d3.link l = d.link l := by
      unfold d3
      split <;> rfl
    unfold Dev.notify
    rw [Dev.send_unloaded]
    exact congrArg Link.unloaded h3

/-! ## Receipt up to the type of the flit -/

theorem Dev.corrected_unloaded (d : Dev) (l n : Nat) : ∃ c, ((d.corrected l n).link l).unloaded = { (d.link l).unloaded with corr := c } := by
  unfold Dev.corrected
  split
  · exact ⟨_, rfl⟩
  · dsimp only
    split
    · exact ⟨[], (Dev.file_unloaded _ l _).trans (by rw [Dev.link_setLink_self]; rfl)⟩
    · exact ⟨_, by rw [Dev.link_setLink_self]; rfl⟩

/-- A flit that is not discarded came in a group whose framing matched. -/
theorem Dev.arrived_grpBad {d b : Dev} {l : Nat} {e : Fec} (h : d.arrived l e = (false, b)) : (b.link l).grpBad = false := by
  have hm := (d.link l).arrive_marks (d.get (K.LNK_STATE l) == 3) e
  generalize hr : (d.link l).arrive (d.get (K.LNK_STATE l) == 3) e = r at hm
  obtain ⟨lost, k⟩ := r
  obtain ⟨hg, -, hl⟩ := hm
  have hk : lost = false → k.grpBad = false := fun hf => by
    rw [hf, ← hg] at hl
    cases hb : k.grpBad
    · rfl
    · rw [hb] at hl; cases hl
  unfold Dev.arrived at h
  dsimp only at h
  rw [hr] at h
  dsimp only at h
  split at h
  · obtain ⟨rfl, rfl⟩ := Prod.mk.inj h
    rw [Dev.link_setLink_self]
    exact hk rfl
  · obtain ⟨hlost, hb⟩ := Prod.mk.inj h
    obtain ⟨c, hc⟩ := (d.setLink l k).corrected_unloaded l e.corrected
    have hg : (((d.setLink l k).corrected l e.corrected).link l).grpBad = k.grpBad := by
      rw [Dev.link_setLink_self] at hc
      exact (congrArg Link.grpBad hc :)
    have hbl : b.link l = ((d.setLink l k).corrected l e.corrected).link l := by
      rw [← hb]
      split <;> rfl
    rw [hbl, hg]
    exact hk hlost

theorem Dev.stain_none {d : Dev} {k u p : Nat} (h : d.stainsOn k u p = []) : d.stain k u p = (0, 0, d) := by
  unfold Dev.stain
  rw [h]
  rfl

section
variable {d b : Dev} {l : Nat} {f : Flit} {e : Fec}

/-- The checks that all flits pass, where no stain is on the link. -/
theorem Dev.flitOk_eq {lost : Bool} (h : d.arrived l e = (lost, b)) (hs : b.stainsOn 5 (0x3000 + l) f.part = []) :
    d.flitOk l f e =
      if (b.link l).grpBad then (false, b)
      else if lost then (false, b.setLink l ((b.link l).ask b.now))
      else if f.crc ≠ flitSum f then (false, (b.cnt (K.CRC_ERR l) 1).setLink l ((b.link l).ask b.now))
      else if 5 ≤ f.ftype then (false, (b.setLink l { b.link l with lastRx := b.now }).reservedDrop l) else (true, b) := by
  unfold Dev.flitOk
  rw [h]
  dsimp only
  rw [Dev.stain_none hs]
  have hf : (if f.ftype = 1 then (((0 : Nat) != 0), b) else (false, b)) = (false, b) := ite_self _
  rw [hf]
  rfl

theorem Dev.flitOk_good (h : d.arrived l e = (false, b)) (hs : b.stainsOn 5 (0x3000 + l) f.part = []) (hc : f.crc = flitSum f) (ht : f.ftype < 5) :
    d.flitOk l f e = (true, b) := by
  rw [Dev.flitOk_eq h hs, Dev.arrived_grpBad h, if_neg Bool.false_ne_true, if_neg Bool.false_ne_true, if_neg (not_not_intro hc), if_neg (by omega)]

theorem Dev.flitOk_badSum (h : d.arrived l e = (false, b)) (hs : b.stainsOn 5 (0x3000 + l) f.part = []) (hc : f.crc ≠ flitSum f) :
    d.flitOk l f e = (false, (b.cnt (K.CRC_ERR l) 1).setLink l ((b.link l).ask b.now)) := by
  rw [Dev.flitOk_eq h hs, Dev.arrived_grpBad h, if_neg Bool.false_ne_true, if_neg Bool.false_ne_true, if_pos hc]

/-- A flit that the checks discard leaves what they leave. -/
theorem Dev.flitDataReceive_discards {t : Dev} (hup : d.get (K.LNK_STATE l) = 3) (h : d.flitOk l f e = (false, t)) : d.flitDataReceive l f e = t := by
  unfold Dev.flitDataReceive
  rw [hup, h]
  rfl

/-- A flit that passes them is taken by its type; a DATA flit by its place in the sequence. -/
theorem Dev.flitDataReceive_data (hup : d.get (K.LNK_STATE l) = 3) (h : d.flitOk l f e = (true, b)) (ht : f.ftype = 1) :
    d.flitDataReceive l f e =
      (if (f.seq + 4096 - ((b.link l).ack + 1) % 4096) % 4096 = 0 then
        ((b.setLink l { ((b.link l).takeHeader f b.now).noStandby with ack := f.seq % 4096, nak := false, nakWant := false }).cnt (K.FLITS_RX l) 1).takeData l f
      else if 2048 ≤ (f.seq + 4096 - ((b.link l).ack + 1) % 4096) % 4096 then b.setLink l ((b.link l).takeHeader f b.now).noStandby
      else b.setLink l (((b.link l).takeHeader f b.now).noStandby.ask b.now)) := by
  have ha : ((b.link l).takeHeader f b.now).noStandby.ack = (b.link l).ack := by
    unfold Link.noStandby
    split <;> rfl
  unfold Dev.flitDataReceive
  rw [hup, h]
  dsimp only
  rw [if_neg (not_not_intro ht), ha]
  rfl

theorem Dev.flitDataReceive_null (hup : d.get (K.LNK_STATE l) = 3) (h : d.flitOk l f e = (true, b)) (ht : f.ftype = 0) :
    d.flitDataReceive l f e = b.setLink l ((b.link l).takeHeader f b.now) := by
  unfold Dev.flitDataReceive
  simp [hup, h, ht]

end

/-! ## A discarded flit of a reserved type (R341) -/

theorem Dev.reservedDrop_leaves (d : Dev) {l : Nat} (hl : l < 64) : (d.reservedDrop l).get (K.RESERVED_DROPS l) = addSat 64 (d.get (K.RESERVED_DROPS l)) 1 ∧
    ∃ x, ((d.reservedDrop l).link l).unloaded = { (d.link l).unloaded with dropTick := x } := by
  unfold Dev.reservedDrop
  extract_lets k d1
  have h1 : d1.get (K.RESERVED_DROPS l) = addSat 64 (d.get (K.RESERVED_DROPS l)) 1 := Dev.get_put_self _ _ _
  split
  · exact ⟨h1, _, rfl⟩
  · refine ⟨?_, d1.now + 1, ?_⟩
    · refine ((Dev.file_objs _ _) _ ?_).trans (by rw [Dev.get_setLink, h1])
      unfold recordKey
      simp only [K.RESERVED_DROPS]
      omega
    · unfold Dev.linkRecord
      dsimp only
      rw [Dev.file_unloaded, Dev.link_setLink_self]
      rfl

/-! ## A whole message of VC2 in one flit -/

/-- The message that a DATA flit carries whole. -/
def whole (f : Flit) : Msg := { vc := 2, dest := f.dest, src := f.src, part := f.part, priv := f.priv, id := f.msgid, payload := f.payload.take f.len }

/-- A message of VC2 for this device, as a link between devices brings it. -/
theorem Dev.deliver_own {d : Dev} {l : Nat} {m : Msg} (hv : m.vc = 2) (hm : d.get (K.LNK_MODE l) ≠ 2) (hn : d.flag K.NUM_ASSIGNED = true)
    (hr : d.recovery = false) (hd : m.dest = d.get K.DEVICE_NUMBER) : d.deliver l m =
      if ringReserved m then (d.setLink l ((d.link l).free 2 (max 1 (ceilDiv m.payload.length 240)))).ringDiscard l m
      else d.setLink l { d.link l with inbox := Map.set (d.link l).inbox [] 2 (Map.get (d.link l).inbox [] 2 ++ [m]) } := by
  unfold Dev.deliver
  simp [hv, hm, hn, hr, hd]

/-- A link with no message of VC2 under way. -/
def Link.rxDone (k : Link) : Link := { k with rx := Map.set k.rx none 2 none }

theorem Dev.takeData_whole {d : Dev} {l : Nat} {f : Flit} (hv : f.vc = 2) (hl : f.last = true) (hm : d.get (K.LNK_MODE l) ≠ 2)
    (hn : d.flag K.NUM_ASSIGNED = true) (hx : Map.get (d.link l).rx none 2 = none) :
    d.takeData l f = (d.setLink l (d.link l).rxDone).deliver l (whole f) := by
  unfold Dev.takeData
  dsimp only
  rw [if_neg (by simp [hv]), if_neg (by simp [hm]), if_neg (by simp [hn])]
  simp [hv, hl, hx, whole, Link.rxDone]

/-- The channel of a message turns on the objects of channels alone. -/
theorem Dev.msgChannel_of {a b : Dev} (m : Msg) (h : ∀ o : Obj, 0x5100 * 256 ≤ o.key → b.get o = a.get o) : b.msgChannel m = a.msgChannel m := by
  have hc (c : Nat) : b.get (K.CH_PART c) = a.get (K.CH_PART c) ∧ b.get (K.CH_RING_ID c) = a.get (K.CH_RING_ID c) ∧
      b.get (K.CH_PRED c) = a.get (K.CH_PRED c) := by
    refine ⟨h _ ?_, h _ ?_, h _ ?_⟩ <;> simp only [K.CH_PART, K.CH_RING_ID, K.CH_PRED] <;> omega
  unfold Dev.msgChannel
  simp only [hc]

/-- A discarded message of the ring is counted on its channel, or has its record. -/
theorem Dev.ringDiscard_leaves (d : Dev) {l : Nat} (m : Msg) (hl : l < 64) : ((d.ringDiscard l m).link l).unloaded = (d.link l).unloaded ∧
    (d.ringDiscard l m).get (K.FLITS_RX l) = d.get (K.FLITS_RX l) ∧
    ∀ ch, d.msgChannel m = some ch → (d.ringDiscard l m).get (K.CH_DISCARDS ch) = addSat 64 (d.get (K.CH_DISCARDS ch)) 1 := by
  unfold Dev.ringDiscard
  split
  next ch hc =>
    refine ⟨rfl, Dev.get_put_ne _ _ ?_, fun i hi => ?_⟩
    · have := Dev.msgChannel_lt hc
      simp only [K.FLITS_RX, K.CH_DISCARDS]
      omega
    · cases hc.symm.trans hi
      exact Dev.get_put_self _ _ _
  next hc =>
    refine ⟨Dev.file_unloaded _ l _, (Dev.file_objs _ _) _ ?_, fun i hi => nomatch hc.symm.trans hi⟩
    unfold recordKey
    simp only [K.FLITS_RX]
    omega

/-- What a whole message of VC2 leaves once its flit is taken in order. -/
theorem Dev.takeData_leaves {d : Dev} {l : Nat} {f : Flit} (hl : l < 64) (hv : f.vc = 2) (hf : f.last = true) (hm : d.get (K.LNK_MODE l) ≠ 2)
    (hn : d.flag K.NUM_ASSIGNED = true) (hr : d.recovery = false) (hd : f.dest = d.get K.DEVICE_NUMBER) (hx : Map.get (d.link l).rx none 2 = none) :
    ((d.takeData l f).link l).ack = (d.link l).ack ∧ ((d.takeData l f).link l).nak = (d.link l).nak ∧
    ((d.takeData l f).link l).nakWant = (d.link l).nakWant ∧ (d.takeData l f).get (K.FLITS_RX l) = d.get (K.FLITS_RX l) ∧
    Map.get ((d.takeData l f).link l).inbox [] 2 = Map.get (d.link l).inbox [] 2 ++ (if ringReserved (whole f) then [] else [whole f]) ∧
    ∀ ch, ringReserved (whole f) = true → d.msgChannel (whole f) = some ch →
      (d.takeData l f).get (K.CH_DISCARDS ch) = addSat 64 (d.get (K.CH_DISCARDS ch)) 1 := by
  rw [Dev.takeData_whole hv hf hm hn hx, Dev.deliver_own (d := d.setLink l (d.link l).rxDone) rfl hm hn hr hd, Dev.link_setLink_self]
  by_cases hk : ringReserved (whole f) = true
  · rw [if_pos hk, if_pos hk, List.append_nil]
    generalize hb : Dev.setLink _ l (Link.free _ 2 _) = b
    obtain ⟨hu, hfl, hch⟩ := b.ringDiscard_leaves (whole f) hl
    obtain ⟨ha, hnk, hw, hi, -, -⟩ := Link.of_unloaded hu
    rw [ha, hnk, hw, hi, hfl]
    subst hb
    rw [Dev.link_setLink_self]
    exact ⟨rfl, rfl, rfl, rfl, rfl, fun ch _ h => hch ch h⟩
  · rw [if_neg hk, if_neg hk, Dev.link_setLink_self]
    exact ⟨rfl, rfl, rfl, rfl, Map.get_set_self _ _ _ _, fun _ h => absurd h hk⟩

theorem Link.noStandby_kept (k : Link) : k.noStandby.ack = k.ack ∧ k.noStandby.inbox = k.inbox ∧ k.noStandby.rx = k.rx ∧ k.noStandby.nak = k.nak ∧
    k.noStandby.nakTick = k.nakTick := by
  unfold Link.noStandby
  split
  · exact ⟨rfl, rfl, rfl, rfl, rfl⟩
  · exact ⟨rfl, rfl, rfl, rfl, rfl⟩

/-- A replay is asked for now, or once 64 ticks have passed since the last was (R344). -/
theorem Link.ask_asks (k : Link) (now : Nat) : (k.ask now).ack = k.ack ∧ (k.ask now).inbox = k.inbox ∧
    (if k.nak = true ∨ k.nakTick ≤ now then (k.ask now).nak = true else (k.ask now).nakWant = true) := by
  unfold Link.ask
  by_cases hn : k.nak = true
  · rw [if_pos hn, if_pos (.inl hn)]
    exact ⟨rfl, rfl, hn⟩
  · rw [if_neg hn]
    by_cases ht : now < k.nakTick
    · rw [if_pos ht, if_neg (by rintro (h | h); exacts [hn h, by omega])]
      exact ⟨rfl, rfl, rfl⟩
    · rw [if_neg ht, if_pos (.inr (by omega))]
      exact ⟨rfl, rfl, rfl⟩

theorem Link.ask_free {k : Link} {now : Nat} (hn : k.nak = false) (h : k.nakTick ≤ now) : k.ask now = { k with nak := true, nakTick := now + 64 } := by
  unfold Link.ask
  rw [if_neg (by simp [hn]), if_neg (by omega)]

theorem Link.ask_recent {k : Link} {now : Nat} (hn : k.nak = false) (h : now < k.nakTick) : k.ask now = { k with nakWant := true } := by
  unfold Link.ask
  rw [if_neg (by simp [hn]), if_pos h]

/-! ## The commands -/

section
variable {s : State} {l : Nat} (hl : l < 64) (hs : s.stopped = false)
include hl hs

theorem exec_flitDataReceive (f : Flit) (e : Fec) : exec (.flitDataReceive l f e) s = .next (s.setDev (s.dev.flitDataReceive l f e)) :=
  onUnit_next (f := fun d => d.flitDataReceive l f e) (decide_eq_true hl) hs

theorem exec_null (f : Flit) : exec (.null l f) s = .next (s.setDev (s.dev.null l f)) := onUnit_next (f := fun d => d.null l f) (decide_eq_true hl) hs

theorem exec_messageReassemblyTimeout (vc : Nat) :
    exec (.messageReassemblyTimeout l vc) s = .next (s.setDev (s.dev.messageReassemblyTimeout l vc)) :=
  onUnit_next (f := fun d => d.messageReassemblyTimeout l vc) (decide_eq_true hl) hs

end

/-- Settles O40: the checks that every flit passes, then the place of a DATA flit in the sequence. -/
theorem flitsReceived : Obligations.FlitsReceived := by
  refine ⟨fun s l f e d hl hs => ⟨fun hst => ?_, fun hup ha hst => ?_⟩, fun s l f e d hl hs hup ha hst => ⟨fun hc ht he => ?_,
    fun hc ht hv hf hsq hin hm hn hr hd hx m hmsg => ?_, fun hc ht hsq hold => ?_, fun hc ht hsq h1 hnew => ?_, fun hc ht => ?_, fun hc hn ht => ?_,
    fun hc hn ht => ?_⟩, fun s l hl hs => ⟨fun vc p hp hd ht => ?_, fun vc p hp hd => ?_⟩⟩
  · rw [exec_flitDataReceive hl hs]
    unfold Dev.flitDataReceive
    rw [if_pos (by simpa using hst)]
  · have hq := Dev.flitOk_eq ha hst
    rw [exec_flitDataReceive hl hs]
    refine ⟨fun hg => ?_, fun hg => ?_⟩
    · rw [hg, if_pos rfl] at hq
      rw [Dev.flitDataReceive_discards hup hq]
    · rw [hg, if_neg Bool.false_ne_true, if_pos rfl] at hq
      rw [Dev.flitDataReceive_discards hup hq]
  · have hq := Dev.flitOk_good ha hst hc (by omega)
    rw [exec_null hl hs, Dev.null, if_neg (not_not_intro ht), ← he, Dev.flitDataReceive_null hup hq ht]
  · have hq := Dev.flitOk_good ha hst hc (by omega)
    refine ⟨_, exec_flitDataReceive hl hs f e, s.setDev_pending _, s.setDev_sec _, ?_⟩
    rw [State.setDev_dev, Dev.flitDataReceive_data hup hq ht, if_pos (by omega)]
    obtain rfl : m = whole f := hmsg
    generalize hk : ({ ((d.link l).takeHeader f d.now).noStandby with ack := f.seq % 4096, nak := false, nakWant := false } : Link) = k
    have hki : k.inbox = (d.link l).inbox := by rw [← hk]; exact (Link.noStandby_kept _).2.1
    have hkr : k.rx = (d.link l).rx := by rw [← hk]; exact (Link.noStandby_kept _).2.2.1
    have hka : k.ack = f.seq := by rw [← hk]; exact Nat.mod_eq_of_lt hsq
    have hkn : k.nak = false := by rw [← hk]
    have hkw : k.nakWant = false := by rw [← hk]
    clear hk
    generalize hb : (d.setLink l k).cnt (K.FLITS_RX l) 1 = b
    have hbl : b.link l = k := by rw [← hb]; exact Dev.link_setLink_self _ _ _
    have hbc : b.get (K.FLITS_RX l) = addSat 64 (d.get (K.FLITS_RX l)) 1 := by rw [← hb]; exact Dev.get_put_self _ _ _
    have hbo : ∀ o : Obj, o.key ≠ (K.FLITS_RX l).key → b.get o = d.get o := fun o ho => by rw [← hb]; exact Dev.get_put_ne _ _ ho
    clear hb
    have hb12 (g j : Nat) (hg : g < 0x5000 ∨ 0x5040 ≤ g) (hj : j < 256) : g * 256 + j ≠ (K.FLITS_RX l).key := by
      simp only [K.FLITS_RX]
      omega
    have hbm : b.get (K.LNK_MODE l) = d.get (K.LNK_MODE l) := hbo _ (by simp only [K.LNK_MODE, K.FLITS_RX]; omega)
    have hbn : b.flag K.NUM_ASSIGNED = d.flag K.NUM_ASSIGNED := congrArg (· == 1) (hbo K.NUM_ASSIGNED (hb12 0x5040 8 (by decide) (by decide)))
    have hbr : b.recovery = d.recovery := congrArg (· == 0x80) (hbo K.BOOT_STATE (hb12 0x9000 1 (by decide) (by decide)))
    have hbd : b.get K.DEVICE_NUMBER = d.get K.DEVICE_NUMBER := hbo _ (hb12 0x1000 0xB (by decide) (by decide))
    obtain ⟨ha, hnk, hw, hfl, hi, hch⟩ := Dev.takeData_leaves (d := b) hl hv hf (hbm ▸ hm) (hbn ▸ hn) (hbr ▸ hr) (hbd ▸ hd) (by rw [hbl, hkr, hx])
    rw [hbl] at ha hnk hw hi
    refine ⟨ha.trans hka, hnk.trans hkn, hw.trans hkw, hfl.trans hbc, hi.trans (by rw [hki]), fun ch hres hmc => ?_⟩
    have hc32 := Dev.msgChannel_lt hmc
    rw [hch ch hres ((Dev.msgChannel_of (whole f) fun x hx => hbo x (by simp only [K.FLITS_RX]; omega)).trans hmc),
      hbo _ (hb12 _ _ (.inr (by omega)) (by decide))]
  · have hq := Dev.flitOk_good ha hst hc (by omega)
    refine ⟨_, exec_flitDataReceive hl hs f e, s.setDev_pending _, s.setDev_sec _, ?_⟩
    rw [State.setDev_dev, Dev.flitDataReceive_data hup hq ht, if_neg (by omega), if_pos hold, Dev.link_setLink_self]
    obtain ⟨hka, hki, -, -, -⟩ := ((d.link l).takeHeader f d.now).noStandby_kept
    exact ⟨hka, hki, rfl⟩
  · have hq := Dev.flitOk_good ha hst hc (by omega)
    refine ⟨_, exec_flitDataReceive hl hs f e, s.setDev_pending _, s.setDev_sec _, ?_⟩
    rw [State.setDev_dev, Dev.flitDataReceive_data hup hq ht, if_neg (by omega), if_neg (by omega), Dev.link_setLink_self]
    obtain ⟨hka, hki, -, hkn, hkt⟩ := ((d.link l).takeHeader f d.now).noStandby_kept
    obtain ⟨ha, hi, hn⟩ := ((d.link l).takeHeader f d.now).noStandby.ask_asks d.now
    rw [hkn, hkt] at hn
    exact ⟨ha.trans hka, hi.trans hki, hn⟩
  · have hq := Dev.flitOk_eq ha hst
    rw [Dev.arrived_grpBad ha, if_neg Bool.false_ne_true, if_neg Bool.false_ne_true, if_neg (not_not_intro hc), if_pos ht] at hq
    refine ⟨_, exec_flitDataReceive hl hs f e, s.setDev_pending _, s.setDev_sec _, ?_⟩
    rw [State.setDev_dev, Dev.flitDataReceive_discards hup hq]
    obtain ⟨hr, x, hx⟩ := (d.setLink l { d.link l with lastRx := d.now }).reservedDrop_leaves hl
    rw [Dev.link_setLink_self] at hx
    exact ⟨hr, (congrArg Link.lastRx hx :), (congrArg Link.ack hx :), (congrArg Link.inbox hx :)⟩
  · rw [exec_flitDataReceive hl hs, Dev.flitDataReceive_discards hup (Dev.flitOk_badSum ha hst hc), Link.ask_free hn ht]
  · rw [exec_flitDataReceive hl hs, Dev.flitDataReceive_discards hup (Dev.flitOk_badSum ha hst hc), Link.ask_recent hn ht]
  · rw [exec_messageReassemblyTimeout hl hs, Dev.messageReassemblyTimeout]
    simp only [hp, hd, Bool.false_or, decide_eq_true_eq, if_neg (Nat.not_lt.mpr ht)]
  · rw [exec_messageReassemblyTimeout hl hs, Dev.messageReassemblyTimeout]
    simp only [hp]
    rw [if_pos (by simpa using hd), State.setDev_self]

end Sys2Proof.Machine
end

section
/-! Proofs: requests of other devices and the references that wait for them (R347, R348). -/
namespace Sys2Proof.Machine

/-! ## What leaves every core as it is -/

theorem Dev.Sent.cores {a b : Dev} (h : Dev.Sent a b) : b.cores = a.cores := by
  have e : b = _ := h
  rw [e]

theorem Dev.foldl_cores {α β : Type} (g : α → Dev) (f : α → β → α) (l : List β) (h : ∀ x y, (g (f x y)).cores = (g x).cores) (x : α) :
    (g (l.foldl f x)).cores = (g x).cores :=
  List.foldlRecOn (motive := fun y => (g y).cores = (g x).cores) l f rfl fun _ hb y _ => (h _ y).trans hb

theorem Dev.file_cores (d : Dev) (i : RecInfo) : (d.file i).cores = d.cores := (d.file_sent i).cores

theorem Dev.stain_cores (d : Dev) (kind unit p : Nat) : (d.stain kind unit p).2.2.cores = d.cores := by
  unfold Dev.stain
  refine Dev.foldl_cores (fun a : Nat × Nat × Dev => a.2.2) _ _ (fun x y => ?_) (0, 0, d)
  dsimp only
  split <;> rfl

theorem Dev.meter_cores (d : Dev) (p : Nat) (w : Bool) (n : Nat) : (d.meter p w n).cores = d.cores := by
  unfold Dev.meter Dev.charge
  split
  · rfl
  split
  · rfl
  · dsimp only
    split
    · rfl
    · split <;> rfl

theorem Dev.cacheTouch_cores (d : Dev) (line : Nat) (w al : Bool) (m : Nat) : (d.cacheTouch line w al m).cores = d.cores := by
  unfold Dev.cacheTouch
  extract_lets k own q base tree putLine d1 d2 pages allowed free way victim d3
  have h2 : d2.cores = d.cores := by
    unfold d2
    split <;> rfl
  have h3 : d3.cores = d.cores := by
    rw [← h2]
    unfold d3
    split <;> rfl
  split
  · rfl
  split
  · rfl
  split
  · exact h2
  · exact h3

theorem Dev.hbmRecord_cores (d : Dev) (kind x st p idx op : Nat) : (d.hbmRecord kind x st p idx op).cores = d.cores := by
  unfold Dev.hbmRecord
  extract_lets k o syn d1
  exact (d1.file_cores _).trans (d.put_cores _ _)

theorem Dev.lineMet_cores (d : Dev) (line p idx op : Nat) (f : Finding) : (d.lineMet line p idx op f).2.cores = d.cores := by
  have hl (kind : Nat) : (d.lineLost line kind p idx op).cores = d.cores := by
    unfold Dev.lineLost
    extract_lets m d1
    exact (Dev.hbmRecord_cores _ _ _ _ _ _ _).trans (d1.put_cores _ _)
  unfold Dev.lineMet
  split
  · exact hl 2
  split
  · exact hl (lostKind f)
  split
  · unfold Dev.lineCorrected
    dsimp only
    split
    · exact Dev.hbmRecord_cores _ _ _ _ _ _ _
    · rfl
  · rfl
  · rfl

theorem Dev.readLine_cores (d : Dev) (s : Iss) (line : Nat) : (d.readLine s line).2.cores = d.cores :=
  (Dev.lineMet_cores _ _ _ _ _ _).trans ((Dev.stain_cores _ _ _ _).trans (d.cacheTouch_cores _ _ _ _))

theorem Dev.readLines_cores (d : Dev) (s : Iss) (ls : List Loc) : (d.readLines s ls).2.2.cores = d.cores := by
  unfold Dev.readLines
  dsimp only
  rw [Dev.meter_cores]
  refine Dev.foldl_cores (fun a : Bool × Dev => a.2) _ _ (fun a ln => ?_) (false, d)
  exact a.2.readLine_cores s ln

theorem Dev.spRecordEcc_cores (d : Dev) (c mem kind word e idx op ecc : Nat) : (d.spRecordEcc c mem kind word e idx op ecc).cores = d.cores := by
  unfold Dev.spRecordEcc
  extract_lets syn d1
  have h1 : d1.cores = d.cores := by
    unfold d1
    split <;> rfl
  exact (Dev.put_cores _ _ _).trans ((d1.file_cores _).trans h1)

theorem Dev.spMet_cores (d : Dev) (s : Iss) (e : Nat) (ws : List (Nat × Nat × Nat)) : (d.spMet s e ws).cores = d.cores :=
  Dev.foldl_cores id _ _ (fun d _ => d.spRecordEcc_cores _ _ _ _ _ _ _ _) d

/-- A read corrects words, and leaves the cores as they are but for those. -/
theorem Dev.readRun_cores {d : Dev} {ls : List Loc} (h : d.fixWords ls = []) (s : Iss) (e : Nat) : (d.readRun s e ls).2.2.cores = d.cores := by
  unfold Dev.readRun
  dsimp only
  rw [h]
  exact (Dev.spMet_cores _ _ _ _).trans (Dev.readLines_cores _ _ _)

theorem Dev.post_cores (d : Dev) (t : Nat) (m : Msg) : (d.post t m).1.cores = d.cores := by
  unfold Dev.post
  dsimp only
  split
  · exact (Dev.send_sent _ _ _).cores
  · rfl

theorem Dev.answer_cores (d : Dev) (m : Msg) (op st : Nat) (data : List Nat) : (d.answer m op st data).cores = d.cores :=
  Dev.post_cores _ _ _

/-! ## Requests -/

/-- A message taken from a link leaves all but the link. -/
theorem Dev.takeTx_leaves {d b : Dev} {l op : Nat} {m : Msg} (h : d.takeTx l op = some (m, b)) : ∃ x, b = d.setLink l x := by
  have take {vc : Nat} {ok : Msg → Bool} (h : d.takeMsg l vc ok = some (m, b)) : ∃ x, b = d.setLink l x := by
    unfold Dev.takeMsg at h
    dsimp only at h
    split at h
    · cases h
    split at h
    · cases h
    · exact ⟨_, (Prod.mk.inj (Option.some.inj h)).2.symm⟩
  unfold Dev.takeTx at h
  split at h
  next r hr => exact take (hr.trans h)
  next => exact take h

section
variable {d b : Dev} {l : Nat} {m : Msg} (hr : d.recovery = false)
include hr

theorem Dev.readReq_served {ls : List Loc} (ht : d.takeTx l 1 = some (m, b)) (hp : b.txPlaces (txReq m) false = .ok ls) (hw : d.txWait (txReq m) ls = none) :
    d.readReq l = (Dev.readRun { b with memDelay := 0 } { part := (txReq m).part, index := 0, op := 0xFF, alloc := true } 0 ls).2.2.answer m 2
      (if (Dev.readRun { b with memDelay := 0 } { part := (txReq m).part, index := 0, op := 0xFF, alloc := true } 0 ls).2.1 then stECC else stOK)
      (ls.map fun x => (b.peek x).toNat) := by
  have hd : ls.map (fun x => (b.peek x).toNat) =
      (Dev.readRun { b with memDelay := 0 } { part := (txReq m).part, index := 0, op := 0xFF, alloc := true } 0 ls).1.map BitVec.toNat := by
    have h : (Dev.readRun { b with memDelay := 0 } { part := (txReq m).part, index := 0, op := 0xFF, alloc := true } 0 ls).1 = ls.map b.peek := rfl
    rw [h, List.map_map]
    rfl
  unfold Dev.readReq
  rw [hr, if_neg Bool.false_ne_true, ht]
  dsimp only
  rw [hp]
  dsimp only
  rw [hw, hd]

theorem Dev.readReq_refused {st : Nat} (ht : d.takeTx l 1 = some (m, b)) (hp : b.txPlaces (txReq m) false = .error st) : d.readReq l = b.answer m 6 st [] := by
  unfold Dev.readReq
  rw [hr, if_neg Bool.false_ne_true, ht]
  dsimp only
  rw [hp]

theorem Dev.write_served {ls : List Loc} (ht : d.takeTx l 3 = some (m, b)) (hp : b.txPlaces (txReq m) true = .ok ls) (hw : d.txWait (txReq m) ls = none) :
    d.write l = (Dev.writeRun { b with memDelay := 0 } { part := (txReq m).part, index := 0, op := 0xFF, alloc := true } 0
        (ls.zip (((m.payload.drop 16).take (txReq m).len).map (BitVec.ofNat 8)))).2.answer m 4
      (if (Dev.writeRun { b with memDelay := 0 } { part := (txReq m).part, index := 0, op := 0xFF, alloc := true } 0
        (ls.zip (((m.payload.drop 16).take (txReq m).len).map (BitVec.ofNat 8)))).1 then stECC else stOK) [] := by
  unfold Dev.write
  rw [hr, if_neg Bool.false_ne_true, ht]
  dsimp only
  rw [hp]
  dsimp only
  rw [hw]

theorem Dev.write_refused {st : Nat} (ht : d.takeTx l 3 = some (m, b)) (hp : b.txPlaces (txReq m) true = .error st) : d.write l = b.answer m 6 st [] := by
  unfold Dev.write
  rw [hr, if_neg Bool.false_ne_true, ht]
  dsimp only
  rw [hp]

end

/-! ## Answers -/

/-- A plan with the bytes that an answer carries. -/
def Plan.fed (p : Plan) (a : Nat) (data : List Nat) : Plan :=
  { p with got := ((List.range data.length).zip data).foldl (fun m x => Map.ins m (a + x.1) (BitVec.ofNat 8 x.2)) p.got }

theorem Dev.setFlight_flight {d : Dev} {e : Eng} {f g : InFlight} (h : d.flight e = some f) (hi : g.index = f.index) : (d.setFlight e g).flight e = some g := by
  unfold Dev.flight at h ⊢
  unfold Dev.setFlight
  dsimp only
  rw [Dev.ctx_setCtx_self]
  cases hb : (d.ctx e).busy with
  | nil => rw [hb] at h; cases h
  | cons x r =>
    rw [hb] at h
    obtain rfl : x = f := Option.some.inj h
    simp [hi]

theorem Dev.setPlan_ctx (d : Dev) (e x : Eng) (p : Option Plan) : (d.setPlan e p).ctx x = d.ctx x := by
  unfold Dev.ctx Dev.setPlan
  by_cases h : x.n = e.n
  · rw [h, Dev.core_setCore_self]; rfl
  · rw [Dev.core_setCore_ne _ _ h]; rfl

/-- A plan waits while a reference of its command is unanswered. -/
theorem Dev.planGo_waits {d : Dev} {e : Eng} {f : InFlight} (h : d.flight e = some f) (ho : f.outs ≠ []) : d.planGo e = d := by
  unfold Dev.planGo
  rw [h]
  split
  next hf =>
    cases hf
    rw [if_pos (by simp [ho])]
  next => rfl

/-- An answer that leaves its command with references to come brings its status. -/
theorem Dev.remoteAnswer_leaves {d : Dev} {id a : Nat} {r : Remote} {f : InFlight} {more : List Nat} (hl : r.list = false)
    (hf : d.flight { k := r.k, n := r.n, p := r.p } = some f) (ho : f.outs = id :: a :: more) (data : List Nat) (st : Nat) :
    (d.remoteAnswer id r data st).mem = d.mem ∧ (d.remoteAnswer id r data st).objs = d.objs ∧
    (d.remoteAnswer id r data st).remote = Map.del d.remote id ∧
    (d.remoteAnswer id r data st).flight { k := r.k, n := r.n, p := r.p } = some { f with outs := a :: more, status := stWorst f.status st } := by
  generalize he : ({ k := r.k, n := r.n, p := r.p } : Eng) = e at hf ⊢
  generalize hg : ({ f with outs := a :: more, status := stWorst f.status st } : InFlight) = g
  have hgo : g.outs = a :: more := by rw [← hg]
  have herase : f.outs.erase id = a :: more := by rw [ho, List.erase_cons_head]
  have hin : f.outs.contains id = true := by rw [ho]; simp
  generalize hb : ({ d with remote := Map.del d.remote id } : Dev) = b
  have hfb : b.flight e = some f := by rw [← hb]; exact hf
  have hset : (b.setFlight e g).flight e = some g := Dev.setFlight_flight hfb (by rw [← hg])
  have hside : (b.setFlight e g).mem = d.mem ∧ (b.setFlight e g).objs = d.objs ∧ (b.setFlight e g).remote = Map.del d.remote id := by
    rw [← hb]
    unfold Dev.setFlight Dev.setCtx
    dsimp only
    split
    · exact ⟨rfl, rfl, rfl⟩
    · split <;> exact ⟨rfl, rfl, rfl⟩
  have heq : d.remoteAnswer id r data st = match (b.setFlight e g).planOf e with
      | none => b.setFlight e g
      | some p => ((b.setFlight e g).setPlan e (some (p.fed r.addr data))).planGo e := by
    unfold Dev.remoteAnswer
    dsimp only
    rw [hl, if_neg Bool.false_ne_true, he, hb, hfb]
    dsimp only
    rw [hin, if_neg (by simp), herase, hg]
    rfl
  rw [heq]
  split
  · exact ⟨hside.1, hside.2.1, hside.2.2, hset⟩
  next p _ =>
    generalize hq : some (p.fed r.addr data) = q
    have hfl : ((b.setFlight e g).setPlan e q).flight e = some g := by
      rw [← hset]
      exact congrArg (fun x : EngCtx => x.busy.head?) (Dev.setPlan_ctx _ e e q)
    rw [Dev.planGo_waits hfl (by rw [hgo]; simp)]
    exact ⟨hside.1, hside.2.1, hside.2.2, hfl⟩

theorem Dev.response_stray {d : Dev} {m : Msg} (data : List Nat) (h : Map.look d.remote m.id = none) : d.response m data = d := by
  unfold Dev.response
  rw [h]

theorem Dev.response_taken {d : Dev} {m : Msg} {r : Remote} (data : List Nat) (h : Map.look d.remote m.id = some r) (hs : bits r.addr 63 52 = m.src) :
    d.response m data = d.remoteAnswer m.id r data (m.payload.getD 13 0) := by
  unfold Dev.response
  rw [h]
  exact if_pos hs

/-- READ_DATA, WRITE_ACK and ERROR take the oldest message of their kind for the answer that it is. -/
theorem exec_answer {s : State} {l op : Nat} {i : Instr} {m : Msg} {d : Dev} (hl : l < 64) (hs : s.stopped = false)
    (hi : (op = 2 ∧ i = .readData l) ∨ (op = 4 ∧ i = .writeAck l) ∨ (op = 6 ∧ i = .error l)) (ht : s.dev.takeTx l op = some (m, d)) :
    ∃ data, exec i s = .next (s.setDev (d.response m data)) := by
  obtain ⟨rfl, rfl⟩ | ⟨rfl, rfl⟩ | ⟨rfl, rfl⟩ := hi
  · refine ⟨m.payload.drop 16, (onUnit_next (f := fun d => d.readData l) (decide_eq_true hl) hs).trans ?_⟩
    dsimp only [Dev.readData]
    rw [ht]
  · refine ⟨[], (onUnit_next (f := fun d => d.writeAck l) (decide_eq_true hl) hs).trans ?_⟩
    dsimp only [Dev.writeAck]
    rw [ht]
  · refine ⟨[], (onUnit_next (f := fun d => d.errorResponse l) (decide_eq_true hl) hs).trans ?_⟩
    dsimp only [Dev.errorResponse]
    rw [ht]

/-- Settles O41: a request is served at its places or refused; an answer ends the wait for its reference. -/
theorem remoteReferences : Obligations.RemoteReferences := by
  refine ⟨fun s l m d hl hs hr => ⟨fun ls ht hp hw => ?_, fun st ht hp => ?_, fun ls ht hp hw => ?_, fun st ht hp => ?_⟩,
    fun s l op i m d hl hs hi ht => ⟨fun hno => ?_, fun r f a more hlook hlist hsrc hf ho => ?_⟩, fun s id r hs hlook => ⟨fun h => ?_, fun h => ?_⟩⟩
  · refine ⟨_, _, onUnit_next (f := fun d => d.readReq l) (decide_eq_true hl) hs, s.setDev_pending _, s.setDev_sec _, rfl, ?_⟩
    rw [State.setDev_dev, Dev.readReq_served hr ht hp hw]
    refine ⟨rfl, fun hfix => ?_⟩
    obtain ⟨x, rfl⟩ := Dev.takeTx_leaves ht
    exact (Dev.answer_cores _ _ _ _ _).trans (Dev.readRun_cores (d := { s.dev.setLink l x with memDelay := 0 }) hfix _ _)
  · rw [← Dev.readReq_refused hr ht hp]
    exact onUnit_next (f := fun d => d.readReq l) (decide_eq_true hl) hs
  · refine ⟨_, _, onUnit_next (f := fun d => d.write l) (decide_eq_true hl) hs, s.setDev_pending _, s.setDev_sec _, rfl, ?_⟩
    rw [State.setDev_dev, Dev.write_served hr ht hp hw]
  · rw [← Dev.write_refused hr ht hp]
    exact onUnit_next (f := fun d => d.write l) (decide_eq_true hl) hs
  · obtain ⟨data, hx⟩ := exec_answer hl hs hi ht
    rw [hx, Dev.response_stray data hno]
  · obtain ⟨data, hx⟩ := exec_answer hl hs hi ht
    rw [Dev.response_taken data hlook hsrc] at hx
    refine ⟨_, hx, s.setDev_pending _, s.setDev_sec _, ?_⟩
    rw [State.setDev_dev]
    exact Dev.remoteAnswer_leaves hlist hf ho data _
  · have hx : exec (.remoteTimeout id) s = .next (s.setDev (s.dev.remoteTimeout id)) := onDev_next (f := fun d => d.remoteTimeout id) hs
    rw [hx, Dev.remoteTimeout, hlook]
    dsimp only
    rw [if_neg (by omega), State.setDev_self]
  · have hx : exec (.remoteTimeout id) s = .next (s.setDev (s.dev.remoteTimeout id)) := onDev_next (f := fun d => d.remoteTimeout id) hs
    rw [hx, Dev.remoteTimeout, hlook]
    dsimp only
    rw [if_pos h]

end Sys2Proof.Machine
end

section
/-! Proofs: stacks, ways and channels that drain (R274 to R287, R406). -/
namespace Sys2Proof.Machine

/-! ## What a drain leaves -/

theorem Dev.releaseDone_part (d : Dev) (tok p : Nat) :
    (d.releaseDone tok).part p = { d.part p with releasing := (d.part p).releasing.filter (· != tok) } :=
  Map.get_map d.parts Part.init (fun x => { x with releasing := x.releasing.filter (· != tok) }) rfl p

/-- A part of a release that ends is no partition's any more. -/
theorem Dev.releaseDone_released (d : Dev) (tok p : Nat) : tok ∉ ((d.releaseDone tok).part p).releasing := by
  rw [Dev.releaseDone_part]
  simp

/-- What a dropping of lines leaves of the tags, and what it counts. -/
theorem Dev.dropLines_leaves (d : Dev) (q : Nat) (sel : Nat → CLine → Bool) :
    (d.dropLines q true sel).mem = { d.mem with tags := d.mem.tags.filter (fun e => !(e.1 / 2 ^ 20 == q && sel (e.1 % 16) e.2)) } ∧
    (d.dropLines q true sel).cores = d.cores ∧
    ∀ n, n = d.mem.tags.countP (fun e => e.1 / 2 ^ 20 == q && sel (e.1 % 16) e.2 && e.2.dirty) →
      (d.dropLines q true sel).get (K.SC_WRITEBACKS q) = if n = 0 then d.get (K.SC_WRITEBACKS q) else addSat 64 (d.get (K.SC_WRITEBACKS q)) n := by
  unfold Dev.dropLines
  dsimp only
  rw [if_pos rfl]
  split
  next h =>
    refine ⟨rfl, rfl, fun n hn => ?_⟩
    rw [if_pos (hn.trans h)]
    rfl
  next h =>
    refine ⟨rfl, rfl, fun n hn => ?_⟩
    rw [if_neg (fun h0 => h (hn.symm.trans h0)), ← hn]
    exact Dev.get_put_self _ _ _

theorem Dev.flushRecords_none {d : Dev} (h : d.mem.recWait = []) : d.flushRecords = d := by
  have hm : ({ d.mem with recWait := [] } : Mem) = d.mem := by rw [← h]
  unfold Dev.flushRecords
  dsimp only
  rw [h, List.filter_nil, List.filter_nil, List.foldl_nil]
  exact congrArg (fun m => ({ d with mem := m } : Dev)) hm

/-! ## A zeroised channel -/

/-- What the end of a zeroisation leaves of a memory that is kept in equal parts per channel. -/
theorem Map.get_delRange_div {β : Type} (m : Map β) (d : β) {w k : Nat} (hw : 0 < w) (x : Nat) :
    Map.get (Map.delRange m (k * w) ((k + 1) * w)) d x = if x / w = k then d else Map.get m d x := by
  split
  next h =>
    obtain ⟨h1, h2⟩ := (Nat.div_eq_iff hw).mp h
    exact Map.get_delRange_in m d h1 (by rw [Nat.add_mul]; omega)
  next h =>
    refine Map.get_delRange_out m d ?_
    by_contra hc
    exact h ((Nat.div_eq_iff hw).mpr ⟨by omega, by rw [Nat.add_mul] at hc; omega⟩)

/-- Settles O32: a stack in service by its intervals; drains, by the lines, the drains and the releases that they end. -/
theorem stacksAndDrains : Obligations.StacksAndDrains := by
  refine ⟨⟨fun s k hk hs hst => ?_, fun s q w r hq hs hw hroom => ?_⟩, fun s q w hq hw hs hd => ?_, fun s q hq hs hlock hwait => ?_,
    fun s q hq hs => ?_, fun s k hk hs ho => ?_, fun s k hk hs ho => ?_⟩
  · have hx (m : Bool) : exec (.hbmRefresh k m) s = .next (s.setDev (s.dev.hbmRefresh k m)) :=
      onUnit_next (f := fun d => d.hbmRefresh k m) (decide_eq_true hk) hs
    have ht (v : Nat) : exec (.hbmTempRead k v) s = .next (s.setDev (s.dev.hbmTempRead k v)) :=
      onUnit_next (f := fun d => d.hbmTempRead k v) (decide_eq_true hk) hs
    refine ⟨fun h => ?_, fun b r h => ?_, fun h => ?_, fun h => ?_, fun v => ?_⟩
    · rw [hx, Dev.hbmRefresh, if_neg (not_not_intro hst), if_pos rfl, h]
      rfl
    · rw [hx, Dev.hbmRefresh, if_neg (not_not_intro hst), if_pos rfl, h]
    · rw [hx, Dev.hbmRefresh, if_neg (not_not_intro hst), if_neg Bool.false_ne_true, if_pos h, State.setDev_self]
    · rw [hx, Dev.hbmRefresh, if_neg (not_not_intro hst), if_neg Bool.false_ne_true, if_neg (Nat.not_lt.mpr h)]
    · rw [ht, Dev.hbmTempRead, if_pos hst]
  · have hx : exec (.trackerAdmit q) s = .next (s.setDev (s.dev.trackerAdmit q)) := onUnit_next (f := fun d => d.trackerAdmit q) (decide_eq_true hq) hs
    have hf : (w :: r).find? (fun w => !s.dev.trkFull q (s.dev.waitClass w)) = some w := List.find?_cons_of_pos (by
      unfold Dev.waitClass
      rw [hroom]
      rfl)
    rw [hx, Dev.trackerAdmit]
    dsimp only
    rw [hw, hf]
    dsimp only
    rw [List.erase_cons_head]
  · have hx : exec (.wayDrained q w) s = .next (s.setDev (s.dev.wayDrained q w)) :=
      onUnit_next (f := fun d => d.wayDrained q w) (by simp [hq, hw]) hs
    have hin : s.dev.mem.drain.contains (0, 16 * q + w) = true := List.contains_iff_mem.mpr hd
    refine ⟨_, hx, s.setDev_pending _, s.setDev_sec _, ?_⟩
    rw [State.setDev_dev, Dev.wayDrained, hin, if_neg (by decide)]
    obtain ⟨hm, hc, hn⟩ := s.dev.dropLines_leaves q (fun w' _ => w' == w)
    generalize s.dev.dropLines q true (fun w' _ => w' == w) = b at hm hc hn ⊢
    have htags : ((b.drainDone (fun e => e == (0, 16 * q + w))).releaseDone (1000 + 16 * q + w)).mem.tags =
        s.dev.mem.tags.filter (fun e => !(e.1 / 2 ^ 20 == q && e.1 % 16 == w)) := congrArg Mem.tags hm
    refine ⟨?_, fun e => ?_, hn, (congrArg Mem.cells hm :), hc⟩
    · change (0, 16 * q + w) ∉ b.mem.drain.filter (fun e => !(e == (0, 16 * q + w)))
      simp
    · rw [htags, List.mem_filter]
      simp [imp_iff_not_or]
  · have hx : exec (.accAreaLocked q) s = .next (s.setDev (s.dev.accAreaLocked q)) :=
      onUnit_next (f := fun d => d.accAreaLocked q) (decide_eq_true hq) hs
    refine ⟨_, hx, s.setDev_pending _, s.setDev_sec _, ?_⟩
    obtain ⟨hm, -, -⟩ := s.dev.dropLines_leaves q (fun w c => lockedUnit (s.dev.get (K.SC_ACC_PAGES q)) (c.line % 3) w)
    rw [State.setDev_dev, Dev.accAreaLocked, hlock, if_neg (by decide)]
    generalize s.dev.dropLines q true (fun w c => lockedUnit (s.dev.get (K.SC_ACC_PAGES q)) (c.line % 3) w) = b at hm ⊢
    rw [Dev.flushRecords_none (d := b.drainDone _) ((congrArg Mem.recWait hm).trans hwait)]
    have htags : (b.drainDone (fun e => e.1 == 1 && e.2 / 16 == q)).mem.tags = _ := (congrArg Mem.tags hm :)
    refine ⟨?_, fun e he heq => ?_, (congrArg Mem.cells hm :), (congrArg Mem.acc hm :)⟩
    · unfold Dev.accLocking Dev.drainDone
      simp [← imp_iff_not_or]
    · rw [htags, List.mem_filter] at he
      have hsel := he.2
      rw [heq] at hsel
      simpa using hsel
  · have hx : exec (.accAreaUnlocked q) s = .next (s.setDev (s.dev.accAreaUnlocked q)) :=
      onUnit_next (f := fun d => d.accAreaUnlocked q) (decide_eq_true hq) hs
    exact ⟨_, hx, s.setDev_pending _, s.setDev_sec _, rfl, rfl, fun p => Dev.releaseDone_released _ _ p⟩
  · have hx : exec (.channelZeroised k) s = .next (s.setDev (s.dev.channelZeroised k)) :=
      onUnit_next (f := fun d => d.channelZeroised k) (decide_eq_true hk) hs
    refine ⟨_, hx, s.setDev_pending _, s.setDev_sec _, ?_⟩
    rw [State.setDev_dev, Dev.channelZeroised, if_neg (not_not_intro ho)]
    dsimp only
    have hne : (K.CH_OWNER (k / 16) (k % 16)).key ≠ (K.UP_ZEROISED (k / 16)).key := by
      simp only [K.CH_OWNER, K.UP_ZEROISED]
      omega
    have hpos : 0 < chBytes := by decide
    have hlines : 0 < chLines := by decide
    refine ⟨?_, ?_, Map.get_delRange_div _ 0 hpos, Map.get_delRange_div _ 0 hpos, fun x hx => ?_, fun p => Dev.releaseDone_released _ _ p, rfl, rfl⟩
    · exact (Dev.get_put_ne _ _ hne).trans (Dev.get_put_self _ _ _)
    · refine (Dev.get_put_self _ _ _).trans ?_
      rw [Dev.get_put_ne _ _ hne.symm]
      rfl
    · exact (Map.get_delRange_div _ false hlines x).trans (if_pos hx)
  · have hx : exec (.channelZeroised k) s = .next (s.setDev (s.dev.channelZeroised k)) :=
      onUnit_next (f := fun d => d.channelZeroised k) (decide_eq_true hk) hs
    rw [hx, Dev.channelZeroised, if_pos ho, State.setDev_self]

end Sys2Proof.Machine
end

section
/-! Proofs: power domains enter a depth, abandon an entry, wake and return (R434 to R444). -/
namespace Sys2Proof.Machine

/-! ## What messages leave of the power manager -/

/-- `b` is `a` after messages went out: no entry moves, and of the wakes those of ports alone. -/
structure Dev.PortsWoken (a b : Dev) : Prop where
  entering : b.pwr.entering = a.pwr.entering
  waking : ∀ y, y < 68 → Map.get b.pwr.waking 0 y = Map.get a.pwr.waking 0 y

namespace Dev.PortsWoken

variable {a b c : Dev}

theorem of_pwr (h : b.pwr = a.pwr) : Dev.PortsWoken a b := ⟨by rw [h], fun _ _ => by rw [h]⟩
theorem refl (a : Dev) : Dev.PortsWoken a a := of_pwr rfl
theorem trans (h : Dev.PortsWoken a b) (g : Dev.PortsWoken b c) : Dev.PortsWoken a c :=
  ⟨g.entering.trans h.entering, fun y hy => (g.waking y hy).trans (h.waking y hy)⟩

end Dev.PortsWoken

theorem Dev.wakeDom_entering (d : Dev) (x : Nat) : (d.wakeDom x).pwr.entering = d.pwr.entering := by
  unfold Dev.wakeDom
  dsimp only
  split
  · split <;> rfl
  · split <;> rfl

theorem Dev.wakeDom_woken (d : Dev) {x : Nat} (hx : 68 ≤ x) : Dev.PortsWoken d (d.wakeDom x) := by
  refine ⟨d.wakeDom_entering x, fun y hy => ?_⟩
  unfold Dev.wakeDom
  dsimp only
  split
  · split <;> rfl
  · split
    · rfl
    · exact Map.get_set_ne d.pwr.waking _ _ (by omega)

theorem Dev.enqueue_woken (d : Dev) (l : Nat) (m : Msg) : Dev.PortsWoken d (d.enqueue l m) := by
  have h : Dev.PortsWoken d (d.wakeDom (68 + l / 8)) := d.wakeDom_woken (Nat.le_add_right _ _)
  unfold Dev.enqueue
  dsimp only
  split
  · exact h.trans (.of_pwr rfl)
  · exact h.trans (.of_pwr rfl)

theorem Dev.send_woken (d : Dev) (m : Msg) (f : Bool) : Dev.PortsWoken d (d.send m f).1 := by
  unfold Dev.send
  split
  · exact d.enqueue_woken _ m
  · exact .refl d

theorem Dev.file_woken (d : Dev) (i : RecInfo) : Dev.PortsWoken d (d.file i) := by
  unfold Dev.file
  extract_lets ms n lost seq r d1 d2 d3
  split
  · exact .of_pwr rfl
  · have h3 : d3.pwr = d.pwr := by
      unfold d3
      split <;> rfl
    exact .trans (.of_pwr h3) (.trans (b := { d3 with msgId := d3.msgId + 1 }) (.of_pwr rfl) (Dev.send_woken _ _ _))

/-! ## What a core keeps -/

theorem Dev.raEmpty_leaves (d : Dev) (c : Nat) : (d.raEmpty c).core c = { d.core c with ra := [], raStop := 0 } ∧
    Dev.ObjsBut (fun k => k = (K.RA_DISCARDED c).key) d (d.raEmpty c) ∧ (d.raEmpty c).pwr = d.pwr ∧ (d.raEmpty c).mem = d.mem ∧
    (d.raEmpty c).parts = d.parts :=
  ⟨Dev.core_setCore_self _ _ _, .trans (b := d.setCore c { d.core c with ra := [], raStop := 0 }) (.of_objs rfl) (.put _ _ rfl), rfl, rfl, rfl⟩

/-- A kept line-row holds its bytes; the others read as zeros. -/
theorem Core.keep_byte (k : Core) (rows : List Nat) (m o : Nat) :
    (k.keep rows).byte m o = if m * 256 + o / 4096 ∈ rows then k.byte m o else 0 := by
  have hk : spKey m o / 0x100000 * 256 + spKey m o % 0x100000 / 4096 = m * 256 + o / 4096 := by
    unfold spKey
    omega
  unfold Core.byte Core.keep
  dsimp only
  split
  next h => exact Map.get_filter_of_true _ _ _ _ fun v => List.contains_iff_mem.mpr (hk.symm ▸ h)
  next h =>
    refine Map.get_filter_of_false _ _ _ _ fun v => Bool.eq_false_iff.mpr fun hc => h ?_
    exact hk ▸ List.contains_iff_mem.mp hc

theorem Dev.retained_of {a b : Dev} {c : Nat} (h : ∀ i, i < 16 → b.get (K.RET_ROW c i) = a.get (K.RET_ROW c i)) : b.retained c = a.retained c := by
  have hl : (List.range 16).map (fun i => b.get (K.RET_ROW c i)) = (List.range 16).map (fun i => a.get (K.RET_ROW c i)) :=
    List.map_congr_left fun i hi => h i (List.mem_range.mp hi)
  unfold Dev.retained
  rw [hl]

/-- The state that a core has reached: what it keeps, and the count of what run-ahead loses. -/
theorem Dev.coreEntered_leaves (d : Dev) (c st : Nat) :
    Dev.ObjsBut (fun k => k = (K.RA_DISCARDED c).key) d (d.coreEntered c st) ∧ (d.coreEntered c st).pwr = d.pwr ∧
    (d.coreEntered c st).mem = d.mem ∧ (d.coreEntered c st).parts = d.parts ∧
    (st = 1 → (d.coreEntered c st).core c = d.core c) ∧ (st = 2 → ((d.coreEntered c st).core c).sp = (d.core c).sp) ∧
    (st = 3 → ∀ m o, m < 4 → o < 0x100000 → ((d.coreEntered c st).core c).byte m o =
      if m * 256 + o / 4096 ∈ d.retained c then (d.core c).byte m o else 0) ∧
    (3 < st → (d.coreEntered c st).core c = Core.init) := by
  obtain ⟨hc, ho, hp, hm, hq⟩ := d.raEmpty_leaves c
  have hret : (d.raEmpty c).retained c = d.retained c := Dev.retained_of fun i hi => ho _ (by simp only [K.RET_ROW, K.RA_DISCARDED]; omega)
  unfold Dev.coreEntered
  split
  · exact ⟨.refl d, rfl, rfl, rfl, fun _ => rfl, by omega, by omega, by omega⟩
  · refine ⟨ho.trans (.of_objs rfl), hp, hm, hq, by omega, fun _ => ?_, by omega, by omega⟩
    rw [Dev.core_setCore_self, hc]
  · refine ⟨ho.trans (.of_objs rfl), hp, hm, hq, by omega, by omega, fun _ m o _ _ => ?_, by omega⟩
    rw [Dev.core_setCore_self, Core.keep_byte, hret, hc]
    rfl
  next h1 h2 h3 =>
    exact ⟨.of_objs rfl, rfl, rfl, rfl, fun h => absurd h h1, fun h => absurd h h2, fun h => absurd h h3, fun _ => Dev.core_setCore_self _ _ _⟩

/-! ## Memory domains, ports and the device -/

/-- The objects of stacks and stage caches. -/
def stackKey (k : Nat) : Prop := 0x400000 ≤ k ∧ k < 0x406400

theorem Dev.stackState_leaves (d : Dev) {q : Nat} (v : Nat) (hq : q < 4) : Dev.ObjsBut stackKey d (d.stackState q v) ∧
    (d.stackState q v).cores = d.cores ∧ (d.stackState q v).pwr = d.pwr ∧ ∀ i, i < 5 → (d.stackState q v).get (K.HBM_STATE (5 * q + i)) = v := by
  have fold (l : List Nat) : (l.foldl (fun d i => d.put (K.HBM_STATE (5 * q + i)) v) d).cores = d.cores ∧
      (l.foldl (fun d i => d.put (K.HBM_STATE (5 * q + i)) v) d).pwr = d.pwr :=
    List.foldlRecOn (motive := fun y : Dev => y.cores = d.cores ∧ y.pwr = d.pwr) l _ ⟨rfl, rfl⟩ fun _ hb _ _ => hb
  refine ⟨.foldl _ _ (fun b i hi => .put _ _ ?_) d, (fold _).1, (fold _).2, fun i hi => ?_⟩
  · have := List.mem_range.mp hi
    simp only [stackKey, K.HBM_STATE]
    omega
  · exact Dev.get_foldl_put (f := fun i => K.HBM_STATE (5 * q + i)) (fun _ => v) (fun i j _ _ h => by simp only [K.HBM_STATE] at h; omega) d hi

theorem Dev.memEntered_leaves (d : Dev) {q : Nat} (st : Nat) (hq : q < 4) : Dev.ObjsBut stackKey d (d.memEntered q st) ∧
    (d.memEntered q st).cores = d.cores ∧ (d.memEntered q st).pwr = d.pwr := by
  have hf : Dev.ObjsBut stackKey d (d.cacheFlush q) ∧ (d.cacheFlush q).cores = d.cores ∧ (d.cacheFlush q).pwr = d.pwr := by
    unfold Dev.cacheFlush
    dsimp only
    split
    · exact ⟨.of_objs rfl, rfl, rfl⟩
    · refine ⟨.trans (b := { d with mem := _ }) (.of_objs rfl) (.cnt _ _ ?_), rfl, rfl⟩
      simp only [stackKey, K.SC_WRITEBACKS]
      omega
  have hall (v : Nat) : Dev.ObjsBut stackKey d (((d.cacheFlush q).accLose q).stackState q v) ∧
      (((d.cacheFlush q).accLose q).stackState q v).cores = d.cores ∧ (((d.cacheFlush q).accLose q).stackState q v).pwr = d.pwr := by
    obtain ⟨ho, hc, hp, -⟩ := ((d.cacheFlush q).accLose q).stackState_leaves v hq
    exact ⟨(hf.1.trans (.of_objs rfl)).trans ho, hc.trans hf.2.1, hp.trans hf.2.2⟩
  unfold Dev.memEntered
  split
  · exact ⟨.refl d, rfl, rfl⟩
  split
  · exact hall 2
  · obtain ⟨ho, hc, hp⟩ := hall 0
    generalize ((d.cacheFlush q).accLose q).stackState q 0 = b at ho hc hp ⊢
    exact ⟨ho.trans (.of_objs rfl), hc, hp⟩

theorem Dev.reroute_woken {d : Dev} {me : Nat} {m : Msg} (hm : m.src ≠ d.get K.DEVICE_NUMBER ∨ (m.vc ≠ 2 ∧ m.vc ≠ 3)) :
    Dev.PortsWoken d (d.reroute me m) ∧ Dev.ObjsBut wakeKey d (d.reroute me m) := by
  have ho := d.send_wakes m (m.src != me)
  unfold Dev.reroute
  dsimp only
  split
  · exact ⟨d.send_woken m _, ho⟩
  · rw [Dev.lostMsg_harmless (by rw [ho K.DEVICE_NUMBER (by simp only [wakeKey, K.DEVICE_NUMBER]; omega)]; exact hm)]
    exact ⟨d.send_woken m _, ho⟩

theorem Dev.linkStop_woken {d : Dev} {l : Nat} (st : Nat) (h : d.Harmless l) : Dev.PortsWoken d (d.linkStop l st) := by
  rw [Dev.linkStop_eq st h]
  generalize hb : (d.setLink l ((d.link l).stopped d.now)).put (K.LNK_STATE l) st = b
  have hdn : b.get K.DEVICE_NUMBER = d.get K.DEVICE_NUMBER := by
    rw [← hb, Dev.get_put_ne _ _ (by simp only [K.DEVICE_NUMBER, K.LNK_STATE]; omega)]
    rfl
  have hw : Dev.PortsWoken d b := by
    rw [← hb]
    exact .of_pwr rfl
  have hr : Dev.PortsWoken b (((d.link l).held.flatMap Prod.snd).foldl (fun x m => x.reroute (d.get K.DEVICE_NUMBER) m) b) ∧
      Dev.ObjsBut wakeKey b (((d.link l).held.flatMap Prod.snd).foldl (fun x m => x.reroute (d.get K.DEVICE_NUMBER) m) b) := by
    refine List.foldlRecOn (motive := fun y => Dev.PortsWoken b y ∧ Dev.ObjsBut wakeKey b y) _ _ ⟨.refl b, .refl b⟩ fun y hy m hm => ?_
    obtain ⟨e, he, hm⟩ := List.mem_flatMap.mp hm
    have hyd : y.get K.DEVICE_NUMBER = d.get K.DEVICE_NUMBER :=
      (hy.2 _ (by simp only [wakeKey, K.DEVICE_NUMBER]; omega)).trans hdn
    have hs := Dev.reroute_woken (d := y) (me := d.get K.DEVICE_NUMBER) (by rw [hyd]; exact h m (.inr (.inr ⟨e, he, hm⟩)))
    exact ⟨hy.1.trans hs.1, hy.2.trans hs.2⟩
  exact hw.trans hr.1

/-- The objects that a port's links move as they stop. -/
def portKey (k : Nat) : Prop := wakeKey k ∨ (0x500000 ≤ k ∧ k < 0x504000)

theorem Dev.portEntered_leaves {d : Dev} {n : Nat} (st : Nat) (hn : n < 8) (h : ∀ i, i < 8 → d.Harmless (8 * n + i)) :
    Dev.ObjsBut portKey d (d.portEntered n st) ∧ Dev.PortsWoken d (d.portEntered n st) := by
  unfold Dev.portEntered
  split
  · exact ⟨.refl d, .refl d⟩
  · refine (List.foldlRecOn (motive := fun y => (Dev.ObjsBut portKey d y ∧ Dev.PortsWoken d y) ∧ ∀ i, i < 8 → y.Harmless (8 * n + i)) _ _
      ⟨⟨.refl d, .refl d⟩, h⟩ fun y hy i hi => ?_).1
    obtain ⟨⟨ho, hw⟩, hh⟩ := hy
    have hi := List.mem_range.mp hi
    have hs := Dev.linkStop_leaves (st := 0) (hh i hi) (by decide) (by decide)
    refine ⟨⟨ho.trans (hs.obj.mono fun k hk => ?_), hw.trans (Dev.linkStop_woken 0 (hh i hi))⟩, fun j hj => hs.harmless (hh j hj)⟩
    obtain hk | hk := hk
    · exact .inl hk
    · refine .inr ?_
      simp only [hk, K.LNK_STATE]
      omega

/-- The device's OFF: every domain that it has is OFF, and no core holds anything. -/
theorem Dev.deviceOff_leaves (d : Dev) : (d.deviceOff).cores = [] ∧ d.deviceOff.pwr = d.pwr ∧
    d.deviceOff.get (K.DOM_STATE 76) = d.get (K.DOM_STATE 76) ∧
    ∀ c, c < 64 → bit (d.get K.CORE_PRESENT) c = true → d.deviceOff.get (K.DOM_STATE c) = 4 := by
  unfold Dev.deviceOff
  extract_lets d1 d2 b
  have h1 : (∀ x, d1.get (K.DOM_STATE x) = if x ∈ d.subDomains then 4 else d.get (K.DOM_STATE x)) ∧ d1.pwr = d.pwr := by
    unfold d1
    generalize d.subDomains = l
    induction l using List.reverseRecOn with
    | nil => exact ⟨fun x => rfl, rfl⟩
    | append_singleton l y ih =>
      rw [List.foldl_append, List.foldl_cons, List.foldl_nil]
      refine ⟨fun x => ?_, ih.2⟩
      by_cases hx : x = y
      · subst hx
        rw [Dev.get_put_self, if_pos (by simp)]
      · rw [Dev.get_put_ne _ _ (by simp only [K.DOM_STATE]; omega), ih.1]
        simp [hx]
  have h2 : Dev.ObjsBut portKey d1 d2 ∧ d2.pwr = d1.pwr := by
    refine List.foldlRecOn (motive := fun y => Dev.ObjsBut portKey d1 y ∧ y.pwr = d1.pwr) _ _ ⟨.refl d1, rfl⟩ fun y hy i hi => ?_
    have := List.mem_range.mp hi
    exact ⟨hy.1.trans (.put _ _ (.inr (by simp only [K.LNK_STATE]; omega))), hy.2⟩
  have h3 : Dev.ObjsBut stackKey d2 b ∧ b.pwr = d2.pwr := by
    refine List.foldlRecOn (motive := fun y => Dev.ObjsBut stackKey d2 y ∧ y.pwr = d2.pwr) _ _ ⟨.refl d2, rfl⟩ fun y hy i hi => ?_
    obtain ⟨ho, -, hp⟩ := y.memEntered_leaves 4 (List.mem_range.mp hi)
    exact ⟨hy.1.trans ho, hp.trans hy.2⟩
  clear_value b d2 d1
  have hdom (x : Nat) (hx : x < 77) : b.get (K.DOM_STATE x) = if x ∈ d.subDomains then 4 else d.get (K.DOM_STATE x) := by
    rw [h3.1 _ (by simp only [stackKey, K.DOM_STATE]; omega), h2.1 _ (by simp only [portKey, wakeKey, K.DOM_STATE]; omega), h1.1]
  refine ⟨rfl, (h3.2.trans h2.2).trans h1.2, (hdom 76 (by decide)).trans (if_neg ?_), fun c hc hp => (hdom c (by omega)).trans (if_pos ?_)⟩
  · unfold Dev.subDomains
    simp only [List.mem_append, List.mem_filter, List.mem_map, List.mem_range]
    omega
  · unfold Dev.subDomains
    simp [hc, hp]

/-! ## A core's return (R244, R443) -/

/-- Objects that a core's return moves where it finds errors. -/
def repairKey (c k : Nat) : Prop :=
  recordKey k ∨ ((0x3014 + c * 0x40) * 256 ≤ k ∧ k < (0x3014 + c * 0x40) * 256 + 256)

/-- `b` is `a` after errors in the scratchpads of core `c` came, or were met. -/
structure Dev.Repaired (c : Nat) (a b : Dev) : Prop where
  obj : Dev.ObjsBut (repairKey c) a b
  sp : (b.core c).sp = (a.core c).sp
  woken : Dev.PortsWoken a b

namespace Dev.Repaired

variable {c : Nat} {a b t : Dev}

theorem refl (c : Nat) (a : Dev) : Dev.Repaired c a a := ⟨.refl a, rfl, .refl a⟩
theorem trans (h : Dev.Repaired c a b) (g : Dev.Repaired c b t) : Dev.Repaired c a t := ⟨h.obj.trans g.obj, g.sp.trans h.sp, h.woken.trans g.woken⟩
theorem foldl {β : Type} (f : Dev → β → Dev) (l : List β) (h : ∀ d x, Dev.Repaired c d (f d x)) (d : Dev) : Dev.Repaired c d (l.foldl f d) :=
  List.foldlRecOn (motive := fun y => Dev.Repaired c d y) l f (refl c d) fun b hb x _ => hb.trans (h b x)
theorem put (d : Dev) {o : Obj} (v : Nat) (h : repairKey c o.key) : Dev.Repaired c d (d.put o v) := ⟨.put d v h, rfl, .of_pwr rfl⟩
theorem cnt (d : Dev) (w i dflt n : Nat) (hi : i < 256) : Dev.Repaired c d (Dev.bump w d ⟨(0x3014 + c * 0x40) * 256 + i, dflt⟩ n) :=
  put d _ (.inr (by dsimp only; omega))
theorem setCore (d : Dev) {x : Core} (h : x.sp = (d.core c).sp) : Dev.Repaired c d (d.setCore c x) :=
  ⟨.of_objs rfl, by rw [Dev.core_setCore_self, h], .of_pwr rfl⟩
theorem draw (d : Dev) (w : Nat) : Dev.Repaired c d (d.draw w).2 := ⟨.of_objs rfl, rfl, .of_pwr rfl⟩

theorem record (d : Dev) (mem kind word e idx op ecc : Nat) : Dev.Repaired c d (d.spRecordEcc c mem kind word e idx op ecc) := by
  have hfile (x : Dev) (i : RecInfo) : Dev.Repaired c x (x.file i) :=
    ⟨(x.file_objs i).mono fun _ => .inl, by unfold Dev.core; rw [Dev.file_cores], x.file_woken i⟩
  unfold Dev.spRecordEcc
  extract_lets syn d1
  have h1 : Dev.Repaired c d d1 := by
    unfold d1
    split
    · exact .cnt d 64 2 0 1 (by decide)
    · exact .refl c d
  exact (h1.trans (hfile d1 _)).trans (.put _ _ (.inr (by simp only [K.LAST_SYNDROME]; omega)))

end Dev.Repaired

theorem Dev.spCorrected_repaired (d : Dev) (c mem word : Nat) : Dev.Repaired c d (d.spCorrected c mem word) := by
  unfold Dev.spCorrected
  extract_lets k key d1
  have h1 : Dev.Repaired c d d1 := .trans (.setCore d (x := { k with flaw := Map.set k.flaw .clean key .clean, once := Map.set k.once false key true }) rfl)
    (.cnt _ 64 1 0 1 (by decide))
  split
  · exact (h1.trans (.draw d1 8)).trans (.record _ _ _ _ _ _ _ _)
  · exact h1

theorem Dev.spUncorrectable_repaired (d : Dev) (c mem word kind : Nat) : Dev.Repaired c d (d.spUncorrectable c mem word kind) := by
  unfold Dev.spUncorrectable
  extract_lets k key known d1 d2
  have h2 : Dev.Repaired c d d2 := by
    refine .trans (b := d1) (.setCore d rfl) ?_
    unfold d2
    split
    · exact .cnt _ 64 2 0 1 (by decide)
    · exact .refl c d1
  by_cases hk : known = true
  · rw [if_pos hk]
    exact h2.trans (.record _ _ _ _ _ _ _ _)
  · rw [if_neg hk]
    exact (h2.trans (.draw d2 8)).trans (.record _ _ _ _ _ _ _ _)

theorem Dev.corrupt_repaired (d : Dev) (c g : Nat) : Dev.Repaired c d (d.corrupt c g) := by
  unfold Dev.corrupt
  split
  · exact .refl c d
  · exact (Dev.Repaired.draw d 32).trans (.setCore _ rfl)

theorem Dev.upset_repaired (d : Dev) (c mem word : Nat) (f : Finding) : Dev.Repaired c d (d.upset c mem word f) := by
  unfold Dev.upset
  split
  · exact .setCore d rfl
  · exact .setCore d rfl
  · split
    · exact d.corrupt_repaired c _
    · exact .refl c d
  · exact .refl c d

theorem Dev.readRow_repaired (d : Dev) (c row kind : Nat) : Dev.Repaired c d (d.readRow c row kind) := by
  unfold Dev.readRow
  refine .foldl _ _ (fun x y => ?_) d
  split
  · exact x.spCorrected_repaired _ _ _
  · split
    · exact x.spUncorrectable_repaired _ _ _ _
    · exact .refl c x

theorem Dev.verify_repaired (d : Dev) (c gran kind : Nat) : Dev.Repaired c d (d.verify c gran kind) := by
  unfold Dev.verify
  dsimp only
  split
  · exact ((Dev.Repaired.setCore d (x := { d.core c with resident := Map.set (d.core c).resident false gran false }) rfl).trans
      (.cnt _ 32 4 0 1 (by decide))).trans (.record _ _ _ _ _ _ _ _)
  · exact .refl c d

/-- A core that was not beyond the state of kept scratchpads returns as it was; from DEEP it returns with the listed line-rows. -/
theorem Dev.coreReturned_leaves (d : Dev) (c st : Nat) (found : List (Nat × Nat)) :
    Dev.ObjsBut (repairKey c) d (d.coreReturned c st found) ∧ Dev.PortsWoken d (d.coreReturned c st found) ∧
    (st < 3 → d.coreReturned c st found = d) ∧
    (st = 3 → ((d.coreReturned c st found).core c).sp = ((d.core c).keep (d.retained c)).sp) := by
  unfold Dev.coreReturned
  split
  next h => exact ⟨.refl d, .refl d, fun _ => rfl, by omega⟩
  next h =>
    extract_lets rows d1 d2 d3
    have h1 : Dev.ObjsBut (repairKey c) d d1 := .trans (b := d.setCore c ((d.core c).keep rows)) (.of_objs rfl)
      (.put _ _ (.inr (by simp only [K.ZEROISE_COUNT]; omega)))
    have h2 : Dev.Repaired c d1 d2 := by
      refine .foldl _ _ (fun x f => ?_) d1
      split
      · split
        · exact x.upset_repaired _ _ _ _
        · exact .refl c x
      · split
        · exact x.upset_repaired _ _ _ _
        · exact .refl c x
      · split
        · exact x.corrupt_repaired c _
        · exact .refl c x
      · exact .refl c x
    have h3 : Dev.Repaired c d1 d3 := h2.trans (.foldl _ _ (fun x r => x.readRow_repaired c r 5) d2)
    have h4 : Dev.Repaired c d1 ((rows.filter (· < 96)).foldl (fun d r => (d.verify c (2 * r) 5).verify c (2 * r + 1) 5) d3) :=
      h3.trans (.foldl _ _ (fun x r => (x.verify_repaired c _ 5).trans (Dev.verify_repaired _ c _ 5)) d3)
    refine ⟨h1.trans h4.obj, .trans (b := d1) (.of_pwr rfl) h4.woken, by omega, fun hst => h4.sp.trans ?_⟩
    have hd1 : d1.core c = (d.core c).keep rows := Dev.core_setCore_self _ _ _
    rw [hd1]
    unfold rows
    rw [if_pos hst]

/-! ## Entries that complete and entries that are abandoned -/

/-- A domain that has begun the entry to `st`, without it. -/
def Dev.entryOver (d : Dev) (x : Nat) : Dev :=
  d.setPwr { d.pwr with entering := Map.set d.pwr.entering 0 x 0, wakeReq := d.pwr.wakeReq.erase x }

/-- Its state and its entries as they are counted. -/
def Dev.entryDone (d : Dev) (x st : Nat) : Dev := ((d.entryOver x).put (K.DOM_STATE x) st).cnt (K.DOM_ENTRIES x) 1

theorem Dev.entryDone_leaves (d : Dev) (x st : Nat) : (d.entryDone x st).get (K.DOM_STATE x) = st ∧
    (d.entryDone x st).get (K.DOM_ENTRIES x) = addSat 64 (d.get (K.DOM_ENTRIES x)) 1 ∧ Map.get (d.entryDone x st).pwr.entering 0 x = 0 ∧
    Dev.ObjsBut (fun k => k = (K.DOM_STATE x).key ∨ k = (K.DOM_ENTRIES x).key) d (d.entryDone x st) := by
  have hne : (K.DOM_STATE x).key ≠ (K.DOM_ENTRIES x).key := by simp only [K.DOM_STATE, K.DOM_ENTRIES]; omega
  refine ⟨(Dev.get_put_ne _ _ hne).trans (Dev.get_put_self _ _ _), (Dev.get_put_self _ _ _).trans ?_, Map.get_set_self d.pwr.entering 0 0 x, ?_⟩
  · rw [Dev.get_put_ne _ _ hne.symm]
    rfl
  · exact .trans (b := (d.entryOver x).put (K.DOM_STATE x) st) (.trans (b := d.entryOver x) (.of_objs rfl) (.put _ _ (.inl rfl))) (.cnt _ _ (.inr rfl))

/-- What the entry of a domain that is no core's leaves once it completes. -/
def Dev.domEntered (d : Dev) (x st : Nat) : Dev :=
  if x < 68 then d.memEntered (x - 64) st else if x < 76 then d.portEntered (x - 68) st else d.deviceOff

section
variable {d : Dev} {x st : Nat} (he : Map.get d.pwr.entering 0 x = st + 1)
include he

theorem Dev.powerEntryComplete_core (hx : x < 64) (hw : x ∉ d.pwr.wakeReq) :
    d.powerEntryComplete x = (((d.entryDone x st).coreEntered x st).put (K.PWR_LAST x) 1).put (K.PWR_WAIT x) 0 := by
  have hc : d.pwr.wakeReq.contains x = false := by simpa using hw
  unfold Dev.powerEntryComplete
  dsimp only
  rw [he, Nat.add_sub_cancel, if_neg (by simp; omega), hc, if_pos hx]
  rfl

theorem Dev.powerEntryComplete_dom (hx : 64 ≤ x) (hidle : 68 ≤ x → x < 76 → 2 ≤ st → d.portIdle (x - 68) = true) :
    d.powerEntryComplete x = if d.pwr.wakeReq.contains x && x ≠ 76 then ((d.entryDone x st).domEntered x st).wakeDom x
      else (d.entryDone x st).domEntered x st := by
  unfold Dev.powerEntryComplete
  dsimp only
  rw [he, Nat.add_sub_cancel, if_neg (by simpa using hidle), if_neg (Nat.not_lt.mpr hx)]
  rfl

theorem Dev.powerEntryAbandon_core (hx : x < 64) (hw : x ∈ d.pwr.wakeReq) : ∃ r b : Nat, ∃ y : Dev,
    y = Dev.bump 32 ((({ d with free := b } : Dev).entryOver x).put (K.PWR_LAST x) (0x10 + (1 + r % abortPoints x st)) |>.put (K.PWR_WAIT x) 0)
      (K.PWR_ABANDONED x) 1 ∧
    (d.powerEntryAbandon x = y ∨ d.powerEntryAbandon x = y.raEmpty x) := by
  have hc : d.pwr.wakeReq.contains x = true := List.contains_iff_mem.mpr hw
  refine ⟨(d.draw 8).1, d.free + 1, _, rfl, ?_⟩
  unfold Dev.powerEntryAbandon
  dsimp only
  rw [he, Nat.add_sub_cancel, hc, if_neg (by simp), if_pos hx]
  split
  · exact .inr rfl
  · exact .inl rfl

theorem Dev.powerEntryAbandon_dom (hx : 64 ≤ x) (hw : x ∈ d.pwr.wakeReq) : ∃ b : Nat,
    ((x < 68 ∧ 3 ≤ st) ∧ d.powerEntryAbandon x = (({ d with free := b } : Dev).entryOver x).partFlush (x - 64)) ∨
    d.powerEntryAbandon x = ({ d with free := b } : Dev).entryOver x := by
  have hc : d.pwr.wakeReq.contains x = true := List.contains_iff_mem.mpr hw
  refine ⟨d.free + 1, ?_⟩
  unfold Dev.powerEntryAbandon
  dsimp only
  rw [he, Nat.add_sub_cancel, hc, if_neg (by simp), if_neg (Nat.not_lt.mpr hx)]
  split
  next h =>
    simp only [Bool.and_eq_true, decide_eq_true_eq] at h
    exact .inl ⟨h.1, rfl⟩
  · exact .inr rfl

end

theorem Dev.partFlush_leaves (d : Dev) {q : Nat} (hq : q < 4) : Dev.ObjsBut stackKey d (d.partFlush q) ∧ (d.partFlush q).mem.cells = d.mem.cells ∧
    (d.partFlush q).parts = d.parts ∧ (d.partFlush q).pwr = d.pwr := by
  have hk : stackKey (K.SC_WRITEBACKS q).key := by
    simp only [stackKey, K.SC_WRITEBACKS]
    omega
  unfold Dev.partFlush
  dsimp only
  split
  · exact ⟨.of_objs rfl, rfl, rfl, rfl⟩
  · exact ⟨.trans (b := { d with mem := _ }) (.of_objs rfl) (.cnt _ _ hk), rfl, rfl, rfl⟩

theorem abortPoints_pos (x st : Nat) : 0 < abortPoints x st := by
  unfold abortPoints
  split
  · split <;> decide
  split
  · split <;> decide
  split
  · split <;> decide
  · decide

/-- A domain that is no core's in its new state. -/
theorem Dev.domEntered_leaves {d : Dev} {x : Nat} (st : Nat) (h64 : 64 ≤ x) (h77 : x < 77) (hl : ∀ l, 68 + l / 8 = x → d.foreignLoad l) :
    ((d.entryDone x st).domEntered x st).get (K.DOM_STATE x) = st ∧ Map.get ((d.entryDone x st).domEntered x st).pwr.entering 0 x = 0 ∧
    (x < 68 → ((d.entryDone x st).domEntered x st).cores = d.cores) ∧
    (x = 76 → ((d.entryDone x st).domEntered x st).cores = [] ∧
      ∀ c, c < 64 → bit (d.get K.CORE_PRESENT) c = true → ((d.entryDone x st).domEntered x st).get (K.DOM_STATE c) = 4) := by
  obtain ⟨hst, -, hen, hobj⟩ := d.entryDone_leaves x st
  have hcores : (d.entryDone x st).cores = d.cores := rfl
  have hlink (l : Nat) : (d.entryDone x st).link l = d.link l := rfl
  generalize d.entryDone x st = b at hst hen hobj hcores hlink ⊢
  have hdn : b.get K.DEVICE_NUMBER = d.get K.DEVICE_NUMBER := hobj _ (by simp only [K.DEVICE_NUMBER, K.DOM_STATE, K.DOM_ENTRIES]; omega)
  have hcp : b.get K.CORE_PRESENT = d.get K.CORE_PRESENT := hobj _ (by simp only [K.CORE_PRESENT, K.DOM_STATE, K.DOM_ENTRIES]; omega)
  unfold Dev.domEntered
  split
  next h =>
    obtain ⟨ho, hc, hp⟩ := b.memEntered_leaves (q := x - 64) st (by omega)
    refine ⟨(ho _ (by simp only [stackKey, K.DOM_STATE]; omega)).trans hst, by rw [hp, hen], fun _ => hc.trans hcores, by omega⟩
  split
  next h =>
    have hh (i : Nat) (hi : i < 8) : b.Harmless (8 * (x - 68) + i) := by
      refine Dev.harmless_of_foreign fun m hm => ?_
      rw [hdn]
      rw [hlink] at hm
      exact hl _ (by omega) m hm
    obtain ⟨ho, hw⟩ := Dev.portEntered_leaves (n := x - 68) st (by omega) hh
    refine ⟨(ho _ (by simp only [portKey, wakeKey, K.DOM_STATE]; omega)).trans hst, by rw [hw.entering, hen], by omega, by omega⟩
  next h =>
    obtain ⟨hc, hp, hd, hall⟩ := b.deviceOff_leaves
    obtain rfl : x = 76 := by omega
    exact ⟨hd.trans hst, by rw [hp, hen], by omega, fun _ => ⟨hc, fun c hc hpr => hall c hc (hcp ▸ hpr)⟩⟩

theorem Dev.wakeDom_starts {d : Dev} {x : Nat} (he : Map.get d.pwr.entering 0 x = 0) (hs : d.get (K.DOM_STATE x) ≠ 0) (hw : Map.get d.pwr.waking 0 x = 0) :
    d.wakeDom x = (d.setPwr { d.pwr with waking := Map.set d.pwr.waking 0 x (d.now + wakeTicks x (d.get (K.DOM_STATE x))) }).put (K.DOM_LAST_WAKE x) d.now := by
  unfold Dev.wakeDom
  dsimp only
  rw [if_neg (not_not_intro he), if_neg (by simp [hs, hw])]
  rfl

/-- A core's end of an entry that a wake ended: its wait is over, and counted as abandoned. -/
theorem Dev.abandoned_core (d : Dev) (x b v : Nat) :
    ∀ y, y = Dev.bump 32 ((({ d with free := b } : Dev).entryOver x).put (K.PWR_LAST x) v |>.put (K.PWR_WAIT x) 0) (K.PWR_ABANDONED x) 1 →
    ∀ z, z = y ∨ z = y.raEmpty x →
    Map.get z.pwr.entering 0 x = 0 ∧ z.get (K.DOM_STATE x) = d.get (K.DOM_STATE x) ∧ z.mem = d.mem ∧ z.parts = d.parts ∧ z.get (K.PWR_WAIT x) = 0 ∧
    z.get (K.PWR_ABANDONED x) = addSat 32 (d.get (K.PWR_ABANDONED x)) 1 ∧ z.get (K.PWR_LAST x) = v ∧ (z.core x).sp = (d.core x).sp := by
  intro y hy
  have hla : (K.PWR_LAST x).key ≠ (K.PWR_ABANDONED x).key := by simp only [K.PWR_LAST, K.PWR_ABANDONED]; omega
  have hlw : (K.PWR_LAST x).key ≠ (K.PWR_WAIT x).key := by simp only [K.PWR_LAST, K.PWR_WAIT]; omega
  have hwa : (K.PWR_WAIT x).key ≠ (K.PWR_ABANDONED x).key := by simp only [K.PWR_WAIT, K.PWR_ABANDONED]; omega
  have hds : (K.DOM_STATE x).key ≠ (K.PWR_LAST x).key ∧ (K.DOM_STATE x).key ≠ (K.PWR_WAIT x).key ∧ (K.DOM_STATE x).key ≠ (K.PWR_ABANDONED x).key := by
    simp only [K.DOM_STATE, K.PWR_LAST, K.PWR_WAIT, K.PWR_ABANDONED]
    omega
  have hbase : Map.get y.pwr.entering 0 x = 0 ∧ y.get (K.DOM_STATE x) = d.get (K.DOM_STATE x) ∧ y.mem = d.mem ∧ y.parts = d.parts ∧
      y.get (K.PWR_WAIT x) = 0 ∧ y.get (K.PWR_ABANDONED x) = addSat 32 (d.get (K.PWR_ABANDONED x)) 1 ∧ y.get (K.PWR_LAST x) = v ∧
      (y.core x).sp = (d.core x).sp := by
    subst hy
    refine ⟨Map.get_set_self d.pwr.entering 0 0 x, ?_, rfl, rfl, (Dev.get_put_ne _ _ hwa).trans (Dev.get_put_self _ _ _), (Dev.get_put_self _ _ _).trans ?_,
      (Dev.get_put_ne _ _ hla).trans ((Dev.get_put_ne _ _ hlw).trans (Dev.get_put_self _ _ _)), rfl⟩
    · exact (Dev.get_put_ne _ _ hds.2.2).trans ((Dev.get_put_ne _ _ hds.2.1).trans ((Dev.get_put_ne _ _ hds.1).trans rfl))
    · rw [Dev.get_put_ne _ _ hwa.symm, Dev.get_put_ne _ _ hla.symm]
      rfl
  clear hy
  rintro z (rfl | rfl)
  · exact hbase
  · obtain ⟨hc, ho, hp, hm, hq⟩ := y.raEmpty_leaves x
    obtain ⟨h1, h2, h3, h4, h5, h6, h7, h8⟩ := hbase
    have hk (o : Obj) (h : o.key ≠ (K.RA_DISCARDED x).key) : (y.raEmpty x).get o = y.get o := ho o h
    refine ⟨by rw [hp, h1], (hk _ ?_).trans h2, hm.trans h3, hq.trans h4, (hk _ ?_).trans h5, (hk _ ?_).trans h6, (hk _ ?_).trans h7, by rw [hc, h8]⟩
    · simp only [K.DOM_STATE, K.RA_DISCARDED]; omega
    · simp only [K.PWR_WAIT, K.RA_DISCARDED]; omega
    · simp only [K.PWR_ABANDONED, K.RA_DISCARDED]; omega
    · simp only [K.PWR_LAST, K.RA_DISCARDED]; omega

/-- A domain whose return is over serves again. -/
def Dev.returned (d : Dev) (x : Nat) : Dev := (d.setPwr { d.pwr with waking := Map.set d.pwr.waking 0 x 0 }).put (K.DOM_STATE x) 0

theorem Dev.returned_leaves (d : Dev) (x : Nat) : (d.returned x).get (K.DOM_STATE x) = 0 ∧ Map.get (d.returned x).pwr.waking 0 x = 0 ∧
    (d.returned x).cores = d.cores ∧ Dev.ObjsBut (fun k => k = (K.DOM_STATE x).key) d (d.returned x) :=
  ⟨Dev.get_put_self _ _ _, Map.get_set_self d.pwr.waking 0 0 x, rfl,
    .trans (b := d.setPwr { d.pwr with waking := Map.set d.pwr.waking 0 x 0 }) (.of_objs rfl) (.put _ _ rfl)⟩

theorem Dev.domainReturnDone_core {d : Dev} {c : Nat} (f : List (Nat × Nat)) (hc : c < 64) (hw : Map.get d.pwr.waking 0 c ≠ 0)
    (hn : Map.get d.pwr.waking 0 c ≤ d.now) : d.domainReturnDone c f = (d.returned c).coreReturned c (d.get (K.DOM_STATE c)) f := by
  unfold Dev.domainReturnDone
  dsimp only
  rw [if_neg (by simp [hw]; omega), if_pos hc]
  rfl

theorem Dev.domainReturnDone_mem {d : Dev} {q : Nat} (f : List (Nat × Nat)) (hq : q < 4) (hw : Map.get d.pwr.waking 0 (64 + q) ≠ 0)
    (hn : Map.get d.pwr.waking 0 (64 + q) ≤ d.now) (hs : 3 ≤ d.get (K.DOM_STATE (64 + q))) :
    d.domainReturnDone (64 + q) f = ((d.returned (64 + q)).accLose q).stackState q 1 := by
  unfold Dev.domainReturnDone
  dsimp only
  rw [if_neg (by simp [hw]; omega), if_neg (by omega), if_pos (by omega), if_pos hs, Nat.add_sub_cancel_left]
  rfl

/-- Settles O30: each event by the domain's kind, with what its messages and records leave of the power manager. -/
theorem powerDomains : Obligations.PowerDomains := by
  refine ⟨⟨fun s c hc hs hw hq hd hwk => ?_, fun s x h64 h76 hs hd he hwk => ?_, fun s c st hc hs he hw => ?_, fun s x st h64 h77 hs he hidle hl => ?_⟩,
    fun s x st hx hs he hw => ?_, fun s x hx hs he hoff hd hwk => ?_, fun s l x hl hx hs hst hoff he h0 hwk => ?_, fun s c f hc hs hw hn => ?_,
    fun s q f hq hs hw hn hst => ?_⟩
  · have hx : exec (.corePowerEntry c) s = .next (s.setDev (s.dev.corePowerEntry c)) :=
      onUnit_next (f := fun d => d.corePowerEntry c) (decide_eq_true hc) hs
    rw [hx, Dev.corePowerEntry]
    dsimp only
    rw [if_neg (by simp [hw, hq, hwk]; omega)]
    rfl
  · have hx : exec (.domainPowerEntry x) s = .next (s.setDev (s.dev.domainPowerEntry x)) :=
      onUnit_next (f := fun d => d.domainPowerEntry x) (decide_eq_true (by omega)) hs
    have hds : s.dev.domState x = s.dev.get (K.DOM_STATE x) := if_neg (by simp [show x ≠ 76 by omega])
    rw [hx, Dev.domainPowerEntry]
    dsimp only
    rw [hds, if_neg (by simpa [he, hwk, show x ≠ 76 by omega] using ⟨⟨h64, by omega⟩, hd⟩)]
    rfl
  · have hx : exec (.powerEntryComplete c) s = .next (s.setDev (s.dev.powerEntryComplete c)) :=
      onUnit_next (f := fun d => d.powerEntryComplete c) (decide_eq_true (by omega)) hs
    refine ⟨_, hx, s.setDev_pending _, s.setDev_sec _, ?_⟩
    rw [State.setDev_dev, Dev.powerEntryComplete_core he hc hw]
    obtain ⟨hst, hcount, hen, ho⟩ := s.dev.entryDone_leaves c st
    have hret : (s.dev.entryDone c st).retained c = s.dev.retained c :=
      Dev.retained_of fun i hi => ho _ (by simp only [K.RET_ROW, K.DOM_STATE, K.DOM_ENTRIES]; omega)
    have hcore : (s.dev.entryDone c st).core c = s.dev.core c := rfl
    have hmem : (s.dev.entryDone c st).mem = s.dev.mem ∧ (s.dev.entryDone c st).parts = s.dev.parts := ⟨rfl, rfl⟩
    generalize s.dev.entryDone c st = b at hst hcount hen hret hcore hmem ⊢
    obtain ⟨hbo, hbp, hbm, hbq, h1, h2, h3, h4⟩ := b.coreEntered_leaves c st
    rw [hcore, hret] at h3
    rw [hcore] at h1 h2
    generalize b.coreEntered c st = t at hbo hbp hbm hbq h1 h2 h3 h4 ⊢
    have hlw : (K.PWR_LAST c).key ≠ (K.PWR_WAIT c).key := by simp only [K.PWR_LAST, K.PWR_WAIT]; omega
    have hk (o : Obj) (h : o.key = (K.DOM_STATE c).key ∨ o.key = (K.DOM_ENTRIES c).key) :
        ((t.put (K.PWR_LAST c) 1).put (K.PWR_WAIT c) 0).get o = b.get o := by
      have hne : o.key ≠ (K.PWR_WAIT c).key ∧ o.key ≠ (K.PWR_LAST c).key ∧ o.key ≠ (K.RA_DISCARDED c).key := by
        simp only [K.DOM_STATE, K.DOM_ENTRIES] at h
        simp only [K.PWR_WAIT, K.PWR_LAST, K.RA_DISCARDED]
        omega
      rw [Dev.get_put_ne _ _ hne.1, Dev.get_put_ne _ _ hne.2.1, hbo _ hne.2.2]
    refine ⟨(hk _ (.inl rfl)).trans hst, (hk _ (.inr rfl)).trans hcount, ?_, (Dev.get_put_ne _ _ hlw).trans (Dev.get_put_self _ _ _), Dev.get_put_self _ _ _,
      hbm.trans hmem.1, hbq.trans hmem.2, h1, h2, h3, h4⟩
    show Map.get t.pwr.entering 0 c = 0
    rw [hbp, hen]
  · have hx : exec (.powerEntryComplete x) s = .next (s.setDev (s.dev.powerEntryComplete x)) :=
      onUnit_next (f := fun d => d.powerEntryComplete x) (decide_eq_true h77) hs
    refine ⟨_, hx, s.setDev_pending _, s.setDev_sec _, ?_⟩
    rw [State.setDev_dev, Dev.powerEntryComplete_dom he h64 hidle]
    obtain ⟨hst, hen, hcores, hoff⟩ := Dev.domEntered_leaves st h64 h77 hl
    generalize (s.dev.entryDone x st).domEntered x st = b at hst hen hcores hoff ⊢
    have hcore (y : Dev) (h : y.cores = []) (c : Nat) : y.core c = Core.init := by unfold Dev.core; rw [h]; rfl
    split
    next hlate =>
      have hne : x ≠ 76 := by simp at hlate; exact hlate.2
      refine ⟨(Dev.wakeDom_wakes (by omega) _ (by simp only [wakeKey, K.DOM_STATE]; omega)).trans hst, ?_, fun h => ?_, fun h => absurd h hne⟩
      · rw [Dev.wakeDom_entering, hen]
      · exact (b.wakeDom_sent x).cores.trans (hcores h)
    next => exact ⟨hst, hen, hcores, fun h => ⟨hcore b (hoff h).1, (hoff h).2⟩⟩
  · have hx' : exec (.powerEntryAbandon x) s = .next (s.setDev (s.dev.powerEntryAbandon x)) :=
      onUnit_next (f := fun d => d.powerEntryAbandon x) (decide_eq_true hx) hs
    refine ⟨_, hx', s.setDev_pending _, s.setDev_sec _, ?_⟩
    rw [State.setDev_dev]
    by_cases hc : x < 64
    · obtain ⟨r, b, y, hy, hz⟩ := Dev.powerEntryAbandon_core he hc hw
      obtain ⟨h1, h2, h3, h4, h5, h6, h7, h8⟩ := s.dev.abandoned_core x b _ y hy _ hz
      have hr : r % abortPoints x st < abortPoints x st := Nat.mod_lt _ (abortPoints_pos x st)
      exact ⟨h1, h2, by rw [h3], h4, fun _ => h3, fun _ => ⟨h5, h6, by omega, by omega, h8⟩⟩
    · obtain ⟨b, ⟨⟨h68, h3⟩, hp⟩ | hp⟩ := Dev.powerEntryAbandon_dom he (Nat.not_lt.mp hc) hw
      · rw [hp]
        obtain ⟨ho, hm, hq, hpw⟩ := (({ s.dev with free := b } : Dev).entryOver x).partFlush_leaves (q := x - 64) (by omega)
        refine ⟨?_, ho _ (by simp only [stackKey, K.DOM_STATE]; omega), hm, hq, by omega, by omega⟩
        rw [hpw]
        exact Map.get_set_self s.dev.pwr.entering 0 0 x
      · rw [hp]
        exact ⟨Map.get_set_self s.dev.pwr.entering 0 0 x, rfl, rfl, rfl, fun _ => rfl, by omega⟩
  · have hx' : exec (.domainWake x) s = .next (s.setDev (s.dev.domainWake x)) := onUnit_next (f := fun d => d.domainWake x) (decide_eq_true (by omega)) hs
    rw [hx', Dev.domainWake]
    dsimp only
    rw [he, if_pos rfl, if_neg (by simp [hoff]; omega), Dev.wakeDom_starts he (by omega) hwk]
  · have hx' : exec (.laneWake l) s = .next (s.setDev (s.dev.laneWake l)) := onUnit_next (f := fun d => d.laneWake l) (decide_eq_true hl) hs
    subst hx
    rw [hx', Dev.laneWake, if_neg (by simp [portDom, hst, hoff])]
    exact congrArg (fun d => Host.Outcome.next (s.setDev d)) (Dev.wakeDom_starts he h0 hwk)
  · have hx : exec (.domainReturnDone c f) s = .next (s.setDev (s.dev.domainReturnDone c f)) :=
      onUnit_next (f := fun d => d.domainReturnDone c f) (decide_eq_true (by omega)) hs
    refine ⟨_, hx, s.setDev_pending _, s.setDev_sec _, ?_⟩
    rw [State.setDev_dev, Dev.domainReturnDone_core f hc hw hn]
    obtain ⟨hst, hwk, hcores, ho⟩ := s.dev.returned_leaves c
    have hcore : (s.dev.returned c).core c = s.dev.core c := rfl
    have hret : (s.dev.returned c).retained c = s.dev.retained c := Dev.retained_of fun i hi => ho _ (by simp only [K.RET_ROW, K.DOM_STATE]; omega)
    generalize s.dev.returned c = b at hst hwk hcore hret ⊢
    obtain ⟨hbo, hbw, h2, h3⟩ := b.coreReturned_leaves c (s.dev.get (K.DOM_STATE c)) f
    rw [hcore, hret] at h3
    refine ⟨(hbo _ (by simp only [repairKey, recordKey, K.DOM_STATE]; omega)).trans hst, (hbw.waking c (by omega)).trans hwk, fun h => by rw [h2 h, hcore],
      fun h m o _ _ => ?_⟩
    rw [← Core.keep_byte]
    exact congrArg (fun x => Map.get x 0 (spKey m o)) (h3 h)
  · have hx : exec (.domainReturnDone (64 + q) f) s = .next (s.setDev (s.dev.domainReturnDone (64 + q) f)) :=
      onUnit_next (f := fun d => d.domainReturnDone (64 + q) f) (decide_eq_true (by omega)) hs
    refine ⟨_, hx, s.setDev_pending _, s.setDev_sec _, ?_⟩
    rw [State.setDev_dev, Dev.domainReturnDone_mem f hq hw hn hst]
    obtain ⟨hst0, -, hcores, -⟩ := s.dev.returned_leaves (64 + q)
    obtain ⟨ho, hc, -, hall⟩ := ((s.dev.returned (64 + q)).accLose q).stackState_leaves 1 hq
    exact ⟨(ho _ (by simp only [stackKey, K.DOM_STATE]; omega)).trans hst0, hall, hc.trans hcores⟩

end Sys2Proof.Machine
end

section
/-! Proofs: tenant switches (R414 to R429). -/
namespace Sys2Proof.Machine

/-- A switch that waits on core 0, with nothing to save, for slot 0 of partition 0. -/
def comingSwitch : Switch := { out := none, inn := some (0, 0), back := false, req := 0, started := true, saved := true, link := 0 }

/-- An image whose objects hold, beside those of a slot, the place of the partition's count of switches. -/
def foreignImage : Image := { Image.init with objs := [((K.PART_SWITCHES 0).key - 0x3000 * 256, 5)] }

/-- The state after reset, but for that switch and that image. -/
def foreignState : State :=
  { State.reset with dev := { State.reset.dev with
      sw := [(0, some comingSwitch)], parts := [(0, { Part.init with images := [(0, foreignImage)] })] } }

theorem foreignState_switches : foreignState.dev.get (K.PART_SWITCHES 0) = 0 := by decide +kernel

/-- The image's objects are put on the core with its slot, and the switch is counted on what they hold. -/
theorem foreignState_switched : (foreignState.dev.switchDone 0).get (K.PART_SWITCHES 0) = 6 := by decide +kernel

theorem exec_switchDone {s : State} {c : Nat} (hc : c < 64) (hs : s.stopped = false) :
    exec (.switchDone c) s = .next (s.setDev (s.dev.switchDone c)) :=
  onUnit_next (f := fun d => d.switchDone c) (decide_eq_true hc) hs

/-- Refutes O35: its clause on a coming slot holds for every image; one whose objects reach beyond the slot's own overwrites PART_SWITCHES, which
then does not count on from what it was. -/
theorem not_switches : ¬ Obligations.Switches := by
  rintro ⟨-, ⟨hcoming, -⟩, -⟩
  have hs : foreignState.stopped = false := by decide +kernel
  have hx : exec (.switchDone 0) foreignState = .next (foreignState.setDev (foreignState.dev.switchDone 0)) := exec_switchDone (by decide) hs
  obtain ⟨t, ht, -, -, -, -, -, -, hcount, -⟩ := hcoming foreignState 0 0 0 comingSwitch (by decide) (by decide) (by decide) hs rfl rfl
    (by decide +kernel) rfl rfl (by decide +kernel)
  obtain rfl : foreignState.setDev (foreignState.dev.switchDone 0) = t := Host.Outcome.next.inj (hx.symm.trans ht)
  rw [State.setDev_dev, foreignState_switched, foreignState_switches] at hcount
  exact absurd hcount (by decide)

end Sys2Proof.Machine
end

section
/-! Proofs: what leaves the tick as it is, and the tick that passes while no command waits (R80). -/
namespace Sys2Proof.Machine

/-! ## Records and folds -/

/-- A fold of steps that leave the tick, of more than the device. -/
theorem Dev.foldl_now {α β : Type} (g : α → Dev) (f : α → β → α) (l : List β) (h : ∀ x y, (g (f x y)).now = (g x).now) (x : α) :
    (g (l.foldl f x)).now = (g x).now :=
  List.foldlRecOn (motive := fun y => (g y).now = (g x).now) l f rfl fun _ hb y _ => (h _ y).trans hb

/-- A fold of steps that leave the tick. -/
theorem Dev.foldl_now_dev {β : Type} (f : Dev → β → Dev) (l : List β) (h : ∀ d x, (f d x).now = d.now) (d : Dev) : (l.foldl f d).now = d.now :=
  Dev.foldl_now id f l h d

theorem Dev.ite_now (p : Prop) [Decidable p] {a b d : Dev} (h : a.now = d.now) (h' : b.now = d.now) : (if p then a else b).now = d.now := by
  split
  · exact h
  · exact h'

@[simp] theorem Dev.file_now (d : Dev) (i : RecInfo) : (d.file i).now = d.now := (d.file_side i).now
@[simp] theorem Dev.pwrRecord_now (d : Dev) (kind quad detail v : Nat) : (d.pwrRecord kind quad detail v).now = d.now := Dev.file_now _ _
@[simp] theorem Dev.engCount_now (d : Dev) (e : Eng) (sub n : Nat) : (d.engCount e sub n).now = d.now := (d.engCount_side e sub n).now
@[simp] theorem Dev.spCorrected_now (d : Dev) (c mem word : Nat) : (d.spCorrected c mem word).now = d.now := (d.spCorrected_side c mem word).now
@[simp] theorem Dev.spRecordEcc_now (d : Dev) (c mem kind word e idx op ecc : Nat) : (d.spRecordEcc c mem kind word e idx op ecc).now = d.now :=
  (d.spRecordEcc_side c mem kind word e idx op ecc).now

/-! ## Ends of commands -/

theorem Dev.metRecords_now (d : Dev) (c : Nat) (ws : List Met) : (d.metRecords c ws).now = d.now :=
  Dev.foldl_now_dev _ _ (fun d w => by
    split
    · exact d.spCorrected_now _ _ _
    · exact d.spRecordEcc_now _ _ _ _ _ _ _ _) d

theorem Dev.finish_now (d : Dev) (e : Eng) (f : InFlight) (h : Handle) : (d.finish e f h).now = d.now := by
  have res (d : Dev) (own : Nat) (gs : List Nat) : (d.setResident own gs).now = d.now :=
    Dev.foldl_now_dev (fun d g => d.setCore (granOf own g).1
      { d.core (granOf own g).1 with resident := Map.set (d.core (granOf own g).1).resident false (granOf own g).2 true }) gs (fun _ _ => rfl) d
  unfold Dev.finish
  extract_lets p gone st
  generalize hr : (if gone = true then (d, true) else d.push e f.sig { h with status := st, cyc := max (d.cycles e.quad) (d.ctx e).till }) = r
  have hn : r.1.now = d.now := by
    rw [← hr]
    split
    · rfl
    · exact (d.push_same e f.sig _).now
  obtain ⟨b, ok⟩ := r
  dsimp only at hn ⊢
  rw [(Dev.account_calm _ _ _ _ _ _ _).now, (Dev.lateCompletion_calm _ _ _ _ _ _ _).now, (Dev.nfRecord_side _ _ _ _ _).now, (Dev.record_calm _ _ _ _ _ _).now,
    ← hn]
  have ho : (if ok = true then b else b.overflowRecord e f.sig f.index f.op).now = b.now := Dev.ite_now _ rfl (b.overflowRecord_side _ _ _ _).now
  exact Dev.ite_now _ ((res _ _ _).trans ho) ho

theorem Dev.ended_now (d : Dev) (e : Eng) (a t : Nat) : (d.ended e a t).now = d.now := by
  unfold Dev.ended
  dsimp only
  rw [Dev.setCtx_now]
  split
  · exact d.engCount_now _ _ _
  · rfl

theorem Dev.yielded_now (d : Dev) (e : Eng) (t y : Nat) : (d.yielded e t y).now = d.now := by
  unfold Dev.yielded
  dsimp only
  rw [Dev.setCtx_now]
  split
  · exact d.engCount_now _ _ _
  · rfl

theorem Dev.passComplete_now (d : Dev) (c : Nat) : (d.passComplete c).now = d.now := by
  unfold Dev.passComplete
  dsimp only
  split
  · rfl
  split
  · rfl
  · rw [Dev.finish_now, Dev.cnt, Dev.bump, Dev.put_now, Dev.metRecords_now, Dev.setCore_now, Dev.ended_now]

theorem Dev.vxRunTo_now (d : Dev) (c n : Nat) : (d.vxRunTo c n).now = d.now := by
  unfold Dev.vxRunTo
  dsimp only
  split
  · split
    · rfl
    · have h (b : Dev) (new fixed : List Nat) (i op : Nat) :
          ((fixed.foldl (fun d w => d.spCorrected c (w / 0x20000) (w % 0x20000))
            (new.foldl (fun d w => d.spRecord c (w / 0x20000) 2 (w % 0x20000) 1 i op) b))).now = b.now :=
        (Dev.foldl_now_dev _ _ (fun d w => d.spCorrected_now _ _ _) _).trans
          (Dev.foldl_now_dev _ _ (fun d w => d.spRecordEcc_now _ _ _ _ _ _ _ _) b)
      split
      · simp only [Dev.cnt, Dev.bump, Dev.put_now, h, Dev.setCtx_now, Dev.setCore_now]
      · simp only [Dev.cnt, Dev.bump, Dev.put_now, h, Dev.setCtx_now, Dev.setCore_now]
  · rfl

theorem Dev.vxCatchUp_now (d : Dev) (c t : Nat) : (d.vxCatchUp c t).now = d.now := by
  unfold Dev.vxCatchUp
  split
  · split
    · rfl
    · exact d.vxRunTo_now c _
  · rfl

theorem Dev.vxComplete_now (d : Dev) (c y : Nat) : (d.vxComplete c y).now = d.now := by
  unfold Dev.vxComplete
  dsimp only
  split
  · rfl
  split
  · rfl
  · rw [Dev.finish_now, Dev.setCore_now, Dev.setCtx_now, Dev.yielded_now, Dev.ended_now]
    split
    · exact d.vxRunTo_now c _
    · rfl

theorem Dev.vxTick_now (d : Dev) (c n : Nat) : (d.vxTick c n).now = d.now := by
  unfold Dev.vxTick
  split
  · split
    · rfl
    split
    · exact d.setCtx_now _ _
    · exact d.vxCatchUp_now c _
  · rfl

/-! ## Plans and references -/

theorem Dev.request_now (d : Dev) (e : Eng) (i att : Nat) (w : Bool) (a n : Nat) (bs : List Nat) : (d.request e i att w a n bs).2.now = d.now :=
  (d.requestFor_side e false i att w a n bs).now

theorem Dev.askFar_now (d : Dev) (e : Eng) (i att : Nat) (as : List Nat) : (d.askFar e i att as).2.2.now = d.now := by
  unfold Dev.askFar
  refine Dev.foldl_now (fun r : List Nat × Nat × Dev => r.2.2) _ _ (fun r g => ?_) ([], stOK, d)
  have h := r.2.2.request_now e i att false g.1 g.2.length []
  generalize r.2.2.request e i att false g.1 g.2.length [] = x at h ⊢
  obtain ⟨o, b⟩ := x
  cases o
  · exact h
  · exact h

theorem Dev.tellFar_now (d : Dev) (e : Eng) (i att : Nat) (bs : List (Nat × Byte)) : (d.tellFar e i att bs).2.2.now = d.now := by
  unfold Dev.tellFar
  refine Dev.foldl_now (fun r : List Nat × Nat × Dev => r.2.2) _ _ (fun r g => ?_) ([], stOK, d)
  have h := r.2.2.request_now e i att true g.1 g.2.length (g.2.map BitVec.toNat)
  generalize r.2.2.request e i att true g.1 g.2.length (g.2.map BitVec.toNat) = x at h ⊢
  obtain ⟨o, b⟩ := x
  cases o
  · exact h
  · exact h

theorem Dev.setFlight_now (d : Dev) (e : Eng) (f : InFlight) : (d.setFlight e f).now = d.now := d.setCtx_now _ _

theorem Dev.setPlan_now (d : Dev) (e : Eng) (p : Option Plan) : (d.setPlan e p).now = d.now := rfl

theorem Dev.askPlan_now (d : Dev) (e : Eng) (f : InFlight) (p : Plan) (runs : List (List Place)) : (d.askPlan e f p runs).1.now = d.now := by
  unfold Dev.askPlan
  dsimp only
  rw [Dev.setFlight_now, Dev.setPlan_now, Dev.askFar_now]

theorem Dev.readRuns_now (d : Dev) (e : Eng) (f : InFlight) (p : Plan) (runs : List (List Place)) : (d.readRuns e f p runs).2.2.now = d.now := by
  unfold Dev.readRuns
  extract_lets ls ws fix d1 x d2 r
  have h1 : d1.now = d.now := Dev.foldl_now_dev _ _ (fun d w => d.spCorrected_now _ _ _) d
  have h2 : d2.now = d.now := by
    rw [← h1]
    unfold d2
    split
    · rfl
    · rw [Dev.engCount_now, Dev.setCtx_now]
  have h3 : r.2.2.now = d2.now := by
    refine Dev.foldl_now (fun a : List Byte × Bool × Dev => a.2.2) _ _ (fun a y => ?_) (([], _, d2) : List Byte × Bool × Dev)
    exact (a.2.2.readLines_side _ _).now
  exact ((Dev.spMet_side _ _ _ _).now.trans h3).trans h2

theorem Dev.putBytes_now (d : Dev) (e : Eng) (f : InFlight) (p : Plan) (out : List Byte) (bad : Bool) : (d.putBytes e f p out bad).now = d.now := by
  have dig (d : Dev) (w1 : Nat) (bs : List (Nat × Byte)) : (d.addSlotDigest e w1 bs).now = d.now := by
    unfold Dev.addSlotDigest
    dsimp only
    split
    · rfl
    · rfl
  unfold Dev.putBytes
  dsimp only
  have h (b : Dev) (x : Option Plan) (g : InFlight) (k : Core) : (((b.setCore e.n k).setPlan e x).setFlight e g).now = b.now :=
    Dev.setFlight_now _ _ _
  split
  · simp only [Dev.cnt, Dev.bump, Dev.put_now]
    rw [h, dig, Dev.tellFar_now, (Dev.writeRun_side _ _ _ _).now]
  · rw [h, Dev.tellFar_now, (Dev.writeRun_side _ _ _ _).now]

theorem Dev.sparseRefuse_now (d : Dev) (e : Eng) (f : InFlight) (kind r g : Nat) (w : List (Loc × Byte)) : (d.sparseRefuse e f kind r g w).now = d.now := by
  unfold Dev.sparseRefuse
  dsimp only
  rw [Dev.file_now, Dev.put_now, Dev.setFlight_now, Dev.setPlan_now, (Dev.writeRun_side _ _ _ _).now]

theorem Dev.planData2_now (d : Dev) (e : Eng) (f : InFlight) (p : Plan) : (d.planData2 e f p).now = d.now := by
  have h := d.readRuns_now e f p p.runs
  unfold Dev.planData2
  generalize d.readRuns e f p p.runs = r at h ⊢
  dsimp only
  split
  · rw [Dev.putBytes_now, h]
  · rw [Dev.putBytes_now, h]
  · split
    · rw [Dev.putBytes_now, h]
    · rw [Dev.sparseRefuse_now, h]

theorem Dev.stage2_now (d : Dev) (e : Eng) (f : InFlight) (p : Plan) : (d.stage2 e f p).now = d.now := by
  have h := d.askPlan_now e f p p.runs
  unfold Dev.stage2
  generalize d.askPlan e f p p.runs = r at h ⊢
  dsimp only
  split
  · split
    · rw [Dev.planData2_now, h]
    · exact h
  · exact h

theorem Dev.planData_now (d : Dev) (e : Eng) : (d.planData e).now = d.now := by
  unfold Dev.planData
  split
  next p f _ _ =>
    split
    · have h := d.readRuns_now e f p (p.runs.take 2)
      generalize d.readRuns e f p (p.runs.take 2) = r at h ⊢
      dsimp only
      split
      · rw [Dev.sparseRefuse_now, Dev.cnt, Dev.bump, Dev.put_now, h]
      · rw [Dev.stage2_now, Dev.cnt, Dev.bump, Dev.put_now, h]
    · exact d.planData2_now e f p
  · rfl

theorem Dev.planGo_now (d : Dev) (e : Eng) : (d.planGo e).now = d.now := by
  unfold Dev.planGo
  split
  · split
    · rfl
    split
    · split
      · rfl
      · dsimp only
        split
        · rw [Dev.planData_now, Dev.askPlan_now, Dev.setCore_now]
        · rw [Dev.askPlan_now, Dev.setCore_now]
    · split
      · rfl
      · exact d.planData_now e
    · exact d.planData_now e
  · rfl

theorem Dev.coreTick_now (d b : Dev) (c : Nat) : (d.coreTick b c).now = d.now := by
  unfold Dev.coreTick Dev.plansGo
  rw [Dev.planGo_now, Dev.planGo_now, Dev.vxTick_now]

theorem Dev.askSlot_now (d : Dev) (e : Eng) (i : Nat) : (d.askSlot e i).now = d.now := by
  unfold Dev.askSlot
  split
  · rfl
  · have h := (d.requestFor_side e true i 0 false (d.listBase e + 32 * i) 32 []).now
    split
    next b hb => rw [← h, hb]
    next b hb => rw [Dev.setCtx_now, ← h, hb]

theorem Dev.listAnswer_now (d : Dev) (r : Remote) (data : List Nat) (st : Nat) : (d.listAnswer r data st).now = d.now := by
  unfold Dev.listAnswer
  dsimp only
  split
  · split
    · rfl
    · exact Dev.file_now _ _
  · exact Dev.ite_now _ ((Dev.askSlot_now _ _ _).trans (Dev.setCtx_now _ _ _)) (Dev.setCtx_now _ _ _)

theorem Dev.remoteAnswer_now (d : Dev) (id : Nat) (r : Remote) (data : List Nat) (st : Nat) : (d.remoteAnswer id r data st).now = d.now := by
  unfold Dev.remoteAnswer
  dsimp only
  split
  · exact Dev.listAnswer_now _ _ _ _
  split
  · rfl
  split
  · rfl
  split
  · exact Dev.setFlight_now _ _ _
  · rw [Dev.planGo_now, Dev.setPlan_now, Dev.setFlight_now]

theorem Dev.lostMsg_now (d : Dev) (m : Msg) : (d.lostMsg m).now = d.now := by
  unfold Dev.lostMsg
  dsimp only
  split
  · split
    · exact d.remoteAnswer_now _ _ _ _
    · rfl
  split
  · split
    · exact (d.send_side _ _).now
    split
    · rfl
    split
    · split
      · rfl
      · rfl
    · rfl
  · rfl

theorem Dev.sendDue_now (d : Dev) : d.sendDue.now = d.now := by
  unfold Dev.sendDue
  split
  · rfl
  · refine Dev.foldl_now_dev _ _ (fun b e => ?_) _
    dsimp only
    split
    · exact (b.send_side _ _).now
    · rw [Dev.lostMsg_now, (b.send_side _ _).now]

/-! ## Returns and ramps -/

theorem Dev.stackState_now (d : Dev) (q v : Nat) : (d.stackState q v).now = d.now :=
  Dev.foldl_now_dev _ _ (fun b i => b.put_now (K.HBM_STATE (5 * q + i)) v) d

theorem Dev.coreReturned_now (d : Dev) (c st : Nat) (found : List (Nat × Nat)) : (d.coreReturned c st found).now = d.now := by
  have corrupt (d : Dev) (g : Nat) : (d.corrupt c g).now = d.now := by
    unfold Dev.corrupt
    split
    · rfl
    · rfl
  have upset (d : Dev) (mem word : Nat) (f : Finding) : (d.upset c mem word f).now = d.now := by
    unfold Dev.upset
    split
    · rfl
    · rfl
    · exact Dev.ite_now _ (corrupt d _) rfl
    · rfl
  have unreadable (d : Dev) (mem word kind : Nat) : (d.spUncorrectable c mem word kind).now = d.now := by
    unfold Dev.spUncorrectable
    extract_lets k key known d1 d2
    have h2 : d2.now = d.now := Dev.ite_now _ rfl rfl
    by_cases hk : known = true
    · rw [if_pos hk]
      exact (d2.spRecordEcc_now _ _ _ _ _ _ _ _).trans h2
    · rw [if_neg hk]
      exact ((d2.draw 8).2.spRecordEcc_now _ _ _ _ _ _ _ _).trans h2
  have row (d : Dev) (r : Nat) : (d.readRow c r 5).now = d.now := by
    unfold Dev.readRow
    exact Dev.foldl_now_dev _ _ (fun b x => Dev.ite_now _ (b.spCorrected_now _ _ _) (Dev.ite_now _ (unreadable b _ _ _) rfl)) d
  have check (d : Dev) (g : Nat) : (d.verify c g 5).now = d.now := by
    unfold Dev.verify
    exact Dev.ite_now _ (Dev.spRecordEcc_now _ _ _ _ _ _ _ _ _) rfl
  unfold Dev.coreReturned
  refine Dev.ite_now _ rfl ?_
  refine (Dev.foldl_now_dev _ _ (fun b r => (check _ _).trans (check b _)) _).trans ?_
  refine (Dev.foldl_now_dev _ _ (fun b r => row b r) _).trans ?_
  refine (Dev.foldl_now_dev _ _ (fun b f => ?_) _).trans rfl
  split
  · exact Dev.ite_now _ (upset b _ _ _) rfl
  · exact Dev.ite_now _ (upset b _ _ _) rfl
  · exact Dev.ite_now _ (corrupt b _) rfl
  · rfl

theorem Dev.linkTrain_now (d : Dev) (l : Nat) : (d.linkTrain l).now = d.now := by
  unfold Dev.linkTrain
  refine Dev.ite_now _ rfl ?_
  split
  · rfl
  · refine Dev.ite_now _ rfl ?_
    exact Dev.ite_now _ rfl rfl
  · split
    · rfl
    · rfl
  · rfl

theorem Dev.domainReturnDone_now (d : Dev) (x : Nat) (f : List (Nat × Nat)) : (d.domainReturnDone x f).now = d.now := by
  unfold Dev.domainReturnDone
  refine Dev.ite_now _ rfl (Dev.ite_now _ (Dev.coreReturned_now _ _ _ _) (Dev.ite_now _ (Dev.ite_now _ (Dev.stackState_now _ _ _) rfl) ?_))
  exact Dev.foldl_now_dev _ _ (fun b i => Dev.ite_now _ (b.linkTrain_now _) rfl) _

theorem Dev.setGuard_now (d : Dev) (q : Nat) : (d.setGuard q).now = d.now := by
  unfold Dev.setGuard Dev.setFreq
  dsimp only
  rw [Dev.put_now]
  exact Dev.ite_now _ rfl rfl

theorem Dev.applyOp_keepsNow (d : Dev) (q op : Nat) : (d.applyOp q op).now = d.now := Dev.setGuard_now _ _

theorem Dev.opRampDone_now (d : Dev) (q : Nat) : (d.opRampDone q).now = d.now := by
  unfold Dev.opRampDone
  dsimp only
  refine Dev.ite_now _ rfl ?_
  rw [Dev.put_now]
  exact Dev.ite_now _ (Dev.applyOp_keepsNow _ _ _) rfl

theorem Dev.dueNow_now (d : Dev) : d.dueNow.now = d.now := by
  unfold Dev.dueNow
  refine (Dev.foldl_now_dev _ _ (fun b x => b.opRampDone_now _) _).trans ((Dev.foldl_now_dev _ _ (fun b x => b.domainReturnDone_now _ _) _).trans
    (Dev.foldl_now_dev _ _ (fun b c => ?_) d))
  have h : (c.2.passes.foldl (fun (d : Dev) _ => d.passComplete c.1) b).now = b.now := Dev.foldl_now_dev _ _ (fun x _ => x.passComplete_now _) b
  dsimp only
  split
  · rw [Dev.vxComplete_now, h]
  · exact h

/-! ## Counts and charges -/

theorem Dev.countCause_now (d : Dev) (e : Eng) (s n : Nat) : (d.countCause e s n).now = d.now := by
  unfold Dev.countCause
  exact Dev.ite_now _ (d.engCount_now _ _ _) (d.engCount_now _ _ _)

theorem Dev.countEngine_now (d : Dev) (e : Eng) (t n : Nat) : (d.countEngine e t n).now = d.now := by
  unfold Dev.countEngine
  extract_lets x d1 why b d2 m again
  have h1 : d1.now = d.now := Dev.ite_now _ rfl (d.setCtx_now _ _)
  have h2 : d2.now = d.now := Dev.ite_now _ h1 ((d1.engCount_now _ _ _).trans h1)
  refine Dev.ite_now _ h1 (Dev.ite_now _ ((d1.engCount_now _ _ _).trans h1) (Dev.ite_now _ h2 (Dev.ite_now _ ((d2.countCause_now _ _ _).trans h2) ?_)))
  exact Dev.ite_now _ h2 (Dev.ite_now _ h2 ((d2.countCause_now _ _ _).trans h2))

theorem Dev.countCycles_now (d b : Dev) : (d.countCycles b).now = d.now := by
  unfold Dev.countCycles
  refine (Dev.foldl_now_dev _ _ (fun x p => ?_) _).trans (Dev.foldl_now_dev _ _ (fun x c => ?_) d)
  · exact (Dev.foldl_now_dev _ _ (fun y z => y.countEngine_now _ _ _) _).trans (Dev.foldl_now_dev _ _ (fun y z => y.countEngine_now _ _ _) x)
  · exact Dev.foldl_now_dev _ _ (fun y k => y.countEngine_now _ _ _) x

theorem Dev.chargeCore_now (d : Dev) (c : Nat) : (d.chargeCore c).now = d.now := by
  unfold Dev.chargeCore
  exact Dev.ite_now _ rfl (d.charge_side _ _ _).now

theorem Dev.heldTick_now (d : Dev) (p : Nat) : (d.heldTick p).now = d.now := by
  unfold Dev.heldTick Dev.hold
  exact Dev.ite_now _ (Dev.ite_now _ rfl rfl) rfl

/-! ## The power controller's choice -/

theorem Dev.capStatus_now (d : Dev) (ok : Bool) (w : Nat) : (d.capStatus ok w).now = d.now := by
  have ask (d : Dev) (p : Nat) : (d.askSuspend p).now = d.now := rfl
  unfold Dev.capStatus
  dsimp only
  refine Dev.ite_now _ (Dev.ite_now _ rfl (Dev.ite_now _ rfl rfl)) ?_
  refine (Dev.foldl_now_dev _ _ (fun b p => ask b p) _).trans ?_
  rw [Dev.put_now]
  exact Dev.ite_now _ (Dev.pwrRecord_now _ _ _ _ _) rfl

theorem Dev.goOp_now (d : Dev) (q op : Nat) : (d.goOp q op).now = d.now := by
  have ramp (d : Dev) : (d.rampTo q op).now = d.now := by
    unfold Dev.rampTo
    exact Dev.ite_now _ rfl rfl
  unfold Dev.goOp
  dsimp only
  refine Dev.ite_now _ ?_ ?_
  · exact Dev.ite_now _ (d.setGuard_now q) (Dev.ite_now _ (d.setGuard_now q) (d.setGuard_now q))
  · rw [ramp]
    exact Dev.ite_now _ (d.applyOp_keepsNow q op) rfl

theorem Dev.choosePoints_now (d : Dev) : d.choosePoints.now = d.now := by
  unfold Dev.choosePoints
  extract_lets low was d1 floors wish ops ok w wf d2 d3
  have h1 : d1.now = d.now := Dev.foldl_now_dev _ _ (fun b q => b.put_now (K.FLOOR_MHZ q) _) d
  have h2 : d2.now = d1.now := Dev.foldl_now_dev _ _ (fun b x => b.goOp_now _ _) d1
  have h3 : d3.now = d2.now := Dev.foldl_now_dev _ _ (fun b q => Dev.ite_now _ ((Dev.pwrRecord_now _ _ _ _ _).trans (Dev.setPwr_now _ _)) rfl) d2
  rw [Dev.capStatus_now, Dev.setPwr_now, h3, h2, h1]

/-! ## The tick -/

theorem Dev.capDue_now (d : Dev) : d.capDue.now = d.now := by
  unfold Dev.capDue
  split
  · exact Dev.ite_now _ rfl (Dev.choosePoints_now _)
  · rfl

theorem Dev.holdStart_now (d : Dev) : d.holdStart.now = d.now := by
  unfold Dev.holdStart
  exact Dev.ite_now _ d.choosePoints_now rfl

theorem Dev.stainTick_now (d : Dev) : d.stainTick.now = d.now := by
  unfold Dev.stainTick
  exact Dev.foldl_now_dev _ _ (fun b s => Dev.ite_now _ (b.put_now (K.STAIN_APPLIED s) _) rfl) d

theorem Dev.slewTick_now (d : Dev) : d.slewTick.now = d.now := by
  have h : (d.draw 1).2.now = d.now := rfl
  unfold Dev.slewTick
  generalize d.draw 1 = r at h ⊢
  generalize d.ftOffset = o
  dsimp only
  exact Dev.ite_now _ rfl (Dev.ite_now _ rfl (Dev.ite_now _ h ((Dev.put_now _ _ _).trans h)))

theorem Dev.paceTick_now (d : Dev) : d.paceTick.now = d.now := by
  unfold Dev.paceTick
  refine Dev.ite_now _ rfl ?_
  rw [Dev.setPwr_now]
  exact Dev.foldl_now_dev _ _ (fun b q => b.pwrRecord_now _ _ _ _) d

theorem Dev.tick_now (d : Dev) : d.tick.now = (d.now + 1) % 2 ^ 64 := by
  unfold Dev.tick
  dsimp only
  rw [Dev.paceTick_now, Dev.slewTick_now, Dev.stainTick_now, Dev.holdStart_now, Dev.sendDue_now, Dev.capDue_now,
    Dev.foldl_now_dev _ _ (fun b p => b.heldTick_now p), Dev.foldl_now_dev _ _ (fun b c => b.chargeCore_now c),
    Dev.foldl_now_dev _ _ (fun b c => b.coreTick_now _ _), Dev.countCycles_now]
  exact congrArg (fun t => (t + 1) % 2 ^ 64) d.dueNow_now

/-- Cores that are released move neither the tick nor what lies outside the device. -/
theorem State.coreRelease_leaves (s : State) : s.coreRelease.dev.now = s.dev.now ∧ s.coreRelease.pending = s.pending ∧ s.coreRelease.sec = s.sec := by
  have scan (d : Dev) (c : Nat) : (d.queueScan c).now = d.now := by
    unfold Dev.queueScan
    exact Dev.ite_now _ rfl rfl
  have release (d : Dev) (cs : List Nat) : (d.releaseCores cs).now = d.now :=
    Dev.foldl_now_dev (fun d c => ({ d with released := withBit d.released c true } : Dev).zeroise c) _ (fun _ _ => rfl) d
  unfold State.coreRelease
  split
  · exact ⟨rfl, rfl, rfl⟩
  · exact ⟨(Dev.foldl_now_dev _ _ (fun b c => scan b c) _).trans (release _ _), rfl, rfl⟩

/-- Settles O2: nothing that a tick brings moves the tick but the counter itself. -/
theorem emptyQueueTicks : Obligations.EmptyQueueTicks := by
  refine fun s hp => ⟨fun hs => ?_, fun hs => ?_⟩
  · rw [step_empty hp, State.idle, if_pos hs]
  · obtain ⟨hn, hpend, hsec⟩ := s.coreRelease_leaves
    refine ⟨_, step_empty hp, ?_⟩
    rw [State.idle, if_neg (by simp [hs])]
    refine ⟨hpend.trans hp, ?_, by rw [← hsec]⟩
    rw [← hn]
    exact s.coreRelease.dev.tick_now

end Sys2Proof.Machine
end

section
/-! Proofs: what the end of a command, and the reading of its slots, leave of a core: every byte of its scratchpads, every mark of a word in
error, the commands in flight in its engines. -/
namespace Sys2Proof.Machine

/-- A core but for its signal queues, its engines' contexts and the marks of resident granules. -/
def Core.stock (k : Core) : Core := { k with hq := [], eng := [], resident := [] }

/-- `b` is `a` with every core as it was, but for what `Core.stock` leaves out. -/
def Dev.Spared (a b : Dev) : Prop := ∀ c, (b.core c).stock = (a.core c).stock

namespace Dev.Spared

variable {a b c : Dev}

theorem sp (h : Dev.Spared a b) (i : Nat) : (b.core i).sp = (a.core i).sp := (congrArg Core.sp (h i) :)
theorem poison (h : Dev.Spared a b) (i : Nat) : (b.core i).poison = (a.core i).poison := (congrArg Core.poison (h i) :)
theorem flaw (h : Dev.Spared a b) (i : Nat) : (b.core i).flaw = (a.core i).flaw := (congrArg Core.flaw (h i) :)
theorem passes (h : Dev.Spared a b) (i : Nat) : (b.core i).passes = (a.core i).passes := (congrArg Core.passes (h i) :)
theorem vx (h : Dev.Spared a b) (i : Nat) : (b.core i).vx = (a.core i).vx := (congrArg Core.vx (h i) :)
theorem vlen (h : Dev.Spared a b) (i : Nat) : (b.core i).vlen = (a.core i).vlen := (congrArg Core.vlen (h i) :)
theorem plan (h : Dev.Spared a b) (i : Nat) : (b.core i).plan = (a.core i).plan := (congrArg Core.plan (h i) :)
theorem ra (h : Dev.Spared a b) (i : Nat) : (b.core i).ra = (a.core i).ra := (congrArg Core.ra (h i) :)

theorem refl (a : Dev) : Dev.Spared a a := fun _ => rfl
theorem trans (h : Dev.Spared a b) (g : Dev.Spared b c) : Dev.Spared a c := fun i => (g i).trans (h i)
theorem of_cores (h : b.cores = a.cores) : Dev.Spared a b := fun i => by rw [show b.core i = a.core i by unfold Dev.core; rw [h]]
theorem ite (p : Prop) [Decidable p] (h : p → Dev.Spared a b) (h' : ¬p → Dev.Spared a c) : Dev.Spared a (if p then b else c) := by
  split
  · exact h ‹_›
  · exact h' ‹_›
theorem foldl_of {α β : Type} (g : α → Dev) (f : α → β → α) (l : List β) (h : ∀ x y, Dev.Spared (g x) (g (f x y))) (x : α) :
    Dev.Spared (g x) (g (l.foldl f x)) :=
  List.foldlRecOn (motive := fun y => Dev.Spared (g x) (g y)) l f (.refl _) fun y hy z _ => hy.trans (h y z)
theorem foldl {β : Type} (f : Dev → β → Dev) (l : List β) (h : ∀ d x, Dev.Spared d (f d x)) (d : Dev) : Dev.Spared d (l.foldl f d) :=
  foldl_of id f l h d
theorem put (d : Dev) (o : Obj) (v : Nat) : Dev.Spared d (d.put o v) := .of_cores rfl
theorem cnt (d : Dev) (o : Obj) (n : Nat) : Dev.Spared d (d.cnt o n) := put d o _
theorem setPart (d : Dev) (p : Nat) (x : Part) : Dev.Spared d (d.setPart p x) := .of_cores rfl
theorem setSched (d : Dev) (p : Nat) (x : Sched) : Dev.Spared d (d.setSched p x) := .of_cores rfl
theorem setMem (d : Dev) (m : Mem) : Dev.Spared d { d with mem := m } := .of_cores rfl
theorem sent (h : Dev.Sent a b) : Dev.Spared a b := .of_cores h.cores
theorem file (d : Dev) (i : RecInfo) : Dev.Spared d (d.file i) := .of_cores (d.file_cores i)
theorem stain (d : Dev) (kind unit p : Nat) : Dev.Spared d (d.stain kind unit p).2.2 := .of_cores (d.stain_cores kind unit p)

theorem setCore (d : Dev) (i : Nat) {x : Core} (h : x.stock = (d.core i).stock) : Dev.Spared d (d.setCore i x) := fun j => by
  by_cases hj : j = i
  · rw [hj, Dev.core_setCore_self, h]
  · rw [Dev.core_setCore_ne _ _ hj]

theorem setHq (d : Dev) (i q : Nat) (l : List Handle) : Dev.Spared d (d.setHq i q l) := setCore d i rfl

theorem setCtx (d : Dev) (e : Eng) (x : EngCtx) : Dev.Spared d (d.setCtx e x) := by
  unfold Dev.setCtx
  split
  · exact setCore d _ rfl
  · split <;> exact .of_cores rfl

end Dev.Spared

/-! ## Reads and writes at window addresses, which reach no scratchpad of an engine's own lists and rings (R408) -/

theorem wordsWhere_unowned {d : Dev} {f : Core → Nat → Bool} {ls : List Loc} (h : ls.any Loc.foreign = false) : d.wordsWhere f ls = [] := by
  rw [List.any_eq_false] at h
  unfold Dev.wordsWhere
  rw [List.foldlRecOn (motive := fun a => a = []) ls _ rfl fun a ha l hl => ?_]
  · rfl
  · cases l with
    | sp c m o => exact absurd rfl (h _ hl)
    | _ => exact ha

theorem Dev.readWin_cores (d : Dev) (s : Iss) (w : Who) (a n : Nat) : (d.readWin s w a n).2.cores = d.cores := by
  unfold Dev.readWin
  split
  · rfl
  split
  · rfl
  next h => exact Dev.readRun_cores (wordsWhere_unowned (Bool.eq_false_iff.mpr h)) s 0

theorem Dev.slot_cores (d : Dev) (e : Eng) (i : Nat) : (d.slot e i).2.cores = d.cores := by
  unfold Dev.slot
  split
  · rfl
  split
  · rfl
  · exact d.readWin_cores _ _ _ _

theorem Dev.takeSlots_cores (d : Dev) (e : Eng) (n : Nat) : (d.takeSlots e n).cores = d.cores :=
  Dev.foldl_cores id _ _ (fun d _ => d.slot_cores e _) d

/-- A run without a place in a scratchpad has no chunk in one. -/
theorem chunks_unowned {bs : List (Loc × Byte)} (h : ∀ b ∈ bs, b.1.foreign = false) {c m : Nat} {g : List (Nat × Byte)} :
    Chunk.sp c m g ∉ chunks bs := by
  induction bs generalizing c m g with
  | nil => exact List.not_mem_nil
  | cons b bs ih =>
    have ih' : ∀ {c m g}, Chunk.sp c m g ∉ chunks bs := ih fun x hx => h x (List.mem_cons_of_mem _ hx)
    have hb := h b List.mem_cons_self
    intro hg
    unfold chunks at hg ih'
    rw [List.foldr_cons] at hg
    generalize List.foldr _ _ bs = l at hg ih'
    obtain ⟨x, v⟩ := b
    cases x with
    | far a => cases hb
    | sp c m o => cases hb
    | hbm x =>
      dsimp only at hg
      split at hg <;> grind
    | acc x w =>
      dsimp only at hg
      split at hg <;> grind

theorem Dev.setHbmByte_cores (d : Dev) (x : Nat) (b : Byte) : (d.setHbmByte x b).cores = d.cores := by
  unfold Dev.setHbmByte
  split <;> rfl

theorem Dev.setBytes_cores {β : Type} (f : β → Nat) (g : β → Byte) (l : List β) (d : Dev) :
    (l.foldl (fun d b => d.setHbmByte (f b) (g b)) d).cores = d.cores :=
  Dev.foldl_cores id (fun d b => d.setHbmByte (f b) (g b)) l (fun d _ => d.setHbmByte_cores _ _) d

theorem Dev.writeLine_cores (d : Dev) (s : Iss) (line : Nat) (bs : List (Nat × Byte)) : (d.writeLine s line bs).2.cores = d.cores := by
  simp only [Dev.writeLine]
  refine (Dev.stain_cores _ _ _ _).trans ((Dev.cacheTouch_cores _ _ _ _ _).trans ((Dev.setBytes_cores _ _ _ _).trans ?_))
  split
  · exact Dev.setBytes_cores _ _ _ _
  · rfl

theorem Dev.writeWin_cores (d : Dev) (s : Iss) (w : Who) (a : Nat) (bs : List Nat) : (d.writeWin s w a bs).2.cores = d.cores := by
  unfold Dev.writeWin
  split
  · rfl
  next ls _ =>
    split
    · rfl
    next hf =>
      simp only [Dev.writeRun]
      rw [Dev.meter_cores]
      have hc : ∀ b ∈ ls.zip (bs.map (BitVec.ofNat 8)), b.1.foreign = false := fun b hb =>
        Bool.eq_false_iff.mpr fun hb' => hf (List.any_eq_true.mpr ⟨b.1, (List.of_mem_zip hb).1, hb'⟩)
      refine List.foldlRecOn (motive := fun y : Bool × Dev => y.2.cores = d.cores) _ _ rfl fun x hx ch hch => ?_
      cases ch with
      | line n g => exact (x.2.writeLine_cores s n g).trans hx
      | acc v g => exact hx
      | sp c m g => exact absurd hch (chunks_unowned hc)
      | far => exact hx

/-! ## Ends of commands -/

namespace Dev.Spared

variable (d : Dev) (e : Eng)

theorem wakeDom (x : Nat) : Dev.Spared d (d.wakeDom x) := sent (d.wakeDom_sent x)

theorem popFor {d t : Dev} {e : Eng} {q : Nat} {h : Option Handle} (g : d.popFor e q = some (h, t)) : Dev.Spared d t := by
  unfold Dev.popFor at g
  dsimp only at g
  split at g
  · cases g; exact .refl d
  split at g
  · cases g; exact .refl d
  split at g
  · cases g
  split at g
  · cases g
  split at g
  · cases g
  · cases g
    exact (setHq d _ _ _).trans (setCtx _ _ _)

theorem popFirst (c q : Nat) : Dev.Spared d (d.popFirst c q) := by
  unfold Dev.popFirst
  split
  · split
    next g => exact popFor g
    next => exact .refl d
  · exact .refl d

theorem push (q : Nat) (h : Handle) : Dev.Spared d (d.push e q h).1 := by
  unfold Dev.push
  split
  · exact .refl d
  have hs : Dev.Spared d (if e.isCore = true then d.stain 1 e.unit (d.engPart e) else (0, 0, d)).2.2 := by
    split
    · exact stain d _ _ _
    · exact .refl d
  revert hs
  generalize (if e.isCore = true then d.stain 1 e.unit (d.engPart e) else (0, 0, d)) = r
  obtain ⟨n, t, d2⟩ := r
  intro hs
  dsimp only at hs ⊢
  split
  next c _ =>
    have hw : Dev.Spared d (if d2.get (K.DOM_STATE c) ≤ 2 then d2.wakeDom c else d2) := hs.trans (.ite _ (fun _ => wakeDom d2 c) fun _ => .refl d2)
    generalize (if d2.get (K.DOM_STATE c) ≤ 2 then d2.wakeDom c else d2) = d3 at hw ⊢
    split
    · exact hw.trans (setHq d3 _ _ _)
    split
    · exact (hw.trans (popFirst d3 _ _)).trans (setHq _ _ _ _)
    · exact hw
  next =>
    split
    · exact hs
    · exact hs.trans (setPart d2 _ _)

theorem engCount (sub n : Nat) : Dev.Spared d (d.engCount e sub n) := by
  simp only [Dev.engCount]
  exact .ite _ (fun _ => (cnt d _ _).trans (cnt _ _ _)) fun _ => cnt d _ _

theorem moveEntry (w : Who) (a : Nat) (bs : List Nat) : Dev.Spared d (d.moveEntry w a bs) := by
  unfold Dev.moveEntry
  split
  · exact .refl d
  · refine .foldl _ _ (fun d b => ?_) d
    split
    · exact .of_cores (d.setHbmByte_cores _ _)
    · exact setMem d _
    · exact .refl d

theorem requestFor (l : Bool) (i t : Nat) (w : Bool) (a n : Nat) (bs : List Nat) : Dev.Spared d (d.requestFor e l i t w a n bs).2 := by
  unfold Dev.requestFor
  dsimp only
  generalize hm : txMsg _ _ _ _ _ _ _ _ _ _ _ = m
  have h : Dev.Spared d (d.send m false).1 := sent (d.send_sent m false)
  generalize d.send m false = r at h ⊢
  obtain ⟨d', ok⟩ := r
  cases ok
  · exact h
  · exact h.trans (.of_cores rfl)

theorem recordDone (index op st : Nat) (l : List (Nat × RingEntry)) :
    Dev.Spared d (let t := l.foldl (fun d x => d.moveEntry (d.engWho e) x.1 x.2.bytes) d
      if st = 0 then t else t.recordLost e index op st) := by
  have h : Dev.Spared d (l.foldl (fun d x => d.moveEntry (d.engWho e) x.1 x.2.bytes) d) := .foldl _ l (fun d x => moveEntry d _ _ _) d
  exact h.trans (.ite _ (fun _ => .refl _) fun _ => file _ _)

theorem record (index op st gen : Nat) : Dev.Spared d (d.record e index op st gen) := by
  unfold Dev.record
  extract_lets d0
  have h0 : Dev.Spared d d0 := .ite _ (fun _ => (cnt d _ _).trans (cnt _ _ _)) fun _ => .refl d
  have h1 : Dev.Spared d (d0.ringSlot e gen).2 := h0.trans (by
    unfold Dev.ringSlot
    dsimp only
    split
    · exact put d0 _ _
    · exact setCtx d0 _ _)
  generalize d0.ringSlot e gen = r at h1 ⊢
  obtain ⟨a, d1⟩ := r
  dsimp only at h1 ⊢
  generalize d1.ringLater e gen = rest
  generalize rest.map RingEntry.addr ++ [a] = slots
  generalize toLE 4 index ++ [st, e.k, 0, 0] ++ toLE 8 d1.now = bytes
  have h2 : Dev.Spared d (d1.noteRing e gen slots ({ tick := d1.now, gen := gen, eng := e.n, addr := a, bytes := bytes } :: rest)) :=
    h1.trans (.ite _ (fun _ => .refl d1) fun _ => setPart d1 _ _)
  generalize d1.noteRing e gen slots ({ tick := d1.now, gen := gen, eng := e.n, addr := a, bytes := bytes } :: rest) = d2 at h2 ⊢
  split
  · exact h2.trans (setMem d2 _)
  by_cases hdev : bits a 63 52 = d2.get K.DEVICE_NUMBER
  · rw [if_pos hdev]
    have h3 := h2.trans (.of_cores (d2.writeWin_cores (d2.iss e index op) (d2.engWho e) (slots.headD a) bytes))
    exact h3.trans (recordDone _ e _ _ _ _)
  · rw [if_neg hdev]
    have h3 := h2.trans (requestFor d2 e true index 0 true (slots.headD a) 16 bytes)
    generalize d2.requestFor e true index 0 true (slots.headD a) 16 bytes = r at h3 ⊢
    obtain ⟨x, d3⟩ := r
    cases x <;> exact h3.trans (recordDone _ e _ _ _ _)

theorem nfRecord (index op st : Nat) : Dev.Spared d (d.nfRecord e index op st) := .ite _ (fun _ => file d _) fun _ => .refl d

theorem lateCompletion (index op w1 cause st : Nat) : Dev.Spared d (d.lateCompletion e index op w1 cause st) :=
  .ite _ (fun _ => .ite _ (fun _ => .refl d) fun _ => (setCtx d e _).trans (file _ _)) fun _ => .refl d

theorem account (w1 st att sig : Nat) (quiet : Bool) : Dev.Spared d (d.account e w1 st att sig quiet) := by
  have h1 : Dev.Spared d (d.tallied e st) := by
    have h : Dev.Spared d (if st ≠ 0 then d.engCount e 12 1 else d) := .ite _ (fun _ => engCount d e _ _) fun _ => .refl d
    exact .ite _ (fun _ => h.trans (put _ _ _)) fun _ => h
  have h2 : Dev.Spared d (d.counted e st quiet) := .ite _ (fun _ => h1.trans (cnt _ _ _)) fun _ => h1
  obtain ⟨-, h⟩ | ⟨-, h | ⟨key, h⟩ | h | ⟨-, h⟩⟩ := account_cases d e w1 st att sig quiet <;> rw [h]
  · exact h1
  · exact h2
  · exact h2.trans (setSched _ _ _)
  · exact h2.trans (.ite _ (fun _ => .refl _) fun _ => ((setSched _ _ _).trans (put _ _ _)).trans (file _ _))
  · exact h2.trans (setSched _ _ _)

theorem setResident (own : Nat) (gs : List Nat) : Dev.Spared d (d.setResident own gs) :=
  .foldl _ gs (fun d _ => by
    dsimp only
    exact setCore d _ rfl) d

theorem takeSlots (n : Nat) : Dev.Spared d (d.takeSlots e n) := .of_cores (d.takeSlots_cores e n)

theorem advance (n : Nat) : Dev.Spared d (d.advance e n) := ((takeSlots d e n).trans (setCtx _ e _)).trans (engCount _ e 11 1)

theorem endHead (c : Cmd) (n st : Nat) (quiet : Bool) (h : Handle) : Dev.Spared d (d.endHead e c n st quiet h) := by
  unfold Dev.endHead
  extract_lets d1 x m st1
  have h1 : Dev.Spared d (d1.push e (if c.sigQ < 32 then c.sigQ else 255) { h with status := st1, cyc := m }).1 :=
    (takeSlots d e n).trans (push d1 e _ _)
  revert h1
  generalize d1.push e (if c.sigQ < 32 then c.sigQ else 255) { h with status := st1, cyc := m } = r
  obtain ⟨d2, ok⟩ := r
  intro h1
  dsimp -zeta only at h1 ⊢
  extract_lets d3 st2 own d4 d5 y
  have h3 : Dev.Spared d d3 := h1.trans (.ite _ (fun _ => .refl _) fun _ => file _ _)
  have h4 : Dev.Spared d d4 := ((h3.trans (record _ e _ _ _ _)).trans (nfRecord _ e _ _ _)).trans (lateCompletion _ e _ _ _ _ _)
  exact (h4.trans (account _ e _ _ _ _ _)).trans (setCtx _ _ _)

theorem reject (c : Cmd) (n st : Nat) : Dev.Spared d (d.reject e c n st) := endHead d e c n st false (token st)

theorem finish (f : InFlight) (h : Handle) : Dev.Spared d (d.finish e f h) := by
  unfold Dev.finish
  extract_lets p gone st
  have h1 : Dev.Spared d (if gone = true then (d, true)
      else d.push e f.sig { h with status := st, cyc := max (d.cycles e.quad) (d.ctx e).till }).1 := by
    split
    · exact .refl d
    · exact push d e _ _
  revert h1
  generalize (if gone = true then (d, true) else d.push e f.sig { h with status := st, cyc := max (d.cycles e.quad) (d.ctx e).till }) = r
  obtain ⟨d1, ok⟩ := r
  intro h1
  dsimp -zeta only at h1 ⊢
  extract_lets d2 st2 d3
  have h2 : Dev.Spared d d2 := h1.trans (.ite _ (fun _ => .refl _) fun _ => file _ _)
  have h3 : Dev.Spared d d3 := h2.trans (.ite _ (fun _ => setResident _ _ _) fun _ => .refl _)
  exact (((h3.trans (record _ e _ _ _ _)).trans (nfRecord _ e _ _ _)).trans (lateCompletion _ e _ _ _ _ _)).trans (account _ e _ _ _ _ _)

end Dev.Spared

/-- A flight's hold marked by a delay. -/
theorem Dev.holdIssued_spared (d : Dev) (e : Eng) (index : Nat) : Dev.Spared d (d.holdIssued e index) := by
  unfold Dev.holdIssued
  split
  · exact .refl d
  · extract_lets t mark x d1
    exact .ite _ (fun _ => (Dev.Spared.setCtx d e _).trans (.of_cores rfl)) fun _ => Dev.Spared.setCtx d e _

end Sys2Proof.Machine
end

section
/-! Proofs: matrix passes issue with their problems, or end unissued (R143, R160 to R172). -/
namespace Sys2Proof.Machine

theorem Dev.ctx_setCore (d : Dev) (c : Nat) {x : Core} (h : x.eng = (d.core c).eng) (e : Eng) : (d.setCore c x).ctx e = d.ctx e := by
  unfold Dev.ctx
  by_cases hc : e.n = c
  · rw [hc, Dev.core_setCore_self, h]
    rfl
  · rw [Dev.core_setCore_ne _ _ hc]
    rfl

/-- The pass that a command puts in flight. -/
def Cmd.passOf (c : Cmd) (g rate : Nat) (ps : List Prob) (fl : InFlight) : Pass :=
  { fl := fl, gang := g, rate := rate, acc := bit (c.w 0) 14, tfeed := bit (c.w 0) 13, tdrain := bit (c.w 0) 12, drain := bit (c.w 0) 15,
    mmax := (ps.map Prob.m).foldl max 0, dur := passDur g rate ((ps.map Prob.m).foldl max 0), done := 0, probs := ps }

theorem Dev.advance_index (d : Dev) (e : Eng) (n : Nat) : ((d.advance e n).ctx e).index = (d.ctx e).index + n :=
  (congrArg EngCtx.index (d.advance_ctx e n).1 :)

/-- A valid pass whose granules are resident, which the array accepts, and whose gate is open, is the last in flight. -/
theorem Dev.issuePass_issues {d : Dev} {k n g rate : Nat} {c : Cmd} {q : Prob} {r : List Prob}
    (hres : (readGrans (c.flag 13) (q :: r)).all (fun x => Map.get (d.core k).resident false x) = true)
    (hacc : (d.core k).accepts (c.flag 15) g rate q.sparse (d.cyclesEnd (quadOf k)) = true) (hgate : bit (d.get K.GATE) k = false) :
    ∃ fl, ((d.issuePass k c n g rate (q :: r)).core k).passes = (d.core k).passes ++ [c.passOf g rate (q :: r) fl] ∧
      (fl.index = c.index ∧ fl.space = 2 ∧ fl.offset = 4 * q.dest) ∧
      ((d.issuePass k c n g rate (q :: r)).ctx (eng 1 k)).index = (d.ctx (eng 1 k)).index + n := by
  unfold Dev.issuePass
  extract_lets e x w0 drain sparse mmax cyc dest fl0 fl p chained ov d1 d2
  have hres' : ¬(!((readGrans (bit w0 13) (q :: r)).all fun y => Map.get x.resident false y)) = true := by
    rw [Bool.not_eq_true', Bool.not_eq_false]
    exact hres
  have hacc' : ¬(!x.accepts drain g rate sparse cyc) = true := by
    rw [Bool.not_eq_true', Bool.not_eq_false]
    exact hacc
  rw [if_neg hres', if_neg hacc', if_neg (by rw [hgate]; exact Bool.false_ne_true)]
  have h2 : Dev.Spared d1 d2 := .ite _ (fun _ => .cnt _ _ _) fun _ => .refl _
  have h3 : Dev.Spared d1 (d2.advance e n) := h2.trans (.advance d2 e n)
  have hctx : d2.ctx e = d.ctx e := by
    have h1 : d1.ctx e = d.ctx e := Dev.ctx_setCore d k (x := { ov with passes := x.passes ++ [p], mxWait := 0, mxStop := false }) rfl e
    unfold d2
    split
    · exact h1
    · exact h1
  refine ⟨fl, ?_, ⟨rfl, rfl, rfl⟩, ?_⟩
  · rw [h3.passes, Dev.core_setCore_self]
    rfl
  · rw [Dev.advance_index, hctx]

/-- A refused pass issues nothing. -/
theorem Dev.reject_passes (d : Dev) (k : Nat) (c : Cmd) (n st : Nat) :
    ((d.reject (eng 1 k) c n st).core k).passes = (d.core k).passes ∧
      ((d.reject (eng 1 k) c n st).ctx (eng 1 k)).index = (d.ctx (eng 1 k)).index + n :=
  ⟨(Dev.Spared.reject d (eng 1 k) c n st).passes k, d.reject_index _ _ _ _⟩

section
variable {s : State} {k op n : Nat} {c : Cmd} {d t : Dev}

/-- What a command of the array leaves at its issue stands behind the marks of a delay. -/
theorem State.arrayRuns {i : Instr} {u : Dev} {ps : List Pass} {m : Nat} (hx : exec i s = .next (s.setDev u))
    (hu : u = t.holdIssued (eng 1 k) c.index) (hp : (t.core k).passes = ps) (hi : (t.ctx (eng 1 k)).index = m) :
    ∃ v, exec i s = .next v ∧ v.pending = s.pending ∧ v.sec = s.sec ∧ (v.dev.core k).passes = ps ∧ (v.dev.ctx (eng 1 k)).index = m := by
  subst hu
  refine ⟨_, hx, s.setDev_pending _, s.setDev_sec _, ?_, ?_⟩ <;> rw [State.setDev_dev]
  · rw [(t.holdIssued_spared _ _).passes, hp]
  · rw [(t.holdIssued_marked _ _).index, hi]

theorem exec_mxPass (h : Issues s (eng 1 k) op c n d) : exec (.mxPass k) s = .next (s.setDev (s.dev.mxPass k)) :=
  onUnit_next (f := fun d => d.mxPass k) (decide_eq_true (Eng.inside_of_ok h.unit).1) h.live

theorem exec_mxGang (h : Issues s (eng 1 k) op c n d) : exec (.mxGang k) s = .next (s.setDev (s.dev.mxGang k)) :=
  onUnit_next (f := fun d => d.mxGang k) (decide_eq_true (Eng.inside_of_ok h.unit).1) h.live

/-- MX_PASS of a decoded problem is issued, or refused by the checks of R176. -/
theorem Issues.mxPass {q : Prob} {rate : Nat} (h : Issues s (eng 1 k) 0x10 c n d) (hr : (s.dev.core k).reruns = [])
    (hq : decodeProb 0 (c.pair 2) (c.pair 4) (c.pair 6) c.waitQ c.handle = some q) (hrate : rateOf q.wFmt q.sFmt = some rate) :
    s.dev.mxPass k = (if bits (c.w 0) 10 8 = 0 && passValid 0 rate (c.flag 13) (c.flag 12) [q] then d.issuePass k c n 0 rate [q]
      else d.reject (eng 1 k) c n stRANGE).holdIssued (eng 1 k) c.index := by
  unfold Dev.mxPass
  rw [hr, if_neg (by decide), h.issue, hq]
  dsimp only
  rw [hrate]

/-- MX_GANG whose problems pass their checks is issued. -/
theorem Issues.mxGang {es : List (List Nat)} {q : Prob} {r : List Prob} {rate g : Nat} (h : Issues s (eng 1 k) 0x11 c n d)
    (hr : (s.dev.core k).reruns = []) (hes : d.exts (eng 1 k) c n = (.ok es, d))
    (hq : es.filterMap (fun ws => decodeProb (bits (ws.getD 0 0) 11 8)
      (Cmd.pair { index := 0, words := ws, handle := none } 2) (Cmd.pair { index := 0, words := ws, handle := none } 4)
      (Cmd.pair { index := 0, words := ws, handle := none } 6) c.waitQ c.handle) = q :: r)
    (hlen : (q :: r).length = es.length) (hrate : rateOf q.wFmt q.sFmt = some rate) (hg : g = bits (c.w 0) 10 8) (hg4 : g ≤ 4)
    (hn : (q :: r).length ≤ gangProblems g) (hv : passValid g rate (c.flag 13) (c.flag 12) (q :: r) = true) :
    s.dev.mxGang k = (d.issuePass k c n g rate (q :: r)).holdIssued (eng 1 k) c.index := by
  unfold Dev.mxGang
  rw [hr, if_neg (by decide), h.issue, hes]
  dsimp -zeta only
  extract_lets g' qs
  rw [show qs = q :: r from hq]
  dsimp -zeta only
  rw [hrate]
  dsimp -zeta only
  rw [show g' = g from hg.symm, if_pos (by simp only [Bool.and_eq_true, decide_eq_true_eq]; exact ⟨⟨⟨hg4, hlen⟩, hn⟩, hv⟩)]

end

/-- Settles O48: each command's checks lead to `Dev.issuePass`, whose conditions the premises state, or to the refusal, which issues nothing. -/
theorem passesIssue : Obligations.PassesIssue := by
  refine ⟨fun s k c n d q rate h hr _ hq hrate => ⟨fun ⟨hb, hv⟩ hres hacc hgate => ?_, fun hbad => ?_⟩,
    fun s k c n d es q r rate g h hr _ hes hq hlen hrate hg hg4 hn hv hres hacc hgate => ?_⟩
  · have hm := h.mxPass hr hq hrate
    rw [if_pos (by simp [hb, hv])] at hm
    obtain ⟨fl, hp, hfl, hi⟩ := Dev.issuePass_issues (n := n) (rate := rate) (r := []) hres hacc hgate
    obtain ⟨u, hx, hpend, hsec, hu, hui⟩ := State.arrayRuns (exec_mxPass h) hm hp hi
    refine ⟨u, _, hx, hpend, hsec, hu, ?_, hfl.1, hfl.2.1, hfl.2.2, hui⟩
    unfold Cmd.passOf
    rw [show ([q].map Prob.m).foldl max 0 = q.m from Nat.zero_max _]
    rfl
  · have hm := h.mxPass hr hq hrate
    rw [if_neg (by simpa [or_iff_not_imp_left] using hbad)] at hm
    obtain ⟨hp, hi⟩ := d.reject_passes k c n stRANGE
    exact State.arrayRuns (exec_mxPass h) hm hp hi
  · obtain ⟨fl, hp, -, hi⟩ := Dev.issuePass_issues (n := n) (rate := rate) (r := r) hres hacc hgate
    obtain ⟨u, hx, hpend, hsec, hu, hui⟩ := State.arrayRuns (exec_mxGang h) (h.mxGang hr hes hq hlen hrate hg hg4 hn hv) hp hi
    exact ⟨u, _, hx, hpend, hsec, hu, rfl, rfl, rfl, rfl, rfl, rfl, hui⟩

end Sys2Proof.Machine
end

section
/-! Proofs: the objects that reads of HBM move, told apart from the engines' own (R279, R335), and commands in flight behind their slots (R27). -/
namespace Sys2Proof.Machine

/-- Objects that reads of HBM move: what completions may, and the counters and syndromes of the stacks. -/
def hbmKey (k : Nat) : Prop := tallyKey k ∨ (0x400000 ≤ k ∧ k < 0x402000)

theorem hbmKey_of {n s : Nat} (hn : n < 32) (hs : s < 256) : hbmKey ((0x4000 + n) * 256 + s) := .inr ⟨by omega, by omega⟩

theorem stack_lt {x : Nat} (hx : x < 2 ^ 40) : x / chBytes / 16 < 32 := by
  unfold chBytes
  omega

section
variable (d : Dev) {line : Nat} (h : line * 128 / chBytes / 16 < 32)
include h

theorem Dev.hbmRecord_hbmKeys (kind st p idx op : Nat) : Dev.ObjsBut hbmKey d (d.hbmRecord kind (line * 128) st p idx op) := by
  simp only [Dev.hbmRecord]
  exact (Dev.ObjsBut.put d _ (hbmKey_of h (by omega))).trans ((Dev.file_tallied _ _).obj.mono fun _ => .inl)

theorem Dev.lineLost_hbmKeys (kind p idx op : Nat) : Dev.ObjsBut hbmKey d (d.lineLost line kind p idx op) := by
  unfold Dev.lineLost
  extract_lets m d1
  have h1 : Dev.ObjsBut hbmKey d d1 := .of_objs rfl
  clear_value d1
  exact (h1.trans (.cnt d1 1 (hbmKey_of h (by omega)))).trans (Dev.hbmRecord_hbmKeys _ h _ _ _ _ _)

theorem Dev.lineCorrected_hbmKeys (p idx op : Nat) : Dev.ObjsBut hbmKey d (d.lineCorrected line p idx op) := by
  unfold Dev.lineCorrected
  extract_lets d1 m d2
  have h2 : Dev.ObjsBut hbmKey d d2 := (Dev.ObjsBut.cnt d 1 (hbmKey_of h (by omega))).trans (.of_objs rfl)
  clear_value d2
  exact .ite _ (fun _ => h2.trans (d2.hbmRecord_hbmKeys h _ _ _ _ _)) fun _ => h2.trans (.of_objs rfl)

theorem Dev.lineMet_hbmKeys (p idx op : Nat) (f : Finding) : Dev.ObjsBut hbmKey d (d.lineMet line p idx op f).2 := by
  unfold Dev.lineMet
  split
  · exact d.lineLost_hbmKeys h _ _ _ _
  split
  · exact d.lineLost_hbmKeys h _ _ _ _
  split
  · exact d.lineCorrected_hbmKeys h _ _ _
  · exact .cnt d _ (hbmKey_of h (by omega))
  · exact .refl d

theorem Dev.readLine_hbmKeys (s : Iss) : Dev.ObjsBut hbmKey d (d.readLine s line).2 := by
  simp only [Dev.readLine]
  generalize d.lineFlaw line = f
  have h1 := (d.cacheTouch_tallied line false s.alloc 0).trans (Dev.stain_tallied _ 3 (0x4000 + line * 128 / chBytes / 16) s.part)
  generalize (d.cacheTouch line false s.alloc 0).stain 3 (0x4000 + line * 128 / chBytes / 16) s.part = r at h1 ⊢
  have h2 : Dev.Tallied d (r.2.2.noteDelay r.2.1) := h1.trans (Dev.noteDelay_tallied _ _)
  exact (h2.obj.mono fun _ => .inl).trans (Dev.lineMet_hbmKeys _ h _ _ _ _)

end

theorem mem_hbmLines {ls : List Loc} {n : Nat} (h : n ∈ hbmLines ls) : ∃ x, Loc.hbm x ∈ ls ∧ n = x / 128 := by
  unfold hbmLines at h
  revert h
  refine List.foldlRecOn (motive := fun a : List Nat => n ∈ a → ∃ x, Loc.hbm x ∈ ls ∧ n = x / 128) ls _ (fun h => absurd h List.not_mem_nil) fun a ih l hl h => ?_
  cases l with
  | hbm x =>
    dsimp only at h
    split at h
    · exact ih h
    · rcases List.mem_append.mp h with h | h
      · exact ih h
      · exact ⟨x, hl, List.mem_singleton.mp h⟩
  | _ => exact ih h

theorem Dev.readRun_hbmKeys (d : Dev) (s : Iss) (e : Nat) {ls : List Loc} (hf : ls.any Loc.foreign = false) (hx : ∀ x, Loc.hbm x ∈ ls → x < 2 ^ 40) :
    Dev.ObjsBut hbmKey d (d.readRun s e ls).2.2 := by
  unfold Dev.readRun
  dsimp only
  rw [show d.badWords ls = [] from wordsWhere_unowned hf, show d.fixWords ls = [] from wordsWhere_unowned hf]
  unfold Dev.readLines
  dsimp only
  refine .trans ?_ ((Dev.meter_tallied _ _ _ _).obj.mono fun _ => .inl)
  refine List.foldlRecOn (motive := fun a : Bool × Dev => Dev.ObjsBut hbmKey d a.2) _ _ (.refl d) fun a ha n hn => ?_
  obtain ⟨x, hm, rfl⟩ := mem_hbmLines hn
  have := hx x hm
  exact ha.trans (a.2.readLine_hbmKeys (stack_lt (by omega)) s)

theorem Dev.slot_hbmKeys (d : Dev) (e : Eng) (i : Nat) : Dev.ObjsBut hbmKey d (d.slot e i).2 := by
  unfold Dev.slot
  split
  · exact .refl d
  split
  · exact .refl d
  dsimp only
  unfold Dev.readWin
  split
  · exact .refl d
  next ls hls =>
    split
    · exact .refl d
    next hf =>
      refine d.readRun_hbmKeys _ _ (Bool.eq_false_iff.mpr hf) fun x hx => ?_
      obtain ⟨j, hj⟩ := (Dev.xlateRun_ok hls).2 _ hx
      exact Dev.xlate_hbm_lt hj

theorem Dev.advance_hbmKeys (d : Dev) {e : Eng} (he : e.Inside) (n : Nat) : Dev.ObjsBut hbmKey d (d.advance e n) := by
  unfold Dev.advance
  extract_lets d1 x
  have h1 : Dev.ObjsBut hbmKey d d1 := Dev.ObjsBut.foldl _ _ (fun d _ _ => d.slot_hbmKeys e _) d
  generalize hx : EngCtx.mk _ _ _ _ _ _ _ _ _ _ _ _ _ _ _ _ _ _ _ = y
  exact (h1.trans (.of_objs (d1.setCtx_objs e y))).trans ((Dev.engCount_tallied _ he.1 (by decide) 1).obj.mono fun _ => .inl)

/-! ## Commands in flight -/

/-- An engine without a command in flight that takes up `f` with its slots. -/
theorem Dev.started {d a t : Dev} {e : Eng} {c : Cmd} {n : Nat} {f : InFlight} (hx : a.ctx e = d.ctx e) (hb : (d.ctx e).busy = [])
    (ht : t.ctx e = ((a.setCtx e { a.ctx e with busy := (a.ctx e).busy ++ [f] }).advance e n).ctx e)
    (hf : f.index = c.index ∧ f.op = c.op ∧ f.tick = c.w 1 ∧ f.sig = (if c.sigQ < 32 then c.sigQ else 255)) (i : Nat) :
    ∃ g, Started d (t.holdIssued e i) e c n g ∧ g.held = f.held := by
  obtain ⟨hp, hpop, -⟩ := (a.setCtx e { a.ctx e with busy := (a.ctx e).busy ++ [f] }).advance_ctx e n
  rw [← ht, Dev.ctx_setCtx_self] at hp
  rw [← ht] at hpop
  have hindex : (t.ctx e).index = (d.ctx e).index + n := by
    rw [← hx]
    exact (congrArg EngCtx.index hp :)
  have hbusy : (t.ctx e).busy = [f] := by
    have h : (t.ctx e).busy = (a.ctx e).busy ++ [f] := (congrArg EngCtx.busy hp :)
    rw [h, hx, hb]
    rfl
  have hm := t.holdIssued_marked e i
  obtain ⟨g, hg, hc⟩ := hm.ctx
  obtain ⟨h1, h2, h3, h4⟩ := hf
  have hi (k : InFlight) : (g k).index = k.index := (congrArg InFlight.index (hg k) :)
  have ho (k : InFlight) : (g k).op = k.op := (congrArg InFlight.op (hg k) :)
  have htick (k : InFlight) : (g k).tick = k.tick := (congrArg InFlight.tick (hg k) :)
  have hs (k : InFlight) : (g k).sig = k.sig := (congrArg InFlight.sig (hg k) :)
  refine ⟨g f, ⟨hm.index.trans hindex, hm.popped.trans hpop, by rw [hc, hbusy]; rfl, ?_⟩, hg f⟩
  rw [hi, ho, htick, hs]
  exact ⟨h1, h2, h3, h4⟩

theorem Dev.addSwatch_ctx (d : Dev) (e : Eng) (slot : Nat) (bs : List (Nat × Byte)) (f : Eng) : (d.addSwatch e slot bs).ctx f = d.ctx f := by
  unfold Dev.addSwatch Dev.ctx
  extract_lets q v
  by_cases h : f.p = e.p
  · rw [h, Dev.part_setPart_self]
    rfl
  · rw [Dev.part_setPart_ne _ _ h]
    rfl

theorem Dev.addSwatch_objs (d : Dev) (e : Eng) (slot : Nat) (bs : List (Nat × Byte)) : (d.addSwatch e slot bs).objs = d.objs := rfl

/-- UP_APPLY runs over its elements, and is then in flight behind its slots. -/
theorem Dev.applyRun_flies (d : Dev) (e : Eng) (c : Cmd) (n : Nat) (a : Apply) (h : Hyper) (prog : List Uop) (rs : List Loc) :
    ∃ (b : Dev) (f : InFlight), d.applyRun e c n a h prog rs =
        ((b.setCtx e { b.ctx e with busy := (b.ctx e).busy ++ [f] }).advance e n).trkTake e c.index (rs.map (fun l => (0, l))) ∧
      b.ctx e = d.ctx e ∧ f.index = c.index ∧ f.op = c.op ∧ f.tick = c.w 1 ∧ f.sig = (if c.sigQ < 32 then c.sigQ else 255) := by
  unfold Dev.applyRun
  extract_lets flagged outs st work0 work kept fresh unread d1
  have h1 : d1.ctx e = d.ctx e := by
    unfold d1
    split <;> rfl
  clear_value d1
  have h2 := d1.upRead_touched e c.index c.op rs
  generalize d1.upRead e c.index c.op rs = r at h2 ⊢
  obtain ⟨b0, d2⟩ := r
  dsimp -zeta only at h2 ⊢
  have h3 := d2.upWrite_touched e c.index c.op st
  generalize d2.upWrite e c.index c.op st = r at h3 ⊢
  obtain ⟨b1, d3⟩ := r
  dsimp -zeta only at h3 ⊢
  have h4 := d3.upWrite_touched e c.index c.op work
  generalize d3.upWrite e c.index c.op work = r at h4 ⊢
  obtain ⟨b2, d4⟩ := r
  dsimp -zeta only at h4 ⊢
  extract_lets d5 d6 status f0 f
  have h5 : d5.ctx e = d.ctx e := by
    have h4 : d4.ctx e = d.ctx e := by rw [h4.side.ctx, h3.side.ctx, h2.side.ctx, h1]
    unfold d5
    split
    · rw [Dev.addSwatch_ctx, h4]
    · exact h4
  exact ⟨d6, f, rfl, h5, rfl, rfl, rfl, rfl⟩

theorem Dev.applyRun_started {d d' : Dev} {e : Eng} {c : Cmd} {n : Nat} (hc : d'.ctx e = d.ctx e) (hb : (d.ctx e).busy = []) (a : Apply) (h : Hyper)
    (prog : List Uop) (rs : List Loc) : ∃ f, Started d ((d'.applyRun e c n a h prog rs).holdIssued e c.index) e c n f := by
  obtain ⟨b, f, ht, hctx, hf⟩ := d'.applyRun_flies e c n a h prog rs
  rw [ht]
  obtain ⟨g, hg, -⟩ := Dev.started (hctx.trans hc) hb ((Dev.trkTake_side _ _ _ _).1.ctx e) hf c.index
  exact ⟨g, hg⟩

section
variable {s : State} {u p op n : Nat} {c : Cmd} {d : Dev}

theorem upe_ok {u p : Nat} (h : (upe u p).ok = true) : u < 20 ∧ p < 16 := by
  have h : (decide (u < 20) && decide (p < 16)) = true := h
  simpa using h

theorem exec_upApply (h : Issues s (upe u p) op c n d) : exec (.upApply u p) s = .next (s.setDev (s.dev.upApply u p)) :=
  onUnit_next (f := fun d => d.upApply u p) (by simp [upe_ok h.unit]) h.live

theorem exec_upDerive (h : Issues s (upe u p) op c n d) : exec (.upDerive u p) s = .next (s.setDev (s.dev.upDerive u p)) :=
  onUnit_next (f := fun d => d.upDerive u p) (by simp [upe_ok h.unit]) h.live

end

/-- What UP_APPLY does once its operands are in place and its context is idle: the reads of its parameters come first. -/
def Dev.applyGo (d : Dev) (e : Eng) (c : Cmd) (n : Nat) (a : Apply) (rs : List Loc) (bad : Bool) : Dev :=
  if bad then d.reject e c n stECC else
  let h := d.hyper e a.hyper
  if a.opt ≠ 3 then d.applyRun e c n a h [] rs
  else if h.prog = 0 || h.plen = 0 || 32 < h.plen then d.reject e c n stRANGE
  else match d.upSpan e h.prog (4 * h.plen) with
    | .error st => d.reject e c n st
    | .ok pl =>
      let (bad, d) := d.upRead e c.index c.op pl
      if bad then d.reject e c n stECC else
      let prog := d.upProgram e h
      match d.upSpans e ((a.written prog).map (fun k => (a.base k, 4 * a.n)) ++ a.workSpans) with
      | .error st => d.reject e c n st
      | .ok wl =>
        if !prog.all (upUopOk a.has) || anyMeet wl then d.reject e c n stRANGE
        else d.applyRun e c n a h prog rs

section
variable {s : State} {u p n : Nat} {c : Cmd} {d d' : Dev} {es : List (List Nat)} {a : Apply} {rd wr : List (List Loc)} {hy : List Loc} {bad : Bool}

theorem Issues.upApply (h : Issues s (upe u p) 0x10 c n d) (hb : (d.ctx (upe u p)).busy = []) (hes : d.exts (upe u p) c n = (.ok es, d))
    (ha : a = decodeApply c es) (hok : a.fieldsOk = true) (hdec : d.beforeDecide (upe u p) (c.w 1) = false)
    (hrd : d.upSpans (upe u p) ((if a.reads 0 then [(a.grad, 68 * ceilDiv a.n 32)] else []) ++
      (if a.masked then [(a.mask, 4 * ceilDiv a.n 32)] else [])) = .ok rd)
    (hwr : d.upSpans (upe u p) ((if a.reads 1 then [(a.master, 4 * a.n)] else []) ++ a.slots.map (fun b => (b, a.ssz * a.n)) ++ a.workSpans) = .ok wr)
    (hhy : d.upSpan (upe u p) a.hyper 64 = .ok hy)
    (hmem : d.memWait (upe u p) ((rd.flatten ++ wr.flatten ++ hy).map (fun l => (0, l))) = none) (hmeet : a.opt = 3 ∨ anyMeet wr = false)
    (hread : d.upRead (upe u p) c.index c.op hy = (bad, d')) :
    s.dev.upApply u p = (d'.applyGo (upe u p) c n a (rd.flatten ++ (wr.take ((if a.reads 1 then 1 else 0) + a.slots.length)).flatten) bad).holdIssued
      (upe u p) c.index := by
  unfold Dev.upApply
  extract_lets e
  rw [h.issue]
  rw [hes]
  dsimp -zeta only
  extract_lets a' rdSpans wrSpans
  obtain rfl : a' = a := ha.symm
  rw [show d.upSpans e rdSpans = .ok rd from hrd, show d.upSpans e wrSpans = .ok wr from hwr, hhy]
  have hmust : must (a'.fieldsOk && !d.beforeDecide e (c.w 1)) stRANGE = .ok () := if_pos (by rw [hok, hdec]; rfl)
  rw [hmust]
  dsimp -zeta only [both]
  have hgo : ¬(decide (a'.opt ≠ 3) && anyMeet wr) = true := by
    rcases hmeet with h3 | hm
    · simp [h3]
    · simp [hm]
  rw [if_neg hgo, if_neg (by rw [hb]; decide), hmem]
  dsimp -zeta only
  rw [hread]
  rfl

end
theorem upRead_ctx {d d' : Dev} {e : Eng} {i o : Nat} {ls : List Loc} {bad : Bool} (h : d.upRead e i o ls = (bad, d')) (f : Eng) : d'.ctx f = d.ctx f := by
  have := (d.upRead_touched e i o ls).side.ctx f
  rwa [h] at this

/-- A refused command of an idle context leaves it idle, its slots behind it. -/
theorem Dev.reject_idle {d d' : Dev} {e : Eng} {c : Cmd} (hc : d'.ctx e = d.ctx e) (hb : (d.ctx e).busy = []) (n st i : Nat) :
    (((d'.reject e c n st).holdIssued e i).ctx e).index = (d.ctx e).index + n ∧ (((d'.reject e c n st).holdIssued e i).ctx e).busy = [] := by
  obtain ⟨g, -, hm⟩ := ((d'.reject e c n st).holdIssued_marked e i).ctx
  have hbusy : ((d'.reject e c n st).ctx e).busy = (d'.ctx e).busy := (congrArg EngCtx.busy (d'.endHead_ctx e c n st false (token st)).1 :)
  rw [hm]
  exact ⟨by rw [← hc]; exact d'.reject_index e c n st, by rw [hbusy, hc, hb]; rfl⟩

/-! ## UP_DERIVE (R327) -/

/-- What UP_DERIVE does once its operands are in place and its context is idle. -/
def Dev.deriveGo (d : Dev) (u : Nat) (e : Eng) (c : Cmd) (n : Nat) (v : Derive) (ml bl el sl : List Loc) (badMask : Bool) (work : List (Nat × Byte)) : Dev :=
  let (b0, d) := d.upRead e c.index c.op (if badMask then bl else bl ++ ml)
  let (b1, d) := d.upWrite e c.index c.op work
  let d := if v.swen && !badMask then d.addSwatch e v.swslot work else d
  let d := if badMask then d else d.cnt (K.UP_ELEMENTS u) (v.m * v.k)
  let status := if badMask then stSPARSE else if b0 || b1 then stECC else stOK
  let f := { d.inflight e c status 4 0 0 with grans := if v.swen && !badMask then [v.swslot] else [] }
  let x := d.ctx e
  ((d.setCtx e { x with busy := x.busy ++ [f] }).advance e n).trkTake e c.index ((bl ++ ml ++ el ++ sl).map (fun l => (0, l)))

section
variable {s : State} {u p n : Nat} {c : Cmd} {d : Dev} {es : List (List Nat)} {v : Derive} {ml bl el sl : List Loc}

theorem Issues.upDerive (h : Issues s (upe u p) 0x20 c n d) (hb : (d.ctx (upe u p)).busy = []) (hes : d.exts (upe u p) c n = (.ok es, d))
    (hv : v = decodeDerive c es)
    (hok : isMx v.fmt = true ∧ (if 2 ≤ v.kind then v.sparse ≠ 0 ∧ v.mask ≠ 0 else v.sparse = 0) ∧ v.master ≠ 0 ∧ v.dst ≠ 0 ∧ v.dscale ≠ 0)
    (hdec : d.beforeDecide (upe u p) (c.w 1) = false) (hml : d.upSpan (upe u p) v.master (4 * v.m * v.k) = .ok ml)
    (hbl : d.upSpan (upe u p) v.spans.2.2.1 v.spans.2.2.2 = .ok bl) (hel : d.upSpan (upe u p) v.spans.1.1 v.spans.1.2 = .ok el)
    (hsl : d.upSpan (upe u p) v.spans.2.1.1 v.spans.2.1.2 = .ok sl) (hmeet : locsMeet el sl = false)
    (hmem : d.memWait (upe u p) ((ml ++ bl ++ el ++ sl).map (fun l => (0, l))) = none) :
    ∃ badMask work, s.dev.upDerive u p = (d.deriveGo u (upe u p) c n v ml bl el sl badMask work).holdIssued (upe u p) c.index ∧
      (v.kind < 2 → badMask = false) := by
  unfold Dev.upDerive
  extract_lets e
  rw [h.issue]
  rw [hes]
  dsimp -zeta only
  extract_lets v' ok nb badMask work0 work
  obtain rfl : v' = v := hv.symm
  rcases hsp : v'.spans with ⟨⟨se1, se2⟩, ⟨ss1, ss2⟩, sm1, sm2⟩
  rw [hsp] at hbl hel hsl
  dsimp -zeta only at hbl hel hsl ⊢
  have hmust : must ok stRANGE = .ok () := by
    obtain ⟨h1, h2, h3, h4, h5⟩ := hok
    refine if_pos ?_
    unfold ok
    rw [h1, hdec]
    by_cases hk : 2 ≤ v'.kind
    · rw [if_pos hk] at h2
      simp [hk, h2, h3, h4, h5]
    · rw [if_neg hk] at h2
      simp [hk, h2, h3, h4, h5]
  rw [hmust, hml, hbl, hel, hsl]
  dsimp -zeta only [both]
  rw [if_neg (by rw [hmeet]; decide), if_neg (by rw [hb]; decide), hmem]
  exact ⟨badMask, work, rfl, fun hk => by simp [badMask, Nat.not_le.mpr hk]⟩

/-- A span of an update engine lies in the HBM of its own stack. -/
theorem upSpan_own {e : Eng} {a m : Nat} {ls : List Loc} (h : d.upSpan e a m = .ok ls) :
    ls.any Loc.foreign = false ∧ ∀ x, Loc.hbm x ∈ ls → x / chBytes / 16 = e.n := by
  unfold Dev.upSpan at h
  split at h
  · cases h
  split at h
  next hall =>
    cases h
    rw [List.all_eq_true] at hall
    refine ⟨List.any_eq_false.mpr fun l hl => ?_, fun x hx => by simpa using hall _ hx⟩
    have := hall l hl
    cases l with
    | hbm x => exact Bool.false_ne_true
    | acc x v => exact Bool.false_ne_true
    | sp c m o => cases this
    | far a => cases this
  next => cases h

end

theorem Dev.xlate_sp_lt {d : Dev} {w : Who} {a c m o : Nat} (h : d.xlate w a = .ok (.sp c m o)) : c < 64 := by
  unfold Dev.xlate at h
  extract_lets dev o r k p own e at h
  split at h
  · cases h
  split at h
  · split at h
    · cases h
    split at h
    · split at h <;> cases h
    split at h
    · cases h
    split at h
    · cases h
    next hu =>
      split at h
      · have hc : k = c := (Loc.sp.inj (Except.ok.inj h)).1
        simp only [Bool.or_eq_true, Bool.not_eq_true', decide_eq_true_eq, not_or, Bool.not_eq_false] at hu
        have hu := hu.1
        unfold Dev.coreUsable at hu
        simp only [Bool.and_eq_true, decide_eq_true_eq] at hu
        exact hc ▸ hu.1.1
      · cases h
  · split at h
    · cases h
    split at h
    · cases h
    split at h
    · split at h <;> cases h
    · split at h <;> cases h

theorem Dev.upWrite_tallied (d : Dev) (e : Eng) (i o : Nat) (bs : List (Nat × Byte)) : Dev.Tallied d (d.upWrite e i o bs).2 := by
  refine d.writeRun_tallied _ _ fun b hb k m x hsp => ?_
  obtain ⟨y, -, hy⟩ := List.mem_filterMap.mp hb
  split at hy
  next l hl =>
    cases hy
    obtain rfl : l = .sp k m x := hsp
    exact Dev.xlate_sp_lt hl
  next => cases hy

theorem upElements_free {u : Nat} (hu : u < 20) : ¬hbmKey (K.UP_ELEMENTS u).key := by
  rintro (h | h)
  · refine not_tallyKey ?_ h
    simp only [tallyShape, recordKey, K.UP_ELEMENTS]
    omega
  · simp only [K.UP_ELEMENTS] at h
    omega

section
variable {d : Dev} {u p n : Nat} {c : Cmd} {v : Derive} {ml bl el sl : List Loc} {work : List (Nat × Byte)} {badMask : Bool}

/-- UP_DERIVE is in flight behind its slots, and with a good bitmap its elements are counted. -/
theorem Dev.deriveGo_flies (hb : (d.ctx (upe u p)).busy = []) :
    ∃ f, Started d ((d.deriveGo u (upe u p) c n v ml bl el sl badMask work).holdIssued (upe u p) c.index) (upe u p) c n f := by
  unfold Dev.deriveGo
  have h1 := d.upRead_touched (upe u p) c.index c.op (if badMask then bl else bl ++ ml)
  generalize d.upRead (upe u p) c.index c.op (if badMask then bl else bl ++ ml) = r at h1 ⊢
  obtain ⟨b0, d1⟩ := r
  dsimp -zeta only at h1 ⊢
  have h2 := d1.upWrite_touched (upe u p) c.index c.op work
  generalize d1.upWrite (upe u p) c.index c.op work = r at h2 ⊢
  obtain ⟨b1, d2⟩ := r
  dsimp -zeta only at h2 ⊢
  extract_lets d3 d4 status f0 f
  have h3 : d3.ctx (upe u p) = d.ctx (upe u p) := by
    have h2 : d2.ctx (upe u p) = d.ctx (upe u p) := by rw [h2.side.ctx, h1.side.ctx]
    unfold d3
    split
    · rw [Dev.addSwatch_ctx, h2]
    · exact h2
  have h4 : d4.ctx (upe u p) = d.ctx (upe u p) := by
    unfold d4
    split <;> exact h3
  obtain ⟨g, hg, -⟩ := Dev.started (a := d4) (c := c) (n := n) (f := f) h4 hb ((Dev.trkTake_side _ (upe u p) c.index _).1.ctx (upe u p)) ⟨rfl, rfl, rfl, rfl⟩ c.index
  exact ⟨g, hg⟩

theorem Dev.deriveGo_counts (hu : u < 20) (he : (upe u p).Inside)
    (hls : (bl ++ ml).any Loc.foreign = false ∧ ∀ x, Loc.hbm x ∈ bl ++ ml → x / chBytes / 16 = u) :
    (d.deriveGo u (upe u p) c n v ml bl el sl false work).get (K.UP_ELEMENTS u) = addSat 64 (d.get (K.UP_ELEMENTS u)) (v.m * v.k) := by
  have hfree := upElements_free hu
  have hfree' : ¬tallyKey (K.UP_ELEMENTS u).key := fun h => hfree (.inl h)
  unfold Dev.deriveGo
  have h1 : (d.upRead (upe u p) c.index c.op (if false = true then bl else bl ++ ml)).2.get (K.UP_ELEMENTS u) = d.get (K.UP_ELEMENTS u) :=
    d.readRun_hbmKeys _ 0 hls.1 (fun x hx => by
      have := hls.2 x hx
      unfold chBytes at this
      omega) _ hfree
  generalize d.upRead (upe u p) c.index c.op (if false = true then bl else bl ++ ml) = r at h1 ⊢
  obtain ⟨b0, d1⟩ := r
  dsimp -zeta only at h1 ⊢
  have h2 : (d1.upWrite (upe u p) c.index c.op work).2.get (K.UP_ELEMENTS u) = d1.get (K.UP_ELEMENTS u) := (d1.upWrite_tallied _ _ _ _).obj _ hfree'
  generalize d1.upWrite (upe u p) c.index c.op work = r at h2 ⊢
  obtain ⟨b1, d2⟩ := r
  dsimp -zeta only at h2 ⊢
  extract_lets d3 d4 status f0 f
  have h3 : d3.get (K.UP_ELEMENTS u) = d2.get (K.UP_ELEMENTS u) := by
    unfold d3
    split <;> rfl
  have h4 : d4.get (K.UP_ELEMENTS u) = addSat 64 (d3.get (K.UP_ELEMENTS u)) (v.m * v.k) := Dev.get_put_self _ _ _
  rw [(Dev.trkTake_side _ _ _ _).2 _ (by simp only [K.UP_ELEMENTS]; omega), Dev.advance_hbmKeys _ he n _ hfree, Dev.get_setCtx, h4, h3, h2, h1]

end

/-- Settles O54: the checks lead to `Dev.applyGo` and `Dev.deriveGo`, whose ends are runs behind their slots, or a refusal. -/
theorem updatesIssue : Obligations.UpdatesIssue := by
  refine ⟨?_, ?_⟩
  · intro s u p c n d d' es a rd wr hy rs bad h hb hes ha hok hdec hrd hwr hhy hmem hread hrs
    have hup (hmeet : a.opt = 3 ∨ anyMeet wr = false) := h.upApply hb hes ha hok hdec hrd hwr hhy hmem hmeet hread
    have hctx := upRead_ctx hread (upe u p)
    subst hrs
    refine ⟨fun hopt hmeet hbad => ?_, fun hh pl d2 wl hopt hbad hheq hprog hlo hhi hpl hread2 hwl hall hmeet => ?_, fun hmeet hbad => ?_⟩
    · have hup := hup (.inr hmeet)
      rw [hbad, Dev.applyGo, if_neg Bool.false_ne_true, if_pos hopt] at hup
      obtain ⟨f, hf⟩ := Dev.applyRun_started hctx hb (n := n) (c := c) a (d'.hyper (upe u p) a.hyper) []
        (rd.flatten ++ (wr.take ((if a.reads 1 then 1 else 0) + a.slots.length)).flatten)
      refine ⟨_, f, exec_upApply h, s.setDev_pending _, s.setDev_sec _, ?_, ?_⟩ <;> rw [State.setDev_dev, hup]
      exact hf
    · have hup := hup (.inl hopt)
      have hcond : ¬(decide (hh.prog = 0) || decide (hh.plen = 0) || decide (32 < hh.plen)) = true := by
        simp only [Bool.or_eq_true, decide_eq_true_eq]
        omega
      have hchk : ¬(!(d2.upProgram (upe u p) hh).all (upUopOk a.has) || anyMeet wl) = true := by simp [hall, hmeet]
      rw [hbad, Dev.applyGo, if_neg Bool.false_ne_true, if_neg (by simp [hopt]), ← hheq, if_neg hcond, hpl] at hup
      dsimp only at hup
      rw [hread2] at hup
      dsimp only at hup
      rw [if_neg Bool.false_ne_true, hwl] at hup
      dsimp only at hup
      rw [if_neg hchk] at hup
      obtain ⟨f, hf⟩ := Dev.applyRun_started ((upRead_ctx hread2 (upe u p)).trans hctx) hb (n := n) (c := c) a hh (d2.upProgram (upe u p) hh)
        (rd.flatten ++ (wr.take ((if a.reads 1 then 1 else 0) + a.slots.length)).flatten)
      refine ⟨_, f, exec_upApply h, s.setDev_pending _, s.setDev_sec _, ?_, ?_⟩ <;> rw [State.setDev_dev, hup]
      exact hf
    · have hup := hup hmeet
      rw [hbad, Dev.applyGo, if_pos rfl] at hup
      refine ⟨_, exec_upApply h, s.setDev_pending _, s.setDev_sec _, ?_⟩
      rw [State.setDev_dev, hup]
      exact Dev.reject_idle hctx hb n stECC c.index
  · intro s u p c n d es v ml bl el sl h hb hes hv hmx hkind hm hd hs hdec hml hbl hel hsl hmeet hmem
    obtain ⟨badMask, work, hx, hgood⟩ := h.upDerive hb hes hv ⟨hmx, hkind, hm, hd, hs⟩ hdec hml hbl hel hsl hmeet hmem
    have hok := upe_ok h.unit
    obtain ⟨f, hf⟩ := Dev.deriveGo_flies (n := n) (c := c) (v := v) (ml := ml) (bl := bl) (el := el) (sl := sl) (work := work) (badMask := badMask) hb
    refine ⟨_, f, exec_upDerive h, s.setDev_pending _, s.setDev_sec _, ?_, fun hk => ?_⟩ <;> rw [State.setDev_dev, hx]
    · exact hf
    · rw [hgood hk, (Dev.holdIssued_marked _ _ _).obj]
      obtain ⟨hf1, hx1⟩ := upSpan_own hbl
      obtain ⟨hf2, hx2⟩ := upSpan_own hml
      refine Dev.deriveGo_counts hok.1 (Eng.inside_of_ok h.unit) ⟨by rw [List.any_append, hf1, hf2]; rfl, fun x hx => ?_⟩
      exact (List.mem_append.mp hx).elim (hx1 x) (hx2 x)

end Sys2Proof.Machine
end

section
/-! Proofs: VX_EP and VX_CVT issue with what their words spell, wait under a reservation, or end unissued (R220 to R227, R229). -/
namespace Sys2Proof.Machine

theorem Issues.undelayed {s : State} {e : Eng} {op n : Nat} {c : Cmd} {d : Dev} (h : Issues s e op c n d) : d.memDelay = 0 := by
  obtain ⟨-, -, ⟨d', -, rfl⟩, -, -⟩ := h
  rfl

theorem Dev.setCtx_memDelay (d : Dev) (e : Eng) (x : EngCtx) : (d.setCtx e x).memDelay = d.memDelay := by
  unfold Dev.setCtx
  split
  · rfl
  · split <;> rfl

/-- A command that waits for a reservation of the array leaves the cause alone. -/
theorem Issues.waits {s : State} {e : Eng} {op n : Nat} {c : Cmd} {d : Dev} (h : Issues s e op c n d) (w i : Nat) :
    (d.setWhy e w).holdIssued e i = d.setWhy e w :=
  if_pos ((d.setCtx_memDelay e _).trans h.undelayed)

/-- An accepted command of the vector engine: in flight behind its slots, as a job of which no beat has run. -/
structure Dev.VxBegun (d t : Dev) (k : Nat) (c : Cmd) (n : Nat) (j : VxJob) (space off cost : Nat) : Prop where
  flies : ∃ f, Started d t (eng 2 k) c n f ∧ f.space = space ∧ f.offset = off ∧ f.cost = cost
  sp : (t.core k).sp = (d.core k).sp
  job : ∃ o, (t.core k).vx = some { j with overlap := o }

theorem Dev.vxStart_begun {d a : Dev} {k n : Nat} {c : Cmd} (hc : a.ctx (eng 2 k) = d.ctx (eng 2 k)) (hsp : (a.core k).sp = (d.core k).sp)
    (hb : (d.ctx (eng 2 k)).busy = []) (j : VxJob) (space off cost : Nat) (spans : List (Nat × Span)) (i : Nat) :
    Dev.VxBegun d ((a.vxStart k c n j space off cost spans).holdIssued (eng 2 k) i) k c n j space off cost := by
  unfold Dev.vxStart
  extract_lets e x f0 f y
  generalize hk : ({ x with vx := some { j with overlap := !x.passes.isEmpty } } : Core) = x'
  have hx : (a.setCore k x').ctx e = y := Dev.ctx_setCore a k (by rw [← hk]) e
  have hs := ((Dev.Spared.setCtx (a.setCore k x') e { y with busy := y.busy ++ [f] }).trans (.advance _ e n)).trans (Dev.holdIssued_spared _ e i)
  obtain ⟨g, hg, hh⟩ := Dev.started (d := d) (a := a.setCore k x') (c := c) (n := n) (f := f)
    (t := ((a.setCore k x').setCtx e { y with busy := y.busy ++ [f] }).advance e n) (hx.trans hc) hb (by rw [hx]) ⟨rfl, rfl, rfl, rfl⟩ i
  refine ⟨⟨g, hg, ?_, ?_, ?_⟩, ?_, !x.passes.isEmpty, ?_⟩
  · exact (congrArg InFlight.space hh :)
  · exact (congrArg InFlight.offset hh :)
  · exact (congrArg InFlight.cost hh :)
  · rw [hs.sp, Dev.core_setCore_self, ← hk]
    exact hsp
  · rw [hs.vx, Dev.core_setCore_self, ← hk]

theorem Dev.spFix_sp (d : Dev) (k : Nat) (keys : List Nat) : ((d.spFix k keys).core k).sp = (d.core k).sp :=
  (Dev.Repaired.foldl (c := k) _ _ (fun d _ => d.spCorrected_repaired k _ _) d).sp

section
variable {s : State} {k op n : Nat} {c : Cmd} {d : Dev}

theorem exec_vxEp (h : Issues s (eng 2 k) op c n d) : exec (.vxEp k) s = .next (s.setDev (s.dev.vxEp k)) :=
  onUnit_next (f := fun d => d.vxEp k) (decide_eq_true (Eng.inside_of_ok h.unit).1) h.live

theorem exec_vxCvt (h : Issues s (eng 2 k) op c n d) : exec (.vxCvt k) s = .next (s.setDev (s.dev.vxCvt k)) :=
  onUnit_next (f := fun d => d.vxCvt k) (decide_eq_true (Eng.inside_of_ok h.unit).1) h.live

/-- VX_EP whose slots are its own does what its decoded words say. -/
theorem Issues.vxEp {es : List (List Nat)} (h : Issues s (eng 2 k) 0x10 c n d) (hb : (d.ctx (eng 2 k)).busy = [])
    (hes : d.exts (eng 2 k) c n = (.ok es, d)) :
    s.dev.vxEp k = (match (d.core k).epDecode c es with
      | .error (st, some w) => (d.spRecord k (w / 0x20000) 2 (w % 0x20000) 1 c.index c.op).reject (eng 2 k) c n st
      | .error (st, none) => d.reject (eng 2 k) c n st
      | .ok x => if (d.core k).holds (epReads x.ops x.prog (d.core k).vlen x.rows) (epWrites x.ops x.prog (d.core k).vlen x.rows)
          then d.setWhy (eng 2 k) (heldWhy k) else d.epStart k c n es x).holdIssued (eng 2 k) c.index := by
  unfold Dev.vxEp
  extract_lets e
  rw [h.issue]
  rw [if_neg (by rw [hb]; decide), hes] <;> rfl

/-- VX_CVT does what its decoded words say. -/
theorem Issues.vxCvt (h : Issues s (eng 2 k) 0x20 c n d) (hb : (d.ctx (eng 2 k)).busy = []) :
    s.dev.vxCvt k = (match cvtDecode (d.core k).vlen c with
      | none => d.reject (eng 2 k) c n stRANGE
      | some x => if (d.core k).holds (x.src.spans x.rows (d.core k).vlen) (x.dst.spans x.rows (d.core k).vlen)
          then d.setWhy (eng 2 k) (heldWhy k) else d.cvtStart k c n x).holdIssued (eng 2 k) c.index := by
  unfold Dev.vxCvt
  extract_lets e
  rw [h.issue]
  rw [if_neg (by rw [hb]; decide)] <;> rfl

/-- A refusal writes no byte, and leaves the engine idle. -/
theorem vx_refused {a : Dev} (hc : a.ctx (eng 2 k) = d.ctx (eng 2 k)) (hsp : (a.core k).sp = (d.core k).sp) (hb : (d.ctx (eng 2 k)).busy = [])
    (st i : Nat) : (((a.reject (eng 2 k) c n st).holdIssued (eng 2 k) i).core k).sp = (d.core k).sp ∧
      (((a.reject (eng 2 k) c n st).holdIssued (eng 2 k) i).ctx (eng 2 k)).index = (d.ctx (eng 2 k)).index + n ∧
      (((a.reject (eng 2 k) c n st).holdIssued (eng 2 k) i).ctx (eng 2 k)).busy = [] :=
  ⟨by rw [((Dev.Spared.reject a (eng 2 k) c n st).trans (Dev.holdIssued_spared _ _ _)).sp, hsp], Dev.reject_idle hc hb n st i⟩

theorem epStart_begun (hb : (d.ctx (eng 2 k)).busy = []) {es : List (List Nat)} {x : EpCall} (hx : (d.core k).epDecode c es = .ok x) (i : Nat) :
    ∃ j space off, Dev.VxBegun d ((d.epStart k c n es x).holdIssued (eng 2 k) i) k c n j space off (epCost x.ops x.prog x.f (d.core k).vlen x.rows) ∧
      (∀ o, VxJob.call { j with overlap := o } = .ep x) ∧ j.next = 0 ∧ j.part = [] ∧ j.vlen = (d.core k).vlen := by
  unfold Dev.epStart
  extract_lets y low j
  refine ⟨j, _, _, Dev.vxStart_begun ?_ (d.spFix_sp k _) hb j _ _ _ _ i, fun o => ?_, rfl, rfl, rfl⟩
  · exact Dev.Side.ctx (.foldl _ _ (fun d _ => d.spCorrected_side _ _ _) d) _
  · refine congrArg VxCall.ep ?_
    unfold Core.epDecode at hx
    extract_lets nopd len ps pb offs call zb zo at hx
    split at hx
    · cases hx
    split at hx
    · split at hx <;> cases hx
    · split at hx
      · rw [← Except.ok.inj hx]
        show epCall (epWordsOf c es) ((d.core k).progWords c) c.waitQ c.handle = epCall (epWordsOf c es) (offs.map (fun o => (d.core k).le ps o 4)) c.waitQ c.handle
        unfold Core.progWords offs
        rw [List.map_map]
        rfl
      · cases hx

theorem cvtStart_begun (hb : (d.ctx (eng 2 k)).busy = []) (x : CvtCall) (i : Nat) :
    ∃ j, Dev.VxBegun d ((d.cvtStart k c n x).holdIssued (eng 2 k) i) k c n j x.dst.space x.dst.base
        (16 + 2 * (x.grid (d.core k).vlen).1 * ceilDiv (x.grid (d.core k).vlen).2 256) ∧ j.next = 0 ∧ j.vlen = (d.core k).vlen :=
  ⟨_, Dev.vxStart_begun rfl rfl hb _ _ _ _ _ i, rfl, rfl⟩

end

/-- Settles O51: what the words decode to decides between a wait, a job in flight and a refusal. -/
theorem vectorIssues : Obligations.VectorIssues := by
  refine ⟨fun s k c n d es h hb hes => ⟨fun x hx => ⟨fun hheld => ?_, fun hfree => ?_⟩, fun st o hx => ?_⟩,
    fun s k c n d h hb => ⟨fun x hx => ⟨fun hheld => ?_, fun hfree => ?_⟩, fun hx => ?_⟩⟩
  · have hd := h.vxEp hb hes
    rw [hx] at hd
    dsimp only at hd
    rw [if_pos hheld, h.waits] at hd
    rw [exec_vxEp h, hd]
  · have hd := h.vxEp hb hes
    rw [hx] at hd
    dsimp only at hd
    rw [if_neg (by rw [hfree]; exact Bool.false_ne_true)] at hd
    obtain ⟨j, space, off, hbeg, hcall, hnext, hpart, hlen⟩ := epStart_begun (n := n) hb hx c.index
    obtain ⟨f, hf, -, -, hcost⟩ := hbeg.flies
    obtain ⟨o, ho⟩ := hbeg.job
    refine ⟨_, f, { j with overlap := o }, exec_vxEp h, s.setDev_pending _, s.setDev_sec _, ?_⟩
    rw [State.setDev_dev, hd]
    exact ⟨hf, hcost, hbeg.sp, ho, hcall o, hnext, hpart, hlen⟩
  · have hd := h.vxEp hb hes
    rw [hx] at hd
    refine ⟨_, exec_vxEp h, s.setDev_pending _, s.setDev_sec _, ?_⟩
    rw [State.setDev_dev, hd]
    cases o with
    | none => exact vx_refused rfl rfl hb st c.index
    | some w =>
      have hc := (d.spRecordEcc_side k (w / 0x20000) 2 (w % 0x20000) 1 c.index c.op 3).ctx (eng 2 k)
      have hsp : ((d.spRecord k (w / 0x20000) 2 (w % 0x20000) 1 c.index c.op).core k).sp = (d.core k).sp :=
        (Dev.Spared.of_cores (d.spRecordEcc_cores k (w / 0x20000) 2 (w % 0x20000) 1 c.index c.op 3)).sp k
      exact vx_refused hc hsp hb st c.index
  · have hd := h.vxCvt hb
    rw [hx] at hd
    dsimp only at hd
    rw [if_pos hheld, h.waits] at hd
    rw [exec_vxCvt h, hd]
  · have hd := h.vxCvt hb
    rw [hx] at hd
    dsimp only at hd
    rw [if_neg (by rw [hfree]; exact Bool.false_ne_true)] at hd
    obtain ⟨j, hbeg, hnext, hlen⟩ := cvtStart_begun (n := n) (c := c) hb x c.index
    obtain ⟨f, hf, hspace, hoff, hcost⟩ := hbeg.flies
    obtain ⟨o, ho⟩ := hbeg.job
    refine ⟨_, f, { j with overlap := o }, exec_vxCvt h, s.setDev_pending _, s.setDev_sec _, ?_⟩
    rw [State.setDev_dev, hd]
    exact ⟨hf, hspace, hoff, hcost, hbeg.sp, ho, hnext, hlen⟩
  · have hd := h.vxCvt hb
    rw [hx] at hd
    refine ⟨_, exec_vxCvt h, s.setDev_pending _, s.setDev_sec _, ?_⟩
    rw [State.setDev_dev, hd]
    exact vx_refused rfl rfl hb stRANGE c.index

end Sys2Proof.Machine
end

section
/-! Proofs: what a command's reads, its tracker entries and its engine's bookkeeping leave of memory: every byte of HBM and of the accumulation
areas as it lay. -/
namespace Sys2Proof.Machine

/-- `b` is `a` with every byte of HBM and of the accumulation areas as it lies. -/
def Dev.Stored (a b : Dev) : Prop := b.mem.cells = a.mem.cells ∧ b.mem.acc = a.mem.acc

namespace Dev.Stored

variable {a b c : Dev}

theorem of_mem (h : b.mem = a.mem) : Dev.Stored a b := ⟨congrArg Mem.cells h, congrArg Mem.acc h⟩
theorem refl (a : Dev) : Dev.Stored a a := of_mem rfl
theorem trans (h : Dev.Stored a b) (g : Dev.Stored b c) : Dev.Stored a c := ⟨g.1.trans h.1, g.2.trans h.2⟩
theorem sent (h : Dev.Sent a b) : Dev.Stored a b := of_mem (by rw [show b = _ from h])
theorem ite (p : Prop) [Decidable p] (h : p → Dev.Stored a b) (h' : ¬p → Dev.Stored a c) : Dev.Stored a (if p then b else c) := by
  split
  · exact h ‹_›
  · exact h' ‹_›
theorem foldl_of {α β : Type} (g : α → Dev) (f : α → β → α) (l : List β) (h : ∀ x y, Dev.Stored (g x) (g (f x y))) (x : α) :
    Dev.Stored (g x) (g (l.foldl f x)) :=
  List.foldlRecOn (motive := fun y => Dev.Stored (g x) (g y)) l f (refl _) fun y hy z _ => hy.trans (h y z)
theorem foldl {β : Type} (f : Dev → β → Dev) (l : List β) (h : ∀ d x, Dev.Stored d (f d x)) (d : Dev) : Dev.Stored d (l.foldl f d) :=
  foldl_of id f l h d
theorem setMem (d : Dev) {m : Mem} (h : m.cells = d.mem.cells) (h' : m.acc = d.mem.acc) : Dev.Stored d { d with mem := m } := ⟨h, h'⟩
theorem put (d : Dev) (o : Obj) (v : Nat) : Dev.Stored d (d.put o v) := of_mem rfl
theorem cnt (d : Dev) (o : Obj) (n : Nat) : Dev.Stored d (d.cnt o n) := of_mem rfl
theorem setCore (d : Dev) (i : Nat) (x : Core) : Dev.Stored d (d.setCore i x) := of_mem rfl
theorem setPart (d : Dev) (p : Nat) (x : Part) : Dev.Stored d (d.setPart p x) := of_mem rfl
theorem file (d : Dev) (i : RecInfo) : Dev.Stored d (d.file i) := sent (d.file_sent i)

theorem setCtx (d : Dev) (e : Eng) (x : EngCtx) : Dev.Stored d (d.setCtx e x) := by
  unfold Dev.setCtx
  split
  · exact .refl d
  · split <;> exact .refl d

theorem setPlan (d : Dev) (e : Eng) (p : Option Plan) : Dev.Stored d (d.setPlan e p) := setCore d _ _
theorem setFlight (d : Dev) (e : Eng) (f : InFlight) : Dev.Stored d (d.setFlight e f) := setCtx d e _

/-! ## Reads -/

variable (d : Dev)

theorem stain (kind unit p : Nat) : Dev.Stored d (d.stain kind unit p).2.2 := by
  unfold Dev.stain
  refine foldl_of (fun a : Nat × Nat × Dev => a.2.2) _ _ (fun x y => ?_) (0, 0, d)
  dsimp only
  split <;> exact of_mem rfl

theorem meter (p : Nat) (w : Bool) (n : Nat) : Dev.Stored d (d.meter p w n) := by
  unfold Dev.meter Dev.charge
  exact .ite _ (fun _ => .refl d) fun _ => .ite _ (fun _ => .refl d) fun _ =>
    .ite _ (fun _ => of_mem rfl) fun _ => .ite _ (fun _ => of_mem rfl) fun _ => of_mem rfl

theorem cacheTouch (line : Nat) (w al : Bool) (m : Nat) : Dev.Stored d (d.cacheTouch line w al m) := by
  unfold Dev.cacheTouch
  extract_lets k own q base tree putLine d1 d2 pages allowed free way victim d3
  have h2 : Dev.Stored d d2 := .ite _ (fun _ => cnt d _ _) fun _ => cnt d _ _
  have h3 : Dev.Stored d d3 := h2.trans (.ite _ (fun _ => ⟨rfl, rfl⟩) fun _ => .refl _)
  split
  · exact .refl d
  split
  · exact ⟨rfl, rfl⟩
  split
  · exact h2
  · exact h3.trans ⟨rfl, rfl⟩

theorem hbmRecord (kind x st p idx op : Nat) : Dev.Stored d (d.hbmRecord kind x st p idx op) := by
  unfold Dev.hbmRecord
  extract_lets k o syn d1
  exact (put d _ _).trans (file d1 _)

theorem lineLost (line kind p idx op : Nat) : Dev.Stored d (d.lineLost line kind p idx op) := by
  unfold Dev.lineLost
  extract_lets m d1
  have h1 : Dev.Stored d d1 := setMem d rfl rfl
  exact (h1.trans (cnt d1 _ _)).trans (hbmRecord _ _ _ _ _ _ _)

theorem lineCorrected (line p idx op : Nat) : Dev.Stored d (d.lineCorrected line p idx op) := by
  unfold Dev.lineCorrected
  extract_lets d1 m d2 m2
  have h2 : Dev.Stored d d2 := (cnt d _ _).trans (setMem d1 rfl rfl)
  exact .ite _ (fun _ => h2.trans (hbmRecord d2 _ _ _ _ _ _)) fun _ => h2.trans (setMem d2 rfl rfl)

theorem lineMet (line p idx op : Nat) (f : Finding) : Dev.Stored d (d.lineMet line p idx op f).2 := by
  unfold Dev.lineMet
  split
  · exact lineLost d _ _ _ _ _
  split
  · exact lineLost d _ _ _ _ _
  split
  · exact lineCorrected d _ _ _ _
  · exact cnt d _ _
  · exact .refl d

theorem readLine (s : Iss) (line : Nat) : Dev.Stored d (d.readLine s line).2 := by
  unfold Dev.readLine
  extract_lets f r
  have hr : Dev.Stored d r.2.2 := (cacheTouch d _ _ _ _).trans (stain _ _ _ _)
  have hn : Dev.Stored r.2.2 (r.2.2.noteDelay r.2.1) := of_mem rfl
  exact (hr.trans hn).trans (lineMet _ _ _ _ _ _)

theorem readLines (s : Iss) (ls : List Loc) : Dev.Stored d (d.readLines s ls).2.2 := by
  unfold Dev.readLines
  dsimp only
  refine trans ?_ (meter _ _ _ _)
  refine foldl_of (fun a : Bool × Dev => a.2) _ _ (fun a ln => ?_) (false, d)
  exact readLine a.2 s ln

theorem spRecordEcc (c mem kind word e idx op ecc : Nat) : Dev.Stored d (d.spRecordEcc c mem kind word e idx op ecc) := by
  unfold Dev.spRecordEcc
  extract_lets syn d1
  have h1 : Dev.Stored d d1 := .ite _ (fun _ => cnt d _ _) fun _ => .refl d
  exact (h1.trans (file d1 _)).trans (put _ _ _)

theorem spCorrected (c mem word : Nat) : Dev.Stored d (d.spCorrected c mem word) := by
  unfold Dev.spCorrected
  extract_lets k key d1
  have h1 : Dev.Stored d d1 := of_mem rfl
  split
  · exact h1.trans (trans (b := (d1.draw 8).2) (of_mem rfl) (spRecordEcc _ _ _ _ _ _ _ _ _))
  · exact h1

theorem spFix (c : Nat) (keys : List Nat) : Dev.Stored d (d.spFix c keys) := foldl _ _ (fun d _ => spCorrected d _ _ _) d

theorem spMet (s : Iss) (e : Nat) (ws : List (Nat × Nat × Nat)) : Dev.Stored d (d.spMet s e ws) :=
  foldl _ _ (fun d _ => spRecordEcc d _ _ _ _ _ _ _ _) d

theorem readRun (s : Iss) (e : Nat) (ls : List Loc) : Dev.Stored d (d.readRun s e ls).2.2 := by
  unfold Dev.readRun
  dsimp only
  exact ((readLines d s ls).trans (spMet _ _ _ _)).trans (foldl _ _ (fun d _ => spCorrected d _ _ _) _)

theorem readWin (s : Iss) (w : Who) (a n : Nat) : Dev.Stored d (d.readWin s w a n).2 := by
  unfold Dev.readWin
  split
  · exact .refl d
  split
  · exact .refl d
  · exact readRun d _ _ _

theorem slot (e : Eng) (i : Nat) : Dev.Stored d (d.slot e i).2 := by
  unfold Dev.slot
  split
  · exact .refl d
  split
  · exact .refl d
  · exact readWin d _ _ _ _

/-! ## The bookkeeping of an engine -/

theorem engCount (e : Eng) (sub n : Nat) : Dev.Stored d (d.engCount e sub n) := by
  unfold Dev.engCount
  extract_lets d1 p
  have h1 : Dev.Stored d d1 := cnt d _ _
  exact .ite _ (fun _ => h1.trans (cnt d1 _ _)) fun _ => h1

theorem takeSlots (e : Eng) (n : Nat) : Dev.Stored d (d.takeSlots e n) := foldl _ _ (fun d _ => slot d e _) d

theorem advance (e : Eng) (n : Nat) : Dev.Stored d (d.advance e n) := by
  unfold Dev.advance
  extract_lets d1 x
  exact ((takeSlots d e n).trans (setCtx d1 e _)).trans (engCount _ e _ _)

theorem trkNote (q : Nat) (t : TrkEnt) : Dev.Stored d (d.trkNote q t) := by
  unfold Dev.trkNote
  extract_lets m d1 used
  have h1 : Dev.Stored d d1 := setMem d rfl rfl
  exact .ite _ (fun _ => h1.trans (put d1 _ _)) fun _ => h1

theorem trkTake (e : Eng) (i : Nat) (ps : List Place) : Dev.Stored d (d.trkTake e i ps) := by
  unfold Dev.trkTake
  refine foldl _ _ (fun y q => ?_) d
  extract_lets cls most
  by_cases hm : most ≤ 1
  · rw [if_pos hm]
    exact trkNote y q _
  · rw [if_neg hm]
    have hd : Dev.Stored y (y.draw 16).2 := of_mem rfl
    exact hd.trans (trkNote (y.draw 16).2 q { code := waitCode e, index := i, cls := cls, quad := q, n := 1 + (y.draw 16).1 % most })

theorem holdIssued (e : Eng) (i : Nat) : Dev.Stored d (d.holdIssued e i) := by
  unfold Dev.holdIssued
  extract_lets t mark x d1
  refine .ite _ (fun _ => .refl d) fun _ => ?_
  have h1 : Dev.Stored d d1 := setCtx d e _
  exact .ite _ (fun _ => h1.trans (of_mem rfl)) fun _ => h1

end Dev.Stored

/-- Tracker entries leave the cores as they are. -/
theorem Dev.trkTake_cores (d : Dev) (e : Eng) (i : Nat) (ps : List Place) : (d.trkTake e i ps).cores = d.cores := by
  unfold Dev.trkTake
  refine Dev.foldl_cores id _ _ (fun y q => ?_) d
  extract_lets cls most
  have note (z : Dev) (n : Nat) : (z.trkNote q { code := waitCode e, index := i, cls := cls, quad := q, n := n }).cores = z.cores := by
    unfold Dev.trkNote
    dsimp only
    split <;> rfl
  by_cases hm : most ≤ 1
  · rw [if_pos hm]
    exact note y most
  · rw [if_neg hm]
    exact note (y.draw 16).2 (1 + (y.draw 16).1 % most)

end Sys2Proof.Machine
end

section
/-! Proofs: a move or a gather in flight with its plan (R145, R256, R257): what the plan's reads and writes leave, and when nothing of it remains. -/
namespace Sys2Proof.Machine

/-! ## A flight that goes on -/

/-- What names a flight for its completion. -/
def InFlight.name (f : InFlight) : Nat × Nat × Nat × Nat := (f.index, f.op, f.tick, f.sig)

section
variable {d a b : Dev} {e : Eng} {c : Cmd} {n : Nat} {f g : InFlight}

theorem Started.of_ctx (h : Started d a e c n f) (hc : b.ctx e = a.ctx e) : Started d b e c n f :=
  ⟨by rw [hc, h.index], by rw [hc, h.popped], by rw [hc, h.busy], h.names⟩

theorem Started.flight (h : Started d a e c n f) : a.flight e = some f := by
  unfold Dev.flight
  rw [h.busy]
  rfl

theorem Started.setFlight (h : Started d a e c n f) (hg : g.name = f.name) : Started d (a.setFlight e g) e c n g := by
  simp only [InFlight.name, Prod.mk.injEq] at hg
  obtain ⟨hi, ho, ht, hs⟩ := hg
  have hc : (a.setFlight e g).ctx e = { a.ctx e with busy := [g] } := by
    unfold Dev.setFlight
    dsimp only
    rw [Dev.ctx_setCtx_self, h.busy]
    simp [hi]
  exact ⟨by rw [hc]; exact h.index, by rw [hc]; exact h.popped, by rw [hc], by rw [hi, ho, ht, hs]; exact h.names⟩

/-- A delay marks the flight's hold alone. -/
theorem Started.marked (h : Started d a e c n f) (i : Nat) : ∃ g, Started d (a.holdIssued e i) e c n g ∧ g.held = f.held := by
  have hm := a.holdIssued_marked e i
  obtain ⟨k, hk, hc⟩ := hm.ctx
  have hn : (k f).name = f.name := (congrArg InFlight.name (hk f) :)
  simp only [InFlight.name, Prod.mk.injEq] at hn
  obtain ⟨hi, ho, ht, hs⟩ := hn
  exact ⟨k f, ⟨hm.index.trans h.index, hm.popped.trans h.popped, by rw [hc, h.busy]; rfl, by rw [hi, ho, ht, hs]; exact h.names⟩, hk f⟩

end

/-! ## What plans move of the objects -/

/-- Objects that a plan's reads and writes move: those of memory's reads and writes, and the core's counts of moves and sparse loads. -/
def flyKey (k : Nat) : Prop := touchKey k ∨ (0x300000 ≤ k ∧ (k / 256 % 64 = 0x12 ∨ k / 256 % 64 = 0x17))

theorem flyKey_moves {c s : Nat} (hs : s < 256) : flyKey ((0x3017 + c * 0x40) * 256 + s) := .inr ⟨by omega, by omega⟩
theorem flyKey_loads {c s : Nat} (hs : s < 256) : flyKey ((0x3012 + c * 0x40) * 256 + s) := .inr ⟨by omega, by omega⟩

theorem Dev.setFlight_objs (d : Dev) (e : Eng) (f : InFlight) : (d.setFlight e f).objs = d.objs := d.setCtx_objs e _

theorem Dev.setFlight_spared (d : Dev) (e : Eng) (f : InFlight) : Dev.Spared d (d.setFlight e f) := .setCtx d e _

theorem Dev.planOf_spared {a b : Dev} (h : Dev.Spared a b) (e : Eng) : b.planOf e = a.planOf e := by
  unfold Dev.planOf
  rw [h.plan]

theorem Dev.planOf_side {a b : Dev} (h : Dev.Side a b) (e : Eng) : b.planOf e = a.planOf e := by
  unfold Dev.planOf
  rw [h.plan]

theorem Dev.planOf_setPlan (d : Dev) (e : Eng) (p : Option Plan) : (d.setPlan e p).planOf e = p := by
  unfold Dev.planOf Dev.setPlan
  dsimp only
  rw [Dev.core_setCore_self]
  exact Map.get_set_self _ _ _ _

theorem Dev.requestFor_touched (d : Dev) (e : Eng) (l : Bool) (i t : Nat) (w : Bool) (a n : Nat) (bs : List Nat) :
    Dev.Touched d (d.requestFor e l i t w a n bs).2 :=
  .of_tallied (d.requestFor_tallied e l i t w a n bs) (d.requestFor_side e l i t w a n bs)

theorem Dev.askFar_touched (d : Dev) (e : Eng) (i t : Nat) (as : List Nat) : Dev.Touched d (d.askFar e i t as).2.2 := by
  refine Dev.Touched.foldl_of (fun r : List Nat × Nat × Dev => r.2.2) _ _ (fun r g => ?_) ([], stOK, d)
  have h := r.2.2.requestFor_touched e false i t false g.1 g.2.length []
  unfold Dev.request
  generalize r.2.2.requestFor e false i t false g.1 g.2.length [] = q at h ⊢
  obtain ⟨o, d'⟩ := q
  cases o <;> exact h

theorem Dev.tellFar_touched (d : Dev) (e : Eng) (i t : Nat) (bs : List (Nat × Byte)) : Dev.Touched d (d.tellFar e i t bs).2.2 := by
  refine Dev.Touched.foldl_of (fun r : List Nat × Nat × Dev => r.2.2) _ _ (fun r g => ?_) ([], stOK, d)
  have h := r.2.2.requestFor_touched e false i t true g.1 g.2.length (g.2.map BitVec.toNat)
  unfold Dev.request
  generalize r.2.2.requestFor e false i t true g.1 g.2.length (g.2.map BitVec.toNat) = q at h ⊢
  obtain ⟨o, d'⟩ := q
  cases o <;> exact h

/-- No place of a list is on another device. -/
def nearby (ps : List Place) : Prop := ∀ x ∈ ps, ∀ a, x.2 ≠ .far a

theorem nearby_asked {ps : List Place} (h : nearby ps) :
    (ps.filterMap (fun x => match x.2 with | .far a => some a | _ => none)) = [] := by
  refine List.filterMap_eq_nil_iff.mpr fun x hx => ?_
  have hn := h x hx
  split
  next a ha => exact absurd ha (hn a)
  next => rfl

section
variable {d a : Dev} {e : Eng} {c : Cmd} {n : Nat} {f : InFlight}

/-- Missing bytes of other devices asked for: the plan waits for them, and where none is missing for nothing. -/
theorem Dev.askPlan_flies (h : Started d a e c n f) {k : InFlight} (hk : k.name = f.name) (p : Plan) (runs : List (List Place)) :
    ∃ g, Started d (a.askPlan e k p runs).1 e c n g ∧ (a.askPlan e k p runs).1.planOf e = some p ∧ (a.askPlan e k p runs).2 = g.outs.isEmpty ∧
      Dev.ObjsBut flyKey a (a.askPlan e k p runs).1 ∧ (nearby runs.flatten → g.outs = []) := by
  unfold Dev.askPlan
  dsimp -zeta only
  extract_lets far
  have ht := a.askFar_touched e k.index k.attempt far
  have hnil : far = [] → (a.askFar e k.index k.attempt far).1 = [] := fun hf => by rw [hf]; rfl
  generalize a.askFar e k.index k.attempt far = r at ht hnil ⊢
  obtain ⟨ids, st, b⟩ := r
  dsimp only at ht hnil ⊢
  refine ⟨_, ((h.of_ctx (ht.side.ctx e)).of_ctx (b.setPlan_ctx e e (some p))).setFlight (g := { k with outs := ids, status := stWorst k.status st }) hk,
    ?_, rfl, ?_, fun hr => hnil (nearby_asked hr)⟩
  · rw [Dev.planOf_spared (Dev.setFlight_spared _ _ _), Dev.planOf_setPlan]
  · exact (ht.obj.mono fun _ => .inl).trans (.of_objs (Dev.setFlight_objs _ _ _))

/-- The reads of a plan. -/
theorem Dev.readRuns_flies (h : Started d a e c n f) (he : e.Inside) (k : InFlight) (p : Plan) (runs : List (List Place)) :
    Started d (a.readRuns e k p runs).2.2 e c n f ∧ Dev.ObjsBut flyKey a (a.readRuns e k p runs).2.2 := by
  unfold Dev.readRuns
  extract_lets ls ws fix d1 x d2 r
  have h1 : Dev.Touched a d1 := .foldl _ _ (fun d _ => d.spCorrected_touched _ _ _) a
  have h2 : Started d d2 e c n f ∧ Dev.ObjsBut flyKey a d2 := by
    have hs := h.of_ctx (h1.side.ctx e)
    have ho : Dev.ObjsBut flyKey a d1 := h1.obj.mono fun _ => .inl
    unfold d2
    split
    · exact ⟨hs, ho⟩
    · have hc : (d1.setCtx e { x with spent := x.spent + 2 * fix.length }).ctx e = { d1.ctx e with spent := x.spent + 2 * fix.length } :=
        Dev.ctx_setCtx_self _ _ _
      refine ⟨Started.of_ctx (a := d1.setCtx e { x with spent := x.spent + 2 * fix.length }) ?_ (Dev.Side.ctx (Dev.engCount_side _ _ _ _) e), ?_⟩
      · exact ⟨by rw [hc]; exact hs.index, by rw [hc]; exact hs.popped, by rw [hc]; exact hs.busy, hs.names⟩
      · exact (ho.trans (.of_objs (d1.setCtx_objs e _))).trans ((Dev.engCount_tallied _ he.1 (by decide) _).obj.mono fun _ h => .inl (.inl h))
  have h3 : Dev.Touched d2 r.2.2 := by
    refine Dev.Touched.foldl_of (fun r : List Byte × Bool × Dev => r.2.2) _ _ (fun r g => ?_) ([], !ws.isEmpty || d2.accUnreadable ls, d2)
    dsimp only
    exact (r.2.2.readLines_touched _ _).trans (.of_objs rfl (.of_eq rfl rfl rfl rfl rfl rfl rfl rfl rfl))
  have h4 : Dev.Touched d2 (r.2.2.spMet (d2.iss e k.index k.op) (e.k - 1) (ws.filter (fun w => !p.seen.contains w))) := h3.trans (Dev.spMet_touched _ _ _ _)
  exact ⟨h2.1.of_ctx (h4.side.ctx e), h2.2.trans (h4.obj.mono fun _ => .inl)⟩

/-- The write stage: nothing of the plan remains, and no reference is out where no place is on another device. -/
theorem Dev.putBytes_flies (h : Started d a e c n f) {k : InFlight} (hk : k.name = f.name) (p : Plan) (out : List Byte) (bad : Bool) :
    ∃ g, Started d (a.putBytes e k p out bad) e c n g ∧ (a.putBytes e k p out bad).planOf e = none ∧
      Dev.ObjsBut flyKey a (a.putBytes e k p out bad) ∧ (nearby p.writes → g.outs = []) := by
  unfold Dev.putBytes
  extract_lets pairs loc fab far src
  have hfar : nearby p.writes → far = [] := fun hp => by
    refine List.filterMap_eq_nil_iff.mpr fun x hx => ?_
    have hx := hp x.1 (List.of_mem_zip hx).1
    split
    next y hy => exact absurd hy (hx y)
    next => rfl
  clear_value far loc fab
  have h1 := a.writeRun_touched (a.iss e k.index k.op) (e.k - 1) loc
  generalize a.writeRun (a.iss e k.index k.op) (e.k - 1) loc = r at h1 ⊢
  obtain ⟨badW, d1⟩ := r
  dsimp -zeta only at h1 ⊢
  have h2 := h1.trans (d1.tellFar_touched e k.index k.attempt far)
  have hnil : far = [] → (d1.tellFar e k.index k.attempt far).1 = [] := fun hf => by rw [hf]; rfl
  generalize d1.tellFar e k.index k.attempt far = r at h2 hnil ⊢
  obtain ⟨ids, st0, d2⟩ := r
  dsimp -zeta only at h2 hnil ⊢
  extract_lets d3 x d4 st d5
  have h3 : d3.ctx e = a.ctx e ∧ d3.objs = d2.objs := by
    have hd (p : Nat) (q : Part) (hu : q.up = (d2.part p).up) (hr : q.rd = (d2.part p).rd) : (d2.setPart p q).ctx e = d2.ctx e := by
      unfold Dev.ctx
      by_cases he : e.p = p
      · rw [he, Dev.part_setPart_self, hu, hr]
        rfl
      · rw [Dev.part_setPart_ne _ _ he]
        rfl
    unfold d3
    split
    · unfold Dev.addSlotDigest
      dsimp only
      split
      · exact ⟨h2.side.ctx e, rfl⟩
      · refine ⟨Eq.trans (hd _ _ ?_ ?_) (h2.side.ctx e), rfl⟩ <;> rfl
    · exact ⟨h2.side.ctx e, rfl⟩
  have h4 : d4.ctx e = a.ctx e ∧ d4.objs = d2.objs := ⟨(Dev.ctx_setCore d3 e.n (x := { x with src := src.foldl (fun m g => Map.set m 0 g.1 g.2) x.src }) rfl e).trans h3.1, h3.2⟩
  have h5 : Started d d5 e c n { k with outs := ids, status := st, grans := placeGrans e.n p.writes } :=
    ((h.of_ctx h4.1).of_ctx (d4.setPlan_ctx e e none)).setFlight hk
  have h5p : d5.planOf e = none := by
    rw [Dev.planOf_spared (Dev.setFlight_spared _ _ _), Dev.planOf_setPlan]
  have h5o : Dev.ObjsBut flyKey a d5 :=
    (h2.obj.mono fun _ => .inl).trans (.of_objs ((Dev.setFlight_objs _ _ _).trans h4.2))
  refine ⟨{ k with outs := ids, status := st, grans := placeGrans e.n p.writes }, ?_, ?_, ?_, fun hp => hnil (hfar hp)⟩ <;> split
  · exact h5.of_ctx rfl
  · exact h5
  · exact h5p
  · exact h5p
  · refine ((h5o.trans (.cnt _ _ ?_)).trans (.cnt _ _ ?_)).trans (.cnt _ _ ?_)
    · exact flyKey_moves (by decide)
    · exact flyKey_moves (by decide)
    · exact flyKey_moves (by decide)
  · exact h5o

/-- A sparse load refused: nothing of its plan remains. -/
theorem Dev.sparseRefuse_flies (h : Started d a e c n f) {k : InFlight} (hk : k.name = f.name) (kind r g : Nat) (w : List (Loc × Byte)) :
    ∃ k', Started d (a.sparseRefuse e k kind r g w) e c n k' ∧ (a.sparseRefuse e k kind r g w).planOf e = none ∧
      Dev.ObjsBut flyKey a (a.sparseRefuse e k kind r g w) ∧ k'.outs = [] := by
  unfold Dev.sparseRefuse
  have h1 := a.writeRun_touched (a.iss e k.index k.op) 2 w
  generalize a.writeRun (a.iss e k.index k.op) 2 w = r' at h1 ⊢
  obtain ⟨bad, d1⟩ := r'
  dsimp -zeta only at h1 ⊢
  extract_lets d2 syn d3
  have h2 : Started d d2 e c n { k with status := stWorst k.status stSPARSE, outs := [] } :=
    ((h.of_ctx (h1.side.ctx e)).of_ctx (d1.setPlan_ctx e e none)).setFlight hk
  have h2p : d2.planOf e = none := by rw [Dev.planOf_spared (Dev.setFlight_spared _ _ _), Dev.planOf_setPlan]
  have h2o : Dev.ObjsBut flyKey a d2 := (h1.obj.mono fun _ => .inl).trans (.of_objs (Dev.setFlight_objs _ _ _))
  clear_value d2 syn
  have hs : Dev.Side d2 d3 := Dev.put_side d2 _ _
  refine ⟨_, h2.of_ctx ((hs.trans (Dev.file_side d3 _)).ctx e), ?_, ?_, rfl⟩
  · exact (Dev.planOf_side (hs.trans (Dev.file_side d3 _)) e).trans h2p
  · exact (h2o.trans (.put d2 syn (flyKey_loads (by decide)))).trans ((Dev.file_touched d3 _).obj.mono fun _ => .inl)

/-- The last stage of a command. -/
theorem Dev.planData2_flies (h : Started d a e c n f) (he : e.Inside) {k : InFlight} (hk : k.name = f.name) (p : Plan) :
    ∃ g, Started d (a.planData2 e k p) e c n g ∧ (a.planData2 e k p).planOf e = none ∧ Dev.ObjsBut flyKey a (a.planData2 e k p) ∧
      (nearby p.writes → g.outs = []) := by
  unfold Dev.planData2
  obtain ⟨h1, o1⟩ := Dev.readRuns_flies h he k p p.runs
  generalize a.readRuns e k p p.runs = r at h1 o1 ⊢
  obtain ⟨bs, bad, d1⟩ := r
  dsimp only at h1 o1 ⊢
  have put (out : List Byte) : ∃ g, Started d (d1.putBytes e k p out bad) e c n g ∧ (d1.putBytes e k p out bad).planOf e = none ∧
      Dev.ObjsBut flyKey a (d1.putBytes e k p out bad) ∧ (nearby p.writes → g.outs = []) := by
    obtain ⟨g, hg, hp, ho, hn⟩ := Dev.putBytes_flies h1 hk p out bad
    exact ⟨g, hg, hp, o1.trans ho, hn⟩
  split
  · exact put _
  · exact put _
  · split
    · exact put _
    · obtain ⟨g, hg, hp, ho, hn⟩ := Dev.sparseRefuse_flies h1 hk 4 _ _ _
      exact ⟨g, hg, hp, o1.trans ho, fun _ => hn⟩

/-- What remains of a plan once its command has gone on as far as it goes. -/
def Dev.PlanDone (t : Dev) (e : Eng) (g : InFlight) : Prop := g.outs = [] ∧ t.planOf e = none

/-- The second stage of a sparse load. -/
theorem Dev.stage2_flies (h : Started d a e c n f) (he : e.Inside) {k : InFlight} (hk : k.name = f.name) (p : Plan) :
    ∃ g, Started d (a.stage2 e k p) e c n g ∧ Dev.ObjsBut flyKey a (a.stage2 e k p) ∧
      (nearby p.runs.flatten → nearby p.writes → (a.stage2 e k p).PlanDone e g) := by
  unfold Dev.stage2
  obtain ⟨g, hg, -, hnow, ho, hr⟩ := Dev.askPlan_flies h hk p p.runs
  generalize a.askPlan e k p p.runs = r at hg hnow ho ⊢
  obtain ⟨d1, now⟩ := r
  dsimp only at hg hnow ho ⊢
  split
  · rw [hg.flight]
    dsimp only
    obtain ⟨g', hg', hp, ho', hn⟩ := Dev.planData2_flies hg he rfl p
    exact ⟨g', hg', ho.trans ho', fun _ hw => ⟨hn hw, hp⟩⟩
  next hno =>
    refine ⟨g, hg, ho, fun hruns => absurd ?_ hno⟩
    rw [hnow, hr hruns]
    rfl

/-- All reads of the present stage are answered. -/
theorem Dev.planData_flies (h : Started d a e c n f) (he : e.Inside) {p : Plan} (hp : a.planOf e = some p) :
    ∃ g, Started d (a.planData e) e c n g ∧ Dev.ObjsBut flyKey a (a.planData e) ∧
      (nearby p.runs.flatten → nearby p.writes → (a.planData e).PlanDone e g) := by
  unfold Dev.planData
  rw [hp, h.flight]
  dsimp only
  split
  · obtain ⟨h1, o1⟩ := Dev.readRuns_flies h he f p (p.runs.take 2)
    generalize a.readRuns e f p (p.runs.take 2) = r at h1 o1 ⊢
    obtain ⟨bs, bad, d1⟩ := r
    dsimp only at h1 o1 ⊢
    have count (m : Nat) : Started d (d1.cnt (K.SPL_GROUPS e.n) m) e c n f ∧ Dev.ObjsBut flyKey a (d1.cnt (K.SPL_GROUPS e.n) m) :=
      ⟨h1.of_ctx ((Dev.put_side d1 _ _).ctx e), o1.trans (.cnt d1 m (flyKey_loads (by decide)))⟩
    split
    next kind row g _ =>
      obtain ⟨h2, o2⟩ := count (32 * _ / patGroup _ * row + min (g + 1) (32 * _ / patGroup _))
      obtain ⟨g', hg', hp', ho', hn⟩ := Dev.sparseRefuse_flies h2 (k := { f with status := if bad then stWorst f.status stECC else f.status }) rfl kind row g []
      exact ⟨g', hg', o2.trans ho', fun _ _ => ⟨hn, hp'⟩⟩
    next =>
      obtain ⟨h2, o2⟩ := count (32 * _ / patGroup _ * _)
      obtain ⟨g', hg', ho', hn⟩ := Dev.stage2_flies h2 he (k := { f with status := if bad then stWorst f.status stECC else f.status }) rfl
        { p with xform := .sparse 2 _ _ _ _ _, got := p.scalesGot, seen := _ }
      exact ⟨g', hg', o2.trans ho', hn⟩
  · obtain ⟨g, hg, hp', ho, hn⟩ := Dev.planData2_flies h he rfl p
    exact ⟨g, hg, ho, fun _ hw => ⟨hn hw, hp'⟩⟩

/-- A plan that the array holds stays as it is (R145). -/
theorem Dev.planGo_held {p : Plan} (hp : a.planOf e = some p) (hh : a.planHeld p ≠ none) : a.planGo e = a := by
  unfold Dev.planGo
  rw [hp]
  split
  next p' f' hp' hf' =>
    cases hp'
    rw [if_pos (by simp [Option.isSome_iff_ne_none.mpr hh])]
  next => rfl

theorem nearby_take {runs : List (List Place)} (h : nearby runs.flatten) (m : Nat) : nearby (runs.take m).flatten := fun x hx => by
  obtain ⟨l, hl, hx⟩ := List.mem_flatten.mp hx
  exact h x (List.mem_flatten.mpr ⟨l, List.mem_of_mem_take hl, hx⟩)

/-- An issued command goes on with its plan; where nothing holds it and all its places are here, nothing of the plan remains. -/
theorem Dev.planGo_flies (h : Started d a e c n f) (he : e.Inside) {p : Plan} (hp : a.planOf e = some p) :
    ∃ g, Started d (a.planGo e) e c n g ∧ Dev.ObjsBut flyKey a (a.planGo e) ∧
      (f.outs = [] → a.planHeld p = none → a.switching e.n = false → nearby p.runs.flatten → nearby p.writes → (a.planGo e).PlanDone e g) := by
  unfold Dev.planGo
  rw [hp, h.flight]
  dsimp -zeta only
  split
  next hc =>
    refine ⟨f, h, .refl a, fun hf hh => ?_⟩
    rw [hf, hh] at hc
    exact absurd hc Bool.false_ne_true
  have data {p' : Plan} {b : Dev} {g : InFlight} (hb : Started d b e c n g) (ho : Dev.ObjsBut flyKey a b) (hp' : b.planOf e = some p')
      (hr : nearby p.runs.flatten → nearby p'.runs.flatten) (hw : p'.writes = p.writes) :
      ∃ g, Started d (b.planData e) e c n g ∧ Dev.ObjsBut flyKey a (b.planData e) ∧
        (f.outs = [] → a.planHeld p = none → a.switching e.n = false → nearby p.runs.flatten → nearby p.writes → (b.planData e).PlanDone e g) := by
    obtain ⟨g', hg', ho', hn⟩ := Dev.planData_flies hb he hp'
    exact ⟨g', hg', ho.trans ho', fun _ _ _ h1 h2 => hn (hr h1) (by rw [hw]; exact h2)⟩
  split
  next sp fmt m k nb _ =>
    split
    next hs => exact ⟨f, h, .refl a, fun _ _ hs' => absurd (hs.symm.trans hs') (by decide)⟩
    extract_lets k' d1
    have h1 : Started d d1 e c n f := h.of_ctx (by
      refine Dev.ctx_setCore a e.n ?_ e
      rfl)
    obtain ⟨g, hg, hpl, hnow, ho, hr⟩ := Dev.askPlan_flies h1 rfl { p with xform := .sparse 1 sp fmt m k nb } (p.runs.take 2)
    generalize d1.askPlan e f { p with xform := .sparse 1 sp fmt m k nb } (p.runs.take 2) = r at hg hpl hnow ho ⊢
    obtain ⟨d2, now⟩ := r
    dsimp -zeta only at hg hpl hnow ho ⊢
    have ho : Dev.ObjsBut flyKey a d2 := Dev.ObjsBut.trans (.of_objs rfl) ho
    split
    · exact data hg ho hpl id rfl
    next hno =>
      refine ⟨g, hg, ho, fun _ _ _ hruns => absurd ?_ hno⟩
      rw [hnow, hr (nearby_take hruns 2)]
      rfl
  · split
    next hs => exact ⟨f, h, .refl a, fun _ _ hs' => absurd (hs.symm.trans hs') (by decide)⟩
    · exact data h (.refl a) hp id rfl
  · exact data h (.refl a) hp id rfl

end

/-! ## A command that starts with its plan -/

theorem Dev.planHeld_congr {d t : Dev} (h : ∀ i, (t.core i).passes = (d.core i).passes) (p : Plan) : t.planHeld p = d.planHeld p := by
  unfold Dev.planHeld Core.heldRead Core.heldWrite Core.reserved
  simp only [h]

theorem Dev.setCtx_sw (d : Dev) (e : Eng) (x : EngCtx) : (d.setCtx e x).sw = d.sw := by
  unfold Dev.setCtx
  split
  · rfl
  · split <;> rfl

theorem Dev.advance_sw (d : Dev) (e : Eng) (n : Nat) : (d.advance e n).sw = d.sw := by
  unfold Dev.advance
  extract_lets d1 x
  rw [(Dev.engCount_side _ e 11 1).sw, Dev.setCtx_sw]
  exact (d.takeSlots_side e n).sw

/-- Objects that a command's start moves: those of its plan, and the peaks of the tracker entries. -/
def startKey (k : Nat) : Prop := flyKey k ∨ k % 256 = 0x12

/-- The device with a command in flight behind its slots, what run-ahead has read of it taken, its tracker entries noted. -/
def Dev.launched (d : Dev) (e : Eng) (c : Cmd) (n : Nat) (ps : List Place) (f : InFlight) (used : Nat) : Dev :=
  let d := if e.k = 3 then (d.setCore e.n { d.core e.n with ra := (d.core e.n).ra.filter (fun r => c.index < r.index) }).cnt (K.RA_USED e.n) used else d
  let x := d.ctx e
  ((d.setCtx e { x with busy := x.busy ++ [f] }).advance e n).trkTake e c.index ps

/-- A core but for what run-ahead has read and what `Core.stock` leaves out. -/
def Core.store (k : Core) : Core := { k.stock with ra := [] }

structure Dev.Launched (d t : Dev) (e : Eng) (c : Cmd) (n : Nat) (f : InFlight) : Prop where
  started : Started d t e c n f
  obj : Dev.ObjsBut startKey d t
  sw : t.sw = d.sw
  store : ∀ i, (t.core i).store = (d.core i).store
  stored : Dev.Stored d t

theorem Dev.Spared.store {a b : Dev} (h : Dev.Spared a b) (i : Nat) : (b.core i).store = (a.core i).store := by
  unfold Core.store
  rw [h i]

theorem Dev.launched_launches (d : Dev) {e : Eng} (he : e.Inside) (hb : (d.ctx e).busy = []) (c : Cmd) (n : Nat) (ps : List Place) {f : InFlight}
    (hf : f.index = c.index ∧ f.op = c.op ∧ f.tick = c.w 1 ∧ f.sig = (if c.sigQ < 32 then c.sigQ else 255)) (used : Nat) :
    Dev.Launched d (d.launched e c n ps f used) e c n f := by
  unfold Dev.launched
  extract_lets k d1 x
  have h1 : d1.ctx e = d.ctx e ∧ Dev.ObjsBut startKey d d1 ∧ d1.sw = d.sw ∧ (∀ i, (d1.core i).store = (d.core i).store) ∧ Dev.Stored d d1 := by
    unfold d1
    split
    · have hc (i : Nat) : ((d.setCore e.n { k with ra := k.ra.filter (fun r => c.index < r.index) }).core i).store = (d.core i).store := by
        by_cases hi : i = e.n
        · rw [hi, Dev.core_setCore_self]
          rfl
        · rw [Dev.core_setCore_ne _ _ hi]
      refine ⟨Dev.ctx_setCore d e.n (x := { k with ra := k.ra.filter (fun r => c.index < r.index) }) rfl e, ?_, rfl, hc, .of_mem rfl⟩
      exact Dev.ObjsBut.trans (b := d.setCore e.n _) (.of_objs rfl) (.cnt _ _ (.inl (flyKey_moves (by decide))))
    · exact ⟨rfl, .refl d, rfl, fun _ => rfl, .refl d⟩
  obtain ⟨hctx, hobj, hsw, hstore, hstored⟩ := h1
  have hx : x = d.ctx e := hctx
  clear_value d1 x
  have hset := Dev.ctx_setCtx_self d1 e { x with busy := x.busy ++ [f] }
  have hset_spared := Dev.Spared.setCtx d1 e { x with busy := x.busy ++ [f] }
  have hset_stored := Dev.Stored.setCtx d1 e { x with busy := x.busy ++ [f] }
  have hset_objs := d1.setCtx_objs e { x with busy := x.busy ++ [f] }
  have hset_sw := d1.setCtx_sw e { x with busy := x.busy ++ [f] }
  generalize d1.setCtx e { x with busy := x.busy ++ [f] } = d2 at hset hset_spared hset_stored hset_objs hset_sw ⊢
  obtain ⟨hside, htrk⟩ := (d2.advance e n).trkTake_side e c.index ps
  obtain ⟨hp, hpop, -⟩ := d2.advance_ctx e n
  rw [hset] at hp
  refine ⟨⟨?_, ?_, ?_, hf⟩, ?_, ?_, fun i => ?_, ?_⟩
  · rw [hside.ctx, ← hx]
    exact (congrArg EngCtx.index hp :)
  · rw [hside.ctx]
    exact hpop
  · rw [hside.ctx]
    refine Eq.trans (congrArg EngCtx.busy hp :) ?_
    show x.busy ++ [f] = [f]
    rw [hx, hb]
    rfl
  · exact ((hobj.trans (.of_objs hset_objs)).trans ((Dev.advance_touched _ he n).1.mono fun _ h => .inl (.inl h))).trans (htrk.mono fun _ => .inr)
  · rw [hside.sw, Dev.advance_sw, hset_sw, hsw]
  · have hc : Dev.Spared d1 ((d2.advance e n).trkTake e c.index ps) :=
      (hset_spared.trans (.advance d2 e n)).trans (.of_cores (Dev.trkTake_cores _ _ _ _))
    exact (hc.store i).trans (hstore i)
  · exact ((hstored.trans hset_stored).trans (.advance d2 e n)).trans (.trkTake _ _ _ _)

end Sys2Proof.Machine
end

section
/-! Proofs: moves, gathers and run-ahead reads issue, or end with the status of what refuses them (R250 to R259). -/
namespace Sys2Proof.Machine

/-! ## What a head that issues has met -/

theorem slotsOf_pos (k op w : Nat) : 1 ≤ slotsOf k op w := by
  unfold slotsOf
  split
  case h_2 =>
    dsimp only
    split
    · exact Nat.le_refl 1
    · split <;> decide
  all_goals omega

theorem ownedSlots_pos (d : Dev) (e : Eng) (c : Cmd) : 1 ≤ (d.ownedSlots e c).1 := by
  unfold Dev.ownedSlots
  extract_lets n x bad
  split
  · exact Nat.le_refl 1
  · exact slotsOf_pos _ _ _

theorem Dev.noteLate_tallied (d : Dev) (e : Eng) (c : Cmd) : Dev.Tallied d (d.noteLate e c) := by
  unfold Dev.noteLate
  extract_lets p x shut
  refine .ite _ (fun _ => .refl d) fun _ => .ite _ (fun _ => .ite _ (fun _ => ?_) fun _ => ?_) fun _ => .refl d
  · exact .ite _ (fun _ => d.setCtx_tallied e _) fun _ => .refl d
  · exact (d.setCtx_tallied e _).trans (Dev.lateRecord_tallied _ _ _ _ _ _)

/-- What a head that comes to its issue has met (R88). -/
theorem ready_goes {d t : Dev} {e : Eng} {acc : Nat → Bool} {c : Cmd} {n : Nat} (h : d.ready e acc = .go c n t) :
    d.running e = true ∧ 1 ≤ n ∧ Dev.Tallied d t ∧ t.issueCycle e c.handle < t.cyclesEnd e.quad := by
  unfold Dev.ready at h
  extract_lets x p at h
  split at h
  · cases h
  next hrun =>
  have hrun : d.running e = true := by
    simp only [Bool.or_eq_true, not_or] at hrun
    simpa using hrun.1.1.1.1
  split at h
  · cases h
  next ws _ _ =>
  extract_lets c0 m d1 at h
  split at h
  · cases h
  split at h
  · cases h
  split at h
  · cases h
  split at h
  · cases h
  have h1 : Dev.Tallied d d1 := .ite _ (fun _ => .refl d) fun _ => d.noteLate_tallied e c0
  clear_value d1
  split at h
  · cases h
  split at h
  · cases h
  next x t' hpop =>
  have h2 := h1.trans (Dev.popFor_tallied hpop)
  dsimp only at h
  split at h
  · cases h
  next hcyc =>
  split at h
  · cases h
  split at h
  · cases h
  split at h
  · cases h
  split at h
  · cases h
  · injection h with hc hn ht
    rw [← hc, ← hn, ← ht]
    exact ⟨hrun, ownedSlots_pos d e c0, h2, Nat.not_le.mp hcyc⟩

section
variable {s : State} {e : Eng} {op n : Nat} {c : Cmd} {d : Dev}

theorem Issues.goes (h : Issues s e op c n d) : s.dev.running e = true ∧ 1 ≤ n ∧ Dev.Tallied s.dev d ∧ d.issueCycle e c.handle < d.cyclesEnd e.quad := by
  obtain ⟨-, -, ⟨d', hh, rfl⟩, -, -⟩ := h
  unfold Dev.head at hh
  split at hh
  · cases hh
  next c0 n0 d0 hr =>
    split at hh
    · cases hh
      obtain ⟨h1, h2, h3, h4⟩ := ready_goes hr
      have hc : d'.ctx e = ({ d' with memDelay := 0 } : Dev).ctx e := rfl
      exact ⟨h1, h2, ⟨⟨h3.obj, h3.part, h3.rest.trans rfl⟩, h3.core⟩, h4⟩
    · cases hh

theorem Issues.unswitched (h : Issues s e op c n d) (he : e.isCore = true) : d.switching e.n = false := by
  obtain ⟨hrun, -, ht, -⟩ := h.goes
  unfold Dev.running at hrun
  rw [if_pos he] at hrun
  simp only [Bool.and_eq_true, Bool.not_eq_true'] at hrun
  unfold Dev.switching
  rw [ht.sw]
  exact hrun.2.1.1.1

end

/-! ## A command that starts with its plan -/

/-- A core's scratchpads, with the marks of its words in error, and its passes; what its engines, its plans and run-ahead keep is left out. -/
def Core.lain (k : Core) : Core := { k.store with plan := [] }

/-- `b` is `a` with its scratchpads and its passes, its memories and its switches as they were. -/
structure Dev.Untouched (a b : Dev) : Prop where
  lain : ∀ i, (b.core i).lain = (a.core i).lain
  sw : b.sw = a.sw
  stored : Dev.Stored a b

namespace Dev.Untouched

variable {a b c : Dev}

theorem passes (h : Dev.Untouched a b) (i : Nat) : (b.core i).passes = (a.core i).passes := (congrArg Core.passes (h.lain i) :)
theorem sp (h : Dev.Untouched a b) (i : Nat) : (b.core i).sp = (a.core i).sp := (congrArg Core.sp (h.lain i) :)
theorem sound (h : Dev.Untouched a b) {i : Nat} (hs : (a.core i).Sound) : (b.core i).Sound :=
  ⟨(congrArg Core.poison (h.lain i) :).trans hs.poison, (congrArg Core.flaw (h.lain i) :).trans hs.flaw⟩
theorem trans (h : Dev.Untouched a b) (g : Dev.Untouched b c) : Dev.Untouched a c :=
  ⟨fun i => (g.lain i).trans (h.lain i), g.sw.trans h.sw, h.stored.trans g.stored⟩
theorem of_spared (h : Dev.Spared a b) (hsw : b.sw = a.sw) (hst : Dev.Stored a b) : Dev.Untouched a b :=
  ⟨fun i => (congrArg (fun k : Core => { k with ra := [], plan := [] }) (h i) :), hsw, hst⟩

end Dev.Untouched

theorem Dev.Launched.untouched {d a : Dev} {e : Eng} {c : Cmd} {n : Nat} {f : InFlight} (h : Dev.Launched d a e c n f) : Dev.Untouched d a :=
  ⟨fun i => (congrArg (fun k : Core => { k with plan := [] }) (h.store i) :), h.sw, h.stored⟩

theorem Dev.setPlan_untouched (d : Dev) (e : Eng) (p : Option Plan) : Dev.Untouched d (d.setPlan e p) := by
  refine ⟨fun i => ?_, rfl, .setPlan d e p⟩
  unfold Dev.setPlan
  dsimp only
  by_cases hi : i = e.n
  · rw [hi, Dev.core_setCore_self]
    rfl
  · rw [Dev.core_setCore_ne _ _ hi]

theorem Dev.setFlight_untouched (d : Dev) (e : Eng) (f : InFlight) : Dev.Untouched d (d.setFlight e f) :=
  .of_spared (d.setFlight_spared e f) (d.setCtx_sw e _) (.setFlight d e f)

/-- With no place on another device nothing is asked of one. -/
theorem Dev.askPlan_near {a : Dev} {e : Eng} (f : InFlight) (p : Plan) {runs : List (List Place)} (h : nearby runs.flatten) :
    (a.askPlan e f p runs).1 = (a.setPlan e (some p)).setFlight e { f with outs := [], status := stWorst f.status stOK } := by
  unfold Dev.askPlan
  dsimp -zeta only
  extract_lets far
  have hfar : far = [] := nearby_asked h
  rw [hfar]
  rfl

/-- What is left of a command that has started with its plan: done, or held by the array as it stands. -/
def Dev.PlanLeft (d t : Dev) (e : Eng) (p : Plan) (g : InFlight) : Prop :=
  (d.planHeld p = none → t.PlanDone e g) ∧
  (d.planHeld p ≠ none → g.outs = [] ∧ (t.planOf e).isSome = true ∧ Dev.Untouched d t)

section
variable {d a : Dev} {e : Eng} {c : Cmd} {n : Nat} {f : InFlight}

/-- A command with its plan behind it goes on as far as it can. -/
theorem Dev.planGo_leaves (h : Started d a e c n f) (ho : Dev.ObjsBut startKey d a) (he : e.Inside) {p p' : Plan} (hp : a.planOf e = some p')
    (hr : p'.runs = p.runs) (hw : p'.writes = p.writes) (hsw : d.switching e.n = false) (hu : nearby (p.runs.flatten ++ p.writes) →
      f.outs = [] ∧ Dev.Untouched d a) :
    ∃ g, Started d (a.planGo e) e c n g ∧ Dev.ObjsBut startKey d (a.planGo e) ∧ (nearby (p.runs.flatten ++ p.writes) → Dev.PlanLeft d (a.planGo e) e p g) := by
  have hheld (hu : Dev.Untouched d a) : a.planHeld p' = d.planHeld p := by
    rw [Dev.planHeld_congr hu.passes]
    unfold Dev.planHeld
    rw [hr, hw]
  by_cases hn : nearby (p.runs.flatten ++ p.writes) ∧ d.planHeld p ≠ none
  · obtain ⟨hf, hu⟩ := hu hn.1
    rw [Dev.planGo_held hp (by rw [hheld hu]; exact hn.2)]
    exact ⟨f, h, ho, fun _ => ⟨fun hno => absurd hno hn.2, fun _ => ⟨hf, by rw [hp]; rfl, hu⟩⟩⟩
  · obtain ⟨g, hg, hgo, hdone⟩ := Dev.planGo_flies h he hp
    refine ⟨g, hg, ho.trans (hgo.mono fun _ => .inl), fun hnear => ⟨fun hno => ?_, fun hyes => absurd ⟨hnear, hyes⟩ hn⟩⟩
    obtain ⟨hf, hu⟩ := hu hnear
    have hs : a.switching e.n = false := by
      unfold Dev.switching
      rw [hu.sw]
      exact hsw
    rw [hr, hw] at hdone
    exact hdone hf ((hheld hu).trans hno) hs (fun x hx => hnear x (List.mem_append_left _ hx)) fun x hx => hnear x (List.mem_append_right _ hx)

/-- The device on which a command starts with its plan. -/
theorem Dev.startPlan_launches (he : e.Inside) (hb : (d.ctx e).busy = []) {p : Plan} (hm : d.memWait e (p.runs.flatten ++ p.writes) = none)
    (space off st : Nat) : ∃ (a : Dev) (f : InFlight) (buf : Map Byte), Dev.Launched d a e c n f ∧ f.outs = [] ∧
      d.startPlan e c n p space off st = (match p.xform with
        | .sparse .. => (a.setPlan e (some { p with got := buf })).planGo e
        | _ => (a.askPlan e f { p with got := buf } p.runs).1.planGo e) := by
  unfold Dev.startPlan
  extract_lets k ps buf d1 fl x d2 p'
  rw [show d.memWait e ps = none from hm]
  refine ⟨d.launched e c n ps fl buf.length, fl, buf, Dev.launched_launches d he hb c n ps ?_ buf.length, rfl, rfl⟩
  exact ⟨rfl, rfl, rfl, rfl⟩

theorem Dev.startPlan_leaves (he : e.Inside) (hb : (d.ctx e).busy = []) {p : Plan} (hm : d.memWait e (p.runs.flatten ++ p.writes) = none)
    (hsw : d.switching e.n = false) (space off st : Nat) : ∃ g, Started d (d.startPlan e c n p space off st) e c n g ∧
      Dev.ObjsBut startKey d (d.startPlan e c n p space off st) ∧
      (nearby (p.runs.flatten ++ p.writes) → Dev.PlanLeft d (d.startPlan e c n p space off st) e p g) := by
  obtain ⟨a, f, buf, hl, hf, ht⟩ := Dev.startPlan_launches (c := c) (n := n) he hb hm space off st
  rw [ht]
  have ask : ∃ g, Started d ((a.askPlan e f { p with got := buf } p.runs).1.planGo e) e c n g ∧
      Dev.ObjsBut startKey d ((a.askPlan e f { p with got := buf } p.runs).1.planGo e) ∧
      (nearby (p.runs.flatten ++ p.writes) → Dev.PlanLeft d ((a.askPlan e f { p with got := buf } p.runs).1.planGo e) e p g) := by
    obtain ⟨g, hg, hp, -, ho, hn⟩ := Dev.askPlan_flies hl.started rfl { p with got := buf } p.runs
    refine Dev.planGo_leaves hg (hl.obj.trans (ho.mono fun _ => .inl)) he hp rfl rfl hsw fun hnear => ?_
    have hruns : nearby p.runs.flatten := fun x hx => hnear x (List.mem_append_left _ hx)
    refine ⟨hn hruns, ?_⟩
    rw [Dev.askPlan_near f _ hruns]
    exact (hl.untouched.trans (a.setPlan_untouched e _)).trans (Dev.setFlight_untouched _ _ _)
  split
  · exact Dev.planGo_leaves (hl.started.of_ctx (a.setPlan_ctx e e _)) (hl.obj.trans (.of_objs rfl)) he (Dev.planOf_setPlan _ _ _) rfl rfl hsw
      fun _ => ⟨hf, hl.untouched.trans (a.setPlan_untouched e _)⟩
  · exact ask

end
end Sys2Proof.Machine
end

section
/-! Proofs: MV_COPY, MV_COPY2D, MV_TLOAD, MV_SPLOAD and GT_ROWS as they issue or are refused (R250 to R257, R266, R267). -/
namespace Sys2Proof.Machine

section
variable {s : State} {k op n : Nat} {c : Cmd} {d : Dev}

/-! ## Moves -/

/-- A command of the move engine whose slots are its own: its plan, or what refuses it. -/
theorem Issues.move {es : List (List Nat)} (h : Issues s (eng 3 k) op c n d) (hb : (d.ctx (eng 3 k)).busy = [])
    (hes : d.exts (eng 3 k) c n = (.ok es, d)) (mk : Dev → Cmd → Cmd → Except Nat (Plan × Nat)) (sp : Cmd → Nat) :
    s.dev.mvIssue k op mk sp = (match mk d c { index := 0, words := es.headD [], handle := none } with
      | .error st => d.reject (eng 3 k) c n st
      | .ok (p, off) => if sp c < 4 then d.startPlan (eng 3 k) c n p (sp c) off stOK
          else d.startPlan (eng 3 k) c n p 4 0 stOK).holdIssued (eng 3 k) c.index := by
  unfold Dev.mvIssue
  dsimp only
  rw [h.issue, hes]
  dsimp only
  cases mk d c { index := 0, words := es.headD [], handle := none } with
  | error st => rfl
  | ok r => exact congrArg (fun t : Dev => t.holdIssued (eng 3 k) c.index) (if_neg (by rw [hb]; decide))

/-- A refusal writes no byte, and leaves the engine idle. -/
theorem Dev.reject_leaves {e : Eng} (hb : (d.ctx e).busy = []) (st i : Nat) :
    (((d.reject e c n st).holdIssued e i).core e.n).sp = (d.core e.n).sp ∧
      (((d.reject e c n st).holdIssued e i).ctx e).index = (d.ctx e).index + n ∧ (((d.reject e c n st).holdIssued e i).ctx e).busy = [] :=
  ⟨((Dev.Spared.reject d e c n st).trans (Dev.holdIssued_spared _ _ _)).sp _, Dev.reject_idle rfl hb n st i⟩

/-- What a delay of its accesses leaves of a command that has started with its plan. -/
theorem Dev.PlanLeft.marked {t : Dev} {e : Eng} {p : Plan} {f g : InFlight} (h : Dev.PlanLeft d t e p f) (hg : g.held = f.held) (i : Nat) :
    Dev.PlanLeft d (t.holdIssued e i) e p g := by
  have ho : g.outs = f.outs := (congrArg InFlight.outs hg :)
  have hs := Dev.holdIssued_spared t e i
  have hp := Dev.planOf_spared hs e
  obtain ⟨hdone, hheld⟩ := h
  refine ⟨fun hn => ?_, fun hn => ?_⟩
  · obtain ⟨h1, h2⟩ := hdone hn
    exact ⟨ho.trans h1, hp.trans h2⟩
  · obtain ⟨h1, h2, hu⟩ := hheld hn
    refine ⟨ho.trans h1, by rw [hp]; exact h2, hu.trans (.of_spared hs ?_ (.holdIssued t e i))⟩
    unfold Dev.holdIssued
    dsimp only
    split
    · rfl
    split
    · exact Dev.setCtx_sw _ _ _
    · exact Dev.setCtx_sw _ _ _

/-- Moves issue with their plans, or end with the status of what refuses them. -/
theorem move_issues {i : Instr} {es : List (List Nat)} (h : Issues s (eng 3 k) op c n d) (hb : (d.ctx (eng 3 k)).busy = [])
    (hes : d.exts (eng 3 k) c n = (.ok es, d)) {mk : Dev → Cmd → Cmd → Except Nat (Plan × Nat)} {sp : Cmd → Nat}
    (hx : exec i s = .next (s.setDev (s.dev.mvIssue k op mk sp))) {r : Except Nat (Plan × Nat)}
    (hr : r = mk d c { index := 0, words := es.headD [], handle := none }) :
    (∀ plan off, r = .ok (plan, off) → d.memWait (eng 3 k) (plan.runs.flatten ++ plan.writes) = none →
      ∃ t f, exec i s = .next t ∧ t.pending = s.pending ∧ t.sec = s.sec ∧ Started d t.dev (eng 3 k) c n f ∧
        (nearby (plan.runs.flatten ++ plan.writes) → Dev.PlanLeft d t.dev (eng 3 k) plan f)) ∧
    (∀ st, r = .error st →
      ∃ t, exec i s = .next t ∧ t.pending = s.pending ∧ t.sec = s.sec ∧ (t.dev.core k).sp = (d.core k).sp ∧
        (t.dev.ctx (eng 3 k)).index = (d.ctx (eng 3 k)).index + n ∧ (t.dev.ctx (eng 3 k)).busy = []) := by
  have hd := h.move hb hes mk sp
  rw [← hr] at hd
  refine ⟨fun plan off ho hm => ?_, fun st hst => ?_⟩
  · have start (space o : Nat) (hd : s.dev.mvIssue k op mk sp = (d.startPlan (eng 3 k) c n plan space o stOK).holdIssued (eng 3 k) c.index) :
        ∃ t f, exec i s = .next t ∧ t.pending = s.pending ∧ t.sec = s.sec ∧ Started d t.dev (eng 3 k) c n f ∧
          (nearby (plan.runs.flatten ++ plan.writes) → Dev.PlanLeft d t.dev (eng 3 k) plan f) := by
      obtain ⟨f, hf, -, hl⟩ := Dev.startPlan_leaves (c := c) (n := n) (Eng.inside_of_ok h.unit) hb hm (h.unswitched rfl) space o stOK
      obtain ⟨g, hg, hh⟩ := hf.marked c.index
      refine ⟨_, g, hx, s.setDev_pending _, s.setDev_sec _, ?_⟩
      rw [State.setDev_dev, hd]
      exact ⟨hg, fun hn => (hl hn).marked hh c.index⟩
    rw [ho] at hd
    dsimp only at hd
    split at hd
    · exact start _ _ hd
    · exact start _ _ hd
  · rw [hst] at hd
    refine ⟨_, hx, s.setDev_pending _, s.setDev_sec _, ?_⟩
    rw [State.setDev_dev, hd]
    exact Dev.reject_leaves hb st c.index

/-! ## Gathers -/

theorem Issues.gtRows {es : List (List Nat)} (h : Issues s (eng 4 k) 0x10 c n d) (hb : (d.ctx (eng 4 k)).busy = [])
    (hes : d.exts (eng 4 k) c n = (.ok es, d)) :
    s.dev.gtRows k = (match gtCheck d k c { index := 0, words := es.headD [], handle := none } with
      | .error st => d.reject (eng 4 k) c n st
      | .ok x => d.gtStart k c n x).holdIssued (eng 4 k) c.index := by
  unfold Dev.gtRows
  dsimp only
  rw [h.issue, hes]
  dsimp only
  cases gtCheck d k c { index := 0, words := es.headD [], handle := none } with
  | error st => rfl
  | ok r => exact congrArg (fun t : Dev => t.holdIssued (eng 4 k) c.index) (if_neg (by rw [hb]; decide))

/-- The plan of a gather. -/
def Gather.plan (g : Gather) : Plan := { runs := g.runs, xform := .copy, writes := g.writes, fill := g.fill, got := [], src := none }

theorem gtRows_key (hk : k < 64) : ¬startKey (K.GT_ROWS k).key := by
  have ht : ¬touchKey (K.GT_ROWS k).key := by
    refine not_touchKey ?_ ?_ ?_
    · simp only [tallyShape, recordKey, K.GT_ROWS]
      omega
    · simp only [K.GT_ROWS]
      omega
    · simp only [K.GT_ROWS]
      omega
  rintro ((h | h) | h)
  · exact ht h
  · simp only [K.GT_ROWS] at h
    omega
  · simp only [K.GT_ROWS] at h
    omega

/-- The records and the counts of a gather that has started. -/
def Dev.gtBook (a : Dev) (k : Nat) (c : Cmd) (fix bad : List Nat) (rows rb out un : Nat) : Dev :=
  let d1 := (a.spFix k fix).spRecords k 1 3 c.index c.op bad
  let y := d1.ctx (eng 4 k)
  let d1 := if fix.isEmpty then d1 else (d1.setCtx (eng 4 k) { y with spent := y.spent + 2 * fix.length }).engCount (eng 4 k) 9 (2 * fix.length)
  let d1 := (d1.cnt (K.GT_ROWS k) rows).cnt (K.GT_BYTES k) (rows * rb)
  (d1.cnt (K.GT_OUT_OF_RANGE k) out).cnt (K.GT_UNMAPPED k) un

theorem Dev.gtStart_books (d : Dev) (k : Nat) (c : Cmd) (n : Nat) (x : GtCall) {g : Gather} {bad : List Nat} (hg : d.gather k c x = (g, bad)) :
    d.gtStart k c n x = if ((d.startPlan (eng 4 k) c n g.plan x.dmem x.db g.status).ctx (eng 4 k)).index = (d.ctx (eng 4 k)).index
      then d.startPlan (eng 4 k) c n g.plan x.dmem x.db g.status
      else (d.startPlan (eng 4 k) c n g.plan x.dmem x.db g.status).gtBook k c (x.listKeys.filter (d.core k).fixes) bad g.rows x.rb g.out g.unmapped := by
  unfold Dev.gtStart
  rw [hg]
  rfl

theorem Dev.gtBook_leaves {a : Dev} {f : InFlight} (h : Started d a (eng 4 k) c n f) (hk : k < 64) (fix bad : List Nat) (rows rb out un : Nat) :
    Started d (a.gtBook k c fix bad rows rb out un) (eng 4 k) c n f ∧
      (a.gtBook k c fix bad rows rb out un).planOf (eng 4 k) = a.planOf (eng 4 k) ∧
      (a.gtBook k c fix bad rows rb out un).get (K.GT_ROWS k) = addSat 64 (a.get (K.GT_ROWS k)) rows := by
  unfold Dev.gtBook
  extract_lets d1 y d2 d3
  have h1 : Dev.Touched a d1 := Dev.Touched.trans (.foldl _ _ (fun d _ => d.spCorrected_touched _ _ _) a) (.foldl _ _ (fun d _ => d.spRecordEcc_touched _ _ _ _ _ _ _ _) _)
  have h2 : Started d d2 (eng 4 k) c n f ∧ d2.planOf (eng 4 k) = a.planOf (eng 4 k) ∧ Dev.ObjsBut touchKey a d2 := by
    have hs := h.of_ctx (h1.side.ctx (eng 4 k))
    have hp := Dev.planOf_side h1.side (eng 4 k)
    unfold d2
    split
    · exact ⟨hs, hp, h1.obj⟩
    · have hc : (d1.setCtx (eng 4 k) { y with spent := y.spent + 2 * fix.length }).ctx (eng 4 k) = { d1.ctx (eng 4 k) with spent := y.spent + 2 * fix.length } :=
        Dev.ctx_setCtx_self _ _ _
      have hcount := Dev.engCount_side (d1.setCtx (eng 4 k) { y with spent := y.spent + 2 * fix.length }) (eng 4 k) 9 (2 * fix.length)
      refine ⟨.of_ctx ?_ (hcount.ctx _), ?_, ?_⟩
      · exact ⟨by rw [hc]; exact hs.index, by rw [hc]; exact hs.popped, by rw [hc]; exact hs.busy, hs.names⟩
      · exact (Dev.planOf_side hcount _).trans ((Dev.planOf_spared (.setCtx d1 _ _) _).trans hp)
      · exact (h1.obj.trans (.of_objs (d1.setCtx_objs _ _))).trans ((Dev.engCount_tallied _ (e := eng 4 k) hk (by decide) _).obj.mono fun _ h => .inl h)
  obtain ⟨hs, hp, ho⟩ := h2
  clear_value d2
  have hrows : d2.get (K.GT_ROWS k) = a.get (K.GT_ROWS k) := ho _ fun ht => gtRows_key hk (.inl (.inl ht))
  have hside : Dev.Side d2 ((d3.cnt (K.GT_OUT_OF_RANGE k) out).cnt (K.GT_UNMAPPED k) un) :=
    (((Dev.put_side d2 _ _).trans (Dev.put_side _ _ _)).trans (Dev.put_side _ _ _)).trans (Dev.put_side _ _ _)
  refine ⟨hs.of_ctx (hside.ctx _), (Dev.planOf_side hside _).trans hp, ?_⟩
  rw [← hrows]
  refine ((Dev.get_put_ne _ _ ?_).trans ((Dev.get_put_ne _ _ ?_).trans ((Dev.get_put_ne _ _ ?_).trans (Dev.get_put_self _ _ _))))
  · simp [K.GT_ROWS, K.GT_UNMAPPED]
  · simp [K.GT_ROWS, K.GT_OUT_OF_RANGE]
  · simp [K.GT_ROWS, K.GT_BYTES]

/-- A gather in flight, its rows counted. -/
theorem Dev.gtStart_leaves (h : Issues s (eng 4 k) op c n d) (hb : (d.ctx (eng 4 k)).busy = []) (x : GtCall) {g : Gather} (hg : g = (d.gather k c x).1)
    (hm : d.memWait (eng 4 k) (g.runs.flatten ++ g.writes) = none) : ∃ f, Started d (d.gtStart k c n x) (eng 4 k) c n f ∧
      (d.gtStart k c n x).get (K.GT_ROWS k) = addSat 64 (d.get (K.GT_ROWS k)) g.rows ∧
      (nearby (g.runs.flatten ++ g.writes) → d.planHeld g.plan = none → (d.gtStart k c n x).PlanDone (eng 4 k) f) := by
  subst hg
  generalize hg : d.gather k c x = r at hm ⊢
  obtain ⟨g, bad⟩ := r
  rw [d.gtStart_books k c n x hg]
  dsimp only at hm ⊢
  have he := Eng.inside_of_ok h.unit
  obtain ⟨f, hf, ho, hl⟩ := Dev.startPlan_leaves (c := c) (n := n) (p := g.plan) he hb hm (h.unswitched rfl) x.dmem x.db g.status
  rw [if_neg (by obtain ⟨-, hpos, -⟩ := h.goes; rw [hf.index]; omega)]
  obtain ⟨hst, hp, hrows⟩ := Dev.gtBook_leaves hf he.1 (x.listKeys.filter (d.core k).fixes) bad g.rows x.rb g.out g.unmapped
  refine ⟨f, hst, hrows.trans (congrArg (addSat 64 · g.rows) (ho _ (gtRows_key he.1))), fun hnear hheld => ?_⟩
  obtain ⟨h1, h2⟩ := (hl hnear).1 hheld
  exact ⟨h1, hp.trans h2⟩

end
end Sys2Proof.Machine
end

section
/-! Proofs: what run-ahead reads ahead, where it stops, and what it leaves (R258, R259). -/
namespace Sys2Proof.Machine

/-! ## Reads of memory at window addresses take no notice of cores -/

/-- The device with other cores. -/
def Dev.withCores (x : Map Core) (d : Dev) : Dev := { d with cores := x }

section
variable (x : Map Core) (d : Dev)

theorem Dev.withCores_ite (p : Prop) [Decidable p] (a b : Dev) : Dev.withCores x (if p then a else b) = if p then a.withCores x else b.withCores x :=
  apply_ite (Dev.withCores x) p a b

theorem Dev.wakeDom_withCores (n : Nat) : (d.withCores x).wakeDom n = (d.wakeDom n).withCores x := by
  unfold Dev.wakeDom
  simp only [Dev.withCores_ite]
  rfl

theorem Dev.enqueue_withCores (l : Nat) (m : Msg) : (d.withCores x).enqueue l m = (d.enqueue l m).withCores x := by
  unfold Dev.enqueue
  simp only [Dev.withCores_ite, Dev.wakeDom_withCores]
  rfl

theorem Dev.send_withCores (m : Msg) (f : Bool) : ((d.withCores x).send m f).1 = (d.send m f).1.withCores x := by
  unfold Dev.send
  have hl : (d.withCores x).linkFor m f = d.linkFor m f := rfl
  rw [hl]
  cases d.linkFor m f with
  | none => rfl
  | some l => exact d.enqueue_withCores x l m

theorem Dev.notify_withCores (ev st i sub p : Nat) : (d.withCores x).notify ev st i sub p = (d.notify ev st i sub p).withCores x :=
  Dev.send_withCores x { d with msgId := d.msgId + 1 } _ false

theorem Dev.file_withCores (i : RecInfo) : (d.withCores x).file i = (d.file i).withCores x := by
  unfold Dev.file
  simp only [Dev.withCores_ite, ← Dev.notify_withCores]
  rfl

theorem Dev.hbmRecord_withCores (kind y st p idx op : Nat) : (d.withCores x).hbmRecord kind y st p idx op = (d.hbmRecord kind y st p idx op).withCores x :=
  Dev.file_withCores x (d.put (K.HBM_LAST_SYNDROME (y / chBytes / 16)) _) _

theorem Dev.lineLost_withCores (line kind p idx op : Nat) :
    (d.withCores x).lineLost line kind p idx op = (d.lineLost line kind p idx op).withCores x := by
  unfold Dev.lineLost
  extract_lets m d1 m' d2
  exact Dev.hbmRecord_withCores x (d2.cnt (K.HBM_UNCORR (line * 128 / chBytes / 16)) 1) _ _ _ _ _ _

theorem Dev.lineCorrected_withCores (line p idx op : Nat) :
    (d.withCores x).lineCorrected line p idx op = (d.lineCorrected line p idx op).withCores x := by
  unfold Dev.lineCorrected
  extract_lets d1 m1 d2 m2 d3 m3 d4 m4
  have hm : d2.mem = d4.mem := rfl
  rw [Dev.withCores_ite, ← Dev.hbmRecord_withCores, hm]
  rfl

theorem Dev.lineMet_withCores (line p idx op : Nat) (f : Finding) :
    (d.withCores x).lineMet line p idx op f = ((d.lineMet line p idx op f).1, (d.lineMet line p idx op f).2.withCores x) := by
  have hp : (d.withCores x).mem = d.mem := rfl
  unfold Dev.lineMet
  rw [Dev.lineLost_withCores, Dev.lineLost_withCores, Dev.lineCorrected_withCores, hp]
  split
  · rfl
  split
  · rfl
  cases f <;> rfl

theorem Dev.cacheTouch_withCores (line : Nat) (w al : Bool) (m : Nat) :
    (d.withCores x).cacheTouch line w al m = (d.cacheTouch line w al m).withCores x := by
  unfold Dev.cacheTouch
  extract_lets k own q base tree putLine d1 d2 pages allowed free way victim d3 own' tree' putLine' d1' d2' pages' allowed' free' way' victim' d3'
  have h2 : d2 = d2'.withCores x := by
    unfold d2 d2'
    rw [Dev.withCores_ite]
    rfl
  have ha : allowed = allowed' := by
    unfold allowed allowed' pages pages'
    rw [h2]
    rfl
  have hw : way = way' := by
    unfold way way' free free'
    rw [ha, h2]
    rfl
  have h3 : d3 = d3'.withCores x := by
    have hv : victim = victim' := by
      unfold victim victim'
      rw [hw, h2]
      rfl
    unfold d3 d3'
    rw [hv, h2]
    split <;> rfl
  have hway : (d.withCores x).cacheWay q line = d.cacheWay q line := rfl
  have hown : own = own' := rfl
  clear_value d2 d3 allowed way
  rw [hown, hway]
  split
  · rfl
  cases d.cacheWay q line with
  | some y => rfl
  | none =>
    dsimp only
    rw [ha, hw, h3, h2]
    split <;> rfl

/-- What a stain carries along its slots, with other cores. -/
def stainedOver (x : Map Core) (r : Nat × Nat × Dev) : Nat × Nat × Dev := (r.1, r.2.1, r.2.2.withCores x)

theorem Dev.stain_withCores (kind unit p : Nat) : (d.withCores x).stain kind unit p = stainedOver x (d.stain kind unit p) := by
  unfold Dev.stain
  refine List.foldl_hom (init := (0, 0, d)) (stainedOver x) fun r s => ?_
  dsimp only
  rw [apply_ite (stainedOver x)]
  rfl

theorem Dev.meter_withCores (p : Nat) (w : Bool) (n : Nat) : (d.withCores x).meter p w n = (d.meter p w n).withCores x := by
  unfold Dev.meter Dev.charge
  simp only [Dev.withCores_ite]
  rfl

theorem Dev.readLine_withCores (s : Iss) (line : Nat) :
    (d.withCores x).readLine s line = ((d.readLine s line).1, (d.readLine s line).2.withCores x) := by
  unfold Dev.readLine
  rw [Dev.cacheTouch_withCores, Dev.stain_withCores]
  generalize (d.cacheTouch line false s.alloc 0).stain 3 (0x4000 + line * 128 / chBytes / 16) s.part = r
  exact Dev.lineMet_withCores x (r.2.2.noteDelay r.2.1) line s.part s.index s.op (d.lineFlaw line)

theorem Dev.readLines_withCores (s : Iss) {ls : List Loc} (h : ls.any Loc.foreign = false) :
    (d.withCores x).readLines s ls = ((d.readLines s ls).1, (d.readLines s ls).2.1, (d.readLines s ls).2.2.withCores x) := by
  have hp : ls.map (d.withCores x).peek = ls.map d.peek := List.map_congr_left fun l hl => by
    rw [List.any_eq_false] at h
    cases l with
    | sp c m o => exact absurd rfl (h _ hl)
    | _ => rfl
  have hf : (hbmLines ls).foldl (fun (a : Bool × Dev) ln => (a.1 || (a.2.readLine s ln).1, (a.2.readLine s ln).2)) (false, d.withCores x) =
      Prod.map id (Dev.withCores x) ((hbmLines ls).foldl (fun (a : Bool × Dev) ln => (a.1 || (a.2.readLine s ln).1, (a.2.readLine s ln).2)) (false, d)) := by
    refine List.foldl_hom (init := (false, d)) (Prod.map id (Dev.withCores x)) fun a ln => ?_
    dsimp only [Prod.map]
    rw [Dev.readLine_withCores]
    rfl
  unfold Dev.readLines
  dsimp only
  rw [hp, hf]
  simp only [Prod.map, id]
  rw [Dev.meter_withCores]

theorem Dev.readRun_withCores (s : Iss) (e : Nat) {ls : List Loc} (h : ls.any Loc.foreign = false) :
    (d.withCores x).readRun s e ls = ((d.readRun s e ls).1, (d.readRun s e ls).2.1, (d.readRun s e ls).2.2.withCores x) := by
  have hb (a : Dev) : a.badWords ls = [] := wordsWhere_unowned h
  have hf (a : Dev) : a.fixWords ls = [] := wordsWhere_unowned h
  unfold Dev.readRun
  rw [Dev.readLines_withCores x d s h, hb, hb, hf, hf]
  rfl

theorem Dev.readWin_withCores (s : Iss) (w : Who) (a n : Nat) :
    (d.withCores x).readWin s w a n = ((d.readWin s w a n).1, (d.readWin s w a n).2.withCores x) := by
  have hr : (d.withCores x).xlateRun w a n = d.xlateRun w a n := rfl
  unfold Dev.readWin
  rw [hr]
  cases d.xlateRun w a n with
  | error st => rfl
  | ok ls =>
    dsimp only
    by_cases h : ls.any Loc.foreign = true
    · rw [if_pos h, if_pos h]
    · rw [if_neg h, if_neg h, Dev.readRun_withCores x d s 0 (Bool.eq_false_iff.mpr h)]

/-- A slot reads the same with other cores, where its engine has the same context. -/
theorem Dev.slot_withCores {e : Eng} (hc : (d.withCores x).ctx e = d.ctx e) (i : Nat) :
    (d.withCores x).slot e i = ((d.slot e i).1, (d.slot e i).2.withCores x) := by
  have hw : (d.withCores x).winLocking (d.engWho e) (d.listBase e + 32 * i) 32 = d.winLocking (d.engWho e) (d.listBase e + 32 * i) 32 := rfl
  have hbase : (d.withCores x).listBase e = d.listBase e := rfl
  have hdev : (d.withCores x).get K.DEVICE_NUMBER = d.get K.DEVICE_NUMBER := rfl
  have hiss : (d.withCores x).iss e i 0xFF = d.iss e i 0xFF := rfl
  have hwho : (d.withCores x).engWho e = d.engWho e := rfl
  unfold Dev.slot
  rw [hdev, hbase, hwho, hw, hiss, hc, Dev.readWin_withCores]
  split
  · rfl
  split
  · rfl
  · rfl

end
end Sys2Proof.Machine
end

section
/-! Proofs: run-ahead with an empty buffer, where it stops and what it takes up (R258, R259); O52. -/
namespace Sys2Proof.Machine

/-! ## The bytes that a scan takes up -/

theorem Map.length_ins_le {β : Type} (m : Map β) (k : Nat) (v : β) : (Map.ins m k v).length ≤ m.length + 1 := by
  induction m with
  | nil => exact Nat.le_refl 1
  | cons x m ih =>
    obtain ⟨k', v'⟩ := x
    unfold Map.ins
    split
    · exact Nat.le_refl _
    split
    · exact Nat.le_succ _
    · exact Nat.succ_le_succ ih

/-- A scan takes up no more bytes than the buffer has room for (R258). -/
theorem Dev.raScan_bytes (d : Dev) (w : Who) (room : Nat) (as : List Nat) (prev : Nat) (r : RaScan) (h : r.bytes.length ≤ room) :
    (d.raScan w room prev as r).bytes.length ≤ room := by
  induction as generalizing prev r with
  | nil => exact h
  | cons a as ih =>
    unfold Dev.raScan
    split
    · exact h
    next hroom =>
      split
      · split
        · exact h
        next l _ =>
          split
          · exact h
          · have hi := Map.length_ins_le r.bytes a (d.peek l)
            have hb (lost : Bool) : (if lost then r.bytes else Map.ins r.bytes a (d.peek l)).length ≤ room := by cases lost <;> simp <;> omega
            exact ih a _ (hb _)
      · exact h

/-! ## The buffer of a core -/

section
variable {d : Dev} {k : Nat}

/-- A stop is counted once for its command; what run-ahead has read, the queues and the scratchpads stand. -/
theorem Dev.raCount_leaves (d : Dev) (k i reason : Nat) : ((d.raCount k i reason).core k).ra = (d.core k).ra ∧
    ((d.raCount k i reason).core k).hq = (d.core k).hq ∧ ((d.raCount k i reason).core k).sp = (d.core k).sp := by
  unfold Dev.raCount
  dsimp only
  split
  · exact ⟨rfl, rfl, rfl⟩
  · have hc : ((d.setCore k { d.core k with raStop := i * 16 + reason }).cnt (K.RA_STOPS k (reason - 1)) 1).core k =
        { d.core k with raStop := i * 16 + reason } := Dev.core_setCore_self _ _ _
    rw [hc]
    exact ⟨rfl, rfl, rfl⟩

theorem Dev.raCount_counts {i reason : Nat} (h : (d.core k).raStop = 0) (hi : 1 ≤ i) (hr : reason ≠ 0) :
    (d.raCount k i reason).get (K.RA_STOPS k (reason - 1)) = addSat 64 (d.get (K.RA_STOPS k (reason - 1))) 1 := by
  unfold Dev.raCount
  dsimp only
  have hn : ¬((reason = 0 || (d.core k).raStop = i * 16 + reason) = true) := by
    rw [h]
    simp only [Bool.or_eq_true, decide_eq_true_eq]
    omega
  rw [if_neg hn]
  exact Dev.get_put_self _ _ _

/-- What run-ahead takes up for a command of which it has read nothing. -/
theorem Dev.raRead_takes (h : (d.core k).ra = []) (op i j : Nat) (runs : List (Nat × Nat)) :
    ∃ y, ((d.raRead k op runs { index := i, next := j, bytes := [] }).core k).ra = [y] ∧ y.index = i ∧ y.next = j ∧ y.bytes.length ≤ 131072 ∧
      ((d.raRead k op runs { index := i, next := j, bytes := [] }).core k).hq = (d.core k).hq ∧
      ((d.raRead k op runs { index := i, next := j, bytes := [] }).core k).sp = (d.core k).sp := by
  unfold Dev.raRead
  extract_lets e k0 rest room as from' s iss lines d1 d2 d3 k1 y
  have hrest : rest = [] := by
    unfold rest k0
    rw [h]
    rfl
  have hroom : room = 131072 := by
    unfold room
    rw [hrest]
    rfl
  have hs : s.bytes.length ≤ 131072 := by
    rw [← hroom]
    exact Dev.raScan_bytes _ _ _ _ _ _ (Nat.zero_le _)
  have h1 : d1.cores = d.cores := Dev.foldl_cores id _ _ (fun a ln => by
    dsimp only [id]
    split
    · exact a.cacheTouch_cores _ _ _ _
    · exact a.readLine_cores _ _) d
  have h3 : d3.cores = d.cores := by
    refine (Dev.foldl_cores id Dev.wakeDom _ (fun a n => (a.wakeDom_sent n).cores) d2).trans ?_
    exact (d1.meter_cores _ _ _).trans h1
  have hk : k1 = d.core k := by
    unfold k1 Dev.core
    rw [h3]
  clear_value s d3 rest k1
  obtain ⟨hra, hhq, hsp⟩ := ((d3.setCore k { k1 with ra := rest ++ [y] }).cnt (K.RA_BYTES k) (s.bytes.length - 0)).raCount_leaves k i s.stop
  have hc : ((d3.setCore k { k1 with ra := rest ++ [y] }).cnt (K.RA_BYTES k) (s.bytes.length - 0)).core k = { k1 with ra := rest ++ [y] } :=
    Dev.core_setCore_self _ _ _
  rw [hc] at hra hhq hsp
  refine ⟨y, hra.trans ?_, rfl, rfl, hs, hhq.trans ?_, hsp.trans ?_⟩
  · rw [hrest]
    rfl
  · rw [hk]
  · rw [hk]

/-- The device whose run-ahead buffer is emptied of commands that are past. -/
def Dev.raReady (d : Dev) (k : Nat) : Dev := d.setCore k { d.core k with ra := [] }

theorem Dev.raReady_core (d : Dev) (k : Nat) : (d.raReady k).core k = { d.core k with ra := [] } := Dev.core_setCore_self _ _ _

theorem Dev.raReady_ctx (d : Dev) (k : Nat) (e : Eng) : (d.raReady k).ctx e = d.ctx e :=
  Dev.ctx_setCore d k (x := { d.core k with ra := [] }) rfl e

/-- The slots of a command are read the same. -/
theorem Dev.raReady_slot (d : Dev) (k : Nat) (e : Eng) (i : Nat) : ∃ x, (d.raReady k).slot e i = ((d.slot e i).1, x) ∧ x.cores = (d.raReady k).cores :=
  ⟨_, Dev.slot_withCores (d.raReady k).cores d (d.raReady_ctx k e) i, rfl⟩

theorem Dev.runAheadRead_next (hr : d.running (eng 3 k) = true) (hf : (d.ctx (eng 3 k)).fetched = true) (hi : 1 ≤ (d.ctx (eng 3 k)).index)
    (hen : d.flag (K.RA_ENABLE k) = true) (hra : (d.core k).ra = []) :
    ∃ runs, d.runAheadRead k = (d.raReady k).raNext k (d.ctx (eng 3 k)).index runs := by
  unfold Dev.runAheadRead
  extract_lets e x k0 d1 k1 cmdAt runsAt
  have hd : d1 = d.raReady k := by
    unfold d1 Dev.raReady
    rw [hra]
    rfl
  have hk : k1.ra = [] := by
    unfold k1
    rw [hd, Dev.raReady_core]
  refine ⟨runsAt, ?_⟩
  have hn : ¬((!d.running e || !x.fetched || decide (x.index = 0) || !d.flag (K.RA_ENABLE k)) = true) := by
    have h0 : x.index ≠ 0 := Nat.one_le_iff_ne_zero.mp hi
    rw [show d.running e = true from hr, show x.fetched = true from hf, hen]
    simp [h0]
  rw [if_neg hn, hk, hd]
  rfl

end

/-! ## Where run-ahead stops -/

section
variable {d t : Dev} {k i : Nat} {ws : List Nat} {c : Cmd}

/-- What the next command of the list makes of run-ahead. -/
theorem Dev.raNext_of (hn : i ≤ (d.ctx (eng 3 k)).count) (hs : d.slot (eng 3 k) i = (.ok ws, t)) (hc : c = { index := i, words := ws, handle := none })
    (runs : Nat → List (Nat × Nat)) : ∃ x : Dev, x.cores = (d.raReady k).cores ∧
      (d.raReady k).raNext k i runs =
        if c.op = 1 then (d.raReady k).raCount k i 5
        else if (c.op ≠ 0 && c.flag 15) = true then (d.raReady k).raCount k i 6
        else if d.now + d.get (K.RA_WINDOW k) < d.release (eng 3 k) (c.w 1) then (d.raReady k).raCount k i 7
        else if d.get (K.RA_DEPTH k) = 0 then (d.raReady k).raCount k i 8
        else x.raRead k c.op (runs i) { index := i, next := i + slotsOf 3 c.op (c.w 2), bytes := [] } := by
  obtain ⟨y, hy, hcores⟩ := d.raReady_slot k (eng 3 k) i
  rw [hs] at hy
  refine ⟨(List.range (slotsOf 3 c.op (c.w 2) - 1)).foldl (fun d j => (d.slot (eng 3 k) (i + 1 + j)).2) y,
    (Dev.foldl_cores id _ _ (fun a j => a.slot_cores _ _) y).trans hcores, ?_⟩
  have hz : (d.raReady k).get (K.RA_DEPTH k) ≤ ((d.raReady k).core k).ra.length ↔ d.get (K.RA_DEPTH k) = 0 := by
    rw [Dev.raReady_core]
    exact Nat.le_zero
  unfold Dev.raNext
  dsimp only
  rw [hy, d.raReady_ctx, if_neg (Nat.not_lt.mpr hn), hc]
  dsimp only
  rw [if_congr hz rfl rfl]
  rfl

end

/-- RUN_AHEAD_READ with an empty buffer: a stop of its kind, counted, or the next command taken up. -/
theorem runAhead_reads {s : State} {k i : Nat} {ws : List Nat} {t : Dev} {c : Cmd} (hk : k < 64) (hl : s.stopped = false)
    (hr : s.dev.running (eng 3 k) = true) (hf : (s.dev.ctx (eng 3 k)).fetched = true) (hi : i = (s.dev.ctx (eng 3 k)).index) (h1 : 1 ≤ i)
    (hn : i ≤ (s.dev.ctx (eng 3 k)).count) (hen : s.dev.flag (K.RA_ENABLE k) = true) (hra : (s.dev.core k).ra = [])
    (hstop : (s.dev.core k).raStop = 0) (hs : s.dev.slot (eng 3 k) i = (.ok ws, t)) (hc : c = { index := i, words := ws, handle := none })
    {stops : Nat → Prop} (hstops : stops = fun reason => ∃ t, exec (.runAheadRead k) s = .next t ∧ t.pending = s.pending ∧ t.sec = s.sec ∧
      (t.dev.core k).ra = [] ∧ t.dev.get (K.RA_STOPS k (reason - 1)) = addSat 64 (s.dev.get (K.RA_STOPS k (reason - 1))) 1) :
    (c.op = 1 → stops 5) ∧
    (c.op ≠ 1 → c.op ≠ 0 ∧ c.flag 15 = true → stops 6) ∧
    (c.op ≠ 1 → c.op = 0 ∨ c.flag 15 = false → s.dev.now + s.dev.get (K.RA_WINDOW k) < s.dev.release (eng 3 k) (c.w 1) → stops 7) ∧
    (c.op ≠ 1 → c.op = 0 ∨ c.flag 15 = false → s.dev.release (eng 3 k) (c.w 1) ≤ s.dev.now + s.dev.get (K.RA_WINDOW k) →
      (s.dev.get (K.RA_DEPTH k) = 0 → stops 8) ∧
      (0 < s.dev.get (K.RA_DEPTH k) →
        ∃ t y, exec (.runAheadRead k) s = .next t ∧ t.pending = s.pending ∧ t.sec = s.sec ∧ (t.dev.core k).ra = [y] ∧
          y.index = i ∧ y.next = i + slotsOf 3 c.op (c.w 2) ∧ y.bytes.length ≤ 131072 ∧
          (∀ q, t.dev.hq k q = s.dev.hq k q) ∧ (t.dev.core k).sp = (s.dev.core k).sp)) := by
  have hx : exec (.runAheadRead k) s = .next (s.setDev (s.dev.runAheadRead k)) :=
    onUnit_next (f := fun d => d.runAheadRead k) (decide_eq_true hk) hl
  obtain ⟨runs, hnext⟩ := Dev.runAheadRead_next hr hf (by rw [← hi]; exact h1) hen hra
  obtain ⟨x, hxc, hways⟩ := Dev.raNext_of hn hs hc runs
  rw [← hi, hways] at hnext
  have stop {reason : Nat} (hreason : reason ≠ 0) (he : s.dev.runAheadRead k = (s.dev.raReady k).raCount k i reason) : stops reason := by
    rw [hstops]
    refine ⟨_, hx, s.setDev_pending _, s.setDev_sec _, ?_⟩
    rw [State.setDev_dev, he]
    refine ⟨((s.dev.raReady k).raCount_leaves k i reason).1.trans (by rw [Dev.raReady_core]), ?_⟩
    exact Dev.raCount_counts (by rw [Dev.raReady_core]; exact hstop) h1 hreason
  have free (h : c.op = 0 ∨ c.flag 15 = false) : ¬(c.op ≠ 0 && c.flag 15) = true := by
    rcases h with h | h <;> simp [h]
  refine ⟨fun hop => ?_, fun hop horder => ?_, fun hop horder hfar => ?_, fun hop horder hnear => ⟨fun hz => ?_, fun hp => ?_⟩⟩
  · rw [if_pos hop] at hnext
    exact stop (by decide) hnext
  · rw [if_neg hop, if_pos (by simp [horder.1, horder.2])] at hnext
    exact stop (by decide) hnext
  · rw [if_neg hop, if_neg (free horder), if_pos hfar] at hnext
    exact stop (by decide) hnext
  · rw [if_neg hop, if_neg (free horder), if_neg (Nat.not_lt.mpr hnear), if_pos hz] at hnext
    exact stop (by decide) hnext
  · rw [if_neg hop, if_neg (free horder), if_neg (Nat.not_lt.mpr hnear), if_neg (Nat.ne_of_gt hp)] at hnext
    have hcore : x.core k = { s.dev.core k with ra := [] } := by
      rw [← s.dev.raReady_core k]
      unfold Dev.core
      rw [hxc]
    obtain ⟨y, hy, hyi, hyn, hyb, hhq, hsp⟩ := Dev.raRead_takes (d := x) (k := k) (by rw [hcore]) c.op i (i + slotsOf 3 c.op (c.w 2)) (runs i)
    rw [hcore] at hhq hsp
    refine ⟨_, y, hx, s.setDev_pending _, s.setDev_sec _, ?_⟩
    rw [State.setDev_dev, hnext]
    refine ⟨hy, hyi, hyn, hyb, fun q => ?_, hsp⟩
    unfold Dev.hq
    rw [hhq]

/-- Settles O52: a plan behind its command goes on as far as the array lets it, and run-ahead stops or reads. -/
theorem movesIssue : Obligations.MovesIssue := by
  refine ⟨⟨fun s i k op c n d es x r hx hi h hb hes => ?_, fun s k c n d es r h hb hes hr => ⟨fun x g ho hg hm => ?_, fun st hst => ?_⟩⟩,
    fun s k i ws d c stops hk hl hr hf hi h1 hn hen hra hstop hs hc hstops => runAhead_reads hk hl hr hf hi h1 hn hen hra hstop hs hc hstops⟩
  · subst hx
    have unit := decide_eq_true (Eng.inside_of_ok h.unit).1
    obtain ⟨mk, sp, he, hr⟩ : ∃ mk sp, exec i s = .next (s.setDev (s.dev.mvIssue k op mk sp)) ∧
        r = mk d c { index := 0, words := es.headD [], handle := none } := by
      rcases hi with ⟨rfl, rfl, hr⟩ | ⟨rfl, rfl, hr⟩ | ⟨rfl, rfl, hr⟩ | ⟨rfl, rfl, hr⟩
      · exact ⟨_, _, onUnit_next (f := fun d => d.mvCopy k) unit h.live, hr⟩
      · exact ⟨_, _, onUnit_next (f := fun d => d.mvCopy2d k) unit h.live, hr⟩
      · exact ⟨_, _, onUnit_next (f := fun d => d.mvTload k) unit h.live, hr⟩
      · exact ⟨_, _, onUnit_next (f := fun d => d.mvSpload k) unit h.live, hr⟩
    obtain ⟨hok, herr⟩ := move_issues h hb hes he hr
    refine ⟨fun plan off ho hm => ?_, herr⟩
    obtain ⟨t, f, he, hpend, hsec, hf, hleft⟩ := hok plan off ho hm
    refine ⟨t, f, he, hpend, hsec, hf, fun hn => ⟨(hleft hn).1, fun hh => ?_⟩⟩
    obtain ⟨ho, hp, hu⟩ := (hleft hn).2 hh
    exact ⟨ho, hp, hu.sp k, hu.stored⟩
  · have hd := h.gtRows hb hes
    rw [← hr, ho] at hd
    obtain ⟨f, hf, hrows, hdone⟩ := Dev.gtStart_leaves h hb x hg hm
    obtain ⟨f', hf', hh⟩ := hf.marked c.index
    refine ⟨_, f', onUnit_next (f := fun d => d.gtRows k) (decide_eq_true (Eng.inside_of_ok h.unit).1) h.live, s.setDev_pending _, s.setDev_sec _, ?_⟩
    rw [State.setDev_dev, hd]
    refine ⟨hf', ?_, fun hn hheld => ?_⟩
    · exact ((Dev.holdIssued_marked _ _ _).obj _).trans hrows
    · obtain ⟨h1, h2⟩ := hdone hn hheld
      exact ⟨(congrArg InFlight.outs hh :).trans h1, (Dev.planOf_spared (Dev.holdIssued_spared _ _ _) _).trans h2⟩
  · have hd := h.gtRows hb hes
    rw [← hr, hst] at hd
    refine ⟨_, onUnit_next (f := fun d => d.gtRows k) (decide_eq_true (Eng.inside_of_ok h.unit).1) h.live, s.setDev_pending _, s.setDev_sec _, ?_⟩
    rw [State.setDev_dev, hd]
    exact Dev.reject_leaves hb st c.index
end Sys2Proof.Machine
end

section
/-! Proofs: copies between the scratchpads of one core (R249, R251): what a plan of places in a sound core's scratchpads reads and writes. -/
namespace Sys2Proof.Machine

/-! ## Places in a scratchpad -/

/-- The places of offsets in a scratchpad of a core. -/
def spAt (c m : Nat) (os : List Nat) : List Place := os.map fun o => (0, Loc.sp c m o)

section
variable (c m : Nat) (os : List Nat)

theorem spAt_flatten (oss : List (List Nat)) : (oss.map (spAt c m)).flatten = spAt c m oss.flatten := List.map_flatten.symm

theorem nearby_append {a b : List Place} (ha : nearby a) (hb : nearby b) : nearby (a ++ b) := fun x hx =>
  (List.mem_append.mp hx).elim (ha x) (hb x)

theorem nearby_spAt : nearby (spAt c m os) := fun x hx a h => by
  obtain ⟨o, -, rfl⟩ := List.mem_map.mp hx
  cases h

theorem readHere_spAt (got : Map Byte) : readHere got (spAt c m os) = os.map (Loc.sp c m) := by
  unfold readHere spAt
  rw [List.filterMap_map, ← List.filterMap_eq_map]
  rfl

theorem hbmLines_sp : hbmLines (os.map (Loc.sp c m)) = [] := by
  unfold hbmLines
  rw [List.foldl_map]
  exact List.foldlRecOn (motive := fun a : List Nat => a = []) os _ rfl fun a ha o _ => ha

theorem wordsWhere_none {d : Dev} {c : Nat} {f : Core → Nat → Bool} (h : ∀ key, f (d.core c) key = false) (m : Nat) (os : List Nat) :
    d.wordsWhere f (os.map (Loc.sp c m)) = [] := by
  unfold Dev.wordsWhere
  rw [List.foldl_map]
  rw [List.foldlRecOn (motive := fun a : List (Nat × Nat × Nat) => a = []) os _ rfl fun a ha o _ => ?_]
  · rfl
  · dsimp only
    rw [h, if_neg Bool.false_ne_true]
    exact ha

theorem mergeBytes_spAt (got : Map Byte) (fr : Nat) (f : Nat → Byte) : mergeBytes (spAt c m os) got (os.map f) fr = (os.map f, 0) := by
  induction os with
  | nil => rfl
  | cons o os ih =>
    unfold spAt mergeBytes
    rw [List.map_cons]
    dsimp only
    show ((f o :: (mergeBytes (spAt c m os) got (os.map f) fr).1), (mergeBytes (spAt c m os) got (os.map f) fr).2) = _
    rw [ih]
    rfl

end

/-! ## What a sound core's scratchpads give -/

section
variable {d : Dev} {c : Nat} (h : (d.core c).Sound)
include h

theorem Dev.peek_sp (m o : Nat) : d.peek (.sp c m o) = (d.core c).byte m o := by
  unfold Dev.peek
  dsimp only
  rw [if_neg (by unfold Core.bad; rw [h.badWord]; exact Bool.false_ne_true)]

theorem Dev.readLines_sp (s : Iss) (m : Nat) (os : List Nat) :
    d.readLines s (os.map (Loc.sp c m)) = (os.map ((d.core c).byte m), false, d) := by
  have hp : (os.map (Loc.sp c m)).map d.peek = os.map ((d.core c).byte m) := by
    rw [List.map_map]
    exact List.map_congr_left fun o _ => Dev.peek_sp h m o
  unfold Dev.readLines
  rw [hbmLines_sp, hp]
  extract_lets bytes lines n
  have hn : n = 0 := by
    refine List.countP_eq_zero.mpr fun l hl => ?_
    obtain ⟨o, -, rfl⟩ := List.mem_map.mp hl
    exact Bool.false_ne_true
  show (bytes, false, d.meter s.part false n) = _
  rw [show d.meter s.part false n = d from if_pos hn]

/-- One run of a plan's reads. -/
def Dev.readRunOf (s : Iss) (got : Map Byte) (a : List Byte × Bool × Dev) (r : List Place) : List Byte × Bool × Dev :=
  let (bs, bad, d) := a.2.2.readLines s (readHere got r)
  let (out, n) := mergeBytes r got bs d.free
  (a.1 ++ out, a.2.1 || bad, { d with free := d.free + n })

theorem Dev.readRunOf_sp (s : Iss) (got : Map Byte) (acc : List Byte) (m : Nat) (os : List Nat) :
    Dev.readRunOf s got (acc, false, d) (spAt c m os) = (acc ++ os.map ((d.core c).byte m), false, d) := by
  unfold Dev.readRunOf
  rw [readHere_spAt, Dev.readLines_sp h]
  dsimp only
  rw [mergeBytes_spAt]
  rfl

theorem Dev.foldl_readRunOf_sp (s : Iss) (got : Map Byte) (acc : List Byte) (m : Nat) (oss : List (List Nat)) :
    (oss.map (spAt c m)).foldl (Dev.readRunOf s got) (acc, false, d) = (acc ++ oss.flatten.map ((d.core c).byte m), false, d) := by
  induction oss generalizing acc with
  | nil => exact congrArg (·, false, d) (List.append_nil acc).symm
  | cons os oss ih =>
    rw [List.map_cons, List.foldl_cons, Dev.readRunOf_sp h, ih, List.flatten_cons, List.map_append, List.append_assoc]

/-- The reads of a plan, all in one scratchpad, give its bytes and change nothing. -/
theorem Dev.readRuns_sp (e : Eng) (f : InFlight) (p : Plan) (m : Nat) (oss : List (List Nat)) :
    d.readRuns e f p (oss.map (spAt c m)) = (oss.flatten.map ((d.core c).byte m), false, d) := by
  have hfix : d.fixWords (oss.flatten.map (Loc.sp c m)) = [] := wordsWhere_none (fun key => by
    unfold Core.fixes
    rw [h.flaw]
    rfl) m _
  have hbad : d.badWords (oss.flatten.map (Loc.sp c m)) = [] := wordsWhere_none h.badWord m _
  have hacc : d.accUnreadable (oss.flatten.map (Loc.sp c m)) = false := by
    have hl : accLines (oss.flatten.map (Loc.sp c m)) = [] := by
      unfold accLines
      rw [List.filterMap_map]
      exact congrArg List.eraseDups (List.filterMap_eq_nil_iff.mpr fun o _ => rfl)
    unfold Dev.accUnreadable
    rw [hl]
    exact Bool.and_false _
  unfold Dev.readRuns
  rw [spAt_flatten, readHere_spAt]
  extract_lets ls ws fix d1 x d2 r
  have h2 : d2 = d := by
    have h1 : d1 = d := by
      unfold d1
      rw [show fix = [] from hfix]
      rfl
    unfold d2
    rw [if_pos (by rw [show fix = [] from hfix]; rfl), h1]
  have hr : r = (oss.flatten.map ((d.core c).byte m), false, d) := by
    have hstart : (([], !ws.isEmpty || d2.accUnreadable ls, d2) : List Byte × Bool × Dev) = ([], false, d) := by
      rw [h2, show ws = [] from hbad, show d.accUnreadable ls = false from hacc]
      rfl
    unfold r
    rw [hstart, h2]
    exact Dev.foldl_readRunOf_sp h _ p.got [] m oss
  rw [hr, show ws = [] from hbad]
  rfl

end

/-! ## What a sound core's scratchpads take -/

theorem Dev.setCtx_mem (d : Dev) (e : Eng) (x : EngCtx) : (d.setCtx e x).mem = d.mem := by
  unfold Dev.setCtx
  split
  · rfl
  · split <;> rfl

section
variable (c m : Nat)

/-- Bytes on their way to a scratchpad. -/
def spBytes (g : List (Nat × Byte)) : List (Loc × Byte) := g.map fun x => (Loc.sp c m x.1, x.2)

theorem chunks_spBytes (x : Nat × Byte) (g : List (Nat × Byte)) : chunks (spBytes c m (x :: g)) = [.sp c m (x :: g)] := by
  induction g generalizing x with
  | nil => rfl
  | cons y g ih =>
    have hy := ih y
    unfold chunks spBytes at hy ⊢
    rw [List.map_cons, List.foldr_cons, hy]
    exact if_pos (by simp)

theorem spBytes_zip (os : List Nat) (bs : List Byte) : (spAt c m os).zip bs = (os.zip bs).map fun x => ((0, Loc.sp c m x.1), x.2) := by
  unfold spAt
  rw [List.zip_map_left]
  rfl

end

section
variable {d : Dev} {c : Nat} (h : (d.core c).Sound)
include h

theorem Dev.writeRun_sp (s : Iss) (e m : Nat) (g : List (Nat × Byte)) :
    (d.writeRun s e (spBytes c m g)).1 = false ∧ (d.writeRun s e (spBytes c m g)).2.mem = d.mem ∧
      ((d.writeRun s e (spBytes c m g)).2.core c).sp = ((d.core c).write m g).1.sp := by
  have hn : (spBytes c m g).countP (fun b => match b.1 with | .hbm _ => true | _ => false) = 0 := by
    refine List.countP_eq_zero.mpr fun l hl => ?_
    obtain ⟨o, -, rfl⟩ := List.mem_map.mp hl
    exact Bool.false_ne_true
  obtain ⟨hw, -, -⟩ := Core.write_sound h m g
  unfold Dev.writeRun
  extract_lets r
  generalize hcount : List.countP _ _ = n
  rw [show r.2.meter s.part true n = r.2 from if_pos (hcount.symm.trans hn)]
  cases g with
  | nil => exact ⟨rfl, rfl, rfl⟩
  | cons x g =>
    have hr : r = (false, d.setCore c ((d.core c).write m (x :: g)).1) := by
      unfold r
      rw [chunks_spBytes]
      show ((false || !((d.core c).write m (x :: g)).2.isEmpty), (d.setCore c _).spRecords c m e s.index s.op ((d.core c).write m (x :: g)).2) = _
      rw [hw]
      rfl
    rw [hr]
    exact ⟨rfl, rfl, by rw [Dev.core_setCore_self]⟩

/-- The write stage of a plan whose places are in one scratchpad writes its bytes there, and no other. -/
theorem Dev.putBytes_sp (f : InFlight) {p : Plan} (m : Nat) (os : List Nat) (hp : p.writes = spAt c m os) (bs : List Byte) :
    ((d.putBytes (eng 3 c) f p bs false).core c).sp = ((d.core c).write m (os.zip bs)).1.sp ∧ (d.putBytes (eng 3 c) f p bs false).mem = d.mem := by
  unfold Dev.putBytes
  extract_lets pairs loc fab far src
  have hpairs : pairs = (os.zip bs).map fun x => ((0, Loc.sp c m x.1), x.2) := by
    unfold pairs
    rw [hp, spBytes_zip]
  have hloc : loc = spBytes c m (os.zip bs) := by
    unfold loc
    rw [hpairs, List.filterMap_map]
    exact List.filterMap_eq_map_iff_forall_eq_some.mpr fun _ _ => rfl
  have hfab : fab = [] := by
    unfold fab
    rw [hpairs, List.filterMap_map]
    exact List.filterMap_eq_nil_iff.mpr fun x _ => rfl
  have hfar : far = [] := by
    unfold far
    rw [hpairs, List.filterMap_map]
    exact List.filterMap_eq_nil_iff.mpr fun x _ => rfl
  have hw := Dev.writeRun_sp h (d.iss (eng 3 c) f.index f.op) ((eng 3 c).k - 1) m (os.zip bs)
  clear_value loc fab far
  subst hloc hfab hfar
  generalize d.writeRun (d.iss (eng 3 c) f.index f.op) ((eng 3 c).k - 1) (spBytes c m (os.zip bs)) = w at hw ⊢
  obtain ⟨bad, d1⟩ := w
  obtain ⟨-, hmem, hsp⟩ := hw
  dsimp -zeta only at hmem hsp ⊢
  rw [show d1.tellFar (eng 3 c) f.index f.attempt [] = ([], stOK, d1) from rfl]
  dsimp -zeta only
  extract_lets d2 x d3 st d4
  have hk : (eng 3 c).k = 3 := rfl
  have h2 : d2 = d1 := by
    unfold d2 Dev.addSlotDigest
    dsimp only
    rw [if_pos hk, if_pos (by simp)]
  have h4 : (d4.core c).sp = (d2.core c).sp ∧ d4.mem = d2.mem := by
    refine ⟨?_, (Dev.setCtx_mem _ _ _).trans rfl⟩
    rw [(Dev.setFlight_spared _ _ _).sp, (Dev.setPlan_untouched _ _ _).sp]
    exact (congrArg Core.sp (Dev.core_setCore_self d2 c _) :)
  clear_value d4
  rw [if_pos hk]
  exact ⟨h4.1.trans (by rw [h2, hsp]), h4.2.trans (by rw [h2, hmem])⟩

end
end Sys2Proof.Machine
end

section
/-! Proofs: MV_COPY and MV_COPY2D within their core copy the source, and change no other byte (R249, R251); O53. -/
namespace Sys2Proof.Machine

/-! ## Two runs of places that share none -/

/-- Every offset of a span is that of a place. -/
theorem spansOf_places {ps : List Place} {x : Nat × Nat × Nat} (h : x ∈ spansOf ps) :
    0 < x.2.2 ∧ ∀ o, x.2.1 ≤ o → o < x.2.1 + x.2.2 → ∃ p ∈ ps, p.2.spot = some (x.1, o) := by
  induction ps generalizing x with
  | nil => cases h
  | cons p ps ih =>
    have keep {y : Nat × Nat × Nat} (hy : y ∈ spansOf ps) :
        0 < y.2.2 ∧ ∀ o, y.2.1 ≤ o → o < y.2.1 + y.2.2 → ∃ q ∈ p :: ps, q.2.spot = some (y.1, o) := by
      obtain ⟨hpos, hall⟩ := ih hy
      refine ⟨hpos, fun o h1 h2 => ?_⟩
      obtain ⟨q, hq, hs⟩ := hall o h1 h2
      exact ⟨q, List.mem_cons_of_mem _ hq, hs⟩
    have one {k o : Nat} (hp : p.2.spot = some (k, o)) :
        0 < (k, o, 1).2.2 ∧ ∀ i, (k, o, 1).2.1 ≤ i → i < (k, o, 1).2.1 + (k, o, 1).2.2 → ∃ q ∈ p :: ps, q.2.spot = some ((k, o, 1).1, i) := by
      refine ⟨Nat.one_pos, fun i h1 h2 => ⟨p, List.mem_cons_self, ?_⟩⟩
      dsimp only at h1 h2
      rw [hp, show i = o by omega]
    unfold spansOf at h
    rw [List.foldr_cons] at h
    change x ∈ (match p.2.spot, spansOf ps with
      | none, _ => spansOf ps
      | some (k, o), (k', s, n) :: r => if k = k' && o + 1 = s then (k, o, n + 1) :: r else (k, o, 1) :: spansOf ps
      | some (k, o), [] => [(k, o, 1)]) at h
    split at h
    · exact keep h
    next k o k' s n r hp hl =>
      split at h
      next hc =>
        simp only [Bool.and_eq_true, decide_eq_true_eq] at hc
        obtain ⟨rfl, rfl⟩ := hc
        rcases List.mem_cons.mp h with rfl | h
        · obtain ⟨-, hall⟩ := keep (y := (k, o + 1, n)) (by rw [hl]; exact List.mem_cons_self)
          refine ⟨Nat.succ_pos n, fun i h1 h2 => ?_⟩
          dsimp only at h1 h2 hall
          by_cases hi : i = o
          · exact ⟨p, List.mem_cons_self, by rw [hp, hi]⟩
          · exact hall i (by omega) (by omega)
        · exact keep (by rw [hl]; exact List.mem_cons_of_mem _ h)
      · rcases List.mem_cons.mp h with rfl | h
        · exact one hp
        · exact keep h
    next k o hp hl =>
      rw [List.mem_singleton.mp h]
      exact one hp

theorem meets_apart {a b : List Place} (h : ∀ x ∈ a, ∀ y ∈ b, ∀ s, x.2.spot = some s → y.2.spot ≠ some s) : meets a b = false := by
  unfold meets
  simp only [List.any_eq_false, List.any_eq_true, Bool.and_eq_true, beq_iff_eq, decide_eq_true_eq, not_exists, not_and]
  rintro x hx y hy ⟨hk, h1⟩ h2
  obtain ⟨hxpos, hxall⟩ := spansOf_places hx
  obtain ⟨hypos, hyall⟩ := spansOf_places hy
  obtain ⟨p, hp, hps⟩ := hxall (max x.2.1 y.2.1) (by omega) (by omega)
  obtain ⟨q, hq, hqs⟩ := hyall (max x.2.1 y.2.1) (by omega) (by omega)
  exact h p hp q hq _ hps (hk ▸ hqs)

/-! ## Rows of offsets -/

/-- The offsets of `r` rows of `n` bytes at a pitch. -/
def rowsAt (a pitch n r : Nat) : List (List Nat) := (List.range r).map fun i => (List.range n).map fun j => a + i * pitch + j

/-- Rows and columns. -/
def grid (n r : Nat) : List (Nat × Nat) := List.range r ×ˢ List.range n

section
variable {a pitch n r : Nat}

theorem mem_grid {x : Nat × Nat} : x ∈ grid n r ↔ x.1 < r ∧ x.2 < n := by
  unfold grid
  rw [List.mem_product, List.mem_range, List.mem_range]

theorem rowsAt_flatten : (rowsAt a pitch n r).flatten = (grid n r).map fun x => a + x.1 * pitch + x.2 := by
  unfold rowsAt grid
  rw [← List.flatMap_def]
  show _ = List.map _ ((List.range r).flatMap fun i => (List.range n).map (Prod.mk i))
  rw [List.map_flatMap]
  simp only [List.map_map]
  rfl

theorem grid_nodup : (grid n r).Nodup := List.nodup_range.product List.nodup_range

end

/-- What a sound core's scratchpads hold after a copy of rows: the source's bytes, and every other byte as it was. -/
theorem Core.copied {k t : Core} (h : k.Sound) {ss ds sa da len rows sp dp : Nat}
    (hin : ∀ i, i < rows → da + i * dp + len ≤ spSize ds)
    (hrows : ∀ i j, i < j → j < rows → da + i * dp + len ≤ da + j * dp ∨ da + j * dp + len ≤ da + i * dp)
    (ht : t.sp = (k.write ds ((rowsAt da dp len rows).flatten.zip ((rowsAt sa sp len rows).flatten.map (k.byte ss)))).1.sp) :
    (∀ i a, i < rows → a < len → t.byte ds (da + i * dp + a) = k.byte ss (sa + i * sp + a)) ∧
    (∀ m o, o < spSize m → ¬(m = ds ∧ ∃ i, i < rows ∧ da + i * dp ≤ o ∧ o < da + i * dp + len) → t.byte m o = k.byte m o) := by
  have hz : (rowsAt da dp len rows).flatten.zip ((rowsAt sa sp len rows).flatten.map (k.byte ss)) =
      (grid len rows).map fun x => (da + x.1 * dp + x.2, k.byte ss (sa + x.1 * sp + x.2)) := by
    rw [rowsAt_flatten, rowsAt_flatten, List.map_map, List.zip_map']
    rfl
  have hb (m o : Nat) : t.byte m o = (k.write ds ((grid len rows).map fun x => (da + x.1 * dp + x.2, k.byte ss (sa + x.1 * sp + x.2)))).1.byte m o := by
    rw [← hz]
    exact congrArg (fun sp : Map Byte => Map.get sp 0 (spKey m o)) ht
  have hlt : ∀ e ∈ (grid len rows).map (fun x => (da + x.1 * dp + x.2, k.byte ss (sa + x.1 * sp + x.2))), e.1 < 0x100000 := fun e he => by
    obtain ⟨x, hx, rfl⟩ := List.mem_map.mp he
    obtain ⟨h1, h2⟩ := mem_grid.mp hx
    have := hin x.1 h1
    have := spSize_le ds
    dsimp only
    omega
  have hnd : (((grid len rows).map (fun x => (da + x.1 * dp + x.2, k.byte ss (sa + x.1 * sp + x.2)))).map Prod.fst).Nodup := by
    rw [List.map_map]
    refine List.Nodup.map_on (fun x hx y hy he => ?_) grid_nodup
    obtain ⟨hx1, hx2⟩ := mem_grid.mp hx
    obtain ⟨hy1, hy2⟩ := mem_grid.mp hy
    have he : da + x.1 * dp + x.2 = da + y.1 * dp + y.2 := he
    rcases Nat.lt_trichotomy x.1 y.1 with hlt | heq | hlt
    · have := hrows _ _ hlt hy1
      omega
    · rw [heq] at he
      exact Prod.ext heq (by omega)
    · have := hrows _ _ hlt hx1
      omega
  refine ⟨fun i a hi ha => ?_, fun m o ho hn => ?_⟩
  · rw [hb]
    exact Core.byte_write_mem h hlt hnd (e := (da + i * dp + a, k.byte ss (sa + i * sp + a)))
      (List.mem_map.mpr ⟨(i, a), mem_grid.mpr ⟨hi, ha⟩, rfl⟩)
  · rw [hb]
    refine Core.byte_write_ne h hlt (ho.trans_le (spSize_le m)) fun ⟨hm, hmem⟩ => hn ⟨hm, ?_⟩
    rw [List.map_map] at hmem
    obtain ⟨x, hx, rfl⟩ := List.mem_map.mp hmem
    obtain ⟨h1, h2⟩ := mem_grid.mp hx
    exact ⟨x.1, h1, by dsimp only [Function.comp]; omega, by dsimp only [Function.comp]; omega⟩

/-! ## The plan of a copy -/

section
variable {d : Dev} {k n i : Nat} {c : Cmd}

theorem both_ok {α β : Type} (x : α) (y : β) : both (.ok x) (.ok y) = .ok (x, y) := rfl

theorem Dev.place_sp (d : Dev) (e : Eng) {m a n : Nat} (hm : m < 4) (hn : n ≠ 0) (h : a + n ≤ spSize m) :
    d.place e m a n = .ok (spAt e.n m ((List.range n).map fun j => a + j)) := by
  unfold Dev.place
  rw [if_neg hn, if_pos hm, if_pos h]
  unfold spAt
  rw [List.map_map]
  rfl

theorem Dev.placeRows_sp (d : Dev) (e : Eng) {m a n pitch r : Nat} (hm : m < 4) (hn : n ≠ 0) (h : ∀ i, i < r → a + i * pitch + n ≤ spSize m) :
    d.placeRows e m a n pitch r = .ok ((rowsAt a pitch n r).map (spAt e.n m)) := by
  unfold Dev.placeRows rowsAt
  have hl : ∀ i ∈ List.range r, a + i * pitch + n ≤ spSize m := fun i hi => h i (List.mem_range.mp hi)
  generalize List.range r = l at hl
  induction l with
  | nil => rfl
  | cons i l ih =>
    rw [List.foldr_cons, ih fun j hj => hl j (List.mem_cons_of_mem _ hj), Dev.place_sp d e hm hn (hl i List.mem_cons_self)]
    rfl

/-- The checks on places pass for rows of two scratchpads that share no byte. -/
theorem Dev.placesOk_sp (d : Dev) (e : Eng) {ss ds : Nat} (so os : List (List Nat)) (h : ss ≠ ds ∨ ∀ x ∈ so.flatten, x ∉ os.flatten) :
    d.placesOk e (so.map (spAt e.n ss)) (os.map (spAt e.n ds)) = .ok () := by
  have htable : ((os.map (spAt e.n ds)).flatten.any fun p => match p.2 with | .hbm x => (d.tableAt x).isSome | _ => false) = false := by
    rw [List.any_eq_false, spAt_flatten]
    intro x hx
    obtain ⟨o, -, rfl⟩ := List.mem_map.mp hx
    exact Bool.false_ne_true
  have hmeets : meets (so.map (spAt e.n ss)).flatten (os.map (spAt e.n ds)).flatten = false := by
    rw [spAt_flatten, spAt_flatten]
    refine meets_apart fun x hx y hy s hs hs' => ?_
    obtain ⟨o, ho, rfl⟩ := List.mem_map.mp hx
    obtain ⟨o', ho', rfl⟩ := List.mem_map.mp hy
    have heq := hs.trans hs'.symm
    simp only [Loc.spot, Option.some.injEq, Prod.mk.injEq] at heq
    obtain ⟨hm, rfl⟩ := heq
    rcases h with h | h
    · exact h (by omega)
    · exact h o ho ho'
  have hadd : addAligned (os.map (spAt e.n ds)) = true := by
    refine List.all_eq_true.mpr fun r hr => ?_
    obtain ⟨l, -, rfl⟩ := List.mem_map.mp hr
    cases l <;> rfl
  unfold Dev.placesOk
  extract_lets table
  have ht : table = false := (congrArg (decide (d.engWho e = Who.priv) && ·) htable).trans (Bool.and_false _)
  rw [hmeets, hadd, ht]
  rfl

/-! ## The plan carried out -/

/-- Places in scratchpads of an awake core that is not being zeroised do not wait. -/
theorem Dev.memWait_sp {e : Eng} (ps : List (Nat × Nat)) (ha : d.get (K.DOM_STATE k) = 0) (hz : d.zeroising k = false) :
    d.memWait e (ps.map fun x => (0, Loc.sp k x.1 x.2)) = none := by
  have hhomes : homes (ps.map fun x => (0, Loc.sp k x.1 x.2)) = [] := by
    unfold homes
    rw [List.filterMap_map]
    exact congrArg List.eraseDups (List.filterMap_eq_nil_iff.mpr fun _ _ => rfl)
  have hasleep : d.asleep (ps.map fun x => (0, Loc.sp k x.1 x.2)) = [] := by
    unfold Dev.asleep
    rw [hhomes, List.filterMap_map]
    refine congrArg List.eraseDups (List.filterMap_eq_nil_iff.mpr fun _ _ => if_neg ?_)
    rw [ha]
    decide
  have hshut : d.shut ((ps.map fun x => (0, Loc.sp k x.1 x.2)).map Prod.snd) = false := by
    refine List.any_eq_false.mpr fun l hl => ?_
    obtain ⟨p, hp, rfl⟩ := List.mem_map.mp hl
    obtain ⟨x, -, rfl⟩ := List.mem_map.mp hp
    show ¬d.zeroising k = true
    rw [hz]
    exact Bool.false_ne_true
  unfold Dev.memWait
  rw [hasleep, hhomes, hshut]
  rfl

theorem Dev.planHeld_sp {ss ds : Nat} {p : Plan} {so os : List Nat} (hr : p.runs.flatten = spAt k ss so) (hw : p.writes = spAt k ds os)
    (hread : ∀ o ∈ so, (d.core k).heldRead ss o = false) (hwrite : ∀ o ∈ os, (d.core k).heldWrite ds o = false) : d.planHeld p = none := by
  unfold Dev.planHeld
  rw [hr, hw]
  extract_lets by'
  have none_of (f : Core → Nat → Nat → Bool) (m : Nat) (l : List Nat) (h : ∀ o ∈ l, f (d.core k) m o = false) : by' f (spAt k m l) = none := by
    refine List.findSome?_eq_none_iff.mpr fun x hx => ?_
    obtain ⟨o, ho, rfl⟩ := List.mem_map.mp hx
    exact if_neg (by rw [h o ho]; exact Bool.false_ne_true)
  rw [none_of _ _ _ hread]
  exact none_of _ _ _ hwrite

/-- A copy whose places lie in a sound core's scratchpads, none of them held: its bytes are written as they were read. -/
theorem Dev.startPlan_copies (he : (eng 3 k).Inside) (hb : (d.ctx (eng 3 k)).busy = []) (hs : (d.core k).Sound) {p : Plan} {ss ds : Nat}
    {so : List (List Nat)} {os : List Nat} (hr : p.runs = so.map (spAt k ss)) (hw : p.writes = spAt k ds os) (hx : p.xform = .copy) (hfill : p.fill = [])
    (hm : d.memWait (eng 3 k) (p.runs.flatten ++ p.writes) = none) (hheld : d.planHeld p = none) (space off st : Nat) :
    (((d.startPlan (eng 3 k) c n p space off st).holdIssued (eng 3 k) i).core k).sp =
        ((d.core k).write ds (os.zip (so.flatten.map ((d.core k).byte ss)))).1.sp ∧
      Dev.Stored d ((d.startPlan (eng 3 k) c n p space off st).holdIssued (eng 3 k) i) := by
  obtain ⟨runs, xform, writes, fill, got, src, seen⟩ := p
  subst hr hw hx hfill
  obtain ⟨a, f, buf, hl, -, ht⟩ := Dev.startPlan_launches (c := c) (n := n) he hb hm space off st
  dsimp only at ht
  generalize hp : Plan.mk (so.map (spAt k ss)) Xform.copy (spAt k ds os) [] buf src seen = p at ht
  have hnear : nearby (so.map (spAt k ss)).flatten := by
    rw [spAt_flatten]
    exact nearby_spAt _ _ _
  obtain ⟨g, hg, hpl, -, -, hn⟩ := Dev.askPlan_flies hl.started rfl p (so.map (spAt k ss))
  have hu : Dev.Untouched a (a.askPlan (eng 3 k) f p (so.map (spAt k ss))).1 := by
    rw [Dev.askPlan_near f _ hnear]
    exact (a.setPlan_untouched _ _).trans (Dev.setFlight_untouched _ _ _)
  have hub := hl.untouched.trans hu
  generalize (a.askPlan (eng 3 k) f p (so.map (spAt k ss))).1 = b at hg hpl hub ht
  have hbs := hub.sound hs
  have hh : d.planHeld p = none := by
    rw [← hp]
    exact hheld
  have hgo : b.planGo (eng 3 k) = b.putBytes (eng 3 k) g p (so.flatten.map ((b.core k).byte ss)) false := by
    have hfree : ¬(!g.outs.isEmpty || (b.planHeld p).isSome) = true := by
      rw [hn hnear, Dev.planHeld_congr hub.passes, hh]
      exact Bool.false_ne_true
    unfold Dev.planGo
    rw [hpl, hg.flight]
    dsimp only
    rw [if_neg hfree, ← hp]
    dsimp only
    unfold Dev.planData
    rw [hpl, hg.flight, ← hp]
    dsimp only
    unfold Dev.planData2
    dsimp only
    rw [Dev.readRuns_sp hbs]
    rfl
  obtain ⟨hsp, hmem⟩ := Dev.putBytes_sp hbs g (p := p) ds os (by rw [← hp]) (so.flatten.map ((b.core k).byte ss))
  rw [ht, hgo]
  generalize b.putBytes (eng 3 k) g p (so.flatten.map ((b.core k).byte ss)) false = t at hsp hmem
  have hbyte : (b.core k).byte ss = (d.core k).byte ss := by
    funext o
    exact congrArg (fun sp : Map Byte => Map.get sp 0 (spKey ss o)) (hub.sp k)
  refine ⟨?_, (hub.stored.trans (.of_mem hmem)).trans (.holdIssued t _ i)⟩
  rw [(Dev.holdIssued_spared t _ i).sp, hsp, (Core.write_sound hbs _ _).2.2, (Core.write_sound hs _ _).2.2, hub.sp, hbyte]

end

/-! ## The two commands -/

section
variable {s : State} {k op n : Nat} {c : Cmd} {d : Dev}

theorem Issues.unzeroed (h : Issues s (eng 3 k) op c n d) : d.zeroising k = false := by
  obtain ⟨-, -, -, hcyc⟩ := h.goes
  have hk : k < 64 := (Eng.inside_of_ok h.unit).1
  have hq : (eng 3 k).quad = quadOf k := by
    show quadOf k % 4 = quadOf k
    unfold quadOf
    omega
  have hz : (d.core k).zeroTill ≤ d.issueCycle (eng 3 k) c.handle := by
    unfold Dev.issueCycle
    dsimp only
    rw [if_pos (show (eng 3 k).isCore = true from rfl)]
    exact (Nat.le_max_right _ _).trans (Nat.le_max_right _ _)
  rw [hq] at hcyc
  exact decide_eq_false (by omega)

/-- A copy of rows within a sound core, by the plan that its command makes. -/
theorem copy_copies {i : Instr} {es : List (List Nat)} (h : Issues s (eng 3 k) op c n d) (hb : (d.ctx (eng 3 k)).busy = [])
    (hes : d.exts (eng 3 k) c n = (.ok es, d)) (hs : (d.core k).Sound) (ha : d.get (K.DOM_STATE k) = 0)
    {mk : Dev → Cmd → Cmd → Except Nat (Plan × Nat)} {space : Cmd → Nat} (hx : exec i s = .next (s.setDev (s.dev.mvIssue k op mk space)))
    {ss ds sa da len rows sp dp off : Nat} {src : Option Nat}
    (hmk : mk d c { index := 0, words := es.headD [], handle := none } =
      .ok ({ straight ((rowsAt sa sp len rows).map (spAt k ss)) .copy ((rowsAt da dp len rows).map (spAt k ds)).flatten with src := src }, off))
    (hin : ∀ i, i < rows → da + i * dp + len ≤ spSize ds)
    (hrows : ∀ i j, i < j → j < rows → da + i * dp + len ≤ da + j * dp ∨ da + j * dp + len ≤ da + i * dp)
    (hheld : ∀ i a, i < rows → a < len → (d.core k).heldRead ss (sa + i * sp + a) = false ∧ (d.core k).heldWrite ds (da + i * dp + a) = false) :
    ∃ t, exec i s = .next t ∧ t.pending = s.pending ∧ t.sec = s.sec ∧
      (∀ i a, i < rows → a < len → (t.dev.core k).byte ds (da + i * dp + a) = (d.core k).byte ss (sa + i * sp + a)) ∧
      (∀ m o, o < spSize m → ¬(m = ds ∧ ∃ i, i < rows ∧ da + i * dp ≤ o ∧ o < da + i * dp + len) →
        (t.dev.core k).byte m o = (d.core k).byte m o) ∧
      t.dev.mem.cells = d.mem.cells ∧ t.dev.mem.acc = d.mem.acc := by
  have hd := h.move hb hes mk space
  rw [hmk] at hd
  dsimp only at hd
  generalize hp : ({ straight ((rowsAt sa sp len rows).map (spAt k ss)) .copy ((rowsAt da dp len rows).map (spAt k ds)).flatten with src := src } : Plan) = p at hd
  have hr : p.runs = (rowsAt sa sp len rows).map (spAt k ss) := by rw [← hp]; rfl
  have hw : p.writes = spAt k ds (rowsAt da dp len rows).flatten := by
    rw [← hp]
    exact spAt_flatten k ds _
  have hfree : d.planHeld p = none := by
    refine Dev.planHeld_sp (ss := ss) (ds := ds) (by rw [hr, spAt_flatten]) hw (fun o ho => ?_) fun o ho => ?_
    · rw [rowsAt_flatten] at ho
      obtain ⟨x, hx, rfl⟩ := List.mem_map.mp ho
      exact (hheld x.1 x.2 (mem_grid.mp hx).1 (mem_grid.mp hx).2).1
    · rw [rowsAt_flatten] at ho
      obtain ⟨x, hx, rfl⟩ := List.mem_map.mp ho
      exact (hheld x.1 x.2 (mem_grid.mp hx).1 (mem_grid.mp hx).2).2
  have hm : d.memWait (eng 3 k) (p.runs.flatten ++ p.writes) = none := by
    have hps : p.runs.flatten ++ p.writes = ((rowsAt sa sp len rows).flatten.map (Prod.mk ss) ++ (rowsAt da dp len rows).flatten.map (Prod.mk ds)).map
        fun x => (0, Loc.sp k x.1 x.2) := by
      rw [hr, hw, spAt_flatten, List.map_append, List.map_map, List.map_map]
      rfl
    rw [hps]
    exact Dev.memWait_sp _ ha h.unzeroed
  obtain ⟨space', off', hd⟩ : ∃ space' off', s.dev.mvIssue k op mk space =
      (d.startPlan (eng 3 k) c n p space' off' stOK).holdIssued (eng 3 k) c.index := by
    split at hd
    · exact ⟨_, _, hd⟩
    · exact ⟨_, _, hd⟩
  obtain ⟨hsp, hst⟩ := Dev.startPlan_copies (c := c) (n := n) (i := c.index) (Eng.inside_of_ok h.unit) hb hs hr hw (by rw [← hp]; rfl)
    (by rw [← hp]; rfl) hm hfree space' off' stOK
  rw [← hd] at hsp hst
  obtain ⟨hcopy, hother⟩ := Core.copied hs hin hrows hsp
  exact ⟨_, hx, s.setDev_pending _, s.setDev_sec _, hcopy, hother, hst⟩

theorem rowsAt_apart {a b p q n r : Nat} (h : ∀ i j, i < r → j < r → a + i * p + n ≤ b + j * q ∨ b + j * q + n ≤ a + i * p) :
    ∀ x ∈ (rowsAt a p n r).flatten, x ∉ (rowsAt b q n r).flatten := fun x hx hy => by
  rw [rowsAt_flatten] at hx hy
  obtain ⟨y, hy', rfl⟩ := List.mem_map.mp hx
  obtain ⟨z, hz', he⟩ := List.mem_map.mp hy
  obtain ⟨hy1, hy2⟩ := mem_grid.mp hy'
  obtain ⟨hz1, hz2⟩ := mem_grid.mp hz'
  have := h y.1 z.1 hy1 hz1
  omega

theorem baseOf_unused (c : Cmd) (m a : Nat) : baseOf c false m a = .ok a := rfl

theorem rowsAt_one (m a n : Nat) : (rowsAt a 0 n 1).map (spAt k m) = [spAt k m ((List.range n).map fun j => a + j)] := by simp [rowsAt]

/-- The plan of an MV_COPY between scratchpads of its core (R249). -/
theorem planCopy_sp {ss ds sa da len : Nat} (hss : ss = bits (c.w 2) 31 28) (hds : ds = bits (c.w 2) 27 24) (hsa : sa = c.pair 4)
    (hda : da = c.pair 6) (hlen : len = bits (c.w 3) 23 0 + 1) (h14 : c.flag 14 = false) (h13 : c.flag 13 = false) (h4 : ss < 4) (h4' : ds < 4)
    (hs : sa + len ≤ spSize ss) (ht : da + len ≤ spSize ds) (hapart : ss ≠ ds ∨ sa + len ≤ da ∨ da + len ≤ sa) :
    ∃ src off, d.planCopy (eng 3 k) c =
      .ok ({ straight ((rowsAt sa 0 len 1).map (spAt k ss)) .copy ((rowsAt da 0 len 1).map (spAt k ds)).flatten with src := src }, off) := by
  have hn : len ≠ 0 := by omega
  have hok := d.placesOk_sp (eng 3 k) (ss := ss) (ds := ds) (rowsAt sa 0 len 1) (rowsAt da 0 len 1)
    (hapart.imp_right fun h => rowsAt_apart fun i j _ _ => by omega)
  change d.placesOk (eng 3 k) ((rowsAt sa 0 len 1).map (spAt k ss)) ((rowsAt da 0 len 1).map (spAt k ds)) = _ at hok
  rw [rowsAt_one, rowsAt_one] at hok ⊢
  unfold Dev.planCopy
  rw [← hss, ← hds, ← hsa, ← hda, ← hlen, h14, h13]
  dsimp only
  rw [baseOf_unused, baseOf_unused]
  dsimp only [baseAt]
  rw [d.place_sp _ h4 hn hs, d.place_sp _ h4' hn ht]
  dsimp only [both]
  rw [show (eng 3 k).n = k from rfl, hok, List.flatten_singleton]
  exact ⟨_, _, rfl⟩

/-- The plan of an MV_COPY2D between scratchpads of its core (R251). -/
theorem planCopy2d_sp {x : Cmd} {ss ds sa da len rows sp dp : Nat} (hss : ss = bits (c.w 2) 31 28) (hds : ds = bits (c.w 2) 27 24)
    (hsa : sa = c.pair 4) (hda : da = c.pair 6) (hlen : len = bits (c.w 3) 23 0 + 1) (hrows : rows = bits (x.w 2) 31 16 + 1) (hsp : sp = x.w 4)
    (hdp : dp = x.w 5) (h14 : c.flag 14 = false) (h13 : c.flag 13 = false) (h4 : ss < 4) (h4' : ds < 4)
    (hin : ∀ i, i < rows → sa + i * sp + len ≤ spSize ss ∧ da + i * dp + len ≤ spSize ds)
    (hapart : ss ≠ ds ∨ (∀ i j, i < rows → j < rows → sa + i * sp + len ≤ da + j * dp ∨ da + j * dp + len ≤ sa + i * sp)) :
    ∃ off, d.planCopy2d (eng 3 k) c x =
      .ok (straight ((rowsAt sa sp len rows).map (spAt k ss)) .copy ((rowsAt da dp len rows).map (spAt k ds)).flatten, off) := by
  have hn : len ≠ 0 := by omega
  have hok := d.placesOk_sp (eng 3 k) (ss := ss) (ds := ds) (rowsAt sa sp len rows) (rowsAt da dp len rows)
    (hapart.imp_right rowsAt_apart)
  unfold Dev.planCopy2d
  rw [← hss, ← hds, ← hsa, ← hda, ← hlen, ← hrows, ← hsp, ← hdp, h14, h13]
  dsimp only
  rw [baseOf_unused, baseOf_unused]
  dsimp only [baseAt]
  rw [d.placeRows_sp _ h4 hn fun i hi => (hin i hi).1, d.placeRows_sp _ h4' hn fun i hi => (hin i hi).2]
  dsimp only [both]
  rw [hok]
  exact ⟨_, rfl⟩

end

/-- Settles O53: the plan of a copy reads its source's bytes as they were, and writes them and no other. -/
theorem copyCopies : Obligations.CopyCopies := by
  refine ⟨fun s k c n d ss ds sa da len h hb hp hf ha hn hss hds hsa hda hlen h14 h13 h4 h4' hs ht hapart hheld => ?_,
    fun s k c n d es x ss ds sa da len rows sp dp h hb hes hx hp hf ha hss hds hsa hda hlen hr hsp hdp h14 h13 h4 h4' hin hrows hapart hheld => ?_⟩
  · have hes : d.exts (eng 3 k) c n = (.ok [], d) := by
      rw [hn]
      rfl
    have hx : exec (.mvCopy k) s = .next (s.setDev (s.dev.mvIssue k 0x10 (fun d cmd _ => d.planCopy (eng 3 k) cmd) fun cmd => bits (cmd.w 2) 27 24)) :=
      onUnit_next (f := fun d => d.mvCopy k) (decide_eq_true (Eng.inside_of_ok h.unit).1) h.live
    obtain ⟨src, off, hplan⟩ := planCopy_sp (d := d) (k := k) hss hds hsa hda hlen h14 h13 h4 h4' hs ht hapart
    obtain ⟨t, he, hpend, hsec, hcopy, hother, hmem⟩ := copy_copies h hb hes ⟨hp, hf⟩ ha hx hplan (fun i _ => by omega) (fun i j _ _ => by omega)
      (fun i a hi hla => by
        obtain rfl : i = 0 := by omega
        simpa using hheld a hla)
    refine ⟨t, he, hpend, hsec, fun i hi => ?_, fun m o ho hn => hother m o ho fun ⟨hm, i, hi, h1, h2⟩ => hn ⟨hm, by omega, by omega⟩, hmem⟩
    simpa using hcopy 0 i Nat.one_pos hi
  · subst hx
    have hx : exec (.mvCopy2d k) s = .next (s.setDev (s.dev.mvIssue k 0x11 (fun d cmd x => d.planCopy2d (eng 3 k) cmd x) fun cmd => bits (cmd.w 2) 27 24)) :=
      onUnit_next (f := fun d => d.mvCopy2d k) (decide_eq_true (Eng.inside_of_ok h.unit).1) h.live
    obtain ⟨off, hplan⟩ := planCopy2d_sp (d := d) (k := k) hss hds hsa hda hlen hr hsp hdp h14 h13 h4 h4' hin hapart
    exact copy_copies (src := none) h hb hes ⟨hp, hf⟩ ha hx hplan (fun i hi => (hin i hi).2) hrows hheld
end Sys2Proof.Machine
end

section
/-! Proofs: the end of a vector command (R225) writes back the core from before its context moved, so that the command stays in flight. -/
namespace Sys2Proof.Machine

/-- A vector command whose cycles have run. -/
def ranFlight : InFlight :=
  { index := 0, op := 0x10, tick := 0, sig := 255, status := 0, space := 3, offset := 0, gen := 0, late := false, start := 0, cost := 0,
    grans := [], outs := [], attempt := 0 }

/-- Its job, every beat of which has run. -/
def ranJob : VxJob :=
  { op := 0x10, words := [], waitQ := 255, handle := none, prog := [], vlen := 0, next := 0, base := 0, part := [], bad := [], overlap := false }

/-- The state after reset with that command in flight in the vector engine of core 0. -/
def ranState : State :=
  let d := Dev.init.setCore 0 { Dev.init.core 0 with vx := some ranJob }
  { State.reset with dev := d.setCtx (eng 2 0) { EngCtx.init with busy := [ranFlight] } }

/-- Its end leaves it in flight. -/
theorem ran_stays : (match exec (.vxComplete 0 0) ranState with
    | .next t => decide ((t.dev.ctx (eng 2 0)).busy = [ranFlight]) && (t.dev.core 0).vx.isNone
    | _ => false) = true := by decide +kernel

/-- Refutes O50: VX_COMPLETE takes the command off its engine's context and then stores the core as it was before, context and all. -/
theorem not_issuedCommandsEnd : ¬ Obligations.IssuedCommandsEnd := by
  rintro ⟨-, hvector, -⟩
  obtain ⟨t, hx, -, -, hbusy, -⟩ := (hvector ranState 0 0 ranFlight [] ranJob (by decide) (by decide +kernel) (by decide +kernel)
    (by decide +kernel)).2 (by decide +kernel) (by decide +kernel) (by decide +kernel) (by decide +kernel)
  have hs := ran_stays
  rw [hx] at hs
  simp only [hbusy] at hs
  cases hs

end Sys2Proof.Machine
end
